-- ==== Sys2Proof/Word.lean ====
section
/-! DEFINITION. The words of the part: a register is 32 bits wide (R3), a memory cell is a byte. -/
namespace Sys2Proof

/-- A register word (R3). -/
abbrev Word := BitVec 32

/-- A byte of a buffer or of a frame. -/
abbrev Byte := BitVec 8

end Sys2Proof
end

