-- ==== Sys2Proof/Machine/Packet.lean ====
section
/-! DEFINITION. A command packet as the host writes it into B0 (R580): the header fields and the parameter bytes. -/
namespace Sys2Proof.Machine

/-- A command packet (R580) without its opcode: TAG, IFVER, FLAGS, TARGET, the LENGTH bytes of parameters and the
CRC-32C the host put into word 3. -/
structure Packet where
  tag : BitVec 16
  ifver : BitVec 8
  flags : BitVec 8
  target : Word
  params : List Byte
  crc : Word
  deriving DecidableEq, Repr

end Sys2Proof.Machine
end

