-- ==== Sys2Proof/Machine/Operand.lean ====
section
/-! DEFINITION. Operand types of the commands: what the surroundings bring to an event. -/
namespace Sys2Proof.Machine

/-- What self-calibration measured of one channel, in splice units: offsets of A, of B at gain 32 and of B at gain 1,
the three spans between the two references, and FDLY in 1/256 period (R97, R98). -/
structure CalMeas where
  ofsA : Int := 0
  ofsB32 : Int := 0
  ofsB1 : Int := 0
  spanA : Nat := 5242880
  spanB32 : Nat := 163840
  spanB1 : Nat := 5242880
  fdly : Int := 0
  deriving DecidableEq, Repr

/-- What a path diagnosis measured of a channel: offsets in uV, noise in uV rms, gain errors in ppm (R110). -/
structure DiagMeas where
  ofsA : Int := 0
  ofsB1 : Int := 0
  ofsB32 : Int := 0
  noiseA : Nat := 0
  noiseB1 : Nat := 0
  noiseB32 : Nat := 0
  gainA25 : Int := 0
  gainA1 : Int := 0
  gainB32 : Int := 0
  gainB1 : Int := 0
  deriving DecidableEq, Repr

/-- What self-calibration measured of a housekeeping converter: O_cal in LSB, G_cal in Q2.22, and the corrected reading
of the 0.500 V reference (R145, R146). -/
structure AuxCalMeas where
  ofs : Int := 0
  gain : Nat := 4194304
  lin : Nat := 13107
  deriving DecidableEq, Repr

/-- What a received frame carries below its application: port, device time at which its start-of-frame delimiter crossed
the reference plane (R204), MAC addresses, VLAN ID, APPID, security length, simulation bit, the sequence number and the
LAN or direction of its redundancy trailer or tag (R201), an FCS or length error, and its octets without FCS. -/
structure NetHead where
  port : Fin 2
  sfd : Nat
  src : Nat
  dst : Nat
  vlan : Option Nat := none
  appid : Nat := 0
  sec : Nat := 0
  sim : Bool := false
  red : Option (Nat × Nat) := none
  bad : Bool := false
  raw : List Byte := []
  deriving DecidableEq, Repr

/-- The quality of a sampled value (R221). `validity`: 0 good, 1 invalid, 2 reserved, 3 questionable. -/
structure SvQual where
  validity : Nat := 0
  overflow : Bool := false
  outOfRange : Bool := false
  badReference : Bool := false
  oscillatory : Bool := false
  failure : Bool := false
  oldData : Bool := false
  inconsistent : Bool := false
  inaccurate : Bool := false
  substituted : Bool := false
  test : Bool := false
  operatorBlocked : Bool := false
  deriving DecidableEq, Repr

/-- An ASDU of a sampled-value frame (R205). -/
structure SvAsdu where
  svId : List Byte
  smpCnt : Nat
  confRev : Nat
  smpSynch : Nat
  mem : List (Int × SvQual)
  deriving DecidableEq, Repr

/-- A sampled-value frame (R205). -/
structure SvFrame where
  hd : NetHead
  asdu : List SvAsdu
  deriving DecidableEq, Repr

/-- A member of a GOOSE data set (R223): a BOOLEAN, a BIT STRING (first bit first), or any other type. -/
inductive GMember where
  | bool (b : Bool)
  | bits (l : List Bool)
  | other
  deriving DecidableEq, Repr

/-- A GOOSE frame (R223, R224). `tal` is timeAllowedtoLive in ms. -/
structure GooseFrame where
  hd : NetHead
  ref : List Byte
  confRev : Nat
  ndsCom : Bool := false
  stNum : Nat
  sqNum : Nat
  tal : Nat
  mem : List GMember
  deriving DecidableEq, Repr

/-- A PTP Announce (R230 to R237): its domain, the grandmaster's clockClass, currentUtcOffset when it is valid, the leap flags, and
the state that the best-master selection of IEEE 1588 gives the port on it. -/
structure Announce where
  dom : Nat := 0
  cls : Nat
  utc : Option Nat := none
  leap61 : Bool := false
  leap59 : Bool := false
  st : Fin 8
  deriving DecidableEq, Repr

/-- A decoded IRIG-B frame (R239): time of year, two-digit year, and the IEEE 1344 control functions: time offset in half
hours, leap second pending and its sign (deletion), time-quality nibble. -/
structure IrigTime where
  sec : Nat
  min : Nat
  hour : Nat
  doy : Nat
  year : Nat := 0
  ofs : Int := 0
  lsp : Bool := false
  del : Bool := false
  tq : Nat := 0
  deriving DecidableEq, Repr

/-- A PTP Sync (R231, R236), with what its Follow_Up adds when it is two-step: its domain, its origin timestamp in ns of TAI, the sum of its
correctionFields in 2^-16 ns. -/
structure SyncMsg where
  dom : BitVec 8 := 0
  origin : Int
  corr : Int := 0
  deriving DecidableEq, Repr

/-- What a Pdelay_Resp brings, with its follow-up when it is two-step (R236): the stamps t2 of the request's receipt and t3 of the response's
departure, in ns of the peer's time, and the sum of the correctionFields in 2^-16 ns. -/
structure PdelayAns where
  t2 : Int
  t3 : Int
  corr : Int := 0
  deriving DecidableEq, Repr

/-- A Pdelay message (R236): its domain, and what a response brings; `none` for a request. -/
structure PdelayMsg where
  dom : BitVec 8 := 0
  ans : Option PdelayAns := none
  deriving DecidableEq, Repr

/-- A frame of the ring to forward (R201, R237): its source; for a PTP event message its correctionField in 2^-16 ns and the device
times at which it came and left. -/
structure RingFrame where
  src : BitVec 48
  ev : Option (Int × Nat × Nat) := none
  deriving DecidableEq, Repr

/-- An IRIG-B frame at the pin (R239): the widths of its 100 pulses in device-time units, and whether the pulses are low. -/
structure IrigRaw where
  w : List Nat
  low : Bool := false
  deriving DecidableEq, Repr

/-- The codes of the two modulators of a channel, one pair per modulator period (R59). -/
abbrev Codes := List (Int × Int)

/-- An edge of a line with a glitch filter (R413, R440): its device time, the level it goes to, and for how long the line keeps that level. -/
structure LineEdge where
  t : Nat
  lvl : Bool
  held : Nat
  deriving DecidableEq, Repr

/-- What the field pads and the supply show a readback frame: pads that read high by the thresholds of R393 and R399, outputs that limit, VFIELD
in mV, voltage and current of the measured channel. -/
structure PadView where
  pads : BitVec 32
  lim : BitVec 32
  vf : BitVec 16
  mv : BitVec 16
  ma : BitVec 16
  deriving DecidableEq, Repr

end Sys2Proof.Machine
end

