-- ==== Sys2Proof/Machine/Tab.lean ====
section
/-! DEFINITION. A sparse table of plain data: pairs of an index and a value, indices rising, with a default for the
indices not listed. Every array of the part (channels, bays, elements, knots, rows, berths) is held as one. -/
namespace Sys2Proof.Machine

/-- A sparse table: pairs of an index and a value. -/
abbrev Tab (α : Type) := List (Nat × α)

/-- The entry at an index, if one is listed. -/
def tfind {α : Type} : Tab α → Nat → Option α
  | [], _ => none
  | (k, v) :: r, i => if i = k then some v else if i < k then none else tfind r i

/-- The value at an index; an unlisted index has the default. -/
def tget {α : Type} (d : α) (t : Tab α) (i : Nat) : α := (tfind t i).getD d

/-- The table with the value at one index replaced. -/
def tset {α : Type} : Tab α → Nat → α → Tab α
  | [], i, v => [(i, v)]
  | (k, w) :: r, i, v =>
    if i = k then (i, v) :: r else if i < k then (i, v) :: (k, w) :: r else (k, w) :: tset r i v

/-- The table with one index unlisted. -/
def terase {α : Type} : Tab α → Nat → Tab α
  | [], _ => []
  | (k, w) :: r, i => if i = k then r else if i < k then (k, w) :: r else (k, w) :: terase r i

/-- The table with the value at one index passed through a function. -/
def tmod {α : Type} (d : α) (t : Tab α) (i : Nat) (f : α → α) : Tab α := tset t i (f (tget d t i))

/-- Run a state transformer over the members of a list, first member first. -/
def forL {σ α : Type} (l : List α) (f : α → σ → σ) (s : σ) : σ := l.foldl (fun s a => f a s) s

/-- Run a state transformer over 0 to n - 1. -/
def forN {σ : Type} (n : Nat) (f : Nat → σ → σ) (s : σ) : σ := forL (List.range n) f s

/-- The indices below `n` that a bit mask names. -/
def maskIdx (n m : Nat) : List Nat := (List.range n).filter fun i => m.testBit i

/-- The bit mask that names the listed indices. -/
def idxMask (l : List Nat) : Nat := l.foldl (fun m i => m ||| 2 ^ i) 0

/-- 1 for true, 0 for false. -/
def b2n (b : Bool) : Nat := if b then 1 else 0

/-- The value held between two bounds. -/
def clampI (x lo hi : Int) : Int := if x < lo then lo else if hi < x then hi else x

/-- An integer saturated to signed `w` bits. -/
def satI (w : Nat) (x : Int) : Int := clampI x (-(2 ^ (w - 1) : Nat)) ((2 ^ (w - 1) : Nat) - 1)

/-- Arithmetic right shift. -/
def asr (x : Int) (k : Nat) : Int := x / ((2 ^ k : Nat) : Int)

/-- Little-endian bytes of a number. -/
def leBytes : Nat → Nat → List (BitVec 8)
  | 0, _ => []
  | n + 1, v => BitVec.ofNat 8 v :: leBytes n (v / 256)

/-- The number that little-endian bytes spell. -/
def ofLe : List (BitVec 8) → Nat
  | [] => 0
  | b :: r => b.toNat + 256 * ofLe r

/-- The number that big-endian bytes spell. -/
def ofBe (l : List (BitVec 8)) : Nat := l.foldl (fun a b => a * 256 + b.toNat) 0

/-- Big-endian bytes of a number. -/
def beBytes (n v : Nat) : List (BitVec 8) := (leBytes n v).reverse

/-- The bytes of an ASCII string. -/
def ascii (x : String) : List (BitVec 8) := x.toList.map fun c => BitVec.ofNat 8 c.toNat

/-- Integer square root, rounded down: the largest r with r * r at most n (bit by bit, `fuel` bits). -/
def isqrtGo : Nat → Nat → Nat → Nat
  | 0, _, r => r
  | k + 1, n, r => isqrtGo k n (if (r + 2 ^ k) * (r + 2 ^ k) ≤ n then r + 2 ^ k else r)

/-- Integer square root, rounded down. -/
def isqrt (n : Nat) : Nat := isqrtGo (n.log2 / 2 + 1) n 0

/-- A 32-bit counter one higher, which saturates (R6). -/
def satInc (n : Nat) : Nat := min (n + 1) 0xFFFFFFFF

end Sys2Proof.Machine
end

