-- ==== Sys2Proof/Machine/StBase.lean ====
section
/-! DEFINITION. Pieces of state shared by several blocks: grid samples, tick records, a settings bank, command packets. -/
namespace Sys2Proof.Machine

/-- A grid sample: a signed 32-bit value with its sample status word (R47, R48), and whether its source marked it invalid
(R50), and whether its channel faded between banks over its taps (R196). -/
structure Smp where
  v : Int := 0
  ssw : Nat := 0
  inv : Bool := false
  fade : Bool := false
  deriving DecidableEq, Repr

/-- The inputs the scheme logic latches at a tick instant (R356): GOOSE inputs and their validity, field inputs and
theirs, the system signals, the fast detectors' outputs, and the bits of the latest readback frame (R424, R429). -/
structure Latched where
  gin : Tab Nat := []
  ginOk : Tab Nat := []
  din : Nat := 0
  dinOk : Nat := 0
  sys : Nat := 0
  fast : Nat := 0
  rb : Nat := 0
  deriving DecidableEq, Repr

/-- One tick of the protection grid as the device keeps it for windows, delays and replay (R17 to R20, R276, R510): index, instant in 2^-24
device-time units, period of its cycle, frequency applied, the samples delivered so far, the mapped process-bus channels whose sample is still
awaited, the inputs latched at the tick, time quality and TAI, the correction of each channel in ps (R38) and the channels for which it is clamped
(R39), whether samples carry FREQ_HOLD (R31), state and count of missing samples of each enabled stream (R508), whether the unit's role was
STANDBY (R274), the active-bank digest of each mapped local channel (R508), TAI - UTC and the TAI offset (R458, R463). `wait` lists the mapped
local channels too, until the chain has run far enough behind the tick (R43). -/
structure TickRec where
  n : Nat := 0
  t : Nat := 0
  per : Nat := 0
  freq : Nat := 0
  smp : Tab Smp := []
  wait : List Nat := []
  inp : Latched := {}
  tq : Nat := 0
  tai : Int := 0
  corr : Tab Int := []
  clamp : List Nat := []
  hold : Bool := false
  sv : Tab (Nat × Nat) := []
  stby : Bool := false
  dig : Tab Nat := []
  utc : Nat := 0
  ofs : Int := 0
  deriving DecidableEq, Repr

/-- A value that MRAM keeps in two alternating copies, each with a CRC: the newer copy and the older one, `none` for a copy that was never
written or whose CRC fails. -/
structure TwoCopies (α : Type) where
  newer : Option α := none
  older : Option α := none
  deriving DecidableEq, Repr

/-- The newer good copy. -/
def TwoCopies.good {α : Type} (c : TwoCopies α) : Option α := match c.newer with | some v => some v | none => c.older
/-- A write goes over the copy that is not the newer good one. -/
def TwoCopies.put {α : Type} (c : TwoCopies α) (v : α) : TwoCopies α := { newer := some v, older := c.good }
/-- The copies as start-up finds them: bit 0 says that the newer copy is bad, bit 1 the older. -/
def TwoCopies.found {α : Type} (c : TwoCopies α) (bad : BitVec 2) : TwoCopies α :=
  { newer := if bad.getLsbD 0 then none else c.newer, older := if bad.getLsbD 1 then none else c.older }

/-- The older copy stands where the newer could not be written (R631). -/
def TwoCopies.keepOlder {α : Type} (c : TwoCopies α) : TwoCopies α := if c.older.isSome then { newer := none, older := c.older } else c

/-- A settings bank (R534): register words (the words of group g under address + (g + 1) * 2^24), knots of eight
words, user-curve words, GOOSE template words and label words. An absent word stands at its reset value. -/
structure Bank where
  words : Tab Nat := []
  knots : Tab (List Nat) := []
  curves : Tab Nat := []
  tmpl : Tab Nat := []
  labels : Tab Nat := []
  deriving DecidableEq, Repr

/-- A value over ticks, newest first: from each tick listed on, the value beside it. -/
abbrev Trace := List (Nat × Nat)

/-- The value in force at tick `n`; 0 before the first change kept. -/
def Trace.at' (l : Trace) (n : Nat) : Nat := ((l.find? fun x => decide (x.1 ≤ n)).map (·.2)).getD 0
/-- The newest value. -/
def Trace.now (l : Trace) : Nat := (l.head?.map (·.2)).getD 0
/-- The trace with a value from tick `n` on. -/
def Trace.push (l : Trace) (n v : Nat) : Trace :=
  let l := l.dropWhile fun x => decide (n ≤ x.1)
  if Trace.now l = v then l else ((n, v) :: l).take 256

end Sys2Proof.Machine
end

