-- ==== Sys2Proof/Machine/StElm.lean ====
section
/-! DEFINITION. State of the elements, knots, trip-matrix rows, fast detectors and bays (R246 to R383). -/
namespace Sys2Proof.Machine

/-- One phase of an overcurrent element (R285): picked up, acc in 2^-40, el and hold in device-time units. -/
structure OcPhase where
  up : Bool := false
  acc : Nat := 0
  el : Nat := 0
  hold : Nat := 0
  deriving DecidableEq, Repr

/-- What an element of each kind keeps between ticks. Overcurrent: phases, stored V1 and its age in ticks (R285, R299).
Level: conditions, was, tm, hold (R319, R320). Thermal: θ, Ih, OP, ALARM (R324, R325). Harmonic: per phase BLK, restraint present at
the latest tick, time since it was absent, time BLK has been 1, forced off (R328). CLP: state, timer, time below IREST
(R331). BF: was and t (R334). AR: state, s, timer, latest reason (R337). SYNC: time for which LLOK or DEADOK has held
(R340). -/
inductive ElmSt where
  | oc (ph : List OcPhase) (mem : Option (Int × Int × Nat)) (age : Nat)
  | lv (cond : List Bool) (was : Bool) (tm hold : Nat)
  | th (theta ih : Rat) (op alarm : Bool)
  | hr (blk was : List Bool) (ext on : List Nat) (rel : List Bool)
  | clp (st timer fast : Nat)
  | bf (was : Bool) (t : Nat)
  | ar (st s timer reason : Nat)
  | sy (on : Bool) (t : Nat)
  deriving DecidableEq, Repr

/-- An element: its state and its ELM_OUT over ticks. -/
structure Elm where
  st : ElmSt
  out : Trace := []
  deriving DecidableEq, Repr

/-- A knot (R358, R359): latch, wv, q, the three timers, and its output over ticks. -/
structure Knot where
  l : Bool := false
  wv : Bool := false
  q : Bool := false
  ton : Nat := 0
  toff : Nat := 0
  tp : Nat := 0
  out : Trace := []
  deriving DecidableEq, Repr

/-- A trip-matrix row (R363): cmd, lat, fh, pt, counting; drive at the latest evaluation; a host reset written since then;
the force in effect (R368); its command after any force, over ticks; `com` the cmd, fh, pt and counting that the latest evaluation
committed, when a fast detector has changed them since (R364, R504). -/
structure Row where
  cmd : Bool := false
  lat : Bool := false
  fh : Bool := false
  pt : Nat := 0
  counting : Bool := false
  drv : Bool := false
  hr : Bool := false
  force : Option Bool := none
  out : Trace := []
  com : Option (Bool × Bool × Nat × Bool) := none
  deriving DecidableEq, Repr

/-- A fast detector (R371 to R376): picked up; count of consecutive samples; c of R372; the strobe (2^-32 units) up to which it
has seen its channel's base-rate samples; the strobe from which a restart applies; whether it was picked up at a strobe
since the latest target; the first tick whose target its samples have not passed; what its latest sample brought (1 pickup, 2
dropout). -/
structure FastDet where
  up : Bool := false
  count : Nat := 0
  c : Rat := 0
  seen : Nat := 0
  restart : Option Nat := none
  hot : Bool := false
  tick : Nat := 0
  fired : Nat := 0
  deriving DecidableEq, Repr

/-- A bay (R254 to R260, R343): runs, next tick to evaluate, next tick to measure, whether the next evaluation is its first, shed and the device
time of the boundary from which it is, the tick at which it stops once it has evaluated the ticks before it (R259), group in force plus 1 over
ticks (0 before the first), wanted group and for how many ticks, the tick from which its frequency reference is new, f_b in uHz of the ticks
measured that have one, newest first (R322). -/
structure BaySt where
  run : Bool := false
  next : Nat := 0
  meas : Nat := 0
  first : Bool := true
  shed : Bool := false
  shedAt : Nat := 0
  stopAt : Option Nat := none
  grp : Trace := []
  want : Nat := 0
  cnt : Nat := 0
  fref : Option Nat := none
  fbs : List (Nat × Nat) := []
  deriving DecidableEq, Repr

/-- Elements, knots, rows, fast detectors and bays. `chg` lists the bays that have still to evaluate ticks from before the latest swap
tick, and take the new bank after them (R558). `ev` notes the happenings of the evaluation in progress: kind and instance. -/
structure EvalSt where
  elm : Tab Elm := []
  knot : Tab Knot := []
  row : Tab Row := []
  fp : Tab FastDet := []
  bay : Tab BaySt := []
  chg : List Nat := []
  ev : List (Nat × Nat) := []
  deriving DecidableEq, Repr

end Sys2Proof.Machine
end

