-- ==== Sys2Proof/Machine/StRec.lean ====
section
/-! DEFINITION. State of the disturbance recorders and of the record store (R427 to R466). -/
namespace Sys2Proof.Machine

/-- A record sample (R430, R437): index, instant in 2^-24 units, the latest tick at or before it, the analog values with their
SSWs, the binary values as a mask; `gap`: it was skipped (R447); `utc` and `ofs` TAI - UTC and the TAI offset at its tick (R458, R463). -/
structure RecSmp where
  j : Nat
  t : Nat
  n : Nat
  an : List (Int × Nat) := []
  bin : Nat := 0
  gap : Bool := false
  utc : Nat := 0
  ofs : Int := 0
  deriving DecidableEq, Repr

/-- A buffer block (R432, R433, R448): its first sample, the number of samples, the SSWs and binary values at its first sample, its change
entries, whether it is complete, whether it has drained and the CRC-32C that it was then written with (R451). -/
structure RecBlk where
  first : Nat
  cnt : Nat := 0
  ssw : List Nat := []
  bin : Nat := 0
  chgs : List Nat := []
  closed : Bool := false
  drained : Bool := false
  crc : Nat := 0
  deriving DecidableEq, Repr

/-- A trigger (R439, R440): T_trig in 2^-24 units, sources as a mask; the delay E - T_trig in 2^-24 units when it was latched in
REARM, and in ticks (R446). -/
structure RecTrig where
  t : Nat
  src : Nat
  delay : Option (Nat × Nat) := none
  deriving DecidableEq, Repr

/-- The settings of an instance that a record keeps: NA, NB, N, scales and uses of the analog signals (FD, CUR, SCALE),
thresholds, the angle reference, PRE_S, POST_S. -/
structure RecCfg where
  na : Nat := 0
  nb : Nat := 0
  n : Nat := 0
  an : List (Bool × Bool × Nat) := []
  dth : Nat := 0
  cth : Nat := 0
  ang : Option Nat := none
  preS : Nat := 0
  postS : Nat := 0
  fnom : Nat := 0
  deriving DecidableEq, Repr

/-- The measurements of a record (R452, R453, R455): inception sample, fault duration in us, inception angle in 0.01 degree, the
20-byte entries of the channels as five words each. -/
structure RecMeas where
  jinc : Nat := 0
  dur : Nat := 0
  angle : Nat := 0
  ch : List (List Nat) := []
  deriving DecidableEq, Repr

/-- A record (R441 to R460). `t` T_trig in 2^-24 units with its TAI and time quality; `skew` in ns; `first` and `last` its samples;
`smp` its samples, newest first, with the gaps; `gaps`: first sample, length, tick; `closed` and `done`: closed, committed;
`replay` its first and last replayed
ticks; `binFrom` the first sample with classes 1, 2 and 7 evaluated; `drainTo` the first sample not yet in the store, `size` the
bytes there and `crcs` its blocks there, by first sample, with their CRC-32C. -/
structure Record where
  id : Nat
  inst : Nat
  cfg : RecCfg
  flags : Nat := 0
  stop : Nat := 0
  src : Nat := 0
  t : Nat := 0
  tai : Int := 0
  tq : Nat := 0
  j0 : Nat := 0
  tick : Nat := 0
  skew : Nat := 0
  preA : Nat := 0
  first : Nat := 0
  last : Nat := 0
  smp : List RecSmp := []
  gaps : List (Nat × Nat × Nat) := []
  retrig : Nat := 0
  delayNs : Nat := 0
  delayTicks : Nat := 0
  pred : Nat := 0
  freq : Nat := 0
  labels : List Nat := []
  dig : Nat := 0
  replay : Option (Nat × Nat) := none
  binFrom : Option Nat := none
  drainTo : Nat := 0
  size : Nat := 0
  crcs : Tab Nat := []
  closed : Bool := false
  done : Bool := false
  meas : RecMeas := {}
  deriving DecidableEq, Repr

/-- An instance (R436 to R447). `st` its state; `hist` its history, newest first, with skipped samples; `blk` its blocks, newest first; `next` the
next sample; `skip` samples of a gap still to skip and `gap` the length of the gap in progress; `cur` the running record; `trig` triggers not yet
processed; `tick` the next tick to look for edges at; `rearm` start and end of the latest REARM in 2^-24 units; `ahead` the analog values of
record samples not yet captured, as far as their taps have come (R43, R46); `chg` the swap tick from which the instance's settings are new, while
samples before it are still to be captured (R463). -/
structure RecInst where
  st : Nat := 0
  hist : List RecSmp := []
  blk : List RecBlk := []
  next : Nat := 0
  skip : Nat := 0
  gap : Option Nat := none
  cur : Option Record := none
  trig : List RecTrig := []
  tick : Nat := 0
  rearm : Option (Nat × Nat) := none
  ahead : Tab (List (Option (Int × Nat))) := []
  chg : Option Nat := none
  deriving DecidableEq, Repr

/-- An export (R461, R462): record, berth, chunks still to write as bytes. -/
structure RecExport where
  id : Nat
  berth : Nat
  chunks : List (List (BitVec 8))
  deriving DecidableEq, Repr

/-- The recorders. `closing` closed records not yet committed; `drain` the second in progress, the KB drained in it and in the second before;
`busOut` the end of TRIG_BUS's low pulse, `busLow` the end of the line's latest low; `exporting` the export that runs; `firstTick` the first tick
this unit evaluated after a takeover, `replayed` the first and last tick it replayed (R466); `draining` the instance whose block drains now and
`served` the one before it (R448). -/
structure RecSt where
  inst : Tab RecInst := []
  closing : List Record := []
  drain : Nat × Nat × Nat := (0, 0, 0)
  busOut : Option Nat := none
  busLow : Nat := 0
  exporting : Option RecExport := none
  firstTick : Option Nat := none
  replayed : Option (Nat × Nat) := none
  draining : Option Nat := none
  served : Nat := 3
  deriving DecidableEq, Repr

/-- The record store and the sequence of record IDs (R449, R450): committed records, newest first; bytes drained so far. -/
structure RecNv where
  recs : List Record := []
  seq : Nat := 1
  bytes : Nat := 0
  deriving DecidableEq, Repr

end Sys2Proof.Machine
end

