-- ==== Sys2Proof/Machine/StPair.lean ====
section
/-! DEFINITION. State of the redundant pair, and the frames of the Lumko link as operands (R488 to R533). -/
namespace Sys2Proof.Machine

/-- The header of a Lumko frame but for TYPE and LENGTH (R491): VER and the frame sequence number. -/
structure LkHead where
  ver : Nat
  seq : Nat
  deriving DecidableEq, Repr

/-- A Lumko frame but for its TYPE (R491): header and payload. -/
structure LkFrame extends LkHead where
  pay : List (BitVec 8)
  deriving DecidableEq, Repr

/-- A lane of the link loses symbol lock at device time `t` (R491): lanes 0 and 1 of the receiving direction, 2 and 3 of the sending one. -/
structure LaneEdge where
  t : Nat
  lane : Fin 4
  deriving DecidableEq, Repr

/-- The payload of a HELLO (R493): versions offered (bit 0 version 1, bit 1 version 2), rank, serial number, firmware version,
settings digest. -/
structure Hello where
  vers : Nat
  rank : Nat
  serial : Nat := 0
  fw : Nat := 0
  dig : Nat
  deriving DecidableEq, Repr

/-- The payload of a HEARTBEAT (R494), its fields in order: role, rank, READY, ASSERT, handover in progress; claim word; NOT_READY mask;
send stamp, echo, dwell; tick completed and its device time; newest snapshot sent; settings digest; input summary digest;
proof-cycle result; partner's claim word; handover code. -/
structure Heartbeat where
  role : Nat
  rank : Nat
  ready : Bool
  assert_ : Bool
  ho : Bool
  word : Nat
  nr : Nat
  s : Nat
  e : Nat
  w : Nat
  tickN : Nat
  tickAt : Nat
  snap : Nat
  dig : Nat
  inDig : Nat
  proof : Nat
  pSeen : Nat
  code : Nat := 0
  deriving DecidableEq, Repr

/-- A bay in a snapshot (R350, R505). -/
structure SnapBay where
  b : Nat
  shed : Bool
  first : Bool
  grp : Nat
  want : Nat
  cnt : Nat
  deriving DecidableEq, Repr

/-- An element in a snapshot: the committed state, its outputs included (R309, R350, R505). -/
structure SnapElm where
  e : Nat
  st : ElmSt
  out : Nat
  deriving DecidableEq, Repr

/-- A knot in a snapshot (R359, R505): l, wv, its output and its durations; `pulse`: its TMODE is 3. -/
structure SnapKnot where
  q : Nat
  pulse : Bool := false
  l : Bool
  wv : Bool
  out : Bool
  ton : Nat
  toff : Nat
  tp : Nat
  deriving DecidableEq, Repr

/-- A trip-matrix row in a snapshot (R381, R505). -/
structure SnapRow where
  d : Nat
  cmd : Bool
  lat : Bool
  fh : Bool
  counting : Bool
  pt : Nat
  deriving DecidableEq, Repr

/-- What bay `b` had committed at the end of tick `n`: itself, its enabled elements, its knots, the rows it owns. A snapshot is made of these
(R504). -/
structure BaySec where
  b : Nat
  n : Nat
  bay : SnapBay
  elms : List SnapElm := []
  knots : List SnapKnot := []
  rows : List SnapRow := []
  deriving DecidableEq, Repr

/-- A recorder instance in a snapshot (R465): state, current record, device time of the trigger tick, how many record samples after the first
one at or after that tick j0 lies, samples after j0 still to be captured up to the last, retriggers, the latched REARM trigger as device
time of its tick and sources. -/
structure SnapRec where
  i : Nat
  st : Nat
  id : Nat := 0
  trigAt : Nat := 0
  off : Nat := 0
  src : Nat := 0
  post : Nat := 0
  retrig : Nat := 0
  rearm : Option (Nat × Nat) := none
  deriving DecidableEq, Repr

/-- A snapshot (R505): sequence, n_s, device time and TAI of its tick, claim word, settings digest, HANDOVER flag, version, then
the sections; `gp` holds stNum and enable of each publication. -/
structure Snap where
  seq : Nat
  n : Nat
  d : Nat
  tai : Int := 0
  claim : Nat := 0
  dig : Nat
  ho : Bool := false
  ver : Nat
  bays : List SnapBay := []
  elms : List SnapElm := []
  knots : List SnapKnot := []
  rows : List SnapRow := []
  sys : Nat := 0
  rb : Nat := 0
  recs : List SnapRec := []
  gp : List (Nat × Nat × Bool) := []
  deriving DecidableEq, Repr

/-- One heartbeat path (R497): the previous heartbeat or miss, the latest heartbeat, misses in a row, heartbeats in a row, alarm. -/
structure PathSt where
  at' : Option Nat := none
  hb : Option Nat := none
  miss : Nat := 0
  ok : Nat := 0
  alarm : Bool := false
  deriving DecidableEq, Repr

/-- A replay in progress (R511 to R518): the tick m_s before its first, dt of its first tick if that is not its own, TAKEOVER source,
ticks replayed, failed conditions, last heartbeat, system signals 0 and 5 to 7, readback and recorder instances of the snapshot. -/
structure Replay where
  m : Nat
  dt0 : Option Nat
  src : Nat
  count : Nat := 0
  deg : Nat := 0
  lastHb : Nat := 0
  sys : Nat := 0
  rb : Nat := 0
  recs : List SnapRec := []
  deriving DecidableEq, Repr

/-- What the input digest of an interval takes from its end (R508): start and end of the interval, DIO_IN_VAL and DIO_IN_OK, the GOOSE
input words, state and missing samples by stream, active-bank digest by mapped local channel, settings digest. -/
structure IntervalEnd where
  lo : Nat
  hi : Nat
  din : Nat
  ok : Nat
  gin : List Nat
  ginOk : List Nat
  sv : List (Nat × Nat)
  chans : List (Nat × Nat)
  dig : Nat
  deriving DecidableEq, Repr

/-- The pair logic. `locks`: the lanes that have symbol lock; `hello`: a HELLO was received, `helloAt` the next one to send; `ver` the version in
use; `pRank` the partner's rank as last seen; `lk` and `tow` the paths; `hb` the partner's latest heartbeat and its receive time; `thetas` the
latest θ with a short round trip; `word`: a partner claim word was seen; `asm` the snapshot being assembled (sequence, pieces as offset and
bytes); `good` the newest good snapshot and the receipt of its end; `snap` the latest snapshot taken and `sending` the end of its transmission;
`seq` and `sentSeq` the latest sequences taken and sent; `snapAt` the 20 ms boundary last served; `doneN` and `doneAt` the latest tick completed
by all bays and its completion; `ho` a planned handover of a standby (TAKEOVER source, begin) and `hoTick` of an active unit (the tick after which
its snapshot is taken); `code` the own handover code under version 1 and `seen` the partner's; `standbyAt`, `readyAt` entry to STANDBY and start
of READY; `joinAt`, `heardAt` start of JOINING and the latest sign of a partner in it; `replay`; `diff` the latest interval that differed, by the
partner's end of it, and `div` the divergent ones; `ival` the own interval that ended last, whose digest goes out next; `hbAt` the latest own
heartbeat instant and `gone` the missing counts of the streams at it; `past` what bays had committed at ticks beyond which they have gone while
others had still to complete them (R504); `proven` and `passedAt`: since the unit entered STANDBY a proof cycle has completed, and one that began
since then passed first at that instant (R520, R522); `sentHb`, `sentHello`, `sentHo` the latest contents sent, `sent` the latest frame with its
TYPE, `txSeq` the sequence number of the next frame and `snapTx` that of the snapshot's first. -/
structure PairSt where
  locks : BitVec 4 := 0
  hello : Bool := false
  helloAt : Nat := 0
  ver : Nat := 0
  pRank : Option Nat := none
  lk : PathSt := {}
  tow : PathSt := {}
  hb : Option (Heartbeat × Nat) := none
  thetas : List Int := []
  word : Bool := false
  asm : Option (Nat × List (Nat × List (BitVec 8))) := none
  good : Option (Snap × Nat) := none
  snap : Option Snap := none
  sending : Option Nat := none
  seq : Nat := 0
  sentSeq : Nat := 0
  snapAt : Nat := 0
  doneN : Nat := 0
  doneAt : Nat := 0
  ho : Option (Nat × Nat) := none
  hoTick : Option Nat := none
  code : Nat := 0
  seen : Nat := 0
  standbyAt : Nat := 0
  readyAt : Option Nat := none
  joinAt : Nat := 0
  heardAt : Nat := 0
  replay : Option Replay := none
  diff : Option (Nat × Nat × Nat) := none
  div : List (Nat × Nat) := []
  ival : Option IntervalEnd := none
  hbAt : Nat := 0
  gone : Tab Nat := []
  past : List BaySec := []
  sentHb : Option Heartbeat := none
  sentHello : Option Hello := none
  sentHo : Option Nat := none
  proven : Bool := false
  passedAt : Option Nat := none
  sent : Option (Nat × LkFrame) := none
  txSeq : Nat := 0
  snapTx : Nat := 0
  deriving DecidableEq, Repr

/-- Every lane has symbol lock (R491). -/
def PairSt.lock (p : PairSt) : Bool := p.locks == 15
/-- The lanes that a received frame arrives on have symbol lock (R491). -/
def PairSt.hears (p : PairSt) : Bool := p.locks.extractLsb' 0 2 == 3

end Sys2Proof.Machine
end

