-- ==== Sys2Proof/Machine/StPwr.lean ====
section
/-! DEFINITION. State of supplies, resets and start-up (R638 to R664). -/
namespace Sys2Proof.Machine

/-- Where the logic side stands (R642, R651, R657): held by the power-on reset, held by another reset, released and about to start
up, in step 7, in step 8, running, stopped at step 2. -/
inductive Phase where
  | unpowered | held | released | calibrating | settings | running | bootFail
  deriving DecidableEq, Repr

/-- Supplies and start-up. `prot`: protection is enabled (R662); `rstN`: RST_N is held low (R652); `step2`: start-up resumes at
step 2 (R651); `fault`: an INTERNAL_FAULT is in force (R412); `gridStart` the device time at which the grid started;
`selfcalSeen`: a SELFCAL was accepted since (R660); `gridUs`: when that was, in µs from the start of start-up (R657); `halt`:
start-up stops before protection is enabled (R619); `applied`: the bank in force has been applied (R661); `owedBanks`, `owedSkew`,
`owedClaim`: the writes to MRAM withheld while VMAIN is in the warn state (R643). -/
structure PwrSt where
  phase : Phase := .unpowered
  prot : Bool := false
  rstN : Bool := false
  step2 : Bool := false
  fault : Bool := false
  gridStart : Nat := 0
  selfcalSeen : Bool := false
  gridUs : Nat := 0
  halt : Bool := false
  applied : Bool := false
  owedBanks : List Nat := []
  owedSkew : Bool := false
  owedClaim : Bool := false
  deriving DecidableEq, Repr

/-- An operation of the NOR in progress (R689): operation, word address, data. -/
structure NorOp where
  op : Nat
  addr : Nat
  data : Nat
  deriving DecidableEq, Repr

/-- The NOR and its JTAG port (R654, R656, R689): words programmed; sectors erased, or (`some k`) left in an open state by a cut erase;
the operation in progress; ERROR; the data of the next Capture-DR. -/
structure NorSt where
  words : Tab Nat := []
  sect : Tab (Option Nat) := []
  busy : Option NorOp := none
  error : Bool := false
  data : Nat := 0
  deriving DecidableEq, Repr

/-- What start-up finds (R654 to R658): version and rollback index of the image of each slot that is good; engines whose logic BIST does not pass
(true: INCOMPLETE); failing SRAM rows not mapped by fuse, by macro; whether the log holds a partly written entry (R483); whether the bank that the
selector names fails its CRC (R560); which copies of custody (R559), of the bound (R12), of the epoch (R502), of the skews (R114) and of the
filter banks (R179) are bad, the newer in bit 0 and the older in bit 1, and of which row latches the newer and the older (R367); the end of each
of steps 1 to 6, in µs. -/
structure StartView where
  slot0 : Option (Nat × Nat) := none
  slot1 : Option (Nat × Nat) := none
  eng : List (Fin 9 × Bool) := []
  rows : List (Fin 32 × Nat) := []
  torn : Bool := false
  custBad : BitVec 2 := 0
  bankBad : Bool := false
  bndBad : BitVec 2 := 0
  epochBad : BitVec 2 := 0
  skewBad : BitVec 2 := 0
  fltBad : BitVec 2 := 0
  latBad : BitVec 32 := 0
  latOld : BitVec 32 := 0
  us : List Nat := []
  deriving DecidableEq, Repr

/-- The objects that MRAM keeps in two alternating copies (R12, R114, R179, R367, R502, R545). -/
inductive MramObj where
  | bound | custody | epoch | skew | filters | latch (r : Fin 32)
  deriving DecidableEq, Repr

/-- A write to MRAM that fails verification (R629, R631): the sector, the object being written where it is one of two copies, and how often the
write failed at that sector. -/
structure MramFail where
  sec : Fin 2048
  obj : Option MramObj := none
  tries : Nat := 1
  deriving DecidableEq, Repr

/-- The states of the TAP controller of IEEE 1149.1 (R688). -/
inductive TapState where
  | reset | idle
  | selectDr | captureDr | shiftDr | exit1Dr | pauseDr | exit2Dr | updateDr
  | selectIr | captureIr | shiftIr | exit1Ir | pauseIr | exit2Ir | updateIr
  deriving DecidableEq, Repr

/-- One cycle of TCK as the board drives it: TRST_N high, TMS, TDI. -/
structure TapClk where
  trst : Bool := true
  tms : Bool
  tdi : Bool := false
  deriving DecidableEq, Repr

/-- The TAP (R682, R688): its controller, the instruction, the shift stages of the instruction register and of the data register in use, the
bit next to leave first, and the boundary register's latches. -/
structure TapSt where
  state : TapState := .reset
  ir : BitVec 8 := 0x02
  irShift : List Bool := []
  dr : List Bool := []
  cells : List Bool := []
  deriving DecidableEq, Repr

/-- What the calibration bus of a modulator group carries (R97): nothing, a short, the positive or the negative reference, or the test
DAC. -/
inductive CalDrive where
  | open | short | plus | minus | dac
  deriving DecidableEq, Repr

/-- What the part's own outputs show (R400, R412 to R414, R443, R603): IRQ_N pulled low, TRIG_BUS pulled low, the DIO drivers
that are on, TOW_OUT high, ALIVE_OUT on, the code on TDAC_OUT and TDO when they are driven (R106, R682); and behind the analog pads what the
calibration bus and the test bus carry, the levels in nV at the modulators A and B of the group under calibration with whether B is at gain
32, and the channels that are off their pads (R97, R108). -/
structure Pads where
  irqLow : Bool := false
  trigLow : Bool := false
  dio : Nat := 0
  towOut : Bool := false
  aliveOut : Bool := false
  tdac : Option Nat := none
  tdo : Option Bool := none
  calBus : CalDrive := .open
  calIn : Option (Option (Int × Int) × Bool) := none
  testBus : Option (Nat × Bool) := none
  off : List Nat := []
  deriving DecidableEq, Repr

end Sys2Proof.Machine
end

