-- ==== Sys2Proof/Syntax.lean ====
section
/-! DEFINITION. The commands and events of the block, one constructor for each row of the operation table. A host
command carries the interface it arrived on (`q`: true for QSPI) and its packet; an event that the surroundings date
carries its device time `t`. -/
namespace Sys2Proof
open Machine

/-- The operations and events of the part. -/
inductive Instr where
  /-- NEGOTIATE (R588): Host command that opens or renews a session, choosing the interface version and the negotiated feature word. -/
  | negotiate (q : Bool) (p : Packet)
  /-- IDENTIFY (R593): Host command that returns serial, part, firmware, features, role and settings digest. -/
  | identify (q : Bool) (p : Packet)
  /-- RESTART (R594): Guarded host command that logs RESTART, replies and restarts the logic side through start-up. -/
  | restart (q : Bool) (p : Packet)
  /-- MAINT_MODE (R595): Host command that enters or renews maintenance mode with a lease, or leaves it. -/
  | maintMode (q : Bool) (p : Packet)
  /-- MAINT_LEASE_EXPIRY (R596): The maintenance lease runs out and maintenance mode ends. -/
  | maintLeaseExpiry
  /-- SELFCAL (R94): Host command that requests self-calibration of selected modulator groups and AUX converters. -/
  | selfcal (q : Bool) (p : Packet)
  /-- SELFCAL_GROUP_START (R95): A selected modulator group begins its 12 ms calibration at the first tick after acceptance or after the previous
  group. -/
  | selfcalGroupStart
  /-- SELFCAL_GROUP_DONE (R100): A group's 12 ms calibration ends and the results of its 16 channels are committed together. -/
  | selfcalGroupDone (ms : List CalMeas)
  /-- AUX_CAL_DONE (R145): An AUX converter completes its 1.2 ms calibration and commits or rejects its results. -/
  | auxCalDone (m : Fin 2) (x : AuxCalMeas)
  /-- AUX_INJECT (R135): Host command that requests one injected conversion of an AUX input. -/
  | auxInject (q : Bool) (p : Packet)
  /-- AFE_DIAG (R110): Host command that starts the 10 ms path diagnosis of one analog channel. -/
  | afeDiag (q : Bool) (p : Packet)
  /-- AFE_DIAG_DONE (R111): The path diagnosis completes and its verdict is stored and logged. -/
  | afeDiagDone (x : DiagMeas)
  /-- AFE_SKEWCAL (R112): Host command that starts the 24 ms skew calibration of the selected channels. -/
  | afeSkewcal (q : Bool) (p : Packet)
  /-- SKEWCAL_DONE (R114): Skew calibration completes and the new S_cal values are written to MRAM together. -/
  | skewcalDone (meas : List (Fin 64 × Int))
  /-- FLT_BANK_LOAD (R176): Host command that writes the non-active coefficient bank of the masked channels. -/
  | fltBankLoad (q : Bool) (p : Packet)
  /-- FLT_BANK_SWAP (R180): Host command that queues a cross-faded swap to the non-active coefficient bank. -/
  | fltBankSwap (q : Bool) (p : Packet)
  /-- FLT_SWAP_START (R182): A waiting or queued coefficient swap starts its fade at the first base-rate sample at or after its start instant. -/
  | fltSwapStart (c : Fin 64) (codes : Codes)
  /-- FLT_SWAP_DONE (R187): A channel's fade reaches its target, the selection is written to MRAM, and the event follows when the whole command is
  done. -/
  | fltSwapDone (c : Fin 64) (codes : Codes)
  /-- FLT_SYNC (R171): Host command that schedules a synchronising reset of the masked filter chains. -/
  | fltSync (q : Bool) (p : Packet)
  /-- FLT_SYNC_RESET (R173): At the scheduled modulator period the selected chains clear their histories and restart their decimation phases. -/
  | fltSyncReset (c : Fin 64) (codes : Codes)
  /-- TIME_SET (R241): Host command that supplies a TAI and device-time pair, applied as a time measurement. -/
  | timeSet (q : Bool) (p : Packet)
  /-- PBUS_SUBSCRIBE (R597): Host command that starts or ends a frame tap copying accepted SV or GOOSE frames to a berth. -/
  | pbusSubscribe (q : Bool) (p : Packet)
  /-- SET_STAGE_OPEN (R548): SET_STAGE operation that copies the bank in force into the shadow bank and enters STAGING. -/
  | setStageOpen (q : Bool) (p : Packet)
  /-- SET_STAGE_WRITE (R549): SET_STAGE operation that replaces shadow registers, group words, knots or objects. -/
  | setStageWrite (q : Bool) (p : Packet)
  /-- SET_STAGE_SEAL (R548): SET_STAGE operation that validates the shadow bank and fixes its digests. -/
  | setStageSeal (q : Bool) (p : Packet)
  /-- SET_ENDORSE (R550): Host command that presents one endorsement block to open a gate of the lock chamber. -/
  | setEndorse (q : Bool) (p : Packet)
  /-- AUTH_LOCKOUT_END (R546): The 60 s endorsement lockout expires. -/
  | authLockoutEnd
  /-- SET_COMMIT (R551): Host command that writes the pending record durably and schedules the swap of an endorsed bank. -/
  | setCommit (q : Bool) (p : Packet)
  /-- SET_ABORT (R553): Host command that discards the shadow bank, or with an endorsement cancels a pending commit. -/
  | setAbort (q : Bool) (p : Packet)
  /-- KEY_ENROL (R554): Host command that enrols, changes or revokes a key slot. -/
  | keyEnrol (q : Bool) (p : Packet)
  /-- SETTINGS_SWAP (R557): At the swap tick every block applies the committed bank together and the chamber returns to EMPTY. -/
  | settingsSwap
  /-- REC_ARM (R461): Host command that arms a recorder instance. -/
  | recArm (q : Bool) (p : Packet)
  /-- REC_FETCH (R461): Host command that returns a directory page, a record summary or channel measurements. -/
  | recFetch (q : Bool) (p : Packet)
  /-- REC_EXPORT (R461): Host command that starts a COMTRADE export of a record into a berth. -/
  | recExport (q : Bool) (p : Packet)
  /-- EXPORT_CHUNK (R462): An export chunk is written to its berth once the berth has room. -/
  | exportChunk
  /-- REC_TRIGGER (R461): Host command that triggers the masked recorder instances. -/
  | recTrigger (q : Bool) (p : Packet)
  /-- REC_DISARM (R461): Host command that disarms an instance and closes any running record as STOPPED. -/
  | recDisarm (q : Bool) (p : Packet)
  /-- REC_MANAGE (R461): Host command that protects, unprotects or deletes a stored record. -/
  | recManage (q : Bool) (p : Packet)
  /-- EVT_READ (R484): Host command that returns entries from the circulating or permanent event area. -/
  | evtRead (q : Bool) (p : Packet)
  /-- EVT_CLEAR (R481): Endorsed host command that clears circulating entries up to a sequence number. -/
  | evtClear (q : Bool) (p : Packet)
  /-- PAIR_JOIN (R531): Host command that re-arms detection and restarts joining. -/
  | pairJoin (q : Bool) (p : Packet)
  /-- PAIR_YIELD (R532): Host command that makes an active unit offer a planned handover. -/
  | pairYield (q : Bool) (p : Packet)
  /-- PAIR_STATUS (R533): Host command that returns the pair status of the unit or of its partner. -/
  | pairStatus (q : Bool) (p : Packet)
  /-- BIST_RUN (R632): Host command that starts a self-test of an engine, modulator group, AUX converter or field channel. -/
  | bistRun (q : Bool) (p : Packet)
  /-- REPAIR_FUSE (R622): Host command that burns soft SRAM repairs into fuses. -/
  | repairFuse (q : Bool) (p : Packet)
  /-- FUSE_BURN_DONE (R622): A macro's fuse rows finish burning and SRAM_REPAIR is logged. -/
  | fuseBurnDone
  /-- REGISTER_WRITE (R564): Host write of a register that has no row of its own. -/
  | registerWrite (q : Bool) (a : Word) (be : BitVec 4) (w : Word)
  /-- SP_WRITE (R539): Direct host write to a register holding SP fields; the SP bits are ignored and the rest applied. -/
  | spWrite (q : Bool) (a : Word) (w : Word)
  /-- RC_READ (R4): Host read of a read-to-clear field, which returns and clears it. -/
  | rcRead (q : Bool) (a : Word)
  /-- W1C_WRITE (R4): Host write of 1s to a write-1-to-clear field, clearing those bits. -/
  | w1cWrite (q : Bool) (a : Word) (w : Word)
  /-- LO_READ_LATCH (R15): Host read of a LO register that latches its HI partner. -/
  | loReadLatch (a : Word)
  /-- AUX_RESULT_READ (R137): Host read of an AUX result, returning VALID, DUP, OVR and clearing VALID and OVR. -/
  | auxResultRead (m : Fin 2) (k : Fin 24)
  /-- AUX_INJ_REQ_WRITE (R132): Host write that requests an injected AUX conversion through the latch. -/
  | auxInjReqWrite (m : Fin 2) (w : Word)
  /-- AUX_TRG_CFG_WRITE (R128): Host write of the AUX trigger configuration, discarding any trigger waiting out its delay. -/
  | auxTrgCfgWrite (m : Fin 2) (w : Word)
  /-- AFE_TDAC_CTRL_WRITE (R106): Host write that starts or stops the test DAC output, ignored while a procedure owns it. -/
  | afeTdacCtrlWrite (w : Word)
  /-- AFE_TESTMARK_WRITE (R109): Host write that marks channels TEST in maintenance mode. -/
  | afeTestmarkWrite (hi : Bool) (w : Word)
  /-- BAY_TICK_LO_READ (R272): Host read that latches a bay's measurement registers at its latest completed tick. -/
  | bayTickLoRead (b : Fin 64)
  /-- KNOT_TM_RESET_WRITE (R365): Host write that requests a reset of trip-matrix row latches. -/
  | knotTmResetWrite (w : Word)
  /-- KNOT_TM_FORCE_WRITE (R368): Host write that forces row commands in maintenance mode. -/
  | knotTmForceWrite (val : Bool) (w : Word)
  /-- PBUS_LEAP_WRITE (R235): Host write that announces a leap second and sets LEAP_PENDING. -/
  | pbusLeapWrite (w : Word)
  /-- PBUS_MDIO_WRITE (R203): Host write that starts an MDIO transaction to a PHY, pausing link polling. -/
  | pbusMdioWrite (w : Word)
  /-- B0_HEAD_WRITE (R575): Host write of the command berth HEAD, making command packets visible. -/
  | b0HeadWrite (q : Bool) (l : List (Nat × Byte)) (v : Word)
  /-- BERTH_TAIL_WRITE (R575): Host write of a device-to-host berth TAIL, consuming messages and re-arming its interrupt. -/
  | berthTailWrite (q : Bool) (b : Fin 256) (v : Word)
  /-- HOST_BERTH_CFG_WRITE (R572): Host write that enables, disables or reconfigures a berth. -/
  | hostBerthCfgWrite (q : Bool) (b : Fin 256) (w : Word)
  /-- HOST_CTRL_RESET_WRITE (R569): Host write of HOST_CTRL.RESET requesting a host-interface reset. -/
  | hostCtrlResetWrite (w : Word)
  /-- PCIE_RESET (R569): A PCIe hot reset, link down, FLR or return from D3hot causes a host-interface reset. -/
  | pcieReset (down : Bool)
  /-- RESYNC (R584): A command packet that cannot be framed within 100 ms is discarded with a RESYNC reply. -/
  | resync
  /-- BERTH_IRQ_HOLDOFF (R601): Unread berth messages age past HOLDOFF and the berth's vector is raised. -/
  | berthIrqHoldoff (b : Fin 256)
  /-- HOST_BERTH_OVERFLOW (R579): At each second boundary an event is logged for each berth whose drops rose. -/
  | hostBerthOverflow
  /-- GRID_TICK (R18): A protection-grid tick instant arrives and every channel's grid sample is produced. -/
  | gridTick (codes : List (Fin 64 × Codes))
  /-- TRACKER_CYCLE (R28): At the first tick of a cycle the tracker measures, qualifies references and sets the next cycle's frequency and period.
  -/
  | trackerCycle
  /-- TRK_RAMP_ENTER (R30): After HOLDMAX cycles in HOLD the tracker enters RAMP toward nominal. -/
  | trkRampEnter
  /-- DEVICE_TIME_BOUND (R12): Device time crosses a multiple of 2^28 and the supervisor writes the next bound V to MRAM. -/
  | deviceTimeBound
  /-- BAY_EVALUATION (R254): A bay evaluates its elements, knots and rows for a tick once all its mapped channels are available. -/
  | bayEvaluation (b : Fin 64) (t us : Nat)
  /-- ELM_OPERATE (R288): An element's integrated or definite time reaches its operate level and OP rises. -/
  | elmOperate (e : Fin 2048)
  /-- ELM_RESET_TIMEOUT (R289): A definite reset time after dropout expires and the element's accumulated time is cleared. -/
  | elmResetTimeout (e : Fin 2048)
  /-- ELM_MEMORY_EXPIRY (R299): The stored V1 memory of a directional element expires after MEMT cycles. -/
  | elmMemoryExpiry (e : Fin 2048)
  /-- BF_RETRIP (R334): The breaker-failure timer reaches T1 and RETRIP rises. -/
  | bfRetrip (e : Fin 2048)
  /-- BF_BACKUP (R334): The breaker-failure timer reaches T2 and BACKUP rises. -/
  | bfBackup (e : Fin 2048)
  /-- AR_CLOSE (R337): An autoreclose dead time expires and the element enters CLOSING. -/
  | arClose (e : Fin 2048)
  /-- AR_LOCKOUT (R337): Autoreclose enters LOCKOUT on a block, a failed shot or an expired open, close or sync timer. -/
  | arLockout (e : Fin 2048)
  /-- AR_SUCCESS (R337): The reclaim time expires and autoreclose returns to READY. -/
  | arSuccess (e : Fin 2048)
  /-- CLP_ARMED (R331): A dead bay stays dead for TCOLD and cold-load pickup becomes ARMED. -/
  | clpArmed (e : Fin 2048)
  /-- CLP_END (R331): Cold-load pickup ends on TCLP, the early-end timer, or the bay going dead. -/
  | clpEnd (e : Fin 2048)
  /-- TMAX_REL (R328): A harmonic block held for TMAX is forced off. -/
  | tmaxRel (e : Fin 2048)
  /-- GROUP_CHANGE (R343): A wanted settings group completes its HOLD count and comes into force. -/
  | groupChange (b : Fin 64)
  /-- KNOT_TIMER_EXPIRY (R358): A knot's on-delay, off-delay or pulse timer expires and its output changes. -/
  | knotTimerExpiry (k : Fin 16384)
  /-- TM_MINP_EXPIRY (R363): A row's minimum command time has elapsed with no drive and its command falls. -/
  | tmMinpExpiry (d : Fin 32)
  /-- FAST_PICKUP (R373): A fast detector completes Q hits and sets its rows' commands at once. -/
  | fastPickup (f : Fin 64)
  /-- FAST_DROPOUT (R373): A fast detector completes Q low samples and drops out. -/
  | fastDropout (f : Fin 64)
  /-- TD_PICKUP (R192): A threshold detector completes Q qualifying ticks and picks up, firing its recorder trigger. -/
  | tdPickup (d : Fin 128)
  /-- TD_DROPOUT (R192): A threshold detector completes Q ticks beyond its hysteresis and drops out. -/
  | tdDropout (d : Fin 128)
  /-- ENGINE_FAIL (R611): A bay engine is declared failed by a check error, an evaluation timeout or BIST, and bays are placed again. -/
  | engineFail (k : Fin 9) (late : Bool)
  /-- SPARE_ROTATION (R614): At each rotation period one engine's bays move to the spare and the freed engine starts logic BIST. -/
  | spareRotation
  /-- ENGINE_BIST_DONE (R607): An engine logic BIST completes with PASS, FAIL or INCOMPLETE. -/
  | engineBistDone (k : Fin 9) (misr : BitVec 64) (ok : Bool) (count : Nat)
  /-- BLOCK_BIST_DONE (R634): A host self-test of a modulator group, AUX converter or field channel completes. -/
  | blockBistDone (fail : Bool) (detail : BitVec 8)
  /-- PROOF_CYCLE (R524): A standby starts a proof cycle of all engines on entry to STANDBY and every 10 minutes. -/
  | proofCycle
  /-- SRAM_CORRECTED_ERROR (R620): The patrol scrub corrects an SRAM error and may record a repair candidate. -/
  | sramCorrectedError (m : Fin 32) (row t : Nat)
  /-- SRAM_UNCORRECTABLE (R621): An uncorrectable SRAM error logs INTERNAL_FAULT and restarts the device. -/
  | sramUncorrectable (m : Fin 32)
  /-- NAND_BLOCK_RETIRED (R625): A NAND program, erase or read failure retires the block onto a spare. -/
  | nandBlockRetired (blk : Fin 16384)
  /-- MRAM_SECTOR_SPARED (R629): An MRAM write fails verification and its sector is remapped to a spare. -/
  | mramSectorSpared (sec : MramFail)
  /-- LOCKSTEP_MISMATCH (R617): The supervisor cores disagree, INTERNAL_FAULT is logged and the supervisor resets. -/
  | lockstepMismatch
  /-- SPLICE_FADE_UP (R74): The fine estimate or overload detector switches the splice toward the wide modulator. -/
  | spliceFadeUp (c : Fin 64) (codes : Codes)
  /-- SPLICE_FADE_DOWN (R76): The wide estimate stays low for the hold time and the splice fades toward the fine modulator. -/
  | spliceFadeDown (c : Fin 64) (codes : Codes)
  /-- SPLICE_FADE_END (R75): A splice fade completes its periods and the block settles in WIDE or FINE. -/
  | spliceFadeEnd (c : Fin 64) (codes : Codes)
  /-- SPLICE_VAL_WINDOW_END (R83): A 10 ms overlap-validation window ends and gives pass, fail or no verdict. -/
  | spliceValWindowEnd (c : Fin 64) (codes : Codes)
  /-- TWIN_MISMATCH (R89): The twin-mode instantaneous check fails on CNT samples and the channel is flagged. -/
  | twinMismatch (c : Fin 64) (codes : Codes)
  /-- TWIN_WINDOW_END (R88): A 10 ms twin-mode window check ends, setting or clearing the mismatch flags. -/
  | twinWindowEnd (c : Fin 64) (codes : Codes)
  /-- MOD_RESET (R92): A modulator overloaded for 64 periods is reset. -/
  | modReset (c : Fin 64) (codes : Codes)
  /-- AUX_TIMER_TRIGGER (R125): The AUX timer trigger fires every PERIOD microseconds. -/
  | auxTimerTrigger (m : Fin 2)
  /-- AUX_TICK_TRIGGER (R125): The AUX tick trigger fires at ticks with n mod M equal to PHASE. -/
  | auxTickTrigger (m : Fin 2)
  /-- AUX_PULSE_TRIGGER (R125): A TRIG_IN pulse of qualifying width ends and fires the AUX trigger, or is rejected. -/
  | auxPulseTrigger (m : Fin 2) (t width : Nat) (low : Bool)
  /-- AUX_SCAN_START (R126): A trigger's delay expires and a scan starts at the next slot boundary. -/
  | auxScanStart (m : Fin 2)
  /-- AUX_CONVERSION (R124): A scan conversion completes and its corrected result is stored. -/
  | auxConversion (m : Fin 2) (raw : BitVec 16)
  /-- AUX_INJ_CONVERSION (R134): A latched injected request is converted in its slot and its result stored. -/
  | auxInjConversion (m : Fin 2) (raw : BitVec 16)
  /-- AUX_XCHK (R140): Both converters convert input 23 in a common slot at each cross-check period. -/
  | auxXchk (r0 r1 : BitVec 16)
  /-- SV_FRAME (R207): A sampled-value frame is received, matched, accepted or rejected, and its samples aligned. -/
  | svFrame (f : SvFrame)
  /-- SV_STREAM_LOST (R220): No ASDU has been accepted for 10 ms and the stream enters LOST. -/
  | svStreamLost (k : Fin 256)
  /-- SV_ALIGN_EXPIRY (R218): A tick's alignment window expires with a tap missing, making the grid sample LATE and SUBSTITUTED. -/
  | svAlignExpiry (g : Fin 512)
  /-- GOOSE_FRAME (R224): A GOOSE frame is received and changes or refreshes its subscription state. -/
  | gooseFrame (f : GooseFrame)
  /-- GOOSE_TAL_EXPIRED (R225): No frame arrives within timeAllowedtoLive and the subscription becomes stale. -/
  | gooseTalExpired (x : Fin 1024)
  /-- GOOSE_PUBLISH (R370): After the last sourcing bay finishes a tick, a changed publication is sent with a new stNum. -/
  | goosePublish (x : Fin 128)
  /-- GOOSE_REPEAT (R228): A GOOSE repeat interval expires and the publication is sent again. -/
  | gooseRepeat (x : Fin 128)
  /-- HSR_FORWARD (R201): A ring frame not originated by this node is forwarded to the other ring port. -/
  | hsrForward (p : Fin 2) (f : RingFrame)
  /-- PRP_SUPERVISION_SEND (R201): A PRP or HSR supervision frame is sent at each supervision interval. -/
  | prpSupervisionSend
  /-- PHY_POLL (R203): Every 10 ms the device reads the PHY link status. -/
  | phyPoll (p : Fin 2) (up : Bool)
  /-- SGMII_AUTONEG (R198): SGMII in-band auto-negotiation sets a port's speed. -/
  | sgmiiAutoneg (p : Fin 2) (fast : Bool)
  /-- PTP_SYNC (R231): A PTP Sync measurement is turned into a servo correction or a step. -/
  | ptpSync (p : Fin 2) (t : Nat) (m : SyncMsg)
  /-- PTP_ANNOUNCE (R237): A PTP Announce message is received and updates the clock state and qualification. -/
  | ptpAnnounce (p : Fin 2) (t : Nat) (a : Announce)
  /-- IRIG_FRAME (R239): An IRIG-B frame is decoded and its reference marker gives a time measurement. -/
  | irigFrame (t : Nat) (r : IrigRaw)
  /-- PPS_EDGE (R240): A 1PPS edge is accepted or rejected and gives a time measurement. -/
  | ppsEdge (t width : Nat) (falling : Bool)
  /-- TIME_SOURCE_LOST (R233): The time source in use is lost by timeout and the device enters holdover. -/
  | timeSourceLost
  /-- HOLDOVER_ACC_DEGRADE (R233): Holdover timers T1, T2 and one day degrade the time accuracy. -/
  | holdoverAccDegrade
  /-- TIME_SRC_SELECT (R230): At each TAI second the highest-priority qualified time source is chosen. -/
  | timeSrcSelect
  /-- UTC_OFS_CHANGE (R235): At the end of a UTC day with a leap pending, the UTC offset changes by one. -/
  | utcOfsChange
  /-- COMMAND_FRAME (R386): The field die receives an isolator command frame and applies its sections when their CRCs check. -/
  | commandFrame (t : Nat) (err : List Nat)
  /-- READBACK_FRAME (R385): The logic side receives a readback frame with pad, driver, input, supply and claim status. -/
  | readbackFrame (t : Nat) (p : PadView) (err : List Nat)
  /-- FIELD_LINK_LOST (R388): No valid frame for 100 us; the die holds commands and the logic side logs the loss. -/
  | fieldLinkLost
  /-- LINKHOLD_EXPIRY (R388): LINKHOLD after link loss expires and CLOSE and SIGNAL outputs switch off. -/
  | linkholdExpiry
  /-- FIELD_DIE_RESET (R389): VFIELD falls below 7.5 V, the die resets and is reconfigured on the link's return. -/
  | fieldDieReset (t : Nat) (mv : BitVec 16)
  /-- FIELD_UV_WARN (R406): VFIELD falls below 16.0 V and inputs become questionable. -/
  | fieldUvWarn (t : Nat) (mv : BitVec 16)
  /-- FIELD_UV_INVAL (R406): VFIELD falls below 12.0 V and inputs become invalid. -/
  | fieldUvInval (t : Nat) (mv : BitVec 16)
  /-- FIELD_UV_DROP (R407): VFIELD falls below 9.0 V and the drivers lose gate drive. -/
  | fieldUvDrop (t : Nat) (mv : BitVec 16)
  /-- FIELD_UV_RECOVER (R408): VFIELD rises above 10.5 V and outputs take their commands in force. -/
  | fieldUvRecover (t : Nat) (mv : BitVec 16)
  /-- FIELD_UV_CLEAR (R406): VFIELD returns to NORMAL above 16.5 V. -/
  | fieldUvClear (t : Nat) (mv : BitVec 16)
  /-- DIN_CHANGE (R394): An input's pad holds its new state for the debounce time and the debounced value changes. -/
  | dinChange (d : Fin 32) (t : Nat) (mv : BitVec 16)
  /-- WIRE_BREAK (R398): An input's pad stays below 0.45 V for WBT and wire break is detected. -/
  | wireBreak (d : Fin 32) (t : Nat)
  /-- WIRE_OK (R398): An input's pad stays at or above 0.60 V for WBT and wire break clears. -/
  | wireOk (d : Fin 32) (t : Nat)
  /-- OUT_OVERLOAD (R401): An output limits current for 5 ms or reaches shutdown temperature and switches off. -/
  | outOverload (d : Fin 32) (t : Nat) (thermal : Bool)
  /-- OUT_OVERLOAD_RETRY (R401): A thermally shut-down output still commanded on retries after 100 ms. -/
  | outOverloadRetry (d : Fin 32)
  /-- OUT_STUCK_HIGH (R402): An off output's pad reads high for 1 ms without another output's cause. -/
  | outStuckHigh (d : Fin 32) (t : Nat)
  /-- OUT_CONFLICT (R402): An off output's pad follows another output's switching within 200 us. -/
  | outConflict (d : Fin 32) (w t : Nat)
  /-- OUT_OPEN_LOAD (R403): An output's open-load test finds the load open for 20 ms. -/
  | outOpenLoad (d : Fin 32) (t : Nat)
  /-- OUT_PAR_IMBALANCE (R404): One half of a parallel pair carries under 20 % of the current for 20 ms. -/
  | outParImbalance (d : Fin 32) (t : Nat)
  /-- OUT_DIAG_CLEAR (R401): An output diagnostic condition has been absent long enough and its flag clears. -/
  | outDiagClear (d : Fin 32) (bit : Fin 16) (t : Nat)
  /-- SOFT_START_SLOT (R410): At each 100 us slot the scheduler switches queued CLOSE and SIGNAL outputs within the inrush budget. -/
  | softStartSlot
  /-- ALIVE_REFRESH_TIMEOUT (R412): The supervisor's health refresh is missing for 50 ms and ALIVE_OUT switches off. -/
  | aliveRefreshTimeout
  /-- TOW_IN_EDGE (R414): An edge arrives on TOW_IN and is timestamped as a towpath heartbeat. -/
  | towInEdge (e : LineEdge)
  /-- CLAIM_FRAME_TX (R417): A die transmits its claim frame in its slot of the 16 us cycle. -/
  | claimFrameTx (t : Nat) (bad : Bool)
  /-- CLAIM_FRAME_RX (R419): A valid partner claim frame arrives and the die re-evaluates its claim gate. -/
  | claimFrameRx (t : Nat) (bits : BitVec 16)
  /-- CLAIM_PARTNER_TIMEOUT (R419): 48 us pass without a valid partner frame and the gate is re-evaluated. -/
  | claimPartnerTimeout
  /-- CLAIM_LINE_FAIL (R421): The claim line is declared failed by missing partner frames or own transmit errors. -/
  | claimLineFail
  /-- CLAIM_LINE_OK (R421): Eight cycles of valid frames in both directions restore LINE_OK. -/
  | claimLineOk
  /-- TRIG_IN_EDGE (R440): A TRIG_IN edge gives a recorder trigger instant. -/
  | trigInEdge (t : Nat) (rising : Bool)
  /-- TRIG_BUS_EDGE (R440): A falling TRIG_BUS edge gives a recorder trigger instant. -/
  | trigBusEdge (e : LineEdge)
  /-- TRIG_BUS_PULSE_END (R443): The device's TRIG_BUS pulse width expires and the line is released. -/
  | trigBusPulseEnd
  /-- REC_SAMPLE_CAPTURE (R437): An armed instance captures a record sample once its inputs are available and processes triggers up to it. -/
  | recSampleCapture (x : Fin 4)
  /-- REARM_END (R446): The 200 us REARM interval ends and any latched trigger starts a DELAYED record. -/
  | rearmEnd (x : Fin 4)
  /-- REC_BLOCK_DRAINED (R448): A record block finishes draining to NAND and may be freed or complete a record's commit. -/
  | recBlockDrained (x : Fin 4)
  /-- EVT_APPEND (R479): A queued event entry becomes durable in MRAM and is offered to the event berth. -/
  | evtAppend
  /-- EVT_SUPPRESSED (R477): At each second boundary an entry is appended for each code with suppressed occurrences. -/
  | evtSuppressed
  /-- HELLO_SEND (R492): A unit sends HELLO every 1 ms until it has received one. -/
  | helloSend
  /-- HELLO_RX (R492): A HELLO is received and the Lumko version is agreed or ranks found to conflict. -/
  | helloRx (t : Nat) (f : LkFrame) (crc : BitVec 32)
  /-- HEARTBEAT_SEND (R495): Every 500 us a unit sends a heartbeat frame and orders a towpath change. -/
  | heartbeatSend
  /-- HEARTBEAT_RX (R499): A Lumko heartbeat is received, updating θ, partner status and input-summary comparison. -/
  | heartbeatRx (t : Nat) (f : LkFrame) (crc : BitVec 32)
  /-- HB_MISS (R497): 520 us pass without a heartbeat on a path and a miss is counted. -/
  | hbMiss (tow : Bool)
  /-- SNAPSHOT (R504): An active unit takes a snapshot at the first completed tick after each 20 ms boundary and sends it. -/
  | snapshot
  /-- SNAP_DATA_RX (R493): A SNAP_DATA frame is received into the snapshot being assembled. -/
  | snapDataRx (t ver seq : Nat) (pay : List (BitVec 8)) (crc : BitVec 32)
  /-- SNAP_END_RX (R507): A SNAP_END arrives and the assembled snapshot becomes good or is discarded. -/
  | snapEndRx (t : Nat) (h : LkHead) (pay : List (BitVec 8)) (crc : BitVec 32) (x : Snap)
  /-- HANDOVER_RX (R518): A HANDOVER REQUEST, OFFER or ABORT is received and a planned handover starts or ends. -/
  | handoverRx (t : Nat) (f : LkFrame) (crc : BitVec 32)
  /-- HANDOVER_REQUEST (R520): A rank-1 standby completes its failback hold-off and requests a handover. -/
  | handoverRequest
  /-- HANDOVER_ABORT (R519): A planned handover is aborted when its snapshot is not good within 10 ms or the standby is unfit. -/
  | handoverAbort
  /-- REPLAY_TICK (R513): The replaying unit evaluates the next buffered tick from stored inputs. -/
  | replayTick
  /-- REPLAY_CATCH_UP (R511): Replay catches up, the unit claims, its gate opens and it becomes ACTIVE. -/
  | replayCatchUp (t : Nat)
  /-- JOINING_TIMEOUT (R521): A joining unit hears nothing for 20 ms and claims as rank 1 would. -/
  | joiningTimeout
  /-- POWER_ON_RESET_RELEASE (R642): All logic supplies and regulators are in range and the power-on reset releases. -/
  | powerOnResetRelease
  /-- RST_N_LOW (R652): RST_N is driven low and holds the logic side in reset. -/
  | rstNLow
  /-- VMAIN_WARN (R643): VMAIN falls below 2.95 V and new MRAM and NAND writes are withheld. -/
  | vmainWarn
  /-- VMAIN_BROWN_OUT (R643): VMAIN falls below 2.85 V and the logic side resets. -/
  | vmainBrownOut
  /-- VAFE_LOW (R643): VAFE falls below 3.10 V and every local channel carries QUESTIONABLE. -/
  | vafeLow
  /-- VAFE_LOST (R643): VAFE falls below 2.90 V and all modulator groups power down. -/
  | vafeLost
  /-- VAFE_RETURN (R645): VAFE returns and the groups are powered again through the soft-start. -/
  | vafeReturn (t : Nat)
  /-- VIO_LOW (R643): VIO falls below 1.55 V and the logic side resets. -/
  | vioLow
  /-- REGULATOR_OUT_OF_RANGE (R643): A core or DRAM regulator leaves its range and the logic side resets. -/
  | regulatorOutOfRange
  /-- OVER_TEMPERATURE (R643): The logic die exceeds 135 °C and the logic side resets. -/
  | overTemperature
  /-- REFCLK_LOST (R650): The reference clock or PLL lock is lost and the logic side resets. -/
  | refclkLost
  /-- START_UP (R657): After reset release the device runs boot, self-tests, MRAM restore and analog power-up, logging START_UP. -/
  | startUp (v : StartView)
  /-- AUTOCAL (R660): No SELFCAL is accepted within 500 ms of grid start and the device runs its own. -/
  | autocal
  /-- START_UP_SETTINGS (R661): After calibration the working image is built and applied at a tick, and protection is enabled. -/
  | startUpSettings
  /-- NOR_ACCESS (R689): A JTAG Update-DR starts a NOR read, program, erase or status operation. -/
  | norAccess (w : List TapClk)
  /-- NOR_OP_DONE (R689): A NOR operation started through JTAG completes and its status is available. -/
  | norOpDone
  /-- VMAIN_WARN_CLEAR (R643): VMAIN rises back to 3.00 V or more, so NAND and MRAM writes and record drain resume. -/
  | vmainWarnClear
  /-- VAFE_LOW_CLEAR (R643): VAFE returns to 3.12 V or more from the low state, and local channels stop carrying QUESTIONABLE. -/
  | vafeLowClear
  /-- FIELD_UV_INVALID_EXIT (R406): VFIELD rises above 12.5 V, leaving INVALID for WARN, and inputs become valid again. -/
  | fieldUvInvalidExit (t : Nat) (mv : BitVec 16)
  /-- LUMKO_LOCK_LOST (R491): A lane of the Lumko link loses symbol lock, the link goes down, and LINK is set in the NOT_READY mask. -/
  | lumkoLockLost (e : LaneEdge)
  /-- LUMKO_LOCK_GAINED (R491): All Lumko lanes gain symbol lock, so frames are accepted and the HELLO exchange can agree a version. -/
  | lumkoLockGained (t : Nat)
  /-- PCIE_LINK_UP (R563): The PCIe link trains up at 2.5 or 5.0 GT/s and HOST_STATUS.LINK and LINKSPD change. -/
  | pcieLinkUp (gen2 : Bool)
  /-- PTP_PDELAY_RX (R236): A Pdelay_Req, Pdelay_Resp or follow-up frame is received and answered or used to measure the peer delay. -/
  | ptpPdelayRx (p : Fin 2) (t : Nat) (m : PdelayMsg)
  /-- PTP_MESSAGE_SEND (R236): At each 1 s interval the device sends Pdelay_Req, and Sync and Announce while in MASTER state. -/
  | ptpMessageSend
  /-- MDIO_DONE (R203): A host MDIO transaction completes, PBUS_MDIO BUSY clears with the data, and link polling resumes. -/
  | mdioDone (data : BitVec 16)
  /-- ALIVE_OUT_OVERLOAD (R412): ALIVE_OUT overloads and switches off with CAUSE 8. -/
  | aliveOutOverload (t : Nat)
  /-- ALIVE_OVERLOAD_RETRY (R412): 100 ms after an ALIVE_OUT overload the life contact retries switching on. -/
  | aliveOverloadRetry
  /-- CLIPPED_ONSET (R91): E_w reaches 1.6 V or modulator A's overload detector fires, words carry CLIPPED and AFE_CH_CLIP_CNT increments. -/
  | clippedOnset (c : Fin 64) (codes : Codes)
  /-- PRP_SUPERVISION_RX (R201): A received PRP or HSR supervision frame fills the node table. -/
  | prpSupervisionRx (h : NetHead)
  /-- NODE_FORGET_TIME (R201): A node-table entry not refreshed for 60 s is forgotten. -/
  | nodeForgetTime
  /-- BAD_OPCODE (R598): A command packet with an undefined opcode is answered BAD_OPCODE and changes nothing. -/
  | badOpcode (q : Bool) (op : BitVec 16) (p : Packet)
  deriving DecidableEq, Repr

end Sys2Proof
end

