-- ==== Sys2Proof/Decode.lean ====
section
/-! DEFINITION. The decoder of the operation table's bits: no row of the table gives any, so no word spells a command. -/
namespace Sys2Proof

/-- The command a word spells by the table's bits: none, as no row gives bits. -/
def decodeTableWord (_nbits _w : Nat) : Option Instr := none

end Sys2Proof
end

