-- ==== Sys2Proof/Machine/Field.lean ====
section
/-! DEFINITION. A register field: where it lies, who may change it, what reset leaves in it (R3 to R6). -/
namespace Sys2Proof.Machine

/-- Access codes (R4). -/
inductive Access where
  | RO | RW | RC | W1C | WO | SP | OTP
  deriving DecidableEq, Repr

/-- One field of a register or of a one- or two-dimensional array of registers. `lo` and `hi` bound the values a
settings bank may hold (R697); `sgn` says the field is two's complement. -/
structure Field where
  addr : Nat
  st1 : Nat
  n1 : Nat
  st2 : Nat
  n2 : Nat
  lsb : Nat
  width : Nat
  acc : Access
  reset : Nat
  lo : Int
  hi : Int
  sgn : Bool
  deriving DecidableEq, Repr

/-- A field of a single register. -/
def Field.mk' (addr lsb width : Nat) (acc : Access) (reset : Nat) : Field :=
  { addr := addr, st1 := 0, n1 := 1, st2 := 0, n2 := 1, lsb := lsb, width := width, acc := acc, reset := reset,
    lo := 0, hi := 2 ^ width - 1, sgn := false }

/-- A field of an array of registers. -/
def Field.mkArr (addr st1 n1 st2 n2 lsb width : Nat) (acc : Access) (reset : Nat) : Field :=
  { addr := addr, st1 := st1, n1 := n1, st2 := st2, n2 := n2, lsb := lsb, width := width, acc := acc, reset := reset,
    lo := 0, hi := 2 ^ width - 1, sgn := false }

/-- The field with an unsigned settings range (R697). -/
def Field.range (f : Field) (lo hi : Int) : Field := { f with lo := lo, hi := hi }

/-- The field with a two's-complement settings range (R697). -/
def Field.srange (f : Field) (lo hi : Int) : Field := { f with lo := lo, hi := hi, sgn := true }

/-- The address of the register that holds instance `i`, `j` of the field (R3). -/
def Field.at' (f : Field) (i j : Nat) : Nat := f.addr + f.st1 * i + f.st2 * j

/-- The key of instance `i`, `j` of the field in the register store. -/
def Field.key (f : Field) (i j : Nat) : Nat := f.at' i j * 32 + f.lsb

/-- The field's bits of a register word. -/
def Field.get (f : Field) (w : Nat) : Nat := w / 2 ^ f.lsb % 2 ^ f.width

/-- A register word with the field's bits replaced. -/
def Field.put (f : Field) (w v : Nat) : Nat :=
  w - f.get w * 2 ^ f.lsb + v % 2 ^ f.width * 2 ^ f.lsb

/-- The instance of the field that lies at an address, if one does. -/
def Field.indexAt (f : Field) (a : Nat) : Option (Nat × Nat) :=
  if a < f.addr then none else
  let d := a - f.addr
  let i := if f.n1 ≤ 1 then 0 else
    if f.n2 ≤ 1 ∨ f.st2 ≤ f.st1 then d / f.st1 else d % f.st2 / f.st1
  let r := d - i * f.st1
  let j := if f.n2 ≤ 1 then 0 else if f.n1 ≤ 1 ∨ f.st2 ≤ f.st1 then r / f.st2 else d / f.st2
  if i < f.n1 ∧ j < f.n2 ∧ f.at' i j = a then some (i, j) else none

/-- Two's-complement reading of a `w`-bit value. -/
def sx (w v : Nat) : Int := if v % 2 ^ w < 2 ^ (w - 1) then (v % 2 ^ w : Nat) else ((v % 2 ^ w : Nat) : Int) - (2 ^ w : Nat)

/-- The `w`-bit two's-complement form of an integer. -/
def toBits (w : Nat) (v : Int) : Nat := (v % (2 ^ w : Nat)).toNat

/-- The value a settings field stands for (R697). -/
def Field.value (f : Field) (v : Nat) : Int := if f.sgn then sx f.width v else (v : Int)

/-- R697: a settings field's value lies in its stated range. -/
def Field.inRange (f : Field) (v : Nat) : Bool := decide (f.lo ≤ f.value v) && decide (f.value v ≤ f.hi)

end Sys2Proof.Machine
end

