-- ==== Sys2Proof/Machine/RegDio.lean ====
section
/-! DEFINITION. The register fields of spec file 10_field_io.md: address, array shape, bit place, access code, reset value
and (for a settings field) the range R697 binds. -/
namespace Sys2Proof.Machine.Reg
open Field

/-- Isolator link up -/
def DIO_STATUS.LINK : Field := mk' 0xD0000 0 1 .RO 0
/-- Field die powered and configured -/
def DIO_STATUS.DIE_OK : Field := mk' 0xD0000 1 1 .RO 0
/-- 0 NORMAL, 1 WARN, 2 INVALID, 3 DROP (R406) -/
def DIO_STATUS.UV : Field := mk' 0xD0000 2 2 .RO 0
/-- R391 -/
def DIO_STATUS.CFG_PEND : Field := mk' 0xD0000 4 1 .RO 0
/-- Channels wait in the soft-start queue -/
def DIO_STATUS.SS_BUSY : Field := mk' 0xD0000 5 1 .RO 0
/-- Life contact enabled -/
def DIO_ALIVE.EN : Field := mk' 0xD0010 0 1 .SP 1
/-- Off in maintenance mode -/
def DIO_ALIVE.MAINT_OFF : Field := mk' 0xD0010 1 1 .SP 1
/-- Host forces off -/
def DIO_ALIVE.HOSTOFF : Field := mk' 0xD0010 2 1 .RW 0
/-- ALIVE_OUT on -/
def DIO_ALIVE.STATE : Field := mk' 0xD0010 3 1 .RO 0
/-- 0 on, 1 disabled, 2 host off, 3 maintenance, 4 refresh missing, 5 link lost, 6 start-up step 9 not reached, 7  -/
def DIO_ALIVE.CAUSE : Field := mk' 0xD0010 4 4 .RO 6
/-- Claim line used (R415) -/
def DIO_PAIR_CFG.CLAIM_EN : Field := mk' 0xD0040 0 1 .SP 0
/-- 120 Ω termination enabled -/
def DIO_PAIR_CFG.TERM : Field := mk' 0xD0040 1 1 .SP 1
/-- Towpath line used -/
def DIO_PAIR_CFG.TOW_EN : Field := mk' 0xD0040 2 1 .SP 0
/-- Own claim word -/
def DIO_CLAIM_STATUS.OWN : Field := mk' 0xD0044 0 8 .RO 0
/-- Own ASSERT -/
def DIO_CLAIM_STATUS.OWN_ASSERT : Field := mk' 0xD0044 8 1 .RO 0
/-- Claim word of the latest valid partner frame -/
def DIO_CLAIM_STATUS.PARTNER : Field := mk' 0xD0044 9 8 .RO 0
/-- Its ASSERT -/
def DIO_CLAIM_STATUS.PARTNER_ASSERT : Field := mk' 0xD0044 17 1 .RO 0
/-- Valid partner frame within 48 µs -/
def DIO_CLAIM_STATUS.PARTNER_SEEN : Field := mk' 0xD0044 18 1 .RO 0
/-- Claim gate open (R419) -/
def DIO_CLAIM_STATUS.GATE : Field := mk' 0xD0044 19 1 .RO 0
/-- R421 -/
def DIO_CLAIM_STATUS.LINE_OK : Field := mk' 0xD0044 20 1 .RO 0
/-- R421 -/
def DIO_CLAIM_STATUS.TX_FAULT : Field := mk' 0xD0044 21 1 .RO 0
/-- TOW_OUT level -/
def DIO_TOW_STATUS.OUT : Field := mk' 0xD0050 0 1 .RO 0
/-- TOW_IN level -/
def DIO_TOW_STATUS.IN : Field := mk' 0xD0050 1 1 .RO 0
/-- TOW_IN edge within the last 1.5 ms -/
def DIO_TOW_STATUS.IN_ACTIVE : Field := mk' 0xD0050 2 1 .RO 0
/-- 0x004. VFIELD, mV. Bits [31:16] reserved -/
def DIO_VFIELD.VALUE : Field := mk' 0xD0004 0 16 .RO 0
/-- 0x008. Inrush budget, 0.1 A, 1 to 255; 0 is rejected at staging. Bits [31:8] reserved -/
def DIO_SS_CFG.BUDGET : Field := mk' 0xD0008 0 8 .SP 40 |>.range 1 255
/-- 0x00C. ms; 0 holds indefinitely (R388). Bits [31:16] reserved -/
def DIO_LINK_CFG.LINKHOLD : Field := mk' 0xD000C 0 16 .SP 100
/-- 0x014. Bit d: debounced input value -/
def DIO_IN_VAL.MASK : Field := mk' 0xD0014 0 32 .RO 0
/-- 0x018. Bit d: input valid flag -/
def DIO_IN_OK.MASK : Field := mk' 0xD0018 0 32 .RO 0
/-- 0x01C. Bit d: command as received by the die -/
def DIO_CMD.MASK : Field := mk' 0xD001C 0 32 .RO 0
/-- 0x020. Bit d: driver on -/
def DIO_DRV.MASK : Field := mk' 0xD0020 0 32 .RO 0
/-- 0x024. Bit d: pad reads high -/
def DIO_RB.MASK : Field := mk' 0xD0024 0 32 .RO 0
/-- 0x028. Drivers on at the latest DROP (R407) -/
def DIO_UV_DROP_MASK.MASK : Field := mk' 0xD0028 0 32 .RO 0
/-- 0x02C. Entries into DROP -/
def DIO_UV_DROP_CNT.VALUE : Field := mk' 0xD002C 0 32 .RC 0
/-- 0x030. Longest queue wait, µs -/
def DIO_SS_WAIT_MAX.VALUE : Field := mk' 0xD0030 0 32 .RC 0
/-- 0x034. Link losses (R388) -/
def DIO_LINK_LOST_CNT.VALUE : Field := mk' 0xD0034 0 32 .RC 0
/-- 0x048. Discarded partner frames (R417) -/
def DIO_CLAIM_CRC_CNT.VALUE : Field := mk' 0xD0048 0 32 .RC 0
/-- 0x04C. Gate closings by a higher claim (R420) -/
def DIO_CLAIM_LOST_CNT.VALUE : Field := mk' 0xD004C 0 32 .RC 0
/-- 0x054. Device time of the latest TOW_IN edge, bits [31:0]; a read latches HI -/
def DIO_TOW_EDGE_LO.VALUE : Field := mk' 0xD0054 0 32 .RO 0
/-- 0x058. Bits [63:32] -/
def DIO_TOW_EDGE_HI.VALUE : Field := mk' 0xD0058 0 32 .RO 0
/-- 0x05C. TOW_IN edges; wraps -/
def DIO_TOW_EDGE_CNT.VALUE : Field := mk' 0xD005C 0 32 .RO 0
/-- +0x00. 0 disabled, 1 input, 2 output; 3 is rejected at staging -/
def DIO_CH_CFG.DIR : Field := mkArr 0xD1000 32 32 0 1 0 2 .SP 0 |>.range 0 2
/-- +0x00. 0 type 1, 1 type 3 -/
def DIO_CH_CFG.ITYPE : Field := mkArr 0xD1000 32 32 0 1 2 1 .SP 0
/-- +0x00. Wire-break detection -/
def DIO_CH_CFG.WB : Field := mkArr 0xD1000 32 32 0 1 3 1 .SP 0
/-- +0x00. Debounce, 0.1 ms -/
def DIO_CH_CFG.DEB : Field := mkArr 0xD1000 32 32 0 1 4 8 .SP 10
/-- +0x00. Log DIN_CHANGE -/
def DIO_CH_CFG.EVT : Field := mkArr 0xD1000 32 32 0 1 12 1 .SP 0
/-- +0x00. Lead of a parallel pair; even channels only (R404) -/
def DIO_CH_CFG.PAR : Field := mkArr 0xD1000 32 32 0 1 13 1 .SP 0
/-- +0x00. Pair-partner output -/
def DIO_CH_CFG.PARTNER : Field := mkArr 0xD1000 32 32 0 1 14 1 .SP 0
/-- +0x00. On-state open-load test -/
def DIO_CH_CFG.ONOL : Field := mkArr 0xD1000 32 32 0 1 15 1 .SP 0
/-- +0x00. Off-state open-load test -/
def DIO_CH_CFG.OFFOL : Field := mkArr 0xD1000 32 32 0 1 16 1 .SP 0
/-- +0x00. Wire-break time, 10 ms, 1 to 63; 0 is rejected at staging. Bits [31:23] reserved; the register resets t -/
def DIO_CH_CFG.WBT : Field := mkArr 0xD1000 32 32 0 1 17 6 .SP 2 |>.range 1 63
/-- +0x04. Inrush current, 0.1 A -/
def DIO_CH_INRUSH.I : Field := mkArr 0xD1004 32 32 0 1 0 8 .SP 0
/-- +0x04. Inrush time, 0.1 ms. Bits [15:8] reserved -/
def DIO_CH_INRUSH.T : Field := mkArr 0xD1004 32 32 0 1 16 16 .SP 0
/-- +0x08. 0 OFF, 1 ON, 2 QUEUED, 3 LIMIT, 4 SHUTDOWN, 5 GATED, 6 NO_DRIVE, 7 INPUT -/
def DIO_CH_STATUS.OSTATE : Field := mkArr 0xD1008 32 32 0 1 0 3 .RO 0
/-- +0x08. Pad reads high -/
def DIO_CH_STATUS.PAD : Field := mkArr 0xD1008 32 32 0 1 3 1 .RO 0
/-- +0x08. Debounced input -/
def DIO_CH_STATUS.IN_VAL : Field := mkArr 0xD1008 32 32 0 1 4 1 .RO 0
/-- +0x08. Valid flag (R395) -/
def DIO_CH_STATUS.IN_OK : Field := mkArr 0xD1008 32 32 0 1 5 1 .RO 0
/-- +0x08. R398 -/
def DIO_CH_STATUS.WIREBRK : Field := mkArr 0xD1008 32 32 0 1 6 1 .RO 0
/-- +0x08. R402 -/
def DIO_CH_STATUS.STUCK_HIGH : Field := mkArr 0xD1008 32 32 0 1 7 1 .RO 0
/-- +0x08. R402 -/
def DIO_CH_STATUS.CONFLICT : Field := mkArr 0xD1008 32 32 0 1 8 1 .RO 0
/-- +0x08. R403 -/
def DIO_CH_STATUS.OPEN_LOAD : Field := mkArr 0xD1008 32 32 0 1 9 1 .RO 0
/-- +0x08. R401 -/
def DIO_CH_STATUS.OVERLOAD : Field := mkArr 0xD1008 32 32 0 1 10 1 .RO 0
/-- +0x08. Class in force: 0 TRIP, 1 CLOSE, 2 SIGNAL -/
def DIO_CH_STATUS.CLASS : Field := mkArr 0xD1008 32 32 0 1 11 2 .RO 2
/-- +0x08. Command. Bits [31:14] reserved; the register resets to 0x0000_1000 -/
def DIO_CH_STATUS.CMD : Field := mkArr 0xD1008 32 32 0 1 13 1 .RO 0
/-- +0x0C. Pad voltage, mV -/
def DIO_CH_MEAS.PAD_MV : Field := mkArr 0xD100C 32 32 0 1 0 16 .RO 0
/-- +0x0C. Output current, mA; 0 for inputs -/
def DIO_CH_MEAS.I_MA : Field := mkArr 0xD100C 32 32 0 1 16 16 .RO 0
/-- +0x10. Overload episodes -/
def DIO_CH_OVL_CNT.VALUE : Field := mkArr 0xD1010 32 32 0 1 0 32 .RC 0
/-- +0x14. Onsets of WIREBRK, STUCK_HIGH, CONFLICT and OPEN_LOAD -/
def DIO_CH_FAULT_CNT.VALUE : Field := mkArr 0xD1014 32 32 0 1 0 32 .RC 0
/-- +0x18. Debounced input changes; wraps -/
def DIO_CH_EDGE_CNT.VALUE : Field := mkArr 0xD1018 32 32 0 1 0 32 .RO 0
/-- +0x1C. Channel named by the latest OUT_CONFLICT. Bits [31:5] reserved -/
def DIO_CH_CONFLICT.WITH : Field := mkArr 0xD101C 32 32 0 1 0 5 .RO 0

/-- Register fields of this file, part 0. -/
def fieldsDio0 : List Field := [
  DIO_STATUS.LINK,
  DIO_STATUS.DIE_OK,
  DIO_STATUS.UV,
  DIO_STATUS.CFG_PEND,
  DIO_STATUS.SS_BUSY,
  DIO_ALIVE.EN,
  DIO_ALIVE.MAINT_OFF,
  DIO_ALIVE.HOSTOFF,
  DIO_ALIVE.STATE,
  DIO_ALIVE.CAUSE,
  DIO_PAIR_CFG.CLAIM_EN,
  DIO_PAIR_CFG.TERM,
  DIO_PAIR_CFG.TOW_EN,
  DIO_CLAIM_STATUS.OWN,
  DIO_CLAIM_STATUS.OWN_ASSERT,
  DIO_CLAIM_STATUS.PARTNER,
  DIO_CLAIM_STATUS.PARTNER_ASSERT,
  DIO_CLAIM_STATUS.PARTNER_SEEN,
  DIO_CLAIM_STATUS.GATE,
  DIO_CLAIM_STATUS.LINE_OK,
  DIO_CLAIM_STATUS.TX_FAULT,
  DIO_TOW_STATUS.OUT,
  DIO_TOW_STATUS.IN,
  DIO_TOW_STATUS.IN_ACTIVE,
  DIO_VFIELD.VALUE,
  DIO_SS_CFG.BUDGET,
  DIO_LINK_CFG.LINKHOLD,
  DIO_IN_VAL.MASK,
  DIO_IN_OK.MASK,
  DIO_CMD.MASK,
  DIO_DRV.MASK,
  DIO_RB.MASK,
  DIO_UV_DROP_MASK.MASK,
  DIO_UV_DROP_CNT.VALUE,
  DIO_SS_WAIT_MAX.VALUE,
  DIO_LINK_LOST_CNT.VALUE,
  DIO_CLAIM_CRC_CNT.VALUE,
  DIO_CLAIM_LOST_CNT.VALUE,
  DIO_TOW_EDGE_LO.VALUE,
  DIO_TOW_EDGE_HI.VALUE,
  DIO_TOW_EDGE_CNT.VALUE,
  DIO_CH_CFG.DIR,
  DIO_CH_CFG.ITYPE,
  DIO_CH_CFG.WB,
  DIO_CH_CFG.DEB,
  DIO_CH_CFG.EVT,
  DIO_CH_CFG.PAR,
  DIO_CH_CFG.PARTNER,
  DIO_CH_CFG.ONOL,
  DIO_CH_CFG.OFFOL,
  DIO_CH_CFG.WBT,
  DIO_CH_INRUSH.I,
  DIO_CH_INRUSH.T,
  DIO_CH_STATUS.OSTATE,
  DIO_CH_STATUS.PAD,
  DIO_CH_STATUS.IN_VAL,
  DIO_CH_STATUS.IN_OK,
  DIO_CH_STATUS.WIREBRK,
  DIO_CH_STATUS.STUCK_HIGH,
  DIO_CH_STATUS.CONFLICT]

/-- Register fields of this file, part 1. -/
def fieldsDio1 : List Field := [
  DIO_CH_STATUS.OPEN_LOAD,
  DIO_CH_STATUS.OVERLOAD,
  DIO_CH_STATUS.CLASS,
  DIO_CH_STATUS.CMD,
  DIO_CH_MEAS.PAD_MV,
  DIO_CH_MEAS.I_MA,
  DIO_CH_OVL_CNT.VALUE,
  DIO_CH_FAULT_CNT.VALUE,
  DIO_CH_EDGE_CNT.VALUE,
  DIO_CH_CONFLICT.WITH]

/-- Every register field that 10_field_io.md gives. -/
def fieldsDio : List Field := fieldsDio0 ++ fieldsDio1

end Sys2Proof.Machine.Reg
end

