-- ==== Sys2Proof/Machine/Ber.lean ====
section
/-! DEFINITION. Filling a GOOSE frame template (R200, R227). The spec names the fields of the frame; their places in it are those of
IEC 61850-8-1 (PRESUMED, log entry 108). -/
namespace Sys2Proof.Machine

/-- A length in the basic encoding rules. -/
def berLen (n : Nat) : List Byte :=
  if n < 128 then beBytes 1 n else if n < 256 then 0x81 :: beBytes 1 n else 0x82 :: beBytes 2 n

/-- A tag with its contents. -/
def berItem (tag : Byte) (c : List Byte) : List Byte := tag :: berLen c.length ++ c

/-- The first item of a string of octets: tag, contents, what follows. -/
def berTake : List Byte → Option (Byte × List Byte × List Byte)
  | t :: 0x82 :: a :: b :: r => cut t (256 * a.toNat + b.toNat) r
  | t :: 0x81 :: a :: r => cut t a.toNat r
  | t :: n :: r => if n.toNat < 128 then cut t n.toNat r else none
  | _ => none
where
  /-- The item with `n` octets of contents, if there are that many. -/
  cut (t : Byte) (n : Nat) (r : List Byte) : Option (Byte × List Byte × List Byte) :=
    if n ≤ r.length then some (t, r.take n, r.drop n) else none

/-- The items of a string of octets, at most `fuel`. -/
def berItems : Nat → List Byte → List (Byte × List Byte)
  | 0, _ => []
  | n + 1, l => match berTake l with
    | some (t, c, r) => (t, c) :: berItems n r
    | none => []

/-- An unsigned number as a two's-complement integer of as few octets as hold it. -/
def berNat (v : Nat) : List Byte :=
  if v < 2 ^ 7 then beBytes 1 v else if v < 2 ^ 15 then beBytes 2 v else if v < 2 ^ 23 then beBytes 3 v
  else if v < 2 ^ 31 then beBytes 4 v else beBytes 5 v

/-- What the device fills into a template (R200, R227 to R229). -/
structure GooseFill where
  mac : Nat
  st : Nat
  sq : Nat
  tal : Nat
  tai : Int
  tq : Nat
  vals : Nat
  deriving DecidableEq, Repr

/-- The t field: seconds, the fraction of a second in 2^-24, the TimeQuality octet. -/
def gooseTime (tai : Int) (tq : Nat) : List Byte :=
  let ns := tai % 1000000000
  beBytes 4 ((tai / 1000000000) % 2 ^ 32).toNat ++ beBytes 3 (ns * 2 ^ 24 / 1000000000).toNat ++ beBytes 1 tq

/-- The allData image with its BOOLEAN octets filled, in order (R227, R370). -/
def gooseData : Nat → List (Byte × List Byte) → List Byte
  | _, [] => []
  | vals, (t, c) :: r =>
    if t = 0x83 then berItem t (beBytes 1 (vals % 2)) ++ gooseData (vals / 2) r else berItem t c ++ gooseData vals r

/-- One field of the GOOSE PDU with its placeholder filled. -/
def gooseField (f : GooseFill) (x : Byte × List Byte) : List Byte :=
  berItem x.1 <|
    if x.1 = 0x81 then berNat f.tal
    else if x.1 = 0x84 then gooseTime f.tai f.tq
    else if x.1 = 0x85 then berNat f.st
    else if x.1 = 0x86 then berNat f.sq
    else if x.1 = 0xAB then gooseData f.vals (berItems x.2.length x.2)
    else x.2

/-- The frame made from a template: own source address, placeholders filled, lengths recomputed. -/
def gooseFill (t : List Byte) (f : GooseFill) : List Byte :=
  let vlan := if (t.drop 12).take 2 = [0x81, 0x00] then 4 else 0
  let eth := t.take 6 ++ beBytes 6 f.mac ++ (t.drop 12).take (vlan + 2)
  let g := t.drop (14 + vlan)
  match berTake (g.drop 8) with
  | some (tag, c, _) =>
    let pdu := berItem tag ((berItems c.length c).flatMap (gooseField f))
    eth ++ g.take 2 ++ beBytes 2 (8 + pdu.length) ++ (g.drop 4).take 4 ++ pdu
  | none => eth ++ g

end Sys2Proof.Machine
end

