-- ==== Sys2Proof/Machine/Sha.lean ====
section
/-! DEFINITION. SHA-256 (FIPS 180-4), used by every digest of the part. -/
namespace Sys2Proof.Machine

/-- The words of a number written big-endian, `n` of them, most significant first. -/
def shaSplit (n k : Nat) : List (BitVec 32) := (List.range n).map fun i => BitVec.ofNat 32 (k >>> (32 * (n - 1 - i)))

/-- The round constants, eight to a row. -/
def shaK : List (BitVec 32) :=
  [0x428a2f9871374491b5c0fbcfe9b5dba53956c25b59f111f1923f82a4ab1c5ed5,
    0xd807aa9812835b01243185be550c7dc372be5d7480deb1fe9bdc06a7c19bf174,
    0xe49b69c1efbe47860fc19dc6240ca1cc2de92c6f4a7484aa5cb0a9dc76f988da,
    0x983e5152a831c66db00327c8bf597fc7c6e00bf3d5a7914706ca635114292967,
    0x27b70a852e1b21384d2c6dfc53380d13650a7354766a0abb81c2c92e92722c85,
    0xa2bfe8a1a81a664bc24b8b70c76c51a3d192e819d6990624f40e3585106aa070,
    0x19a4c1161e376c082748774c34b0bcb5391c0cb34ed8aa4a5b9cca4f682e6ff3,
    0x748f82ee78a5636f84c878148cc7020890befffaa4506cebbef9a3f7c67178f2].flatMap (shaSplit 8)

/-- The chaining value as two four-word registers, newest word first: the a-d and the e-h of FIPS 180-4. -/
structure ShaRegs where
  up : List (BitVec 32)
  dn : List (BitVec 32)
  deriving DecidableEq, Repr

/-- The initial chaining value. -/
def shaInit : ShaRegs :=
  let w := shaSplit 8 0x6a09e667bb67ae853c6ef372a54ff53a510e527f9b05688c1f83d9ab5be0cd19
  { up := w.take 4, dn := w.drop 4 }

/-- The exclusive or of the word rotated right by each amount of a list. -/
def shaMix (x : BitVec 32) (l : List Nat) : BitVec 32 := l.foldl (fun a k => a ^^^ x.rotateRight k) 0

/-- One round takes in the sum `kw` of a schedule word and its constant: each register moves down one word. -/
def shaRound (t : ShaRegs) (kw : BitVec 32) : ShaRegs :=
  match t.up, t.dn with
  | [a, b, c, d], [e, f, g, h] =>
    let x := h + shaMix e [6, 11, 25] + (g ^^^ (e &&& (f ^^^ g))) + kw
    { up := [x + shaMix a [2, 13, 22] + ((a &&& (b ||| c)) ||| (b &&& c)), a, b, c], dn := [d + x, e, f, g] }
  | _, _ => t

/-- The message schedule, newest word first: `n` more words. -/
def shaSched : Nat → List (BitVec 32) → List (BitVec 32)
  | 0, w => w
  | n + 1, w =>
    let lo := w.getD 14 0
    let hi := w.getD 1 0
    let fresh := w.getD 15 0 + w.getD 6 0 + (shaMix lo [7, 18] ^^^ (lo >>> 3)) + (shaMix hi [17, 19] ^^^ (hi >>> 10))
    shaSched n (fresh :: w)

/-- One 64-byte block. -/
def shaBlock (s : ShaRegs) (blk : List (BitVec 8)) : ShaRegs :=
  let w := (shaSched 48 (shaSplit 16 (ofBe blk)).reverse).reverse
  let t := (List.zipWith (· + ·) shaK w).foldl shaRound s
  { up := List.zipWith (· + ·) s.up t.up, dn := List.zipWith (· + ·) s.dn t.dn }

/-- The blocks of a padded message, `n` of them. -/
def shaBlocks : Nat → ShaRegs → List (BitVec 8) → ShaRegs
  | 0, s, _ => s
  | n + 1, s, l => shaBlocks n (shaBlock s (l.take 64)) (l.drop 64)

/-- SHA-256 of a byte string: 32 bytes. -/
def sha256 (m : List (BitVec 8)) : List (BitVec 8) :=
  let k := (119 - m.length % 64) % 64
  let p := m ++ (0x80 : BitVec 8) :: List.replicate k 0 ++ beBytes 8 (8 * m.length)
  let s := shaBlocks (p.length / 64) shaInit p
  (s.up ++ s.dn).flatMap fun w => beBytes 4 w.toNat

/-- The first 8 bytes of SHA-256, read as a little-endian number: the digest form of the part (R178, R538). -/
def digest64 (m : List (BitVec 8)) : Nat := ofLe ((sha256 m).take 8)

end Sys2Proof.Machine
end

