-- ==== Sys2Proof/Machine/Mem.lean ====
section
/-! DEFINITION. The berth SRAM: a list of (address, byte) pairs in one canonical form, addresses rising, no byte listed
that an unlisted address reads as (zero, a DESIGN CHOICE: log entry 10). -/
namespace Sys2Proof.Machine

/-- What an unlisted byte of the berth SRAM reads as. -/
def memDefault : BitVec 8 := 0

/-- The byte at an address of the berth SRAM. -/
def memRead : List Host.Cell → Nat → BitVec 8
  | [], _ => memDefault
  | (k, v) :: r, a => if a = k then v else if a < k then memDefault else memRead r a

/-- Put a listed byte before the rest of the memory, unless it is what an unlisted byte reads as. -/
def memCons (a : Nat) (v : BitVec 8) (r : List Host.Cell) : List Host.Cell :=
  if v = memDefault then r else (a, v) :: r

/-- The memory with one byte replaced, in canonical form. -/
def memWrite : List Host.Cell → Nat → BitVec 8 → List Host.Cell
  | [], a, v => memCons a v []
  | (k, w) :: r, a, v =>
    if a = k then memCons a v r
    else if a < k then memCons a v ((k, w) :: r)
    else (k, w) :: memWrite r a v

/-- Every listed address lies above `lo`, addresses rise and no listed byte is the unlisted one. -/
def Memory.wfAbove : Option Nat → List Host.Cell → Bool
  | _, [] => true
  | lo, (k, v) :: r => (match lo with | none => true | some b => decide (b < k)) && decide (v ≠ memDefault) && Memory.wfAbove (some k) r

/-- The memory is in canonical form. -/
def Memory.wf (m : List Host.Cell) : Bool := Memory.wfAbove none m

/-- Write bytes into a ring of `size` bytes at `base`, the first at count `x` (R573). -/
def ringWrite (m : List Host.Cell) (base size x : Nat) : List (BitVec 8) → List Host.Cell
  | [] => m
  | b :: r => ringWrite (memWrite m (base + x % size) b) base size (x + 1) r

/-- Read `n` bytes of a ring from count `x` on (R573). -/
def ringRead (m : List Host.Cell) (base size x : Nat) : Nat → List (BitVec 8)
  | 0 => []
  | n + 1 => memRead m (base + x % size) :: ringRead m base size (x + 1) n

end Sys2Proof.Machine
end

