-- ==== Sys2Proof/Config.lean ====
section
/-! DEFINITION. What one unit fixes for good and the values the spec leaves open: opaque constants with no body, so
that nothing can be proved of the value they take. -/
namespace Sys2Proof.Config

/-- The factory one-time-programmed value of a register field, by its key (address * 32 + low bit) (R4). -/
opaque otp : Nat → Nat
/-- A fresh value the spec leaves open, by the count of such values already drawn. -/
opaque freeValue : Nat → Nat
/-- The value an unmapped grid channel carries beside its status word 0x0000: the spec states none (R52). -/
opaque unmappedValue : Nat → Nat → Int
/-- Whether a result between two representable neighbours takes the upper one, where the spec states no rounding:
by a tag of the place, the exact quotient's numerator and denominator. -/
opaque roundUp : Nat → Int → Nat → Bool

/-- The angle, in units of 2^-32 turn, read of a phasor whose parts are both 0: the spec states none. -/
opaque zeroAngle : Nat → Int
/-- Whether an angle between two units of 2^-32 turn takes the upper one: the spec states no rounding (R265). -/
opaque angleUp : Int → Int → Bool
/-- The routines of the unit's ROM (R283, R323): their last bits are not stated. First argument: 0 power, 1 exponential,
2 logarithm, 3 sine, 4 cosine, 5 degrees to radians. -/
opaque romRoutine : Nat → Rat → Rat → Rat

/-- The 4-tap cubic interpolator of modulator B's fractional delay (R63): four words and the fraction in 1/256. Its
kernel and rounding are not stated. -/
opaque fineDelay : Int → Int → Int → Int → Nat → Int
/-- The resampler ROM of R41, R42: phase and tap to a Q1.23 coefficient. -/
opaque resampler : Nat → Nat → Int
/-- The standard coefficient sets of R167: TYPE (0 linear, 1 minimum-phase), RCODE, stage (0 h, 1 g), index. -/
opaque stdCoef : Nat → Nat → Nat → Nat → Int
/-- The delay tables of the minimum-phase standard sets (R166, R167): RCODE, index to GD in ps. -/
opaque stdGd : Nat → Nat → Nat
/-- The phase-residual tables of the minimum-phase standard sets (R166, R167): RCODE, index to PR in ps. -/
opaque stdPr : Nat → Nat → Int

/-- How many fuse entries a macro has: the spec states no number (R622). -/
opaque fuseEntries : Nat
/-- How far the highest erase count lies above the mean, by the number of erasures: R628 states a bound only. -/
opaque wearAbove : Nat → Nat

/-- The size of the header in a record block's control area: the spec states none (R433). -/
opaque blockHeader : Nat
/-- The bytes of that header for a block of so many samples: the spec states of them the sample count only (R433). -/
opaque blockHead : Nat → List (BitVec 8)
/-- A value that the spec does not state, by a tag of the place and an argument: 1 the value a record selector of signal 8, 9
or 11 sees (R357, R429), 2 I2t of a signal that is no current (R452), 3 the index of a peak that is not measured (R453), 4 the
factory content of a NOR word, or what lies beyond its last word (R654), 5 the upper six bits that Capture-IR loads (R688). -/
opaque unstated : Nat → Nat → Nat

/-- The cells of the boundary register: the spec gives neither their number nor their order (R688). -/
opaque scanCells : Nat
/-- What the boundary register makes of IRQ_N (0) or TRIG_BUS (1) where it drives the pads: pulled low or not (R688). -/
opaque scanPad : Nat → List Bool → Bool

/-- A byte of a snapshot whose place within its slot the spec does not state (R505): by section (0 header, 1 bay, 2 element, 3 row,
4 system signals, 5 recorder, 6 publication), what the slot holds, and the byte's offset. -/
opaque snapByte : Nat → List Nat → Nat → BitVec 8
/-- A byte of the run marker that stands for so many zero bytes (R492, R505). -/
opaque runMark : Nat → Nat → BitVec 8

/-- Where a field channel's pad threshold lies within its stated tolerance, in mV, by channel and threshold (R393, R399). -/
opaque padTrim : Nat → Nat → Nat

end Sys2Proof.Config
end

