-- ==== Sys2Proof/Machine/Crc.lean ====
section
/-! DEFINITION. The cyclic checks of the part: CRC-32C of packets and stores, CRC-16 of log entries and frames,
CRC-8 and CRC-4 of link words, each by its polynomial. -/
namespace Sys2Proof.Machine

/-- One bit of a most-significant-first check of width `w`. -/
def crcBitM (w poly crc : Nat) (bit : Bool) : Nat :=
  let top := crc.testBit (w - 1) != bit
  let sh := crc * 2 % 2 ^ w
  if top then sh ^^^ poly else sh

/-- One byte of a most-significant-first check. -/
def crcByteM (w poly crc : Nat) (b : BitVec 8) : Nat :=
  (List.range 8).foldl (fun c i => crcBitM w poly c (b.toNat.testBit (7 - i))) crc

/-- A most-significant-first check over bytes. -/
def crcM (w poly init : Nat) (l : List (BitVec 8)) : Nat := l.foldl (crcByteM w poly) init

/-- A most-significant-first check over bits. -/
def crcBits (w poly init : Nat) (l : List Bool) : Nat := l.foldl (crcBitM w poly) init

/-- CRC-16 of R470: polynomial 0x1021, initial value 0xFFFF, no reflection, no final exclusive-or. -/
def crc16 (l : List (BitVec 8)) : Nat := crcM 16 0x1021 0xFFFF l

/-- One byte of the reflected CRC-32C. -/
def crc32cByte (crc : Nat) (b : BitVec 8) : Nat :=
  (List.range 8).foldl (fun c _ => if c % 2 = 1 then c / 2 ^^^ 0x82F63B78 else c / 2) (crc ^^^ b.toNat)

/-- CRC-32C (Castagnoli): reflected, initial value and final exclusive-or all ones. -/
def crc32c (l : List (BitVec 8)) : Nat := (l.foldl crc32cByte 0xFFFFFFFF) ^^^ 0xFFFFFFFF

end Sys2Proof.Machine
end

