-- ==== Sys2Proof/Machine/RegEvt.lean ====
section
/-! DEFINITION. The register fields of spec file 12_event_log.md: address, array shape, bit place, access code, reset value
and (for a settings field) the range R697 binds. -/
namespace Sys2Proof.Machine.Reg
open Field

/-- Log scanned and appending -/
def EVT_STATUS.READY : Field := mk' 0xF0000 0 1 .RO 0
/-- R468 -/
def EVT_STATUS.PERM_FULL : Field := mk' 0xF0000 1 1 .RO 0
/-- R483 -/
def EVT_STATUS.RESTORED : Field := mk' 0xF0000 2 1 .RO 0
/-- A part of the append queue was full since start-up (R480) -/
def EVT_STATUS.QFULL : Field := mk' 0xF0000 3 1 .RO 0
/-- Event berth index -/
def EVT_BERTH.BERTH : Field := mk' 0xF0010 0 8 .RW 0
/-- Entries written to the berth (R485) -/
def EVT_BERTH.EN : Field := mk' 0xF0010 8 1 .RW 0
/-- 0x004. Sequence of the next entry (R479) (reset: from MRAM) -/
def EVT_NEXT_SEQ.VALUE : Field := mk' 0xF0004 0 32 .RO 0
/-- 0x008. Oldest readable circulating entry (R469) (reset: from MRAM) -/
def EVT_OLDEST_SEQ.VALUE : Field := mk' 0xF0008 0 32 .RO 0
/-- 0x00C. R482; 0 when never cleared (reset: from MRAM) -/
def EVT_CLEAR_MARK.VALUE : Field := mk' 0xF000C 0 32 .RO 0
/-- 0x014. Entries dropped from the berth -/
def EVT_BERTH_DROP_CNT.VALUE : Field := mk' 0xF0014 0 32 .RC 0
/-- 0x018. Suppressed occurrences, all codes -/
def EVT_SUPP_CNT.VALUE : Field := mk' 0xF0018 0 32 .RC 0
/-- 0x01C. Deepest append queue, entries -/
def EVT_QUEUE_MAX.VALUE : Field := mk' 0xF001C 0 32 .RC 0
/-- 0x020. Longest raise-to-durable time, µs -/
def EVT_APPEND_MAX.VALUE : Field := mk' 0xF0020 0 32 .RC 0
/-- 0x024. Clears performed (reset: from MRAM) -/
def EVT_CLEAR_CNT.VALUE : Field := mk' 0xF0024 0 32 .RO 0
/-- Tokens per second, 1 to 255; 0 is rejected at staging -/
def EVT_RATE.RATE : Field := mkArr 0xF1000 256 12 4 64 0 8 .SP 16 |>.range 1 255
/-- Bucket size, 1 to 255; 0 is rejected at staging (R478) -/
def EVT_RATE.BURST : Field := mkArr 0xF1000 256 12 4 64 8 8 .SP 64 |>.range 1 255
/-- Code exempt (R473) (reset: per code) -/
def EVT_RATE.EXEMPT : Field := mkArr 0xF1000 256 12 4 64 16 1 .RO 0

/-- Register fields of this file, part 0. -/
def fieldsEvt0 : List Field := [
  EVT_STATUS.READY,
  EVT_STATUS.PERM_FULL,
  EVT_STATUS.RESTORED,
  EVT_STATUS.QFULL,
  EVT_BERTH.BERTH,
  EVT_BERTH.EN,
  EVT_NEXT_SEQ.VALUE,
  EVT_OLDEST_SEQ.VALUE,
  EVT_CLEAR_MARK.VALUE,
  EVT_BERTH_DROP_CNT.VALUE,
  EVT_SUPP_CNT.VALUE,
  EVT_QUEUE_MAX.VALUE,
  EVT_APPEND_MAX.VALUE,
  EVT_CLEAR_CNT.VALUE,
  EVT_RATE.RATE,
  EVT_RATE.BURST,
  EVT_RATE.EXEMPT]

/-- Every register field that 12_event_log.md gives. -/
def fieldsEvt : List Field := fieldsEvt0

end Sys2Proof.Machine.Reg
end

