-- ==== Sys2Proof/Machine/RegGrid.lean ====
section
/-! DEFINITION. The register fields of spec file 01_sample_grid.md: address, array shape, bit place, access code, reset value
and (for a settings field) the range R697 binds. -/
namespace Sys2Proof.Machine.Reg
open Field

/-- Nominal frequency: 0 = 50 Hz, 1 = 60 Hz, 2 = 16.7 Hz, 3 = 25 Hz -/
def GRID_CFG.NOMF : Field := mk' 0x50000 0 2 .SP 0
/-- N_P: 0 = 32, 1 = 48, 2 = 64, 3 = 80, 4 = 96. A bank with 5 to 7 is rejected at staging -/
def GRID_CFG.NP : Field := mk' 0x50000 4 3 .SP 3 |>.range 0 4
/-- N_R: 0 = N_P, 1 = 128, 2 = 256. A bank with 3 is rejected at staging -/
def GRID_CFG.NR : Field := mk' 0x50000 8 2 .SP 0 |>.range 0 2
/-- 1 while the grid runs -/
def GRID_STATUS.RUN : Field := mk' 0x50004 0 1 .RO 0
/-- A committed structure change waits for start-up (R22) -/
def GRID_STATUS.STRUCT_PEND : Field := mk' 0x50004 1 1 .RO 0
/-- 0 ACQUIRE, 1 TRACK, 2 HOLD, 3 RAMP -/
def GRID_STATUS.TRK_STATE : Field := mk' 0x50004 2 2 .RO 0
/-- Reference in use: 0 none, 1 A, 2 B, 3 C -/
def GRID_STATUS.TRK_REF : Field := mk' 0x50004 4 2 .RO 0
/-- Nominal frequency in force, coded as NOMF -/
def GRID_STATUS.NOMF_IF : Field := mk' 0x50004 8 2 .RO 0
/-- N_P in force, coded as NP -/
def GRID_STATUS.NP_IF : Field := mk' 0x50004 12 3 .RO 3
/-- N_R in force, coded as NR -/
def GRID_STATUS.NR_IF : Field := mk' 0x50004 16 2 .RO 0
/-- α = 2^-GAIN, GAIN 0 to 4 -/
def GRID_TRK_CFG.GAIN : Field := mk' 0x50024 0 3 .SP 1 |>.range 0 4
/-- Phase-jump limit in degrees, 1 to 90 (R26) -/
def GRID_TRK_CFG.JUMP : Field := mk' 0x50024 8 8 .SP 30 |>.range 1 90
/-- Qualifying cycles, 1 to 15 (R27) -/
def GRID_TRK_CFG.QUAL : Field := mk' 0x50024 16 4 .SP 3 |>.range 1 15
/-- 1 = return to the higher-priority reference -/
def GRID_TRK_CFG.REVERT : Field := mk' 0x50024 20 1 .SP 1
/-- Grid channel 0 to 511 -/
def GRID_TRK_REFA.CH_A : Field := mk' 0x50034 0 9 .SP 0
/-- Grid channel -/
def GRID_TRK_REFA.CH_B : Field := mk' 0x50034 9 9 .SP 1
/-- Grid channel -/
def GRID_TRK_REFA.CH_C : Field := mk' 0x50034 18 9 .SP 2
/-- 0 disabled, 1 single channel CH_A, 2 positive sequence; 3 is rejected at staging -/
def GRID_TRK_REFA.MODE : Field := mk' 0x50034 27 2 .SP 2 |>.range 0 2
/-- 0 free-run, 1 PTP, 2 IRIG-B, 3 1PPS with time from the host, 4 host-set; 5 to 7 reserved -/
def GRID_TQ.SOURCE : Field := mk' 0x5005C 0 3 .RO 0
/-- Device time is locked to SOURCE -/
def GRID_TQ.LOCKED : Field := mk' 0x5005C 3 1 .RO 0
/-- Lock lost; δ is held at its last value -/
def GRID_TQ.HOLDOVER : Field := mk' 0x5005C 4 1 .RO 0
/-- A leap second is announced -/
def GRID_TQ.LEAP_PENDING : Field := mk' 0x5005C 5 1 .RO 0
/-- Estimated TAI accuracy: 0 ≤ 1 µs, 1 ≤ 10 µs, 2 ≤ 1 ms, 3 worse or unknown -/
def GRID_TQ.ACC : Field := mk' 0x5005C 6 2 .RO 3
/-- 0x008. Tick index bits [31:0]; a read latches HI -/
def GRID_TICK_LO.VALUE : Field := mk' 0x50008 0 32 .RO 0
/-- 0x00C. Tick index bits [63:32] -/
def GRID_TICK_HI.VALUE : Field := mk' 0x5000C 0 32 .RO 0
/-- 0x010. Cycle count; wraps -/
def GRID_CYCLE.VALUE : Field := mk' 0x50010 0 32 .RO 0
/-- 0x014. P_c integer part. Bits [31:24] are reserved -/
def GRID_PER_INT.VALUE : Field := mk' 0x50014 0 24 .RO 62500
/-- 0x018. P_c fraction in units of 2^-24. Bits [31:24] are reserved -/
def GRID_PER_FRAC.VALUE : Field := mk' 0x50018 0 24 .RO 0
/-- 0x01C. f_c in µHz -/
def GRID_FREQ.VALUE : Field := mk' 0x5001C 0 32 .RO 0x2faf080
/-- 0x020. Last f_meas of the reference in use, in µHz -/
def GRID_FREQ_MEAS.VALUE : Field := mk' 0x50020 0 32 .RO 0
/-- 0x028. Slew limit in mHz per cycle, 1 to 5000. Bits [31:16] are reserved -/
def GRID_TRK_SLEW.VALUE : Field := mk' 0x50028 0 16 .SP 500 |>.range 1 5000
/-- 0x02C. Cycles in HOLD before RAMP; 0 = never ramp. Bits [31:16] are reserved -/
def GRID_TRK_HOLDMAX.VALUE : Field := mk' 0x5002C 0 16 .SP 250
/-- 0x030. Minimum reference magnitude, in grid-sample units -/
def GRID_TRK_MINMAG.VALUE : Field := mk' 0x50030 0 32 .SP 0x6666666
/-- 0x040. Entries into HOLD -/
def GRID_HOLD_CNT.VALUE : Field := mk' 0x50040 0 32 .RC 0
/-- 0x044. Changes of reference -/
def GRID_REFCHG_CNT.VALUE : Field := mk' 0x50044 0 32 .RC 0
/-- 0x048. Device time bits [31:0]; a read latches HI (reset: see R12) -/
def GRID_TIME_LO.VALUE : Field := mk' 0x50048 0 32 .RO 0
/-- 0x04C. Device time bits [63:32] (reset: see R12) -/
def GRID_TIME_HI.VALUE : Field := mk' 0x5004C 0 32 .RO 0
/-- 0x050. TAI offset bits [31:0], in ns; a read latches HI -/
def GRID_TAI_OFS_LO.VALUE : Field := mk' 0x50050 0 32 .RO 0
/-- 0x054. TAI offset bits [63:32], two's complement -/
def GRID_TAI_OFS_HI.VALUE : Field := mk' 0x50054 0 32 .RO 0
/-- 0x058. TAI − UTC in seconds. Bits [31:16] are reserved -/
def GRID_UTC_OFS.VALUE : Field := mk' 0x50058 0 16 .RO 37
/-- 0x060. δ, signed, in units of 2^-32; limited to ±858,993 -/
def GRID_RATE_ADJ.VALUE : Field := mk' 0x50060 0 32 .RO 0
/-- 0x064. Clamped periods begun (R39) -/
def GRID_CLAMP_CNT.VALUE : Field := mk' 0x50064 0 32 .RC 0
/-- +0x0. SSW of the channel's latest tick. Bits [31:16] are reserved (reset: 0x0002 for G0 to G63, 0x0000 otherwise) -/
def GRID_CH_SSW.SSW : Field := mkArr 0x51000 16 512 0 1 0 16 .RO 0
/-- +0x4. τ_g applied, in ps, two's complement -/
def GRID_CH_CORR.VALUE : Field := mkArr 0x51004 16 512 0 1 0 32 .RO 0
/-- +0x8. τ_ext in ps, two's complement -/
def GRID_CH_EXT.VALUE : Field := mkArr 0x51008 16 512 0 1 0 32 .SP 0 |>.srange (-2147483648) 2147483647
/-- +0xC. Phase-delay residual at f_c, in ps, two's complement (R37) -/
def GRID_CH_RESID.VALUE : Field := mkArr 0x5100C 16 512 0 1 0 32 .RO 0
/-- Grid channel 0 to 511 -/
def GRID_TRK_REFB.CH_A : Field := mk' 0x50038 0 9 .SP 0
/-- Grid channel -/
def GRID_TRK_REFB.CH_B : Field := mk' 0x50038 9 9 .SP 0
/-- Grid channel -/
def GRID_TRK_REFB.CH_C : Field := mk' 0x50038 18 9 .SP 0
/-- 0 disabled, 1 single channel CH_A, 2 positive sequence; 3 is rejected at staging -/
def GRID_TRK_REFB.MODE : Field := mk' 0x50038 27 2 .SP 0 |>.range 0 2
/-- Grid channel 0 to 511 -/
def GRID_TRK_REFC.CH_A : Field := mk' 0x5003C 0 9 .SP 0
/-- Grid channel -/
def GRID_TRK_REFC.CH_B : Field := mk' 0x5003C 9 9 .SP 0
/-- Grid channel -/
def GRID_TRK_REFC.CH_C : Field := mk' 0x5003C 18 9 .SP 0
/-- 0 disabled, 1 single channel CH_A, 2 positive sequence; 3 is rejected at staging -/
def GRID_TRK_REFC.MODE : Field := mk' 0x5003C 27 2 .SP 0 |>.range 0 2

/-- Register fields of this file, part 0. -/
def fieldsGrid0 : List Field := [
  GRID_CFG.NOMF,
  GRID_CFG.NP,
  GRID_CFG.NR,
  GRID_STATUS.RUN,
  GRID_STATUS.STRUCT_PEND,
  GRID_STATUS.TRK_STATE,
  GRID_STATUS.TRK_REF,
  GRID_STATUS.NOMF_IF,
  GRID_STATUS.NP_IF,
  GRID_STATUS.NR_IF,
  GRID_TRK_CFG.GAIN,
  GRID_TRK_CFG.JUMP,
  GRID_TRK_CFG.QUAL,
  GRID_TRK_CFG.REVERT,
  GRID_TRK_REFA.CH_A,
  GRID_TRK_REFA.CH_B,
  GRID_TRK_REFA.CH_C,
  GRID_TRK_REFA.MODE,
  GRID_TQ.SOURCE,
  GRID_TQ.LOCKED,
  GRID_TQ.HOLDOVER,
  GRID_TQ.LEAP_PENDING,
  GRID_TQ.ACC,
  GRID_TICK_LO.VALUE,
  GRID_TICK_HI.VALUE,
  GRID_CYCLE.VALUE,
  GRID_PER_INT.VALUE,
  GRID_PER_FRAC.VALUE,
  GRID_FREQ.VALUE,
  GRID_FREQ_MEAS.VALUE,
  GRID_TRK_SLEW.VALUE,
  GRID_TRK_HOLDMAX.VALUE,
  GRID_TRK_MINMAG.VALUE,
  GRID_HOLD_CNT.VALUE,
  GRID_REFCHG_CNT.VALUE,
  GRID_TIME_LO.VALUE,
  GRID_TIME_HI.VALUE,
  GRID_TAI_OFS_LO.VALUE,
  GRID_TAI_OFS_HI.VALUE,
  GRID_UTC_OFS.VALUE,
  GRID_RATE_ADJ.VALUE,
  GRID_CLAMP_CNT.VALUE,
  GRID_CH_SSW.SSW,
  GRID_CH_CORR.VALUE,
  GRID_CH_EXT.VALUE,
  GRID_CH_RESID.VALUE,
  GRID_TRK_REFB.CH_A,
  GRID_TRK_REFB.CH_B,
  GRID_TRK_REFB.CH_C,
  GRID_TRK_REFB.MODE,
  GRID_TRK_REFC.CH_A,
  GRID_TRK_REFC.CH_B,
  GRID_TRK_REFC.CH_C,
  GRID_TRK_REFC.MODE]

/-- Every register field that 01_sample_grid.md gives. -/
def fieldsGrid : List Field := fieldsGrid0

end Sys2Proof.Machine.Reg
end

