-- ==== Sys2Proof/Machine/RegHost.lean ====
section
/-! DEFINITION. The register fields of spec file 15_host_protocol.md: address, array shape, bit place, access code, reset value
and (for a settings field) the range R697 binds. -/
namespace Sys2Proof.Machine.Reg
open Field

/-- A session exists -/
def HOST_STATUS.NEG : Field := mk' 0x0 0 1 .RO 0
/-- Session interface: 0 PCIe, 1 QSPI -/
def HOST_STATUS.IF : Field := mk' 0x0 1 1 .RO 0
/-- IFVER in use; 0 none -/
def HOST_STATUS.IFVER : Field := mk' 0x0 2 2 .RO 0
/-- R583 -/
def HOST_STATUS.CREDIT_OVR : Field := mk' 0x0 4 1 .RO 0
/-- R575 -/
def HOST_STATUS.PTR_ERR : Field := mk' 0x0 5 1 .RO 0
/-- Maintenance mode in force -/
def HOST_STATUS.MAINT : Field := mk' 0x0 6 1 .RO 0
/-- PCIe link up -/
def HOST_STATUS.LINK : Field := mk' 0x0 7 1 .RO 0
/-- 0 down, 1 2.5 GT/s, 2 5.0 GT/s -/
def HOST_STATUS.LINKSPD : Field := mk' 0x0 8 2 .RO 0
/-- 1 requests a host-interface reset (R569) -/
def HOST_CTRL.RESET : Field := mk' 0x4 0 1 .WO 0
/-- 0x008. R583. Bits [31:6] reserved -/
def HOST_CMD_CREDIT.VALUE : Field := mk' 0x8 0 6 .RO 32
/-- 0x00C. Negotiated word, bits [31:0] -/
def HOST_FEAT_LO.VALUE : Field := mk' 0xC 0 32 .RO 0
/-- 0x010. Bits [63:32] -/
def HOST_FEAT_HI.VALUE : Field := mk' 0x10 0 32 .RO 0
/-- 0x014. Device word, bits [31:0] (reset: from OTP) -/
def HOST_DEV_FEAT_LO.VALUE : Field := mk' 0x14 0 32 .RO 0
/-- 0x018. Bits [63:32] (reset: from OTP) -/
def HOST_DEV_FEAT_HI.VALUE : Field := mk' 0x18 0 32 .RO 0
/-- 0x01C. Bit v: vector v raised (R603) -/
def HOST_IRQ_PEND.MASK : Field := mk' 0x1C 0 32 .W1C 0
/-- 0x020. Bit v: vector v drives IRQ_N -/
def HOST_IRQ_MASK.MASK : Field := mk' 0x20 0 32 .RW 0
/-- 0x024. R602. Bits [31:6] reserved -/
def HOST_CAUSE.BITS : Field := mk' 0x24 0 6 .W1C 0
/-- 0x02C. Resyncs (R584) -/
def HOST_RESYNC_CNT.VALUE : Field := mk' 0x2C 0 32 .RC 0
/-- 0x030. R585 -/
def HOST_BADPKT_CNT.VALUE : Field := mk' 0x30 0 32 .RC 0
/-- 0x034. R578 -/
def HOST_MISROUTE_CNT.VALUE : Field := mk' 0x34 0 32 .RC 0
/-- 0x038. µs (R586) -/
def HOST_CMD_LAT_MAX.VALUE : Field := mk' 0x38 0 32 .RC 0
/-- 0x03C. Seconds of lease left. Bits [31:17] reserved -/
def HOST_MAINT_LEFT.VALUE : Field := mk' 0x3C 0 17 .RO 0
/-- 0x040. Host-interface resets -/
def HOST_RESET_CNT.VALUE : Field := mk' 0x40 0 32 .RC 0
/-- 0x044. Ignored pointer and session writes (R568, R575) -/
def HOST_BADPTR_CNT.VALUE : Field := mk' 0x44 0 32 .RC 0
/-- Bit i enables cause i -/
def HOST_CAUSE_CFG.EN : Field := mk' 0x28 0 6 .RW 0
/-- Vector raised -/
def HOST_CAUSE_CFG.VEC : Field := mk' 0x28 16 5 .RW 0
/-- +0x00. Berth enabled (R572) (reset: 1 for B0, B1; 0 otherwise) -/
def HOST_BERTH_CFG.EN : Field := mkArr 0x1000 32 256 0 1 0 1 .RW 0
/-- +0x00. 0 MEASUREMENT, 1 EVENT, 2 RECORD (R576) -/
def HOST_BERTH_CFG.POLICY : Field := mkArr 0x1000 32 256 0 1 1 2 .RW 0
/-- +0x00. Size 1 KB << SIZE, 0 to 10 (reset: 7 for B0, B1; 0 otherwise) -/
def HOST_BERTH_CFG.SIZE : Field := mkArr 0x1000 32 256 0 1 3 4 .RW 0
/-- +0x00. Last enable refused -/
def HOST_BERTH_CFG.CFG_ERR : Field := mkArr 0x1000 32 256 0 1 7 1 .RO 0
/-- +0x00. Offset in KB. Bits [31:20] reserved. B0 resets to 0x0000_0039 and B1 to 0x0000_8039 (reset: 128 for B1; 0 otherwise) -/
def HOST_BERTH_CFG.BASE : Field := mkArr 0x1000 32 256 0 1 8 12 .RW 0
/-- +0x04. R573, R575 -/
def HOST_BERTH_HEAD.VALUE : Field := mkArr 0x1004 32 256 0 1 0 32 .RW 0
/-- +0x08. R573, R575 -/
def HOST_BERTH_TAIL.VALUE : Field := mkArr 0x1008 32 256 0 1 0 32 .RW 0
/-- +0x0C. Vector -/
def HOST_BERTH_IRQ.VEC : Field := mkArr 0x100C 32 256 0 1 0 5 .RW 0
/-- +0x0C. Messages; 0 off -/
def HOST_BERTH_IRQ.THRESH : Field := mkArr 0x100C 32 256 0 1 8 8 .RW 0
/-- +0x0C. µs; 0 off. Bits [7:5] reserved -/
def HOST_BERTH_IRQ.HOLDOFF : Field := mkArr 0x100C 32 256 0 1 16 16 .RW 0
/-- +0x10. Packets or messages held -/
def HOST_BERTH_CNT.VALUE : Field := mkArr 0x1010 32 256 0 1 0 32 .RO 0
/-- +0x14. SEQ of the next message; wraps -/
def HOST_BERTH_SEQ.VALUE : Field := mkArr 0x1014 32 256 0 1 0 32 .RO 0
/-- +0x18. R576 -/
def HOST_BERTH_DROP_CNT.VALUE : Field := mkArr 0x1018 32 256 0 1 0 32 .RC 0

/-- Register fields of this file, part 0. -/
def fieldsHost0 : List Field := [
  HOST_STATUS.NEG,
  HOST_STATUS.IF,
  HOST_STATUS.IFVER,
  HOST_STATUS.CREDIT_OVR,
  HOST_STATUS.PTR_ERR,
  HOST_STATUS.MAINT,
  HOST_STATUS.LINK,
  HOST_STATUS.LINKSPD,
  HOST_CTRL.RESET,
  HOST_CMD_CREDIT.VALUE,
  HOST_FEAT_LO.VALUE,
  HOST_FEAT_HI.VALUE,
  HOST_DEV_FEAT_LO.VALUE,
  HOST_DEV_FEAT_HI.VALUE,
  HOST_IRQ_PEND.MASK,
  HOST_IRQ_MASK.MASK,
  HOST_CAUSE.BITS,
  HOST_RESYNC_CNT.VALUE,
  HOST_BADPKT_CNT.VALUE,
  HOST_MISROUTE_CNT.VALUE,
  HOST_CMD_LAT_MAX.VALUE,
  HOST_MAINT_LEFT.VALUE,
  HOST_RESET_CNT.VALUE,
  HOST_BADPTR_CNT.VALUE,
  HOST_CAUSE_CFG.EN,
  HOST_CAUSE_CFG.VEC,
  HOST_BERTH_CFG.EN,
  HOST_BERTH_CFG.POLICY,
  HOST_BERTH_CFG.SIZE,
  HOST_BERTH_CFG.CFG_ERR,
  HOST_BERTH_CFG.BASE,
  HOST_BERTH_HEAD.VALUE,
  HOST_BERTH_TAIL.VALUE,
  HOST_BERTH_IRQ.VEC,
  HOST_BERTH_IRQ.THRESH,
  HOST_BERTH_IRQ.HOLDOFF,
  HOST_BERTH_CNT.VALUE,
  HOST_BERTH_SEQ.VALUE,
  HOST_BERTH_DROP_CNT.VALUE]

/-- Every register field that 15_host_protocol.md gives. -/
def fieldsHost : List Field := fieldsHost0

end Sys2Proof.Machine.Reg
end

