-- ==== Sys2Proof/Machine/RegPair.lean ====
section
/-! DEFINITION. The register fields of spec file 13_redundant_pair.md: address, array shape, bit place, access code, reset value
and (for a settings field) the range R697 binds. -/
namespace Sys2Proof.Machine.Reg
open Field

/-- Paired operation; takes effect at start-up -/
def PAIR_CFG.EN : Field := mk' 0x100000 0 1 .SP 0
/-- 1 = preferred unit (R489) -/
def PAIR_CFG.RANK : Field := mk' 0x100000 1 1 .SP 0
/-- Failback enabled (R520); used by a rank-1 unit only -/
def PAIR_CFG.FAILBACK : Field := mk' 0x100000 2 1 .SP 1
/-- Lumko versions offered: bit 4 version 1, bit 5 version 2; 0 is rejected at staging -/
def PAIR_CFG.LKV : Field := mk' 0x100000 4 2 .SP 3 |>.range 1 3
/-- R490 -/
def PAIR_STATUS.ROLE : Field := mk' 0x100004 0 3 .RO 0
/-- R522 -/
def PAIR_STATUS.READY : Field := mk' 0x100004 3 1 .RO 0
/-- NOT_READY mask, bit 4 + i for reason i (R522) -/
def PAIR_STATUS.NR : Field := mk' 0x100004 4 9 .RO 64
/-- Lumko version in use; 0 none -/
def PAIR_STATUS.LKVER : Field := mk' 0x100004 13 2 .RO 0
/-- Lumko link up -/
def PAIR_STATUS.LINK : Field := mk' 0x100004 15 1 .RO 0
/-- Towpath path without misses -/
def PAIR_STATUS.TOW : Field := mk' 0x100004 16 1 .RO 0
/-- Detection armed -/
def PAIR_STATUS.DETECT : Field := mk' 0x100004 17 1 .RO 0
/-- Planned handover in progress -/
def PAIR_STATUS.HO : Field := mk' 0x100004 18 1 .RO 0
/-- 0 none, 1 pass, 2 fail, 3 incomplete -/
def PAIR_STATUS.PROOF : Field := mk' 0x100004 19 2 .RO 0
/-- Partner's role, per its latest heartbeat -/
def PAIR_STATUS.PROLE : Field := mk' 0x100004 21 3 .RO 0
/-- Partner READY -/
def PAIR_STATUS.PREADY : Field := mk' 0x100004 24 1 .RO 0
/-- Own claim word (reset: from MRAM) -/
def PAIR_CLAIM.OWN : Field := mk' 0x100008 0 8 .RO 0
/-- Partner claim word as last seen -/
def PAIR_CLAIM.PSEEN : Field := mk' 0x100008 8 8 .RO 0
/-- Own ASSERT -/
def PAIR_CLAIM.ASSERT : Field := mk' 0x100008 16 1 .RO 0
/-- Failed conditions of the latest recovery (R529) -/
def PAIR_DEG_MASK.COND : Field := mk' 0x100044 0 6 .RO 0
/-- Its fault class (R528); 0 none -/
def PAIR_DEG_MASK.CLASS : Field := mk' 0x100044 8 3 .RO 0
/-- 0x00C. Failback hold-off, s, 1 to 3,600; outside is rejected at staging. Bits [31:12] reserved -/
def PAIR_FB_HOLD.VALUE : Field := mk' 0x10000C 0 12 .SP 30 |>.range 1 3600
/-- 0x010. Active unit's n_s of the newest good (standby) or newest sent (active) snapshot, bits [31:0]; a read la -/
def PAIR_SNAP_TICK_LO.VALUE : Field := mk' 0x100010 0 32 .RO 0
/-- 0x014. Bits [63:32] -/
def PAIR_SNAP_TICK_HI.VALUE : Field := mk' 0x100014 0 32 .RO 0
/-- 0x018. Receipt age, µs, saturated; 0xFFFF_FFFF with no good snapshot (R507) -/
def PAIR_SNAP_AGE.VALUE : Field := mk' 0x100018 0 32 .RO 0xffffffff
/-- 0x01C. Snapshots sent, or good snapshots received; wraps -/
def PAIR_SNAP_CNT.VALUE : Field := mk' 0x10001C 0 32 .RO 0
/-- 0x020. Snapshots aborted or discarded (R506, R507) -/
def PAIR_SNAP_DROP_CNT.VALUE : Field := mk' 0x100020 0 32 .RC 0
/-- 0x024. Lumko heartbeat misses (R497) -/
def PAIR_HB_MISS_LK.VALUE : Field := mk' 0x100024 0 32 .RC 0
/-- 0x028. Towpath misses -/
def PAIR_HB_MISS_TOW.VALUE : Field := mk' 0x100028 0 32 .RC 0
/-- 0x02C. θ in ns, bits [31:0]; a read latches HI (R499) -/
def PAIR_DT_OFS_LO.VALUE : Field := mk' 0x10002C 0 32 .RO 0
/-- 0x030. Bits [63:32], two's complement -/
def PAIR_DT_OFS_HI.VALUE : Field := mk' 0x100030 0 32 .RO 0
/-- 0x034. Divergent interval pairs (R509) -/
def PAIR_DIV_CNT.VALUE : Field := mk' 0x100034 0 32 .RC 0
/-- 0x038. Takeovers, planned ones included -/
def PAIR_TO_CNT.VALUE : Field := mk' 0x100038 0 32 .RC 0
/-- 0x03C. Latest takeover, µs from the last heartbeat to gate open (R515) -/
def PAIR_TO_TIME.VALUE : Field := mk' 0x10003C 0 32 .RO 0
/-- 0x040. Ticks replayed in the latest takeover -/
def PAIR_TO_REPLAY.VALUE : Field := mk' 0x100040 0 32 .RO 0
/-- 0x048. Partner settings digest, bits [31:0] -/
def PAIR_PDIG_LO.VALUE : Field := mk' 0x100048 0 32 .RO 0
/-- 0x04C. Bits [63:32] -/
def PAIR_PDIG_HI.VALUE : Field := mk' 0x10004C 0 32 .RO 0
/-- 0x050. CLAIM_LOST occurrences (R503) -/
def PAIR_CLAIMLOST_CNT.VALUE : Field := mk' 0x100050 0 32 .RC 0

/-- Register fields of this file, part 0. -/
def fieldsPair0 : List Field := [
  PAIR_CFG.EN,
  PAIR_CFG.RANK,
  PAIR_CFG.FAILBACK,
  PAIR_CFG.LKV,
  PAIR_STATUS.ROLE,
  PAIR_STATUS.READY,
  PAIR_STATUS.NR,
  PAIR_STATUS.LKVER,
  PAIR_STATUS.LINK,
  PAIR_STATUS.TOW,
  PAIR_STATUS.DETECT,
  PAIR_STATUS.HO,
  PAIR_STATUS.PROOF,
  PAIR_STATUS.PROLE,
  PAIR_STATUS.PREADY,
  PAIR_CLAIM.OWN,
  PAIR_CLAIM.PSEEN,
  PAIR_CLAIM.ASSERT,
  PAIR_DEG_MASK.COND,
  PAIR_DEG_MASK.CLASS,
  PAIR_FB_HOLD.VALUE,
  PAIR_SNAP_TICK_LO.VALUE,
  PAIR_SNAP_TICK_HI.VALUE,
  PAIR_SNAP_AGE.VALUE,
  PAIR_SNAP_CNT.VALUE,
  PAIR_SNAP_DROP_CNT.VALUE,
  PAIR_HB_MISS_LK.VALUE,
  PAIR_HB_MISS_TOW.VALUE,
  PAIR_DT_OFS_LO.VALUE,
  PAIR_DT_OFS_HI.VALUE,
  PAIR_DIV_CNT.VALUE,
  PAIR_TO_CNT.VALUE,
  PAIR_TO_TIME.VALUE,
  PAIR_TO_REPLAY.VALUE,
  PAIR_PDIG_LO.VALUE,
  PAIR_PDIG_HI.VALUE,
  PAIR_CLAIMLOST_CNT.VALUE]

/-- Every register field that 13_redundant_pair.md gives. -/
def fieldsPair : List Field := fieldsPair0

end Sys2Proof.Machine.Reg
end

