-- ==== Sys2Proof/Machine/RegPwr.lean ====
section
/-! DEFINITION. The register fields of spec file 17_power_clocks_startup.md: address, array shape, bit place, access code, reset value
and (for a settings field) the range R697 binds. -/
namespace Sys2Proof.Machine.Reg
open Field

/-- Root PLL locked -/
def CLK_STATUS.LOCK : Field := mk' 0x10000 0 1 .RO 0
/-- REFCLK_25M present (R650) -/
def CLK_STATUS.REF_OK : Field := mk' 0x10000 1 1 .RO 0
/-- VMAIN in the warn state (R643) -/
def PWR_STATUS.VMAIN_WARN : Field := mk' 0x10100 0 1 .RO 0
/-- VAFE low -/
def PWR_STATUS.VAFE_LOW : Field := mk' 0x10100 1 1 .RO 0
/-- VAFE lost -/
def PWR_STATUS.VAFE_LOST : Field := mk' 0x10100 2 1 .RO 0
/-- R560 applied at this start-up -/
def PWR_STATUS.BANK_LOST : Field := mk' 0x10100 3 1 .RO 0
/-- VMAIN warn entered -/
def PWR_UV_STICKY.VMAIN_WARN : Field := mk' 0x10104 0 1 .W1C 0
/-- VAFE low entered -/
def PWR_UV_STICKY.VAFE_LOW : Field := mk' 0x10104 1 1 .W1C 0
/-- VAFE lost entered -/
def PWR_UV_STICKY.VAFE_LOST : Field := mk' 0x10104 2 1 .W1C 0
/-- Cause of the latest reset (R651) (reset: from reset) -/
def PWR_RST_CAUSE.CAUSE : Field := mk' 0x10108 0 4 .RO 0
/-- Cause of the reset before it (reset: from MRAM) -/
def PWR_RST_CAUSE.PREV : Field := mk' 0x10108 4 4 .RO 0
/-- Firmware slot running (reset: from boot) -/
def PWR_RST_CAUSE.SLOT : Field := mk' 0x10108 8 1 .RO 0
/-- Step in progress (R657); 15 BOOT_FAIL -/
def PWR_START.STEP : Field := mk' 0x1010C 0 4 .RO 1
/-- Step 7 used the device's own SELFCAL (R660) -/
def PWR_START.AUTOCAL : Field := mk' 0x1010C 4 1 .RO 0
/-- 0x004. Resets of cause 6 (reset: from MRAM) -/
def CLK_LOL_CNT.VALUE : Field := mk' 0x10004 0 32 .RO 0
/-- 0x110. Entries into non-NORMAL states (R643) -/
def PWR_UV_CNT.VALUE : Field := mk' 0x10110 0 32 .RC 0
/-- 0x114. Resets of every cause (reset: from MRAM) -/
def PWR_RST_CNT.VALUE : Field := mk' 0x10114 0 32 .RO 0
/-- 0x140 + 4 × (s − 1), s = 1 to 10. End of step s, µs; 0 before it ends -/
def PWR_STEP_TIME.VALUE : Field := mkArr 0x10140 4 10 0 1 0 32 .RO 0
/-- 0x000. Unit serial, bits [31:0] (reset: factory) -/
def ID_SERIAL_LO.VALUE : Field := mk' 0x130000 0 32 .OTP 0
/-- 0x004. Bits [63:32] (reset: factory) -/
def ID_SERIAL_HI.VALUE : Field := mk' 0x130004 0 32 .OTP 0
/-- 0x008. Part number -/
def ID_PART.PART : Field := mk' 0x130008 0 16 .OTP 29796
/-- 0x008. Silicon revision. Bits [31:24] reserved (reset: factory) -/
def ID_PART.REV : Field := mk' 0x130008 16 8 .OTP 0
/-- 0x00C. PCI vendor ID -/
def ID_PCI.VENDOR : Field := mk' 0x13000C 0 16 .OTP 7835
/-- 0x00C. PCI device ID -/
def ID_PCI.DEVICE : Field := mk' 0x13000C 16 16 .OTP 29796
/-- 0x010. Running firmware, in the form of R593 word 3 (reset: from boot) -/
def ID_FW_VER.VALUE : Field := mk' 0x130010 0 32 .RO 0
/-- 0x014. Boot ROM version, in the same form (reset: ROM) -/
def ID_ROM_VER.VALUE : Field := mk' 0x130014 0 32 .RO 0
/-- 0x018. Rollback index of the running image (reset: from boot) -/
def ID_FW_SLOT.RB : Field := mk' 0x130018 0 8 .RO 0
/-- 0x018. Lowest rollback index accepted (R655). Bits [31:16] reserved (reset: factory) -/
def ID_FW_SLOT.RB_MIN : Field := mk' 0x130018 8 8 .OTP 0
/-- 0x020. R654, bits [31:0] (reset: factory) -/
def ID_ROOTKEY_DIG_LO.VALUE : Field := mk' 0x130020 0 32 .OTP 0
/-- 0x024. Bits [63:32] (reset: factory) -/
def ID_ROOTKEY_DIG_HI.VALUE : Field := mk' 0x130024 0 32 .OTP 0
/-- 0x030. MAC octets 2 to 5, the source of `PBUS_MAC_LO` (reset: factory) -/
def ID_MAC_LO.VALUE : Field := mk' 0x130030 0 32 .OTP 0
/-- 0x034. Octets 0 and 1. Bits [31:16] reserved (reset: factory) -/
def ID_MAC_HI.VALUE : Field := mk' 0x130034 0 16 .OTP 0
/-- 0x038. Source of `HOST_DEV_FEAT_LO` (reset: factory) -/
def ID_DEV_FEAT_LO.VALUE : Field := mk' 0x130038 0 32 .OTP 0
/-- 0x03C. Source of `HOST_DEV_FEAT_HI` (reset: factory) -/
def ID_DEV_FEAT_HI.VALUE : Field := mk' 0x13003C 0 32 .OTP 0
/-- 0x040. Lumko egress delay, ps, matched under R499 (reset: factory) -/
def ID_LK_DLY.TX : Field := mk' 0x130040 0 16 .OTP 0
/-- 0x040. Lumko ingress delay, ps (reset: factory) -/
def ID_LK_DLY.RX : Field := mk' 0x130040 16 16 .OTP 0
/-- +0x00. O_fac of A, splice units, two's complement (reset: factory) -/
def ID_AFE_OFS_A.VALUE : Field := mkArr 0x131000 32 64 0 1 0 24 .OTP 0
/-- +0x04. G_fac of A, Q2.22 (reset: factory) -/
def ID_AFE_GAIN_A.VALUE : Field := mkArr 0x131004 32 64 0 1 0 24 .OTP 0
/-- +0x08. O_fac of B at gain 32 (reset: factory) -/
def ID_AFE_OFS_B32.VALUE : Field := mkArr 0x131008 32 64 0 1 0 24 .OTP 0
/-- +0x0C. G_fac of B at gain 32 (reset: factory) -/
def ID_AFE_GAIN_B32.VALUE : Field := mkArr 0x13100C 32 64 0 1 0 24 .OTP 0
/-- +0x10. O_fac of B at gain 1 (reset: factory) -/
def ID_AFE_OFS_B1.VALUE : Field := mkArr 0x131010 32 64 0 1 0 24 .OTP 0
/-- +0x14. G_fac of B at gain 1 (reset: factory) -/
def ID_AFE_GAIN_B1.VALUE : Field := mkArr 0x131014 32 64 0 1 0 24 .OTP 0
/-- +0x18. S_fac, ps, two's complement (R72) (reset: factory) -/
def ID_AFE_SKEW.VALUE : Field := mkArr 0x131018 32 64 0 1 0 32 .OTP 0
/-- +0x1C. Test-bus delay to the channel, ps (R113) (reset: factory) -/
def ID_AFE_TBUS.VALUE : Field := mkArr 0x13101C 32 64 0 1 0 32 .OTP 0
/-- +0x00. O_fac, LSB, two's complement. Bits [31:16] reserved (reset: factory) -/
def ID_AUX_OFS.VALUE : Field := mkArr 0x132000 128 2 0 1 0 16 .OTP 0
/-- +0x04. G_fac, Q2.22. Bits [31:24] reserved (reset: factory) -/
def ID_AUX_GAIN.VALUE : Field := mkArr 0x132004 128 2 0 1 0 24 .OTP 0
/-- +0x08 + 4 × (k − 16), k = 16 to 22. D_fac of input k, Q2.22 (R122). Bits [31:24] reserved (reset: factory) -/
def ID_AUX_DIV.VALUE : Field := mkArr 0x132008 128 2 4 7 0 24 .OTP 0

/-- Register fields of this file, part 0. -/
def fieldsPwr0 : List Field := [
  CLK_STATUS.LOCK,
  CLK_STATUS.REF_OK,
  PWR_STATUS.VMAIN_WARN,
  PWR_STATUS.VAFE_LOW,
  PWR_STATUS.VAFE_LOST,
  PWR_STATUS.BANK_LOST,
  PWR_UV_STICKY.VMAIN_WARN,
  PWR_UV_STICKY.VAFE_LOW,
  PWR_UV_STICKY.VAFE_LOST,
  PWR_RST_CAUSE.CAUSE,
  PWR_RST_CAUSE.PREV,
  PWR_RST_CAUSE.SLOT,
  PWR_START.STEP,
  PWR_START.AUTOCAL,
  CLK_LOL_CNT.VALUE,
  PWR_UV_CNT.VALUE,
  PWR_RST_CNT.VALUE,
  PWR_STEP_TIME.VALUE,
  ID_SERIAL_LO.VALUE,
  ID_SERIAL_HI.VALUE,
  ID_PART.PART,
  ID_PART.REV,
  ID_PCI.VENDOR,
  ID_PCI.DEVICE,
  ID_FW_VER.VALUE,
  ID_ROM_VER.VALUE,
  ID_FW_SLOT.RB,
  ID_FW_SLOT.RB_MIN,
  ID_ROOTKEY_DIG_LO.VALUE,
  ID_ROOTKEY_DIG_HI.VALUE,
  ID_MAC_LO.VALUE,
  ID_MAC_HI.VALUE,
  ID_DEV_FEAT_LO.VALUE,
  ID_DEV_FEAT_HI.VALUE,
  ID_LK_DLY.TX,
  ID_LK_DLY.RX,
  ID_AFE_OFS_A.VALUE,
  ID_AFE_GAIN_A.VALUE,
  ID_AFE_OFS_B32.VALUE,
  ID_AFE_GAIN_B32.VALUE,
  ID_AFE_OFS_B1.VALUE,
  ID_AFE_GAIN_B1.VALUE,
  ID_AFE_SKEW.VALUE,
  ID_AFE_TBUS.VALUE,
  ID_AUX_OFS.VALUE,
  ID_AUX_GAIN.VALUE,
  ID_AUX_DIV.VALUE]

/-- Every register field that 17_power_clocks_startup.md gives. -/
def fieldsPwr : List Field := fieldsPwr0

end Sys2Proof.Machine.Reg
end

