-- ==== Sys2Proof/Machine/RegBist.lean ====
section
/-! DEFINITION. The register fields of spec file 16_self_test_and_spares.md: address, array shape, bit place, access code, reset value
and (for a settings field) the range R697 binds. -/
namespace Sys2Proof.Machine.Reg
open Field

/-- A host BIST runs -/
def BIST_STATUS.BUSY : Field := mk' 0x120000 0 1 .RO 0
/-- TARGET of the running or latest host BIST -/
def BIST_STATUS.TGT : Field := mk' 0x120000 4 12 .RO 0
/-- Its result: 0 PASS, 1 FAIL, 2 INCOMPLETE; 3 none -/
def BIST_STATUS.LAST : Field := mk' 0x120000 16 2 .RO 0
/-- Rotation suspended under R257 -/
def BIST_STATUS.ROT_SUSP : Field := mk' 0x120000 18 1 .RO 0
/-- Rolling spare rotation (R613) -/
def BIST_CFG.ROT_EN : Field := mk' 0x120004 0 1 .SP 1
/-- Rotation pattern code; 3 is rejected at staging -/
def BIST_CFG.PAT : Field := mk' 0x120004 1 2 .SP 2 |>.range 0 2
/-- Rotation period, s, 10 to 3,600; outside is rejected at staging -/
def BIST_CFG.PERIOD : Field := mk' 0x120004 4 12 .SP 60 |>.range 10 3600
/-- 0x008. Spare engine; 0xF none. Bits [31:4] reserved -/
def BIST_SPARE.ENG : Field := mk' 0x120008 0 4 .RO 15
/-- 0x00C. Rotations completed; wraps -/
def BIST_ROT_CNT.VALUE : Field := mk' 0x12000C 0 32 .RO 0
/-- 0x010. MISR of the latest engine test, bits [31:0]; a read latches HI -/
def BIST_MISR_LO.VALUE : Field := mk' 0x120010 0 32 .RO 0
/-- 0x014. Bits [63:32] -/
def BIST_MISR_HI.VALUE : Field := mk' 0x120014 0 32 .RO 0
/-- 0x018. Sealed count of the latest engine test -/
def BIST_PATCNT.VALUE : Field := mk' 0x120018 0 32 .RO 0
/-- 0x400. Spare blocks remaining. Bits [31:11] reserved (reset: from map) -/
def BIST_NAND_SPARE.VALUE : Field := mk' 0x120400 0 11 .RO 0
/-- 0x404. Blocks retired (reset: from map) -/
def BIST_NAND_RETIRED.VALUE : Field := mk' 0x120404 0 32 .RO 0
/-- 0x408. Highest erase count (reset: from map) -/
def BIST_NAND_PE_MAX.VALUE : Field := mk' 0x120408 0 32 .RO 0
/-- 0x40C. Mean erase count, rounded down (reset: from map) -/
def BIST_NAND_PE_AVG.VALUE : Field := mk' 0x12040C 0 32 .RO 0
/-- 0x410. Life used, % (R628). Bits [31:8] reserved (reset: from map) -/
def BIST_NAND_LIFE.VALUE : Field := mk' 0x120410 0 8 .RO 0
/-- 0x500. Spare sectors remaining, 0 to 64. Bits [31:7] reserved (reset: from MRAM) -/
def BIST_MRAM_SPARE.VALUE : Field := mk' 0x120500 0 7 .RO 0
/-- 0x504. Sectors spared (reset: from MRAM) -/
def BIST_MRAM_SPARED_CNT.VALUE : Field := mk' 0x120504 0 32 .RO 0
/-- +0x0. Not failed (R610, R611) -/
def BIST_ENG_STATUS.HEALTHY : Field := mkArr 0x120100 16 9 0 1 0 1 .RO 0
/-- +0x0. Carries bays -/
def BIST_ENG_STATUS.CARRYING : Field := mkArr 0x120100 16 9 0 1 1 1 .RO 0
/-- +0x0. Logic BIST running -/
def BIST_ENG_STATUS.TESTING : Field := mkArr 0x120100 16 9 0 1 2 1 .RO 0
/-- +0x0. 0 none, 1 PASS, 2 FAIL, 3 INCOMPLETE -/
def BIST_ENG_STATUS.LAST : Field := mkArr 0x120100 16 9 0 1 3 2 .RO 0
/-- +0x0. Failure cause (R611); 0 none. Bits [31:8] reserved -/
def BIST_ENG_STATUS.CAUSE : Field := mkArr 0x120100 16 9 0 1 5 3 .RO 0
/-- +0x4. PASS results; wraps -/
def BIST_ENG_PASS_CNT.VALUE : Field := mkArr 0x120104 16 9 0 1 0 32 .RO 0
/-- +0x8. Seconds since the latest PASS, saturated -/
def BIST_ENG_AGE.VALUE : Field := mkArr 0x120108 16 9 0 1 0 32 .RO 0xffffffff
/-- +0xC. INCOMPLETE results -/
def BIST_ENG_INC_CNT.VALUE : Field := mkArr 0x12010C 16 9 0 1 0 32 .RC 0
/-- +0x0. Rows soft-repaired at the latest start-up -/
def BIST_SRAM_REP.SOFT : Field := mkArr 0x120200 8 32 0 1 0 5 .RO 0
/-- +0x0. Rows fused (reset: from fuses) -/
def BIST_SRAM_REP.FUSED : Field := mkArr 0x120200 8 32 0 1 8 5 .RO 0
/-- +0x0. Repair candidates (R620). Bits [7:5], [15:13] and [31:21] reserved (reset: from MRAM) -/
def BIST_SRAM_REP.CAND : Field := mkArr 0x120200 8 32 0 1 16 5 .RO 0
/-- +0x4. Corrected errors -/
def BIST_SRAM_CE_CNT.VALUE : Field := mkArr 0x120204 8 32 0 1 0 32 .RC 0

/-- Register fields of this file, part 0. -/
def fieldsBist0 : List Field := [
  BIST_STATUS.BUSY,
  BIST_STATUS.TGT,
  BIST_STATUS.LAST,
  BIST_STATUS.ROT_SUSP,
  BIST_CFG.ROT_EN,
  BIST_CFG.PAT,
  BIST_CFG.PERIOD,
  BIST_SPARE.ENG,
  BIST_ROT_CNT.VALUE,
  BIST_MISR_LO.VALUE,
  BIST_MISR_HI.VALUE,
  BIST_PATCNT.VALUE,
  BIST_NAND_SPARE.VALUE,
  BIST_NAND_RETIRED.VALUE,
  BIST_NAND_PE_MAX.VALUE,
  BIST_NAND_PE_AVG.VALUE,
  BIST_NAND_LIFE.VALUE,
  BIST_MRAM_SPARE.VALUE,
  BIST_MRAM_SPARED_CNT.VALUE,
  BIST_ENG_STATUS.HEALTHY,
  BIST_ENG_STATUS.CARRYING,
  BIST_ENG_STATUS.TESTING,
  BIST_ENG_STATUS.LAST,
  BIST_ENG_STATUS.CAUSE,
  BIST_ENG_PASS_CNT.VALUE,
  BIST_ENG_AGE.VALUE,
  BIST_ENG_INC_CNT.VALUE,
  BIST_SRAM_REP.SOFT,
  BIST_SRAM_REP.FUSED,
  BIST_SRAM_REP.CAND,
  BIST_SRAM_CE_CNT.VALUE]

/-- Every register field that 16_self_test_and_spares.md gives. -/
def fieldsBist : List Field := fieldsBist0

end Sys2Proof.Machine.Reg
end

