-- ==== Sys2Proof/Machine/StAfe.lean ====
section
/-! DEFINITION. State of the analog front end and of the filter chain (R56 to R116, R152 to R197). -/
namespace Sys2Proof.Machine

/-- A coefficient bank (R175): TYPE (false linear-phase, true minimum-phase), RCODE, h, g, and for a minimum-phase bank
the tables GD and PR; `rom` when it was loaded as a standard set. -/
structure FBank where
  minPhase : Bool
  rcode : Nat
  h : List Int
  g : List Int
  gd : List Nat
  pr : List Int
  rom : Bool
  deriving DecidableEq, Repr

/-- The state of the splice block (R73). -/
inductive Splice where
  | fine | fadeUp | wide | fadeDown
  deriving DecidableEq, Repr

/-- A base-rate sample: strobe in 2^-32 device-time units (R40), value (R155), flags in the layout of the SSW (R48). -/
structure BaseSmp where
  s : Nat
  v : Int
  flags : Nat
  deriving DecidableEq, Repr

/-- A third-order decimator of the validation stream (R81): integrators and combs. -/
structure Cic3 where
  i0 : Int := 0
  i1 : Int := 0
  i2 : Int := 0
  c0 : Int := 0
  c1 : Int := 0
  c2 : Int := 0
  deriving DecidableEq, Repr

/-- The open validation window of a channel (R81 to R89): samples seen, samples scored, the sums of squares of A - B and
of the reference, the run of samples beyond the instantaneous limit, whether a check failed in it. -/
structure ValWin where
  seen : Nat := 0
  scored : Nat := 0
  sumD : Nat := 0
  sumR : Nat := 0
  instRun : Nat := 0
  failed : Bool := false
  deriving DecidableEq, Repr

/-- An interval of a channel's own time (device time, 2^-32 units) in which its words carry a flag (R64, R101, R105, R108): the flag,
where it begins, and where it ends if that is known. -/
structure FlagSpan where
  flag : Nat
  lo : Nat
  hi : Option Nat := none
  deriving DecidableEq, Repr

/-- A modulator's overload (R74, R91, R92): the run of full-scale codes, the periods for which the detector has been active since the
latest reset, the periods of a reset still to come. -/
structure Ovl where
  run : Nat := 0
  act : Nat := 0
  rst : Nat := 0
  deriving DecidableEq, Repr

/-- A coefficient swap (R180 to R187): TAG and serial number of its command, FADE, start instant in 2^-32 units, or the tick
that gives it. -/
structure SwapReq where
  tag : Nat
  id : Nat
  fade : Nat
  start : Nat
  tick : Option Nat := none
  deriving DecidableEq, Repr

/-- What a procedure has changed on a channel whose own time (2^-32 units) has not reached the change: until `at'` the datapath works with the
register values `regs` (by key); at it the failures of validation are forgotten (`heal`), or the channel works as WIDE_ONLY (`wide`)
(R68, R86, R100, R103). -/
structure Held where
  at' : Nat
  regs : Tab Nat := []
  heal : Bool := false
  wide : Bool := false
  deriving DecidableEq, Repr

/-- The banks by which a channel computes up to a swap tick that its own time has not reached, when the new settings change its R (R188): the
active one, the incoming one, whether it fades, over how many samples (2^fade) and how far, and whether the fade blanks the output. -/
structure FltWas where
  act : FBank
  inc : FBank
  fading : Bool
  fade : Nat
  pos : Nat
  hold : Bool
  deriving DecidableEq, Repr

/-- A base-rate sample whose strobe is still to come (R164, R169): the strobe in 2^-32 units, how many prototype periods its newest word of
the compensation FIR lies back, the words of that FIR since the sample before it, the normaliser outputs since its own. -/
structure BasePend where
  sig : Nat
  i : Nat
  words : Nat
  lag : Nat := 0
  deriving DecidableEq, Repr

/-- One local channel. `tm` is the device time of its next modulator period (2^-32 units); `hA`, `hB` the corrected undelayed words, newest first;
`wA` the weight of A in 64ths; `low` the periods for which E_w has been below the down threshold; `oA`, `oB` the overload detectors; `valFail` the
QUESTIONABLE cause of R84; `fails` the consecutive failing windows; `wideOnly` that a diagnosis found B faulty and A good (R86); `clip` CLIPPED in
force; `vA`, `vB`, `vPh`, `win` the validation streams and `valFrom` the time from which they are checked (R103); `spans` the intervals in which
words carry SETTLING or SELFTEST; `restarts` the times at which the splice restarts (R73); `integ`, `comb`, `ph`, `uH`, `uPh`, `zPh` the filter
chain (R157, R161), `words` the words of the compensation FIR since its latest output and `pend` the outputs whose strobes are to come (R163,
R164); `marks` the time of the latest word with each flag (R169, R170); `base` the base-rate samples, newest first (R43); `bankA`, `bankB`,
`swap`, `queued`, `pos`, `holdSet`, `setUntil` the coefficient banks and fades (R175 to R187); `sync` the reset instants (2^-32 units) still to
come (R173); `powerUp` the end of the settling of its group after a power-up (R105, R174); `chg` the instant of a settings swap that its own time
has not reached, `was` the banks it computes with until then and `held` what a procedure changed ahead of its own time; `cyc` the bank that was
active at the first tick of the cycle (R186); `calAt` the start of its latest self-calibration (R97); `ev` the happenings of the run in progress.
-/
structure ChanSt where
  tm : Nat := 0
  hA : List Int := []
  hB : List Int := []
  st : Splice := .wide
  wA : Nat := 64
  low : Nat := 0
  oA : Ovl := {}
  oB : Ovl := {}
  valFail : Bool := false
  fails : Nat := 0
  wideOnly : Bool := false
  clip : Bool := false
  vA : Cic3 := {}
  vB : Cic3 := {}
  vPh : Nat := 0
  win : ValWin := {}
  valFrom : Nat := 0
  spans : List FlagSpan := []
  restarts : List Nat := []
  integ : List Int := []
  comb : List Int := []
  ph : Nat := 0
  uH : List Int := []
  uPh : Nat := 0
  zPh : Nat := 0
  words : Nat := 0
  pend : List BasePend := []
  marks : Tab Nat := []
  base : List BaseSmp := []
  bankA : Option FBank := none
  bankB : Option FBank := none
  swap : Option SwapReq := none
  fading : Bool := false
  queued : Option SwapReq := none
  pos : Nat := 0
  holdSet : Bool := false
  setUntil : Option Nat := none
  sync : List Nat := []
  powerUp : Option Nat := none
  chg : Option Nat := none
  was : Option FltWas := none
  held : Option Held := none
  cyc : Option FBank := none
  calAt : Option Nat := none
  ev : Nat := 0
  deriving DecidableEq, Repr

/-- A SELFCAL in progress (R94 to R101): groups still to calibrate, converters selected, the start of their calibration, those still running,
passed, failed, the group under calibration with the device time of its start, the time of acceptance or of the previous group's end, passing and
failing groups, whether VAFE was low or lost during the group in hand, whether the device itself started it. -/
structure CalRun where
  groups : List Nat
  aux : Nat
  auxStart : Option Nat
  auxRun : Nat
  auxPass : Nat := 0
  auxFail : Nat := 0
  cur : Option (Nat × Nat)
  ready : Nat
  pass : Nat
  fail : Nat
  badVafe : Bool
  deriving DecidableEq, Repr

/-- The analog front end as a whole: channels; the SELFCAL in progress; the path diagnosis (channel and start); the skew calibration (mask and
start); swap commands not yet finished (serial number, TAG, channels left); the number of swap commands so far; the device time at which the
host's waveform on the test DAC began (R106); the device times at which groups are settled after a power-up (R104). -/
structure AfeSt where
  ch : Tab ChanSt := []
  cal : Option CalRun := none
  diag : Option (Nat × Nat) := none
  skew : Option (Nat × Nat) := none
  swaps : List (Nat × Nat × List Nat) := []
  swapNo : Nat := 0
  dacAt : Nat := 0
  settled : Tab Nat := []
  deriving DecidableEq, Repr

/-- The state of a threshold detector that its registers do not hold: how many ticks its window has seen since it was
restarted (R194), the next tick it evaluates, the swap tick at which it restarts once the ticks before it are evaluated, what its latest
evaluation brought (1 pickup, 2 dropout), STATE over ticks. -/
structure TdSt where
  since : Nat := 0
  next : Nat := 0
  restart : Option Nat := none
  fired : Nat := 0
  out : Trace := []
  deriving DecidableEq, Repr

/-- What the front end keeps in MRAM, each in two alternating copies: skew-calibration results (R114); the coefficient banks and the
active selection of each channel (R179). -/
structure AfeNv where
  skew : TwoCopies (Tab Int) := {}
  store : TwoCopies (Tab (Option FBank × Option FBank × Nat)) := {}
  deriving DecidableEq, Repr

end Sys2Proof.Machine
end

