-- ==== Sys2Proof/Machine/StAux.lean ====
section
/-! DEFINITION. State of the housekeeping converters (R117 to R151). -/
namespace Sys2Proof.Machine

/-- A running scan (R124, R130): inputs still to convert, instant of its first conversion; `cut` when it ends with the conversion in
progress (R149). -/
structure Scan where
  left : List Nat
  first : Option Nat
  cut : Bool := false
  deriving DecidableEq, Repr

/-- One converter. `wait` is the instant at which the waiting trigger's delay expires (R126); `timer` the instant from which the timer trigger
counts (R125); `tickDone` the tick whose trigger has fired; `scan` the running scan; `free` the start of the slot it comes to next; `ins` the
slots taken by inserted conversions (R129); `inj` the latched injected request and when it was latched, `injAt` the slot given to it, `injRun` the
injected conversion in progress with its slot (R134); `bad` the inputs outside their limits (R144). -/
structure AuxConv where
  wait : Option Nat := none
  timer : Nat := 0
  tickDone : Option Nat := none
  scan : Option Scan := none
  free : Nat := 0
  ins : List Nat := []
  inj : Option (Nat × Nat) := none
  injAt : Option Nat := none
  injRun : Option (Nat × Nat) := none
  bad : List Nat := []
  deriving DecidableEq, Repr

/-- The two converters; the slot given to a due cross-check, the boundary of the latest one, the run of failing ones
(R140 to R142). -/
structure AuxSt where
  conv : Tab AuxConv := []
  xAt : Option Nat := none
  xLast : Nat := 0
  xRun : Nat := 0
  deriving DecidableEq, Repr

end Sys2Proof.Machine
end

