-- ==== Sys2Proof/Machine/StBist.lean ====
section
/-! DEFINITION. State of self-test, repair and the spares (R606 to R638). -/
namespace Sys2Proof.Machine

/-- A logic BIST that runs on an engine: why (0 rotation, 1 host, 2 proof cycle), its pattern code, its start, whether it is the
repeat of R609. -/
structure EngTest where
  kind : Nat
  pat : Nat
  start : Nat
  again : Bool
  deriving DecidableEq, Repr

/-- A host BIST of a block that is no engine: TARGET and its start. -/
structure HostTest where
  tgt : Nat
  start : Nat
  deriving DecidableEq, Repr

/-- A macro's soft repairs being burned: the rows, when the first began and when the last is done (R622). -/
structure Burn where
  rows : List Nat
  start : Nat
  done : Nat
  deriving DecidableEq, Repr

/-- The self-test block: tests by engine; the host test of another block; the engine of each bay that is carried; the latest
multiple of PERIOD served; the latest PASS of each engine; the engine that a proof cycle is at, and whether it has seen a
FAIL or an INCOMPLETE; the start of the latest proof cycle; corrected errors by macro: row and time; rows of each macro soft-repaired and
not yet fused; burns; whether bays are to be placed again at the next tick boundary (R258). -/
structure BistSt where
  eng : Tab EngTest := []
  host : Option HostTest := none
  sets : Tab Nat := []
  rotAt : Nat := 0
  passAt : Tab Nat := []
  proof : Option (Nat × Bool × Bool) := none
  proofAt : Option Nat := none
  ce : Tab (List (Nat × Nat)) := []
  soft : Tab (List Nat) := []
  burns : Tab Burn := []
  placeDue : Bool := false
  deriving DecidableEq, Repr

/-- Spares and repair maps in MRAM and fuses (R618 to R631): repair candidates, fused rows and fuse entries used of each macro; NAND
spares, retired blocks, blocks marked bad, record blocks lost, erasures so far, the life percentage last logged; MRAM spares. -/
structure BistNv where
  cand : Tab (List Nat) := []
  fused : Tab Nat := []
  used : Tab Nat := []
  nandSpare : Nat := 1147
  nandRetired : Nat := 0
  nandBad : List Nat := []
  nandLost : Nat := 0
  erases : Nat := 0
  life : Nat := 0
  mramSpare : Nat := 64
  mramSpared : Nat := 0
  deriving DecidableEq, Repr

end Sys2Proof.Machine
end

