-- ==== Sys2Proof/Machine/StCust.lean ====
section
/-! DEFINITION. State of settings custody (R534 to R562). -/
namespace Sys2Proof.Machine

/-- A key slot (R540): its role (0 empty) and public key bytes, and how many endorsements it gave. -/
structure KeySlot where
  role : Nat := 0
  key : List (BitVec 8) := []
  uses : Nat := 0
  deriving DecidableEq, Repr

/-- An endorsement held by a gate of the lock chamber (R547): slot, role, counter. -/
structure Gate where
  slot : Nat
  role : Nat
  ctr : Nat
  deriving DecidableEq, Repr

/-- The pending record (R552): the bank to come into force with its digests, AT with its TAI, SET_CTR, the acceptance time. -/
structure PendRec where
  bank : Bank
  bdig : Nat
  sdig : Nat
  at' : Option Int
  ctr : Nat
  accepted : Nat
  deriving DecidableEq, Repr

/-- What the older copies of the selector record, the slot table and SET_CTR hold: custody as it stood before its latest durable
operation (R545, R552, R554). -/
structure CustOld where
  bank : Bank
  pend : Option PendRec
  ctr : Nat
  slots : Tab KeySlot
  commits : Nat
  closed : Bool
  deriving DecidableEq, Repr

/-- The durable part of custody in MRAM, as the newer copies hold it: the bank in force, the pending record, SET_CTR, the key slots, the
number of banks brought into force, the custody state (open until two roles are enrolled, R542); whether no selector copy or not the
bank it names is good (R560), whether the chamber was left in a state other than EMPTY (R559), and the older copies. -/
structure CustNv where
  bank : Bank := {}
  pend : Option PendRec := none
  ctr : Nat := 1
  slots : Tab KeySlot := []
  commits : Nat := 0
  closed : Bool := false
  bad : Bool := false
  work : Bool := false
  old : Option CustOld := none
  deriving DecidableEq, Repr

/-- The volatile part of custody: the shadow bank, the staged digest, the gates, the device times of AUTH_FAIL replies
and the end of a lockout (R546), the digest of the bank before the one in force (R507). -/
structure CustSt where
  shadow : Option Bank := none
  sdig : Nat := 0
  g1 : Option Gate := none
  g2 : Option Gate := none
  fails : List Nat := []
  lockEnd : Option Nat := none
  prevDig : Nat := 0
  deriving DecidableEq, Repr

end Sys2Proof.Machine
end

