-- ==== Sys2Proof/Machine/StDio.lean ====
section
/-! DEFINITION. State of the field die and of the isolator link (R384 to R426). -/
namespace Sys2Proof.Machine

/-- An output that a thermal shutdown holds off: the device time of its next retry (R401). -/
structure Shut where
  at' : Nat
  deriving DecidableEq, Repr

/-- The claim line as one die sees it (R415 to R422): own word and ASSERT in the die, the latest valid partner frame and its
arrival, gate, supervision: own frames in a row that read back with an error; `got` a valid partner frame since the own latest frame, `run`
the cycles in a row with valid frames both ways (R421);
the latest frame sent (16 bits in order of transmission), a closing by a higher claim not yet reported; `next` the earliest start of its
next frame; `stepAt` the arrival of the latest valid rank-1 frame, `answered` that a rank-0 die has sent the frame after it (R417). -/
structure ClaimSt where
  own : Nat := 0
  assert_ : Bool := false
  pWord : Nat := 0
  pAssert : Bool := false
  pAt : Option Nat := none
  seen : Bool := false
  gate : Bool := false
  bad : Nat := 0
  got : Bool := false
  run : Nat := 0
  sent : List Bool := []
  lost : Bool := false
  next : Nat := 0
  stepAt : Option Nat := none
  answered : Bool := false
  deriving DecidableEq, Repr

/-- The field die and the link to it. `bind` is the bank whose DIR, PAR and PARTNER are in force when it is not the one in force (R391); `reset`
and `cfg`: held in reset, configured since; `uv` and `mv`: the state of VFIELD and its value, `vfAt` the millisecond in which DIO_VFIELD was last
updated; `cmd`, `cls`, `drv`, `pad`: commands received, class in force, drivers on, pads read high; `lim` outputs that limit; `ival` the debounced
inputs; `stuck`, `confl`, `openL`, `ovl` the outputs with a diagnostic flag set, `ovlAt` the latest limiting or switching-on of an output whose
OVERLOAD is set (R401, R402); `link` the link as the die sees it, `frameAt` and `readAt` the latest valid frame of each direction, `lostAt` the
loss in progress, `loss` that the logic side has logged one, `holdOff` that LINKHOLD has expired; `queue` the soft-start queue with the time each
channel entered it, `inrush` the end of each channel's inrush, `slot` the latest slot served; `shut` thermal shutdowns; `ret` the return of an
input's valid flag while no change has followed (R395); `test` field channels under BIST; `wb` wire break detected; `seq` and `applied` the frame
sequence; `tow` the level ordered on TOW_OUT, `towOut` the level driven, `towIn` the level read, `towAt` its latest edge and `towNew` an edge
since the previous readback frame; `health` that the supervisor refreshes; `aliveReq` the request in the die; `alOvl` the retry time of an
overloaded ALIVE_OUT; `meas` the channel measured next; `conf` the configuration words that the logic side has still to send and `whole` that they
are the whole configuration, `words` those the die holds and `cfgAt` the one that the latest command frame named (R386), by word offset in the
DIO_ block; `frame` the bits of the latest readback frame that the logic side has received, bit 0 first; `deb` the swap tick at which an input's
timing restarts (R423). -/
structure DioSt where
  bind : Option Bank := none
  reset : Bool := true
  cfg : Bool := false
  uv : Nat := 0
  mv : Nat := 0
  vfAt : Nat := 0
  cmd : Nat := 0
  cls : Tab Nat := []
  drv : Nat := 0
  pad : Nat := 0
  lim : Nat := 0
  ival : Nat := 0
  stuck : Nat := 0
  confl : Nat := 0
  openL : Nat := 0
  ovl : Nat := 0
  ovlAt : Tab Nat := []
  link : Bool := false
  frameAt : Nat := 0
  readAt : Nat := 0
  lostAt : Option Nat := none
  loss : Bool := false
  holdOff : Bool := false
  queue : List (Nat × Nat) := []
  inrush : Tab Nat := []
  slot : Nat := 0
  shut : Tab Shut := []
  ret : Tab Nat := []
  test : Nat := 0
  wb : Nat := 0
  seq : Nat := 0
  applied : Nat := 0
  tow : Bool := false
  towOut : Bool := false
  towIn : Bool := false
  towAt : Option Nat := none
  towNew : Bool := false
  health : Bool := false
  aliveReq : Bool := false
  alOvl : Option Nat := none
  meas : Nat := 0
  conf : List Nat := []
  whole : Bool := false
  words : Tab Nat := []
  cfgAt : Nat := 0
  frame : Nat := 0
  deb : Tab Nat := []
  claim : ClaimSt := {}
  deriving DecidableEq, Repr

end Sys2Proof.Machine
end

