-- ==== Sys2Proof/Machine/StGrid.lean ====
section
/-! DEFINITION. State of device time, the sample grid and the tracker (R8 to R55). -/
namespace Sys2Proof.Machine

/-- What the tracker holds for one reference (R25, R26): the angle read at the first tick of the latest cycle, its
measured frequency of that cycle in uHz, the count of successive qualifying cycles, and whether it qualified. -/
structure TrackRef where
  ang : Option Int := none
  fmeas : Option Int := none
  run : Nat := 0
  ok : Bool := false
  deriving DecidableEq, Repr

/-- Device time, the grid and the tracker. `now` and `frac` are the integer part and the 2^-32 fraction of device
time (R10); `bound` is V, which MRAM keeps (R12); `delta` is the servo's rate adjustment and `deltaEnd` the
device time at which it returns to 0 (R231); `hist` holds the ticks, newest first; `disc` gives the swap tick at which what
reference i had built up was discarded (R26); `lastValid` is each channel's value at its last VALID sample
(R51); `clamped` marks channels in a clamped period (R39); `corr` is each channel's correction now in ps (R34, R35) and `part` what it
takes beside D_chain (R34, R35, R72); `trkDone` says that the tracker decided the cycle of the newest tick, `fixed` that the decision came
too late for that cycle's period, and `nextF` is then the frequency that it gives the next cycle (log entry 105). -/
structure GridSt where
  now : Nat := 0
  frac : Nat := 0
  bound : TwoCopies Nat := { newer := some 0 }
  delta : Int := 0
  deltaEnd : Option Nat := none
  taiOfs : Int := 0
  hist : List TickRec := []
  nextN : Nat := 0
  nextT : Nat := 0
  per : Nat := 62500 * 2 ^ 24
  freq : Nat := 50000000
  refs : Tab TrackRef := []
  disc : Tab Nat := []
  lastRef : Nat := 0
  holdCyc : Nat := 0
  trkDone : Bool := false
  fixed : Bool := false
  nextF : Option Nat := none
  lastValid : Tab Int := []
  clamped : Tab Bool := []
  corr : Tab Int := []
  part : Tab Int := []
  deriving DecidableEq, Repr

end Sys2Proof.Machine
end

