-- ==== Sys2Proof/Machine/StHost.lean ====
section
/-! DEFINITION. State of the host interface: berths, session, taps, interrupts (R563 to R605). -/
namespace Sys2Proof.Machine

/-- A message or reply held in a berth: the HEAD count at which it starts, the bytes it occupies, and the device time
at which it was appended (R574, R601). -/
structure Msg where
  pos : Nat
  len : Nat
  at' : Nat
  deriving DecidableEq, Repr

/-- A frame tap (R597): SV (false) or GOOSE (true), the subscription, the berth. -/
structure Tap where
  goose : Bool
  sub : Nat
  berth : Nat
  deriving DecidableEq, Repr

/-- A command packet visible in B0 and not yet interpreted: opcode, interface it arrived on (true: QSPI), packet. -/
structure Waiting where
  op : Nat
  q : Bool
  pkt : Packet
  deriving DecidableEq, Repr

/-- The host interface. `mem` is the berth SRAM as the berth window shows it; `msgs` are the messages between TAIL and HEAD of each berth, oldest
first; `armed` marks armed berths (R601); `secDrops` counts the drops of the second in progress (R579); `waiting` are the command packets visible
in B0 and not yet interpreted, oldest first, and `frontAt` is the device time at which the oldest became the next to interpret (R586); `partialAt`
is the time at which the header of an incomplete packet became visible (R584); `resync` is the opcode and TAG of a resync reply that is owed;
`sec` is the second that R579 last served; `restartReq` that an accepted RESTART is to begin; `maintEnd` is the device time at which the
maintenance lease ends; `hiLatch` holds the HI values that LO reads latched (R15); `rdata` is the word the latest host read returned; `msix` holds
the MSI-X table words (an unlisted vector control reads 1, masked, any other 0) and `msixPba` its pending bits; `sent` is the latest MSI-X vector
delivered. -/
structure HostSt where
  mem : List Host.Cell := []
  msgs : Tab (List Msg) := []
  armed : Tab Bool := [(1, true)]
  secDrops : Tab Nat := []
  waiting : List Waiting := []
  partialAt : Option Nat := none
  resync : Option (Nat × Nat) := none
  frontAt : Nat := 0
  sec : Nat := 0
  restartReq : Bool := false
  maintEnd : Nat := 0
  hiLatch : Tab Nat := []
  rdata : Nat := 0
  taps : List Tap := []
  msix : Tab Nat := []
  msixPba : Nat := 0
  sent : Option Nat := none
  deriving DecidableEq, Repr

end Sys2Proof.Machine
end

