-- ==== Sys2Proof/Machine/StLog.lean ====
section
/-! DEFINITION. State of the event log (R467 to R487). -/
namespace Sys2Proof.Machine

/-- A log entry (R470); the sequence number is given when it is appended. -/
structure LogEntry where
  dev : Nat
  tai : Int
  seq : Nat
  code : Nat
  src : Nat
  val : Nat
  tq : Nat
  flags : Nat
  deriving DecidableEq, Repr

/-- The token bucket of one code (R475): level in micro-tokens (`none`: full since start-up), device time of the
previous occurrence, suppressed count. -/
structure Bucket where
  lvl : Option Nat := none
  last : Nat := 0
  supp : Nat := 0
  deriving DecidableEq, Repr

/-- The volatile part of the log: buckets by code, the append queue with the device time at which each entry was
raised, whether a replayed tick is being evaluated and the device time of a replayed event (R487), and the latest second boundary served (R477). -/
structure LogSt where
  buckets : Tab Bucket := []
  queue : List (LogEntry × Nat) := []
  replayed : Bool := false
  clock : Option Nat := none
  sec : Nat := 0
  deriving DecidableEq, Repr

/-- The durable part of the log in MRAM: the entries still held (newest first), the next sequence number, the clear
mark, the number of clears (R467 to R469, R482); `begun`: an entry was waiting to be appended when the logic lost its state, so that its
append may have been cut short (R483). -/
structure LogNv where
  entries : List LogEntry := []
  nextSeq : Nat := 1
  clearMark : Nat := 0
  clears : Nat := 0
  begun : Bool := false
  deriving DecidableEq, Repr

end Sys2Proof.Machine
end

