-- ==== Sys2Proof/Machine/StPbus.lean ====
section
/-! DEFINITION. State of the process bus and of the time sources (R198 to R245). -/
namespace Sys2Proof.Machine

/-- A received sample of a stream (R213, R214): absolute index, instant in 2^-8 device-time units, and for each member
its value and flags (SSW layout, with bit 16 for a sample its source marks invalid). -/
structure SvSmp where
  j : Int
  u : Int
  mem : List (Int × Nat)
  deriving DecidableEq, Repr

/-- A subscription S<s>. `next` is the instant given to the index after `last`, and `per` the sample period, of the loop of R214; `smp` the
samples kept, highest index first; `miss` the indices declared missing and `gone` how many there were (R219); `seenAt` the receive stamp of the
latest accepted ASDU; `out` and `inn` count ASDUs in a row outside and inside the limits of R215; `dly` the largest delay since the register was
read. -/
structure SvSt where
  sync : Bool := false
  last : Option (Int × Nat) := none
  next : Int := 0
  per : Int := 0
  smp : List SvSmp := []
  miss : List Int := []
  gone : Nat := 0
  seenAt : Option Nat := none
  rev : Option Nat := none
  out : Nat := 0
  inn : Nat := 0
  dly : Option Int := none
  deriving DecidableEq, Repr

/-- A GOOSE subscription (R224, R225): the latest accepted frame. -/
structure GsSt where
  seenAt : Nat := 0
  tal : Nat := 0
  sq : Nat := 0
  mem : List GMember := []
  deriving DecidableEq, Repr

/-- A copy of a frame handed to a port (R200, R201): the port, its source MAC address, and the sequence number and the LAN or
direction of its redundancy trailer or tag. -/
structure TxCopy where
  port : Nat
  src : Nat
  red : Option (Nat × Nat) := none
  deriving DecidableEq, Repr

/-- What a sent GOOSE frame carries (R227 to R229): stNum, sqNum, TAI of its t field, TimeQuality octet,
timeAllowedtoLive in ms, its BOOLEAN members as a mask, its octets ahead of any trailer or tag, and the copies sent. -/
structure GpFrame where
  st : Nat
  sq : Nat
  tai : Int
  tq : Nat
  tal : Nat
  vals : Nat
  raw : List Byte
  out : List TxCopy
  deriving DecidableEq, Repr

/-- A publication: its member values, the interval in ms to the next repeat and the device time of it, the latest frame,
and the tick at which it was last formed (R370). -/
structure GpSt where
  vals : Nat := 0
  gap : Nat := 0
  next : Option Nat := none
  sent : Option GpFrame := none
  tick : Option Nat := none
  deriving DecidableEq, Repr

/-- The network side: the mode, the enabled ports and the bindings in force (R199, R206; `bind` is the bank they come from
when it is not the one in force), speeds in Mb/s, ports taken down (R198), node table (R201) and redundancy sequence numbers seen
once: source, number, port, time; the next redundancy sequence number sent; time of the next supervision frame, how many were
sent and the copies of the latest; the latest frame forwarded on the ring: port, source, and the correctionField it left with, in
2^-16 ns, when it is a PTP event message (R237). -/
structure NetSt where
  mode : Nat := 0
  ports : Nat := 3
  bind : Option Bank := none
  speed : Tab Nat := []
  down : List Nat := []
  nodes : List (Nat × Nat) := []
  seen : List (Nat × Nat × Nat × Nat) := []
  txSeq : Nat := 0
  supNext : Nat := 0
  supSent : Nat := 0
  supOut : List TxCopy := []
  fwd : Option (Nat × Nat × Option Int) := none
  deriving DecidableEq, Repr

/-- The PTP messages the device sends (R236, R238). -/
inductive PtpKind where
  | pdelayReq | pdelayResp | pdelayRespFollowUp | sync | followUp | announce
  deriving DecidableEq, Repr

/-- A PTP message sent: port, its number in the port identity (R237), source MAC, domain; the transmit stamp of an event message
(R204); the receive stamp that a Pdelay answer returns; the TAI it carries, in ns; clockClass, clockAccuracy and priorities of an
Announce. -/
structure PtpTx where
  kind : PtpKind
  port : Nat
  num : Nat
  src : Nat
  dom : Nat
  stamp : Option Nat := none
  rx : Option Nat := none
  tai : Option Int := none
  cls : Nat := 0
  acc : Nat := 0
  prio1 : Nat := 0
  prio2 : Nat := 0
  deriving DecidableEq, Repr

/-- The PTP clock: state of each port, latest Announce and Sync, grandmaster class, whether its UTC offset applies, the latest
Announce of each port with its time, the device time from which each port's Announce receipt timeout runs (R237), the transmit stamp in ns of
each port's latest Pdelay_Req (R236), time of the next transmission, the messages of the latest one. -/
structure PtpSt where
  st : Tab Nat := []
  ann : Option Nat := none
  sync : Option Nat := none
  cls : Nat := 255
  utc : Bool := false
  heard : Tab (Nat × Announce) := []
  from' : Tab Nat := []
  req : Tab Nat := []
  next : Nat := 0
  sent : List PtpTx := []
  deriving DecidableEq, Repr

/-- The time sources and the servo (R230 to R241). `lockCnt`, `integ` belong to the servo; `hoAt` is the start of holdover and `hoStep` how many
of its thresholds have passed; `irig`: latest good frame (device time, TAI second), frames in a row that decoded with consecutive seconds (2 once
the source qualifies) and that did not decode, the time-quality nibble; `pps`: latest accepted edge, whether it qualifies, whether a time of day
has been written; `hostSet`: a TIME_SET was accepted; `taiSet`: TAI has been set; `sel`: latest TAI second at which a source was chosen; `leap`:
direction of the leap second pending (1 insert, 2 delete); `leaps`: leap seconds applied since PBUS_UTC_SET took effect. -/
structure TimeSt where
  lockCnt : Nat := 0
  integ : Int := 0
  hoAt : Option Nat := none
  hoStep : Nat := 0
  irig : Option (Nat × Int) := none
  irigOk : Nat := 0
  irigBad : Nat := 0
  irigTq : Nat := 0
  ppsAt : Option Nat := none
  ppsQual : Bool := false
  todSet : Bool := false
  hostSet : Bool := false
  taiSet : Bool := false
  sel : Option Int := none
  leap : Nat := 0
  leaps : Int := 0
  deriving DecidableEq, Repr

/-- The process bus as a whole. `pollAt` is the time of the next PHY poll of each port. -/
structure PbusSt where
  sv : Tab SvSt := []
  gs : Tab GsSt := []
  gp : Tab GpSt := []
  net : NetSt := {}
  ptp : PtpSt := {}
  time : TimeSt := {}
  pollAt : Tab Nat := []
  deriving DecidableEq, Repr

end Sys2Proof.Machine
end

