-- ==== Sys2Proof/Machine/State.lean ====
section
/-! DEFINITION. The state of the block: every register, buffer, counter, mode and pin the spec names, as plain data. -/
namespace Sys2Proof.Machine

/-- What outlives a reset or a power loss: MRAM, NAND, fuses. `lat` is the stored latch of each NVL row in two copies (R367),
`epoch` the claim epoch in two copies (R502), `nor` the NOR (R654). -/
structure Nv where
  lat : Tab (TwoCopies Bool) := []
  log : LogNv := {}
  cust : CustNv := {}
  afe : AfeNv := {}
  bist : BistNv := {}
  rec' : RecNv := {}
  epoch : TwoCopies Nat := { newer := some 0 }
  nor : NorSt := {}
  deriving DecidableEq, Repr

/-- The state. `regs` is the store of the operational register fields (by field key; an absent field stands at its
reset value), `bank` the settings bank in force, `prev` the bank before it with the first tick of the new one (R558),
`tap` the TAP, `pads` what the outputs show, `free` counts the open values drawn, `pending` is the queue of waiting commands. -/
structure State where
  regs : Tab Nat := []
  bank : Bank := {}
  prev : Option (Bank × Nat) := none
  nv : Nv := {}
  grid : GridSt := {}
  log : LogSt := {}
  host : HostSt := {}
  cust : CustSt := {}
  afe : AfeSt := {}
  td : Tab TdSt := []
  aux : AuxSt := {}
  pbus : PbusSt := {}
  eval : EvalSt := {}
  dio : DioSt := {}
  bist : BistSt := {}
  rec' : RecSt := {}
  pair : PairSt := {}
  pwr : PwrSt := {}
  tap : TapSt := {}
  pads : Pads := {}
  free : Nat := 0
  pending : List Instr := []
  deriving DecidableEq, Repr

/-- The registers whose reset value is not the one of their whole field array: GRID_CH_SSW of G0 to G63, the configuration of B0 and
B1, BIST_STATUS.LAST. -/
def resetRegs : Tab Nat :=
  let r : Tab Nat := (List.range 64).map fun g => (Reg.GRID_CH_SSW.SSW.key g 0, 2)
  let h : Tab Nat := [(Reg.HOST_BERTH_CFG.EN.key 0 0, 1), (Reg.HOST_BERTH_CFG.SIZE.key 0 0, 7), (Reg.HOST_BERTH_CFG.EN.key 1 0, 1),
    (Reg.HOST_BERTH_CFG.SIZE.key 1 0, 7), (Reg.HOST_BERTH_CFG.BASE.key 1 0, 128)]
  h ++ r ++ [(Reg.BIST_STATUS.LAST.key 0 0, 3)]

/-- The machine right after reset: the logic side held by its power-on reset, a part fresh from the factory. -/
def State.reset : State := { regs := resetRegs }

/-- Ways a step can stop with a fault. The part's own behaviour never stops the block: there is none. -/
inductive Fault where
  /-- Raised by no meaning: every command of the table ends in a next state. Safe. -/
  | none
  deriving DecidableEq, Repr

/-- Ways a command can have no meaning. -/
inductive Refusal where
  /-- A command of the table whose meaning is not written: raised by its arm of `exec`. Safe. -/
  | notModelled (mnemonic : String)
  deriving DecidableEq, Repr

end Sys2Proof.Machine
end

