-- ==== Sys2Proof/Machine/Ops.lean ====
section
/-! DEFINITION. The named operations over registers, settings, buffers and the log. -/
namespace Sys2Proof.Machine
open Reg

/-- A word of a settings bank, if the bank lists it. -/
def Bank.word (b : Bank) (a : Nat) : Option Nat := tfind b.words a

/-- A settings field of a bank: its bits of the listed word, or its reset value. -/
def Bank.fld (b : Bank) (f : Field) (i : Nat := 0) (j : Nat := 0) : Nat :=
  match b.word (f.at' i j) with
  | some w => f.get w
  | none => f.reset

/-- The value of a register field: settings from the bank in force, factory values from OTP, the rest from the
register store (R4). -/
def State.rd (s : State) (f : Field) (i : Nat := 0) (j : Nat := 0) : Nat :=
  match f.acc with
  | .SP => s.bank.fld f i j
  | .OTP => if f.reset ≠ 0 then f.reset else Config.otp (f.key i j) % 2 ^ f.width
  | _ => tget f.reset s.regs (f.key i j)

/-- The value of a two's-complement register field. -/
def State.rdI (s : State) (f : Field) (i : Nat := 0) (j : Nat := 0) : Int := sx f.width (s.rd f i j)

/-- The state with an operational register field set. -/
def State.wr (s : State) (f : Field) (v : Nat) (i : Nat := 0) (j : Nat := 0) : State :=
  { s with regs := tset s.regs (f.key i j) (v % 2 ^ f.width) }

/-- The state with a two's-complement register field set. -/
def State.wrI (s : State) (f : Field) (v : Int) (i : Nat := 0) (j : Nat := 0) : State := s.wr f (toBits f.width v) i j

/-- A counter counted up by `k`; it saturates (R6). -/
def State.bump (s : State) (f : Field) (i : Nat := 0) (j : Nat := 0) (k : Nat := 1) : State :=
  s.wr f (min (s.rd f i j + k) (2 ^ f.width - 1)) i j

/-- A field raised to at least a value (the largest-so-far registers). -/
def State.raiseTo (s : State) (f : Field) (v : Nat) (i : Nat := 0) (j : Nat := 0) : State :=
  s.wr f (max (s.rd f i j) (min v (2 ^ f.width - 1))) i j

/-- A 64-bit value held in a LO and a HI register. -/
def State.rd64 (s : State) (lo hi : Field) (i : Nat := 0) : Nat := s.rd lo i + 2 ^ 32 * s.rd hi i

/-- The state with a 64-bit value set into a LO and a HI register. -/
def State.wr64 (s : State) (lo hi : Field) (v : Nat) (i : Nat := 0) : State := (s.wr lo v i).wr hi (v / 2 ^ 32) i

/-- A rate adjustment that lasts one second has ended (R231). -/
def GridSt.deltaDue (g : GridSt) : GridSt :=
  match g.deltaEnd with
  | some e => if e ≤ g.now then { g with delta := 0, deltaEnd := none } else g
  | none => g

/-- The bound step of R12 in device-time units. -/
def boundStep : Nat := 2 ^ 28

/-- The bound that the supervisor writes at an instant: the multiple two beyond the latest one passed (R12). -/
def boundAfter (now : Nat) : Nat := (now / boundStep + 2) * boundStep

/-- V, the newer good copy of the bound (R12). -/
def GridSt.boundV (g : GridSt) : Nat := g.bound.good.getD 0

/-- The supervisor has written the bounds that the count called for: at each multiple of 2^28 that it crossed, over the older copy, so
that the older copy holds the bound one step below (R12). -/
def GridSt.bounded (g : GridSt) : GridSt :=
  if boundAfter g.now ≤ g.boundV then g
  else { g with bound := { newer := some (boundAfter g.now), older := some (boundAfter g.now - boundStep) } }

/-- The state with device time moved on to `t`; device time never goes backwards (R8). -/
def State.atTime (s : State) (t : Nat) : State :=
  if s.grid.now < t then { s with grid := { s.grid with now := t, frac := 0 }.deltaDue.bounded } else s

/-- A fresh open value of `w` bits. -/
def State.fresh (s : State) (w : Nat) : Nat × State :=
  (Config.freeValue s.free % 2 ^ w, { s with free := s.free + 1 })

/-- The logic side runs: it is past step 6 of start-up (R657). -/
def State.up (s : State) : Bool := s.pwr.phase == .calibrating || s.pwr.phase == .settings || s.pwr.phase == .running

/-- New MRAM and NAND writes are withheld: VMAIN is in the warn state (R643). -/
def State.writesHeld (s : State) : Bool := s.rd Reg.PWR_STATUS.VMAIN_WARN == 1

/-! ### Updates of one block -/

/-- The state with its grid part passed through a function. -/
def State.modGrid (s : State) (f : GridSt → GridSt) : State := { s with grid := f s.grid }
/-- The state with its log part passed through a function. -/
def State.modLog (s : State) (f : LogSt → LogSt) : State := { s with log := f s.log }
/-- The state with its host part passed through a function. -/
def State.modHost (s : State) (f : HostSt → HostSt) : State := { s with host := f s.host }
/-- The state with its cust part passed through a function. -/
def State.modCust (s : State) (f : CustSt → CustSt) : State := { s with cust := f s.cust }
/-- The state with its afe part passed through a function. -/
def State.modAfe (s : State) (f : AfeSt → AfeSt) : State := { s with afe := f s.afe }
/-- The state with its aux part passed through a function. -/
def State.modAux (s : State) (f : AuxSt → AuxSt) : State := { s with aux := f s.aux }
/-- The state with its pbus part passed through a function. -/
def State.modPbus (s : State) (f : PbusSt → PbusSt) : State := { s with pbus := f s.pbus }
/-- The state with its network part passed through a function. -/
def State.modNet (s : State) (f : NetSt → NetSt) : State := s.modPbus fun p => { p with net := f p.net }
/-- The state with its PTP part passed through a function. -/
def State.modPtp (s : State) (f : PtpSt → PtpSt) : State := s.modPbus fun p => { p with ptp := f p.ptp }
/-- The state with its time-source part passed through a function. -/
def State.modTime (s : State) (f : TimeSt → TimeSt) : State := s.modPbus fun p => { p with time := f p.time }
/-- The state with its evaluation part passed through a function. -/
def State.modEval (s : State) (f : EvalSt → EvalSt) : State := { s with eval := f s.eval }
/-- The state with its field-I/O part passed through a function. -/
def State.modDio (s : State) (f : DioSt → DioSt) : State := { s with dio := f s.dio }
/-- The state with its claim-line part passed through a function. -/
def State.modClaim (s : State) (f : ClaimSt → ClaimSt) : State := s.modDio fun d => { d with claim := f d.claim }
/-- The state with its self-test part passed through a function. -/
def State.modBist (s : State) (f : BistSt → BistSt) : State := { s with bist := f s.bist }
/-- The state with the self-test part of the non-volatile memory passed through a function. -/
def State.modBistNv (s : State) (f : BistNv → BistNv) : State := { s with nv := { s.nv with bist := f s.nv.bist } }
/-- The state with its pair part passed through a function. -/
def State.modPair (s : State) (f : PairSt → PairSt) : State := { s with pair := f s.pair }
/-- The state with its recorder part passed through a function. -/
def State.modRec (s : State) (f : RecSt → RecSt) : State := { s with rec' := f s.rec' }
/-- The state with the record store passed through a function. -/
def State.modRecNv (s : State) (f : RecNv → RecNv) : State := { s with nv := { s.nv with rec' := f s.nv.rec' } }
/-- The state with its pwr part passed through a function. -/
def State.modPwr (s : State) (f : PwrSt → PwrSt) : State := { s with pwr := f s.pwr }
/-- The state with its nv part passed through a function. -/
def State.modNv (s : State) (f : Nv → Nv) : State := { s with nv := f s.nv }
/-- The state with its custody part of the non-volatile memory passed through a function. -/
def State.modCustNv (s : State) (f : CustNv → CustNv) : State := { s with nv := { s.nv with cust := f s.nv.cust } }
/-- The state with its log part of the non-volatile memory passed through a function. -/
def State.modLogNv (s : State) (f : LogNv → LogNv) : State := { s with nv := { s.nv with log := f s.nv.log } }
/-- The state with its front-end part of the non-volatile memory passed through a function. -/
def State.modAfeNv (s : State) (f : AfeNv → AfeNv) : State := { s with nv := { s.nv with afe := f s.nv.afe } }

/-! ### Time (R13, R16) -/

/-- TAI in ns at a device time (R13). -/
def State.taiOf (s : State) (d : Nat) : Int := 4 * (d : Int) + s.grid.taiOfs

/-- The time-quality byte (R16, GRID_TQ). -/
def State.tqByte (s : State) : Nat :=
  s.rd GRID_TQ.SOURCE + 8 * s.rd GRID_TQ.LOCKED + 16 * s.rd GRID_TQ.HOLDOVER + 32 * s.rd GRID_TQ.LEAP_PENDING
    + 64 * s.rd GRID_TQ.ACC

/-! ### Interrupts (R601 to R603) -/

/-- Raise vector `v`: it is pending in every session; a PCIe session delivers it by MSI-X unless the vector is
masked, in which case its pending bit is set (R603). -/
def State.raiseVec (s : State) (v : Nat) : State :=
  let s := s.wr HOST_IRQ_PEND.MASK (s.rd HOST_IRQ_PEND.MASK ||| 2 ^ v)
  if s.rd HOST_STATUS.NEG = 1 ∧ s.rd HOST_STATUS.IF = 0 then
    if (tget 1 s.host.msix (4 * v + 3)).testBit 0 then
      { s with host := { s.host with msixPba := s.host.msixPba ||| 2 ^ v } }
    else { s with host := { s.host with sent := some v } }
  else s

/-- Device condition `i` arises (R602). -/
def State.cause (s : State) (i : Nat) : State :=
  let s := s.wr HOST_CAUSE.BITS (s.rd HOST_CAUSE.BITS ||| 2 ^ i)
  if (s.rd HOST_CAUSE_CFG.EN).testBit i then s.raiseVec (s.rd HOST_CAUSE_CFG.VEC) else s

/-- A field whose change is device condition `i` (R602). -/
def State.wrCause (s : State) (f : Field) (v i : Nat) : State := if s.rd f = v then s else (s.wr f v).cause i

/-- The unit takes a role; a change is cause 0 (R490, R602). -/
def State.setRole (s : State) (v : Nat) : State := s.wrCause PAIR_STATUS.ROLE v 0

/-! ### The event log: raising an entry (R470 to R480) -/

/-- Codes exempt from rate limiting (R473). -/
def exemptCodes : List Nat :=
  [0x0001, 0x0010, 0x0011, 0x0012, 0x0013, 0x3010, 0x6023, 0x8001, 0x8004, 0x8005, 0x8007, 0x8008, 0x9001, 0x9002,
   0x9003, 0x9004, 0x9005, 0x9006, 0xA002]

/-- Whether a code is exempt (R473). -/
def exempt (code : Nat) : Bool := exemptCodes.contains code

/-- The flags byte of an entry formed now, PERM left open until it has its sequence (R470, R472). -/
def State.logFlags (s : State) : Nat :=
  b2n s.log.replayed + 2 * b2n (s.rd PAIR_STATUS.ROLE == 2) + 8 * s.rd HOST_STATUS.MAINT

/-- The entries of exempt codes that the append queue holds. -/
def State.queuedExempt (s : State) : Nat := (s.log.queue.filter fun e => exempt e.1.code).length

/-- Whether the reserve of the append queue is full (R479). -/
def State.reserveFull (s : State) : Bool := decide (4096 ≤ s.queuedExempt)

/-- Whether the append queue takes one more entry of the code (R479, R480): 16,384 places for non-exempt codes, and a
reserve of 4,096 for exempt ones, which may also take a free place of the other part. -/
def State.queueTakes (s : State) (code : Nat) : Bool :=
  let nE := s.queuedExempt
  if exempt code ∧ nE < 4096 then true else decide (s.log.queue.length - nE + (nE - 4096) < 16384)

/-- The part of the queue that an entry of the code belongs in is full (R480). -/
def State.partFull (s : State) (code : Nat) : Bool := if exempt code then s.reserveFull else !s.queueTakes code

/-- Put a formed entry into the append queue; one that finds no place is counted as suppressed. That its part is full shows in
EVT_STATUS.QFULL, also where an exempt entry still takes a place of the other part (R480). -/
def State.enqueue (s : State) (e : LogEntry) : State :=
  let s' := if s.partFull e.code then s.wr EVT_STATUS.QFULL 1 else s
  if s.queueTakes e.code then
    let q := s.log.queue ++ [(e, s.grid.now)]
    { s' with log := { s.log with queue := q } }.raiseTo EVT_QUEUE_MAX.VALUE q.length
  else
    let bk := tget {} s.log.buckets e.code
    { s' with log := { s.log with buckets := tset s.log.buckets e.code { bk with supp := bk.supp + 1 } } }.bump EVT_SUPP_CNT.VALUE

/-- The entry formed at this moment for a happening of device time `dev` with a given TAI and time quality. -/
def State.entryWith (s : State) (dev : Nat) (tai : Int) (tq code src val : Nat) : LogEntry :=
  { dev := dev, tai := tai, seq := 0, code := code, src := src % 65536, val := val % 2 ^ 32, tq := tq,
    flags := s.logFlags }

/-- The bucket of a code after an occurrence stamped `t` has added its tokens (R475). -/
def Bucket.fill (b : Bucket) (rate burst t : Nat) : Nat × Nat :=
  let lvl := b.lvl.getD (burst * 1000000)
  if b.last < t then (min (burst * 1000000) (lvl + rate * ((t - b.last) / 250)), t) else (lvl, b.last)

/-- Raise a formed entry: an exempt code goes to the queue, any other through its token bucket (R475, R476). -/
def State.raiseEntry (s : State) (e : LogEntry) : State :=
  if exempt e.code then s.enqueue e else
  let bk := tget {} s.log.buckets e.code
  let c := e.code / 4096
  let i := e.code % 4096
  let (lvl, last) := bk.fill (s.rd EVT_RATE.RATE c i) (s.rd EVT_RATE.BURST c i) e.dev
  if 1000000 ≤ lvl then
    { s with log := { s.log with buckets := tset s.log.buckets e.code { bk with lvl := some (lvl - 1000000), last := last } } }.enqueue e
  else
    { s with log := { s.log with buckets := tset s.log.buckets e.code { bk with lvl := some lvl, last := last, supp := bk.supp + 1 } } }.bump
      EVT_SUPP_CNT.VALUE

/-- Raise an event of device time `dev` (R471): its TAI and its time quality are those in force when the entry is formed, also where `dev`
is the instant of an earlier tick, whose samples R16 stamps with the time quality of that tick (DEDUCED, log entry 99). An INTERNAL_FAULT
is also cause 1 of R602. -/
def State.logAt (s : State) (dev code src val : Nat) : State :=
  let s := s.raiseEntry (s.entryWith dev (s.taiOf dev) s.tqByte code src val)
  if code = 0x0006 then ({ s with pwr := { s.pwr with fault := true } }).cause 1 else s

/-- Raise an event stamped with the present device time (R471). -/
def State.logEv (s : State) (code : Nat) (src : Nat := 0) (val : Nat := 0) : State := s.logAt (s.log.clock.getD s.grid.now) code src val

end Sys2Proof.Machine
end

