-- ==== Sys2Proof/Machine/Berth.lean ====
section
/-! DEFINITION. Berths, messages and replies (R571 to R587, R601). -/
namespace Sys2Proof.Machine
open Reg

/-- A length rounded up to a multiple of 8 (R574). -/
def pad8 (n : Nat) : Nat := (n + 7) / 8 * 8

/-- The size of a berth in bytes (HOST_BERTH_CFG.SIZE). -/
def State.berthSize (s : State) (b : Nat) : Nat := 1024 * 2 ^ s.rd HOST_BERTH_CFG.SIZE b

/-- The offset of a berth in the berth window. -/
def State.berthBase (s : State) (b : Nat) : Nat := 1024 * s.rd HOST_BERTH_CFG.BASE b

/-- The messages a berth holds. -/
def State.msgs (s : State) (b : Nat) : List Msg := tget [] s.host.msgs b

/-- Replace the messages a berth holds, with its count register. -/
def State.setMsgs (s : State) (b : Nat) (l : List Msg) : State :=
  { s with host := { s.host with msgs := tset s.host.msgs b l } }.wr HOST_BERTH_CNT.VALUE l.length b

/-- The interrupt rule of a berth, evaluated at this moment (R601). -/
def State.berthIrq (s : State) (b : Nat) : State :=
  let l := s.msgs b
  let th := s.rd HOST_BERTH_IRQ.THRESH b
  let ho := s.rd HOST_BERTH_IRQ.HOLDOFF b
  match l with
  | [] => s
  | m :: _ =>
    if tget false s.host.armed b ∧ ((th ≠ 0 ∧ th ≤ l.length) ∨ (ho ≠ 0 ∧ m.at' + ho * 250 ≤ s.grid.now)) then
      let s := s.raiseVec (s.rd HOST_BERTH_IRQ.VEC b)
      { s with host := { s.host with armed := tset s.host.armed b false } }
    else s

/-- Append bytes to a device-to-host berth at HEAD, padded to a multiple of 8 (R573, R574). -/
def State.append (s : State) (b : Nat) (bytes : List Byte) : State :=
  let hd := s.rd HOST_BERTH_HEAD.VALUE b
  let n := pad8 bytes.length
  let m := ringWrite s.host.mem (s.berthBase b) (s.berthSize b) hd (bytes ++ List.replicate (n - bytes.length) 0)
  let s := { s with host := { s.host with mem := m } }
  let s := s.setMsgs b (s.msgs b ++ [{ pos := hd, len := n, at' := s.grid.now }])
  let s := s.wr HOST_BERTH_HEAD.VALUE (hd + n) b
  s.berthIrq b

/-- The bytes between TAIL and HEAD of a berth (R573). -/
def State.content (s : State) (b : Nat) : Nat :=
  (s.rd HOST_BERTH_HEAD.VALUE b + 2 ^ 32 - s.rd HOST_BERTH_TAIL.VALUE b) % 2 ^ 32

/-- Count one dropped message of a berth (R576, R579). -/
def State.dropOne (s : State) (b : Nat) : State :=
  let s := { s with host := { s.host with secDrops := tset s.host.secDrops b (tget 0 s.host.secDrops b + 1) } }
  s.bump HOST_BERTH_DROP_CNT.VALUE b

/-- Discard the oldest messages of a MEASUREMENT berth until `n` more bytes fit (R576). -/
def State.makeRoom (s : State) (b n : Nat) : Nat → State
  | 0 => s
  | k + 1 =>
    if s.content b + n ≤ s.berthSize b then s else
    match s.msgs b with
    | [] => s
    | m :: r =>
      let s := s.setMsgs b r
      let s := s.wr HOST_BERTH_TAIL.VALUE (m.pos + m.len) b
      (s.dropOne b).makeRoom b n k

/-- Offer a message of a TYPE to a berth under its policy (R574, R576); the policy RECORD is used only by a producer
that found room. Says whether the message was written. -/
def State.putMsg (s : State) (b type : Nat) (body : List Byte) : State × Bool :=
  let n := 8 + body.length
  let sq := s.rd HOST_BERTH_SEQ.VALUE b
  let bytes := leBytes 4 (body.length % 65536 + 65536 * type) ++ leBytes 4 sq ++ body
  let s := s.wr HOST_BERTH_SEQ.VALUE (sq + 1) b
  if s.berthSize b - 8 < n then (s.dropOne b, false)
  else if s.content b + pad8 n ≤ s.berthSize b then (s.append b bytes, true)
  else if s.rd HOST_BERTH_CFG.POLICY b = 0 then
    ((s.makeRoom b (pad8 n) (s.msgs b).length).append b bytes, true)
  else (s.dropOne b, false)

/-- Whether berth `b` suits a producer: a configured berth, enabled, of the policy and at least the size (R578), and one that a QSPI session
can use (R567). -/
def State.berthOk (s : State) (b policy minSize : Nat) : Bool :=
  decide (2 ≤ b) && !(decide (s.rd HOST_STATUS.NEG = 1) && decide (s.rd HOST_STATUS.IF = 1) && decide (15 < b))
    && decide (s.rd HOST_BERTH_CFG.EN b = 1) && decide (s.rd HOST_BERTH_CFG.POLICY b = policy)
    && decide (minSize ≤ s.berthSize b)

/-! ### Replies (R580 to R587) -/

/-- Status codes (R599). -/
inductive Status where
  | ok | acceptedPending | badOpcode | badLength | badTarget | badCrc | ifverUnsupported | featureNotNegotiated
  | busy | busySelftest | authFail | roleDuplicate | staleCounter | xfadeBusy | armLength | notReady | claimLost
  | internalFault
  deriving DecidableEq, Repr

/-- The number of a status code (R599). -/
def Status.code : Status → Nat
  | .ok => 0x0000 | .acceptedPending => 0x0001 | .badOpcode => 0x0101 | .badLength => 0x0102
  | .badTarget => 0x0103 | .badCrc => 0x0104 | .ifverUnsupported => 0x0105 | .featureNotNegotiated => 0x0106
  | .busy => 0x0201 | .busySelftest => 0x0207 | .authFail => 0x0208 | .roleDuplicate => 0x0209
  | .staleCounter => 0x020A | .xfadeBusy => 0x020B | .armLength => 0x020C | .notReady => 0x020D
  | .claimLost => 0x020E | .internalFault => 0x0301

/-- What interpreting a command gives: the state after it, the status, the data words of the reply. -/
structure CmdRes where
  st : State
  status : Status
  data : List Nat := []

/-- The command is answered OK. -/
def State.ok (s : State) (data : List Nat := []) : CmdRes := { st := s, status := .ok, data := data }
/-- The command is accepted and runs on (R587). -/
def State.accepted (s : State) (data : List Nat := []) : CmdRes := { st := s, status := .acceptedPending, data := data }
/-- BAD_TARGET with its REASON (R587, R600). -/
def State.badTarget (s : State) (reason : Nat) (more : List Nat := []) : CmdRes :=
  { st := s, status := .badTarget, data := reason :: more }
/-- BUSY with its REASON (R587, R600). -/
def State.busy (s : State) (reason : Nat) (more : List Nat := []) : CmdRes :=
  { st := s, status := .busy, data := reason :: more }
/-- BAD_LENGTH given by a command's own check. -/
def State.badLength (s : State) : CmdRes := { st := s, status := .badLength }
/-- A reply of another status without data. -/
def State.answer (s : State) (st : Status) (data : List Nat := []) : CmdRes := { st := s, status := st, data := data }

/-- The 32-bit parameter word `i` of a packet (R580). -/
def Packet.word (p : Packet) (i : Nat) : Nat := ofLe ((p.params.drop (4 * i)).take 4)

/-- The LENGTH of a packet. -/
def Packet.len (p : Packet) : Nat := p.params.length

/-- The bytes of a packet's header words 0 to 2. -/
def headBytes (op len ifver flags tag target : Nat) : List Byte :=
  leBytes 4 (tag % 65536 + 65536 * op) ++ leBytes 4 (flags % 256 + 256 * ifver + 65536 * len) ++ leBytes 4 target

/-- The CRC-32C a packet ought to carry (R581). -/
def Packet.crcOf (op : Nat) (p : Packet) : Nat :=
  crc32c (headBytes op p.len p.ifver.toNat p.flags.toNat p.tag.toNat p.target.toNat ++ p.params)

/-- The bytes a packet occupies in its berth (R574, R580). -/
def Packet.size (p : Packet) : Nat := pad8 (16 + p.len)

/-- Credits in use: packets visible and not yet replied to, and replies not yet consumed (R583). -/
def State.creditsUsed (s : State) : Nat := s.host.waiting.length + b2n s.host.resync.isSome + (s.msgs 1).length

/-- The credit register and its overflow flag, from the credits in use (R583). -/
def State.setCredits (s : State) : State :=
  let u := s.creditsUsed
  let s := (s.wr HOST_CMD_CREDIT.VALUE (32 - u)).wr HOST_BERTH_CNT.VALUE s.host.waiting.length 0
  if 32 < u then s.wr HOST_STATUS.CREDIT_OVR 1 else if u < 32 then s.wr HOST_STATUS.CREDIT_OVR 0 else s

/-- The IFVER a reply carries (R582). -/
def State.replyIfver (s : State) (ifver : Nat) : Nat :=
  if ifver = 1 ∨ ifver = 2 then ifver
  else if s.rd HOST_STATUS.NEG = 1 then s.rd HOST_STATUS.IFVER else 1

/-- The bytes of a reply (R582), its credits counting the reply itself as unread. -/
def State.replyBytes (s : State) (op tag ifver flags : Nat) (st : Status) (data : List Nat) : List Byte :=
  let d := data.flatMap (leBytes 4 ·)
  let credits := if ifver = 2 then 32 - (s.creditsUsed + 1) else 0
  let h := leBytes 4 (st.code + 65536 * (op ||| 0x8000)) ++ leBytes 4 (flags + 256 * ifver + 65536 * d.length)
    ++ leBytes 4 (tag % 65536 + 65536 * credits)
  h ++ leBytes 4 (crc32c (h ++ d)) ++ d

/-- Write a reply into B1 (R582). -/
def State.reply (s : State) (op tag ifver : Nat) (st : Status) (data : List Nat) (resync : Bool := false) : State :=
  let v := s.replyIfver ifver
  (s.append 1 (s.replyBytes op tag v (b2n resync) st data)).setCredits

/-- The supervisor may interpret the next packet: at most 31 replies are unread and B1 has room for the largest
reply (R584). -/
def State.canReply (s : State) : Bool :=
  decide ((s.msgs 1).length ≤ 31) && decide (s.content 1 + pad8 (16 + 4080) ≤ s.berthSize 1)

end Sys2Proof.Machine
end

