-- ==== Sys2Proof/Machine/RegBay.lean ====
section
/-! DEFINITION. The register fields of spec file 06_bays_and_phasors.md: address, array shape, bit place, access code, reset value
and (for a settings field) the range R697 binds. -/
namespace Sys2Proof.Machine.Reg
open Field

/-- Bay enabled -/
def BAY_CFG.EN : Field := mkArr 0x80000 1024 64 0 1 0 1 .SP 0
/-- Phase order: 0 A-B-C, 1 A-C-B -/
def BAY_CFG.ROT : Field := mkArr 0x80000 1024 64 0 1 1 1 .SP 0
/-- Shedding priority; lowest shed first (R259) -/
def BAY_CFG.PRIO : Field := mkArr 0x80000 1024 64 0 1 2 2 .SP 0
/-- Substituted samples tolerated in a window, 0 to 4; 5 to 7 are rejected at staging (R267) -/
def BAY_CFG.SUBTOL : Field := mkArr 0x80000 1024 64 0 1 4 3 .SP 1 |>.range 0 4
/-- Frequency reference: slot 0 to 15, or 16 for the positive-sequence voltage (R270) -/
def BAY_CFG.FREF : Field := mkArr 0x80000 1024 64 0 1 8 5 .SP 16 |>.range 0 16
/-- Bay evaluated at the latest tick -/
def BAY_STATUS.RUN : Field := mkArr 0x80004 1024 64 0 1 0 1 .RO 0
/-- Carrying engine, 0 to 8; 0xF none -/
def BAY_STATUS.ENG : Field := mkArr 0x80004 1024 64 0 1 1 4 .RO 15
/-- R259 -/
def BAY_STATUS.SHED : Field := mkArr 0x80004 1024 64 0 1 5 1 .RO 0
/-- Every mapped slot's fundamental valid under R267 -/
def BAY_STATUS.PV_ALL : Field := mkArr 0x80004 1024 64 0 1 6 1 .RO 0
/-- Replay in progress (R276) -/
def BAY_STATUS.REPLAY : Field := mkArr 0x80004 1024 64 0 1 7 1 .RO 0
/-- R271 -/
def BAY_STATUS.FHOLD : Field := mkArr 0x80004 1024 64 0 1 8 1 .RO 0
/-- R271, VSYNC -/
def BAY_STATUS.SFHOLD : Field := mkArr 0x80004 1024 64 0 1 9 1 .RO 0
/-- Reports enabled (R273) -/
def BAY_PSTREAM.EN : Field := mkArr 0x80018 1024 64 0 1 0 1 .RW 0
/-- 0 twice per cycle; 1 to 255 once every DIV cycles -/
def BAY_PSTREAM.DIV : Field := mkArr 0x80018 1024 64 0 1 1 8 .RW 1
/-- Berth index -/
def BAY_PSTREAM.BERTH : Field := mkArr 0x80018 1024 64 0 1 9 8 .RW 0
/-- Bit s selects slot s -/
def BAY_PSTREAM_SEL.SLOTS : Field := mkArr 0x8001C 1024 64 0 1 0 16 .RW 0
/-- Bits 16 to 21 select I0, I1, I2, V0, V1, V2 -/
def BAY_PSTREAM_SEL.SEQ : Field := mkArr 0x8001C 1024 64 0 1 16 6 .RW 0
/-- 0x008. f_b, µHz (R271) -/
def BAY_FREQ.VALUE : Field := mkArr 0x80008 1024 64 0 1 0 32 .RO 0
/-- 0x00C. VSYNC frequency, µHz -/
def BAY_SYNCFREQ.VALUE : Field := mkArr 0x8000C 1024 64 0 1 0 32 .RO 0
/-- 0x010. Latched tick, bits [31:0]; a read latches the bay (R272) -/
def BAY_TICK_LO.VALUE : Field := mkArr 0x80010 1024 64 0 1 0 32 .RO 0
/-- 0x014. Bits [63:32] -/
def BAY_TICK_HI.VALUE : Field := mkArr 0x80014 1024 64 0 1 0 32 .RO 0
/-- 0x020. Largest wait, µs (R255) -/
def BAY_WAIT_MAX.VALUE : Field := mkArr 0x80020 1024 64 0 1 0 32 .RC 0
/-- 0x024. Ticks with PV_ALL = 0 while the bay was enabled -/
def BAY_INVAL_CNT.VALUE : Field := mkArr 0x80024 1024 64 0 1 0 32 .RC 0
/-- 0x028. Slot shown in the harmonic registers. Bits [31:4] reserved -/
def BAY_HARM_SEL.SLOT : Field := mkArr 0x80028 1024 64 0 1 0 4 .RW 0
/-- Grid channel, 0 to 511 -/
def BAY_SLOT.CH : Field := mkArr 0x80040 1024 64 4 16 0 9 .SP 0
/-- R248; 16 to 31 are rejected at staging -/
def BAY_SLOT.ROLE : Field := mkArr 0x80040 1024 64 4 16 9 5 .SP 0 |>.range 0 15
/-- R252 -/
def BAY_SLOT.INV : Field := mkArr 0x80040 1024 64 4 16 14 1 .SP 0
/-- Primary units per grid unit, binary32 (R251) -/
def BAY_SLOT_SCALE.VALUE : Field := mkArr 0x80080 1024 64 4 16 0 32 .SP 0x3f800000
/-- +0x0. Fundamental, real part, int32 -/
def BAY_M_RE.VALUE : Field := mkArr 0x80100 1024 64 16 16 0 32 .RO 0
/-- +0x4. Fundamental, imaginary part, int32 -/
def BAY_M_IM.VALUE : Field := mkArr 0x80104 1024 64 16 16 0 32 .RO 0
/-- +0x8. True RMS over the window, uint32 -/
def BAY_M_RMS.VALUE : Field := mkArr 0x80108 1024 64 16 16 0 32 .RO 0
/-- +0xC. PSW after R267. Bits [31:16] reserved -/
def BAY_M_PSW.PSW : Field := mkArr 0x8010C 1024 64 16 16 0 16 .RO 0
/-- 0x200 + 8 × q, q = 0 to 5 for I0, I1, I2, V0, V1, V2. Real part, int32 -/
def BAY_SEQ_RE.VALUE : Field := mkArr 0x80200 1024 64 8 6 0 32 .RO 0
/-- 0x204 + 8 × q. Imaginary part, int32 -/
def BAY_SEQ_IM.VALUE : Field := mkArr 0x80204 1024 64 8 6 0 32 .RO 0
/-- 0x230 + 4 × q. PSW (R268). Bits [31:16] reserved -/
def BAY_SEQ_PSW.PSW : Field := mkArr 0x80230 1024 64 4 6 0 16 .RO 0
/-- 0x250 + 4 × i, i = 0 to 7: P_A, Q_A, P_B, Q_B, P_C, Q_C, P_T, Q_T; binary32, W or var -/
def BAY_PQ.VALUE : Field := mkArr 0x80250 1024 64 4 8 0 32 .RO 0
/-- 0x270. Bits 0 to 3: phase A, B, C and total valid (R269). Bits [31:4] reserved -/
def BAY_PQ_STATUS.VALID : Field := mkArr 0x80270 1024 64 0 1 0 4 .RO 0
/-- 0x300 + 8 × (h − 2), h = 2 to 15. Harmonic h of the selected slot, real part -/
def BAY_H_RE.VALUE : Field := mkArr 0x80300 1024 64 8 14 0 32 .RO 0
/-- 0x304 + 8 × (h − 2). Imaginary part -/
def BAY_H_IM.VALUE : Field := mkArr 0x80304 1024 64 8 14 0 32 .RO 0
/-- 0x370. PSW of the selected slot. Bits [31:16] reserved -/
def BAY_H_PSW.PSW : Field := mkArr 0x80370 1024 64 0 1 0 16 .RO 0

/-- Register fields of this file, part 0. -/
def fieldsBay0 : List Field := [
  BAY_CFG.EN,
  BAY_CFG.ROT,
  BAY_CFG.PRIO,
  BAY_CFG.SUBTOL,
  BAY_CFG.FREF,
  BAY_STATUS.RUN,
  BAY_STATUS.ENG,
  BAY_STATUS.SHED,
  BAY_STATUS.PV_ALL,
  BAY_STATUS.REPLAY,
  BAY_STATUS.FHOLD,
  BAY_STATUS.SFHOLD,
  BAY_PSTREAM.EN,
  BAY_PSTREAM.DIV,
  BAY_PSTREAM.BERTH,
  BAY_PSTREAM_SEL.SLOTS,
  BAY_PSTREAM_SEL.SEQ,
  BAY_FREQ.VALUE,
  BAY_SYNCFREQ.VALUE,
  BAY_TICK_LO.VALUE,
  BAY_TICK_HI.VALUE,
  BAY_WAIT_MAX.VALUE,
  BAY_INVAL_CNT.VALUE,
  BAY_HARM_SEL.SLOT,
  BAY_SLOT.CH,
  BAY_SLOT.ROLE,
  BAY_SLOT.INV,
  BAY_SLOT_SCALE.VALUE,
  BAY_M_RE.VALUE,
  BAY_M_IM.VALUE,
  BAY_M_RMS.VALUE,
  BAY_M_PSW.PSW,
  BAY_SEQ_RE.VALUE,
  BAY_SEQ_IM.VALUE,
  BAY_SEQ_PSW.PSW,
  BAY_PQ.VALUE,
  BAY_PQ_STATUS.VALID,
  BAY_H_RE.VALUE,
  BAY_H_IM.VALUE,
  BAY_H_PSW.PSW]

/-- Every register field that 06_bays_and_phasors.md gives. -/
def fieldsBay : List Field := fieldsBay0

end Sys2Proof.Machine.Reg
end

