-- ==== Sys2Proof/Machine/Float.lean ====
section
/-! DEFINITION. IEEE 754 arithmetic of the bay engines (R269, R283): a finite binary64 value is held as the rational
number it is; every operation rounds once, to nearest, ties to even. -/
namespace Sys2Proof.Machine

/-- Floor of the base-2 logarithm of a positive rational. -/
def ratLog2 (x : Rat) : Int :=
  let e : Int := (x.num.natAbs.log2 : Int) - (x.den.log2 : Int)
  if (if 0 ≤ e then ((2 ^ e.toNat : Nat) : Rat) else 1 / ((2 ^ (-e).toNat : Nat) : Rat)) ≤ x then e else e - 1

/-- A power of two as a rational. -/
def pow2 (e : Int) : Rat := if 0 ≤ e then ((2 ^ e.toNat : Nat) : Rat) else 1 / ((2 ^ (-e).toNat : Nat) : Rat)

/-- A rational rounded to an integer, to nearest, ties to even. -/
def ratRne (x : Rat) : Int :=
  let f := x.floor
  let r := x - f
  if r < 1 / 2 then f else if 1 / 2 < r then f + 1 else if f % 2 = 0 then f else f + 1

/-- A rational rounded to `p` significant bits with least quantum 2^emin. -/
def roundBits (p : Nat) (emin : Int) (x : Rat) : Rat :=
  if x = 0 then 0 else
  let e := ratLog2 (if x < 0 then -x else x)
  let qe := max (e - ((p : Int) - 1)) emin
  (ratRne (x / pow2 qe) : Rat) * pow2 qe

/-- Rounding to binary64. -/
def r64 (x : Rat) : Rat := roundBits 53 (-1074) x

/-- The square root of a non-negative rational rounded to binary64. -/
def sqrt64 (x : Rat) : Rat :=
  if x ≤ 0 then 0 else
  -- scale so that the integer root has at least 64 bits, and mark an inexact root by a low bit
  let e := ratLog2 x
  let k : Int := (140 - e) / 2
  let y : Rat := x * pow2 (2 * k)
  let n := y.floor.toNat
  let r := isqrt n
  let exact := decide (r * r = n) && decide ((n : Rat) = y)
  r64 (((2 * r + (if exact then 0 else 1) : Nat) : Rat) * pow2 (-k - 1))

/-- The finite number a binary32 word stands for; `none` for an infinity or a NaN. -/
def dec32 (w : Nat) : Option Rat :=
  let sgn : Rat := if w.testBit 31 then -1 else 1
  let e : Nat := w / 2 ^ 23 % 256
  let m : Nat := w % 2 ^ 23
  if e = 255 then none
  else if e = 0 then some (sgn * (m : Rat) * pow2 (-149))
  else some (sgn * ((m + 2 ^ 23 : Nat) : Rat) * pow2 ((e : Int) - 150))

/-- The binary32 word nearest a rational, ties to even; beyond the largest finite number, an infinity. -/
def enc32 (x : Rat) : Nat :=
  let sb : Nat := if x < 0 then 2 ^ 31 else 0
  let a := roundBits 24 (-149) (if x < 0 then -x else x)
  if a = 0 then sb else
  let e := ratLog2 a
  if 128 ≤ e then sb + 255 * 2 ^ 23
  else if e < -126 then sb + (a / pow2 (-149)).floor.toNat
  else sb + (e + 127).toNat * 2 ^ 23 + ((a / pow2 (e - 23)).floor.toNat - 2 ^ 23)

/-- binary64 sum. -/
def fadd (a b : Rat) : Rat := r64 (a + b)
/-- binary64 difference. -/
def fsub (a b : Rat) : Rat := r64 (a - b)
/-- binary64 product. -/
def fmul (a b : Rat) : Rat := r64 (a * b)
/-- binary64 quotient; the divisor is not zero where the spec divides. -/
def fdiv (a b : Rat) : Rat := r64 (a / b)


/-! ### Signed zeros (R269) -/

/-- A finite binary64 value with its sign bit: `v` as a number, `neg` telling −0 from +0. -/
structure Bin64 where
  v : Rat := 0
  neg : Bool := false
  deriving DecidableEq, Repr

/-- An integer converted exactly. -/
def Bin64.ofInt (n : Int) : Bin64 := { v := n, neg := decide (n < 0) }
/-- A finite binary32 number converted exactly. -/
def Bin64.ofRat (x : Rat) : Bin64 := { v := x, neg := decide (x < 0) }
/-- The opposite. -/
def Bin64.opp (a : Bin64) : Bin64 := { v := -a.v, neg := !a.neg }
/-- The product: its sign is that of the operands' signs together, also where it is zero. -/
def Bin64.mul (a b : Bin64) : Bin64 := { v := fmul a.v b.v, neg := a.neg != b.neg }
/-- The sum: a zero sum is −0 only of two negative zeros. -/
def Bin64.add (a b : Bin64) : Bin64 :=
  { v := fadd a.v b.v, neg := if a.v + b.v = 0 then a.neg && b.neg else decide (a.v + b.v < 0) }
/-- The difference. -/
def Bin64.sub (a b : Bin64) : Bin64 := a.add b.opp
/-- The binary32 word nearest the value. -/
def Bin64.enc32 (a : Bin64) : Nat := if a.v = 0 then 2 ^ 31 * a.neg.toNat else Machine.enc32 a.v

end Sys2Proof.Machine
end

