-- ==== Sys2Proof/Machine/Trig.lean ====
section
/-! DEFINITION. Angles and the trigonometric tables of the phasor engine (R263 to R265), in fixed point of 96 fraction
bits. -/
namespace Sys2Proof.Machine

/-- One in the fixed point of this file. -/
def fxOne : Int := 2 ^ 96
/-- Pi in the fixed point of this file. -/
def fxPi : Int := 248902613312231085230521944622

/-- Sum of the Taylor terms of cosine or sine: `t` is the term in hand, `n` its order. -/
def fxSeries (x2 : Int) : Nat → Int → Nat → Int → Int
  | 0, _, _, acc => acc
  | k + 1, t, n, acc => fxSeries x2 k (-(t * x2 / fxOne) / (((n + 1) * (n + 2) : Nat) : Int)) (n + 2) (acc + t)

/-- Cosine of a fixed-point angle in radians, 0 to 2 pi. -/
def fxCos (x : Int) : Int := fxSeries (x * x / fxOne) 40 fxOne 0 0
/-- Sine of a fixed-point angle in radians, 0 to 2 pi. -/
def fxSin (x : Int) : Int := fxSeries (x * x / fxOne) 40 x 1 0

/-- Q1.23 of a fixed-point value, rounded to nearest. -/
def toQ23 (x : Int) : Int := (x + 2 ^ 72) / 2 ^ 73

/-- C[h][k] of R264: Q1.23 of cos(2 pi h k / n). -/
def cosQ23 (n hk : Nat) : Int := toQ23 (fxCos (2 * fxPi * ((hk % n : Nat) : Int) / (n : Int)))
/-- S[h][k] of R264: Q1.23 of sin(2 pi h k / n). -/
def sinQ23 (n hk : Nat) : Int := toQ23 (fxSin (2 * fxPi * ((hk % n : Nat) : Int) / (n : Int)))

/-- KN of R264: the square root of 2 over N in units of 2^-23, rounded. -/
def knOf (n : Nat) : Nat := (isqrt (8 * 2 ^ 46) + n) / (2 * n)

/-- Euler's series of the arctangent of y/x, 0 ≤ y ≤ x: `t` is the term in hand. -/
def atanGo (w : Int) : Nat → Int → Nat → Int → Int
  | 0, _, _, acc => acc
  | k + 1, t, n, acc => atanGo w k (t * w / fxOne * (2 * (n : Int) + 2) / (2 * (n : Int) + 3)) (n + 1) (acc + t)

/-- Arctangent of y/x in fixed-point radians, for 0 ≤ y ≤ x and 0 < x. -/
def fxAtan (y x : Nat) : Int :=
  let d : Int := (x * x + y * y : Nat)
  let t0 : Int := fxOne * ((x * y : Nat) : Int) / d
  let w : Int := fxOne * ((y * y : Nat) : Int) / d
  atanGo w 110 t0 0 0

/-- The angle of a vector in the first octant, in units of 2^-32 turn, rounded down, and whether it is exact. -/
def octant (y x : Nat) : Int × Bool :=
  if y = 0 then (0, true) else if y = x then (2 ^ 29, true)
  else (fxAtan y x * 2 ^ 31 / fxPi, false)

/-- The angle of re + j im: a signed value in units of 2^-32 turn (R25, R265). Its rounding is left open. -/
def angle32 (re im : Int) : Int :=
  let a := re.natAbs
  let b := im.natAbs
  if a = 0 ∧ b = 0 then satI 32 (Config.zeroAngle 0) else
  -- the angle of |re| + j |im|, rounded down
  let q : Int × Bool := if b ≤ a then octant b a else
    let o := octant a b
    (2 ^ 30 - o.1 - (if o.2 then 0 else 1), o.2)
  -- reflected into its quadrant, still rounded down
  let e : Int := if q.2 then 0 else 1
  let v : Int := if 0 ≤ re ∧ 0 ≤ im then q.1
    else if re < 0 ∧ 0 ≤ im then 2 ^ 31 - q.1 - e
    else if re < 0 then -(2 ^ 31) + q.1
    else -q.1 - e
  let v := if q.2 then v else v + (if Config.angleUp re im then 1 else 0)
  if 2 ^ 31 ≤ v then v - 2 ^ 32 else v

/-- An angle difference wrapped to half a turn either way (R25, R271). -/
def wrapTurn (d : Int) : Int := (d + 2 ^ 31) % 2 ^ 32 - 2 ^ 31

/-- Magnitude of re + j im, rounded down (R265). -/
def magOf (re im : Int) : Nat := isqrt (re.natAbs * re.natAbs + im.natAbs * im.natAbs)

/-- (p + q √3) / d rounded down, and whether that is exact. -/
def surdFloor (p q : Int) (d : Nat) : Int × Bool :=
  let r := isqrt (3 * q.natAbs * q.natAbs)
  let f : Int := if 0 ≤ q then r else -((r : Int) + 1)
  let f := if q = 0 then 0 else f
  ((p + f) / (d : Int), decide (q = 0) && decide (p % (d : Int) = 0))

/-- (p + q √3) / d as an integer; the rounding of what lies between two integers is left open. -/
def surdRound (tag : Nat) (p q : Int) (d : Nat) : Int :=
  let r := surdFloor p q d
  if r.2 then r.1 else r.1 + (if Config.roundUp tag (p * 4 + q) d then 1 else 0)

/-- n / d as an integer; the rounding of what lies between two integers is left open. -/
def openDiv (tag : Nat) (n : Int) (d : Nat) : Int :=
  if n % (d : Int) = 0 then n / (d : Int) else n / (d : Int) + (if Config.roundUp tag n d then 1 else 0)

end Sys2Proof.Machine
end

