-- ==== Sys2Proof/Machine/Rom.lean ====
section
/-! DEFINITION. The routines of the bay engines' ROM (R283, R286, R292, R323, R324, R372). The spec says what each computes and not its
last bits: the unit's value counts where it lies within 2^-48 of the true one, relatively or from one part in 2^60 on, and the true value
rounded to binary64 stands in for it otherwise (DESIGN CHOICE, log entry 112). -/
namespace Sys2Proof.Machine

/-- A fixed-point number of 96 fraction bits as a rational. -/
def fxRat (x : Int) : Rat := (x : Rat) / ((2 ^ 96 : Nat) : Rat)
/-- A rational in fixed point of 96 fraction bits, rounded down. -/
def ratFx (x : Rat) : Int := (x * ((2 ^ 96 : Nat) : Rat)).floor

/-- The natural logarithm of 2 in fixed point. -/
def fxLn2 : Int := 54916777467707473351141471128

/-- Sum of z^(2k+1) / (2k+1): `t` is the power in hand, `n` its exponent. -/
def atanhGo (z2 : Int) : Nat → Int → Nat → Int → Int
  | 0, _, _, acc => acc
  | k + 1, t, n, acc => atanhGo z2 k (t * z2 / fxOne) (n + 2) (acc + t / (n : Int))

/-- The natural logarithm of a positive rational, in fixed point. -/
def fxLn (x : Rat) : Int :=
  let e := ratLog2 x
  let m := ratFx (x / pow2 e)
  let z := (m - fxOne) * fxOne / (m + fxOne)
  2 * atanhGo (z * z / fxOne) 36 z 1 0 + e * fxLn2

/-- Sum of the Taylor terms of the exponential: `t` is the term in hand, `n` its order. -/
def expGo (x : Int) : Nat → Int → Nat → Int → Int
  | 0, _, _, acc => acc
  | k + 1, t, n, acc => expGo x k (t * x / fxOne / ((n + 1 : Nat) : Int)) (n + 1) (acc + t)

/-- The exponential of a fixed-point number. -/
def fxExp (x : Int) : Rat := fxRat (expGo (x % fxLn2) 30 fxOne 0 0) * pow2 (x / fxLn2)

/-- A value of the unit's ROM held to the true one. -/
def romHeld (v p : Rat) : Rat :=
  let v := r64 v
  let d := if v < p then p - v else v - p
  let a := if p < 0 then -p else p
  if d * ((2 ^ 48 : Nat) : Rat) ≤ a ∨ d * ((2 ^ 60 : Nat) : Rat) ≤ 1 then v else r64 p

/-- x to the power p, for positive x (R286). -/
def romPow (x p : Rat) : Rat :=
  romHeld (Config.romRoutine 0 x p) <|
    if p = 1 then x else if p = 2 then x * x else fxExp (ratFx (p * fxRat (fxLn x)))
/-- The exponential (R292, R324). -/
def romExp (x : Rat) : Rat := romHeld (Config.romRoutine 1 x 0) (fxExp (ratFx x))
/-- The natural logarithm of a positive number (R292, R325). -/
def romLn (x : Rat) : Rat := romHeld (Config.romRoutine 2 x 0) (fxRat (fxLn x))
/-- The sine of an angle in radians, of at most a turn (R323, R372). -/
def romSin (x : Rat) : Rat :=
  romHeld (Config.romRoutine 3 x 0) (if x < 0 then -fxRat (fxSin (ratFx (-x))) else fxRat (fxSin (ratFx x)))
/-- The cosine of an angle in radians, of at most a turn (R323). -/
def romCos (x : Rat) : Rat := romHeld (Config.romRoutine 4 x 0) (fxRat (fxCos (ratFx (if x < 0 then -x else x))))
/-- Degrees in radians (R323). -/
def romRad (x : Rat) : Rat := romHeld (Config.romRoutine 5 x 0) (x * fxRat fxPi / 180)

end Sys2Proof.Machine
end

