-- ==== Sys2Proof/Machine/Phasor.lean ====
section
/-! DEFINITION. The phasor engine and the bay quantities (R246 to R276). -/
namespace Sys2Proof.Machine
open Reg

/-! ### Sample status bits (R48) -/
/-- SSW bit VALID. -/
def bVALID : Nat := 0x0001
/-- SSW bit SETTLING. -/
def bSETTLING : Nat := 0x0002
/-- SSW bit QUESTIONABLE. -/
def bQUEST : Nat := 0x0004
/-- SSW bit SUBSTITUTED. -/
def bSUBST : Nat := 0x0008
/-- SSW bit LATE. -/
def bLATE : Nat := 0x0010
/-- SSW bit WIDE. -/
def bWIDE : Nat := 0x0020
/-- SSW bit CLIPPED. -/
def bCLIPPED : Nat := 0x0040
/-- SSW bit TWIN_MISMATCH. -/
def bTWIN : Nat := 0x0080
/-- SSW bit TEST. -/
def bTEST : Nat := 0x0100
/-- SSW bit SYNC_LOST. -/
def bSYNCLOST : Nat := 0x0200
/-- SSW bit FREQ_HOLD. -/
def bFREQHOLD : Nat := 0x0400
/-- SSW bit SELFTEST. -/
def bSELFTEST : Nat := 0x0800
/-- SSW bit REPLAYED. -/
def bREPLAYED : Nat := 0x1000

/-- Not a bit of an SSW: among a base-rate sample's flags it says that the channel faded between two banks (R196). -/
def bFADE : Nat := 0x20000

/-- A status word has a bit of the mask. -/
def hasBit (w m : Nat) : Bool := w &&& m != 0
/-- A status word with a mask's bits set when the condition holds. -/
def orIf (w : Nat) (c : Bool) (m : Nat) : Nat := if c then w ||| m else w
/-- A status word with a mask's bits cleared. -/
def andNot (w m : Nat) : Nat := w - (w &&& m)

/-! ### Grid structure in force (R22) -/
/-- N_P by its code. -/
def npOf (code : Nat) : Nat := match code with | 0 => 32 | 1 => 48 | 2 => 64 | 3 => 80 | _ => 96
/-- N_P in force. -/
def State.np (s : State) : Nat := npOf (s.rd GRID_STATUS.NP_IF)
/-- N_R in force. -/
def State.nr (s : State) : Nat := match s.rd GRID_STATUS.NR_IF with | 1 => 128 | 2 => 256 | _ => s.np
/-- Nominal frequency in force, uHz. 16.7 Hz is taken as 16,700,000 uHz. -/
def State.fnom (s : State) : Nat := match s.rd GRID_STATUS.NOMF_IF with | 0 => 50000000 | 1 => 60000000 | 2 => 16700000 | _ => 25000000

/-! ### Ticks kept -/
/-- The record of tick `n` and those before it, newest first. -/
def State.histFrom (s : State) (n : Nat) : List TickRec := s.grid.hist.dropWhile fun r => n < r.n

/-- The record of tick `n`. -/
def State.tickRec? (s : State) (n : Nat) : Option TickRec := (s.histFrom n).head?.filter fun r => r.n == n

/-- The first tick of the newest cycle, while the tracker has not yet decided that cycle. -/
def State.trackDue (s : State) : Option TickRec :=
  if s.grid.trkDone then none else s.grid.hist.find? fun r => r.n % s.np == 0

/-- The cycle of tick `n` is decided: what hangs on the tick may be published (R31). -/
def State.decided (s : State) (n : Nat) : Bool := match s.trackDue with | some r => decide (n < r.n) | none => true

/-- The sample of channel `g` in a tick record: an unmapped channel has status 0x0000 (R52), and a local one the value 0 (R62). -/
def TickRec.at' (r : TickRec) (g : Nat) : Smp :=
  (tfind r.smp g).getD { v := if g < 64 then 0 else satI 32 (Config.unmappedValue g r.n), ssw := 0 }

/-! ### Phasors (R262 to R267) -/
/-- A phasor with its status word. -/
structure Phasor where
  re : Int := 0
  im : Int := 0
  psw : Nat := 0
  deriving DecidableEq, Repr

/-- The window of channel `g` that ends at tick `n`: N_P ticks with their indices. -/
def State.window (s : State) (g n : Nat) : List (Nat × Smp) := ((s.histFrom n).take s.np).map fun r => (r.n, r.at' g)

/-- A sample is invalid only because it was substituted (R267). -/
def Smp.subOnly (x : Smp) : Bool :=
  !hasBit x.ssw bVALID && hasBit x.ssw bSUBST && !hasBit x.ssw bSETTLING && !hasBit x.ssw bSELFTEST && !x.inv

/-- The phasor status word of a window of `np` samples (R266). -/
def pswOf (np : Nat) (w : List (Nat × Smp)) : Nat :=
  let o := w.foldl (fun a x => a ||| x.2.ssw) 0
  let v := decide (w.length = np) && w.all fun x => hasBit x.2.ssw bVALID
  orIf (andNot o bVALID) v bVALID

/-- Harmonic `h` of a window (R263, R264): the exact windowed sums, scaled and rounded. -/
def harmonic (np h : Nat) (w : List (Nat × Smp)) : Int × Int :=
  let re := w.foldl (fun a x => a + cosQ23 np (h * x.1) * x.2.v) 0
  let im := w.foldl (fun a x => a - sinQ23 np (h * x.1) * x.2.v) 0
  let sc := fun (y : Int) => satI 32 ((y * (knOf np : Int) + 2 ^ 45) / 2 ^ 46)
  (sc re, sc im)

/-- The phasor of harmonic `h` of channel `g` at tick `n`, under the strict validity of R266. -/
def State.phasor (s : State) (g n : Nat) (h : Nat := 1) : Phasor :=
  let w := s.window g n
  let p := harmonic s.np h w
  { re := p.1, im := p.2, psw := pswOf s.np w }

/-- The true RMS of a window (R264). -/
def rmsOf (np : Nat) (w : List Int) : Nat := isqrt ((w.foldl (fun a x => a + x * x) 0).natAbs / np)

/-- The status word of a slot's phasor after R267, for a bay that tolerates `subtol` substituted samples. -/
def slotPsw (np subtol : Nat) (w : List (Nat × Smp)) : Nat :=
  let p := pswOf np w
  let bad := w.filter fun x => !hasBit x.2.ssw bVALID
  let nsub := (w.filter fun x => x.2.subOnly).length
  if hasBit p bVALID then p
  else if w.length = np ∧ 1 ≤ nsub ∧ nsub ≤ subtol ∧ bad.length = nsub then p ||| (bVALID + bSUBST + bQUEST)
  else p

/-! ### Slots of a bay (R247 to R253) -/
/-- The settings bank that was in force at tick `n` (R558). -/
def State.bankAt (s : State) (n : Nat) : Bank :=
  match s.prev with
  | some (b, first) => if n < first then b else s.bank
  | none => s.bank

/-- The state with the settings that were in force at tick `n`. -/
def State.asAt (s : State) (n : Nat) : State := { s with bank := s.bankAt n }
/-- The state with the settings of tick `n` applied to every tick: a slot's phasor of an earlier tick is then that of its present
channel (R279). -/
def State.mapAt (s : State) (n : Nat) : State := { s with bank := s.bankAt n, prev := none }
/-- Run `f` with the settings that were in force at tick `n`. -/
def State.onTick (s : State) (n : Nat) (f : State → State) : State := { f (s.asAt n) with bank := s.bank }

/-- The slot of bay `b` that holds a role, if one does. -/
def Bank.slotOf (k : Bank) (b role : Nat) : Option Nat := (List.range 16).find? fun i => k.fld BAY_SLOT.ROLE b i == role

/-- The slots of bay `b` that are not empty. -/
def Bank.slots (k : Bank) (b : Nat) : List Nat := (List.range 16).filter fun i => k.fld BAY_SLOT.ROLE b i != 0

/-- The window of a slot at tick `n`, with INV applied (R252). -/
def State.slotWindow (s : State) (b i n : Nat) : List (Nat × Smp) :=
  let k := s.bankAt n
  let w := s.window (k.fld BAY_SLOT.CH b i) n
  if k.fld BAY_SLOT.INV b i = 1 then w.map fun x => (x.1, { x.2 with v := -x.2.v }) else w

/-- The phasor of a slot at tick `n`, with INV applied and its status after R267. An empty slot reads 0, status 0. -/
def State.slotPh (s : State) (b i n : Nat) (h : Nat := 1) : Phasor :=
  let k := s.bankAt n
  if k.fld BAY_SLOT.ROLE b i = 0 then {} else
  let w := s.window (k.fld BAY_SLOT.CH b i) n
  let p := harmonic s.np h w
  let sg : Int := if k.fld BAY_SLOT.INV b i = 1 then -1 else 1
  { re := sg * p.1, im := sg * p.2, psw := slotPsw s.np (k.fld BAY_CFG.SUBTOL b) w }

/-- The phasor of the slot that holds a role; `none` when the bay does not map it. -/
def State.rolePh (s : State) (b role n : Nat) (h : Nat := 1) : Option Phasor :=
  ((s.bankAt n).slotOf b role).map fun i => s.slotPh b i n h

/-- A phasor with the opposite sign. -/
def Phasor.neg (p : Phasor) : Phasor := { p with re := -p.re, im := -p.im }

/-- The status word formed from several inputs: each bit but VALID is their OR, VALID their AND (R268). -/
def joinPsw (l : List Nat) : Nat :=
  orIf (andNot (l.foldl (· ||| ·) 0) bVALID) (l.all fun w => hasBit w bVALID) bVALID

/-! ### Sequence components (R268) -/
/-- A number p + q √3. -/
structure Surd where
  p : Int
  q : Int

/-- Sum of two such numbers. -/
def Surd.add (a b : Surd) : Surd := ⟨a.p + b.p, a.q + b.q⟩
/-- Product of two such numbers. -/
def Surd.mul (a b : Surd) : Surd := ⟨a.p * b.p + 3 * a.q * b.q, a.p * b.q + a.q * b.p⟩
/-- Opposite of such a number. -/
def Surd.neg (a : Surd) : Surd := ⟨-a.p, -a.q⟩

/-- Product of two complex numbers with such parts. -/
def cmulS (a b : Surd × Surd) : Surd × Surd :=
  ((a.1.mul b.1).add (a.2.mul b.2).neg, (a.1.mul b.2).add (a.2.mul b.1))
/-- Sum of two complex numbers with such parts. -/
def caddS (a b : Surd × Surd) : Surd × Surd := (a.1.add b.1, a.2.add b.2)

/-- 2a, twice the operator 1∠120°. -/
def twoA : Surd × Surd := (⟨-1, 0⟩, ⟨0, 1⟩)
/-- 2a², twice the operator 1∠240°. -/
def twoA2 : Surd × Surd := (⟨-1, 0⟩, ⟨0, -1⟩)
/-- The complex number 2 in this form. -/
def twoS : Surd × Surd := (⟨2, 0⟩, ⟨0, 0⟩)
/-- A phasor in this form. -/
def phS (x : Phasor) : Surd × Surd := (⟨x.re, 0⟩, ⟨x.im, 0⟩)

/-- 2 (x + u y + v z) for operators given twice over. -/
def seqSum (u v : Surd × Surd) (x y z : Phasor) : Surd × Surd :=
  caddS (cmulS twoS (phS x)) (caddS (cmulS u (phS y)) (cmulS v (phS z)))

/-- A complex number over `d` as a phasor, each part an integer. -/
def surdPh (tag : Nat) (z : Surd × Surd) (d psw : Nat) : Phasor :=
  { re := surdRound tag z.1.p z.1.q d, im := surdRound (tag + 1) z.2.p z.2.q d, psw := psw }

/-- Sequence component 0, 1 or 2 of three phase phasors, B and C already exchanged when the order is A-C-B. -/
def seqPhase (q : Nat) (x y z : Phasor) : Phasor :=
  let psw := joinPsw [x.psw, y.psw, z.psw]
  match q with
  | 0 => surdPh 10 (seqSum twoS twoS x y z) 6 psw
  | 1 => surdPh 12 (seqSum twoA twoA2 x y z) 6 psw
  | _ => surdPh 14 (seqSum twoA2 twoA x y z) 6 psw

/-- Sequence component 1 or 2 of three phase-to-phase phasors: the division by 3 (√3∠±30°) is the product with
(3 ∓ j√3) over 18. -/
def seqLine (q : Nat) (x y z : Phasor) : Phasor :=
  let psw := joinPsw [x.psw, y.psw, z.psw]
  match q with
  | 0 => {}
  | 1 => surdPh 16 (cmulS (seqSum twoA twoA2 x y z) (⟨3, 0⟩, ⟨0, -1⟩)) 36 psw
  | _ => surdPh 18 (cmulS (seqSum twoA2 twoA x y z) (⟨3, 0⟩, ⟨0, 1⟩)) 36 psw

/-- The three phasors of roles r, r+1, r+2 when the bay maps them. -/
def State.three (s : State) (b r n : Nat) : Option (Phasor × Phasor × Phasor) :=
  match s.rolePh b r n, s.rolePh b (r + 1) n, s.rolePh b (r + 2) n with
  | some x, some y, some z => some (x, y, z)
  | _, _, _ => none

/-- Sequence component `q` (0, 1, 2) of the currents (`volt` = false) or the voltages of bay `b` at tick `n` (R268). -/
def State.seqComp (s : State) (b : Nat) (volt : Bool) (q n : Nat) : Phasor :=
  let rot := (s.bankAt n).fld BAY_CFG.ROT b = 1
  match s.three b (if volt then 6 else 1) n with
  | some (x, y, z) => if rot then seqPhase q x z y else seqPhase q x y z
  | none =>
    if volt then
      match s.three b 10 n with
      | some (x, y, z) => if rot then seqLine q z.neg y.neg x.neg else seqLine q x y z
      | none => {}
    else {}

/-- Three times the zero sequence of roles r, r+1, r+2: the sum of the three (R268). -/
def State.threeX0 (s : State) (b r n : Nat) : Option Phasor :=
  (s.three b r n).map fun t =>
    { re := t.1.re + t.2.1.re + t.2.2.re, im := t.1.im + t.2.1.im + t.2.2.im,
      psw := joinPsw [t.1.psw, t.2.1.psw, t.2.2.psw] }

/-- True RMS of the sample-wise sum of the three phase currents (R268), with the status of 3I0. -/
def State.rms3I0 (s : State) (b n : Nat) : Option (Nat × Nat) :=
  let k := s.bankAt n
  match k.slotOf b 1, k.slotOf b 2, k.slotOf b 3, s.threeX0 b 1 n with
  | some i, some j, some l, some p =>
    let sum := (s.slotWindow b i n).zip ((s.slotWindow b j n).zip (s.slotWindow b l n))
    some (rmsOf s.np (sum.map fun x => x.1.2.v + x.2.1.2.v + x.2.2.2.v), p.psw)
  | _, _, _, _ => none

/-- True RMS of a slot (R264). -/
def State.slotRms (s : State) (b i n : Nat) : Nat := rmsOf s.np ((s.slotWindow b i n).map fun x => x.2.v)

/-- A phase-to-phase voltage of the bay: pair 0 is A-B, 1 B-C, 2 C-A; measured, or the difference of phase voltages. -/
def State.linePh (s : State) (b pair n : Nat) : Option Phasor :=
  match s.rolePh b (10 + pair) n with
  | some p => some p
  | none =>
    match s.rolePh b (6 + pair) n, s.rolePh b (6 + (pair + 1) % 3) n with
    | some x, some y => some { re := x.re - y.re, im := x.im - y.im, psw := joinPsw [x.psw, y.psw] }
    | _, _ => none

/-! ### Power (R269) -/
/-- The scale of the slot that holds a role, as the number its binary32 stands for. -/
def Bank.scaleOf (k : Bank) (b role : Nat) : Rat :=
  match k.slotOf b role with
  | some i => (dec32 (k.fld BAY_SLOT_SCALE.VALUE b i)).getD 0
  | none => 0

/-- The parts of a phasor in binary64. -/
def Phasor.bin (p : Phasor) : Bin64 × Bin64 := (Bin64.ofInt p.re, Bin64.ofInt p.im)

/-- V × I* of complex numbers in binary64. -/
def mulConj (v i : Bin64 × Bin64) : Bin64 × Bin64 :=
  ((v.1.mul i.1).add (v.2.mul i.2), (v.2.mul i.1).sub (v.1.mul i.2))

/-- A complex number × SCALE_V × SCALE_I in binary64, in the order written. -/
def scaleBy (z : Bin64 × Bin64) (sv si : Rat) : Bin64 × Bin64 :=
  let f := fun (x : Bin64) => (x.mul (Bin64.ofRat sv)).mul (Bin64.ofRat si)
  (f z.1, f z.2)

/-- The eight results of BAY_PQ in binary64 and their validity bits (R269). −VCA is formed in binary64 (DEDUCED, log entry 12). -/
def State.power (s : State) (b n : Nat) : List Bin64 × Nat :=
  let k := s.bankAt n
  let ok := fun (v i : Phasor) => hasBit v.psw bVALID && hasBit i.psw bVALID
  match s.three b 6 n, s.three b 1 n with
  | some (va, vb, vc), some (ia, ib, ic) =>
    let pw := fun (v i : Phasor) => scaleBy (mulConj v.bin i.bin) (k.scaleOf b 6) (k.scaleOf b 1)
    let pa := pw va ia
    let pb := pw vb ib
    let pc := pw vc ic
    ([pa.1, pa.2, pb.1, pb.2, pc.1, pc.2, (pa.1.add pb.1).add pc.1, (pa.2.add pb.2).add pc.2],
      b2n (ok va ia) + 2 * b2n (ok vb ib) + 4 * b2n (ok vc ic) + 8 * b2n (ok va ia && ok vb ib && ok vc ic))
  | _, some (ia, ib, _) =>
    match s.three b 10 n with
    | some (_, vbc, vca) =>
      let m := mulConj (vca.bin.1.opp, vca.bin.2.opp) ia.bin
      let q := mulConj vbc.bin ib.bin
      let t := scaleBy (m.1.add q.1, m.2.add q.2) (k.scaleOf b 10) (k.scaleOf b 1)
      (List.replicate 6 {} ++ [t.1, t.2], 8 * b2n (ok vca ia && ok vbc ib))
    | none => (List.replicate 8 {}, 0)
  | _, _ => (List.replicate 8 {}, 0)

/-- The status word of the total power: VALID as BAY_PQ_STATUS has it, the other bits of its inputs (R268, R269). -/
def State.powerPsw (s : State) (b n : Nat) : Nat :=
  let ins := fun (l : List Phasor) => l.foldl (fun a p => a ||| p.psw) 0
  let w := match s.three b 6 n, s.three b 1 n with
    | some (va, vb, vc), some (ia, ib, ic) => ins [va, vb, vc, ia, ib, ic]
    | _, some (ia, ib, _) => (match s.three b 10 n with | some (_, vbc, vca) => ins [vbc, vca, ia, ib] | none => 0)
    | _, _ => 0
  orIf (andNot w bVALID) ((s.power b n).2.testBit 3) bVALID

/-! ### Bay frequency (R270, R271) -/
/-- A signal's frequency in uHz over the N_P ticks that end at tick `n`; `none` when a phasor is not usable. -/
def State.freqOver (s : State) (n : Nat) (ph : Nat → Phasor) : Option Nat :=
  let m := s.np
  if n < m then none else
  match s.tickRec? n, s.tickRec? (n - m) with
  | some r, some r0 =>
    let p := ph n
    let p0 := ph (n - m)
    let min := (s.bankAt n).fld GRID_TRK_MINMAG.VALUE
    if hasBit p.psw bVALID ∧ hasBit p0.psw bVALID ∧ min ≤ magOf p.re p.im ∧ min ≤ magOf p0.re p0.im ∧ r0.t < r.t then
      let d := wrapTurn (angle32 p.re p.im - angle32 p0.re p0.im)
      some (openDiv 20 ((2 ^ 32 + d) * 250000000 * 1000000 * 2 ^ 24) (2 ^ 32 * (r.t - r0.t))).natAbs
    else none
  | _, _ => none

/-- The bay's frequency reference phasor (R270). -/
def State.frefPh (s : State) (b n : Nat) : Phasor :=
  let f := (s.bankAt n).fld BAY_CFG.FREF b
  if f < 16 then s.slotPh b f n else s.seqComp b true 1 n

/-- The VSYNC slot's phasor. -/
def State.vsyncPh (s : State) (b n : Nat) : Phasor := (s.rolePh b 13 n).getD {}

/-- The mapped channels of a bay (R254). -/
def Bank.chans (k : Bank) (b : Nat) : List Nat := (k.slots b).map fun i => k.fld BAY_SLOT.CH b i

/-- Every mapped channel of bay `b` has its sample of a tick (R254). -/
def State.bayReady (s : State) (b : Nat) (r : TickRec) : Bool :=
  s.decided r.n && ((s.bankAt r.n).chans b).all fun g => !r.wait.contains g

end Sys2Proof.Machine
end

