-- ==== Sys2Proof/Machine/RegAfe.lean ====
section
/-! DEFINITION. The register fields of spec file 02_twin_modulators.md: address, array shape, bit place, access code, reset value
and (for a settings field) the range R697 binds. -/
namespace Sys2Proof.Machine.Reg
open Field

/-- Group k powered and settled -/
def AFE_STATUS.GRP_PWR : Field := mk' 0x20000 0 4 .RO 0
/-- Group k has a passing self-cal since start-up -/
def AFE_STATUS.CAL_DONE : Field := mk' 0x20000 4 4 .RO 0
/-- SELFCAL running -/
def AFE_STATUS.CAL_BUSY : Field := mk' 0x20000 8 1 .RO 0
/-- Group under calibration while CAL_BUSY -/
def AFE_STATUS.CAL_GRP : Field := mk' 0x20000 9 2 .RO 0
/-- AFE_DIAG running -/
def AFE_STATUS.DIAG_BUSY : Field := mk' 0x20000 11 1 .RO 0
/-- AFE_SKEWCAL running -/
def AFE_STATUS.SKEW_BUSY : Field := mk' 0x20000 12 1 .RO 0
/-- Group k under BIST -/
def AFE_STATUS.GRP_BIST : Field := mk' 0x20000 13 4 .RO 0
/-- 0x004. Up threshold, 5,000 to 45,000. Bits [31:24] are reserved -/
def AFE_SPLICE_UP.VALUE : Field := mk' 0x20004 0 24 .SP 40000 |>.range 5000 45000
/-- 0x008. Down threshold, 1,000 to UP − 5,000 (R79). Bits [31:24] are reserved -/
def AFE_SPLICE_DN.VALUE : Field := mk' 0x20008 0 24 .SP 25000 |>.range 1000 40000
/-- 0x00C. Hold time in ms, 1 to 1,000. Bits [31:16] are reserved -/
def AFE_SPLICE_HOLD.VALUE : Field := mk' 0x2000C 0 16 .SP 40 |>.range 1 1000
/-- 0x014. Lowest scored magnitude. Bits [31:24] are reserved -/
def AFE_VAL_MIN.VALUE : Field := mk' 0x20014 0 24 .SP 2000
/-- 0x034. Group calibrations completed -/
def AFE_CAL_CNT.VALUE : Field := mk' 0x20034 0 32 .RC 0
/-- 0x040. Group calibrations failed -/
def AFE_CAL_FAIL_CNT.VALUE : Field := mk' 0x20040 0 32 .RC 0
/-- 0x038. TEST marking, channels 0 to 31 (R109) -/
def AFE_TESTMARK_LO.MASK : Field := mk' 0x20038 0 32 .RW 0
/-- 0x03C. TEST marking, channels 32 to 63 -/
def AFE_TESTMARK_HI.MASK : Field := mk' 0x2003C 0 32 .RW 0
/-- 0x02C. Worst gain error of A in the last diagnosis, ppm, two's complement -/
def AFE_DIAG_AERR.VALUE : Field := mk' 0x2002C 0 32 .RO 0
/-- 0x030. Worst gain error of B in the last diagnosis, ppm, two's complement -/
def AFE_DIAG_BERR.VALUE : Field := mk' 0x20030 0 32 .RO 0
/-- Absolute limit, µV rms -/
def AFE_VAL_CFG.ABS : Field := mk' 0x20010 0 16 .SP 40
/-- Relative limit, ppm -/
def AFE_VAL_CFG.REL : Field := mk' 0x20010 16 12 .SP 500
/-- Failing windows before forced wide, 1 to 15; 0 is rejected at staging -/
def AFE_VAL_CFG.FAILN : Field := mk' 0x20010 28 4 .SP 3 |>.range 1 15
/-- Instantaneous limit, µV -/
def AFE_TWIN_TOL.TOL : Field := mk' 0x20018 0 24 .SP 8000
/-- Consecutive validation samples, 1 to 255 -/
def AFE_TWIN_TOL.CNT : Field := mk' 0x20018 24 8 .SP 4 |>.range 1 255
/-- Window limit, µV rms -/
def AFE_TWIN_WIN.ABS : Field := mk' 0x2001C 0 16 .SP 60
/-- Window limit, ppm -/
def AFE_TWIN_WIN.REL : Field := mk' 0x2001C 16 12 .SP 1000
/-- 0 off, 1 internal test bus (used only by the procedures of R108), 2 TDAC_OUT; 3 reserved -/
def AFE_TDAC_CTRL.DEST : Field := mk' 0x20020 0 2 .RW 0
/-- 0 DC from `AFE_TDAC_DATA`, 1 table -/
def AFE_TDAC_CTRL.WAVE : Field := mk' 0x20020 2 1 .RW 0
/-- Output enabled -/
def AFE_TDAC_CTRL.RUN : Field := mk' 0x20020 3 1 .RW 0
/-- Internal bus range ÷32 -/
def AFE_TDAC_CTRL.ATT : Field := mk' 0x20020 4 1 .RW 0
/-- Table length − 1 -/
def AFE_TDAC_CTRL.LEN : Field := mk' 0x20020 5 10 .RW 0
/-- µs per point, 1 to 65,535 -/
def AFE_TDAC_CTRL.RATE : Field := mk' 0x20020 16 16 .RW 1
/-- Offset binary: 0x000 is −FS, 0x800 is 0, 0xFFF is +FS × 2047/2048. Bits [31:12] are reserved -/
def AFE_TDAC_DATA.CODE : Field := mk' 0x20024 0 12 .RW 2048
/-- Channel of the last diagnosis -/
def AFE_DIAG_RES.CH : Field := mk' 0x20028 0 6 .RO 0
/-- 0 PASS, 1 A_FAULT, 2 B_FAULT, 3 BOTH_FAULT -/
def AFE_DIAG_RES.VERDICT : Field := mk' 0x20028 6 2 .RO 0
/-- A diagnosis has completed since start-up -/
def AFE_DIAG_RES.DONE : Field := mk' 0x20028 8 1 .RO 0
/-- +0x00. Mode per R61 -/
def AFE_CH_CFG.MODE : Field := mkArr 0x21000 128 64 0 1 0 2 .SP 2
/-- +0x00. 0 mean, 1 A, 2 B; 3 is rejected at staging. Bits [31:4] are reserved -/
def AFE_CH_CFG.TWIN_SRC : Field := mkArr 0x21000 128 64 0 1 2 2 .SP 0 |>.range 0 2
/-- +0x04. A contributes to the output -/
def AFE_CH_STATUS.WIDE : Field := mkArr 0x21004 128 64 0 1 0 1 .RO 1
/-- +0x04. R85 -/
def AFE_CH_STATUS.FORCED_WIDE : Field := mkArr 0x21004 128 64 0 1 1 1 .RO 0
/-- +0x04. 0 no verdict, 1 pass, 2 fail -/
def AFE_CH_STATUS.VAL : Field := mkArr 0x21004 128 64 0 1 2 2 .RO 0
/-- +0x04. Twin mismatch flagged -/
def AFE_CH_STATUS.TWIN_MM : Field := mkArr 0x21004 128 64 0 1 4 1 .RO 0
/-- +0x04. Overload detector of A active -/
def AFE_CH_STATUS.A_OVL : Field := mkArr 0x21004 128 64 0 1 5 1 .RO 0
/-- +0x04. Overload detector of B active -/
def AFE_CH_STATUS.B_OVL : Field := mkArr 0x21004 128 64 0 1 6 1 .RO 0
/-- +0x04. R68 -/
def AFE_CH_STATUS.UNCAL : Field := mkArr 0x21004 128 64 0 1 7 1 .RO 1
/-- +0x04. 0 not run, 1 PASS, 2 A_FAULT, 3 B_FAULT, 4 BOTH_FAULT -/
def AFE_CH_STATUS.DIAG : Field := mkArr 0x21004 128 64 0 1 8 3 .RO 0
/-- +0x04. Last self-cal of the channel failed. Bits [31:12] are reserved -/
def AFE_CH_STATUS.CAL_FAIL : Field := mkArr 0x21004 128 64 0 1 11 1 .RO 0
/-- +0x08. O_cal of A, two's complement -/
def AFE_CH_CAL_OFS_A.VALUE : Field := mkArr 0x21008 128 64 0 1 0 24 .RO 0
/-- +0x0C. G_cal of A, Q2.22 -/
def AFE_CH_CAL_GAIN_A.VALUE : Field := mkArr 0x2100C 128 64 0 1 0 24 .RO 0x400000
/-- +0x10. O_cal of B at gain 32 -/
def AFE_CH_CAL_OFS_B32.VALUE : Field := mkArr 0x21010 128 64 0 1 0 24 .RO 0
/-- +0x14. G_cal of B at gain 32 -/
def AFE_CH_CAL_GAIN_B32.VALUE : Field := mkArr 0x21014 128 64 0 1 0 24 .RO 0x400000
/-- +0x18. O_cal of B at gain 1 -/
def AFE_CH_CAL_OFS_B1.VALUE : Field := mkArr 0x21018 128 64 0 1 0 24 .RO 0
/-- +0x1C. G_cal of B at gain 1 -/
def AFE_CH_CAL_GAIN_B1.VALUE : Field := mkArr 0x2101C 128 64 0 1 0 24 .RO 0x400000
/-- +0x20. FDLY in 1/256 modulator period (312.5 ps), two's complement. Bits [31:16] are reserved -/
def AFE_CH_CAL_FDLY.VALUE : Field := mkArr 0x21020 128 64 0 1 0 16 .RO 0
/-- +0x24. S_cal in ps, two's complement (R114) (reset: from MRAM) -/
def AFE_CH_CAL_SKEW.VALUE : Field := mkArr 0x21024 128 64 0 1 0 32 .RO 0
/-- +0x28. G_user, 0x3C_CCCD to 0x43_3333 (0.95 to 1.05); outside is rejected at staging -/
def AFE_CH_TRIM_GAIN.VALUE : Field := mkArr 0x21028 128 64 0 1 0 24 .SP 0x400000 |>.range 3984589 4404019
/-- +0x2C. O_user, ±20,972 (±10 mV) -/
def AFE_CH_TRIM_OFS.VALUE : Field := mkArr 0x2102C 128 64 0 1 0 24 .SP 0 |>.srange (-20972) 20972
/-- +0x30. S_user in ps, ±100,000 -/
def AFE_CH_TRIM_SKEW.VALUE : Field := mkArr 0x21030 128 64 0 1 0 32 .SP 0 |>.srange (-100000) 100000
/-- +0x34. G_eff of A, Q2.22 (reset: from OTP) -/
def AFE_CH_EFF_GAIN_A.VALUE : Field := mkArr 0x21034 128 64 0 1 0 24 .RO 0
/-- +0x38. τ_skew in ps, two's complement (reset: from OTP) -/
def AFE_CH_EFF_SKEW.VALUE : Field := mkArr 0x21038 128 64 0 1 0 32 .RO 0
/-- +0x3C. Entries into FADE_UP -/
def AFE_CH_SWITCH_CNT.VALUE : Field := mkArr 0x2103C 128 64 0 1 0 32 .RC 0
/-- +0x40. Failing validation windows -/
def AFE_CH_VALFAIL_CNT.VALUE : Field := mkArr 0x21040 128 64 0 1 0 32 .RC 0
/-- +0x44. CLIPPED onsets -/
def AFE_CH_CLIP_CNT.VALUE : Field := mkArr 0x21044 128 64 0 1 0 32 .RC 0
/-- +0x48. TWIN_MISMATCH onsets -/
def AFE_CH_TWIN_CNT.VALUE : Field := mkArr 0x21048 128 64 0 1 0 32 .RC 0
/-- +0x4C. Modulator resets -/
def AFE_CH_MODRST_CNT.VALUE : Field := mkArr 0x2104C 128 64 0 1 0 32 .RC 0
/-- Table point i, offset binary. Bits [31:12] are reserved -/
def AFE_TDAC_TABLE.CODE : Field := mkArr 0x23000 4 1024 0 1 0 12 .RW 2048

/-- Register fields of this file, part 0. -/
def fieldsAfe0 : List Field := [
  AFE_STATUS.GRP_PWR,
  AFE_STATUS.CAL_DONE,
  AFE_STATUS.CAL_BUSY,
  AFE_STATUS.CAL_GRP,
  AFE_STATUS.DIAG_BUSY,
  AFE_STATUS.SKEW_BUSY,
  AFE_STATUS.GRP_BIST,
  AFE_SPLICE_UP.VALUE,
  AFE_SPLICE_DN.VALUE,
  AFE_SPLICE_HOLD.VALUE,
  AFE_VAL_MIN.VALUE,
  AFE_CAL_CNT.VALUE,
  AFE_CAL_FAIL_CNT.VALUE,
  AFE_TESTMARK_LO.MASK,
  AFE_TESTMARK_HI.MASK,
  AFE_DIAG_AERR.VALUE,
  AFE_DIAG_BERR.VALUE,
  AFE_VAL_CFG.ABS,
  AFE_VAL_CFG.REL,
  AFE_VAL_CFG.FAILN,
  AFE_TWIN_TOL.TOL,
  AFE_TWIN_TOL.CNT,
  AFE_TWIN_WIN.ABS,
  AFE_TWIN_WIN.REL,
  AFE_TDAC_CTRL.DEST,
  AFE_TDAC_CTRL.WAVE,
  AFE_TDAC_CTRL.RUN,
  AFE_TDAC_CTRL.ATT,
  AFE_TDAC_CTRL.LEN,
  AFE_TDAC_CTRL.RATE,
  AFE_TDAC_DATA.CODE,
  AFE_DIAG_RES.CH,
  AFE_DIAG_RES.VERDICT,
  AFE_DIAG_RES.DONE,
  AFE_CH_CFG.MODE,
  AFE_CH_CFG.TWIN_SRC,
  AFE_CH_STATUS.WIDE,
  AFE_CH_STATUS.FORCED_WIDE,
  AFE_CH_STATUS.VAL,
  AFE_CH_STATUS.TWIN_MM,
  AFE_CH_STATUS.A_OVL,
  AFE_CH_STATUS.B_OVL,
  AFE_CH_STATUS.UNCAL,
  AFE_CH_STATUS.DIAG,
  AFE_CH_STATUS.CAL_FAIL,
  AFE_CH_CAL_OFS_A.VALUE,
  AFE_CH_CAL_GAIN_A.VALUE,
  AFE_CH_CAL_OFS_B32.VALUE,
  AFE_CH_CAL_GAIN_B32.VALUE,
  AFE_CH_CAL_OFS_B1.VALUE,
  AFE_CH_CAL_GAIN_B1.VALUE,
  AFE_CH_CAL_FDLY.VALUE,
  AFE_CH_CAL_SKEW.VALUE,
  AFE_CH_TRIM_GAIN.VALUE,
  AFE_CH_TRIM_OFS.VALUE,
  AFE_CH_TRIM_SKEW.VALUE,
  AFE_CH_EFF_GAIN_A.VALUE,
  AFE_CH_EFF_SKEW.VALUE,
  AFE_CH_SWITCH_CNT.VALUE,
  AFE_CH_VALFAIL_CNT.VALUE]

/-- Register fields of this file, part 1. -/
def fieldsAfe1 : List Field := [
  AFE_CH_CLIP_CNT.VALUE,
  AFE_CH_TWIN_CNT.VALUE,
  AFE_CH_MODRST_CNT.VALUE,
  AFE_TDAC_TABLE.CODE]

/-- Every register field that 02_twin_modulators.md gives. -/
def fieldsAfe : List Field := fieldsAfe0 ++ fieldsAfe1

end Sys2Proof.Machine.Reg
end

