-- ==== Sys2Proof/Machine/RegFlt.lean ====
section
/-! DEFINITION. The register fields of spec file 04_filter_chain.md: address, array shape, bit place, access code, reset value
and (for a settings field) the range R697 binds. -/
namespace Sys2Proof.Machine.Reg
open Field

/-- A FLT_SYNC waits for its reset instant (R173) -/
def FLT_STATUS.SYNC_PEND : Field := mk' 0x40000 0 1 .RO 0
/-- No good MRAM copy at start-up (R179) -/
def FLT_STATUS.STORE_FAIL : Field := mk' 0x40000 1 1 .RO 0
/-- 0x010. Allowed digest 0, bits [31:0] -/
def FLT_ALLOW0_LO.VALUE : Field := mk' 0x40010 0 32 .SP 0
/-- 0x014. Allowed digest 0, bits [63:32] -/
def FLT_ALLOW0_HI.VALUE : Field := mk' 0x40014 0 32 .SP 0
/-- 0x018 -/
def FLT_ALLOW1_LO.VALUE : Field := mk' 0x40018 0 32 .SP 0
/-- 0x01C -/
def FLT_ALLOW1_HI.VALUE : Field := mk' 0x4001C 0 32 .SP 0
/-- 0x020 -/
def FLT_ALLOW2_LO.VALUE : Field := mk' 0x40020 0 32 .SP 0
/-- 0x024 -/
def FLT_ALLOW2_HI.VALUE : Field := mk' 0x40024 0 32 .SP 0
/-- 0x028 -/
def FLT_ALLOW3_LO.VALUE : Field := mk' 0x40028 0 32 .SP 0
/-- 0x02C -/
def FLT_ALLOW3_HI.VALUE : Field := mk' 0x4002C 0 32 .SP 0
/-- 0x030. Swaps rejected with XFADE_BUSY (R185) -/
def FLT_XFADE_BUSY_CNT.VALUE : Field := mk' 0x40030 0 32 .RC 0
/-- +0x00. 0 = order 3, 1 = 4, 2 = 5; 3 is rejected at staging -/
def FLT_CH_CFG.K : Field := mkArr 0x41000 64 64 0 1 0 2 .SP 2 |>.range 0 2
/-- +0x00. 0 = 25, 1 = 50, 2 = 100, 3 = 200, 4 = 400; 5 to 7 are rejected at staging. Bits [31:5] are reserved; th -/
def FLT_CH_CFG.RCODE : Field := mkArr 0x41000 64 64 0 1 2 3 .SP 1 |>.range 0 4
/-- +0x04. Active bank: 0 A, 1 B -/
def FLT_CH_STATUS.ACTIVE : Field := mkArr 0x41004 64 64 0 1 0 1 .RO 0
/-- +0x04. 0 IDLE, 1 WAIT, 2 FADING; 3 reserved -/
def FLT_CH_STATUS.STATE : Field := mkArr 0x41004 64 64 0 1 1 2 .RO 0
/-- +0x04. A queued swap is held (R184) -/
def FLT_CH_STATUS.QUEUED : Field := mkArr 0x41004 64 64 0 1 3 1 .RO 0
/-- +0x04. TYPE of the active bank -/
def FLT_CH_STATUS.TYPE : Field := mkArr 0x41004 64 64 0 1 4 1 .RO 0
/-- +0x04. Bank A holds a set -/
def FLT_CH_STATUS.A_LOADED : Field := mkArr 0x41004 64 64 0 1 5 1 .RO 1
/-- +0x04. Bank B holds a set -/
def FLT_CH_STATUS.B_LOADED : Field := mkArr 0x41004 64 64 0 1 6 1 .RO 0
/-- +0x04. The latest base-rate sample carries SETTLING. The bit is refreshed at every base-rate sample (every 8 µ -/
def FLT_CH_STATUS.SETTLING : Field := mkArr 0x41004 64 64 0 1 7 1 .RO 1
/-- +0x08. N in Q2.22 (R159). Bits [31:24] are reserved -/
def FLT_CH_NORM.VALUE : Field := mkArr 0x41008 64 64 0 1 0 24 .RO 0x89705f
/-- +0x0C. D_chain applied at the latest cycle boundary, ps -/
def FLT_CH_DCHAIN.VALUE : Field := mkArr 0x4100C 64 64 0 1 0 32 .RO 0xdb58580
/-- +0x10. Digest of bank A, bits [31:0] (R178); 0 when empty -/
def FLT_CH_DIGA_LO.VALUE : Field := mkArr 0x41010 64 64 0 1 0 32 .RO 0
/-- +0x14. Bits [63:32] -/
def FLT_CH_DIGA_HI.VALUE : Field := mkArr 0x41014 64 64 0 1 0 32 .RO 0
/-- +0x18. Digest of bank B, bits [31:0] -/
def FLT_CH_DIGB_LO.VALUE : Field := mkArr 0x41018 64 64 0 1 0 32 .RO 0
/-- +0x1C. Bits [63:32] -/
def FLT_CH_DIGB_HI.VALUE : Field := mkArr 0x4101C 64 64 0 1 0 32 .RO 0
/-- +0x20. Fade position a; 0 when not fading -/
def FLT_CH_FADE.POS : Field := mkArr 0x41020 64 64 0 1 0 13 .RO 0
/-- +0x20. FADE of the running fade. Bits [15:13] and [31:20] are reserved -/
def FLT_CH_FADE.LOG2F : Field := mkArr 0x41020 64 64 0 1 16 4 .RO 0
/-- +0x24. Resets under R173 and R174 -/
def FLT_CH_SYNC_CNT.VALUE : Field := mkArr 0x41024 64 64 0 1 0 32 .RC 0
/-- +0x28. Completed fades (R187) -/
def FLT_CH_SWAP_CNT.VALUE : Field := mkArr 0x41028 64 64 0 1 0 32 .RC 0
/-- +0x2C. Saturations (R163) -/
def FLT_CH_SAT_CNT.VALUE : Field := mkArr 0x4102C 64 64 0 1 0 32 .RC 0
/-- +0x00. Detector enabled -/
def FLT_TD_CFG.EN : Field := mkArr 0x42000 32 128 0 1 0 1 .SP 0
/-- +0x00. 0 ABS, 1 RMS, 2 DELTA, 3 FUND (R190) -/
def FLT_TD_CFG.MEAS : Field := mkArr 0x42000 32 128 0 1 1 2 .SP 0
/-- +0x00. 0 over, 1 under -/
def FLT_TD_CFG.DIR : Field := mkArr 0x42000 32 128 0 1 3 1 .SP 0
/-- +0x00. Log pickups and dropouts -/
def FLT_TD_CFG.EVT : Field := mkArr 0x42000 32 128 0 1 4 1 .SP 0
/-- +0x00. Fire recorder trigger TD<t> -/
def FLT_TD_CFG.TRG : Field := mkArr 0x42000 32 128 0 1 5 1 .SP 0
/-- +0x00. Grid channel, 0 to 511 -/
def FLT_TD_CFG.CH : Field := mkArr 0x42000 32 128 0 1 7 9 .SP 0
/-- +0x00. Consecutive ticks, 1 to 255; 0 is rejected at staging -/
def FLT_TD_CFG.Q : Field := mkArr 0x42000 32 128 0 1 16 8 .SP 1 |>.range 1 255
/-- +0x00. Hysteresis in 1/256 of TH. The register resets to 0x0001_0000 -/
def FLT_TD_CFG.HYST : Field := mkArr 0x42000 32 128 0 1 24 8 .SP 0
/-- +0x04. TH, in grid-sample units -/
def FLT_TD_TH.VALUE : Field := mkArr 0x42004 32 128 0 1 0 32 .SP 0
/-- +0x08. W − 1. Bits [31:10] are reserved -/
def FLT_TD_WIN.W : Field := mkArr 0x42008 32 128 0 1 0 10 .SP 79
/-- +0x0C. 1 while picked up -/
def FLT_TD_STATUS.STATE : Field := mkArr 0x4200C 32 128 0 1 0 1 .RO 0
/-- +0x0C. R191 -/
def FLT_TD_STATUS.FROZEN : Field := mkArr 0x4200C 32 128 0 1 1 1 .RO 0
/-- +0x0C. Consecutive qualifying ticks. Bits [31:10] are reserved -/
def FLT_TD_STATUS.COUNT : Field := mkArr 0x4200C 32 128 0 1 2 8 .RO 0
/-- +0x10. Last evaluated m, saturated -/
def FLT_TD_MAG.VALUE : Field := mkArr 0x42010 32 128 0 1 0 32 .RO 0
/-- +0x14. Pickups -/
def FLT_TD_PICKUP_CNT.VALUE : Field := mkArr 0x42014 32 128 0 1 0 32 .RC 0

/-- Register fields of this file, part 0. -/
def fieldsFlt0 : List Field := [
  FLT_STATUS.SYNC_PEND,
  FLT_STATUS.STORE_FAIL,
  FLT_ALLOW0_LO.VALUE,
  FLT_ALLOW0_HI.VALUE,
  FLT_ALLOW1_LO.VALUE,
  FLT_ALLOW1_HI.VALUE,
  FLT_ALLOW2_LO.VALUE,
  FLT_ALLOW2_HI.VALUE,
  FLT_ALLOW3_LO.VALUE,
  FLT_ALLOW3_HI.VALUE,
  FLT_XFADE_BUSY_CNT.VALUE,
  FLT_CH_CFG.K,
  FLT_CH_CFG.RCODE,
  FLT_CH_STATUS.ACTIVE,
  FLT_CH_STATUS.STATE,
  FLT_CH_STATUS.QUEUED,
  FLT_CH_STATUS.TYPE,
  FLT_CH_STATUS.A_LOADED,
  FLT_CH_STATUS.B_LOADED,
  FLT_CH_STATUS.SETTLING,
  FLT_CH_NORM.VALUE,
  FLT_CH_DCHAIN.VALUE,
  FLT_CH_DIGA_LO.VALUE,
  FLT_CH_DIGA_HI.VALUE,
  FLT_CH_DIGB_LO.VALUE,
  FLT_CH_DIGB_HI.VALUE,
  FLT_CH_FADE.POS,
  FLT_CH_FADE.LOG2F,
  FLT_CH_SYNC_CNT.VALUE,
  FLT_CH_SWAP_CNT.VALUE,
  FLT_CH_SAT_CNT.VALUE,
  FLT_TD_CFG.EN,
  FLT_TD_CFG.MEAS,
  FLT_TD_CFG.DIR,
  FLT_TD_CFG.EVT,
  FLT_TD_CFG.TRG,
  FLT_TD_CFG.CH,
  FLT_TD_CFG.Q,
  FLT_TD_CFG.HYST,
  FLT_TD_TH.VALUE,
  FLT_TD_WIN.W,
  FLT_TD_STATUS.STATE,
  FLT_TD_STATUS.FROZEN,
  FLT_TD_STATUS.COUNT,
  FLT_TD_MAG.VALUE,
  FLT_TD_PICKUP_CNT.VALUE]

/-- Every register field that 04_filter_chain.md gives. -/
def fieldsFlt : List Field := fieldsFlt0

end Sys2Proof.Machine.Reg
end

