-- ==== Sys2Proof/Machine/RegPbus.lean ====
section
/-! DEFINITION. The register fields of spec file 05_process_bus.md: address, array shape, bit place, access code, reset value
and (for a settings field) the range R697 binds. -/
namespace Sys2Proof.Machine.Reg
open Field

/-- 0 independent, 1 PRP, 2 HSR; 3 is rejected at staging -/
def PBUS_NET_CFG.MODE : Field := mk' 0x60000 0 2 .SP 0 |>.range 0 2
/-- Bit 2 + p enables ETH<p> -/
def PBUS_NET_CFG.PORT_EN : Field := mk' 0x60000 2 2 .SP 3
/-- Supervision interval, 100 ms units, 1 to 255. Bits [31:16] reserved -/
def PBUS_NET_CFG.SUPINT : Field := mk' 0x60000 8 8 .SP 20 |>.range 1 255
/-- Bit p: ETH<p> link up -/
def PBUS_STATUS.LINK : Field := mk' 0x60004 0 2 .RO 0
/-- Network change waits for start-up (R199) -/
def PBUS_STATUS.NET_PEND : Field := mk' 0x60004 2 1 .RO 0
/-- Source in use, coded as `GRID_TQ.SOURCE` -/
def PBUS_STATUS.TSRC : Field := mk' 0x60004 4 3 .RO 0
/-- 0 INITIALIZING, 1 LISTENING, 2 UNCALIBRATED, 3 SLAVE, 4 MASTER, 5 PASSIVE, 6 FAULTY, 7 DISABLED -/
def PBUS_STATUS.PTP_STATE : Field := mk' 0x60004 8 3 .RO 7
/-- Port in SLAVE state. Bits [31:12] reserved -/
def PBUS_STATUS.PTP_PORT : Field := mk' 0x60004 11 1 .RO 0
/-- Highest-priority source; 0 = none -/
def PBUS_TSRC_CFG.P0 : Field := mk' 0x60010 0 3 .SP 1
/--  -/
def PBUS_TSRC_CFG.P1 : Field := mk' 0x60010 3 3 .SP 2
/--  -/
def PBUS_TSRC_CFG.P2 : Field := mk' 0x60010 6 3 .SP 3
/-- Bits [31:12] reserved; the register resets to 0x0000_08D1 -/
def PBUS_TSRC_CFG.P3 : Field := mk' 0x60010 9 3 .SP 4
/-- PTP enabled -/
def PBUS_PTP_CFG.EN : Field := mk' 0x60014 0 1 .SP 1
/-- R237; 3 is rejected at staging -/
def PBUS_PTP_CFG.ROLE : Field := mk' 0x60014 1 2 .SP 0 |>.range 0 2
/-- One-step transmission -/
def PBUS_PTP_CFG.ONESTEP : Field := mk' 0x60014 3 1 .SP 0
/-- Domain number -/
def PBUS_PTP_CFG.DOMAIN : Field := mk' 0x60014 8 8 .SP 0
/-- priority1 -/
def PBUS_PTP_CFG.PRIO1 : Field := mk' 0x60014 16 8 .SP 128
/-- priority2; the register resets to 0x8080_0001 -/
def PBUS_PTP_CFG.PRIO2 : Field := mk' 0x60014 24 8 .SP 128
/-- Proportional shift -/
def PBUS_SERVO.KP : Field := mk' 0x60018 0 4 .SP 1
/-- Integral shift -/
def PBUS_SERVO.KI : Field := mk' 0x60018 4 4 .SP 4
/-- Measurements to lock, 1 to 255. Bits [31:16] reserved -/
def PBUS_SERVO.LOCKN : Field := mk' 0x60018 8 8 .SP 4 |>.range 1 255
/-- Year field present -/
def PBUS_IRIG_CFG.YEAR : Field := mk' 0x6001C 0 1 .SP 0
/-- IEEE 1344 extensions -/
def PBUS_IRIG_CFG.EXT : Field := mk' 0x6001C 1 1 .SP 0
/-- 1 = inverted input -/
def PBUS_IRIG_CFG.POL : Field := mk' 0x6001C 2 1 .SP 0
/-- ACC while locked. Bits [31:5] reserved -/
def PBUS_IRIG_CFG.ACC : Field := mk' 0x6001C 3 2 .SP 1
/-- 0 rising edge, 1 falling edge -/
def PBUS_PPS_CFG.POL : Field := mk' 0x60020 0 1 .SP 0
/-- ACC while locked -/
def PBUS_PPS_CFG.ACC : Field := mk' 0x60020 1 2 .SP 0
/-- Edge window, µs -/
def PBUS_PPS_CFG.WIN : Field := mk' 0x60020 16 16 .SP 100
/-- 0x024. TAI second of the next PPS edge, bits [31:0] -/
def PBUS_TOD_LO.VALUE : Field := mk' 0x60024 0 32 .RW 0
/-- 0x028. Bits [63:32] -/
def PBUS_TOD_HI.VALUE : Field := mk' 0x60028 0 32 .RW 0
/-- 0x02C. Last θ, ns, two's complement, saturated -/
def PBUS_TIME_OFS.VALUE : Field := mk' 0x6002C 0 32 .RO 0
/-- 0x030. TIME_STEP pairs (R234) -/
def PBUS_TSTEP_CNT.VALUE : Field := mk' 0x60030 0 32 .RC 0
/-- 0x034. Rejected edges -/
def PBUS_PPS_REJ.VALUE : Field := mk' 0x60034 0 32 .RC 0
/-- 0x038. Undecodable frames -/
def PBUS_IRIG_ERR.VALUE : Field := mk' 0x60038 0 32 .RC 0
/-- 0x03C. T1 s in [15:0], T2 s in [31:16] -/
def PBUS_HO_CFG.VALUE : Field := mk' 0x6003C 0 32 .SP 0x3e8000a
/-- 0x040. 0 to 8 ticks; above 8 is rejected at staging. Bits [31:4] reserved -/
def PBUS_ALIGN_DEF.A : Field := mk' 0x60040 0 4 .SP 1 |>.range 0 8
/-- 0x044. TAI − UTC, s. Bits [31:16] reserved -/
def PBUS_UTC_SET.VALUE : Field := mk' 0x60044 0 16 .SP 37
/-- 0x048. 0 none, 1 insert, 2 delete, at the end of the current UTC day. Bits [31:2] reserved -/
def PBUS_LEAP.DIR : Field := mk' 0x60048 0 2 .RW 0
/-- 0x050. MAC octets 2 to 5 (reset: from OTP) -/
def PBUS_MAC_LO.VALUE : Field := mk' 0x60050 0 32 .RO 0
/-- 0x054. MAC octets 0 and 1. Bits [31:16] reserved (reset: from OTP) -/
def PBUS_MAC_HI.VALUE : Field := mk' 0x60054 0 16 .RO 0
/-- 0x058. Write: data [15:0], register [20:16], write flag [21], GO [31]. Read: data [15:0], BUSY [31] -/
def PBUS_MDIO.VALUE : Field := mk' 0x60058 0 32 .RW 0
/-- +0x00. Frames received -/
def PBUS_PORT_RX_CNT.VALUE : Field := mkArr 0x60100 128 2 0 1 0 32 .RC 0
/-- +0x04. Duplicates discarded -/
def PBUS_PORT_DUP_CNT.VALUE : Field := mkArr 0x60104 128 2 0 1 0 32 .RC 0
/-- +0x08. R202 -/
def PBUS_PORT_WRONGLAN_CNT.VALUE : Field := mkArr 0x60108 128 2 0 1 0 32 .RC 0
/-- +0x0C. Frames with FCS or length error -/
def PBUS_PORT_ERR_CNT.VALUE : Field := mkArr 0x6010C 128 2 0 1 0 32 .RC 0
/-- +0x10. PHY ingress latency, ns. Bits [31:16] reserved -/
def PBUS_PORT_INGLAT.VALUE : Field := mkArr 0x60110 128 2 0 1 0 16 .SP 0
/-- +0x14. PHY egress latency, ns. Bits [31:16] reserved -/
def PBUS_PORT_EGLAT.VALUE : Field := mkArr 0x60114 128 2 0 1 0 16 .SP 0
/-- +0x18. Measured peer delay, ns -/
def PBUS_PORT_PDELAY.VALUE : Field := mkArr 0x60118 128 2 0 1 0 32 .RO 0
/-- +0x1C. PHY MDIO address. Bits [31:5] reserved -/
def PBUS_PORT_PHY.ADDR : Field := mkArr 0x6011C 128 2 0 1 0 5 .SP 0
/-- +0x00. Enabled -/
def PBUS_SV_CFG.EN : Field := mkArr 0x61000 64 256 0 1 0 1 .SP 0
/-- +0x00. 0 redundant interface, 1 ETH0, 2 ETH1 -/
def PBUS_SV_CFG.PORT : Field := mkArr 0x61000 64 256 0 1 1 2 .SP 0
/-- +0x00. 0 4000, 1 4800, 2 12800, 3 15360 S/s -/
def PBUS_SV_CFG.RATE : Field := mkArr 0x61000 64 256 0 1 3 2 .SP 0
/-- +0x00. noASDU, 1 to 8 -/
def PBUS_SV_CFG.ASDU : Field := mkArr 0x61000 64 256 0 1 5 4 .SP 1 |>.range 1 8
/-- +0x00. Members, 1 to 24 -/
def PBUS_SV_CFG.NMEM : Field := mkArr 0x61000 64 256 0 1 9 5 .SP 8 |>.range 1 24
/-- +0x00. Lowest smpSynch aligned as synchronized -/
def PBUS_SV_CFG.SYNCREQ : Field := mkArr 0x61000 64 256 0 1 14 2 .SP 1
/-- +0x00. R222 -/
def PBUS_SV_CFG.SIM : Field := mkArr 0x61000 64 256 0 1 16 1 .SP 0
/-- +0x00. Match VLAN ID. Bits [31:18] reserved; the register resets to 0x0000_5020 -/
def PBUS_SV_CFG.VLAN_EN : Field := mkArr 0x61000 64 256 0 1 17 1 .SP 0
/-- +0x04 -/
def PBUS_SV_APPID.APPID : Field := (mkArr 0x61004 64 256 0 1 0 16 .SP 16384).range 16384 32767
/-- +0x04. VLAN ID. Bits [31:28] reserved -/
def PBUS_SV_APPID.VID : Field := mkArr 0x61004 64 256 0 1 16 12 .SP 0
/-- +0x08. Destination MAC octets 2 to 5 -/
def PBUS_SV_MAC_LO.VALUE : Field := mkArr 0x61008 64 256 0 1 0 32 .SP 0
/-- +0x0C. Octets 0 and 1. Bits [31:16] reserved -/
def PBUS_SV_MAC_HI.VALUE : Field := mkArr 0x6100C 64 256 0 1 0 16 .SP 0
/-- +0x10. svID digest, bits [31:0] -/
def PBUS_SV_IDDIG_LO.VALUE : Field := mkArr 0x61010 64 256 0 1 0 32 .SP 0
/-- +0x14. Bits [63:32] -/
def PBUS_SV_IDDIG_HI.VALUE : Field := mkArr 0x61014 64 256 0 1 0 32 .SP 0
/-- +0x18 -/
def PBUS_SV_CONFREV_A.VALUE : Field := mkArr 0x61018 64 256 0 1 0 32 .SP 1
/-- +0x1C -/
def PBUS_SV_CONFREV_B.VALUE : Field := mkArr 0x6101C 64 256 0 1 0 32 .SP 1
/-- +0x20. L_s, µs, 0 to 10,000. Bits [31:14] reserved -/
def PBUS_SV_LAT.VALUE : Field := mkArr 0x61020 64 256 0 1 0 14 .SP 2000 |>.range 0 10000
/-- +0x24. 0 off, 1 WAIT, 2 RUN, 3 LOST -/
def PBUS_SV_STATUS.STATE : Field := mkArr 0x61024 64 256 0 1 0 2 .RO 0
/-- +0x24. Aligned under R214 -/
def PBUS_SV_STATUS.UNSYNC : Field := mkArr 0x61024 64 256 0 1 2 1 .RO 0
/-- +0x24. Last confRev was CONFREV_B -/
def PBUS_SV_STATUS.REV_B : Field := mkArr 0x61024 64 256 0 1 3 1 .RO 0
/-- +0x24. R215. Bits [31:5] reserved -/
def PBUS_SV_STATUS.ALIGN_FAULT : Field := mkArr 0x61024 64 256 0 1 4 1 .RO 0
/-- +0x28. Accepted ASDUs -/
def PBUS_SV_RX_CNT.VALUE : Field := mkArr 0x61028 64 256 0 1 0 32 .RC 0
/-- +0x2C. Samples declared missing -/
def PBUS_SV_MISS_CNT.VALUE : Field := mkArr 0x6102C 64 256 0 1 0 32 .RC 0
/-- +0x30. LATE grid samples -/
def PBUS_SV_LATE_CNT.VALUE : Field := mkArr 0x61030 64 256 0 1 0 32 .RC 0
/-- +0x34. Frames rejected under R207 -/
def PBUS_SV_REJ_CNT.VALUE : Field := mkArr 0x61034 64 256 0 1 0 32 .RC 0
/-- +0x38. Last smpCnt. Bits [31:16] reserved -/
def PBUS_SV_LASTCNT.VALUE : Field := mkArr 0x61038 64 256 0 1 0 16 .RO 0
/-- +0x3C. Largest r − u_j, µs, two's complement -/
def PBUS_SV_DLY_MAX.VALUE : Field := mkArr 0x6103C 64 256 0 1 0 32 .RC 0
/-- 0x5000 + 4 × (g − 64), g = 64 to 511. Subscription -/
def PBUS_MAP.SUB : Field := mkArr 0x65000 4 448 0 1 0 8 .SP 0
/-- Member index -/
def PBUS_MAP.MEMBER : Field := mkArr 0x65000 4 448 0 1 8 5 .SP 0
/-- Entry enabled. Bits [14:13] and [31:16] reserved -/
def PBUS_MAP.EN : Field := mkArr 0x65000 4 448 0 1 15 1 .SP 0
/-- 0x5800 + 4 × b, b = 0 to 63. Window of bay b, 0 to 8 ticks. Bits [31:4] reserved -/
def PBUS_ALIGN.A : Field := mkArr 0x65800 4 64 0 1 0 4 .SP 1 |>.range 0 8
/-- +0x00. Enabled -/
def PBUS_GS_CFG.EN : Field := mkArr 0x70000 32 1024 0 1 0 1 .SP 0
/-- +0x00. As `PBUS_SV_CFG.PORT` -/
def PBUS_GS_CFG.PORT : Field := mkArr 0x70000 32 1024 0 1 1 2 .SP 0
/-- +0x00 -/
def PBUS_GS_CFG.SIM : Field := mkArr 0x70000 32 1024 0 1 3 1 .SP 0
/-- +0x00. Bits [15:5] reserved -/
def PBUS_GS_CFG.VLAN_EN : Field := mkArr 0x70000 32 1024 0 1 4 1 .SP 0
/-- +0x00. Bits [31:28] reserved -/
def PBUS_GS_CFG.VID : Field := mkArr 0x70000 32 1024 0 1 16 12 .SP 0
/-- +0x04. Bits [31:16] reserved -/
def PBUS_GS_APPID.APPID : Field := (mkArr 0x70004 32 1024 0 1 0 16 .SP 0).range 0 16383
/-- +0x08. gocbRef digest, bits [31:0] -/
def PBUS_GS_REFDIG_LO.VALUE : Field := mkArr 0x70008 32 1024 0 1 0 32 .SP 0
/-- +0x0C. Bits [63:32] -/
def PBUS_GS_REFDIG_HI.VALUE : Field := mkArr 0x7000C 32 1024 0 1 0 32 .SP 0
/-- +0x10 -/
def PBUS_GS_CONFREV.VALUE : Field := mkArr 0x70010 32 1024 0 1 0 32 .SP 1
/-- +0x14. 0 off, 1 WAIT, 2 valid, 3 stale. Bits [31:2] reserved -/
def PBUS_GS_STATUS.STATE : Field := mkArr 0x70014 32 1024 0 1 0 2 .RO 0
/-- +0x18. Last accepted stNum -/
def PBUS_GS_STNUM.VALUE : Field := mkArr 0x70018 32 1024 0 1 0 32 .RO 0
/-- +0x1C. Expiries (R225); saturates at 0xFFFF -/
def PBUS_GS_TAL_CNT.VALUE : Field := mkArr 0x7001C 32 1024 0 1 0 16 .RC 0
/-- +0x1C. stNum jumps (R224); saturates at 0xFFFF -/
def PBUS_GS_SEQERR_CNT.VALUE : Field := mkArr 0x7001C 32 1024 0 1 16 16 .RC 0
/-- 0x1_8000 + 4 × i, i = 0 to 4095. Subscription -/
def PBUS_GIN_MAP.SUB : Field := mkArr 0x78000 4 4096 0 1 0 10 .SP 0
/-- Member index, 0 to 63 -/
def PBUS_GIN_MAP.MEMBER : Field := mkArr 0x78000 4 4096 0 1 10 6 .SP 0
/-- R226; 3 is rejected at staging -/
def PBUS_GIN_MAP.TYPE : Field := mkArr 0x78000 4 4096 0 1 16 2 .SP 0 |>.range 0 2
/-- Quality member + 1; 0 = none -/
def PBUS_GIN_MAP.QMEM : Field := mkArr 0x78000 4 4096 0 1 18 7 .SP 0
/-- Entry enabled. Bits [30:25] reserved -/
def PBUS_GIN_MAP.EN : Field := mkArr 0x78000 4 4096 0 1 31 1 .SP 0
/-- 0x1_C000 + 4 × w, w = 0 to 127. Bit b is GIN 32w + b -/
def PBUS_GIN_VAL.VALUE : Field := mkArr 0x7C000 4 128 0 1 0 32 .RO 0
/-- 0x1_C200 + 4 × w. Bit b: GIN 32w + b valid -/
def PBUS_GIN_OK.VALUE : Field := mkArr 0x7C200 4 128 0 1 0 32 .RO 0
/-- 0x1_E000 + 0x10 × q, q = 0 to 127, +0x0. Publication enabled -/
def PBUS_GP_CFG.EN : Field := mkArr 0x7E000 16 128 0 1 0 1 .SP 0
/-- ms, 1 to 255 -/
def PBUS_GP_CFG.TMIN : Field := mkArr 0x7E000 16 128 0 1 16 8 .SP 2 |>.range 1 255
/-- 100 ms units, 1 to 255; the register resets to 0x0A02_0000 -/
def PBUS_GP_CFG.TMAX : Field := mkArr 0x7E000 16 128 0 1 24 8 .SP 10 |>.range 1 255
/-- +0x4. Current stNum -/
def PBUS_GP_STNUM.VALUE : Field := mkArr 0x7E004 16 128 0 1 0 32 .RO 0
/-- +0x8. Current sqNum -/
def PBUS_GP_SQNUM.VALUE : Field := mkArr 0x7E008 16 128 0 1 0 32 .RO 0
/-- +0xC. Frames sent -/
def PBUS_GP_TX_CNT.VALUE : Field := mkArr 0x7E00C 16 128 0 1 0 32 .RC 0

/-- Register fields of this file, part 0. -/
def fieldsPbus0 : List Field := [
  PBUS_NET_CFG.MODE,
  PBUS_NET_CFG.PORT_EN,
  PBUS_NET_CFG.SUPINT,
  PBUS_STATUS.LINK,
  PBUS_STATUS.NET_PEND,
  PBUS_STATUS.TSRC,
  PBUS_STATUS.PTP_STATE,
  PBUS_STATUS.PTP_PORT,
  PBUS_TSRC_CFG.P0,
  PBUS_TSRC_CFG.P1,
  PBUS_TSRC_CFG.P2,
  PBUS_TSRC_CFG.P3,
  PBUS_PTP_CFG.EN,
  PBUS_PTP_CFG.ROLE,
  PBUS_PTP_CFG.ONESTEP,
  PBUS_PTP_CFG.DOMAIN,
  PBUS_PTP_CFG.PRIO1,
  PBUS_PTP_CFG.PRIO2,
  PBUS_SERVO.KP,
  PBUS_SERVO.KI,
  PBUS_SERVO.LOCKN,
  PBUS_IRIG_CFG.YEAR,
  PBUS_IRIG_CFG.EXT,
  PBUS_IRIG_CFG.POL,
  PBUS_IRIG_CFG.ACC,
  PBUS_PPS_CFG.POL,
  PBUS_PPS_CFG.ACC,
  PBUS_PPS_CFG.WIN,
  PBUS_TOD_LO.VALUE,
  PBUS_TOD_HI.VALUE,
  PBUS_TIME_OFS.VALUE,
  PBUS_TSTEP_CNT.VALUE,
  PBUS_PPS_REJ.VALUE,
  PBUS_IRIG_ERR.VALUE,
  PBUS_HO_CFG.VALUE,
  PBUS_ALIGN_DEF.A,
  PBUS_UTC_SET.VALUE,
  PBUS_LEAP.DIR,
  PBUS_MAC_LO.VALUE,
  PBUS_MAC_HI.VALUE,
  PBUS_MDIO.VALUE,
  PBUS_PORT_RX_CNT.VALUE,
  PBUS_PORT_DUP_CNT.VALUE,
  PBUS_PORT_WRONGLAN_CNT.VALUE,
  PBUS_PORT_ERR_CNT.VALUE,
  PBUS_PORT_INGLAT.VALUE,
  PBUS_PORT_EGLAT.VALUE,
  PBUS_PORT_PDELAY.VALUE,
  PBUS_PORT_PHY.ADDR,
  PBUS_SV_CFG.EN,
  PBUS_SV_CFG.PORT,
  PBUS_SV_CFG.RATE,
  PBUS_SV_CFG.ASDU,
  PBUS_SV_CFG.NMEM,
  PBUS_SV_CFG.SYNCREQ,
  PBUS_SV_CFG.SIM,
  PBUS_SV_CFG.VLAN_EN,
  PBUS_SV_APPID.APPID,
  PBUS_SV_APPID.VID,
  PBUS_SV_MAC_LO.VALUE]

/-- Register fields of this file, part 1. -/
def fieldsPbus1 : List Field := [
  PBUS_SV_MAC_HI.VALUE,
  PBUS_SV_IDDIG_LO.VALUE,
  PBUS_SV_IDDIG_HI.VALUE,
  PBUS_SV_CONFREV_A.VALUE,
  PBUS_SV_CONFREV_B.VALUE,
  PBUS_SV_LAT.VALUE,
  PBUS_SV_STATUS.STATE,
  PBUS_SV_STATUS.UNSYNC,
  PBUS_SV_STATUS.REV_B,
  PBUS_SV_STATUS.ALIGN_FAULT,
  PBUS_SV_RX_CNT.VALUE,
  PBUS_SV_MISS_CNT.VALUE,
  PBUS_SV_LATE_CNT.VALUE,
  PBUS_SV_REJ_CNT.VALUE,
  PBUS_SV_LASTCNT.VALUE,
  PBUS_SV_DLY_MAX.VALUE,
  PBUS_MAP.SUB,
  PBUS_MAP.MEMBER,
  PBUS_MAP.EN,
  PBUS_ALIGN.A,
  PBUS_GS_CFG.EN,
  PBUS_GS_CFG.PORT,
  PBUS_GS_CFG.SIM,
  PBUS_GS_CFG.VLAN_EN,
  PBUS_GS_CFG.VID,
  PBUS_GS_APPID.APPID,
  PBUS_GS_REFDIG_LO.VALUE,
  PBUS_GS_REFDIG_HI.VALUE,
  PBUS_GS_CONFREV.VALUE,
  PBUS_GS_STATUS.STATE,
  PBUS_GS_STNUM.VALUE,
  PBUS_GS_TAL_CNT.VALUE,
  PBUS_GS_SEQERR_CNT.VALUE,
  PBUS_GIN_MAP.SUB,
  PBUS_GIN_MAP.MEMBER,
  PBUS_GIN_MAP.TYPE,
  PBUS_GIN_MAP.QMEM,
  PBUS_GIN_MAP.EN,
  PBUS_GIN_VAL.VALUE,
  PBUS_GIN_OK.VALUE,
  PBUS_GP_CFG.EN,
  PBUS_GP_CFG.TMIN,
  PBUS_GP_CFG.TMAX,
  PBUS_GP_STNUM.VALUE,
  PBUS_GP_SQNUM.VALUE,
  PBUS_GP_TX_CNT.VALUE]

/-- Every register field that 05_process_bus.md gives. -/
def fieldsPbus : List Field := fieldsPbus0 ++ fieldsPbus1

end Sys2Proof.Machine.Reg
end

