-- ==== Sys2Proof/Machine/Grid.lean ====
section
/-! DEFINITION. Device time, tick instants, the frequency tracker and the sample status word (R8 to R55). -/
namespace Sys2Proof.Machine
open Reg

/-! ### Device time (R8 to R15) -/

/-- One CORE_CK cycle of device time: it adds 1 + δ (R10). -/
def State.clockCycle (s : State) : State :=
  let f : Int := (s.grid.frac : Int) + s.grid.delta + 2 ^ 32
  { s with grid := { s.grid with now := s.grid.now + (f / 2 ^ 32).toNat, frac := (f % 2 ^ 32).toNat }.deltaDue.bounded }

/-- Device time crosses the next multiple of 2^28, and the supervisor writes the next bound V (R12). -/
def State.timeBound (s : State) : State := s.atTime ((s.grid.now / boundStep + 1) * boundStep)

/-- TAI now, ns (R13). -/
def State.tai (s : State) : Int := s.taiOf s.grid.now

/-! ### Channels (R52) -/

/-- Channel `g` is mapped: a local channel not OFF, or a process-bus channel with an enabled map entry (R62, R211). -/
def State.mapped (s : State) (g : Nat) : Bool :=
  if g < 64 then s.rd AFE_CH_CFG.MODE g != 0 else s.rd PBUS_MAP.EN (g - 64) == 1

/-- FREQ_HOLD is carried: the tracker is in ACQUIRE, HOLD or RAMP (R31). -/
def State.freqHold (s : State) : Bool := s.rd GRID_STATUS.TRK_STATE != 1

/-- Device time was not locked to a time source at a tick (R52, R16). -/
def TickRec.unlocked (r : TickRec) : Bool := !r.tq.testBit 3

/-- VALID by R50, from the other bits, whether the source marks the sample invalid, and whether it is mapped. -/
def withValid (w : Nat) (inv mapped : Bool) : Nat :=
  if !mapped then 0
  else orIf (andNot w bVALID) (!inv && !hasBit w (bSETTLING + bSELFTEST + bSUBST)) bVALID

/-- The bits that a mapped channel carries at a tick whatever its taps (R39, R52): FREQ_HOLD, SYNC_LOST, and QUESTIONABLE on mapped
process-bus channels while device time is not locked and on channels whose τ_g is clamped at the tick. -/
def TickRec.commonBits (r : TickRec) (g : Nat) : Nat :=
  orIf (orIf (orIf 0 r.hold bFREQHOLD) r.unlocked bSYNCLOST) ((r.unlocked && decide (64 ≤ g)) || r.clamp.contains g) bQUEST

/-- The grid sample of a channel from its source value, the flags of its taps (R49) and whether the source marks it
invalid: VALID by R50, the value by R51. A SUBSTITUTED sample of a channel that has had no VALID one since the grid started has the value
0: R51 names none (DESIGN CHOICE, log entry 100). -/
def State.mkSample (s : State) (r : TickRec) (g : Nat) (v : Int) (flags : Nat) (inv : Bool) : Smp :=
  let w := withValid (flags ||| r.commonBits g) inv (s.mapped g)
  let v := if !s.mapped g then v
    else if hasBit w (bSETTLING + bSELFTEST) then 0
    else if hasBit w bSUBST then tget 0 s.grid.lastValid g
    else v
  { v := v, ssw := w, inv := inv }

/-- The record of tick `n` passed through a function. -/
def State.modTick (s : State) (n : Nat) (f : TickRec → TickRec) : State :=
  s.modGrid fun g => { g with hist := g.hist.map fun r => if r.n = n then f r else r }

/-- GRID_CH_SSW of a mapped channel shows the status of its latest sample (R52). -/
def State.showSsw (s : State) (g : Nat) : State :=
  match s.grid.hist.findSome? fun r => tfind r.smp g with
  | some x => if (tfind s.grid.corr g).isSome then s.wr GRID_CH_SSW.SSW x.ssw g else s
  | none => s

/-- Put a channel's sample into the record of tick `n` and keep its last VALID value (R51). A channel that is mapped no longer has no
correction any more, and its status word stays 0 (R52). -/
def State.setSample (s : State) (n g : Nat) (x : Smp) : State :=
  let s := s.modTick n fun r => { r with smp := tset r.smp g x, wait := r.wait.filter (· != g) }
  let s := s.modGrid fun y => { y with lastValid := if hasBit x.ssw bVALID then tset y.lastValid g x.v else y.lastValid }
  if (tfind s.grid.corr g).isSome then s.wr GRID_CH_SSW.SSW x.ssw g else s

/-! ### Timestamp correction (R34 to R39) -/

/-- τ_g limited to its range, and whether it had to be (R39). -/
def clampTau (g : Nat) (tau : Int) : Int × Bool :=
  let lo : Int := if g < 64 then 0 else -2000000000
  let c := clampI tau lo 2000000000
  (c, decide (c ≠ tau))

/-- τ in 2^-8 device-time units from picoseconds: one unit of device time is 4000 ps (R38). R38 names no rounding: the nearest is taken,
ties upward (DESIGN CHOICE, log entry 101). -/
def tauUnits (ps : Int) : Int := (ps * 256 * 2 + 4000) / 8000

/-- The value applied in ps, to the nearest: `u` units of 15.625 ps (R38). -/
def unitsPs (u : Int) : Int := (2 * u * 125 + 8) / 16

/-- Apply τ_g of a channel from the tick at device time `t` on: the value applied is reported, and the first tick of a clamped period
is logged and counted (R38, R39). The event is stamped with the tick instant. -/
def State.applyTau (s : State) (g : Nat) (tau : Int) (t : Nat) : State :=
  let (c, cl) := clampTau g tau
  let was := tget false s.grid.clamped g
  let s := s.modGrid fun x => { x with clamped := tset x.clamped g cl, corr := tset x.corr g c }
  let s := s.wrI GRID_CH_CORR.VALUE (unitsPs (tauUnits c)) g
  if cl && !was then (s.bump GRID_CLAMP_CNT.VALUE).logAt t 0x3004 g 0 else s

/-- The channels whose τ_g is clamped. -/
def GridSt.clampList (g : GridSt) : List Nat := (g.clamped.filter (·.2)).map (·.1)

/-! ### Tick instants (R17 to R20) -/

/-- P_c for a frequency in uHz: 250,000,000 / (f × N_P) rounded to the nearest 2^-24 (R19). -/
def periodOf (f np : Nat) : Nat :=
  let num := 250000000 * 1000000 * 2 ^ 24
  let den := f * np
  if den = 0 then 0 else (2 * num + den) / (2 * den)

/-- Set the frequency applied and with it the tick period (R18, R19). -/
def State.setFreq (s : State) (f : Nat) : State :=
  let p := periodOf f s.np
  let s := { s with grid := { s.grid with freq := f, per := p } }
  ((s.wr GRID_FREQ.VALUE f).wr GRID_PER_INT.VALUE (p / 2 ^ 24)).wr GRID_PER_FRAC.VALUE p

/-- The newest tick, if the grid runs. -/
def State.newest (s : State) : Option TickRec := s.grid.hist.head?

/-- How many ticks the device keeps: enough for every window, delay and replay of the chapters (R190, R322, R510). -/
def histKeep : Nat := 4096

/-! ### The tracker (R23 to R33) -/

/-- The definition of reference `i` (0 A, 1 B, 2 C): MODE and its three channels (R23). -/
def State.refDef (s : State) (i : Nat) : Nat × List Nat :=
  match i with
  | 0 => (s.rd GRID_TRK_REFA.MODE, [s.rd GRID_TRK_REFA.CH_A, s.rd GRID_TRK_REFA.CH_B, s.rd GRID_TRK_REFA.CH_C])
  | 1 => (s.rd GRID_TRK_REFB.MODE, [s.rd GRID_TRK_REFB.CH_A, s.rd GRID_TRK_REFB.CH_B, s.rd GRID_TRK_REFB.CH_C])
  | _ => (s.rd GRID_TRK_REFC.MODE, [s.rd GRID_TRK_REFC.CH_A, s.rd GRID_TRK_REFC.CH_B, s.rd GRID_TRK_REFC.CH_C])

/-- The reference phasor of a mode and its channels at tick `n` (R23). -/
def State.refPh (s : State) (mode : Nat) (chs : List Nat) (n : Nat) : Phasor :=
  match mode, chs with
  | 1, a :: _ => s.phasor a n
  | 2, [a, b, c] => seqPhase 1 (s.phasor a n) (s.phasor b n) (s.phasor c n)
  | _, _ => {}

/-- Every channel a reference names carried VALID = 1 on every tick of the cycle that ended before tick `n` (R26). -/
def State.refClean (s : State) (mode : Nat) (chs : List Nat) (n : Nat) : Bool :=
  let used := if mode = 1 then chs.take 1 else chs
  let recs := (s.histFrom (n - 1)).take s.np
  decide (recs.length = s.np) && used.all fun g => recs.all fun r => hasBit (r.at' g).ssw bVALID

/-- What the tracker holds for reference `i` after reading it at tick `n`, the first of a cycle, when the cycle that
ended ran at `fp` uHz (R25, R26). A bank that came into force at this tick has discarded what was built up. -/
def State.trackRef (s : State) (i n fp : Nat) : TrackRef :=
  let (mode, chs) := s.refDef i
  if mode = 0 ∨ tfind s.grid.disc i = some n then {} else
  let old := tget {} s.grid.refs i
  let p := s.refPh mode chs n
  let th := angle32 p.re p.im
  let fm : Option Int := old.ang.map fun a => openDiv 21 ((fp : Int) * (2 ^ 32 + wrapTurn (th - a))) (2 ^ 32)
  let ok := match fm, old.fmeas with
    | some f, some f0 =>
      s.refClean mode chs n && decide (s.rd GRID_TRK_MINMAG.VALUE ≤ magOf p.re p.im)
        && decide ((s.fnom * 7 : Int) ≤ f * 10) && decide (f * 10 ≤ (s.fnom * 13 : Int))
        && decide ((f - f0).natAbs * 360 ≤ fp * s.rd GRID_TRK_CFG.JUMP)
    | _, _ => false
  { ang := some th, fmeas := fm, run := if ok then old.run + 1 else 0, ok := ok }

/-- The reference used for the cycle (R27), 0 for none, from what the tracker holds for the three. -/
def pickRef (refs : Tab TrackRef) (cur qual : Nat) (revert : Bool) : Nat :=
  if cur ≠ 0 ∧ !revert ∧ (tget {} refs (cur - 1)).ok then cur
  else match [1, 2, 3].find? fun i => qual ≤ (tget {} refs (i - 1)).run with
    | some i => i
    | none => 0

/-- The frequency step of R28. -/
def trackStep (fm fc gain slew fnom : Nat) : Nat :=
  let step := clampI (asr ((fm : Int) - fc) gain) (-(slew : Int)) slew
  (clampI ((fc : Int) + step) (fnom * 7 / 10 : Nat) (fnom * 13 / 10 : Nat)).toNat

/-- The step toward the nominal frequency in RAMP (R30). -/
def rampStep (f fnom slew : Nat) : Nat := ((f : Int) + clampI ((fnom : Int) - f) (-(slew : Int)) slew).toNat

/-- A status word with FREQ_HOLD as the cycle's decision has it (R31). -/
def holdBit (fh : Bool) (w : Nat) : Nat := if fh then w ||| bFREQHOLD else andNot w bFREQHOLD

/-- The record of a tick moved to the instant `t`, with the period and the frequency of its cycle. -/
def TickRec.moved (r : TickRec) (t per freq : Nat) : TickRec :=
  { r with t := t, per := per, freq := freq, tai := r.tai + 4 * ((t / 2 ^ 24 : Nat) - (r.t / 2 ^ 24 : Nat)) }

/-- The decision of a cycle goes into the records from its first tick `n` on (R18, R31): FREQ_HOLD; and, unless the cycle's period was
fixed before the decision came, the frequency, the period and the instants of the ticks after it, which follow from the period. -/
def State.restamp (s : State) (n : Nat) : State :=
  let fh := s.freqHold
  let t0 := ((s.tickRec? n).map (·.t)).getD 0
  let s := if s.grid.fixed then s else s.modGrid fun g =>
    { g with nextT := t0 + (g.nextN - n) * g.per, hist := g.hist.map fun r =>
      if r.n < n then r else r.moved (t0 + (r.n - n) * g.per) g.per g.freq }
  let s := s.modGrid fun g => { g with hist := g.hist.map fun r =>
    if r.n < n then r else
    { r with hold := fh, smp := r.smp.map fun e => if (s.asAt r.n).mapped e.1 then (e.1, { e.2 with ssw := holdBit fh e.2.ssw }) else e } }
  forL (((s.tickRec? n).map (·.smp)).getD []) (fun e s => s.showSsw e.1) s

/-- The frequency that the tracker decided is applied, or, where the cycle's period was fixed before, kept for the next cycle. -/
def State.takeFreq (s : State) (f : Nat) : State :=
  if s.grid.fixed then s.modGrid fun g => { g with nextF := some f } else s.setFreq f

/-- The tracker's state after the decision of a cycle (R27 to R33): the new reference, its measured frequency, the
frequency of the cycle that ended, the tick instant that stamps its events. -/
def State.trackDecide (s : State) (new : Nat) (fm : Nat) (t : Nat) : State :=
  let slew := s.rd GRID_TRK_SLEW.VALUE * 1000
  let fp := s.grid.freq
  let st := s.rd GRID_STATUS.TRK_STATE
  let s := s.wr GRID_STATUS.TRK_REF new
  if new ≠ 0 then
    let s := if st ≠ 1 then s.logAt t 0x3002 0 new else s
    let s := if s.grid.lastRef ≠ 0 ∧ new ≠ s.grid.lastRef then (s.logAt t 0x3003 0 new).bump GRID_REFCHG_CNT.VALUE else s
    let s := { s with grid := { s.grid with lastRef := new, holdCyc := 0 } }
    ((s.wr GRID_STATUS.TRK_STATE 1).wr GRID_FREQ_MEAS.VALUE fm).takeFreq
      (trackStep fm fp (s.rd GRID_TRK_CFG.GAIN) slew s.fnom)
  else if st = 0 then s.takeFreq s.fnom
  else if st = 1 then
    let s := { s with grid := { s.grid with holdCyc := 0 } }
    (((s.wr GRID_STATUS.TRK_STATE 2).logAt t 0x3001 0 2).bump GRID_HOLD_CNT.VALUE).takeFreq fp
  else
    let s := { s with grid := { s.grid with holdCyc := s.grid.holdCyc + 1 } }
    let hm := s.rd GRID_TRK_HOLDMAX.VALUE
    let s := if st = 2 ∧ hm ≠ 0 ∧ hm ≤ s.grid.holdCyc then s.wr GRID_STATUS.TRK_STATE 3 else s
    if s.rd GRID_STATUS.TRK_STATE = 3 then s.takeFreq (rampStep fp s.fnom slew) else s.takeFreq fp

/-- What the tracker read at tick `n` is kept for reference `i`, unless a bank that came into force since discards it (R26). -/
def State.keepRef (s : State) (i n : Nat) (x : TrackRef) : TrackRef := if (tfind s.grid.disc i).any fun m => decide (n < m) then {} else x

/-- The tracker at the first tick of a cycle, whose record is `r` (R25 to R33), on the settings of that tick. f_c is the frequency of the cycle
that begins, set by the rule of R28 from the frequency of the cycle that ended and the frequency measured over it (DEDUCED, log entry 20). -/
def State.trackSet (s : State) (r : TickRec) : State :=
  let c := r.n / s.np
  let fp := ((s.tickRec? (r.n - 1)).map (·.freq)).getD s.grid.freq
  let refs : Tab TrackRef := [(0, s.trackRef 0 r.n fp), (1, s.trackRef 1 r.n fp), (2, s.trackRef 2 r.n fp)]
  let new := if c = 0 then 0 else
    pickRef refs (s.rd GRID_STATUS.TRK_REF) (s.rd GRID_TRK_CFG.QUAL) (s.rd GRID_TRK_CFG.REVERT == 1)
  let fm := if new = 0 then 0 else ((tget {} refs (new - 1)).fmeas.getD 0).toNat
  let s := { s with grid := { s.grid with refs := refs.map fun (x : Nat × TrackRef) => (x.1, s.keepRef x.1 r.n x.2), trkDone := true } }
  (s.trackDecide new fm (r.t / 2 ^ 24)).wr GRID_CYCLE.VALUE c

/-- The tracker decides its cycle, if that is still due, on the settings of the cycle's first tick. -/
def State.trackCycle (s : State) : State :=
  match s.trackDue with
  | none => s
  | some r =>
    let s := s.onTick r.n fun s => s.trackSet r
    s.restamp r.n

end Sys2Proof.Machine
end

