-- ==== Sys2Proof/Machine/Splice.lean ====
section
/-! DEFINITION. The correction datapath and the splice of one local channel, one modulator period at a time
(R58 to R93). -/
namespace Sys2Proof.Machine
open Reg

/-- The state of local channel `c`. -/
def State.chan (s : State) (c : Nat) : ChanSt := tget {} s.afe.ch c
/-- Replace the state of local channel `c`. -/
def State.setChan (s : State) (c : Nat) (k : ChanSt) : State := { s with afe := { s.afe with ch := tset s.afe.ch c k } }

/-- Happenings of a run, as bits of `ev`. -/
def evFadeUp : Nat := 1
/-- A splice fade toward the fine modulator began. -/
def evFadeDown : Nat := 2
/-- A splice fade completed. -/
def evFadeEnd : Nat := 4
/-- An overlap-validation window ended. -/
def evValEnd : Nat := 8
/-- A twin mismatch began. -/
def evTwin : Nat := 16
/-- A twin window ended. -/
def evTwinEnd : Nat := 32
/-- A modulator was reset. -/
def evModReset : Nat := 64
/-- CLIPPED began. -/
def evClip : Nat := 128
/-- A synchronising reset took place. -/
def evSync : Nat := 256
/-- A coefficient fade began. -/
def evSwapStart : Nat := 512
/-- A coefficient fade completed. -/
def evSwapDone : Nat := 1024

/-- Note a happening of the run in progress. -/
def State.happen (s : State) (c e : Nat) : State := s.setChan c { s.chan c with ev := (s.chan c).ev ||| e }

/-- Raise an event at a channel's own time, the instant of its detection (R471). -/
def State.chanLog (s : State) (c code : Nat) (src : Nat := 0) (val : Nat := 0) : State := s.logAt ((s.chan c).tm / 2 ^ 32) code src val

/-! ### Correction (R60, R65 to R69) -/

/-- The effective gain: the rounded Q2.22 product of factory, self-cal and user gain (R66). -/
def gEff (fac cal user : Nat) : Nat := (fac * cal * user + 2 ^ 43) / 2 ^ 44

/-- The correction of a scaled code (R65). -/
def correctWord (x oFac oCal gE oUser : Int) : Int := satI 24 ((((x - oFac - oCal) * gE + 2 ^ 21) / 2 ^ 22) - oUser)

/-- O_cal as the datapath uses it: 0 until the channel's group has passed a self-cal (R68). -/
def State.ofsCal (s : State) (f : Field) (c : Nat) : Int := if s.rd AFE_CH_STATUS.UNCAL c = 1 then 0 else s.rdI f c
/-- G_cal as the datapath uses it: 1.0 until the channel's group has passed a self-cal (R68). -/
def State.gainCal (s : State) (f : Field) (c : Nat) : Nat := if s.rd AFE_CH_STATUS.UNCAL c = 1 then 2 ^ 22 else s.rd f c

/-- The corrected word of modulator A's code (R60, R65). -/
def State.wordA (s : State) (c : Nat) (m : Int) : Int :=
  correctWord (m * 2 ^ 19) (s.rdI ID_AFE_OFS_A.VALUE c) (s.ofsCal AFE_CH_CAL_OFS_A.VALUE c)
    (gEff (s.rd ID_AFE_GAIN_A.VALUE c) (s.gainCal AFE_CH_CAL_GAIN_A.VALUE c) (s.rd AFE_CH_TRIM_GAIN.VALUE c))
    (s.rdI AFE_CH_TRIM_OFS.VALUE c)

/-- The corrected word of modulator B's code at gain 32 or at gain 1 (R60, R65). -/
def State.wordB (s : State) (c : Nat) (g32 : Bool) (m : Int) : Int :=
  if g32 then
    correctWord (m * 2 ^ 14) (s.rdI ID_AFE_OFS_B32.VALUE c) (s.ofsCal AFE_CH_CAL_OFS_B32.VALUE c)
      (gEff (s.rd ID_AFE_GAIN_B32.VALUE c) (s.gainCal AFE_CH_CAL_GAIN_B32.VALUE c) (s.rd AFE_CH_TRIM_GAIN.VALUE c))
      (s.rdI AFE_CH_TRIM_OFS.VALUE c)
  else
    correctWord (m * 2 ^ 19) (s.rdI ID_AFE_OFS_B1.VALUE c) (s.ofsCal AFE_CH_CAL_OFS_B1.VALUE c)
      (gEff (s.rd ID_AFE_GAIN_B1.VALUE c) (s.gainCal AFE_CH_CAL_GAIN_B1.VALUE c) (s.rd AFE_CH_TRIM_GAIN.VALUE c))
      (s.rdI AFE_CH_TRIM_OFS.VALUE c)

/-- The effective skew of a channel (R72). -/
def State.effSkew (s : State) (c : Nat) : Int :=
  s.rdI ID_AFE_SKEW.VALUE c + s.rdI AFE_CH_CAL_SKEW.VALUE c + s.rdI AFE_CH_TRIM_SKEW.VALUE c

/-! ### Estimates (R74, R76) -/

/-- Weights of `order` cascaded averages of `len` periods. -/
def sincWeights (len : Nat) : Nat → List Nat
  | 0 => [1]
  | o + 1 =>
    let w := sincWeights len o
    (List.range (w.length + len - 1)).map fun i =>
      ((List.range len).map fun j => if j ≤ i then w.getD (i - j) 0 else 0).sum

/-- The weighted sum of the newest words. -/
def weighted (w : List Nat) (l : List Int) : Int := (w.zip l).foldl (fun a x => a + (x.1 : Int) * x.2) 0

/-- The weights of E_f: two averages of 16 periods (R74). -/
def efWeights : List Nat := sincWeights 16 2
/-- The weights of E_w: three averages of 64 periods (R76). -/
def ewWeights : List Nat := sincWeights 64 3

/-- An average of the newest words by weights that sum to `n` reaches a level in uV: one splice unit is 2,000,000 / 2^22 uV. -/
def estReaches (w : List Nat) (n uV : Nat) (l : List Int) : Bool := decide (uV * 2 ^ 22 * n ≤ (weighted w l).natAbs * 2000000)

/-- E_f reaches a level (R74): sinc² over 16 periods of B. -/
def efReaches (uV : Nat) (hB : List Int) : Bool := estReaches efWeights (16 ^ 2) uV hB
/-- E_w reaches a level (R76): sinc³ over 64 periods of A. -/
def ewReaches (uV : Nat) (hA : List Int) : Bool := estReaches ewWeights (64 ^ 3) uV hA

/-! ### The output word (R63, R75, R77, R87) -/

/-- Modulator A's word as the output takes it: 32 periods late. -/
def delayedA (k : ChanSt) : Int := k.hA.getD 32 0

/-- Modulator B's word as the output takes it: 32 - FDLY/256 periods late at gain 32, else 32 (R63). -/
def State.delayedB (s : State) (c : Nat) (g32 : Bool) (k : ChanSt) : Int :=
  if !g32 then k.hB.getD 32 0 else
  let d := (32 * 256 - s.rdI AFE_CH_CAL_FDLY.VALUE c).toNat
  let q := d / 256
  let f := d % 256
  if f = 0 then k.hB.getD q 0
  else satI 24 (Config.fineDelay (k.hB.getD (q - 1) 0) (k.hB.getD q 0) (k.hB.getD (q + 1) 0) (k.hB.getD (q + 2) 0) f)

/-- The blend of A at weight w / 64 with B, rounded to nearest, ties upward: R75 says only 'rounded' and R77 names no rounding (DESIGN
CHOICE, log entry 94). -/
def blend (w : Nat) (a b : Int) : Int := ((w : Int) * a + (64 - (w : Int)) * b + 32) / 64

/-- The output word of a channel in its mode and whether A contributes to it (R61, R78, R86, R87). -/
def outWord (mode src w : Nat) (a b : Int) : Int × Bool :=
  match mode with
  | 0 => (0, false)
  | 1 => (a, true)
  | 2 => (blend w a b, decide (0 < w))
  | _ => if src = 1 then (a, true) else if src = 2 then (b, false) else ((a + b).tdiv 2, true)

/-! ### Splice states (R73 to R79) -/

/-- The splice state, the weight of A and the hold count for the next period, from the estimates of this one (R74 to
R77), with the happening it is. `trig`: E_f reached the up threshold or B's overload detector fired. `below`: E_w is
below the down threshold. `hold`: the hold time in periods. -/
def spliceNext (st : Splice) (w low : Nat) (trig below forced : Bool) (hold : Nat) : Splice × Nat × Nat × Nat :=
  match st with
  | .fine => if trig then (.fadeUp, 4, 0, evFadeUp) else (.fine, 0, 0, 0)
  | .fadeUp => if 64 ≤ w then (.wide, 64, 0, evFadeEnd) else (.fadeUp, min 64 (w + 4), 0, 0)
  | .wide =>
    let low := if below then low + 1 else 0
    if !forced && decide (hold ≤ low) then (.fadeDown, 63, 0, evFadeDown) else (.wide, 64, low, 0)
  | .fadeDown =>
    if trig then (.fadeUp, min 64 (w + 4), 0, evFadeUp)
    else if w = 0 then (.fine, 0, 0, evFadeEnd) else (.fadeDown, w - 1, 0, 0)

/-! ### Validation (R81 to R89) -/

/-- One period of a third-order decimator's integrators. -/
def Cic3.integ (k : Cic3) (x : Int) : Cic3 :=
  let i0 := k.i0 + x
  let i1 := k.i1 + i0
  { k with i0 := i0, i1 := i1, i2 := k.i2 + i1 }

/-- A decimation instant: the comb output, 100³ times the averaged word. -/
def Cic3.comb (k : Cic3) : Cic3 × Int :=
  let v0 := k.i2 - k.c0
  let v1 := v0 - k.c1
  ({ k with c0 := k.i2, c1 := v0, c2 := v1 }, v1 - k.c2)

/-- Validation values are in units of 2^-21 uV. -/
def valUnit : Nat := 2 ^ 21

/-- The RMS of `n` samples from their sum of squares, in validation units, rounded down. -/
def valRms (sum n : Nat) : Nat := if n = 0 then 0 else isqrt (sum / n)

/-- A window passes when RMS(A - B) ≤ ABS + REL × RMS(ref) / 10^6, in uV (R83, R88). -/
def winPass (abs rel sumD sumR n : Nat) : Bool :=
  decide (valRms sumD n * 1000000 ≤ abs * valUnit * 1000000 + rel * valRms sumR n)

/-- A closed overlap-validation window (R82 to R85). The event's value is the RMS difference rounded down to whole µV, and a channel that
is forced wide in FINE or in a fade takes up WIDE at once, with no FADE_UP and no count of R78 (DESIGN CHOICE, log entry 94). -/
def State.valWindowEnd (s : State) (c : Nat) (w : ValWin) : State :=
  let s := s.happen c evValEnd
  let k := s.chan c
  let s := s.setChan c { k with win := {} }
  if w.scored < 625 then s else
  let forced := s.rd AFE_CH_STATUS.FORCED_WIDE c = 1
  if winPass (s.rd AFE_VAL_CFG.ABS) (s.rd AFE_VAL_CFG.REL) w.sumD w.sumR w.scored then
    let k := s.chan c
    (s.setChan c { k with fails := 0, valFail := k.valFail && forced }).wr AFE_CH_STATUS.VAL 1 c
  else
    let k := s.chan c
    let s := s.setChan c { k with fails := k.fails + 1, valFail := true }
    let s := (s.wr AFE_CH_STATUS.VAL 2 c).bump AFE_CH_VALFAIL_CNT.VALUE c
    let s := s.chanLog c 0x1003 c (valRms w.sumD w.scored / valUnit)
    if !forced && decide (s.rd AFE_VAL_CFG.FAILN ≤ k.fails + 1) then
      let s := s.setChan c { s.chan c with st := .wide, wA := 64, low := 0 }
      (s.wr AFE_CH_STATUS.FORCED_WIDE 1 c).chanLog c 0x1004
    else s

/-- A twin mismatch begins or goes on (R89). -/
def State.twinOnset (s : State) (c : Nat) : State :=
  if s.rd AFE_CH_STATUS.TWIN_MM c = 1 then s else
  (((s.happen c evTwin).wr AFE_CH_STATUS.TWIN_MM 1 c).chanLog c 0x1005).bump AFE_CH_TWIN_CNT.VALUE c

/-- A closed twin window (R88, R89): the window check, and the flags cleared when neither check failed in it. -/
def State.twinWindowEnd (s : State) (c : Nat) (w : ValWin) : State :=
  let s := s.happen c evTwinEnd
  let s := s.setChan c { s.chan c with win := { instRun := w.instRun } }
  let ok := winPass (s.rd AFE_TWIN_WIN.ABS) (s.rd AFE_TWIN_WIN.REL) w.sumD w.sumR w.seen
  if !ok then s.twinOnset c
  else if w.failed then s
  else s.wr AFE_CH_STATUS.TWIN_MM 0 c

/-- One validation sample of a channel (R81 to R89): `va`, `vb` in validation units. -/
def State.valSample (s : State) (c mode : Nat) (va vb : Int) : State :=
  let k := s.chan c
  let w := k.win
  let d := (va - vb).natAbs
  if mode = 2 then
    let mag := vb.natAbs
    let inFine := decide (k.st = .fine) || s.rd AFE_CH_STATUS.FORCED_WIDE c == 1
    let sc := inFine && decide (s.rd AFE_VAL_MIN.VALUE * valUnit ≤ mag) && decide (mag ≤ s.rd AFE_SPLICE_UP.VALUE * valUnit)
    let w := { w with seen := w.seen + 1, scored := w.scored + b2n sc, sumD := w.sumD + b2n sc * (d * d),
                      sumR := w.sumR + b2n sc * (mag * mag) }
    if 1250 ≤ w.seen then s.valWindowEnd c w else s.setChan c { k with win := w }
  else
    let beyond := decide (s.rd AFE_TWIN_TOL.TOL * valUnit < d)
    let run := if beyond then w.instRun + 1 else 0
    let inst := decide (s.rd AFE_TWIN_TOL.CNT ≤ run)
    let w := { w with seen := w.seen + 1, sumD := w.sumD + d * d, sumR := w.sumR + va.natAbs * va.natAbs,
                      instRun := run, failed := w.failed || inst }
    let s := s.setChan c { k with win := w }
    let s := if inst then s.twinOnset c else s
    if 1250 ≤ w.seen then s.twinWindowEnd c w else s

/-! ### One modulator period up to the splice word -/

/-- A word of the channel at its present time carries the flag of one of its intervals (R64, R101, R105, R108). -/
def ChanSt.inSpan (k : ChanSt) (flag : Nat) : Bool :=
  k.spans.any fun x => x.flag == flag && decide (x.lo ≤ k.tm) && (x.hi.all fun e => decide (k.tm < e))

/-- An interval of flagged words begins at `lo` and ends at `hi`, if that is known (2^-32 units of device time). -/
def State.flagFrom (s : State) (c flag lo : Nat) (hi : Option Nat) : State :=
  s.setChan c { s.chan c with spans := { flag := flag, lo := lo, hi := hi } :: (s.chan c).spans }

/-- The open interval of a flag ends at `hi` (2^-32 units). -/
def State.flagUntil (s : State) (c flag hi : Nat) : State :=
  s.setChan c { s.chan c with spans := (s.chan c).spans.map fun x =>
    if x.flag = flag ∧ x.hi.isNone then { x with hi := some hi } else x }

/-- The test mark of a channel (R109). -/
def State.testMark (s : State) (c : Nat) : Bool :=
  if c < 32 then (s.rd AFE_TESTMARK_LO.MASK).testBit c else (s.rd AFE_TESTMARK_HI.MASK).testBit (c - 32)

/-- The flags of the splice word a channel delivers now (R64, R68, R78, R84, R89, R91, R101, R105, R108, R109, R643). -/
def State.wordFlags (s : State) (c : Nat) (k : ChanSt) (aContrib : Bool) : Nat :=
  let settling := k.inSpan bSETTLING
  let quest := k.valFail || s.rd AFE_CH_STATUS.CAL_FAIL c == 1 || s.rd AFE_CH_STATUS.UNCAL c == 1
    || s.rd AFE_CH_STATUS.TWIN_MM c == 1 || s.rd PWR_STATUS.VAFE_LOW == 1 || s.rd PWR_STATUS.VAFE_LOST == 1
  let w := orIf 0 settling bSETTLING
  let w := orIf w quest bQUEST
  let w := orIf w aContrib bWIDE
  let w := orIf w k.clip bCLIPPED
  let w := orIf w (s.rd AFE_CH_STATUS.TWIN_MM c == 1) bTWIN
  let w := orIf w (s.testMark c) bTEST
  orIf w (k.inSpan bSELFTEST) bSELFTEST

/-- One period of a modulator's overload detector (R74, R92): it is active from the second full-scale code in a row on; after 64 active
periods the modulator is reset, which takes the next 8 periods, and the count begins anew after them. `true` says that a reset begins. -/
def Ovl.step (o : Ovl) (resets : Bool) (m : Int) : Ovl × Bool :=
  let run := if m.natAbs = 8 then o.run + 1 else 0
  if o.rst ≠ 0 then ({ run := run, act := 0, rst := o.rst - 1 }, false)
  else
    let act := if 2 ≤ run then o.act + 1 else 0
    if resets && decide (64 ≤ act) then ({ run := run, act := 0, rst := 8 }, true) else ({ run := run, act := act, rst := 0 }, false)

/-- The detector is active (R74). -/
def Ovl.on (o : Ovl) : Bool := decide (2 ≤ o.run)

/-- A modulator of the channel is reset (R92). -/
def State.modReset (s : State) (c : Nat) : State :=
  ((s.happen c evModReset).chanLog c 0x1006).bump AFE_CH_MODRST_CNT.VALUE c

/-- Detection of overload and clipping in this period (R91 to R93). In splice mode modulator B's overload belongs to R74 alone. -/
def State.overload (s : State) (c mode : Nat) (mA mB : Int) : State :=
  let k := s.chan c
  let oA := k.oA.step true mA
  let oB := k.oB.step (mode == 3) mB
  let s := s.setChan c { k with oA := oA.1, oB := oB.1 }
  let s := (s.wr AFE_CH_STATUS.A_OVL (b2n oA.1.on) c).wr AFE_CH_STATUS.B_OVL (b2n oB.1.on) c
  let clip := oA.1.on || ewReaches 1600000 k.hA || (mode == 3 && (oB.1.on || ewReaches 1600000 k.hB))
  let s := if clip && !k.clip then (s.happen c evClip).bump AFE_CH_CLIP_CNT.VALUE c else s
  let s := s.setChan c { s.chan c with clip := clip }
  let s := if oA.2 then s.modReset c else s
  if oB.2 then s.modReset c else s

/-- What the group timeline of R97 gives the two modulators of a channel, `us` into its self-calibration: the levels at their inputs in nV
and whether modulator B is at gain 32; `none` while they settle. The test DAC's sine has no one level. -/
def calInputs (us : Nat) : Option (Option (Int × Int) × Bool) :=
  if us < 1000 then none
  else if us < 2500 then some (some (0, 0), true)
  else if us < 4000 then some (some (0, 0), false)
  else if us < 5500 then some (some (1250000000, 39062500), true)
  else if us < 7000 then some (some (-1250000000, -39062500), true)
  else if us < 8000 then some (some (1250000000, 1250000000), false)
  else if us < 9000 then some (some (-1250000000, -1250000000), false)
  else if us < 11000 then some (none, true)
  else none

/-- The gain of modulator B in the period at the channel's own time (R58, R64, R97): by MODE, and by the timeline of its self-calibration
while that runs. -/
def ChanSt.gain32 (k : ChanSt) (mode : Nat) : Bool :=
  match k.calAt with
  | some t => if t ≤ k.tm then ((calInputs ((k.tm - t) / (250 * 2 ^ 32))).map (·.2)).getD (decide (mode = 2)) else decide (mode = 2)
  | none => decide (mode = 2)

/-- One modulator period of a channel up to its splice word (R58 to R93): the word and its flags. A channel that a diagnosis left as
WIDE_ONLY is validated no more in splice mode (R86); in twin mode it is (R88). Validation and comparison run on the words that carry SETTLING
after a change of MODE too: R64 and R88 are silent (DESIGN CHOICE, log entry 94). -/
def State.splicePeriod (s : State) (c : Nat) (mA mB : Int) : State × Int × Nat :=
  let mode := s.rd AFE_CH_CFG.MODE c
  let k := s.chan c
  let g32 := k.gain32 mode
  let mB := if mode = 1 then 0 else mB
  let k := { k with hA := (s.wordA c mA :: k.hA).take 192, hB := (s.wordB c g32 mB :: k.hB).take 192 }
  let a := delayedA k
  let b := s.delayedB c g32 k
  let o := outWord mode (s.rd AFE_CH_CFG.TWIN_SRC c) k.wA a b
  let s := s.setChan c k
  let s := s.overload c mode mA mB
  let k := s.chan c
  let flags := s.wordFlags c k o.2
  let s := s.wr AFE_CH_STATUS.WIDE (b2n o.2) c
  -- validation streams
  let vA := k.vA.integ a
  let vB := k.vB.integ b
  let s := if 99 ≤ k.vPh then
      let qa := vA.comb
      let qb := vB.comb
      let s := s.setChan c { k with vA := qa.1, vB := qb.1, vPh := 0 }
      if 2 ≤ mode && decide (k.valFrom ≤ k.tm) && !k.inSpan bSELFTEST && !(k.wideOnly && mode == 2) then s.valSample c mode qa.2 qb.2 else s
    else s.setChan c { k with vA := vA, vB := vB, vPh := k.vPh + 1 }
  -- the splice state of the next period
  let s := if mode = 2 then
      let k := s.chan c
      let trig := efReaches (s.rd AFE_SPLICE_UP.VALUE) k.hB || k.oB.on
      let below := !ewReaches (s.rd AFE_SPLICE_DN.VALUE) k.hA
      let r := spliceNext k.st k.wA k.low trig below (s.rd AFE_CH_STATUS.FORCED_WIDE c == 1) (s.rd AFE_SPLICE_HOLD.VALUE * 12500)
      let s := s.setChan c { k with st := r.1, wA := r.2.1, low := r.2.2.1, ev := k.ev ||| r.2.2.2 }
      if r.2.2.2 = evFadeUp then s.bump AFE_CH_SWITCH_CNT.VALUE c else s
    else s
  (s, o.1, flags)

/-- The splice of a channel starts again in WIDE, its windows and its validation streams discarded (R73, R103). A flagged twin mismatch ends
with it; that a change of MODE out of TWIN ends it so is the model's choice (log entry 94). -/
def State.spliceRestart (s : State) (c : Nat) : State :=
  (s.setChan c { s.chan c with
    st := .wide, wA := 64, low := 0, win := {}, vA := {}, vB := {}, hA := [], hB := [], oA := {}, oB := {}, clip := false }).wr
    AFE_CH_STATUS.TWIN_MM 0 c

/-- Registers of channel `c` change at device time `t` (2^-32 units): a datapath that has not come to it goes on with the values they have
now, and `heal` and `wide` take place when it has. -/
def State.holdRegs (s : State) (c t : Nat) (fs : List Field) (heal wide : Bool := false) : State :=
  let k := s.chan c
  let old := match k.held with | some h => h | none => { at' := t }
  let regs := fs.foldl (fun (l : Tab Nat) f => if (tfind l (f.key c 0)).isSome then l else tset l (f.key c 0) (s.rd f c)) old.regs
  s.setChan c { k with held := some { at' := max old.at' t, regs := regs, heal := old.heal || heal, wide := (old.wide && !heal) || wide } }

/-- What `holdRegs` put off takes place: the failures of validation are forgotten, or the channel works as WIDE_ONLY (R86). -/
def State.heldDone (s : State) (c : Nat) : State :=
  let k := s.chan c
  match k.held with
  | some h =>
    let k := { k with held := none }
    s.setChan c (if h.wide then { k with valFail := false, wideOnly := true }
      else if h.heal then { k with fails := 0, valFail := false, wideOnly := false } else k)
  | none => s

/-- Registers of channel `c` change at device time `t`: `holdRegs`, carried out at once where the channel's own time has come to it. -/
def State.holdFrom (s : State) (c t : Nat) (fs : List Field) (heal wide : Bool := false) : State :=
  let s := s.holdRegs c t fs heal wide
  if t ≤ (s.chan c).tm then s.heldDone c else s

/-- The splice of a channel restarts at `t` (2^-32 units): now, if the channel's own time has come to it, and else when it comes to it. A
flagged twin mismatch ends at `t`: its register shows it at once, the words before `t` still carry it. -/
def State.spliceRestartAt (s : State) (c t : Nat) (twin : Bool := false) : State :=
  let k := s.chan c
  if t ≤ k.tm then s.spliceRestart c
  else
    let s := s.setChan c { k with restarts := k.restarts ++ [t] }
    if twin then (s.holdRegs c t [AFE_CH_STATUS.TWIN_MM]).wr AFE_CH_STATUS.TWIN_MM 0 c else s

end Sys2Proof.Machine
end

