-- ==== Sys2Proof/Machine/StdSets.lean ====
section
/-! DEFINITION. The standard sets of the ROM (R167): what the spec states of their coefficients and delay tables, and the contents
that count where the ROM's do not have it. -/
namespace Sys2Proof.Machine

/-- The sum of a coefficient list lies within 2^23 ± 2^13 (R162). -/
def dcOk (l : List Int) : Bool := decide ((l.foldl (· + ·) 0 - 2 ^ 23).natAbs ≤ 2 ^ 13)

/-- What R160, R162 and R165 state of a coefficient list: Q1.23 values, the DC gain, and the symmetry of a linear-phase set. -/
def stdCoefOk (type : Nat) (l : List Int) : Bool :=
  l.all (fun x => decide (-(2 : Int) ^ 23 ≤ x) && decide (x < 2 ^ 23)) && dcOk l && (type == 1 || l == l.reverse)

/-- The passband of R167 in Hz, by RCODE. -/
def passEdge (rcode : Nat) : Nat := match rcode with | 0 => 10000 | 1 => 5000 | 2 => 3000 | 3 => 2000 | _ => 1000
/-- Where the attenuation of R167 reaches 80 dB, in Hz, by RCODE. -/
def stopEdge (rcode : Nat) : Nat := match rcode with | 0 => 40000 | 1 => 20000 | 2 => 10000 | 3 => 5500 | _ => 2800
/-- The ratio of the modulator rate, 12.5 MHz, to the rate of the compensation FIR, by RCODE (R153). -/
def firRatio (rcode : Nat) : Nat := match rcode with | 0 => 25 | 1 => 50 | 2 => 100 | 3 => 200 | _ => 400
/-- The same ratio for the prototype rate of the second stage (R154). -/
def secondRatio (rcode : Nat) : Nat := if rcode ≤ 1 then 50 else 100

/-- The angle, in fixed point, that a frequency in Hz turns in `r` modulator periods, less whole turns. -/
def freqAngle (f r : Nat) : Int := 2 * fxPi * ((f * r % 12500000 : Nat) : Int) / 12500000

/-- A coefficient list evaluated at the unit vector of cosine `c` and sine `s`, in fixed point. -/
def firAt (c s : Int) : List Int → Int × Int
  | [] => (0, 0)
  | x :: l => let q := firAt c s l; (x * 2 ^ 73 + (q.1 * c - q.2 * s) / fxOne, (q.1 * s + q.2 * c) / fxOne)

/-- The squared gain, in fixed point, of a coefficient list at a frequency, its rate being the modulator's over `r`. -/
def firPower (l : List Int) (f r : Nat) : Int :=
  let a := freqAngle f r
  let q := firAt (fxCos a) (fxSin a) l
  (q.1 * q.1 + q.2 * q.2) / fxOne

/-- The squared gain, in fixed point, of one of the stages of the CIC: (sin (π f R T) / (R sin (π f T)))². -/
def cicPower (f r : Nat) : Int :=
  if f = 0 then fxOne
  else (fxOne - fxCos (freqAngle f r)) * fxOne / ((r * r : Nat) * (fxOne - fxCos (freqAngle f 1)))

/-- The squared gain, in fixed point, of the chain at K = 5 with a pair of coefficient lists. -/
def chainPower (rcode : Nat) (h g : List Int) (f : Nat) : Int :=
  (List.replicate 5 (cicPower f (firRatio rcode))).foldl (fun a x => a * x / fxOne)
    (firPower h f (firRatio rcode) * firPower g f (secondRatio rcode) / fxOne)

/-- Within ±0.05 dB over the passband, at 11 frequencies equally spaced from 0 (R167, log entry 16). -/
def passOk (rcode : Nat) (h g : List Int) : Bool :=
  (List.range 11).all fun i =>
    let p := chainPower rcode h g (passEdge rcode / 10 * i)
    decide (988554 * fxOne ≤ p * 1000000) && decide (p * 1000000 ≤ 1011579 * fxOne)

/-- The end of the frequencies at which `stopOk` looks, in Hz: above it the gain of the FIR stages repeats and the CIC attenuates. -/
def stopEnd (rcode : Nat) : Nat := match rcode with | 0 => 250000 | 1 => 125000 | 2 => 62500 | 3 => 62500 | _ => 31250

/-- At least 80 dB down from the stopband's edge on, at steps of a quarter of it (R167, log entry 16). -/
def stopOk (rcode : Nat) (h g : List Int) : Bool :=
  let step := stopEdge rcode / 4
  (List.range ((stopEnd rcode - stopEdge rcode) / step + 1)).all fun i =>
    decide (chainPower rcode h g (stopEdge rcode + step * i) * 100000000 ≤ fxOne)

/-- What the spec states of the coefficients of a standard set (R160, R162, R165, R167). -/
def stdSetOk (type rcode : Nat) (h g : List Int) : Bool :=
  stdCoefOk type h && stdCoefOk type g && passOk rcode h g && stopOk rcode h g

/-- The second half of h of a linear-phase set designed to the figures of R167, from its middle outward, by RCODE. -/
def designedH (rcode : Nat) : List Int :=
  match rcode with
  | 0 =>
    [1353167, 1308216, 1039302, 840812, 539236, 286784, 42010, -243839, -279520, -411217, -421104, -289760, -258933,
     -71893, 9351, 119618, 225008, 172249, 263206, 150741, 96626, 131307, -105908, -2590, -14037, -252929, 37023,
     35935, -299407, -75811, 185190, 85471]
  | 1 =>
    [1033415, 983070, 887861, 755918, 599547, 426787, 267246, 102146, -18742, -124223, -182151, -224219, -194960,
     -216827, -130645, -115111, -33869, -13286, 49673, 47310, 88439, 61579, 84127, 39685, 57293, 4229, 29983, -27449,
     24916, -56496, 42447, -53397]
  | 2 =>
    [1143539, 1074188, 968311, 794253, 563628, 412751, 163202, 29826, -148338, -200525, -291528, -237000, -336831,
     -25413, -256010, 52614, -68309, 158373, 23316, 202265, 17599, 186151, -31069, 143092, -90471, 103968, -153081,
     139450, -242838, 299520, -370345, 169996]
  | 3 =>
    [991087, 943381, 847154, 723411, 564919, 411624, 243823, 114787, -17394, -88180, -144563, -170445, -160434,
     -134495, -98724, -55837, -17425, 16131, 38981, 51013, 55725, 47341, 42474, 22624, 20397, -4195, 6083, -21959,
     6318, -32619, 16476, -23161]
  | _ =>
    [967431, 923633, 832671, 711992, 569497, 415402, 265975, 128123, 15003, -67123, -125459, -147965, -147442,
     -133618, -100350, -66466, -30434, -1280, 19917, 33025, 41823, 31668, 37380, 20668, 16134, 4254, 3594, -6577, 986,
     -12729, 5216, -10541]

/-- g of that set from its middle coefficient outward, by RCODE. -/
def designedG (rcode : Nat) : List Int :=
  match rcode with
  | 0 =>
    [1622476, 1512684, 1213359, 803881, 385155, 46335, -160866, -231406, -198563, -114098, -26696, 32823, 55591,
     49518, 29701, 9694, -3134, -7758, -6926, -4127, -1698, -405]
  | 1 =>
    [788685, 774572, 733256, 668079, 583956, 487243, 384692, 283169, 188627, 105989, 38420, -12419, -46697, -65785,
     -72282, -69194, -59893, -47334, -34164, -22149, -12515, -5609]
  | 2 =>
    [807999, 793262, 750132, 682125, 594420, 493701, 387067, 281719, 183891, 98715, 29466, -22176, -56454, -74876,
     -80227, -75714, -64900, -50904, -36490, -23491, -13155, -5807]
  | 3 =>
    [607084, 604224, 584951, 557977, 521061, 472793, 422921, 361435, 302768, 239130, 176561, 120618, 61792, 18362,
     -25954, -57528, -77124, -97880, -91830, -92553, -81519, -29442]
  | _ =>
    [472965, 468507, 429546, 433510, 434672, 428565, 389603, 349104, 325990, 300807, 300974, 229964, 167696, 111286,
     130216, 68467, -205, -58221, -201561, -161291, -116179, -73630]

/-- h and g of the designed set of an R. -/
def designedSet (rcode : Nat) : List Int × List Int :=
  ((designedH rcode).reverse ++ designedH rcode, (designedG rcode).tail.reverse ++ designedG rcode)

/-- h and g of a standard set (R167): the ROM's, of which no more is stated than `stdSetOk` says (log entry 16). -/
def stdSet (type rcode : Nat) : List Int × List Int :=
  let h := (List.range 64).map fun i => Config.stdCoef type rcode 0 i
  let g := (List.range 43).map fun i => Config.stdCoef type rcode 1 i
  if stdSetOk type rcode h g then (h, g) else designedSet rcode

/-- D_1 + D_2 at f_nom, in ps, of the minimum-phase standard set of an R, from its D_chain at K = 5 in R167: 54, 78, 146, 242 and 434 µs
less 2.56 µs, D_CIC and 7.64 µs. -/
def stdFirDelay (rcode : Nat) : Nat :=
  match rcode with | 0 => 39000000 | 1 => 58000000 | 2 => 116000000 | 3 => 192000000 | _ => 344000000

/-- Twice the value of a 16-point table at 35, 40, 45, 50, 55, 60 and 65 Hz when f_nom is 50 Hz: points 0, 2.5, 5, 7.5, 10, 12.5, 15
(R166). -/
def atTenths (l : List Int) : List Int :=
  [(0, 0), (2, 3), (5, 5), (7, 8), (10, 10), (12, 13), (15, 15)].map fun (x : Nat × Nat) => l.getD x.1 0 + l.getD x.2 0

/-- The figures of R167 for a group-delay table: D_chain at f_nom to 0.01 µs, and for R = 50 its course to 0.001 µs. -/
def stdGdOk (rcode : Nat) (l : List Int) : Bool :=
  l.all (fun x => decide (0 ≤ x) && decide (x < 2 ^ 32))
  && decide ((l.getD 7 0 + l.getD 8 0 - 2 * (stdFirDelay rcode : Nat)).natAbs ≤ 10000)
  && (rcode != 1 || ((atTenths l).zip [57996000, 57997000, 57998000, 58000000, 58002000, 58004000, 58007000]).all fun x =>
    decide ((x.1 - 2 * x.2).natAbs ≤ 1000))

/-- The figures of R167 for the phase-residual table of R = 50. -/
def stdPrOk (rcode : Nat) (l : List Int) : Bool :=
  l.all (fun x => decide (-(2 : Int) ^ 31 ≤ x) && decide (x < 2 ^ 31))
  && (rcode != 1 || (atTenths l).map (· / 2) == [-17640, -23040, -29160, -36000, -43560, -51840, -60840])

/-- A group-delay table that meets `stdGdOk`. -/
def plainGd (rcode : Nat) : List Int :=
  if rcode = 1 then
    [57996, 57996, 57997, 57997, 57998, 57998, 57999, 58000, 58000, 58001, 58002, 58003, 58004, 58004, 58006, 58007].map (· * 1000)
  else List.replicate 16 (stdFirDelay rcode : Int)

/-- A phase-residual table that meets `stdPrOk`. -/
def plainPr (rcode : Nat) : List Int :=
  if rcode = 1 then
    [-17640, -20000, -23040, -23040, -26000, -29160, -32000, -36000, -36000, -40000, -43560, -47000, -51840, -51840, -56000, -60840]
  else List.replicate 16 0

/-- The group-delay table of a minimum-phase standard set: the ROM's, of which no more is stated than `stdGdOk` says. -/
def stdGds (rcode : Nat) : List Int :=
  let l : List Int := (List.range 16).map fun i => (Config.stdGd rcode i : Int)
  if stdGdOk rcode l then l else plainGd rcode

/-- The phase-residual table of a minimum-phase standard set, of which no more is stated than `stdPrOk` says. -/
def stdPrs (rcode : Nat) : List Int :=
  let l := (List.range 16).map fun i => Config.stdPr rcode i
  if stdPrOk rcode l then l else plainPr rcode

end Sys2Proof.Machine
end

