-- ==== Sys2Proof/Machine/Chain.lean ====
section
/-! DEFINITION. The filter chain of one local channel (R152 to R189): CIC, normaliser, the two FIR stages, coefficient
banks and fades, base-rate samples with their flags. -/
namespace Sys2Proof.Machine
open Reg

/-- The CIC order by its code (R153). -/
def kOf (code : Nat) : Nat := 3 + code
/-- The CIC decimation by RCODE (R153). -/
def rOf (code : Nat) : Nat := match code with | 0 => 25 | 1 => 50 | 2 => 100 | 3 => 200 | _ => 400

/-- ⌈log₂ n⌉. -/
def clog2 (n : Nat) : Nat := if n ≤ 1 then 0 else (n - 1).log2 + 1

/-- G of R157: ⌈K × log₂ R⌉. -/
def cicG (k r : Nat) : Nat := clog2 (r ^ k)

/-- N of R159: 320 × 2^S / R^K in Q2.22, rounded to nearest. -/
def normOf (k r : Nat) : Nat :=
  let num := 320 * 2 ^ (cicG k r - 8) * 2 ^ 22
  (2 * num + r ^ k) / (2 * r ^ k)

/-- An integer reduced modulo 2^w to a signed w-bit value. -/
def wrapS (w : Nat) (x : Int) : Int := (x + 2 ^ (w - 1)) % (2 ^ w : Nat) - 2 ^ (w - 1)

/-- The cascade of integrators (R157). -/
def cicInteg (w : Nat) : Int → List Int → List Int
  | _, [] => []
  | x, i :: r => let v := wrapS w (i + x); v :: cicInteg w v r

/-- The cascade of combs (R157): the new comb states and the comb output. -/
def cicComb : Int → List Int → List Int × Int
  | v, [] => ([], v)
  | v, c :: r => let q := cicComb (wrapS 34 (v - c)) r; (v :: q.1, q.2)

/-- The prototype period T_1 of the compensation FIR in ps (R154). -/
def t1ps (rcode : Nat) : Nat := match rcode with | 0 => 2000000 | 1 => 4000000 | 2 => 8000000 | 3 => 16000000 | _ => 32000000
/-- The prototype period T_2 of the second stage in ps (R154). -/
def t2ps (rcode : Nat) : Nat := if rcode ≤ 1 then 4000000 else 8000000

/-- The settling span in base-rate samples (R168). -/
def nSet (k rcode : Nat) : Nat :=
  ((k * rOf rcode + 64) * 80000 + 64 * t1ps rcode + 43 * t2ps rcode + 7999999) / 8000000

/-- A standard set of the ROM (R167, R176). -/
def stdBank (type rcode : Nat) : FBank :=
  { minPhase := type == 1, rcode := rcode,
    h := (stdSet type rcode).1,
    g := (stdSet type rcode).2,
    gd := if type = 1 then (stdGds rcode).map Int.toNat else [],
    pr := if type = 1 then stdPrs rcode else [],
    rom := true }

/-- The active bank of a channel; a channel without one runs on the linear-phase standard set of its R. -/
def State.activeBank (s : State) (c : Nat) : FBank :=
  let k := s.chan c
  match (if s.rd FLT_CH_STATUS.ACTIVE c = 0 then k.bankA else k.bankB) with
  | some b => b
  | none => stdBank 0 (s.rd FLT_CH_CFG.RCODE c)

/-- The bank of a channel that is not active. -/
def State.idleBank (s : State) (c : Nat) : Option FBank :=
  let k := s.chan c
  if s.rd FLT_CH_STATUS.ACTIVE c = 0 then k.bankB else k.bankA

/-- Linear interpolation in a 16-point table over 0.70 to 1.30 of the nominal frequency (R36, R166). -/
def tableAt (l : List Int) (f fnom : Nat) : Int :=
  -- position in units of 0.04 fnom above 0.70 fnom
  let num : Int := 100 * (f : Int) - 70 * fnom
  let den : Nat := 4 * fnom
  if den = 0 then l.getD 0 0 else
  if num ≤ 0 then l.getD 0 0 else
  let j := (num / (den : Int)).toNat
  if 15 ≤ j then l.getD 15 0 else
  let a := l.getD j 0
  let b := l.getD (j + 1) 0
  a + openDiv 30 ((b - a) * (num - (j : Int) * den)) den

/-- D_1 + D_2 of a bank at a frequency, ps (R165, R166). -/
def FBank.firDelay (b : FBank) (f fnom : Nat) : Int :=
  if b.minPhase then tableAt (b.gd.map Int.ofNat) f fnom
  else ((63 * t1ps b.rcode / 2 + 21 * t2ps b.rcode : Nat) : Int)

/-- D_chain of a channel on a bank at a frequency, ps (R164). -/
def dChain (k rcode : Nat) (b : FBank) (f fnom : Nat) : Int :=
  2560000 + ((k * (rOf rcode - 1) * 40000 : Nat) : Int) + b.firDelay f fnom + 7640000

/-- D_chain of channel `c` on a bank at the frequency applied. -/
def State.dChainOf (s : State) (c : Nat) (b : FBank) : Int :=
  dChain (kOf (s.rd FLT_CH_CFG.K c)) (s.rd FLT_CH_CFG.RCODE c) b s.grid.freq s.fnom

/-- The phase-delay residual of a bank (R37, R166). -/
def State.residOf (s : State) (b : FBank) : Int :=
  if b.minPhase then tableAt b.pr s.grid.freq s.fnom else 0

/-- A FIR stage's sum with its one rounding rule (R161): the value and whether it saturated (R163). -/
def firSum (h l : List Int) : Int × Bool :=
  let acc := (h.zip l).foldl (fun a x => a + x.1 * x.2) 0
  let v := (acc + 2 ^ 22) / 2 ^ 23
  (satI 32 v, decide (satI 32 v ≠ v))

/-- A span of `n` CORE_CK cycles in 2^-32 device-time units, at the present rate (R10). -/
def State.cycles (s : State) (n : Nat) : Nat := (n * (2 ^ 32 + s.grid.delta)).toNat

/-- The period of a modulator period in 2^-32 device-time units: 20 CORE_CK cycles (R10, R58). -/
def State.modStep (s : State) : Nat := s.cycles 20

/-- The settling span of a channel in 2^-32 device-time units (R168). -/
def State.settleSpan (s : State) (c : Nat) : Nat := nSet (kOf (s.rd FLT_CH_CFG.K c)) (s.rd FLT_CH_CFG.RCODE c) * 2000 * 2 ^ 32

/-- The reset of a channel's chain (R158, R173): its `SYNC_CNT` counts it and its settling restarts. The validation streams decimate on
the periods of the base-rate samples from then on (R81), with nothing of them or of the open window cleared: R81 does not say what becomes of
them (DESIGN CHOICE, log entry 94). -/
def State.chainReset (s : State) (c : Nat) : State :=
  let k := s.chan c
  let kk := kOf (s.rd FLT_CH_CFG.K c)
  let z := List.replicate kk (0 : Int)
  let s := s.setChan c { k with integ := z, comb := z, ph := 0, uH := [], uPh := 0, zPh := 0, words := 0,
                                vPh := (100 - rOf (s.rd FLT_CH_CFG.RCODE c) % 100) % 100, marks := tset k.marks bSETTLING k.tm }
  s.bump FLT_CH_SYNC_CNT.VALUE c

/-- Write the coefficient banks and the selections of channels to MRAM, in one copy over the older one (R179, R187); while writes are
withheld the write is owed (R643). -/
def State.storeBanks (s : State) (chs : List Nat) : State :=
  if chs.isEmpty then s
  else if s.writesHeld then s.modPwr fun p => { p with owedBanks := p.owedBanks ++ chs.filter fun c => !p.owedBanks.contains c }
  else
    let put := fun (l : Tab (Option FBank × Option FBank × Nat)) (c : Nat) =>
      let k := s.chan c
      tset l c (k.bankA, k.bankB, s.rd FLT_CH_STATUS.ACTIVE c)
    s.modAfeNv fun n => { n with store := n.store.put (chs.foldl put (n.store.good.getD [])) }

/-- The status bits of a channel's banks and fades (FLT_CH_STATUS, FLT_CH_FADE). -/
def State.fltStatus (s : State) (c : Nat) : State :=
  let k := s.chan c
  let st := if k.fading then 2 else if k.swap.isSome then 1 else 0
  let s := s.wr FLT_CH_STATUS.STATE st c
  let s := s.wr FLT_CH_STATUS.QUEUED (b2n k.queued.isSome) c
  let s := s.wr FLT_CH_STATUS.TYPE (b2n (s.activeBank c).minPhase) c
  let s := (s.wr FLT_CH_STATUS.A_LOADED (b2n k.bankA.isSome) c).wr FLT_CH_STATUS.B_LOADED (b2n k.bankB.isSome) c
  let s := s.wr FLT_CH_FADE.POS (if k.fading then k.pos else 0) c
  s.wr FLT_CH_FADE.LOG2F (if k.fading then (k.swap.map (·.fade)).getD 0 else 0) c

/-- One channel of a swap command has finished; when it was the last, FLT_SWAP_DONE is logged with the TAG (R187). -/
def State.swapFinished (s : State) (c id : Nat) : State :=
  let step := fun (x : Nat × Nat × List Nat) => if x.1 = id then (x.1, x.2.1, x.2.2.filter (· != c)) else x
  let l := s.afe.swaps.map step
  let done := l.filter fun x => x.2.2.isEmpty
  let s := { s with afe := { s.afe with swaps := l.filter fun x => !x.2.2.isEmpty } }
  forL done (fun x s => if x.1 = id then s.chanLog c 0x2001 0 x.2.1 else s) s

/-- A channel's part of a swap command is cancelled: the command's channels will never all have finished, and it logs no FLT_SWAP_DONE
(R187, R189; DEDUCED, log entry 95). -/
def State.swapDropped (s : State) (c : Nat) (r : SwapReq) : State :=
  (s.modAfe fun a => { a with swaps := a.swaps.filter fun x => x.1 != r.id }).chanLog c 0x2002 0 r.tag

/-- The instant, in 2^-32 units, of the first tick of the first cycle that begins after `e` (R186): of a tick that has been, or else by the
present tick period. -/
def State.nextCycleAfter (s : State) (e : Nat) : Nat :=
  let np := s.np
  match (s.grid.hist.reverse.find? fun r => r.n % np == 0 && decide (e < r.t * 2 ^ 8)) with
  | some r => r.t * 2 ^ 8
  | none =>
    let k := s.grid.nextN % np
    let toGo := if k = 0 then 0 else np - k
    let b := (s.grid.nextT + toGo * s.grid.per) * 2 ^ 8
    if e < b then b else b + np * s.grid.per * 2 ^ 8

/-- The start instant of a swap (R182): that of its tick, by the present period while the tick is still to come. -/
def State.swapAt (s : State) (r : SwapReq) : Nat :=
  match r.tick with
  | some n =>
    if n < s.grid.nextN then ((s.tickRec? n).map fun x => x.t * 2 ^ 8).getD 0
    else (s.grid.nextT + (n - s.grid.nextN) * s.grid.per) * 2 ^ 8
  | none => r.start

/-- A waiting swap starts at a base-rate sample of strobe `sig` (R182, R184, R186). -/
def State.swapStart (s : State) (c sig : Nat) : State :=
  let k := s.chan c
  match k.swap with
  | some r =>
    if k.was.isNone && !k.fading && decide (s.swapAt r ≤ sig) then
      let a := s.dChainOf c (s.activeBank c)
      let b := s.dChainOf c ((s.idleBank c).getD (s.activeBank c))
      let far := decide (1000 < (a - b).natAbs)
      (s.setChan c { k with fading := true, pos := 0, holdSet := k.holdSet || far,
                            setUntil := if far then none else k.setUntil }).happen c evSwapStart
    else s
  | none => s

/-- A fade has reached its target: the selection changes and is stored, the queued swap moves up (R184, R187). -/
def State.swapDone (s : State) (c sig : Nat) : State :=
  let k := s.chan c
  match k.swap with
  | some r =>
    let s := s.setChan c { k with fading := false, pos := 0, swap := k.queued, queued := none,
                                  setUntil := if k.holdSet then some sig else k.setUntil,
                                  holdSet := false }
    let s := s.wr FLT_CH_STATUS.ACTIVE (1 - s.rd FLT_CH_STATUS.ACTIVE c) c
    let s := (s.storeBanks [c]).bump FLT_CH_SWAP_CNT.VALUE c
    ((s.swapFinished c r.id).happen c evSwapDone)
  | none => s

/-- The flags of a base-rate sample of strobe `sig`: SETTLING and SELFTEST, WIDE, CLIPPED, TWIN_MISMATCH, QUESTIONABLE
and TEST of any word within the settling span before it (R169, R170). -/
def baseFlags (marks : Tab Nat) (span sig : Nat) : Nat :=
  marks.foldl (fun f m => if sig < m.2 + span then f ||| m.1 else f) 0

/-- The banks of a channel as its own time finds them: those it has, or, up to a swap tick that changes its R, those it had (R188). -/
def State.front (s : State) (c : Nat) : FltWas :=
  let k := s.chan c
  match k.was with
  | some w => w
  | none =>
    { act := s.activeBank c, inc := (s.idleBank c).getD (s.activeBank c), fading := k.fading, fade := (k.swap.map (·.fade)).getD 0, pos := k.pos,
      hold := k.holdSet }

/-- A base-rate sample is out at its strobe: a fade has gone on by one sample, and one that reaches its target ends. A fade that new settings
have cancelled ends with nothing more (R183, R188; log entry 95). -/
def State.fadeStep (s : State) (c sig : Nat) : State :=
  let k := s.chan c
  let w := s.front c
  if !w.fading then s else
  let last := decide (2 ^ w.fade ≤ w.pos + 1)
  if k.was.isSome then
    s.setChan c { k with was := some { w with pos := w.pos + 1, fading := !last, act := if last then w.inc else w.act } }
  else
    let s := s.setChan c { k with pos := w.pos + 1 }
    if last then s.swapDone c sig else s

/-- A base-rate sample leaves the second stage at its strobe: the fade, the flags (R40, R163, R169 to R183). `old` and
`new` are the sums of the active and of the incoming bank, `sat` whether a stage saturated for it. The SETTLING of R186 lasts to the
first tick of the first cycle that begins after the fade's end, which `setUntil` holds. -/
def State.baseOut (s : State) (c sig : Nat) (old new : Int) (sat : Bool) : State :=
  let k := s.chan c
  let w := s.front c
  let pos := w.pos + 1
  let y := if w.fading then ((old * (2 ^ w.fade - (pos : Int)) + new * (pos : Int) + 2 ^ w.fade / 2) / 2 ^ w.fade) else old
  let hold := w.hold || (match k.setUntil with | some e => decide (sig < s.nextCycleAfter e) | none => false)
  let f := orIf (orIf (orIf (baseFlags k.marks (s.settleSpan c) sig) hold bSETTLING) sat bCLIPPED) w.fading bFADE
  let v := if hasBit f (bSETTLING + bSELFTEST) then 0 else y
  let s := s.setChan c { k with base := ({ s := sig, v := v, flags := f } :: k.base).take 320 }
  (s.wr FLT_CH_STATUS.SETTLING (b2n (hasBit f bSETTLING)) c).fadeStep c sig

/-- The second stage's input, newest first, when the newest word of the compensation FIR lies `i` prototype periods back:
L × w at every L-th place, 0 between (R161). `d1` is the decimation of the FIR. -/
def zList (h uH : List Int) (d1 l i : Nat) : List Int :=
  (List.range 43).map fun j =>
    if i ≤ j ∧ (j - i) % l = 0 then (l : Int) * (firSum h (uH.drop (d1 * ((j - i) / l)))).1 else 0

/-- A bank's output from the normaliser's history (R161), and whether the second stage saturated. -/
def FBank.output (b : FBank) (uH : List Int) (d1 l i : Nat) : Int × Bool := firSum b.g (zList b.h uH d1 l i)

/-- The banks that compute for a channel now: the active one, and the incoming one in a fade (R183). -/
def State.banksOn (s : State) (c : Nat) : List FBank :=
  let w := s.front c
  if w.fading then [w.act, w.inc] else [w.act]

/-- The interpolation of the second stage: base-rate samples per word of the compensation FIR (R154). -/
def lOf (rcode : Nat) : Nat := if rcode = 3 then 2 else if rcode = 4 then 4 else 1
/-- The decimation of the compensation FIR (R154). -/
def d1Of (rcode : Nat) : Nat := if rcode = 0 then 2 else 1

/-- How many of the newest `n` words of a bank's compensation FIR saturated (R163): a word every `d1` normaliser outputs. -/
def FBank.firSats (b : FBank) (uH : List Int) (d1 n : Nat) : Nat :=
  ((List.range n).filter fun j => (firSum b.h (uH.drop (d1 * j))).2).length

/-- A base-rate sample is made at its strobe (R161). Both banks of a fade compute from the same history (R183). A saturation in either stage
is counted and marks the sample it concerns (R163): the second stage's, and that of each word of the first since the sample before; a sample
without a new word is marked by the newest one, which counts for a bank that comes in with it. -/
def State.secondOut (s : State) (c : Nat) (x : BasePend) : State :=
  let rc := s.rd FLT_CH_CFG.RCODE c
  let was := (s.front c).fading
  let s := s.swapStart c x.sig
  let uH := (s.chan c).uH.drop x.lag
  let bs := s.banksOn c
  let o := bs.map fun b => b.output uH (d1Of rc) (lOf rc) x.i
  let fir := fun (n : Nat) (l : List FBank) => (l.map fun b => b.firSats uH (d1Of rc) n).sum
  let new := if was then [] else bs.drop 1
  let sats := (o.filter (·.2)).length + fir x.words (bs.take (bs.length - new.length)) + fir (max 1 x.words) new
  let sat := decide (0 < sats) || decide (0 < fir (max 1 x.words) bs)
  let s := if sats = 0 then s else s.bump FLT_CH_SAT_CNT.VALUE c 0 sats
  s.baseOut c x.sig ((o.head?.map (·.1)).getD 0) ((o.getLast?.map (·.1)).getD 0) sat

/-- A base-rate sample falls in the present period of a channel, its newest FIR word `i` prototype periods back. It is made at its strobe,
7.64 µs, which is 1,910 cycles of CORE_CK, after the start of the period (R164; DEDUCED, log entry 22). -/
def State.basePend (s : State) (c i : Nat) : State :=
  let k := s.chan c
  s.setChan c { k with words := 0, pend := k.pend ++ [{ sig := k.tm + s.cycles 1910, i := i, words := k.words }] }

/-- The base-rate samples of a channel whose strobes lie before `t` are made, oldest first. -/
def State.strobesTo (s : State) (c t : Nat) : Nat → State
  | 0 => s
  | n + 1 =>
    let k := s.chan c
    match k.pend with
    | x :: r => if x.sig < t then ((s.setChan c { k with pend := r }).secondOut c x).strobesTo c t n else s
    | [] => s

/-- The base-rate samples of a channel whose strobes lie before `t`. -/
def State.strobes (s : State) (c t : Nat) : State := s.strobesTo c t (s.chan c).pend.length

/-- One normaliser output into the two FIR stages (R161). -/
def State.firStages (s : State) (c : Nat) (u : Int) : State :=
  let k := s.chan c
  let rc := s.rd FLT_CH_CFG.RCODE c
  let d1 := d1Of rc
  let uPh := (k.uPh + 1) % d1
  let s := s.setChan c { k with uH := (u :: k.uH).take 160, uPh := uPh, pend := k.pend.map fun x => { x with lag := x.lag + 1 } }
  if uPh = 1 % d1 then
    let d2 := if rc ≤ 1 then 2 else 1
    let k := s.chan c
    let zPh := (k.zPh + 1) % d2
    let s := s.setChan c { k with zPh := zPh, words := k.words + 1 }
    if zPh = 1 % d2 then s.basePend c 0 else s
  else s

/-- The marks a splice word of flags `f` at time `t` leaves (R169, R170). -/
def setMarks (marks : Tab Nat) (f t : Nat) : Tab Nat :=
  [bSETTLING, bQUEST, bWIDE, bCLIPPED, bTWIN, bTEST, bSELFTEST].foldl
    (fun m b => if hasBit f b then tset m b t else m) marks

/-- One splice word through CIC and normaliser (R157, R159). For R = 200 and 400 the second stage also gives a sample at each 100th
period between two words of the FIR, at that period's own strobe (R40, R154). -/
def State.chainWord (s : State) (c : Nat) (x : Int) (f : Nat) : State :=
  let k := s.chan c
  let kk := kOf (s.rd FLT_CH_CFG.K c)
  let r := rOf (s.rd FLT_CH_CFG.RCODE c)
  let g := cicG kk r
  let integ := cicInteg (24 + g) x (if k.integ.length = kk then k.integ else List.replicate kk 0)
  let comb := if k.comb.length = kk then k.comb else List.replicate kk 0
  let marks := setMarks k.marks f k.tm
  if r ≤ k.ph + 1 then
    let q := cicComb (asr (integ.getLastD 0) (g - 10)) comb
    let y := satI 32 ((q.2 + 2) / 4)
    let u := satI 32 ((y * (normOf kk r : Int) + 2 ^ 21) / 2 ^ 22)
    (s.setChan c { k with integ := integ, comb := q.1, ph := 0, marks := marks }).firStages c u
  else
    let s := s.setChan c { k with integ := integ, comb := comb, ph := k.ph + 1, marks := marks }
    if 100 < r && (k.ph + 1) % 100 == 0 && !k.uH.isEmpty then s.basePend c ((k.ph + 1) / 100) else s

/-- The reset of FLT_SYNC on a channel (R173): a running fade's target comes into force and the queued swap is cancelled (R189). -/
def State.syncReset (s : State) (c : Nat) : State :=
  let k := s.chan c
  let s := if k.fading then
      let s := match k.queued with
        | some q => (s.setChan c { k with queued := none }).swapDropped c q
        | none => s
      s.swapDone c k.tm
    else s
  s.chainReset c

/-- Cancel a channel's swaps, each logging FLT_SWAP_CANCEL with its TAG (R188). -/
def State.cancelSwaps (s : State) (c : Nat) : State :=
  let k := s.chan c
  let s := s.setChan c { k with swap := none, queued := none, fading := false, pos := 0, holdSet := false }
  forL ([k.swap, k.queued].filterMap id) (fun r s => s.swapDropped c r) s

/-- FLT_CH_NORM (R159). -/
def State.normReg (s : State) (c : Nat) : State :=
  s.wr FLT_CH_NORM.VALUE (normOf (kOf (s.rd FLT_CH_CFG.K c)) (rOf (s.rd FLT_CH_CFG.RCODE c))) c

/-! ### Digests of banks (R178) -/

/-- The words of a bank as its digest covers them (R178): header, h, g, and the tables of a minimum-phase bank. -/
def FBank.words (b : FBank) : List Nat :=
  (b2n b.minPhase + 2 * b.rcode) :: ((b.h ++ b.g).map (toBits 32 ·) ++ b.gd ++ b.pr.map (toBits 32 ·))

/-- The digest of a bank (R178). -/
def FBank.digest (b : FBank) : Nat := digest64 (b.words.flatMap (leBytes 4 ·))

/-- The digest registers of a channel's banks (R178). -/
def State.digRegs (s : State) (c : Nat) : State :=
  let k := s.chan c
  let d := fun (b : Option FBank) => match b with | some b => b.digest | none => 0
  (s.wr64 FLT_CH_DIGA_LO.VALUE FLT_CH_DIGA_HI.VALUE (d k.bankA) c).wr64 FLT_CH_DIGB_LO.VALUE FLT_CH_DIGB_HI.VALUE (d k.bankB) c

/-! ### A settings swap on a channel (R64, R159, R174, R188, R189) -/

/-- A committed change of a channel's R (R188): swaps are cancelled, bank A receives the standard set and bank B is emptied, at the swap
tick. A channel whose own time has not come to it computes with what it had until then. -/
def State.changeR (s : State) (c rcode : Nat) (old : Bank) : State :=
  let u := { s with bank := old }
  let was := u.front c
  let s := s.cancelSwaps c
  let s := s.setChan c { s.chan c with bankA := some (stdBank (s.rd FLT_CH_STATUS.TYPE c) rcode), bankB := none, was := some was }
  ((((s.wr FLT_CH_STATUS.ACTIVE 0 c).storeBanks [c]).digRegs c).fltStatus c).logEv 0x2003 c

/-- A settings swap on a channel, as its registers show it at the swap tick: N and the coefficient banks follow K and R (R159, R188). -/
def State.chanShow (s : State) (c : Nat) (old : Bank) : State :=
  let rc := s.rd FLT_CH_CFG.RCODE c
  (if old.fld FLT_CH_CFG.RCODE c ≠ rc then s.changeR c rc old else s).normReg c

/-- The channel's own time has come to the swap tick: MODE, K and R of the new bank take hold. A change of MODE restarts the splice and
marks the words of the next 1 ms (R64, R73); a change of K is a reset as for FLT_SYNC, one of R that of R188. The checks of validation and of
twin mode go on with those words: R64, R81 and R88 are silent (DESIGN CHOICE, log entry 94). -/
def State.chanSwap (s : State) (c : Nat) : State :=
  let k := s.chan c
  let s := s.setChan c { k with chg := none, was := none }
  match k.chg, s.prev with
  | some t, some (old, _) =>
    let s := if old.fld AFE_CH_CFG.MODE c = s.rd AFE_CH_CFG.MODE c then s
      else (s.spliceRestart c).flagFrom c bSETTLING t (some (t + 250000 * 2 ^ 32))
    if old.fld FLT_CH_CFG.RCODE c ≠ s.rd FLT_CH_CFG.RCODE c then s.chainReset c
    else if old.fld FLT_CH_CFG.K c ≠ s.rd FLT_CH_CFG.K c then s.syncReset c
    else s
  | _, _ => s

/-! ### A channel's own time -/

/-- What falls due at a channel's next period: the settings swap, restarts of its splice, the resets of FLT_SYNC (R173) and that after a
power-up of its group (R174). -/
def State.chanDue (s : State) (c : Nat) : State :=
  let due := fun (t : Nat) => decide (t ≤ (s.chan c).tm)
  let s := if (s.chan c).chg.any due then s.chanSwap c else s
  let s := if (s.chan c).held.any fun h => due h.at' then s.heldDone c else s
  let k := s.chan c
  let s := if k.restarts.any due then (s.setChan c { k with restarts := k.restarts.filter fun t => !due t }).spliceRestart c else s
  let k := s.chan c
  let s := if k.sync.any due then ((s.setChan c { k with sync := k.sync.filter fun t => !due t }).syncReset c).happen c evSync else s
  let k := s.chan c
  let s := if k.powerUp.any due then (s.setChan c { k with powerUp := none }).chainReset c else s
  let k := s.chan c
  if k.spans.any fun x => x.hi.any due then s.setChan c { k with spans := k.spans.filter fun x => !x.hi.any due } else s

/-- Some of a table's entries as another table has them. -/
def tabFrom {α : Type} (src dst : Tab α) (keys : List Nat) : Tab α :=
  keys.foldl (fun d k => match tfind src k with | some v => tset d k v | none => terase d k) dst

/-- Run `f` with the settings that a channel's own time has come to, those before a swap tick that is still ahead of it, and with the register
values that a procedure has changed ahead of it. -/
def State.onFront (s : State) (c : Nat) (f : State → State) : State :=
  let k := s.chan c
  let held := (k.held.map (·.regs)).getD []
  let keys := held.map (·.1)
  let bank := match k.chg, s.prev with | some _, some (b, _) => b | _, _ => s.bank
  let v := f { s with bank := bank, regs := tabFrom held s.regs keys }
  if keys.isEmpty then { v with bank := s.bank } else
  let w := v.chan c
  let v := v.setChan c { w with held := w.held.map fun h => { h with regs := tabFrom v.regs h.regs keys } }
  { v with bank := s.bank, regs := tabFrom s.regs v.regs keys }

/-- The MODE in force at a channel's own time. -/
def State.modeOf (s : State) (c : Nat) : Nat :=
  match (s.chan c).chg, s.prev with
  | some _, some (b, _) => b.fld AFE_CH_CFG.MODE c
  | _, _ => s.rd AFE_CH_CFG.MODE c

/-- One modulator period of a channel: splice, chain, time (R58 to R189). -/
def State.period (s : State) (c : Nat) (mA mB : Int) : State :=
  s.onFront c fun s =>
    let r := s.splicePeriod c mA mB
    let s := r.1.chainWord c r.2.1 r.2.2
    let k := s.chan c
    s.setChan c { k with tm := k.tm + s.modStep }

/-- A code of a modulator held to its range (R59). -/
def codeOf (x : Int) : Int := clampI x (-8) 8

/-- The periods that a channel that is OFF skips at once: to `T`, or to the next instant at which something falls due. -/
def State.skips (s : State) (c T : Nat) : Nat :=
  let k := s.chan c
  let l := (k.chg.toList ++ (k.held.map (·.at')).toList ++ k.restarts ++ k.sync ++ k.powerUp.toList).filter fun t => decide (k.tm < t)
  let e := l.foldl min T
  (e - k.tm + s.modStep - 1) / max 1 s.modStep

/-- Run a channel until its time reaches `T` or `stop` holds: over given codes, and over codes 0, those of an input of 0 V, after them. Its
base-rate samples are made as their strobes pass, each after the words up to it (R169, R182). A channel that is OFF lets its periods and their
codes pass; the resets of its chain take place all the same. -/
def State.runFor (s : State) (c T : Nat) (stop : ChanSt → Bool) : Nat → List (Int × Int) → State
  | 0, _ => s
  | n + 1, codes =>
    let s := s.onFront c fun s => s.strobes c (min T (s.chan c).tm)
    if decide (T ≤ (s.chan c).tm) || stop (s.chan c) then s else
    let s := s.chanDue c
    if s.modeOf c = 0 then
      let i := s.skips c T
      let k := s.chan c
      (s.setChan c { k with tm := k.tm + i * s.modStep }).runFor c T stop n (codes.drop i)
    else match codes with
      | [] => (s.period c 0 0).runFor c T stop n []
      | x :: r => (s.period c (codeOf x.1) (codeOf x.2)).runFor c T stop n r

/-- FLT_SYNC_PEND shows whether a reset is still to come. -/
def State.syncPend (s : State) : State := s.wr FLT_STATUS.SYNC_PEND (b2n (s.afe.ch.any fun x => !x.2.sync.isEmpty))

/-- Run a channel over codes to `T` (2^-32 units) at most, its happenings noted; codes beyond `T` are those of later periods and are not
taken (log entry 96). -/
def State.runChan (s : State) (c T : Nat) (stop : ChanSt → Bool) (codes : List (Int × Int)) : State :=
  let s := s.setChan c { s.chan c with ev := 0 }
  let n := (T - (s.chan c).tm) / max 1 s.modStep + 64
  (s.runFor c T stop n codes).fltStatus c

/-- How far a channel may run: to the next tick, at which settings can change; 8 ms on when the grid does not run. -/
def State.runLimit (s : State) (c : Nat) : Nat :=
  if s.rd GRID_STATUS.RUN = 1 then s.grid.nextT * 2 ^ 8 else (s.chan c).tm + s.cycles 2000000

end Sys2Proof.Machine
end

