-- ==== Sys2Proof/Machine/Command.lean ====
section
/-! DEFINITION. How a command packet is taken up, checked and answered (R568, R573 to R592). -/
namespace Sys2Proof.Machine
open Reg

/-- The opcodes of R598. -/
def opcodes : List Nat :=
  [0x0101, 0x0102, 0x0103, 0x0104, 0x0201, 0x0202, 0x0203, 0x0204, 0x0301, 0x0302, 0x0303, 0x0401, 0x0501, 0x0601,
   0x0602, 0x0603, 0x0604, 0x0605, 0x0701, 0x0702, 0x0703, 0x0704, 0x0705, 0x0706, 0x0801, 0x0802, 0x0901, 0x0902,
   0x0903, 0x0A01, 0x0A02]

/-- The feature bit that gates a command (R591, R598): PBUS_SUBSCRIBE by its KIND. -/
def gateOf (op : Nat) (p : Packet) : Option Nat :=
  if op = 0x0501 then some (if (p.word 0).testBit 8 then 3 else 2)
  else if op = 0x0703 then some 9
  else if op = 0x0901 ∨ op = 0x0902 ∨ op = 0x0903 then some 6
  else if op = 0x0A02 then some 12
  else none

/-- The negotiated feature word. -/
def State.feat (s : State) : Nat := s.rd64 HOST_FEAT_LO.VALUE HOST_FEAT_HI.VALUE

/-- A feature bit is negotiated. -/
def State.hasFeat (s : State) (b : Nat) : Bool := s.feat.testBit b

/-- The largest LENGTH of an interface version (R590); 65,532 for any other (R585). -/
def ifverLimit (v : Nat) : Nat := if v = 1 then 4096 else 65532

/-- The checks common to all commands, in their order (R585): the reply of the first that fails. -/
def State.commonCheck (s : State) (op : Nat) (p : Packet) : Option (Status × List Nat) :=
  let early := decide (op = 0x0101) || decide (op = 0x0102)
  let sess := decide (s.rd HOST_STATUS.NEG = 1)
  let inUse := sess && !early
  let v := p.ifver.toNat
  let limit := if inUse then ifverLimit (s.rd HOST_STATUS.IFVER) else ifverLimit v
  if p.len % 4 ≠ 0 ∨ limit < p.len then some (.badLength, [])
  else if p.crc.toNat ≠ p.crcOf op then some (.badCrc, [])
  else if (if inUse then decide (v ≠ s.rd HOST_STATUS.IFVER) else decide (v ≠ 1 ∧ v ≠ 2)) then some (.ifverUnsupported, [])
  else if p.flags.toNat ≠ 0 then some (.badTarget, [26])
  else if !opcodes.contains op then some (.badOpcode, [])
  else if !sess && !early then some (.featureNotNegotiated, [])
  else match gateOf op p with
    | some b => if s.hasFeat b then none else some (.featureNotNegotiated, [])
    | none => none

/-- A reply of BAD_LENGTH, BAD_CRC or IFVER_UNSUPPORTED is counted and logged (R585). -/
def State.badPacket (s : State) (st : Status) (resync : Bool) : State :=
  if st = .badLength ∨ st = .badCrc ∨ st = .ifverUnsupported then
    (s.bump HOST_BADPKT_CNT.VALUE).logEv 0xB003 0 (st.code + 65536 * b2n resync)
  else s

/-- Interpret a packet that stands at the front of B0: the common checks, the command itself, the reply; TAIL of B0
moves past the packet (R584, R585). -/
def State.interpretWith (s : State) (f : State → Bool → Packet → CmdRes) (w : Waiting) : State :=
  let s := s.wr HOST_BERTH_TAIL.VALUE (s.rd HOST_BERTH_TAIL.VALUE 0 + w.pkt.size) 0
  match s.commonCheck w.op w.pkt with
  | some (st, d) => (s.badPacket st false).reply w.op w.pkt.tag.toNat w.pkt.ifver.toNat st d
  | none =>
    let r := f s w.q w.pkt
    (r.st.badPacket r.status false).reply w.op w.pkt.tag.toNat w.pkt.ifver.toNat r.status r.data

/-- The other interface may not write this while a session exists; such a write is ignored and counted (R568). -/
def State.foreign (s : State) (q : Bool) : Bool :=
  decide (s.rd HOST_STATUS.NEG = 1) && decide (s.rd HOST_STATUS.IF ≠ b2n q)

/-! ### Packets in B0 (R573 to R575, R580, R584) -/

/-- The bytes of a packet as the host writes them into B0, padded (R574, R580). -/
def Packet.bytes (op : Nat) (p : Packet) : List Byte :=
  let b := headBytes op p.len p.ifver.toNat p.flags.toNat p.tag.toNat p.target.toNat ++ leBytes 4 p.crc.toNat ++ p.params
  b ++ List.replicate (p.size - b.length) 0

/-- Bytes written into B0 from a count on. -/
def State.b0Write (s : State) (x : Nat) (l : List Byte) : State :=
  s.modHost fun h => { h with mem := ringWrite h.mem (s.berthBase 0) (s.berthSize 0) x l }

/-- Bytes of B0 from a count on. -/
def State.b0Read (s : State) (x n : Nat) : List Byte := ringRead s.host.mem (s.berthBase 0) (s.berthSize 0) x n

/-- The opcode and the packet whose header stands at a count of B0 (R580). -/
def State.packetAt (s : State) (x : Nat) : Nat × Packet :=
  let h := s.b0Read x 16
  let f := fun i n => ofLe ((h.drop i).take n)
  let p : Packet := { tag := BitVec.ofNat 16 (f 0 2), ifver := BitVec.ofNat 8 (f 5 1), flags := BitVec.ofNat 8 (f 4 1),
                      target := BitVec.ofNat 32 (f 8 4), params := s.b0Read (x + 16) (f 6 2), crc := BitVec.ofNat 32 (f 12 4) }
  (f 2 2, p)

/-- Take up the whole packets between a count and HEAD of B0; a header without its whole packet is timed (R584). -/
def State.takeUp (s : State) (q : Bool) (x : Nat) : Nat → State
  | 0 => s
  | n + 1 =>
    let avail := (s.rd HOST_BERTH_HEAD.VALUE 0 + 2 ^ 32 - x % 2 ^ 32) % 2 ^ 32
    let len := ofLe (s.b0Read (x + 6) 2)
    if avail < 16 then s.modHost fun h => { h with partialAt := none }
    else if 65532 < len ∨ avail < pad8 (16 + len) then s.modHost fun h => { h with partialAt := some (h.partialAt.getD s.grid.now) }
    else
      let r := s.packetAt x
      (s.modHost fun h => { h with waiting := h.waiting ++ [Waiting.mk r.1 q r.2], partialAt := none,
                                   frontAt := if h.waiting.isEmpty then s.grid.now else h.frontAt }).takeUp q (x + pad8 (16 + len)) n

/-- The packets of the queue that end within `n` bytes of TAIL. -/
def visible (n : Nat) : List Waiting → List Waiting
  | [] => []
  | w :: r => if w.pkt.size ≤ n then w :: visible (n - w.pkt.size) r else []

/-- A host write of the HEAD of B0 (R568, R575): an accepted one makes packets visible. -/
def State.headWrite (s : State) (q : Bool) (v : Nat) : State :=
  if s.foreign q then s.bump HOST_BADPTR_CNT.VALUE else
  let tail := s.rd HOST_BERTH_TAIL.VALUE 0
  let n := (v + 2 ^ 32 - tail) % 2 ^ 32
  if s.berthSize 0 < n then (s.bump HOST_BADPTR_CNT.VALUE).wr HOST_STATUS.PTR_ERR 1 else
  let s := (s.wr HOST_BERTH_HEAD.VALUE v 0).wr HOST_STATUS.PTR_ERR 0
  let keep := visible n s.host.waiting
  let s := s.modHost fun h => if keep.length < h.waiting.length then { h with waiting := keep, partialAt := none } else h
  (s.takeUp q (tail + keep.foldl (fun a w => a + w.pkt.size) 0) 8192).setCredits

/-! ### Resynchronisation (R584) -/

/-- Write the resync reply that is owed, once B1 takes it. -/
def State.payResync (s : State) : State :=
  match s.host.resync with
  | some (op, tag) =>
    if s.canReply then (s.modHost fun h => { h with resync := none }).reply op tag 0 .badLength [] true else s
  | none => s

/-- The packet at TAIL of B0 cannot be framed: what B0 holds is discarded, and a resync reply is owed. -/
def State.resyncNow (s : State) : State :=
  let r := s.packetAt (s.rd HOST_BERTH_TAIL.VALUE 0)
  let s := (s.wr HOST_BERTH_TAIL.VALUE (s.rd HOST_BERTH_HEAD.VALUE 0) 0).bump HOST_RESYNC_CNT.VALUE
  let s := (s.badPacket .badLength true).modHost fun h => { h with partialAt := none, waiting := [], resync := some (r.1, r.2.tag.toNat) }
  s.setCredits.payResync

/-- The header at TAIL of B0 announces a LENGTH that no packet has. -/
def State.unframed (s : State) : Bool :=
  s.host.waiting.isEmpty && s.host.partialAt.isSome && decide (65532 < ofLe (s.b0Read (s.rd HOST_BERTH_TAIL.VALUE 0 + 6) 2))

/-- The host has not completed a packet within 100 ms of its header (R584). -/
def State.resyncDue (s : State) : State :=
  match s.host.partialAt with
  | some t => if s.host.waiting.isEmpty then (s.atTime (t + 25000000)).resyncNow else s
  | none => s

/-- The time since the packet in front became the next to interpret, in µs, goes into HOST_CMD_LAT_MAX (R586). -/
def State.latency (s : State) : State :=
  s.wr HOST_CMD_LAT_MAX.VALUE (max (s.rd HOST_CMD_LAT_MAX.VALUE) ((s.grid.now - s.host.frontAt) / 250))

/-- The commands that write MRAM before they are answered: those of custody, EVT_CLEAR and RESTART (R481, R545, R548, R594). While such
writes are withheld (R643) they wait (DESIGN CHOICE, log entry 117). -/
def mramOps : List Nat := [0x0103, 0x0601, 0x0602, 0x0603, 0x0604, 0x0605, 0x0802]

/-- The command of an opcode waits for MRAM writes to begin again. -/
def State.mramWait (s : State) (op : Nat) : Bool := s.writesHeld && mramOps.contains op

/-- Interpret waiting packets in ring order, as long as B1 takes their replies (R584). -/
def State.interpretAll (s : State) (cmds : Nat → State → Bool → Packet → CmdRes) : Nat → State
  | 0 => s
  | n + 1 =>
    if s.host.resync.isSome ∨ !s.canReply then s else
    match s.host.waiting with
    | w :: r => if s.mramWait w.op then s else
      ((s.latency.modHost fun h => { h with waiting := r, frontAt := s.grid.now }).interpretWith (cmds w.op) w).interpretAll cmds n
    | [] => if s.unframed then s.resyncNow else s

/-- The packets of the command berth that can be interpreted now are. -/
def State.serve (s : State) (cmds : Nat → State → Bool → Packet → CmdRes) : State := s.payResync.interpretAll cmds 8192

/-- B0 is empty and nothing is owed: the next packet is interpreted at once. -/
def State.idleBerth (s : State) : Bool :=
  s.host.waiting.isEmpty && s.host.resync.isNone && s.host.partialAt.isNone && s.content 0 == 0 && s.canReply

end Sys2Proof.Machine
end

