-- ==== Sys2Proof/Machine/RegAux.lean ====
section
/-! DEFINITION. The register fields of spec file 03_housekeeping_converters.md: address, array shape, bit place, access code, reset value
and (for a settings field) the range R697 binds. -/
namespace Sys2Proof.Machine.Reg
open Field

/-- Bit m: converter m scanning -/
def AUX_STATUS.SCAN : Field := mk' 0x30000 0 2 .RO 0
/-- Bit 2 + m: converter m calibrating -/
def AUX_STATUS.CAL : Field := mk' 0x30000 2 2 .RO 0
/-- Bit 4 + m: converter m under BIST -/
def AUX_STATUS.BIST : Field := mk' 0x30000 4 2 .RO 0
/-- R142 -/
def AUX_STATUS.XCHK_FAIL : Field := mk' 0x30000 6 1 .RO 0
/-- 0 none, 1 AUX0, 2 AUX1, 3 undetermined -/
def AUX_STATUS.XCHK_BLAME : Field := mk' 0x30000 7 2 .RO 0
/-- R123 -/
def AUX_STATUS.UNCAL0 : Field := mk' 0x30000 9 1 .RO 1
/-- R123 -/
def AUX_STATUS.UNCAL1 : Field := mk' 0x30000 10 1 .RO 1
/-- R146 -/
def AUX_STATUS.CALFAIL0 : Field := mk' 0x30000 11 1 .RO 0
/-- R146 -/
def AUX_STATUS.CALFAIL1 : Field := mk' 0x30000 12 1 .RO 0
/-- Cross-check enabled -/
def AUX_XCHK_CFG.EN : Field := mk' 0x30004 0 1 .RW 1
/-- 0 internal 1.250 V, 1 pad AUX0_IN23 -/
def AUX_XCHK_CFG.SRC : Field := mk' 0x30004 1 1 .RW 0
/-- ms, 1 to 255; 0 is treated as 1 -/
def AUX_XCHK_CFG.PERIOD : Field := mk' 0x30004 8 8 .RW 10
/-- LSB -/
def AUX_XCHK_CFG.TOL : Field := mk' 0x30004 16 12 .RW 40
/-- Consecutive failures, 1 to 15; 0 is treated as 1 -/
def AUX_XCHK_CFG.N : Field := mk' 0x30004 28 4 .RW 3
/-- 0x008. Absolute limit, LSB. Bits [31:12] are reserved -/
def AUX_XCHK_ABS.VALUE : Field := mk' 0x30008 0 12 .RW 160
/-- 0x00C. Failing checks -/
def AUX_XCHK_CNT.VALUE : Field := mk' 0x3000C 0 32 .RC 0
/-- 0x010. Last check: D0 in [15:0], D1 in [31:16] -/
def AUX_XCHK_LAST.VALUE : Field := mk' 0x30010 0 32 .RO 0
/-- 0 none, 1 timer, 2 tick, 3 pulse width -/
def AUX_TRG_CFG.SRC : Field := mkArr 0x30104 256 2 0 1 0 2 .RW 0
/-- 0 high pulse, 1 low pulse on TRIG_IN -/
def AUX_TRG_CFG.POL : Field := mkArr 0x30104 256 2 0 1 2 1 .RW 0
/-- Scan running -/
def AUX_SCAN_STATUS.BUSY : Field := mkArr 0x30118 256 2 0 1 0 1 .RO 0
/-- Last scan cut short (R131) -/
def AUX_SCAN_STATUS.ABORT : Field := mkArr 0x30118 256 2 0 1 1 1 .RO 0
/-- Trigger waiting out its delay -/
def AUX_SCAN_STATUS.PEND : Field := mkArr 0x30118 256 2 0 1 2 1 .RO 0
/-- Injected latch holds a request -/
def AUX_SCAN_STATUS.INJ_FULL : Field := mkArr 0x30118 256 2 0 1 3 1 .RO 0
/-- +0x00. Bit k selects input k. Bits [31:24] are reserved -/
def AUX_SCAN_MASK.MASK : Field := mkArr 0x30100 256 2 0 1 0 24 .RW 0
/-- +0x08. Delay in 4 ns units. Bits [31:20] are reserved -/
def AUX_TRG_DELAY.VALUE : Field := mkArr 0x30108 256 2 0 1 0 20 .RW 0
/-- +0x0C. Timer period in µs, 1 to 65,535. Bits [31:16] are reserved -/
def AUX_TRG_PERIOD.VALUE : Field := mkArr 0x3010C 256 2 0 1 0 16 .RW 1000
/-- +0x10. M in [15:0], 1 to 65,535; PHASE in [31:16], below M -/
def AUX_TRG_TICK.VALUE : Field := mkArr 0x30110 256 2 0 1 0 32 .RW 1
/-- +0x14. MIN in [15:0], MAX in [31:16], µs -/
def AUX_TRG_PW.VALUE : Field := mkArr 0x30114 256 2 0 1 0 32 .RW 0xffff0001
/-- +0x1C. R130, bits [31:0]; a read latches HI -/
def AUX_SCAN_TS_LO.VALUE : Field := mkArr 0x3011C 256 2 0 1 0 32 .RO 0
/-- +0x20. Bits [63:32] -/
def AUX_SCAN_TS_HI.VALUE : Field := mkArr 0x30120 256 2 0 1 0 32 .RO 0
/-- +0x24. R127 -/
def AUX_TRG_OVERLAP.VALUE : Field := mkArr 0x30124 256 2 0 1 0 32 .RC 0
/-- +0x28. R149 -/
def AUX_TRG_BLOCK.VALUE : Field := mkArr 0x30128 256 2 0 1 0 32 .RC 0
/-- +0x2C. Rejected pulses (R125) -/
def AUX_TRG_PWREJ.VALUE : Field := mkArr 0x3012C 256 2 0 1 0 32 .RC 0
/-- +0x30. Completed scans; wraps -/
def AUX_SCAN_CNT.VALUE : Field := mkArr 0x30130 256 2 0 1 0 32 .RO 0
/-- +0x34. Input in [4:0]; bit 31 = 1 requests. Other bits 0 -/
def AUX_INJ_REQ.VALUE : Field := mkArr 0x30134 256 2 0 1 0 32 .WO 0
/-- +0x3C. R134, bits [31:0]; a read latches HI -/
def AUX_INJ_TS_LO.VALUE : Field := mkArr 0x3013C 256 2 0 1 0 32 .RO 0
/-- +0x40. Bits [63:32] -/
def AUX_INJ_TS_HI.VALUE : Field := mkArr 0x30140 256 2 0 1 0 32 .RO 0
/-- +0x44. All dropped injected requests -/
def AUX_INJ_DROP.VALUE : Field := mkArr 0x30144 256 2 0 1 0 32 .RC 0
/-- +0x48. Reason FULL -/
def AUX_INJ_DROP_FULL.VALUE : Field := mkArr 0x30148 256 2 0 1 0 32 .RC 0
/-- +0x4C. Reason CAL -/
def AUX_INJ_DROP_CAL.VALUE : Field := mkArr 0x3014C 256 2 0 1 0 32 .RC 0
/-- +0x50. Reason BIST -/
def AUX_INJ_DROP_BIST.VALUE : Field := mkArr 0x30150 256 2 0 1 0 32 .RC 0
/-- +0x54. O_cal, LSB, two's complement. Bits [31:16] are reserved -/
def AUX_CAL_OFS.VALUE : Field := mkArr 0x30154 256 2 0 1 0 16 .RO 0
/-- +0x58. G_cal, Q2.22. Bits [31:24] are reserved -/
def AUX_CAL_GAIN.VALUE : Field := mkArr 0x30158 256 2 0 1 0 24 .RO 0x400000
/-- Corrected code -/
def AUX_RESULT.DATA : Field := mkArr 0x30800 128 2 4 24 0 16 .RO 0
/-- New since the last host read -/
def AUX_RESULT.VALID : Field := mkArr 0x30800 128 2 4 24 16 1 .RC 0
/-- Set on a read that finds VALID = 0 -/
def AUX_RESULT.DUP : Field := mkArr 0x30800 128 2 4 24 17 1 .RO 1
/-- An unread result was overwritten -/
def AUX_RESULT.OVR : Field := mkArr 0x30800 128 2 4 24 18 1 .RC 0
/-- Cross-check failing at conversion -/
def AUX_RESULT.XQ : Field := mkArr 0x30800 128 2 4 24 19 1 .RO 0
/-- Slot in its scan (R130). In `AUX_INJ_RESULT`, [28:24] hold the input and [29] is reserved -/
def AUX_RESULT.SLOT : Field := mkArr 0x30800 128 2 4 24 24 6 .RO 0
/-- O_user, LSB, two's complement, ±2,048 -/
def AUX_IN_TRIM.OFS : Field := mkArr 0x30900 128 2 4 16 0 16 .SP 0 |>.srange (-2048) 2048
/-- G_user, Q1.15, 0x7999 to 0x8666 (0.95 to 1.05); outside is rejected at staging -/
def AUX_IN_TRIM.GAIN : Field := mkArr 0x30900 128 2 4 16 16 16 .SP 32768 |>.range 31129 34406
/-- Low limit; 0x0000 disables -/
def AUX_LIM.LO : Field := mkArr 0x30A00 128 2 4 24 0 16 .RW 0
/-- High limit; 0xFFFF disables -/
def AUX_LIM.HI : Field := mkArr 0x30A00 128 2 4 24 16 16 .RW 65535
/-- Corrected code -/
def AUX_INJ_RESULT.DATA : Field := mkArr 0x30138 256 2 0 1 0 16 .RO 0
/-- New since the last host read -/
def AUX_INJ_RESULT.VALID : Field := mkArr 0x30138 256 2 0 1 16 1 .RC 0
/-- Set on a read that finds VALID = 0 -/
def AUX_INJ_RESULT.DUP : Field := mkArr 0x30138 256 2 0 1 17 1 .RO 1
/-- An unread result was overwritten -/
def AUX_INJ_RESULT.OVR : Field := mkArr 0x30138 256 2 0 1 18 1 .RC 0
/-- Cross-check failing at conversion -/
def AUX_INJ_RESULT.XQ : Field := mkArr 0x30138 256 2 0 1 19 1 .RO 0
/-- Slot in its scan (R130). In `AUX_INJ_RESULT`, [28:24] hold the input and [29] is reserved -/
def AUX_INJ_RESULT.SLOT : Field := mkArr 0x30138 256 2 0 1 24 6 .RO 0

/-- Register fields of this file, part 0. -/
def fieldsAux0 : List Field := [
  AUX_STATUS.SCAN,
  AUX_STATUS.CAL,
  AUX_STATUS.BIST,
  AUX_STATUS.XCHK_FAIL,
  AUX_STATUS.XCHK_BLAME,
  AUX_STATUS.UNCAL0,
  AUX_STATUS.UNCAL1,
  AUX_STATUS.CALFAIL0,
  AUX_STATUS.CALFAIL1,
  AUX_XCHK_CFG.EN,
  AUX_XCHK_CFG.SRC,
  AUX_XCHK_CFG.PERIOD,
  AUX_XCHK_CFG.TOL,
  AUX_XCHK_CFG.N,
  AUX_XCHK_ABS.VALUE,
  AUX_XCHK_CNT.VALUE,
  AUX_XCHK_LAST.VALUE,
  AUX_TRG_CFG.SRC,
  AUX_TRG_CFG.POL,
  AUX_SCAN_STATUS.BUSY,
  AUX_SCAN_STATUS.ABORT,
  AUX_SCAN_STATUS.PEND,
  AUX_SCAN_STATUS.INJ_FULL,
  AUX_SCAN_MASK.MASK,
  AUX_TRG_DELAY.VALUE,
  AUX_TRG_PERIOD.VALUE,
  AUX_TRG_TICK.VALUE,
  AUX_TRG_PW.VALUE,
  AUX_SCAN_TS_LO.VALUE,
  AUX_SCAN_TS_HI.VALUE,
  AUX_TRG_OVERLAP.VALUE,
  AUX_TRG_BLOCK.VALUE,
  AUX_TRG_PWREJ.VALUE,
  AUX_SCAN_CNT.VALUE,
  AUX_INJ_REQ.VALUE,
  AUX_INJ_TS_LO.VALUE,
  AUX_INJ_TS_HI.VALUE,
  AUX_INJ_DROP.VALUE,
  AUX_INJ_DROP_FULL.VALUE,
  AUX_INJ_DROP_CAL.VALUE,
  AUX_INJ_DROP_BIST.VALUE,
  AUX_CAL_OFS.VALUE,
  AUX_CAL_GAIN.VALUE,
  AUX_RESULT.DATA,
  AUX_RESULT.VALID,
  AUX_RESULT.DUP,
  AUX_RESULT.OVR,
  AUX_RESULT.XQ,
  AUX_RESULT.SLOT,
  AUX_IN_TRIM.OFS,
  AUX_IN_TRIM.GAIN,
  AUX_LIM.LO,
  AUX_LIM.HI,
  AUX_INJ_RESULT.DATA,
  AUX_INJ_RESULT.VALID,
  AUX_INJ_RESULT.DUP,
  AUX_INJ_RESULT.OVR,
  AUX_INJ_RESULT.XQ,
  AUX_INJ_RESULT.SLOT]

/-- Every register field that 03_housekeeping_converters.md gives. -/
def fieldsAux : List Field := fieldsAux0

end Sys2Proof.Machine.Reg
end

