-- ==== Sys2Proof/Machine/Afe.lean ====
section
/-! DEFINITION. The analog front end's commands and events (R58 to R116). -/
namespace Sys2Proof.Machine
open Reg

/-- Maintenance mode is in force. -/
def State.maint (s : State) : Bool := s.rd HOST_STATUS.MAINT == 1
/-- The role of the unit (R490). -/
def State.role (s : State) : Nat := s.rd PAIR_STATUS.ROLE

/-- A channel of the list is mapped to an enabled bay (R102). -/
def State.inBay (s : State) (chs : List Nat) : Bool :=
  s.pwr.prot && (List.range 64).any fun b => s.bank.fld BAY_CFG.EN b == 1 && (s.bank.chans b).any fun g => chs.contains g

/-- The channels are in protection service, so that a disturbing operation is refused (R102). -/
def State.inService (s : State) (chs : List Nat) : Bool :=
  if s.role = 3 then true
  else (s.role == 4 || (s.role == 0 && s.pwr.prot)) && !s.maint && s.inBay chs

/-- The channels of the groups in a mask. -/
def groupChans (m : Nat) : List Nat := (List.range 64).filter fun c => m.testBit (c / 16)

/-- The instant of the next tick, or now when the grid does not run. -/
def State.nextTickTime (s : State) : Nat :=
  if s.rd GRID_STATUS.RUN = 1 then s.grid.nextT / 2 ^ 24 else s.grid.now

/-! ### SELFCAL (R94 to R103) -/

/-- A SELFCAL begins for the groups and converters of two masks (R95, R103, R145). -/
def State.startCal (s : State) (groups aux : Nat) : State :=
  let r : CalRun :=
    { groups := maskIdx 4 groups, aux := aux, auxStart := none, auxRun := aux, cur := none, ready := s.grid.now,
      pass := 0, fail := 0, badVafe := false }
  let s := s.modAfe fun a => { a with cal := some r }
  s.wr AFE_STATUS.CAL_BUSY 1

/-- SELFCAL (R94, R95, R102, R103). -/
def cmdSelfcal (s : State) (_q : Bool) (p : Packet) : CmdRes :=
  let w := p.word 0
  let groups := w % 16
  let aux := w / 16 % 4
  if p.len ≠ 4 then s.badLength
  else if p.target.toNat ≠ 0 ∨ 64 ≤ w ∨ (groups = 0 ∧ aux = 0) then s.badTarget 0
  else if s.inService (groupChans groups) then s.busy 1
  else if s.afe.cal.isSome then s.busy 2
  else if s.afe.diag.isSome ∨ s.afe.skew.isSome then s.busy 3
  else if s.rd AFE_STATUS.GRP_BIST &&& groups ≠ 0 ∨ s.rd AUX_STATUS.BIST &&& aux ≠ 0 then s.answer .busySelftest
  else ({ s with pwr := { s.pwr with selfcalSeen := true } }.startCal groups aux).accepted

/-- The instant of the first tick after device time `t`: of a tick that has been, or of one to come, by the present period. -/
def State.firstTickAfter (s : State) (t : Nat) : Nat :=
  match s.grid.hist.reverse.find? fun r => decide (t * 2 ^ 24 < r.t) with
  | some r => r.t / 2 ^ 24
  | none =>
    if s.rd GRID_STATUS.RUN = 1 ∧ s.grid.nextT ≤ t * 2 ^ 24 then (s.grid.nextT + s.grid.per) / 2 ^ 24 else s.nextTickTime

/-- The channels of a group. -/
def groupList (g : Nat) : List Nat := (List.range 16).map (16 * g + ·)

/-- A procedure takes channel `c` from its pads from device time `t` on, for `len` units: its splice restarts at both ends (R73, R103), and
its checks wait for its settling after the end (R103). -/
def State.procedure (s : State) (c t len : Nat) : State :=
  let s := (s.spliceRestartAt c (t * 2 ^ 32) true).spliceRestartAt c ((t + len) * 2 ^ 32)
  s.setChan c { s.chan c with valFrom := (t + len) * 2 ^ 32 + s.settleSpan c }

/-- Words of channel `c` carry a flag from device time `lo` to `hi`. -/
def State.flagBetween (s : State) (c flag lo hi : Nat) : State := s.flagFrom c flag (lo * 2 ^ 32) (some (hi * 2 ^ 32))

/-- Channel `c` is calibrated from device time `t0` on: its modulators are reset at the start, at 11 ms when the pads' row of the timeline
comes, and at the end (R73, R97). Its words carry SETTLING for the 12 ms (R101), and SELFTEST while the test DAC drives it, from 9 to 11 ms
(R97, R108). -/
def State.calChan (s : State) (c t0 : Nat) : State :=
  let s := (s.procedure c t0 3000000).spliceRestartAt c ((t0 + 2750000) * 2 ^ 32)
  let s := s.setChan c { s.chan c with calAt := some (t0 * 2 ^ 32) }
  (s.flagBetween c bSETTLING t0 (t0 + 3000000)).flagBetween c bSELFTEST (t0 + 2250000) (t0 + 2750000)

/-- The next group of a running SELFCAL begins: the first at the first tick after acceptance, each other where the group before it
ends, so that four groups take 48.0 ms (R95, R97, R103). -/
def State.calGroupStart (s : State) : State :=
  match s.afe.cal with
  | some r =>
    match r.cur, r.groups with
    | none, g :: rest =>
      let t0 := if r.pass ≠ 0 ∨ r.fail ≠ 0 then r.ready else s.firstTickAfter r.ready
      let s := s.atTime t0
      let bad := s.rd PWR_STATUS.VAFE_LOW == 1 || s.rd PWR_STATUS.VAFE_LOST == 1
      let r := { r with cur := some (g, t0), groups := rest, badVafe := bad }
      let s := s.modAfe fun a => { a with cal := some r }
      let s := (s.wr AFE_STATUS.CAL_GRP g).wr AFE_TDAC_CTRL.RUN 0
      forL (groupList g) (fun c s => s.calChan c t0) s
    | _, _ => s
  | none => s

/-- One unit of Q2.22. -/
def q22One : Nat := 2 ^ 22

/-- G_cal: the nominal span over the measured span, rounded to Q2.22 (R98). -/
def gCal (nominal measured : Nat) : Nat := if measured = 0 then 2 ^ 24 - 1 else (2 * nominal * q22One + measured) / (2 * measured)

/-- Whether what was measured of a channel fails self-calibration (R99). -/
def calBad (m : CalMeas) : Bool :=
  let gBad := fun g => decide (q22One < 100 * ((g : Int) - q22One).natAbs)
  gBad (gCal 5242880 m.spanA) || gBad (gCal 163840 m.spanB32) || gBad (gCal 5242880 m.spanB1)
  || decide (10486 < m.ofsA.natAbs) || decide (10486 < m.ofsB1.natAbs) || decide (320 < m.ofsB32.natAbs)
  || decide (256 < m.fdly.natAbs)

/-- The registers by which the results of a self-calibration act on a channel's words (R65, R68, R99). -/
def calRegs : List Field :=
  [AFE_CH_CAL_OFS_A.VALUE, AFE_CH_CAL_GAIN_A.VALUE, AFE_CH_CAL_OFS_B32.VALUE, AFE_CH_CAL_GAIN_B32.VALUE, AFE_CH_CAL_OFS_B1.VALUE,
    AFE_CH_CAL_GAIN_B1.VALUE, AFE_CH_CAL_FDLY.VALUE, AFE_CH_STATUS.UNCAL, AFE_CH_STATUS.CAL_FAIL]

/-- Commit the results of one channel of a calibrated group (R99, R100). -/
def State.calCommit (s : State) (c : Nat) (m : CalMeas) (bad : Bool) : State :=
  if bad || calBad m then (s.wr AFE_CH_STATUS.CAL_FAIL 1 c).logEv 0x1002 c 0
  else
    let s := (s.wrI AFE_CH_CAL_OFS_A.VALUE m.ofsA c).wr AFE_CH_CAL_GAIN_A.VALUE (gCal 5242880 m.spanA) c
    let s := (s.wrI AFE_CH_CAL_OFS_B32.VALUE m.ofsB32 c).wr AFE_CH_CAL_GAIN_B32.VALUE (gCal 163840 m.spanB32) c
    let s := (s.wrI AFE_CH_CAL_OFS_B1.VALUE m.ofsB1 c).wr AFE_CH_CAL_GAIN_B1.VALUE (gCal 5242880 m.spanB1) c
    (s.wrI AFE_CH_CAL_FDLY.VALUE m.fdly c).wr AFE_CH_STATUS.CAL_FAIL 0 c

/-- A step of start-up ends now (R657): its time is recorded and the next step begins. -/
def State.stepEnd (s : State) (step : Nat) : State :=
  (s.wr PWR_STEP_TIME.VALUE (s.pwr.gridUs + (s.grid.now - s.pwr.gridStart) / 250) (step - 1)).wr PWR_START.STEP (step + 1)

/-- Step 7 of start-up ends with the SELFCAL (R660). -/
def State.calStepEnd (s : State) : State := (s.modPwr fun p => { p with phase := .settings }).stepEnd 7

/-- The end of a SELFCAL, once every group and converter has finished (R96). -/
def State.calFinish (s : State) : State :=
  match s.afe.cal with
  | some r =>
    if r.cur.isNone && r.groups.isEmpty && r.auxRun == 0 then
      let s := ((s.modAfe fun a => { a with cal := none }).wr AFE_STATUS.CAL_BUSY 0).logEv 0x1001 0
        (r.pass + 16 * r.fail + 256 * r.auxPass + 1024 * r.auxFail)
      if s.pwr.phase = .calibrating then s.calStepEnd else s
    else s
  | none => s

/-- A forced-wide channel returns to normal splicing at device time `t` (R86). -/
def State.unforce (s : State) (c t : Nat) : State :=
  if s.rd AFE_CH_STATUS.FORCED_WIDE c = 1 then
    (s.holdFrom c (t * 2 ^ 32) [AFE_CH_STATUS.FORCED_WIDE] true).wr AFE_CH_STATUS.FORCED_WIDE 0 c
  else s

/-- The group in hand has been calibrated for 12 ms: its results are committed together (R97 to R101), and each channel's words take them as
its own time comes to that instant. -/
def State.calGroupDone (s : State) (ms : List CalMeas) : State :=
  match s.afe.cal with
  | some r =>
    match r.cur with
    | some (g, t0) =>
      let s := s.atTime (t0 + 3000000)
      let chs := groupList g
      let bad := r.badVafe
      let measOf := fun i => ms.getD i {}
      let anyBad := bad || (List.range 16).any fun i => calBad (measOf i)
      let s := forL chs (fun c s => s.holdFrom c (s.grid.now * 2 ^ 32) calRegs) s
      let s := forL (List.range 16) (fun i s => s.calCommit (16 * g + i) (measOf i) bad) s
      let s := s.bump AFE_CAL_CNT.VALUE
      let s := if anyBad then s.bump AFE_CAL_FAIL_CNT.VALUE else
        let s := s.wr AFE_STATUS.CAL_DONE (s.rd AFE_STATUS.CAL_DONE ||| 2 ^ g)
        forL chs (fun c s => (s.wr AFE_CH_STATUS.UNCAL 0 c).unforce c s.grid.now) s
      let pass := if anyBad then r.pass else r.pass ||| 2 ^ g
      let fail := if anyBad then r.fail ||| 2 ^ g else r.fail
      let r := { r with cur := none, ready := t0 + 3000000, pass := pass, fail := fail }
      let s := s.modAfe fun a => { a with cal := some r }
      s.calFinish
    | none => s
  | none => s

/-! ### Path diagnosis and skew calibration (R106 to R114) -/

/-- A procedure is running that excludes another of its kind (R103). -/
def State.procBusy (s : State) (chs : List Nat) : Option (State → CmdRes) :=
  if s.inService chs then some (·.busy 1)
  else if s.afe.cal.isSome then some (·.busy 2)
  else if s.afe.diag.isSome ∨ s.afe.skew.isSome then some (·.busy 3)
  else if chs.any fun c => (s.rd AFE_STATUS.GRP_BIST).testBit (c / 16) then some (·.answer .busySelftest)
  else none

/-- AFE_DIAG (R110). The diagnosis begins at acceptance: R110 names no start instant. RUN is cleared with it, since the procedure owns the
test DAC, as R103 states it for a SELFCAL (DESIGN CHOICE, log entry 97). -/
def cmdAfeDiag (s : State) (_q : Bool) (p : Packet) : CmdRes :=
  let c := p.target.toNat
  if p.len ≠ 0 then s.badLength
  else if 64 ≤ c then s.badTarget 0
  else match s.procBusy [c] with
    | some f => f s
    | none =>
      let t := s.grid.now
      let s := s.modAfe fun a => { a with diag := some (c, t) }
      let s := (s.procedure c t 2500000).flagBetween c bSELFTEST t (t + 2500000)
      ((s.wr AFE_STATUS.DIAG_BUSY 1).wr AFE_TDAC_CTRL.RUN 0).accepted

/-- The modulator A breaks a limit of the diagnosis (R110, R111). -/
def diagBadA (m : DiagMeas) : Bool :=
  decide (300 < m.ofsA.natAbs) || decide (25 < m.noiseA) || decide (2000 < m.gainA25.natAbs) || decide (2000 < m.gainA1.natAbs)
/-- The modulator B breaks a limit of the diagnosis (R110, R111). -/
def diagBadB (m : DiagMeas) : Bool :=
  decide (300 < m.ofsB1.natAbs) || decide (20 < m.ofsB32.natAbs) || decide (25 < m.noiseB1) || decide (2 < m.noiseB32)
  || decide (2000 < m.gainB32.natAbs) || decide (2000 < m.gainB1.natAbs)

/-- The error of larger magnitude. -/
def worst (a b : Int) : Int := if a.natAbs < b.natAbs then b else a

/-- The path diagnosis ends after 10 ms (R86, R110, R111). A forced-wide channel whose B is faulty and whose A is good works as WIDE_ONLY
from then on: its overlap is validated no more. -/
def State.diagDone (s : State) (m : DiagMeas) : State :=
  match s.afe.diag with
  | none => s
  | some (c, t0) =>
    let s := s.atTime (t0 + 2500000)
    let a := diagBadA m
    let b := diagBadB m
    let v := b2n a + 2 * b2n b
    let s := (s.modAfe fun a => { a with diag := none }).wr AFE_STATUS.DIAG_BUSY 0
    let s := (s.wr AFE_DIAG_RES.CH c).wr AFE_DIAG_RES.VERDICT v
    let s := (s.wr AFE_DIAG_RES.DONE 1).wr AFE_CH_STATUS.DIAG (v + 1) c
    let s := (s.wrI AFE_DIAG_AERR.VALUE (worst m.gainA25 m.gainA1)).wrI AFE_DIAG_BERR.VALUE (worst m.gainB32 m.gainB1)
    let s := if !a && !b then s.unforce c s.grid.now
      else if s.rd AFE_CH_STATUS.FORCED_WIDE c = 1 then
        if a then s.setChan c { s.chan c with wideOnly := false } else s.holdFrom c (s.grid.now * 2 ^ 32) [] false true
      else s
    s.logEv 0x1007 0 v

/-- AFE_SKEWCAL (R112). The calibration begins at acceptance, and RUN is cleared with it, as for a diagnosis (DESIGN CHOICE, log entry 97). -/
def cmdAfeSkewcal (s : State) (_q : Bool) (p : Packet) : CmdRes :=
  let m := p.word 0 + 2 ^ 32 * p.word 1
  if p.len ≠ 8 then s.badLength
  else if p.target.toNat ≠ 0 ∨ m = 0 then s.badTarget 0
  else match s.procBusy (maskIdx 64 m) with
    | some f => f s
    | none =>
      let t := s.grid.now
      let s := s.modAfe fun a => { a with skew := some (m, t) }
      let s := forL (maskIdx 64 m) (fun c s => (s.procedure c t 6000000).flagBetween c bSELFTEST t (t + 6000000)) s
      ((s.wr AFE_STATUS.SKEW_BUSY 1).wr AFE_TDAC_CTRL.RUN 0).accepted

/-- The skews of all channels are written together to MRAM, over the older copy (R114); while writes are withheld the write is owed (R643). -/
def State.storeSkew (s : State) : State :=
  if s.writesHeld then s.modPwr fun p => { p with owedSkew := true } else
  let all : Tab Int := (List.range 64).map fun c => (c, s.rdI AFE_CH_CAL_SKEW.VALUE c)
  s.modAfeNv fun n => { n with skew := n.skew.put all }

/-- Skew calibration ends after 24 ms: S_cal is the measured delay less the design D_chain and the delay of the test bus
to the channel; all results are written together, over the older copy in MRAM (R112 to R114). `meas` gives the measured delay of each
channel. R113 names no frequency for the design D_chain of a minimum-phase bank: it is that applied when the calibration ends (DESIGN CHOICE,
log entry 97). -/
def State.skewDone (s : State) (meas : List (Nat × Int)) : State :=
  match s.afe.skew with
  | none => s
  | some (m, t0) =>
    let s := s.atTime (t0 + 6000000)
    let s := forL (maskIdx 64 m) (fun c s =>
      let d := (tfind meas c).getD 0
      s.wrI AFE_CH_CAL_SKEW.VALUE (d - s.dChainOf c (s.activeBank c) - s.rdI ID_AFE_TBUS.VALUE c) c) s
    let s := s.storeSkew
    ((s.modAfe fun a => { a with skew := none }).wr AFE_STATUS.SKEW_BUSY 0).logEv 0x1008 0 0

/-! ### Host writes of the block (R106 to R109) -/

/-- A procedure owns the test DAC, so that host writes are ignored (R107). A SELFCAL owns it from its acceptance on, also while the host's
waveform goes on until the first group starts (R103), and one of converters alone too (DESIGN CHOICE, log entry 97). -/
def State.tdacOwned (s : State) : Bool := s.afe.cal.isSome || s.afe.diag.isSome || s.afe.skew.isSome

/-- A host write of AFE_TDAC_CTRL (R106, R107). A RATE of 0 is not among the values the register states; the field keeps
its value then (DESIGN CHOICE, log entry 23). The table starts at point 0 at every write: R106 does not say when it starts (DESIGN CHOICE,
log entry 98). -/
def State.tdacCtrl (s : State) (w : Nat) : State :=
  if s.tdacOwned then s else
  let s := ((s.wr AFE_TDAC_CTRL.DEST w).wr AFE_TDAC_CTRL.WAVE (w / 4)).wr AFE_TDAC_CTRL.RUN (w / 8)
  let s := (s.wr AFE_TDAC_CTRL.ATT (w / 16)).wr AFE_TDAC_CTRL.LEN (w / 32)
  let s := s.modAfe fun a => { a with dacAt := s.grid.now }
  if w / 65536 % 65536 = 0 then s else s.wr AFE_TDAC_CTRL.RATE (w / 65536)

/-- A host write of AFE_TESTMARK_LO or _HI (R109). -/
def State.testmarkWrite (s : State) (hi : Bool) (w : Nat) : State :=
  if !s.maint then s else if hi then s.wr AFE_TESTMARK_HI.MASK w else s.wr AFE_TESTMARK_LO.MASK w

end Sys2Proof.Machine
end

