-- ==== Sys2Proof/Machine/AuxConv.lean ====
section
/-! DEFINITION. The housekeeping converters AUX0 and AUX1 (R117 to R151). -/
namespace Sys2Proof.Machine
open Reg

/-- Converter `m`. -/
def State.conv (s : State) (m : Nat) : AuxConv := tget {} s.aux.conv m
/-- Converter `m` passed through a function, with its status register (AUX_SCAN_STATUS, AUX_STATUS.SCAN). -/
def State.modConv (s : State) (m : Nat) (f : AuxConv → AuxConv) : State :=
  let k := f (s.conv m)
  let s := s.modAux fun a => { a with conv := tset a.conv m k }
  let sc := s.rd AUX_STATUS.SCAN
  let s := s.wr AUX_STATUS.SCAN (if k.scan.isSome then sc ||| 2 ^ m else andNot sc (2 ^ m))
  ((s.wr AUX_SCAN_STATUS.BUSY (b2n k.scan.isSome) m).wr AUX_SCAN_STATUS.PEND (b2n k.wait.isSome) m).wr
    AUX_SCAN_STATUS.INJ_FULL (b2n k.inj.isSome) m

/-- Converter `m` is under calibration. -/
def State.auxCal (s : State) (m : Nat) : Bool := (s.rd AUX_STATUS.CAL).testBit m
/-- Converter `m` is under BIST. -/
def State.auxBist (s : State) (m : Nat) : Bool := (s.rd AUX_STATUS.BIST).testBit m
/-- Converter `m` is under calibration or BIST. -/
def State.auxBlocked (s : State) (m : Nat) : Bool := s.auxCal m || s.auxBist m

/-! ### Correction (R122, R123) -/

/-- The corrected code of a raw code of input `k` (R122): G_eff is the exact product rounded to Q2.22. -/
def State.auxCode (s : State) (m k raw : Nat) : Nat :=
  let dfac := if 16 ≤ k ∧ k ≤ 22 then s.rd ID_AUX_DIV.VALUE m (k - 16) else q22One
  let guser := if k < 16 then s.rd AUX_IN_TRIM.GAIN m k else 32768
  let ouser : Int := if k < 16 then s.rdI AUX_IN_TRIM.OFS m k else 0
  let g : Nat := (s.rd ID_AUX_GAIN.VALUE m * s.rd AUX_CAL_GAIN.VALUE m * dfac * guser + 2 ^ 58) / 2 ^ 59
  let v : Int := (raw : Int) - s.rdI ID_AUX_OFS.VALUE m - s.rdI AUX_CAL_OFS.VALUE m
  let v : Int := (v * (g : Int) + 2 ^ 21) / 2 ^ 22 - ouser
  (clampI v 0 65535).toNat

/-! ### Triggers (R125 to R128, R149) -/

/-- A trigger of converter `m` fires at instant `t` (R126, R127, R149). -/
def State.auxFire (s : State) (m t : Nat) : State :=
  let k := s.conv m
  if s.auxBlocked m then s.bump AUX_TRG_BLOCK.VALUE m
  else if k.wait.isSome || k.scan.isSome then s.bump AUX_TRG_OVERLAP.VALUE m
  else s.modConv m fun k => { k with wait := some (t + s.rd AUX_TRG_DELAY.VALUE m) }

/-- The next firing of the timer trigger (R125). -/
def State.auxTimer (s : State) (m : Nat) : State :=
  let p := s.rd AUX_TRG_PERIOD.VALUE m * 250
  if s.rd AUX_TRG_CFG.SRC m ≠ 1 ∨ p = 0 then s else
  let t := (s.conv m).timer + p
  ((s.modConv m fun k => { k with timer := t }).atTime t).auxFire m t

/-- The tick trigger at the newest tick (R125). Of the instant t_n it is the first whole unit at or after it that counts: DELAY is whole and so
are slot boundaries (R126). -/
def State.auxTick (s : State) (m : Nat) : State :=
  match s.newest with
  | some r =>
    let w := s.rd AUX_TRG_TICK.VALUE m
    let mm := w % 65536
    if s.rd AUX_TRG_CFG.SRC m = 2 ∧ mm ≠ 0 ∧ r.n % mm = w / 65536 ∧ (s.conv m).tickDone ≠ some r.n then
      (s.modConv m fun k => { k with tickDone := some r.n }).auxFire m ((r.t + 2 ^ 24 - 1) / 2 ^ 24)
    else s
  | none => s

/-- The trailing edge, at instant `t`, of a pulse on TRIG_IN of the given polarity and width (R125). -/
def State.auxPulse (s : State) (m t width : Nat) (low : Bool) : State :=
  if s.rd AUX_TRG_CFG.SRC m ≠ 3 ∨ s.rd AUX_TRG_CFG.POL m ≠ b2n low then s else
  let s := s.atTime t
  let w := s.rd AUX_TRG_PW.VALUE m
  if w % 65536 * 250 ≤ width ∧ width ≤ w / 65536 * 250 then s.auxFire m t else s.bump AUX_TRG_PWREJ.VALUE m

/-- A host write of AUX_TRG_CFG (R125, R128). -/
def State.auxTrgCfg (s : State) (m w : Nat) : State :=
  let s := (s.wr AUX_TRG_CFG.SRC w m).wr AUX_TRG_CFG.POL (w / 4) m
  s.modConv m fun k => { k with wait := none, timer := s.grid.now }

/-- A device time rounded up to a slot boundary (R118). -/
def slotUp (t : Nat) : Nat := (t + 249) / 250 * 250

/-- A waiting trigger's delay expires: the scan starts at the next slot boundary (R124, R126). -/
def State.auxScanStart (s : State) (m : Nat) : State :=
  let k := s.conv m
  match k.wait with
  | some t =>
    let left := maskIdx 24 (s.rd AUX_SCAN_MASK.MASK m)
    let st := max (slotUp t) k.free
    if left.isEmpty then (s.modConv m fun k => { k with wait := none }).atTime st
    else (s.modConv m fun k => { k with wait := none, scan := some { left := left, first := none }, free := st }).atTime st
  | none => s

/-! ### Slots (R118, R129, R140) -/

/-- The multiple of the cross-check period that a slot starting at `t` would serve. -/
def State.xMult (s : State) (t : Nat) : Nat :=
  let p := max 1 (s.rd AUX_XCHK_CFG.PERIOD) * 250000
  t / p * p

/-- A cross-check is due for the slot that starts at `t` (R140, R143). -/
def State.xDue (s : State) (t : Nat) : Bool :=
  let x := s.xMult t
  s.rd AUX_XCHK_CFG.EN == 1 && !s.auxBlocked 0 && !s.auxBlocked 1 && s.aux.xAt.isNone
    && decide (s.aux.xLast < x) && decide (t < x + 1000)

/-- Give the slot at `t` of converter `m` to an inserted conversion. -/
def State.takeSlot (s : State) (m t : Nat) : State := s.modConv m fun k => { k with ins := (t :: k.ins).take 8 }

/-- Whether the slot at `t` may go to an inserted conversion (R129). -/
def AuxConv.insertable (k : AuxConv) (t : Nat) : Bool :=
  !k.ins.contains t && (k.scan.isNone || (!k.ins.contains (t - 250) && decide (k.free ≤ t)))

/-- Give the slot at `t`, which converter `m` comes to next, to an inserted conversion that is due in it (R129). -/
def State.insertDue (s : State) (m t : Nat) : State :=
  let k := s.conv m
  if !k.insertable t then s
  else if s.xDue t && (s.conv (1 - m)).insertable t then
    ((s.takeSlot 0 t).takeSlot 1 t).modAux fun a => { a with xAt := some t }
  else match k.inj, k.injAt with
    | some (_, l), none => if l ≤ t then (s.takeSlot m t).modConv m fun k => { k with injAt := some t } else s
    | _, _ => s

/-- The slot of the next scan conversion of converter `m`, inserted conversions having taken theirs (R129). -/
def State.scanSlot (s : State) (m : Nat) : State × Nat :=
  let t := (s.conv m).free
  let s := s.insertDue m t
  let u := if (s.conv m).ins.contains t then t + 250 else t
  (s, u)

/-- A slot at or after `t` for an inserted conversion of converter `m`, of the next few. -/
def State.freeSlot (s : State) (m t : Nat) : Option Nat :=
  [t, t + 250, t + 500, t + 750].find? fun u => (s.conv m).insertable u && !s.xDue u

/-! ### Results (R137, R144) -/

/-- Compare a scan result with its limits (R144): each result outside them is logged, and the return inside them by 64 LSB, for which R144
states neither source nor value, so that they are 0 (R473). -/
def State.auxLimit (s : State) (m k v : Nat) : State :=
  let lo := s.rd AUX_LIM.LO m k
  let hi := s.rd AUX_LIM.HI m k
  let out := decide (lo ≠ 0 ∧ v < lo) || decide (hi ≠ 65535 ∧ hi < v)
  let inside := (decide (lo = 0) || decide (lo + 64 ≤ v)) && (decide (hi = 65535) || decide (v + 64 ≤ hi))
  let was := (s.conv m).bad.contains k
  if out then (s.modConv m fun c => { c with bad := if was then c.bad else k :: c.bad }).logEv 0x1010 (m * 32 + k) v
  else if was && inside then (s.modConv m fun c => { c with bad := c.bad.filter (· != k) }).logEv 0x1011
  else s

/-- A scan conversion of converter `m` completes with a raw code (R124, R129 to R131, R137, R144). A scan that was cut short ends
with it and is not counted (R149). -/
def State.auxConversion (s : State) (m raw : Nat) : State :=
  match (s.conv m).scan with
  | some sc =>
    match sc.left with
    | k :: rest =>
      let r := s.scanSlot m
      let t := r.2
      let s := r.1.atTime (t + 250)
      let first := sc.first.getD t
      let v := s.auxCode m k raw
      let s := s.wr AUX_RESULT.OVR (s.rd AUX_RESULT.OVR m k ||| s.rd AUX_RESULT.VALID m k) m k
      let s := (s.wr AUX_RESULT.DATA v m k).wr AUX_RESULT.VALID 1 m k
      let s := (s.wr AUX_RESULT.XQ (s.rd AUX_STATUS.XCHK_FAIL) m k).wr AUX_RESULT.SLOT ((t - first) / 250) m k
      let s := s.wr AUX_RESULT.DUP 0 m k
      let s := s.auxLimit m k v
      if sc.cut then s.modConv m fun c => { c with scan := none, free := t + 250 }
      else if rest.isEmpty then
        let s := s.modConv m fun c => { c with scan := none, free := t + 250 }
        let s := s.wr64 AUX_SCAN_TS_LO.VALUE AUX_SCAN_TS_HI.VALUE first m
        (s.wr AUX_SCAN_CNT.VALUE (s.rd AUX_SCAN_CNT.VALUE m + 1) m).wr AUX_SCAN_STATUS.ABORT 0 m
      else s.modConv m fun c => { c with scan := some { left := rest, first := some first }, free := t + 250 }
    | [] => s
  | none => s

/-! ### Injected conversions (R132 to R136) -/

/-- Count a dropped injected request by its reason (R133). -/
def State.injDrop (s : State) (m reason : Nat) : State :=
  let s := s.bump AUX_INJ_DROP.VALUE m
  match reason with
  | 1 => s.bump AUX_INJ_DROP_FULL.VALUE m
  | 2 => s.bump AUX_INJ_DROP_CAL.VALUE m
  | _ => s.bump AUX_INJ_DROP_BIST.VALUE m

/-- The injected conversion of converter `m` that is in progress or comes next: its input and slot (R129, R134). -/
def State.injNext (s : State) (m : Nat) : Option (Nat × Nat) :=
  let c := s.conv m
  match c.injRun, c.inj with
  | some x, _ => some x
  | none, some (k, l) => (c.injAt.or (s.freeSlot m (slotUp (max l c.free)))).map fun t => (k, t)
  | none, none => none

/-- A slot given to the latched request of converter `m` that has started frees the latch (R134). -/
def State.injCatch (s : State) (m : Nat) : State :=
  match (s.conv m).injRun, s.injNext m with
  | none, some (k, t) =>
    if t ≤ s.grid.now then
      (if (s.conv m).injAt.isSome then s else s.takeSlot m t).modConv m fun c => { c with inj := none, injAt := none, injRun := some (k, t) }
    else s
  | _, _ => s

/-- Why a request to converter `m` is dropped now; 0 when it is latched (R132). Under calibration and BIST at once the reason is CAL: R132
ranks neither first (DESIGN CHOICE, log entry 37). -/
def State.injReason (s : State) (m : Nat) : Nat :=
  if s.auxCal m then 2 else if s.auxBist m then 3 else if ((s.injCatch m).conv m).inj.isSome then 1 else 0

/-- An injected request for input `k` of converter `m` (R132, R133). -/
def State.injRequest (s : State) (m k : Nat) : State :=
  match s.injReason m with
  | 0 => (s.injCatch m).modConv m fun c => { c with inj := some (k, s.grid.now) }
  | r => s.injDrop m r

/-- AUX_INJECT (R135, R136). -/
def cmdAuxInject (s : State) (_q : Bool) (p : Packet) : CmdRes :=
  let m := p.target.toNat
  let k := p.word 0
  if p.len ≠ 4 then s.badLength
  else if 1 < m ∨ 23 < k then s.badTarget 0
  else
    let r := s.injReason m
    (s.injRequest m k).ok [b2n (r == 0) + 16 * r]

/-- A host write of AUX_INJ_REQ (R132): bit 31 requests; an input above 23 does not exist and requests nothing
(DESIGN CHOICE, log entry 25). -/
def State.injWrite (s : State) (m w : Nat) : State :=
  if w.testBit 31 ∧ w % 32 ≤ 23 then s.injRequest m (w % 32) else s

/-- The injected conversion of converter `m` completes with a raw code (R129, R134, R137). -/
def State.auxInjConversion (s : State) (m raw : Nat) : State :=
  match s.injNext m with
  | some (k, t) =>
    let s := (s.atTime t).injCatch m
    let s := s.atTime (t + 250)
    let s := s.modConv m fun c => { c with injRun := none, free := if c.scan.isNone then max c.free (t + 250) else c.free }
    let s := s.wr AUX_INJ_RESULT.OVR (s.rd AUX_INJ_RESULT.OVR m ||| s.rd AUX_INJ_RESULT.VALID m) m
    let s := (s.wr AUX_INJ_RESULT.DATA (s.auxCode m k raw) m).wr AUX_INJ_RESULT.VALID 1 m
    let s := (s.wr AUX_INJ_RESULT.XQ (s.rd AUX_STATUS.XCHK_FAIL) m).wr AUX_INJ_RESULT.SLOT k m
    (s.wr AUX_INJ_RESULT.DUP 0 m).wr64 AUX_INJ_TS_LO.VALUE AUX_INJ_TS_HI.VALUE t m
  | none => s

/-! ### Cross-check (R140 to R143) -/

/-- The verdict of a cross-check of two corrected codes: whether it fails and which converter is blamed (R141). Where both break the absolute
limit the blame is 3, which the register calls undetermined (DESIGN CHOICE, log entry 37). -/
def State.xVerdict (s : State) (d0 d1 : Nat) : Bool × Nat :=
  let far := fun (d : Nat) => decide (s.rd AUX_XCHK_CFG.SRC = 0) && decide (s.rd AUX_XCHK_ABS.VALUE < ((d : Int) - 32768).natAbs)
  let b := b2n (far d0) + 2 * b2n (far d1)
  (decide (s.rd AUX_XCHK_CFG.TOL < ((d0 : Int) - d1).natAbs) || decide (b ≠ 0), if b = 0 then 3 else b)

/-- Apply a cross-check of two corrected codes (R141, R142). -/
def State.xApply (s : State) (d0 d1 : Nat) : State :=
  let s := s.wr AUX_XCHK_LAST.VALUE (d0 + 65536 * d1)
  let v := s.xVerdict d0 d1
  if v.1 then
    let s := s.bump AUX_XCHK_CNT.VALUE
    let s := s.modAux fun a => { a with xRun := a.xRun + 1 }
    if max 1 (s.rd AUX_XCHK_CFG.N) ≤ s.aux.xRun ∧ s.rd AUX_STATUS.XCHK_FAIL = 0 then
      ((s.wr AUX_STATUS.XCHK_FAIL 1).wr AUX_STATUS.XCHK_BLAME v.2).logEv 0x1012 0 ((d0 : Int) - d1).natAbs
    else s
  else
    let s := s.modAux fun a => { a with xRun := 0 }
    if s.rd AUX_STATUS.XCHK_FAIL = 1 then ((s.wr AUX_STATUS.XCHK_FAIL 0).wr AUX_STATUS.XCHK_BLAME 0).logEv 0x1013
    else s

/-- Cross-checks begin to be due with the first multiple of the period at or after the present (R140). -/
def State.xFrom (s : State) : State :=
  s.modAux fun a => { a with xLast := max a.xLast (s.xMult (s.grid.now - 1)) }

/-- A host write of AUX_XCHK_CFG: with EN or PERIOD changed, boundaries that have passed are due no longer (R140). -/
def State.xchkWrite (s : State) (w : Nat) : State :=
  let old := (s.rd AUX_XCHK_CFG.EN, s.rd AUX_XCHK_CFG.PERIOD)
  let s := forL [AUX_XCHK_CFG.EN, AUX_XCHK_CFG.SRC, AUX_XCHK_CFG.PERIOD, AUX_XCHK_CFG.TOL, AUX_XCHK_CFG.N] (fun f s => s.wr f (f.get w)) s
  if (s.rd AUX_XCHK_CFG.EN, s.rd AUX_XCHK_CFG.PERIOD) = old then s else s.xFrom

/-- The boundary of the next cross-check to make: the latest one passed, or the one to come (R140). -/
def State.xNext (s : State) : Nat :=
  let p := max 1 (s.rd AUX_XCHK_CFG.PERIOD) * 250000
  let x := s.xMult s.grid.now
  if s.aux.xLast < x then x else x + p

/-- A cross-check falls due (R140 to R143): both converters sample input 23 in a common slot; under calibration or BIST it
is skipped. `r0` and `r1` are the raw codes. Where the first slot at or after the multiple follows an inserted conversion, R129 gives it to the
scan and R140 to the check: the check takes the next slot common to both (DESIGN CHOICE, log entry 37). -/
def State.auxXchk (s : State) (r0 r1 : Nat) : State :=
  if s.rd AUX_XCHK_CFG.EN = 0 then s else
  let x := s.xNext
  if s.auxBlocked 0 || s.auxBlocked 1 then (s.atTime x).modAux fun a => { a with xLast := x, xAt := none } else
  let cand := [x, x + 250, x + 500, x + 750]
  let t := match s.aux.xAt with
    | some t => t
    | none => (cand.find? fun u => (s.conv 0).insertable u && (s.conv 1).insertable u).getD x
  let s := if s.aux.xAt.isSome then s else (s.takeSlot 0 t).takeSlot 1 t
  let x := max s.aux.xLast (s.xMult t)
  let s := (s.atTime (t + 250)).modAux fun a => { a with xLast := x, xAt := none }
  s.xApply (s.auxCode 0 23 r0) (s.auxCode 1 23 r1)

/-! ### Calibration and self-test (R145 to R150) -/

/-- The scan of converter `m` as calibration or BIST leaves it (R149): a conversion already started completes, and the rest is
abandoned. -/
def State.scanCut (s : State) (m : Nat) : State :=
  match (s.conv m).scan with
  | some sc =>
    let r := s.scanSlot m
    if r.2 ≤ s.grid.now then
      let more := decide (1 < sc.left.length)
      let s := r.1.modConv m fun c => { c with scan := some { sc with left := sc.left.take 1, cut := more }, free := r.2 }
      if more then s.wr AUX_SCAN_STATUS.ABORT 1 m else s
    else (s.modConv m fun c => { c with scan := none }).wr AUX_SCAN_STATUS.ABORT 1 m
  | none => s

/-- Calibration (reason 2) or BIST (reason 3) of converter `m` begins (R149). -/
def State.auxBlock (s : State) (m reason : Nat) : State :=
  let s := (s.injCatch m).scanCut m
  let c := s.conv m
  let s := if c.wait.isSome then s.bump AUX_TRG_BLOCK.VALUE m else s
  let s := if c.inj.isSome then s.injDrop m reason else s
  let s := s.modConv m fun c => { c with wait := none, inj := none, injAt := none, free := if c.scan.isSome then c.free else s.grid.now }
  s.modAux fun a => { a with xAt := none }

/-- Self-calibration of the selected converters begins at the first tick after acceptance, with the first group (R95, R145). What stands in a
converter's way is settled before it counts as under calibration: a cross-check that is due has its slot (R129, R149). -/
def State.auxCalStart (s : State) : State :=
  match s.afe.cal with
  | some r =>
    let tick := s.newest.filter fun x => decide (r.ready * 2 ^ 24 < x.t)
    if r.auxStart.isNone && r.auxRun != 0 && tick.isSome then
      let s := s.modAfe fun a => { a with cal := some { r with auxStart := tick.map fun x => x.t / 2 ^ 24 } }
      let s := forL (maskIdx 2 r.auxRun) (fun m s => s.auxBlock m 2) s
      s.wr AUX_STATUS.CAL r.auxRun
    else s
  | none => s

/-- The self-calibration of converter `m` ends after 1.2 ms (R123, R145 to R147). -/
def State.auxCalDone (s : State) (m : Nat) (x : AuxCalMeas) : State :=
  match s.afe.cal with
  | some r =>
    match r.auxStart with
    | some t0 =>
      if !r.auxRun.testBit m then s else
      let s := s.atTime (t0 + 300000)
      let bad := decide (q22One < 200 * ((x.gain : Int) - q22One).natAbs) || decide (100 < x.ofs.natAbs)
        || decide (8 < ((x.lin : Int) - 13107).natAbs)
      let unc := if m = 0 then AUX_STATUS.UNCAL0 else AUX_STATUS.UNCAL1
      let cf := if m = 0 then AUX_STATUS.CALFAIL0 else AUX_STATUS.CALFAIL1
      let s := s.wr AUX_STATUS.CAL (andNot (s.rd AUX_STATUS.CAL) (2 ^ m))
      let s := if bad then (s.wr cf 1).logEv 0x1014 else
        (((s.wrI AUX_CAL_OFS.VALUE x.ofs m).wr AUX_CAL_GAIN.VALUE x.gain m).wr unc 0).wr cf 0
      let r := { r with auxRun := andNot r.auxRun (2 ^ m), auxPass := r.auxPass + (if bad then 0 else 2 ^ m),
                        auxFail := r.auxFail + (if bad then 2 ^ m else 0) }
      (s.modAfe fun a => { a with cal := some r }).calFinish
    | none => s
  | none => s

/-! ### Reads (R137 to R139) -/

/-- A host read of a result register: the word returned and the state after it (R137). -/
def State.resultRead (s : State) (data valid ovr xq slot dup : Field) (m k : Nat) : State × Nat :=
  let v := s.rd valid m k
  let w := s.rd data m k + 2 ^ 16 * v + 2 ^ 17 * (1 - v) + 2 ^ 18 * s.rd ovr m k + 2 ^ 19 * s.rd xq m k
    + 2 ^ 24 * s.rd slot m k
  (((s.wr valid 0 m k).wr ovr 0 m k).wr dup 1 m k, w)

/-- A host read of AUX_RESULT `k` of converter `m`. -/
def State.auxRead (s : State) (m k : Nat) : State × Nat :=
  s.resultRead AUX_RESULT.DATA AUX_RESULT.VALID AUX_RESULT.OVR AUX_RESULT.XQ AUX_RESULT.SLOT AUX_RESULT.DUP m k

/-- A host read of AUX_INJ_RESULT of converter `m`. -/
def State.injRead (s : State) (m : Nat) : State × Nat :=
  s.resultRead AUX_INJ_RESULT.DATA AUX_INJ_RESULT.VALID AUX_INJ_RESULT.OVR AUX_INJ_RESULT.XQ AUX_INJ_RESULT.SLOT
    AUX_INJ_RESULT.DUP m 0

end Sys2Proof.Machine
end

