-- ==== Sys2Proof/Machine/Log.lean ====
section
/-! DEFINITION. The event log: appending, suppression, reading (R467 to R487). -/
namespace Sys2Proof.Machine
open Reg

/-- The 32 bytes of an entry (R470). -/
def LogEntry.bytes (e : LogEntry) : List Byte :=
  let b := leBytes 8 e.dev ++ leBytes 8 (toBits 64 e.tai) ++ leBytes 4 e.seq ++ leBytes 2 e.code ++ leBytes 2 e.src
    ++ leBytes 4 e.val ++ leBytes 1 e.tq ++ leBytes 1 e.flags
  b ++ leBytes 2 (crc16 b)

/-- The oldest readable circulating entry (R469). -/
def State.oldestSeq (s : State) : Nat :=
  max (max 1 (s.nv.log.nextSeq - 131072)) (s.nv.log.clearMark + 1)

/-- The registers that show the durable log (R467 to R469, R482). -/
def State.logRegs (s : State) : State :=
  let s := (s.wr EVT_NEXT_SEQ.VALUE s.nv.log.nextSeq).wr EVT_OLDEST_SEQ.VALUE s.oldestSeq
  let s := (s.wr EVT_CLEAR_MARK.VALUE s.nv.log.clearMark).wr EVT_CLEAR_CNT.VALUE s.nv.log.clears
  s.wr EVT_STATUS.PERM_FULL (b2n (decide (4096 < s.nv.log.nextSeq)))

/-- Offer a durable entry to the event berth (R485, R578). -/
def State.offerEntry (s : State) (e : LogEntry) : State :=
  if s.rd EVT_BERTH.EN = 0 then s else
  let b := s.rd EVT_BERTH.BERTH
  if !s.berthOk b 1 1024 then s.bump HOST_MISROUTE_CNT.VALUE else
  let r := s.putMsg b 1 e.bytes
  if r.2 then r.1 else r.1.bump EVT_BERTH_DROP_CNT.VALUE

/-- Make an entry durable (R467 to R469, R472, R479, R482). -/
def State.appendEntry (s : State) (e : LogEntry) : State :=
  let n := s.nv.log.nextSeq
  let e := { e with seq := n, flags := e.flags + (if n ≤ 4096 then 4 else 0) }
  let s := s.modLogNv fun l =>
    { l with entries := e :: (if 131072 < n then l.entries.filter fun x => decide (x.seq ≤ 4096) || decide (n < x.seq + 131072) else l.entries),
             nextSeq := n + 1,
             clearMark := if e.code = 0x0011 then e.val else l.clearMark,
             clears := if e.code = 0x0011 then satInc l.clears else l.clears }
  let s := if n = 4096 then
      s.modLog fun l => { l with queue := (s.entryWith s.grid.now (s.taiOf s.grid.now) s.tqByte 0x0013 0 0, s.grid.now) :: l.queue }
    else s
  s.logRegs.offerEntry e

/-- The entry at the head of the append queue becomes durable (R479); not while MRAM writes are withheld. -/
def State.evtAppend (s : State) : State :=
  if s.writesHeld ∨ s.rd EVT_STATUS.READY = 0 then s else
  match s.log.queue with
  | (e, t) :: rest =>
    let s := s.modLog fun l => { l with queue := rest }
    (s.raiseTo EVT_APPEND_MAX.VALUE ((s.grid.now - t) / 250)).appendEntry e
  | [] => s

/-- Append queued entries until the queue is empty, at most `fuel`. -/
def State.drainLog (s : State) : Nat → State
  | 0 => s
  | n + 1 => if s.log.queue.isEmpty then s else s.evtAppend.drainLog n

/-- Append every queued entry, and the EVT_PERM_FULL that one of them may bring (R472, R479). -/
def State.drainAll (s : State) : State := s.drainLog (s.log.queue.length + 1)

/-- One second in device-time units. -/
def second : Nat := 250000000

/-- The second boundary that a once-a-second rule last served being `k`, the next one it serves: the latest one passed,
or the one to come (R477, R579). -/
def State.nextSecond (s : State) (k : Nat) : Nat :=
  if k < s.grid.now / second then s.grid.now / second else s.grid.now / second + 1

/-- A second boundary: one EVT_SUPPRESSED for each code with suppressed occurrences, in ascending code order (R477). -/
def State.evtSuppressed (s : State) : State :=
  let k := s.nextSecond s.log.sec
  let s := (s.atTime (k * second)).modLog fun l => { l with sec := k }
  forL (s.log.buckets.filter fun x => x.2.supp != 0) (fun x s =>
    let s := s.modLog fun l => { l with buckets := tset l.buckets x.1 { x.2 with supp := 0 } }
    let t := k * second
    s.enqueue (s.entryWith t (s.taiOf t) s.tqByte 0x0010 x.1 x.2.supp)) s

/-- EVT_READ (R484). -/
def cmdEvtRead (s : State) (_q : Bool) (p : Packet) : CmdRes :=
  let first := p.word 0
  let cnt := p.word 1
  if p.len ≠ 8 then s.badLength
  else if 1 < p.target.toNat then s.badTarget 0
  else if cnt = 0 ∨ 127 < cnt then s.badTarget 19
  else
    let perm := decide (p.target.toNat = 1)
    let newest := if perm then min 4096 (s.nv.log.nextSeq - 1) else s.nv.log.nextSeq - 1
    let oldest := if perm then 1 else s.oldestSeq
    let gap := decide (first < oldest)
    let a := max first oldest
    -- a start beyond the newest entry returns none, with END; so does an area that holds none
    let last := min newest (a + cnt - 1)
    let n := last + 1 - a
    let l := ((s.nv.log.entries.filter fun e => decide (a ≤ e.seq) && decide (e.seq ≤ last)).reverse)
    let w := l.flatMap fun e => (List.range 8).map fun i => ofLe ((e.bytes.drop (4 * i)).take 4)
    let fin := decide (newest ≤ last) || decide (n = 0)
    s.ok ((n + 256 * b2n gap + 512 * b2n fin) :: w)

/-- The log comes up after a reset: the queue's unwritten entries are lost. The scan discards an entry that is partly written: the one
at the head of the queue when the logic lost its state, where its append was in progress (`torn`); without one in the queue, or with MRAM
writes withheld, none was (R467, R475, R483). Whether the append had begun is an operand of START_UP (log entry 124). -/
def State.logStart (s : State) (torn : Bool) : State :=
  let cut := torn && s.nv.log.begun
  let s := (s.modLogNv fun l => { l with begun := false }).modLog fun l => { l with queue := [], buckets := [], replayed := false, sec := s.grid.now / second }
  let s := s.logRegs.wr EVT_STATUS.READY 1
  if cut then (s.wr EVT_STATUS.RESTORED 1).logEv 0x0012 0 1 else s

end Sys2Proof.Machine
end

