-- ==== Sys2Proof/Machine/Net.lean ====
section
/-! DEFINITION. Ports, network redundancy, frame taps and MDIO (R198 to R204, R597). -/
namespace Sys2Proof.Machine
open Reg

/-- The device's own MAC address (R200). -/
def State.ownMac (s : State) : Nat := s.rd64 ID_MAC_LO.VALUE ID_MAC_HI.VALUE

/-- A port takes part in the network: enabled and not taken down (R198, R199). -/
def State.portOn (s : State) (p : Nat) : Bool := s.pbus.net.ports.testBit p && !s.pbus.net.down.contains p

/-- The bank whose PORT bindings are in force (R206). -/
def State.bindBank (s : State) : Bank := s.pbus.net.bind.getD s.bank

/-- A binding admits a port (R206). -/
def State.bound (s : State) (port p : Nat) : Bool := if s.pbus.net.mode = 0 then port == p + 1 else port == 0

/-- The receive stamp of a frame whose start-of-frame delimiter crossed the reference plane of port `p` at device time `t`, in ns (R204). -/
def State.rxNs (s : State) (p t : Nat) : Nat := 4 * t - s.rd PBUS_PORT_INGLAT.VALUE p

/-- The transmit stamp of a PTP frame that starts at device time `t`, in ns (R204). -/
def State.txNs (s : State) (p t : Nat) : Nat := 4 * t + s.rd PBUS_PORT_EGLAT.VALUE p

/-- The receive stamp of a frame, in device-time units (R204). -/
def State.rxStamp (s : State) (h : NetHead) : Nat := s.rxNs h.port.val h.sfd / 4

/-- The transmit stamp of a frame that starts at device time `t`, in device-time units (R204). -/
def State.txStamp (s : State) (p t : Nat) : Nat := s.txNs p t / 4

/-- A frame goes out: one copy on each port that takes part, with the redundancy sequence number in PRP and HSR mode (R200,
R201). In independent mode it leaves on every such port (DESIGN CHOICE, log entry 107). -/
def State.transmit (s : State) : State × List TxCopy :=
  let ps := [0, 1].filter s.portOn
  if s.pbus.net.mode = 0 then (s, ps.map fun p => { port := p, src := s.ownMac })
  else
    let n := s.pbus.net.txSeq
    (s.modNet fun x => { x with txSeq := (n + 1) % 65536 }, ps.map fun p => { port := p, src := s.ownMac, red := some (n, p) })

/-- Refresh a node of the node table, which holds 512 (R201). -/
def NetSt.refresh (n : NetSt) (mac t : Nat) : NetSt :=
  let l := n.nodes.filter fun x => x.1 != mac
  if l.length < n.nodes.length ∨ l.length < 512 then { n with nodes := (mac, t) :: l } else n

/-- Duplicate discard (R201, R202): the first copy of a frame is passed on, its copy from the other LAN or direction is
discarded. -/
def NetSt.dup (n : NetSt) (src seq port t : Nat) : NetSt × Bool :=
  if n.seen.any fun x => x.1 == src && x.2.1 == seq && x.2.2.1 != port && decide (t < x.2.2.2 + 15000000000) then
    ({ n with seen := n.seen.filter fun x => !(x.1 == src && x.2.1 == seq) }, true)
  else
    let l := n.seen.filter fun x => !(x.1 == src && x.2.1 == seq) && decide (t < x.2.2.2 + 15000000000)
    ({ n with seen := (src, seq, port, t) :: l }, false)

/-- A frame reaches a port: what is counted, and whether the subscribers see it (R201, R202, R204). A frame this node originated is
removed from the ring. -/
def State.netRx (s : State) (h : NetHead) : State × Bool :=
  let p := h.port.val
  if !s.portOn p then (s, false) else
  let s := (s.atTime h.sfd).bump PBUS_PORT_RX_CNT.VALUE p
  if h.bad then (s.bump PBUS_PORT_ERR_CNT.VALUE p, false)
  else if s.pbus.net.mode = 0 then (s, true)
  else if s.pbus.net.mode = 2 ∧ h.src = s.ownMac then (s, false)
  else match h.red with
    | none => (s, true)
    | some (seq, lan) =>
      let s := if s.pbus.net.mode = 1 ∧ lan ≠ p then s.bump PBUS_PORT_WRONGLAN_CNT.VALUE p else s
      let r := s.pbus.net.dup h.src seq p h.sfd
      let s := s.modNet fun _ => r.1
      if r.2 then (s.bump PBUS_PORT_DUP_CNT.VALUE p, false) else (s, true)

/-- Copy an accepted frame to the berths of its taps (R597). -/
def State.frameCopy (s : State) (goose : Bool) (sub r : Nat) (raw : List Byte) : State :=
  forL (s.host.taps.filter fun t => t.goose == goose && t.sub == sub) (fun t s =>
    if !s.berthOk t.berth 0 4096 then s.bump HOST_MISROUTE_CNT.VALUE
    else (s.putMsg t.berth 4 (leBytes 4 (sub % 1024 + 1024 * b2n goose) ++ leBytes 8 r ++ raw)).1) s

/-- PBUS_SUBSCRIBE (R578, R597). -/
def cmdPbusSubscribe (s : State) (_q : Bool) (p : Packet) : CmdRes :=
  let w := p.word 0
  let b := w % 256
  let goose := w.testBit 8
  let sub := p.target.toNat
  let is := fun (t : Tap) => t.goose == goose && t.sub == sub
  if p.len ≠ 4 then s.badLength
  else if (if goose then 1023 else 255) < sub then s.badTarget 0
  else if !w.testBit 9 then
    (s.modHost fun h => { h with taps := h.taps.filter fun t => !(is t && t.berth == b) }).ok
  else if !s.berthOk b 0 4096 then s.badTarget 25
  else if s.host.taps.any fun t => is t && t.berth == b then s.ok
  else if 4 ≤ s.host.taps.length then s.busy 28
  else (s.modHost fun h => { h with taps := h.taps ++ [{ goose := goose, sub := sub, berth := b }] }).ok

/-- The SGMII auto-negotiation of a port ends (R198): in PRP and HSR mode a port whose speed differs from the other is
logged and taken down. `fast` is 1000 Mb/s. -/
def State.autoneg (s : State) (p : Nat) (fast : Bool) : State :=
  let v := if fast then 1000 else 100
  let other := tget 0 s.pbus.net.speed (1 - p)
  let s := s.modNet fun n => { n with speed := tset n.speed p v, down := n.down.filter (· != p) }
  if s.pbus.net.mode ≠ 0 ∧ other ≠ 0 ∧ other ≠ v then
    (s.modNet fun n => { n with down := p :: n.down }).logEv 0x4003
  else s

/-- A host MDIO transaction is running (R203). -/
def State.mdioBusy (s : State) : Bool := (s.rd PBUS_MDIO.VALUE).testBit 31

/-- The PHY of a port is polled, every 10 ms, unless a host transaction runs (R203). -/
def State.phyPoll (s : State) (p : Nat) (up : Bool) : State :=
  if s.mdioBusy ∨ !s.pbus.net.ports.testBit p then s else
  let t := max s.grid.now (tget 0 s.pbus.pollAt p)
  let s := (s.atTime t).modPbus fun b => { b with pollAt := tset b.pollAt p (t + 2500000) }
  let was := (s.rd PBUS_STATUS.LINK).testBit p
  let s := s.wr PBUS_STATUS.LINK (if up then s.rd PBUS_STATUS.LINK ||| 2 ^ p else andNot (s.rd PBUS_STATUS.LINK) (2 ^ p))
  if up ∧ !was then s.logEv 0x4002 p else if !up ∧ was then s.logEv 0x4001 p else s

/-- A host write of PBUS_MDIO (R203): GO starts a transaction; a write while one runs is ignored (DESIGN CHOICE, log entry
26). -/
def State.mdioWrite (s : State) (w : Nat) : State :=
  if s.mdioBusy then s
  else if w.testBit 31 then s.wr PBUS_MDIO.VALUE w
  else s

/-- The MDIO transaction completes with the data of the PHY's register; a write keeps the data written (R203). -/
def State.mdioDone (s : State) (data : Nat) : State :=
  if !s.mdioBusy then s else
  let w := s.rd PBUS_MDIO.VALUE
  s.wr PBUS_MDIO.VALUE (if w.testBit 21 then w % 65536 else data % 65536)

/-- The correctionField of a forwarded PTP event message: `ev` gives the one it came with, in 2^-16 ns, and the device times at
which it came and left; the residence time is added (R237). -/
def residence (ev : Int × Nat × Nat) : Int := ev.1 + 4 * ((ev.2.2 : Int) - ev.2.1) * 65536

/-- A ring frame is forwarded to the other port unless this node originated it (R201, R237). -/
def State.hsrForward (s : State) (p src : Nat) (ev : Option (Int × Nat × Nat)) : State :=
  if s.pbus.net.mode ≠ 2 ∨ !s.portOn p ∨ !s.portOn (1 - p) ∨ src = s.ownMac then s
  else s.modNet fun n => { n with fwd := some (1 - p, src, ev.map residence) }

/-- A supervision frame is sent (R201). -/
def State.supSend (s : State) : State :=
  if s.pbus.net.mode = 0 then s else
  let t := max s.grid.now s.pbus.net.supNext
  let x := (s.atTime t).transmit
  x.1.modNet fun n => { n with supNext := t + s.rd PBUS_NET_CFG.SUPINT * 25000000, supSent := n.supSent + 1, supOut := x.2 }

/-- A supervision frame of a node is received (R201). -/
def State.supRx (s : State) (h : NetHead) : State :=
  if s.pbus.net.mode = 0 then s else
  let r := s.netRx h
  if r.2 then r.1.modNet fun n => n.refresh h.src h.sfd else r.1

/-- The oldest entry of the node table has not been refreshed for 60 s and is forgotten (R201). -/
def State.nodeForget (s : State) : State :=
  match s.pbus.net.nodes.getLast? with
  | some (_, t) => (s.atTime (t + 60 * second)).modNet fun n => { n with nodes := n.nodes.dropLast }
  | none => s

end Sys2Proof.Machine
end

