-- ==== Sys2Proof/Machine/Stream.lean ====
section
/-! DEFINITION. Sampled-value streams: acceptance, placing in time, resampling (R205 to R222). -/
namespace Sys2Proof.Machine
open Reg

/-- Samples per second by code (R205). -/
def svRate (code : Nat) : Nat := match code with | 0 => 4000 | 1 => 4800 | 2 => 12800 | _ => 15360

/-- A subscription. -/
def State.svSub (s : State) (k : Nat) : SvSt := tget {} s.pbus.sv k
/-- A subscription replaced. -/
def State.setSv (s : State) (k : Nat) (v : SvSt) : State := s.modPbus fun p => { p with sv := tset p.sv k v }

/-- Bit of a member's flags: the source marks it invalid (R221). -/
def bSRCINV : Nat := 0x10000

/-- The flags of a member by its quality (R221). -/
def SvQual.flags (q : SvQual) : Nat :=
  let f := orIf 0 (q.validity == 1 || q.validity == 2) bSRCINV
  let f := orIf f (q.validity == 3) bQUEST
  let f := orIf f (q.overflow || q.outOfRange) bCLIPPED
  let f := orIf f (q.badReference || q.oscillatory || q.failure || q.oldData || q.inconsistent || q.inaccurate
    || q.operatorBlocked) bQUEST
  orIf (orIf f q.substituted bSUBST) q.test bTEST

/-- L_s of a subscription in 2^-8 device-time units (R213). -/
def State.svLat (s : State) (k : Nat) : Int := (s.rd PBUS_SV_LAT.VALUE k * 250 * 256 : Nat)

/-- The nominal sample period in 2^-8 device-time units (R214). -/
def svNom (rate : Nat) : Int := openDiv 41 (250000000 * 256) rate

/-- The instant of sample `j` of a synchronized stream, in 2^-8 device-time units (R213). -/
def State.svInstant (s : State) (rate : Nat) (j : Int) : Int :=
  -- TAI_j = j × 10^9 / rate ns; u_j = (TAI_j − GRID_TAI_OFS) / 4
  openDiv 42 (64 * (j * 1000000000 - s.grid.taiOfs * rate)) rate

/-- The absolute index of a synchronized sample: the TAI second that brings its instant nearest to r − L_s (R213). -/
def State.svIndex (s : State) (k rate cnt : Nat) (r : Nat) : Int :=
  -- the TAI of r − L_s in ns, times the rate
  let x : Int := (s.taiOf r - s.rd PBUS_SV_LAT.VALUE k * 1000) * rate - cnt * 1000000000
  -- the nearest whole number of seconds to x / (rate × 10^9)
  let d : Int := (rate : Int) * 1000000000
  (2 * x + d) / (2 * d) * rate + cnt

/-- Whether an ASDU is aligned as synchronized (R213, with smpSynch as R205 treats it). -/
def State.svSynced (s : State) (k synch : Nat) : Bool :=
  let v := if 5 ≤ synch ∧ synch ≤ 254 then 1 else synch
  decide (s.rd PBUS_SV_CFG.SYNCREQ k ≤ v) && (s.rd GRID_TQ.LOCKED == 1 || s.rd GRID_TQ.HOLDOVER == 1)

/-- The instant sample `j` has, or would have (R213, R214, R218), in 2^-8 device-time units; `none` before the stream's
first sample. -/
def State.svTime (s : State) (k : Nat) (j : Int) : Option Int :=
  let v := s.svSub k
  match v.smp.find? fun x => x.j == j with
  | some x => some x.u
  | none =>
    match v.last with
    | none => none
    | some (l, _) =>
      if v.sync then some (s.svInstant (svRate (s.rd PBUS_SV_CFG.RATE k)) j)
      else if l < j then some (v.next + (j - l - 1) * v.per)
      else match v.smp.find? fun x => decide (x.j < j) with
        | some x => some (x.u + (j - x.j) * v.per)
        | none => some (v.next - (l + 1 - j) * v.per)

/-- The bracket of a target `t` (2^-24 units): k with u_k ≤ T < u_(k+1) (R44). -/
def State.svBracket (s : State) (k : Nat) (t : Int) : Option Int :=
  let v := s.svSub k
  match v.last with
  | none => none
  | some (l, _) =>
    let le := fun (u : Int) => decide (u * 2 ^ 16 ≤ t)
    if v.sync then
      let rate := svRate (s.rd PBUS_SV_CFG.RATE k)
      let j := (t * 4 + s.grid.taiOfs * 2 ^ 24) * rate / (1000000000 * 2 ^ 24)
      some (if le (s.svInstant rate (j + 1)) then j + 1 else if le (s.svInstant rate j) then j else j - 1)
    else if le v.next then
      some (l + 1 + (t - v.next * 2 ^ 16) / (max 1 v.per * 2 ^ 16))
    else match v.smp.find? fun x => le x.u with
      | some x =>
        let hi := ((v.smp.filter fun y => decide (x.j < y.j)).map (·.j)).foldl min (l + 1)
        some (min (x.j + (t - x.u * 2 ^ 16) / (max 1 v.per * 2 ^ 16)) (hi - 1))
      | none =>
        -- before every sample kept: indices run back by the period
        some (l + 1 - ((v.next * 2 ^ 16 - t) / (max 1 v.per * 2 ^ 16) + 1))

/-! ### Grid samples (R44, R218, R219) -/

/-- The Lagrange interpolation of R44 at μ = p / q: rounding of a result between two integers is left open. R44 names no saturation either:
the result is held to signed 32 bits, the width of a grid sample (DESIGN CHOICE, log entry 39). -/
def lagrange (p q : Nat) (xm x0 x1 x2 : Int) : Int :=
  let p' : Int := p
  let q' : Int := q
  let n := -(p' * (p' - q') * (p' - 2 * q')) * xm + 3 * (p' + q') * (p' - q') * (p' - 2 * q') * x0
    - 3 * (p' + q') * p' * (p' - 2 * q') * x1 + (p' + q') * p' * (p' - q') * x2
  satI 32 (openDiv 43 n (6 * q * q * q))

/-- The target of process-bus channel `g` at a tick, in 2^-24 units (R35, R38). -/
def State.svTarget (_s : State) (g : Nat) (r : TickRec) : Int := (r.t : Int) + tauUnits (tget 0 r.corr g) * 2 ^ 16

/-- The subscription that channel `g` takes its samples from. -/
def State.mapSub (s : State) (g : Nat) : Nat := s.rd PBUS_MAP.SUB (g - 64)

/-- The flags of a sample whose stream did not bring it: LATE and SUBSTITUTED, and QUESTIONABLE while the stream's alignment is at fault
(R215, R218). -/
def State.lateFlags (s : State) (g : Nat) : Nat :=
  orIf (bLATE + bSUBST) (s.rd PBUS_SV_STATUS.ALIGN_FAULT (s.mapSub g) == 1) bQUEST

/-- The channel's sample of a tick is made LATE and SUBSTITUTED (R218, R219). -/
def State.svLate (s : State) (g : Nat) (r : TickRec) : State :=
  let s := s.setSample r.n g (s.mkSample r g 0 (s.lateFlags g) false)
  s.bump PBUS_SV_LATE_CNT.VALUE (s.mapSub g)

/-- The channel's sample of a tick computed from its four taps (R44, R49, R215, R221, R222). -/
def State.svSample (s : State) (g : Nat) (r : TickRec) (taps : List SvSmp) : State :=
  let k := s.mapSub g
  let m := s.rd PBUS_MAP.MEMBER (g - 64)
  let xs := taps.map fun x => x.mem.getD m (0, 0)
  let f := xs.foldl (fun a x => a ||| x.2) 0
  let f := orIf f (s.rd PBUS_SV_STATUS.ALIGN_FAULT k == 1) bQUEST
  let t := s.svTarget g r
  match taps, xs with
  | [_, a, b, _], [xm, x0, x1, x2] =>
    let d := (b.u - a.u) * 2 ^ 16
    let y := lagrange (t - a.u * 2 ^ 16).toNat d.toNat xm.1 x0.1 x1.1 x2.1
    s.setSample r.n g (s.mkSample r g y (f % 65536) (hasBit f bSRCINV))
  | _, _ => s

/-- The taps of a target: their indices, those present, and whether one is declared missing. -/
def State.svTaps (s : State) (k : Nat) (t : Int) : List Int × List SvSmp × Bool :=
  match s.svBracket k t with
  | none => ([], [], false)
  | some b =>
    let v := s.svSub k
    let js := [b - 1, b, b + 1, b + 2]
    (js, js.filterMap fun j => v.smp.find? fun x => x.j == j, js.any fun j => v.miss.contains j)

/-- The ticks that still await channel `g`, oldest first. -/
def State.awaited (s : State) (g : Nat) : List TickRec := (s.grid.hist.filter fun r => r.wait.contains g).reverse

/-- The samples of tick `n` may be formed: no decision of the tracker is due that can still move the tick. One that waits for a process-bus
channel moves no tick, so that a late stream delays no other channel (R219; log entry 105). -/
def State.formable (s : State) (n : Nat) : Bool := match s.trackDue with | some r => s.grid.fixed || decide (n ≤ r.n) | none => true

/-- Deliver channel `g` its grid samples in tick order as far as its taps allow (R218, R219), each on the settings of its tick. -/
def State.svDeliver (s : State) (g : Nat) : List TickRec → State
  | [] => s
  | r :: rest =>
    if !s.formable r.n then s else
    let u := s.onTick r.n fun s =>
      let x := s.svTaps (s.mapSub g) (s.svTarget g r)
      if x.2.2 then s.svLate g r
      else if x.2.1.length = 4 then s.svSample g r x.2.1
      else s
    if ((u.tickRec? r.n).map fun x => x.wait.contains g) = some false then u.svDeliver g rest else s

/-- The alignment window A of channel `g` (R217). -/
def State.svWindow (s : State) (g : Nat) : Nat :=
  let bays := (List.range 64).filter fun b => s.bank.fld BAY_CFG.EN b == 1 && (s.bank.chans b).contains g
  match bays.map fun b => s.rd PBUS_ALIGN.A b with
  | [] => s.rd PBUS_ALIGN_DEF.A
  | a :: l => l.foldl min a

/-- The expiry of the window of channel `g` for a target (2^-24 units) at tick `r`, in device-time units (R218). Before the stream's
first sample, u_(k+2) is taken two nominal periods after the target (DESIGN CHOICE, log entry 28). -/
def State.svExpiryAt (s : State) (g : Nat) (r : TickRec) (t : Int) : Nat :=
  let k := s.mapSub g
  let u : Int := match s.svBracket k t with
    | some b => (s.svTime k (b + 2)).getD 0
    | none => t / 2 ^ 16 + 2 * svNom (svRate (s.rd PBUS_SV_CFG.RATE k))
  ((u + s.svLat k) * 2 ^ 16 + (s.svWindow g * r.per : Nat)).toNat / 2 ^ 24

/-- The expiry E_n of channel `g` for a tick, in device-time units (R218). -/
def State.svExpiry (s : State) (g : Nat) (r : TickRec) : Nat := s.svExpiryAt g r (s.svTarget g r)

/-- Every tap of channel `g` at tick record `r` has come: such a tick does not expire (R218). -/
def State.svTapped (s : State) (g : Nat) (r : TickRec) : Bool :=
  let s := s.asAt r.n
  (s.svTaps (s.mapSub g) (s.svTarget g r)).2.1.length == 4

/-- The window of the oldest tick that awaits channel `g` expires: its missing taps are declared missing and the sample is
LATE (R218, R219); later ticks follow as far as they can. A tick none of whose taps is missing does not expire. -/
def State.svExpire (s : State) (g : Nat) : State :=
  match s.awaited g with
  | [] => s
  | r :: rest =>
    if s.svTapped g r then s.svDeliver g (r :: rest) else
    let s := s.onTick r.n fun s =>
      let k := s.mapSub g
      let s := s.atTime (s.svExpiry g r)
      let x := s.svTaps k (s.svTarget g r)
      let v := s.svSub k
      let new := x.1.filter fun j => !(v.smp.any fun y => y.j == j) && !v.miss.contains j
      let s := s.setSv k { v with miss := (new ++ v.miss).take 4096, gone := v.gone + new.length }
      (s.bump PBUS_SV_MISS_CNT.VALUE k 0 new.length).svLate g r
    s.svDeliver g rest

/-- The channels fed by subscription `k`. -/
def State.svChans (s : State) (k : Nat) : List Nat :=
  ((List.range 448).map (· + 64)).filter fun g => s.mapped g && s.mapSub g == k

/-- Expire the windows of channel `g` that ended at or before device time `t`, at most `fuel`. -/
def State.svExpireTo (s : State) (g t : Nat) : Nat → State
  | 0 => s
  | n + 1 =>
    match s.awaited g with
    | [] => s
    | r :: _ => if (s.asAt r.n).svExpiry g r ≤ t && !s.svTapped g r then (s.svExpire g).svExpireTo g t n else s

/-! ### Reception (R207 to R216, R220) -/

/-- The tests of R207 beyond MAC and APPID; svID has 1 to 129 octets (R205). -/
def State.svAccepts (s : State) (k : Nat) (f : SvFrame) : Bool :=
  let vlanOk := s.rd PBUS_SV_CFG.VLAN_EN k == 0 || f.hd.vlan == some (s.rd PBUS_SV_APPID.VID k)
  vlanOk && f.hd.sim == (s.rd PBUS_SV_CFG.SIM k == 1) && f.asdu.length == s.rd PBUS_SV_CFG.ASDU k
    && f.asdu.all fun a =>
      a.mem.length == s.rd PBUS_SV_CFG.NMEM k && decide (1 ≤ a.svId.length) && decide (a.svId.length ≤ 129)
        && digest64 a.svId == s.rd64 PBUS_SV_IDDIG_LO.VALUE PBUS_SV_IDDIG_HI.VALUE k
        && (a.confRev == s.rd PBUS_SV_CONFREV_A.VALUE k || a.confRev == s.rd PBUS_SV_CONFREV_B.VALUE k)

/-- The subscription's stream is lost once 10 ms pass without an accepted ASDU (R220). -/
def State.svLost (s : State) (k : Nat) : State :=
  match (s.svSub k).seenAt with
  | some t =>
    if s.rd PBUS_SV_STATUS.STATE k = 2 then
      ((s.atTime (t + 2500000)).wr PBUS_SV_STATUS.STATE 3 k).logAt (t + 2500000) 0x4010 k 0
    else s
  | none => s

/-- The absolute index of a sample of an unsynchronized stream that comes at `x` (2^-8 units) after L_s is taken off: of the indices that the
smpCnt fits, the nearest to the one that the loop expects then, so that a gap of any length is passed over (R213, R214; DEDUCED, log entry
29). -/
def SvSt.index (v : SvSt) (rate cnt : Nat) (l x : Int) : Int :=
  let e := l + 1 + (2 * (x - v.next) + v.per) / (2 * max 1 v.per)
  e + (((cnt : Int) - e + rate / 2) % rate - rate / 2)

/-- The index and instant of an ASDU and the loop state after it (R213, R214). -/
def State.svPlace (s : State) (k : Nat) (a : SvAsdu) (r : Nat) : SvSt × Int × Int :=
  let rate := svRate (s.rd PBUS_SV_CFG.RATE k)
  let v := s.svSub k
  let sync := s.svSynced k a.smpSynch
  -- a change of alignment starts the indices anew (DESIGN CHOICE, log entry 29)
  let v := if v.sync = sync then v else { v with sync := sync, last := none, smp := [], miss := [], next := 0, per := 0 }
  if sync then
    let j := s.svIndex k rate a.smpCnt r
    let u := s.svInstant rate j
    ({ v with last := some (match v.last with | some (l, c) => if l < j then (j, a.smpCnt) else (l, c) | none => (j, a.smpCnt)) }, j, u)
  else
    let x : Int := (r : Int) * 256 - s.svLat k
    match v.last with
    | none => ({ v with last := some (a.smpCnt, a.smpCnt), per := svNom rate, next := x + svNom rate }, a.smpCnt, x)
    | some (l, _) =>
      let j := v.index rate a.smpCnt l x
      if l < j then
        let uh := v.next + (j - l - 1) * v.per
        let e := x - uh
        let u := uh + asr e 6
        let per := v.per + asr e 14
        ({ v with last := some (j, a.smpCnt), per := per, next := u + per }, j, u)
      else (v, j, v.next - (l + 1 - j) * v.per)

/-- The alignment limits of R215 on a synchronized ASDU that came `d` (2^-8 units) after its instant. -/
def State.svLimits (s : State) (k : Nat) (d : Int) : State :=
  let v := s.svSub k
  let rate := svRate (s.rd PBUS_SV_CFG.RATE k)
  let bad := decide (d < 0) || decide ((s.svLat k + 4 * svNom rate) < d)
  let v := { v with out := if bad then v.out + 1 else 0, inn := if bad then 0 else v.inn + 1 }
  let s := s.setSv k v
  if s.rd PBUS_SV_STATUS.ALIGN_FAULT k = 0 ∧ 16 ≤ v.out then (s.wr PBUS_SV_STATUS.ALIGN_FAULT 1 k).logEv 0x4013
  else if s.rd PBUS_SV_STATUS.ALIGN_FAULT k = 1 ∧ 16 ≤ v.inn then s.wr PBUS_SV_STATUS.ALIGN_FAULT 0 k
  else s

/-- Insert a sample, highest index first. -/
def svInsert (x : SvSmp) : List SvSmp → List SvSmp
  | [] => [x]
  | y :: r => if y.j < x.j then x :: y :: r else if y.j = x.j then y :: r else y :: svInsert x r

/-- One accepted ASDU (R209 to R216, R220 to R222). -/
def State.svAsdu (s : State) (k : Nat) (a : SvAsdu) (r : Nat) : State :=
  let old := s.rd PBUS_SV_STATUS.STATE k
  let s := if old = 3 then s.logEv 0x4011 k else s
  let s := (s.wr PBUS_SV_STATUS.STATE 2 k).bump PBUS_SV_RX_CNT.VALUE k
  let v0 := s.svSub k
  let s := match v0.rev with
    | some v => if v = a.confRev then s else s.logEv 0x4012 k a.confRev
    | none => s
  let isB := decide (a.confRev ≠ s.rd PBUS_SV_CONFREV_A.VALUE k)
  let p := s.svPlace k a r
  let d := (r : Int) * 256 - p.2.2
  let us := d / (250 * 256)
  let dly := match v0.dly with | some x => max x us | none => us
  let unsync := !p.1.sync
  let fl := orIf (orIf 0 unsync (bSYNCLOST + bQUEST)) (s.rd PBUS_SV_CFG.SIM k == 1) bTEST
  let mem := a.mem.map fun x => (satI 32 x.1, x.2.flags ||| fl)
  let v := { p.1 with rev := some a.confRev, seenAt := some r, dly := some dly }
  let v := if v.miss.contains p.2.1 then v
    else { v with smp := (svInsert { j := p.2.1, u := p.2.2, mem := mem } v.smp).take 1024 }
  let s := s.setSv k v
  let s := ((s.wr PBUS_SV_STATUS.UNSYNC (b2n unsync) k).wr PBUS_SV_STATUS.REV_B (b2n isB) k).wr PBUS_SV_LASTCNT.VALUE a.smpCnt k
  let s := s.wrI PBUS_SV_DLY_MAX.VALUE dly k
  if unsync then s else s.svLimits k d

/-- A frame accepted for subscription `k`: expiries that came before it, its ASDUs, the grid samples they complete, its
copy (R207, R218, R597). -/
def State.svAccept (s : State) (k : Nat) (f : SvFrame) : State :=
  let r := s.rxStamp f.hd
  let chs := s.svChans k
  let s := forL chs (fun g s => s.svExpireTo g (r - 1) s.grid.hist.length) s
  let s := match (s.svSub k).seenAt with
    | some t => if s.rd PBUS_SV_STATUS.STATE k = 2 ∧ t + 2500000 ≤ r then s.svLost k else s
    | none => s
  let s := forL f.asdu (fun a s => s.svAsdu k a r) s
  let s := forL chs (fun g s => s.svDeliver g (s.awaited g)) s
  s.frameCopy false k r f.hd.raw

/-- A sampled-value frame is received (R202, R205 to R207). -/
def State.svFrame (s : State) (f : SvFrame) : State :=
  let r := s.netRx f.hd
  if !r.2 ∨ f.hd.sec ≠ 0 ∨ f.hd.appid < 0x4000 ∨ 0x7FFF < f.hd.appid then r.1 else
  forN 256 (fun k s =>
    let b := s.bindBank
    if s.rd PBUS_SV_CFG.EN k = 1 ∧ s.bound (b.fld PBUS_SV_CFG.PORT k) f.hd.port.val
        ∧ s.rd PBUS_SV_APPID.APPID k = f.hd.appid
        ∧ s.rd64 PBUS_SV_MAC_LO.VALUE PBUS_SV_MAC_HI.VALUE k = f.hd.dst then
      if s.svAccepts k f then s.svAccept k f else s.bump PBUS_SV_REJ_CNT.VALUE k
    else s) r.1

/-- The enables of the bank in force act on the states of the subscriptions: one that is enabled enters WAIT, one that is not is
off (R220, R224, R245). -/
def State.busWait (s : State) : State :=
  let s := forN 256 (fun k s =>
    let en := s.rd PBUS_SV_CFG.EN k
    let st := s.rd PBUS_SV_STATUS.STATE k
    if en = 0 ∧ st ≠ 0 then s.wr PBUS_SV_STATUS.STATE 0 k
    else if en = 1 ∧ st = 0 then (s.setSv k {}).wr PBUS_SV_STATUS.STATE 1 k else s) s
  forN 1024 (fun i s =>
    let en := s.rd PBUS_GS_CFG.EN i
    let st := s.rd PBUS_GS_STATUS.STATE i
    if en = 0 ∧ st ≠ 0 then s.wr PBUS_GS_STATUS.STATE 0 i
    else if en = 1 ∧ st = 0 then
      (s.modPbus fun p => { p with gs := tset p.gs i {} }).wr PBUS_GS_STATUS.STATE 1 i
    else s) s

/-- A step of the TAI offset discards the history of every synchronized stream (R216). -/
def State.svDiscard (s : State) : State :=
  s.modPbus fun p => { p with sv := p.sv.map fun e => if e.2.sync then (e.1, { e.2 with smp := [], miss := [] }) else e }

end Sys2Proof.Machine
end

