-- ==== Sys2Proof/Machine/Goose.lean ====
section
/-! DEFINITION. GOOSE: subscriptions, inputs, publications (R223 to R229, R242 to R245). -/
namespace Sys2Proof.Machine
open Reg

/-- A GOOSE subscription. -/
def State.gsSub (s : State) (i : Nat) : GsSt := tget {} s.pbus.gs i
/-- A GOOSE subscription replaced. -/
def State.setGs (s : State) (i : Nat) (v : GsSt) : State := s.modPbus fun p => { p with gs := tset p.gs i v }

/-- The value a GIN entry's member has under its TYPE (R226); `none` when it did not decode with the expected type. -/
def ginValue (type : Nat) (m : GMember) : Option Bool :=
  match type, m with
  | 0, .bool b => some b
  | 1, .bits [a, b] => some (a && !b)
  | 2, .bits [a, b] => some (!a && b)
  | _, _ => none

/-- A quality member has validity good and test clear, a set test being accepted in maintenance mode (R226). The places of
validity and test in the bit string are those of IEC 61850 (PRESUMED, log entry 30). -/
def qualityGood (maint : Bool) : GMember → Bool
  | .bits l => !l.getD 0 true && !l.getD 1 true && (!l.getD 11 false || maint)
  | _ => false

/-- Member `m` of an accepted frame; only the first 64 are decoded (R223). -/
def GsSt.member (g : GsSt) (m : Nat) : Option GMember := (g.mem.take 64)[m]?

/-- The new value of GIN `i` and whether it is valid (R226). -/
def State.ginEval (s : State) (i : Nat) : Option Bool :=
  let sub := s.rd PBUS_GIN_MAP.SUB i
  if s.rd PBUS_GIN_MAP.EN i = 0 ∨ s.rd PBUS_GS_STATUS.STATE sub ≠ 2 then none else
  let g := s.gsSub sub
  let q := s.rd PBUS_GIN_MAP.QMEM i
  let qOk := q == 0 || (match g.member (q - 1) with | some m => qualityGood s.maint m | none => false)
  if !qOk then none else
  match g.member (s.rd PBUS_GIN_MAP.MEMBER i) with
  | some m => ginValue (s.rd PBUS_GIN_MAP.TYPE i) m
  | none => none

/-- A bit of an array of 32-bit words set or cleared. -/
def State.wrBit (s : State) (f : Field) (i : Nat) (b : Bool) : State :=
  let w := s.rd f (i / 32)
  s.wr f (if b then w ||| 2 ^ (i % 32) else andNot w (2 ^ (i % 32))) (i / 32)

/-- Evaluate GIN `i`: an invalid one keeps its last value (R226). -/
def State.ginUpdate (s : State) (i : Nat) : State :=
  match s.ginEval i with
  | some v => (s.wrBit PBUS_GIN_VAL.VALUE i v).wrBit PBUS_GIN_OK.VALUE i true
  | none => s.wrBit PBUS_GIN_OK.VALUE i false

/-- The GINs that the bank in force maps. -/
def State.gins (s : State) : List Nat :=
  (s.bank.words.filter fun x => decide (0x78000 ≤ x.1) && decide (x.1 < 0x7C000)).filterMap fun x =>
    (PBUS_GIN_MAP.EN.indexAt x.1).map (·.1)

/-- Evaluate the GINs of subscription `i`. -/
def State.ginsOf (s : State) (i : Nat) : State :=
  forL (s.gins.filter fun g => s.rd PBUS_GIN_MAP.SUB g == i) (fun g s => s.ginUpdate g) s

/-- Evaluate every mapped GIN. -/
def State.ginsAll (s : State) : State := forL s.gins (fun g s => s.ginUpdate g) s

/-- timeAllowedtoLive of the latest accepted frame passes without another (R225). -/
def State.gooseTal (s : State) (i : Nat) : State :=
  if s.rd PBUS_GS_STATUS.STATE i ≠ 2 then s else
  let g := s.gsSub i
  let t := g.seenAt + g.tal * 250000
  let s := ((s.atTime t).wr PBUS_GS_STATUS.STATE 3 i).bump PBUS_GS_TAL_CNT.VALUE i
  (s.logAt t 0x4020 0 0).ginsOf i

/-- The tests of R224 beyond MAC and APPID. -/
def State.gsAccepts (s : State) (i : Nat) (f : GooseFrame) : Bool :=
  (s.rd PBUS_GS_CFG.VLAN_EN i == 0 || f.hd.vlan == some (s.rd PBUS_GS_CFG.VID i))
    && digest64 f.ref == s.rd64 PBUS_GS_REFDIG_LO.VALUE PBUS_GS_REFDIG_HI.VALUE i
    && f.confRev == s.rd PBUS_GS_CONFREV.VALUE i && f.hd.sim == (s.rd PBUS_GS_CFG.SIM i == 1)

/-- The state of a subscription after an accepted frame (R224, R225). -/
def State.gsTake (s : State) (i : Nat) (f : GooseFrame) (r : Nat) : State :=
  let st := s.rd PBUS_GS_STATUS.STATE i
  let g := s.gsSub i
  let last := s.rd PBUS_GS_STNUM.VALUE i
  let same := decide (st ≠ 1) && f.stNum == last
  -- same stNum, same or lower sqNum: ignored
  if same && decide (f.sqNum ≤ g.sq) then s else
  let s := if st = 3 then s.logEv 0x4021 else s
  let next := if last = 2 ^ 32 - 1 then 1 else last + 1
  let s := if st ≠ 1 ∧ !same ∧ f.stNum ≠ next ∧ !(f.stNum == 1 && f.sqNum == 0) then s.bump PBUS_GS_SEQERR_CNT.VALUE i else s
  let s := s.setGs i { seenAt := r, tal := f.tal, sq := f.sqNum, mem := if same then g.mem else f.mem }
  ((s.wr PBUS_GS_STATUS.STATE 2 i).wr PBUS_GS_STNUM.VALUE f.stNum i).ginsOf i

/-- The destination MAC of a GOOSE subscription: 01-0C-CD-01 and the two octets of APPID, in the form of the MAC
registers. -/
def gooseMac (appid : Nat) : Nat := 0x010CCD010000 + appid

/-- A GOOSE frame is received (R223 to R225). -/
def State.gooseFrame (s : State) (f : GooseFrame) : State :=
  let x := s.netRx f.hd
  let r := x.1.rxStamp f.hd
  if !x.2 ∨ f.hd.sec ≠ 0 ∨ f.ndsCom ∨ 0x3FFF < f.hd.appid then x.1 else
  forN 1024 (fun i s =>
    if s.rd PBUS_GS_CFG.EN i = 1 ∧ s.bound (s.bindBank.fld PBUS_GS_CFG.PORT i) f.hd.port.val
        ∧ s.rd PBUS_GS_APPID.APPID i = f.hd.appid ∧ gooseMac f.hd.appid = f.hd.dst ∧ s.gsAccepts i f then
      let g := s.gsSub i
      let s := if s.rd PBUS_GS_STATUS.STATE i = 2 ∧ g.seenAt + g.tal * 250000 ≤ r then s.gooseTal i else s
      (s.gsTake i f r).frameCopy true i r f.hd.raw
    else s) x.1

/-! ### Publications (R227 to R229) -/

/-- A publication. -/
def State.gpSt (s : State) (q : Nat) : GpSt := tget {} s.pbus.gp q
/-- A publication replaced. -/
def State.setGp (s : State) (q : Nat) (v : GpSt) : State := s.modPbus fun p => { p with gp := tset p.gp q v }

/-- The TimeQuality octet of a sent frame (R229): leapSecondsKnown, clockFailure, clockNotSynchronized, accuracy. -/
def State.goTq (s : State) : Nat :=
  let acc := match s.rd GRID_TQ.ACC with | 0 => 20 | 1 => 17 | 2 => 10 | _ => 31
  128 + 64 * b2n (s.rd GRID_TQ.SOURCE == 0) + 32 * b2n (s.rd GRID_TQ.LOCKED == 0) + acc

/-- The octets of a publication's template (R227): its object holds the length, then the octets, low byte first. -/
def Bank.template (k : Bank) (q : Nat) : List Byte :=
  let n := tget 0 k.tmpl (376 * q)
  ((List.range ((n + 3) / 4)).flatMap fun i => leBytes 4 (tget 0 k.tmpl (376 * q + i + 1))).take n

/-- Send a frame of a publication, made from its template, and arm its next repeat `gap` ms later (R200, R201, R227, R228). -/
def State.gpSend (s : State) (q st sq gap vals : Nat) (tai : Int) : State :=
  let x := s.transmit
  let raw := gooseFill (s.bank.template q) { mac := s.ownMac, st := st, sq := sq, tal := 2 * gap, tai := tai, tq := s.goTq, vals := vals }
  let f : GpFrame := { st := st, sq := sq, tai := tai, tq := s.goTq, tal := 2 * gap, vals := vals, raw := raw, out := x.2 }
  let s := x.1
  let g := s.gpSt q
  let s := s.setGp q { g with vals := vals, gap := gap, next := some (s.grid.now + gap * 250000), sent := some f }
  ((s.wr PBUS_GP_STNUM.VALUE st q).wr PBUS_GP_SQNUM.VALUE sq q).bump PBUS_GP_TX_CNT.VALUE q

/-- A state change of a publication at a tick: stNum counts up, sqNum starts over (R228, R229); a standby sends nothing
(R242). stNum is followed by 1 after 2^32 − 1 (R224). -/
def State.gpChange (s : State) (q vals : Nat) (tai : Int) : State :=
  let n := s.rd PBUS_GP_STNUM.VALUE q
  s.gpSend q (if n = 2 ^ 32 - 1 then 1 else n + 1) 0 (s.rd PBUS_GP_CFG.TMIN q) vals tai

/-- Whether the unit sends publications (R242): not a standby, nor a unit that is joining or replaying. -/
def State.publishes (s : State) : Bool := s.role == 0 || s.role == 4

/-- A repeat interval of a publication expires: the frame goes out again, and the interval doubles up to TMAX (R228). -/
def State.gpRepeat (s : State) (q : Nat) : State :=
  let g := s.gpSt q
  match g.next, g.sent with
  | some t, some f =>
    if s.rd PBUS_GP_CFG.EN q = 0 ∨ !s.publishes then s else
    let s := s.atTime t
    let gap := min (2 * g.gap) (s.rd PBUS_GP_CFG.TMAX q * 100)
    s.gpSend q f.st (f.sq + 1) gap g.vals f.tai
  | _, _ => s

end Sys2Proof.Machine
end

