-- ==== Sys2Proof/Machine/Time.lean ====
section
/-! DEFINITION. Time sources, servo, holdover, leap seconds (R230 to R241). -/
namespace Sys2Proof.Machine
open Reg

/-- GRID_TQ.LOCKED set; a change is cause 4 (R602). -/
def State.setLocked (s : State) (v : Nat) : State :=
  if s.rd GRID_TQ.LOCKED = v then s else (s.wr GRID_TQ.LOCKED v).cause 4

/-- ACC of the source in use while locked (R232). -/
def State.lockedAcc (s : State) : Nat :=
  match s.rd GRID_TQ.SOURCE with
  | 1 => if s.pbus.ptp.cls = 6 then 0 else if s.pbus.ptp.cls = 7 then 1 else 2
  | 2 =>
    let a := s.rd PBUS_IRIG_CFG.ACC
    if s.rd PBUS_IRIG_CFG.EXT = 1 ∧ s.pbus.time.irigTq ≠ 0 then max 2 a else a
  | 3 => s.rd PBUS_PPS_CFG.ACC
  | _ => 3

/-- ACC brought up to date while locked (R232). -/
def State.accUpdate (s : State) : State :=
  if s.rd GRID_TQ.SOURCE = 0 ∨ s.rd GRID_TQ.SOURCE = 4 then s.wr GRID_TQ.ACC 3
  else if s.rd GRID_TQ.LOCKED = 1 then s.wr GRID_TQ.ACC s.lockedAcc
  else s

/-- A step of GRID_TAI_OFS with its TIME_STEP pair (R14, R216, R234); the next TAI second boundary is that of the new TAI (R230). The value is the
step in us, its fraction dropped (DEDUCED, log entry 31). -/
def State.taiStep (s : State) (d : Int) : State :=
  let t := s.grid.now
  let before := s.taiOf t
  let s := (s.modGrid fun g => { g with taiOfs := g.taiOfs + d }).setLocked 0
  let s := s.modTime fun x => { x with sel := x.sel.map fun _ => s.taiOf t / 1000000000 }
  let v := toBits 32 (satI 32 (d.tdiv 1000))
  let s := s.raiseEntry (s.entryWith t before s.tqByte 0x3010 0 v)
  let s := s.raiseEntry (s.entryWith t (s.taiOf t) s.tqByte 0x3010 1 v)
  (s.bump PBUS_TSTEP_CNT.VALUE).svDiscard

/-- δ for a rate in ppb (R231). -/
def deltaOf (ppb : Int) : Int := (-(ppb * 2 ^ 32)).tdiv 1000000000

/-- A measurement θ turned into a step or a rate (R231, R232). -/
def State.measure (s : State) (theta : Int) (fromSet : Bool) : State :=
  let s := (s.wrI PBUS_TIME_OFS.VALUE (satI 32 theta)).modTime fun t => { t with taiSet := true }
  if 1000 < theta.natAbs then
    (s.taiStep (-theta)).modTime fun t => { t with integ := 0, lockCnt := 0 }
  else if !fromSet then
    let i := clampI (s.pbus.time.integ + asr theta (s.rd PBUS_SERVO.KI)) (-200000) 200000
    let ppb := clampI (asr theta (s.rd PBUS_SERVO.KP) + i) (-200000) 200000
    let n := s.pbus.time.lockCnt + 1
    let s := s.modTime fun t => { t with integ := i, lockCnt := n }
    let s := s.modGrid fun g => { g with delta := deltaOf ppb, deltaEnd := none }
    let s := if s.rd PBUS_SERVO.LOCKN ≤ n then s.setLocked 1 else s
    s.accUpdate
  else s.modGrid fun g => { g with delta := deltaOf theta, deltaEnd := some (g.now + second) }

/-- The source in use becomes `c` (R230, R233); with none, δ is 0 (R11). -/
def State.useSource (s : State) (c : Nat) : State :=
  let old := s.rd GRID_TQ.SOURCE
  let s := ((s.wr GRID_TQ.SOURCE c).wr PBUS_STATUS.TSRC c).wr GRID_TQ.HOLDOVER 0
  let s := if c = 0 then s.modGrid fun g => { g with delta := 0, deltaEnd := none } else s
  let s := s.modTime fun t => { t with hoAt := none, hoStep := 0 }
  let s := s.accUpdate
  if old = c then s else s.logEv 0x3011 0 c

/-- The source in use is lost (R232, R233): holdover when it was locked, free-run otherwise. -/
def State.loseSource (s : State) : State :=
  if s.rd GRID_TQ.LOCKED = 1 then
    let s := ((s.setLocked 0).wr GRID_TQ.HOLDOVER 1).modTime fun t =>
      { t with hoAt := some s.grid.now, hoStep := 0, lockCnt := 0 }
    s.logEv 0x3012
  else (s.modTime fun t => { t with lockCnt := 0 }).useSource 0

/-- The device time at which the source in use times out (R230). -/
def State.sourceDue (s : State) : Option Nat :=
  if s.rd GRID_TQ.HOLDOVER = 1 then none else
  match s.rd GRID_TQ.SOURCE with
  | 1 => s.pbus.ptp.ann.map fun a => min a (s.pbus.ptp.sync.getD a) + 3 * second
  | 2 => s.pbus.time.irig.map fun x => x.1 + 3 * second
  | 3 => s.pbus.time.ppsAt.map fun x => x + 3 * second + s.rd PBUS_PPS_CFG.WIN * 250
  | _ => none

/-- TAI − UTC as PBUS_UTC_SET gives it: with the leap seconds applied since it took effect (R235; DEDUCED, log entry 109). -/
def State.setUtc (s : State) : Nat := ((s.rd PBUS_UTC_SET.VALUE : Int) + s.pbus.time.leaps).toNat

/-- PTP's currentUtcOffset applies no longer: TAI − UTC comes from PBUS_UTC_SET (R235). -/
def State.dropUtc (s : State) : State :=
  if s.pbus.ptp.utc then (s.modPtp fun p => { p with utc := false }).wr GRID_UTC_OFS.VALUE s.setUtc else s

/-- The Announce receipt timeout of 3 s has passed (R230). -/
def State.announceLost (s : State) : Bool := s.pbus.ptp.ann.any fun t => decide (t + 3 * second ≤ s.grid.now)

/-- The leap second announced, and GRID_TQ.LEAP_PENDING (R235). -/
def State.setLeap (s : State) (d : Nat) : State := (s.modTime fun t => { t with leap := d }).wr GRID_TQ.LEAP_PENDING (b2n (d != 0))

/-- The state PTP_STATE reports: that of the SLAVE port when there is one. -/
def State.ptpRegs (s : State) : State :=
  match s.pbus.ptp.st.find? fun x => x.2 == 3 with
  | some (p, _) => (s.wr PBUS_STATUS.PTP_STATE 3).wr PBUS_STATUS.PTP_PORT p
  | none => (s.wr PBUS_STATUS.PTP_STATE ((s.pbus.ptp.st.map (·.2)).foldl min 7)).wr PBUS_STATUS.PTP_PORT 0

/-- Port `p` is SLAVE on the master of an Announce that came at `t`, its Sync timeout running from `y` (R230, R232, R235, R237):
another SLAVE port listens. -/
def State.ptpSlave (s : State) (p t y : Nat) (a : Announce) : State :=
  let s := s.modPtp fun x =>
    { x with st := tset (x.st.map fun e => if e.1 ≠ p ∧ e.2 = 3 then (e.1, 1) else e) p 3, ann := some t, cls := a.cls, sync := some y }
  let s := match a.utc with
    | some u => (s.modPtp fun x => { x with utc := true }).wr GRID_UTC_OFS.VALUE u
    | none => s.dropUtc
  let s := if a.leap61 then s.setLeap 1 else if a.leap59 then s.setLeap 2 else s
  s.accUpdate.ptpRegs

/-- In PRP mode the listening port that can stand in for SLAVE port `p`, with its latest Announce (R237). -/
def State.ptpStandIn (s : State) (p : Nat) : Option (Nat × Nat × Announce) :=
  if s.pbus.net.mode = 1 ∧ s.portOn (1 - p) ∧ tget 7 s.pbus.ptp.st p = 3 ∧ tget 7 s.pbus.ptp.st (1 - p) = 1 then
    match s.pbus.ptp.heard.find? fun x => x.1 == 1 - p with
    | some (q, t, a) => if s.grid.now < t + 3 * second then some (q, t, a) else none
    | none => none
  else none

/-- SLAVE port `p` is lost: the listening port of the doubly attached clock is used (R237). `none` when there is none. -/
def State.ptpTakeOver (s : State) (p : Nat) : Option State :=
  (s.ptpStandIn p).map fun x => s.ptpSlave x.1 x.2.1 s.grid.now x.2.2

/-- The state port `p` may take under the clock's role (R237): no MASTER in ROLE 0; an ordinary clock is one clock port, so it is
not MASTER on one port while the other is SLAVE (DEDUCED, log entry 110). -/
def State.ptpRole (s : State) (p st : Nat) : Nat :=
  if st = 4 ∧ (s.rd PBUS_PTP_CFG.ROLE = 0 ∨ (s.rd PBUS_PTP_CFG.ROLE = 1 ∧ tget 7 s.pbus.ptp.st (1 - p) = 3)) then 1 else st

/-- The state of port `p` as time alone changes it (R237): DISABLED while PTP or the port is off, LISTENING when it comes on, and once no
Announce has come for 3 s MASTER where the role admits it and LISTENING otherwise, as IEEE 1588 has it (PRESUMED, log entry 110). A SLAVE
port that a listening one stands in for yields to it. -/
def State.ptpPort (s : State) (p : Nat) : State :=
  let st := tget 7 s.pbus.ptp.st p
  let set := fun (v : Nat) => (s.modPtp fun x => { x with st := tset x.st p v }).ptpRegs
  if s.rd PBUS_PTP_CFG.EN = 0 ∨ !s.portOn p then (if st = 7 then s else set 7)
  else if st = 7 then (set 1).modPtp fun x => { x with from' := tset x.from' p s.grid.now }
  else if s.grid.now < tget 0 s.pbus.ptp.from' p + 3 * second ∨ st = 4 then s
  else match s.ptpTakeOver p with
    | some s => s
    | none => let v := s.ptpRole p 4; if v = st then s else set v

/-- The states of both PTP ports brought up to date (R237). -/
def State.ptpPorts (s : State) : State := (s.ptpPort 0).ptpPort 1

/-- The port whose link fell is lost to PTP (R237). -/
def State.ptpLinkLost (s : State) (p : Nat) : State :=
  if (s.rd PBUS_STATUS.LINK).testBit p then s else (s.ptpTakeOver p).getD s

/-- The time source in use is lost by timeout (R230, R233), unless PTP's other port takes over (R237). -/
def State.sourceLost (s : State) : State :=
  match s.sourceDue with
  | some t =>
    let s := s.atTime t
    let takes := if s.rd GRID_TQ.SOURCE = 1 then s.ptpTakeOver (s.rd PBUS_STATUS.PTP_PORT) else none
    match takes with
    | some s => s
    | none =>
      let s := if s.rd GRID_TQ.SOURCE = 1 ∧ s.announceLost then s.dropUtc else s
      (if s.rd GRID_TQ.SOURCE = 3 then s.modTime fun x => { x with ppsQual := false } else
       if s.rd GRID_TQ.SOURCE = 2 then s.modTime fun x => { x with irigOk := 0 } else s).loseSource.ptpPorts
  | none => s

/-- The next threshold of holdover passes (R233). -/
def State.hoDegrade (s : State) : State :=
  match s.pbus.time.hoAt with
  | none => s
  | some t0 =>
    let cfg := s.rd PBUS_HO_CFG.VALUE
    let next := match s.pbus.time.hoStep with
      | 0 => some (cfg % 65536, 1)
      | 1 => some (cfg / 65536, 2)
      | 2 => some (86400, 3)
      | _ => none
    match next with
    | some (d, a) => ((s.atTime (t0 + d * second)).modTime fun t => { t with hoStep := t.hoStep + 1 }).raiseTo GRID_TQ.ACC a
    | none => s

/-- A source is qualified (R230). -/
def State.qualified (s : State) (c : Nat) : Bool :=
  match c with
  | 1 =>
    let p := s.pbus.ptp
    let fresh := fun (x : Option Nat) => match x with | some t => decide (s.grid.now < t + 3 * second) | none => true
    s.rd PBUS_PTP_CFG.EN == 1 && p.st.any (fun x => x.2 == 3) && decide (p.cls < 248) && p.ann.isSome && fresh p.ann && fresh p.sync
  | 2 => decide (2 ≤ s.pbus.time.irigOk) && (match s.pbus.time.irig with
    | some (t, _) => decide (s.grid.now < t + 3 * second) | none => false)
  | 3 => s.pbus.time.ppsQual && (match s.pbus.time.ppsAt with
    | some t => decide (s.grid.now < t + 3 * second + s.rd PBUS_PPS_CFG.WIN * 250) | none => false)
  | 4 => s.pbus.time.hostSet
  | _ => false

/-- The highest-priority listed source that is qualified. -/
def State.bestSource (s : State) : Option Nat :=
  [s.rd PBUS_TSRC_CFG.P0, s.rd PBUS_TSRC_CFG.P1, s.rd PBUS_TSRC_CFG.P2, s.rd PBUS_TSRC_CFG.P3].find? s.qualified

/-- A TAI second boundary: the source in use is chosen (R230, R233). -/
def State.srcSelect (s : State) : State :=
  let now := s.tai / 1000000000
  let k := match s.pbus.time.sel with | some k => if now ≤ k then k + 1 else now | none => now
  -- the first device time at which TAI has reached second k
  let t := ((k * 1000000000 - s.grid.taiOfs + 3) / 4).toNat
  let s := ((s.atTime t).modTime fun x => { x with sel := some k }).ptpPorts
  let s := if s.announceLost then s.dropUtc else s
  match s.bestSource with
  | some c => if s.rd GRID_TQ.SOURCE = c ∧ s.rd GRID_TQ.HOLDOVER = 0 then s else s.useSource c
  | none => if s.rd GRID_TQ.SOURCE = 0 ∨ s.rd GRID_TQ.HOLDOVER = 1 then s else s.loseSource

/-- The measurement of a source steers the servo while that source is in use (R230, R231). -/
def State.steer (s : State) (c : Nat) (theta : Int) : State :=
  if s.rd GRID_TQ.SOURCE = c ∧ s.rd GRID_TQ.HOLDOVER = 0 then s.measure theta false else s

/-! ### PTP (R236 to R238) -/

/-- offsetFromMaster of a Sync at port `p`, its delimiter at device time `t` (R204, R230, R231): the device's TAI at its receive stamp less the
master's, which is the origin timestamp with the correctionField and the peer delay of the port added. A fraction of a ns is left open. -/
def State.ptpTheta (s : State) (p t : Nat) (m : SyncMsg) : Int :=
  (s.rxNs p t : Int) + s.grid.taiOfs - m.origin - s.rd PBUS_PORT_PDELAY.VALUE p - openDiv 44 m.corr 65536

/-- A Sync of the device's domain gives an offset from the master at a port (R230, R231, R236). -/
def State.ptpSync (s : State) (p t : Nat) (m : SyncMsg) : State :=
  if s.rd PBUS_PTP_CFG.EN = 0 ∨ !s.portOn p ∨ m.dom.toNat ≠ s.rd PBUS_PTP_CFG.DOMAIN ∨ tget 7 s.pbus.ptp.st p ≠ 3 then s else
  ((s.atTime t).modPtp fun x => { x with sync := some t }).steer 1 (s.ptpTheta p t m)

/-- An Announce of the device's domain is received at a port (R230, R232, R235 to R237). The best-master selection of IEEE 1588 is the
operand's (log entry 32). -/
def State.ptpAnnounce (s : State) (p t : Nat) (a : Announce) : State :=
  if s.rd PBUS_PTP_CFG.EN = 0 ∨ !s.portOn p ∨ a.dom ≠ s.rd PBUS_PTP_CFG.DOMAIN then s else
  let s := (s.atTime t).ptpPorts
  let st := s.ptpRole p a.st.val
  let was := tget 7 s.pbus.ptp.st p
  let s := s.modPtp fun x => { x with st := tset x.st p st, heard := (p, t, a) :: x.heard.filter fun e => e.1 != p, from' := tset x.from' p t }
  if st ≠ 3 then s.ptpRegs else
  let s := if s.rd PBUS_PTP_CFG.ROLE = 1 ∧ tget 7 s.pbus.ptp.st (1 - p) = 4 then s.modPtp fun x => { x with st := tset x.st (1 - p) 1 } else s
  s.ptpSlave p t (if was = 3 then s.pbus.ptp.sync.getD t else t) a

/-- A message from port `p` at device time `t`; an ordinary clock's one port has number 1, the ports of a boundary clock 1 and 2
(R200, R236, R237). -/
def State.ptpMsg (s : State) (kind : PtpKind) (p : Nat) : PtpTx :=
  { kind := kind, port := p, num := if s.rd PBUS_PTP_CFG.ROLE = 2 then p + 1 else 1, src := s.ownMac, dom := s.rd PBUS_PTP_CFG.DOMAIN }

/-- The peer delay of a response whose delimiter came at device time `t`, in ns (R204, R236): half of what the round trip, from the request's
transmit stamp to the response's receive stamp, has beyond the peer's turnaround and the correctionFields. A fraction of a ns is left open, and
a negative result reads 0 (DESIGN CHOICE, log entry 119). -/
def State.peerDelay (s : State) (p t t1 : Nat) (a : PdelayAns) : Nat :=
  (openDiv 45 (((s.rxNs p t : Int) - t1 - (a.t3 - a.t2)) * 65536 - a.corr) 131072).toNat

/-- A Pdelay message of the device's domain at a port (R236): a request is answered with its receive stamp and the answer's transmit
stamp; a response to the device's own request measures the peer delay. -/
def State.pdelayRx (s : State) (p t : Nat) (m : PdelayMsg) : State :=
  if s.rd PBUS_PTP_CFG.EN = 0 ∨ !s.portOn p ∨ m.dom.toNat ≠ s.rd PBUS_PTP_CFG.DOMAIN then s else
  let s := s.atTime t
  match m.ans with
  | some a =>
    match tfind s.pbus.ptp.req p with
    | some t1 => (s.modPtp fun x => { x with req := terase x.req p }).wr PBUS_PORT_PDELAY.VALUE (s.peerDelay p t t1 a) p
    | none => s
  | none =>
    let rx := s.rxNs p t / 4
    let tx := s.txStamp p s.grid.now
    let resp := { s.ptpMsg .pdelayResp p with rx := some rx, stamp := some tx }
    s.modPtp fun x => { x with sent := if s.rd PBUS_PTP_CFG.ONESTEP = 1 then [resp]
                               else [resp, { s.ptpMsg .pdelayRespFollowUp p with rx := some rx, stamp := some tx }] }

/-- The clockClass the device announces in MASTER state (R238). -/
def State.ownClass (s : State) : Nat :=
  if s.rd GRID_TQ.HOLDOVER = 1 then 7
  else if s.rd GRID_TQ.LOCKED = 1 ∧ (s.rd GRID_TQ.SOURCE = 2 ∨ s.rd GRID_TQ.SOURCE = 3) ∧ s.rd GRID_TQ.ACC = 0 then 6
  else 248

/-- The clockAccuracy code of IEEE 1588 for an ACC (R238): within 1 us, 10 us, 1 ms, unknown (PRESUMED, log entry 110). -/
def clockAccuracy (acc : Nat) : Nat := if acc = 0 then 0x23 else if acc = 1 then 0x25 else if acc = 2 then 0x29 else 0xFE

/-- What a port sends at a one-second interval at device time `t` (R204, R236, R238). -/
def State.ptpBurst (s : State) (t p : Nat) : List PtpTx :=
  let st := s.txStamp p t
  let req := { s.ptpMsg .pdelayReq p with stamp := some st }
  if tget 7 s.pbus.ptp.st p ≠ 4 then [req] else
  let tai := (s.txNs p t : Int) + s.grid.taiOfs
  let ann := { s.ptpMsg .announce p with
    tai := some (s.taiOf t), cls := s.ownClass, acc := clockAccuracy (s.rd GRID_TQ.ACC), prio1 := s.rd PBUS_PTP_CFG.PRIO1,
    prio2 := s.rd PBUS_PTP_CFG.PRIO2 }
  let sync := { s.ptpMsg .sync p with stamp := some st }
  if s.rd PBUS_PTP_CFG.ONESTEP = 1 then [req, ann, { sync with tai := some tai }]
  else [req, ann, sync, { s.ptpMsg .followUp p with tai := some tai }]

/-- At each second the device sends Pdelay_Req, and Sync and Announce on each MASTER port (R236, R238). -/
def State.ptpSend (s : State) : State :=
  if s.rd PBUS_PTP_CFG.EN = 0 then s else
  let t := max s.grid.now s.pbus.ptp.next
  let s := (s.atTime t).ptpPorts
  let ps := [0, 1].filter s.portOn
  let l := ps.flatMap (s.ptpBurst t)
  s.modPtp fun x => { x with next := t + second, sent := l, req := ps.foldl (fun r p => tset r p (s.txNs p t)) x.req }

/-! ### IRIG-B and 1PPS (R239, R240) -/

/-- Days from 1970-01-01 to the first day of a year. -/
def yearDays (y : Int) : Int := 365 * (y - 1970) + (y - 1969) / 4 - (y - 1901) / 100 + (y - 1601) / 400

/-- UTC seconds since 1970 of a decoded IRIG time in a year (R239). -/
def irigSec (f : IrigTime) (y : Int) : Int :=
  (yearDays y + f.doy - 1) * 86400 + f.hour * 3600 + f.min * 60 + f.sec - f.ofs * 1800

/-- The TAI second of a decoded IRIG frame whose marker came at the present time (R239). The epoch of TAI is that of PTP
(PRESUMED, log entry 33). -/
def State.irigTai (s : State) (f : IrigTime) : Int :=
  let utc := s.tai / 1000000000 - s.rd GRID_UTC_OFS.VALUE
  let f := if s.rd PBUS_IRIG_CFG.EXT = 1 then f else { f with ofs := 0 }
  let y : Int := if s.rd PBUS_IRIG_CFG.YEAR = 1 then 2000 + f.year
    else
      let y0 := 1970 + utc / 31556952
      let d := fun (y : Int) => (irigSec f y - utc).natAbs
      let a := if d (y0 - 1) < d y0 then y0 - 1 else y0
      if d (y0 + 1) < d a then y0 + 1 else a
  irigSec f y + s.rd GRID_UTC_OFS.VALUE

/-- An IRIG-B element: 0, 1, or 2 for a marker, by its pulse width of 2, 5 or 8 ms ± 1 ms (R239). -/
def irigElem (w : Nat) : Option Nat :=
  if 250000 ≤ w ∧ w ≤ 750000 then some 0 else if 1000000 ≤ w ∧ w ≤ 1500000 then some 1
  else if 1750000 ≤ w ∧ w ≤ 2250000 then some 2 else none

/-- `n` element bits from place `i`, least significant first. -/
def irigBits (e : List Nat) (i n : Nat) : Nat := (List.range n).foldr (fun k a => e.getD (i + k) 0 + 2 * a) 0

/-- The frame that 100 elements spell, with a year field or without; `none` when it does not decode. Without one the places of the year are
control functions. The rule names the code: the places of its markers and of its
BCD and IEEE 1344 fields are those of IRIG-B (PRESUMED, log entry 111). -/
def irigDecode (year : Bool) (w : List Nat) : Option IrigTime :=
  if w.length ≠ 100 then none else
  match w.mapM irigElem with
  | none => none
  | some e =>
    let marks := (List.range 100).all fun i => (e.getD i 0 == 2) == (i == 0 || i % 10 == 9)
    let d := irigBits e
    let digits := [d 1 4, d 10 4, d 20 4, d 30 4, d 35 4] ++ if year then [d 50 4, d 55 4] else []
    if !marks ∨ digits.any (fun x => decide (9 < x)) then none else
    let half := 2 * d 65 4 + d 70 1
    let f : IrigTime :=
      { sec := d 1 4 + 10 * d 6 3, min := d 10 4 + 10 * d 15 3, hour := d 20 4 + 10 * d 25 2, doy := d 30 4 + 10 * d 35 4 + 100 * d 40 2,
        year := if year then d 50 4 + 10 * d 55 4 else 0, lsp := d 60 1 == 1, del := d 61 1 == 1, ofs := if d 64 1 = 1 then -(half : Int) else half, tq := d 71 4 }
    if f.sec ≤ 60 ∧ f.min < 60 ∧ f.hour < 24 ∧ 1 ≤ f.doy ∧ f.doy ≤ 366 then some f else none

/-- The frame that IRIG_IN receives: pulses of the other polarity than PBUS_IRIG_CFG.POL expects do not decode (R239). -/
def State.irigRead (s : State) (r : IrigRaw) : Option IrigTime :=
  if s.rd PBUS_IRIG_CFG.POL = b2n r.low then irigDecode (s.rd PBUS_IRIG_CFG.YEAR == 1) r.w else none

/-- An IRIG-B frame ends, its reference marker at device time `t`; `none` when it could not be decoded (R230, R239). -/
def State.irigFrame (s : State) (t : Nat) (f : Option IrigTime) : State :=
  let s := s.atTime t
  match f with
  | none =>
    let n := s.pbus.time.irigBad + 1
    let s := (s.bump PBUS_IRIG_ERR.VALUE).modTime fun x => { x with irigBad := n, irigOk := if 3 ≤ n then 0 else x.irigOk }
    if n = 3 ∧ s.rd GRID_TQ.SOURCE = 2 ∧ s.rd GRID_TQ.HOLDOVER = 0 then s.loseSource else s
  | some f =>
    -- without a year field the source does not qualify until TAI has been set
    if s.rd PBUS_IRIG_CFG.YEAR = 0 ∧ !s.pbus.time.taiSet then s else
    let sec := s.irigTai f
    let x := s.pbus.time
    -- two good frames in a row qualify; fewer than three bad or missing ones leave the source qualified
    let ok := match x.irig with
      | some (u, p) => if t < u + 3 * second + second / 2 ∧ 2 ≤ x.irigOk then 2 else if x.irigBad = 0 ∧ sec = p + 1 then 2 else 1
      | none => 1
    let s := s.modTime fun x => { x with irig := some (t, sec), irigOk := ok, irigBad := 0, irigTq := f.tq }
    let s := if s.rd PBUS_IRIG_CFG.EXT = 1 ∧ f.lsp then s.setLeap (if f.del then 2 else 1) else s
    (s.steer 2 (s.taiOf t - sec * 1000000000)).accUpdate

/-- A host write of PBUS_TOD_LO or _HI (R240). -/
def State.todWrite (s : State) (hi : Bool) (w : Nat) : State :=
  (if hi then s.wr PBUS_TOD_HI.VALUE w else s.wr PBUS_TOD_LO.VALUE w).modTime fun t => { t with todSet := true }

/-- An edge on PPS_IN at device time `t` that begins a pulse of `width` device-time units (R230, R240). -/
def State.ppsEdge (s : State) (t width : Nat) (falling : Bool) : State :=
  if s.rd PBUS_PPS_CFG.POL ≠ b2n falling ∨ width < 250 then s else
  let s := s.atTime t
  let x := s.pbus.time
  let win := s.rd PBUS_PPS_CFG.WIN * 250
  -- three missing edges lose the source; distance from the nearest expected second, which lies whole seconds after the last accepted edge
  let gone := match x.ppsAt with | some p => decide (p + 3 * second + win < t) | none => false
  let qual := x.ppsQual && !gone
  let off := match x.ppsAt with
    | some p => let d := (t - p) % second; if t - p < second then second - d else min d (second - d)
    | none => 0
  let one := match x.ppsAt with | some p => decide (second ≤ t - p + win) && decide (t - p ≤ second + win) | none => false
  if qual ∧ win < off then s.bump PBUS_PPS_REJ.VALUE else
  let sec := s.rd64 PBUS_TOD_LO.VALUE PBUS_TOD_HI.VALUE
  let s := s.modTime fun x => { x with ppsAt := some t, ppsQual := x.todSet && (qual || one) }
  if !x.todSet then s else
  (s.wr64 PBUS_TOD_LO.VALUE PBUS_TOD_HI.VALUE (sec + 1)).steer 3 (s.taiOf t - (sec : Int) * 1000000000)

/-! ### Host-set time and UTC (R235, R241) -/

/-- TIME_SET (R241). -/
def cmdTimeSet (s : State) (_q : Bool) (p : Packet) : CmdRes :=
  let tai := sx 64 (p.word 0 + 2 ^ 32 * p.word 1)
  let d := p.word 2 + 2 ^ 32 * p.word 3
  let src := s.rd GRID_TQ.SOURCE
  if p.len ≠ 16 then s.badLength
  else if p.target.toNat ≠ 0 then s.badTarget 0
  else if src = 1 ∨ src = 2 ∨ src = 3 then s.busy 10
  else if s.grid.now < d ∨ d + 10 * second < s.grid.now then s.badTarget 11
  else ((s.modTime fun t => { t with hostSet := true }).measure (s.taiOf d - tai) true).ok

/-- A host write of PBUS_LEAP (R235); 0 takes an announcement back and 3 announces none (DESIGN CHOICE, log entry 34). -/
def State.leapWrite (s : State) (w : Nat) : State :=
  let d := w % 4
  if d = 3 then s else (s.wr PBUS_LEAP.DIR d).setLeap d

/-- The end of the UTC day with a leap second pending (R235): an inserted second ends the day one second later, a deleted
one a second earlier (DEDUCED, log entry 35). -/
def State.utcChange (s : State) : State :=
  let d := s.pbus.time.leap
  if d = 0 then s else
  let ofs := s.rd GRID_UTC_OFS.VALUE
  let utc := s.tai / 1000000000 - ofs
  let dayEnd := (utc / 86400 + 1) * 86400 + ofs + (if d = 1 then 1 else -1)
  let t := ((dayEnd * 1000000000 - s.grid.taiOfs + 3) / 4).toNat
  let v := if d = 1 then ofs + 1 else ofs - 1
  let s := ((s.atTime t).wr GRID_UTC_OFS.VALUE v).wr PBUS_LEAP.DIR 0
  let s := s.modTime fun x => { x with leaps := x.leaps + (if d = 1 then 1 else -1) }
  (s.setLeap 0).logEv 0x3013 0 v

end Sys2Proof.Machine
end

