-- ==== Sys2Proof/Machine/Filter.lean ====
section
/-! DEFINITION. The filter chain's commands, its settings changes, and the threshold detectors (R171 to R194). -/
namespace Sys2Proof.Machine
open Reg

/-- The channel mask of two parameter words. -/
def Packet.mask64 (p : Packet) : Nat := p.word 0 + 2 ^ 32 * p.word 1

/-! ### FLT_SYNC (R171 to R173, R189) -/

/-- The reset instant of a FLT_SYNC accepted now (R173): the first multiple of 2,000 at least 2 us on. -/
def State.syncInstant (s : State) : Nat := (s.grid.now + 500 + 1999) / 2000 * 2000

/-- FLT_SYNC (R171, R172). -/
def cmdFltSync (s : State) (_q : Bool) (p : Packet) : CmdRes :=
  let m := p.mask64
  if p.len ≠ 8 then s.badLength
  else if m = 0 ∨ p.target.toNat ≠ 0 then s.badTarget 0
  else if s.inService (maskIdx 64 m) then s.busy 1
  else
    let t := s.syncInstant * 2 ^ 32
    ((forL (maskIdx 64 m) (fun c s => s.setChan c { s.chan c with sync := (s.chan c).sync ++ [t] }) s).wr
      FLT_STATUS.SYNC_PEND 1).ok

/-! ### Coefficient banks (R160, R162, R165, R175 to R179) -/

/-- A coefficient word as stored (R160). -/
def coef (w : Nat) : Int := sx 24 w

/-- The bank an FLT_BANK_LOAD carries (R176). -/
def bankOf (p : Packet) : FBank :=
  let hd := p.word 2
  let type := hd % 2
  let rc := hd / 2 % 8
  if hd.testBit 4 then stdBank type rc else
  { minPhase := type == 1, rcode := rc,
    h := (List.range 64).map fun i => coef (p.word (3 + i)),
    g := (List.range 43).map fun i => coef (p.word (67 + i)),
    gd := if type = 1 then (List.range 16).map fun i => p.word (110 + i) else [],
    pr := if type = 1 then (List.range 16).map fun i => sx 32 (p.word (126 + i)) else [],
    rom := false }

/-- Load the non-active bank of a channel (R176). -/
def State.loadBank (s : State) (c : Nat) (b : FBank) : State :=
  let k := s.chan c
  let s := s.setChan c (if s.rd FLT_CH_STATUS.ACTIVE c = 0 then { k with bankB := some b } else { k with bankA := some b })
  (s.digRegs c).fltStatus c

/-- A channel waits, fades or holds a queued swap (R177). -/
def State.swapBusy (s : State) (c : Nat) : Bool := (s.chan c).swap.isSome

/-- FLT_BANK_LOAD (R176 to R179). The banks of all its channels are written in one copy. -/
def cmdFltBankLoad (s : State) (_q : Bool) (p : Packet) : CmdRes :=
  let hd := p.word 2
  let want := if hd.testBit 4 then 12 else if hd.testBit 0 then 568 else 440
  let chs := maskIdx 64 p.mask64
  let b := bankOf p
  if p.len < 12 ∨ p.len ≠ want then s.badLength
  else if chs.isEmpty ∨ p.target.toNat ≠ 0 then s.badTarget 0
  else if chs.any s.swapBusy then s.busy 4
  else if !b.rom && !b.minPhase && (b.h != b.h.reverse || b.g != b.g.reverse) then s.badTarget 6
  else if !b.rom && (!dcOk b.h || !dcOk b.g) then s.badTarget 7
  else if chs.any fun c => s.rd FLT_CH_CFG.RCODE c != b.rcode then s.badTarget 8
  else
    let d := b.digest
    ((forL chs (fun c s => s.loadBank c b) s).storeBanks chs).ok [d % 2 ^ 32, d / 2 ^ 32]

/-! ### FLT_BANK_SWAP (R180 to R185) -/

/-- A bank may come into force on a channel in protection service (R181). -/
def State.allowed (s : State) (b : FBank) : Bool :=
  let d := b.digest
  b.rom || [0, 1, 2, 3, 4].any (fun r => (stdBank 0 r).digest == d || (stdBank 1 r).digest == d)
  || (d != 0 && [s.rd64 FLT_ALLOW0_LO.VALUE FLT_ALLOW0_HI.VALUE, s.rd64 FLT_ALLOW1_LO.VALUE FLT_ALLOW1_HI.VALUE,
      s.rd64 FLT_ALLOW2_LO.VALUE FLT_ALLOW2_HI.VALUE, s.rd64 FLT_ALLOW3_LO.VALUE FLT_ALLOW3_HI.VALUE].contains d)

/-- FLT_BANK_SWAP (R180 to R185, checked in the order of R181). -/
def cmdFltBankSwap (s : State) (_q : Bool) (p : Packet) : CmdRes :=
  let m := p.mask64
  let chs := maskIdx 64 m
  let w := p.word 2
  let fade := w % 16
  let atTick := w.testBit 8
  let n := p.word 3 + 2 ^ 32 * p.word 4
  if p.len < 12 ∨ p.len ≠ (if atTick then 20 else 12) then s.badLength
  else if m = 0 ∨ p.target.toNat ≠ 0 then s.badTarget 0
  else if 12 < fade then s.badTarget 9
  else if chs.any fun c => (if (s.chan c).swap.isSome then s.activeBank c |> some else s.idleBank c).isNone then s.badTarget 5
  else if chs.any fun c => (s.chan c).queued.isSome then (s.bump FLT_XFADE_BUSY_CNT.VALUE).answer .xfadeBusy
  else if chs.any fun c => s.inService [c] &&
      !s.allowed ((if (s.chan c).swap.isSome then some (s.activeBank c) else s.idleBank c).getD (s.activeBank c)) then s.answer .authFail
  else
    let late := atTick && decide (n < s.grid.nextN)
    let id := s.afe.swapNo
    let r : SwapReq := { tag := p.tag.toNat, id := id, fade := fade, start := s.grid.now * 2 ^ 32,
                         tick := if atTick && !late then some n else none }
    let s := s.modAfe fun a => { a with swapNo := id + 1, swaps := a.swaps ++ [(id, p.tag.toNat, chs)] }
    let s := forL chs (fun c s =>
      let k := s.chan c
      (s.setChan c (if k.swap.isSome then { k with queued := some r } else { k with swap := some r })).fltStatus c) s
    s.accepted [m % 2 ^ 32, m / 2 ^ 32, b2n late]

/-! ### Channels at cycle boundaries and at start-up (R36, R37, R179) -/

/-- A cycle begins: D_chain and the residual of channel `c` are for the bank that is active now, whatever becomes active before f_c is
known (R36, R186). -/
def State.cycleBank (s : State) (c : Nat) : State := s.setChan c { s.chan c with cyc := some (s.activeBank c) }

/-- The D_chain applied (R36, R164, R186) and the residual (R37) of a channel, whatever its MODE, at the frequency applied. -/
def State.chainRegs (s : State) (c : Nat) : State :=
  let b := (s.chan c).cyc.getD (s.activeBank c)
  (s.wrI FLT_CH_DCHAIN.VALUE (s.dChainOf c b) c).wrI GRID_CH_RESID.VALUE (s.residOf b) c

/-- Restore the banks and selections of the channels from the newer good copy in MRAM; `bad` says which copies start-up finds bad. Without
a good copy every channel starts with the linear-phase standard set of its R (R179). -/
def State.restoreBanks (s : State) (bad : BitVec 2) : State :=
  let s := s.modAfeNv fun n => { n with store := n.store.found bad }
  let t := s.nv.afe.store.good
  let s := if t.isNone then (s.wr FLT_STATUS.STORE_FAIL 1).logEv 0x2004 else s
  forN 64 (fun c s =>
    let e := tget (some (stdBank 0 (s.rd FLT_CH_CFG.RCODE c)), none, 0) (t.getD []) c
    (((s.setChan c { s.chan c with bankA := e.1, bankB := e.2.1 }).wr FLT_CH_STATUS.ACTIVE e.2.2 c).digRegs c).fltStatus c |>.normReg c) s

/-! ### Threshold detectors (R190 to R194) -/

/-- The measure of detector `t` at tick record `r`: m², W and m for the value, or `none` when an input is not valid
(R190, R191). The comparison quantity is (Σx², W) for RMS and (m², 1) otherwise. -/
def State.tdMeasure (s : State) (t : Nat) (r : TickRec) (since : Nat) : Option (Nat × Nat × Nat) :=
  let g := s.rd FLT_TD_CFG.CH t
  let w := s.rd FLT_TD_WIN.W t + 1
  let one := fun (m : Nat) => some (m * m, 1, m)
  match s.rd FLT_TD_CFG.MEAS t with
  | 0 => if hasBit (r.at' g).ssw bVALID then one (r.at' g).v.natAbs else none
  | 1 =>
    let l := ((s.histFrom r.n).take w).map fun x => x.at' g
    if l.length = w ∧ w ≤ since ∧ l.all (fun x => hasBit x.ssw bVALID) then
      let q := l.foldl (fun a x => a + x.v.natAbs * x.v.natAbs) 0
      some (q, w, isqrt (q / w))
    else none
  | 2 =>
    match ((s.histFrom r.n).drop w).head? with
    | some o =>
      if w < since ∧ hasBit (r.at' g).ssw bVALID ∧ hasBit (o.at' g).ssw bVALID then one ((r.at' g).v - (o.at' g).v).natAbs
      else none
    | none => none
  | _ =>
    let p := s.phasor g r.n
    if hasBit p.psw bVALID then one (magOf p.re p.im) else none

/-- Whether a measure qualifies against the detector's limits (R192). -/
def State.tdHit (s : State) (t : Nat) (q w : Nat) : Bool :=
  let th := s.rd FLT_TD_TH.VALUE t
  let h := th * s.rd FLT_TD_CFG.HYST t / 256
  let ge := fun (x : Nat) => decide (x * x * w ≤ q)
  if s.rd FLT_TD_CFG.DIR t = 0 then
    if s.rd FLT_TD_STATUS.STATE t = 0 then ge th else !ge (th - h)
  else
    if s.rd FLT_TD_STATUS.STATE t = 0 then !ge th else ge (th + h)

/-- What detector `t` holds beside its registers. -/
def State.tdSt (s : State) (t : Nat) : TdSt := tget {} s.td t

/-- Detector `t` at tick record `r` (R190 to R193). -/
def State.tdTick (s : State) (t : Nat) (r : TickRec) : State :=
  let x := s.tdSt t
  let since := x.since + 1
  let s := { s with td := tset s.td t { x with since := since, next := r.n + 1, fired := 0 } }
  match s.tdMeasure t r since with
  | none => (s.wr FLT_TD_STATUS.FROZEN 1 t).wr FLT_TD_STATUS.COUNT 0 t
  | some (q, w, m) =>
    let s := (s.wr FLT_TD_STATUS.FROZEN 0 t).wr FLT_TD_MAG.VALUE (min m (2 ^ 32 - 1)) t
    if !s.tdHit t q w then s.wr FLT_TD_STATUS.COUNT 0 t else
    let c := s.rd FLT_TD_STATUS.COUNT t + 1
    if c < s.rd FLT_TD_CFG.Q t then s.wr FLT_TD_STATUS.COUNT c t else
    let up := s.rd FLT_TD_STATUS.STATE t = 0
    let s := (s.wr FLT_TD_STATUS.COUNT 0 t).wr FLT_TD_STATUS.STATE (if up then 1 else 0) t
    let d := s.tdSt t
    let s := { s with td := tset s.td t { d with fired := if up then 1 else 2, out := Trace.push d.out r.n (b2n up) } }
    let s := if up then s.bump FLT_TD_PICKUP_CNT.VALUE t else s
    if s.rd FLT_TD_CFG.EVT t = 1 then s.logAt (r.t / 2 ^ 24) (if up then 0x2010 else 0x2011) t (min m (2 ^ 32 - 1)) else s

/-- A detector restarts (R194). -/
def State.tdRestart (s : State) (t n : Nat) : State :=
  let s := { s with td := tset s.td t { since := 0, next := n, out := Trace.push (s.tdSt t).out n 0 } }
  ((s.wr FLT_TD_STATUS.STATE 0 t).wr FLT_TD_STATUS.COUNT 0 t).wr FLT_TD_STATUS.FROZEN 0 t

/-- Detector `t` is to restart at tick `n`: at once when it has evaluated every tick before it, else as it comes to it (R194, R558). -/
def State.tdRestartAt (s : State) (t n : Nat) : State :=
  let x := s.tdSt t
  if n ≤ x.next then s.tdRestart t n else { s with td := tset s.td t { x with restart := some n } }

/-- Detector `t` takes the next tick in its turn, on the settings of that tick. -/
def State.tdStep (s : State) (t : Nat) (r : TickRec) : State :=
  let s := if (s.tdSt t).restart.any fun m => decide (m ≤ r.n) then s.tdRestart t r.n else s
  s.onTick r.n fun s =>
    if s.rd FLT_TD_CFG.EN t = 1 then s.tdTick t r
    else { s with td := tset s.td t { s.tdSt t with next := r.n + 1, fired := 0 } }

/-- The ticks detector `t` has still to see and can: its channel's samples of them have been delivered, and their cycle is decided. -/
def State.tdReady (s : State) (t : Nat) : List TickRec :=
  let x := s.tdSt t
  ((s.grid.hist.takeWhile fun r => decide (x.next ≤ r.n)).reverse).takeWhile fun r =>
    s.decided r.n && !r.wait.contains ((s.bankAt r.n).fld FLT_TD_CFG.CH t)

/-- Run detector `t` over ticks until `stop` holds of what fired. -/
def State.tdRun (s : State) (t : Nat) (stop : Nat → Bool) : List TickRec → State
  | [] => s
  | r :: rest =>
    let s := s.tdStep t r
    if stop (s.tdSt t).fired then s else s.tdRun t stop rest

/-- Detector `t` is enabled, or was before the latest swap. -/
def State.tdOn (s : State) (t : Nat) : Bool :=
  s.rd FLT_TD_CFG.EN t == 1 || s.prev.any fun x => x.1.fld FLT_TD_CFG.EN t == 1

/-- The detectors with ticks to evaluate. -/
def State.tds (s : State) : List Nat := (List.range 128).filter s.tdOn

/-- Every detector brought up to the ticks it can see (R190). -/
def State.tdAll (s : State) : State := forL s.tds (fun t s => s.tdRun t (fun _ => false) (s.tdReady t)) s

/-- A pickup (`k` = 1) or a dropout (2) of detector `t`: it takes place when the ticks not yet seen bring it (R192). -/
def State.tdEvent (s : State) (t k : Nat) : State :=
  if !s.tdOn t then s else
  let u := s.tdRun t (· == k) (s.tdReady t)
  if (u.tdSt t).fired = k then u else s

/-! ### Runs of one channel that a happening ends (R73 to R93, R173, R182, R187) -/

/-- Run channel `c` over codes, as far as the next tick; the run stands when it brings the happening `e`. -/
def State.chanEvent (s : State) (c e : Nat) (codes : Codes) : State :=
  let k := s.chan c
  let u := (s.runChan c (min (s.runLimit c) (k.tm + codes.length * s.modStep)) (fun _ => false) codes).syncPend
  if hasBit (u.chan c).ev e then u.atTime ((u.chan c).tm / 2 ^ 32) else s

/-- Run channel `c` over codes, and then with no input, until the happening `e` and as far as the next tick; the run stands when it comes. -/
def State.chanUntil (s : State) (c e : Nat) (codes : Codes) : State :=
  let u := (s.runChan c (s.runLimit c) (fun k => hasBit k.ev e) codes).syncPend
  if hasBit (u.chan c).ev e then u.atTime ((u.chan c).tm / 2 ^ 32) else s

end Sys2Proof.Machine
end

