-- ==== Sys2Proof/Machine/RegElmLv.lean ====
section
/-! DEFINITION. The register fields of spec file 08_voltage_frequency_and_other_elements.md: address, array shape, bit place, access code, reset value
and (for a settings field) the range R697 binds. -/
namespace Sys2Proof.Machine.Reg
open Field

/-- FREQ, ROCOF, POWER: sense (R318) -/
def ELM_LCFG.DIR : Field := mkArr 0xA0000 64 2048 0 1 14 1 .SP 0
/-- UV, OV, UC: 0 any phase, 1 all phases -/
def ELM_LCFG.PHL : Field := mkArr 0xA0000 64 2048 0 1 15 1 .SP 0
/-- UV, OV, RESOV, ROCOF (R318); 3 is rejected at staging -/
def ELM_LCFG.QSEL : Field := mkArr 0xA0000 64 2048 0 1 16 2 .SP 0
/-- Level types: R304 -/
def ELM_LCFG.QBLK : Field := mkArr 0xA0000 64 2048 0 1 18 1 .SP 0
/-- HARM2, HARM5: R329 -/
def ELM_LCFG.XBLK : Field := mkArr 0xA0000 64 2048 0 1 14 1 .SP 0
/-- BF: breaker status may stand for the current check -/
def ELM_LCFG.CBMODE : Field := mkArr 0xA0000 64 2048 0 1 14 1 .SP 0
/-- BF: residual check -/
def ELM_LCFG.RES : Field := mkArr 0xA0000 64 2048 0 1 15 1 .SP 0
/-- CLP: breaker knot used -/
def ELM_LCFG.CBEN : Field := mkArr 0xA0000 64 2048 0 1 14 1 .SP 0
/-- SYNC: line quantity, 0 to 6; 7 to 15 are rejected at staging -/
def ELM_LCFG.REF : Field := mkArr 0xA0000 64 2048 0 1 14 4 .SP 6
/-- +0x08. TH in the format of R318 -/
def ELM_LV_TH.VALUE : Field := mkArr 0xA0008 64 2048 0 1 0 32 .SP 0
/-- +0x0C. Operate delay, µs, 0 to 600,000,000 -/
def ELM_LV_TDEF.VALUE : Field := mkArr 0xA000C 64 2048 0 1 0 32 .SP 0
/-- +0x10. Reset delay, µs, 0 to 600,000,000 -/
def ELM_LV_TDO.VALUE : Field := mkArr 0xA0010 64 2048 0 1 0 32 .SP 0
/-- +0x14. Per R318. Bits [31:8] reserved -/
def ELM_LV_HYST.VALUE : Field := mkArr 0xA0014 64 2048 0 1 0 8 .SP 5
/-- +0x18. Supervision level (R318) -/
def ELM_LV_SUP.VALUE : Field := mkArr 0xA0018 64 2048 0 1 0 32 .SP 0
/-- +0x1C. ROCOF: W, 1 to 16; POWER: ANG, two's complement. Out of range is rejected at staging -/
def ELM_LV_AUX.VALUE : Field := mkArr 0xA001C 64 2048 0 1 0 32 .SP 0
/-- +0x2C. Q of the phase nearest pickup, format of TH -/
def ELM_LV_Q.VALUE : Field := mkArr 0xA002C 64 2048 0 1 0 32 .RO 0
/-- +0x30. tm, µs, saturated -/
def ELM_LV_TM.VALUE : Field := mkArr 0xA0030 64 2048 0 1 0 32 .RO 0
/-- +0x3C. tm at the latest rise of OP, µs -/
def ELM_LV_OPTIME.VALUE : Field := mkArr 0xA003C 64 2048 0 1 0 32 .RO 0
/-- +0x08. Basic current, grid units; 0 is rejected at staging -/
def ELM_TH_IB.VALUE : Field := mkArr 0xA0008 64 2048 0 1 0 32 .SP 0x2000000
/-- +0x0C. Heating constant, ms, 1,000 to 36,000,000 -/
def ELM_TH_TAU.VALUE : Field := mkArr 0xA000C 64 2048 0 1 0 32 .SP 0x927c0
/-- +0x10. Cooling constant, ms, same range -/
def ELM_TH_TAUC.VALUE : Field := mkArr 0xA0010 64 2048 0 1 0 32 .SP 0x1b7740
/-- +0x14. k in 0.001, 1,000 to 2,000 -/
def ELM_TH_K.K : Field := mkArr 0xA0014 64 2048 0 1 0 16 .SP 1050
/-- +0x14. Ih below LOW/256 uses TAUC. Bits [31:24] reserved -/
def ELM_TH_K.LOW : Field := mkArr 0xA0014 64 2048 0 1 16 8 .SP 13
/-- +0x18. Per mille, 50 to 999 -/
def ELM_TH_LEV.ALARM : Field := mkArr 0xA0018 64 2048 0 1 0 16 .SP 900
/-- +0x18. Per mille, 50 to 999 -/
def ELM_TH_LEV.RESET : Field := mkArr 0xA0018 64 2048 0 1 16 16 .SP 750
/-- +0x24. θ after power loss, per mille, 0 to 1,000. Bits [31:16] reserved -/
def ELM_TH_INIT.VALUE : Field := mkArr 0xA0024 64 2048 0 1 0 16 .SP 0
/-- +0x2C. θ, Q16.16, saturated -/
def ELM_TH_THETA.VALUE : Field := mkArr 0xA002C 64 2048 0 1 0 32 .RO 0
/-- +0x30. Time to trip, ms (R325) -/
def ELM_TH_TTT.VALUE : Field := mkArr 0xA0030 64 2048 0 1 0 32 .RO 0xffffffff
/-- +0x34. Ih, Q16.16, saturated -/
def ELM_TH_IEQ.VALUE : Field := mkArr 0xA0034 64 2048 0 1 0 32 .RO 0
/-- +0x08. Per mille, 50 to 500. Bits [31:16] reserved -/
def ELM_HR_RATIO.VALUE : Field := mkArr 0xA0008 64 2048 0 1 0 16 .SP 150
/-- +0x0C. Grid units -/
def ELM_HR_IMIN.VALUE : Field := mkArr 0xA000C 64 2048 0 1 0 32 .SP 0x800000
/-- +0x10. Extension, µs, 0 to 1,000,000 -/
def ELM_HR_TEXT.VALUE : Field := mkArr 0xA0010 64 2048 0 1 0 32 .SP 0
/-- +0x14. Block limit, µs; 0 = none -/
def ELM_HR_TMAX.VALUE : Field := mkArr 0xA0014 64 2048 0 1 0 32 .SP 0
/-- +0x2C. Largest phase ratio, per mille. Bits [31:16] reserved -/
def ELM_HR_R.VALUE : Field := mkArr 0xA002C 64 2048 0 1 0 16 .RO 0
/-- +0x08. Dead level, grid units -/
def ELM_CLP_ILOW.VALUE : Field := mkArr 0xA0008 64 2048 0 1 0 32 .SP 0x100000
/-- +0x0C. µs, up to 600,000,000 -/
def ELM_CLP_TCOLD.VALUE : Field := mkArr 0xA000C 64 2048 0 1 0 32 .SP 0x11e1a300
/-- +0x10. µs, up to 600,000,000 -/
def ELM_CLP_TCLP.VALUE : Field := mkArr 0xA0010 64 2048 0 1 0 32 .SP 0x989680
/-- +0x14. µs; 0 disables early end -/
def ELM_CLP_TFAST.VALUE : Field := mkArr 0xA0014 64 2048 0 1 0 32 .SP 0
/-- +0x18. Early-end level, grid units -/
def ELM_CLP_IREST.VALUE : Field := mkArr 0xA0018 64 2048 0 1 0 32 .SP 0
/-- +0x24. Breaker knot, 1 = closed. Bits [31:14] reserved -/
def ELM_CLP_CB.KNOT : Field := mkArr 0xA0024 64 2048 0 1 0 14 .SP 0
/-- +0x2C. 0 NORMAL, 1 DEAD_TIMING, 2 ARMED, 3 ACTIVE. Bits [31:2] reserved -/
def ELM_CLP_STATE.STATE : Field := mkArr 0xA002C 64 2048 0 1 0 2 .RO 0
/-- +0x30. Timer, µs, saturated -/
def ELM_CLP_TM.VALUE : Field := mkArr 0xA0030 64 2048 0 1 0 32 .RO 0
/-- +0x08. Phase level, grid units RMS -/
def ELM_BF_ISET.VALUE : Field := mkArr 0xA0008 64 2048 0 1 0 32 .SP 0x1000000
/-- +0x0C. Residual level -/
def ELM_BF_INSET.VALUE : Field := mkArr 0xA000C 64 2048 0 1 0 32 .SP 0x800000
/-- +0x10. Retrip, µs, up to 10,000,000 -/
def ELM_BF_T1.VALUE : Field := mkArr 0xA0010 64 2048 0 1 0 32 .SP 50000
/-- +0x14. Backup, µs, up to 10,000,000 -/
def ELM_BF_T2.VALUE : Field := mkArr 0xA0014 64 2048 0 1 0 32 .SP 0x249f0
/-- +0x24. Start knot -/
def ELM_BF_KN.START : Field := mkArr 0xA0024 64 2048 0 1 0 14 .SP 0
/-- +0x24. Breaker-closed knot. Bits [15:14], [31:30] reserved -/
def ELM_BF_KN.CBCL : Field := mkArr 0xA0024 64 2048 0 1 16 14 .SP 0
/-- +0x2C. t, µs, saturated -/
def ELM_BF_TM.VALUE : Field := mkArr 0xA002C 64 2048 0 1 0 32 .RO 0
/-- +0x08. Dead time 1, µs, 10,000 to 600,000,000 -/
def ELM_AR_DT1.VALUE : Field := mkArr 0xA0008 64 2048 0 1 0 32 .SP 0x7a120
/-- +0x0C. Dead time 2, µs, 10,000 to 600,000,000 -/
def ELM_AR_DT2.VALUE : Field := mkArr 0xA000C 64 2048 0 1 0 32 .SP 0xe4e1c0
/-- +0x10. Dead time 3, µs, 10,000 to 600,000,000 -/
def ELM_AR_DT3.VALUE : Field := mkArr 0xA0010 64 2048 0 1 0 32 .SP 0x1c9c380
/-- +0x14. Dead time 4, µs, 10,000 to 600,000,000 -/
def ELM_AR_DT4.VALUE : Field := mkArr 0xA0014 64 2048 0 1 0 32 .SP 0x3938700
/-- +0x18. µs, 1,000,000 to 600,000,000 -/
def ELM_AR_TRECLAIM.VALUE : Field := mkArr 0xA0018 64 2048 0 1 0 32 .SP 0x1c9c380
/-- +0x1C. 1 to 4; 0, 5 to 7 are rejected at staging -/
def ELM_AR_CFG.SHOTS : Field := mkArr 0xA001C 64 2048 0 1 0 3 .SP 1
/-- +0x1C. Bit k − 1: shot k waits for sync -/
def ELM_AR_CFG.SYNCREQ : Field := mkArr 0xA001C 64 2048 0 1 4 4 .SP 0
/-- +0x1C. ms, 1 to 65,535 -/
def ELM_AR_CFG.TCLOSE : Field := mkArr 0xA001C 64 2048 0 1 8 16 .SP 200
/-- +0x1C. 100 ms units, 1 to 255. Bit [3] reserved -/
def ELM_AR_CFG.TSYNC : Field := mkArr 0xA001C 64 2048 0 1 24 8 .SP 50
/-- +0x20. µs, 10,000 to 10,000,000 -/
def ELM_AR_TOPEN.VALUE : Field := mkArr 0xA0020 64 2048 0 1 0 32 .SP 0x7a120
/-- +0x24. Start knot -/
def ELM_AR_KN1.START : Field := mkArr 0xA0024 64 2048 0 1 0 14 .SP 0
/-- +0x24. Breaker-closed knot. Bits [15:14], [31:30] reserved -/
def ELM_AR_KN1.CBCL : Field := mkArr 0xA0024 64 2048 0 1 16 14 .SP 0
/-- +0x2C. Lockout-reset knot -/
def ELM_AR_KN2.RESET : Field := mkArr 0xA002C 64 2048 0 1 0 14 .SP 0
/-- +0x2C. SYNC element, 0 to 2047 -/
def ELM_AR_KN2.SYNCEL : Field := mkArr 0xA002C 64 2048 0 1 16 11 .SP 0
/-- +0x2C. Sync used. Other bits reserved -/
def ELM_AR_KN2.SYNCEN : Field := mkArr 0xA002C 64 2048 0 1 31 1 .SP 0
/-- +0x30. 0 READY, 1 WAIT_OPEN, 2 DEAD, 3 WAIT_SYNC, 4 CLOSING, 5 RECLAIM, 6 MANUAL, 7 LOCKOUT -/
def ELM_AR_STATE.STATE : Field := mkArr 0xA0030 64 2048 0 1 0 3 .RO 6
/-- +0x30. s -/
def ELM_AR_STATE.SHOT : Field := mkArr 0xA0030 64 2048 0 1 4 3 .RO 0
/-- +0x30. Latest lockout reason. Other bits reserved -/
def ELM_AR_STATE.REASON : Field := mkArr 0xA0030 64 2048 0 1 8 4 .RO 0
/-- +0x34. Timer, µs, saturated -/
def ELM_AR_TM.VALUE : Field := mkArr 0xA0034 64 2048 0 1 0 32 .RO 0
/-- +0x38. Successful sequences; saturates at 0xFFFF -/
def ELM_AR_CNT.OK : Field := mkArr 0xA0038 64 2048 0 1 0 16 .RC 0
/-- +0x38. Lockouts; saturates at 0xFFFF -/
def ELM_AR_CNT.LOCK : Field := mkArr 0xA0038 64 2048 0 1 16 16 .RC 0
/-- +0x08. Live level, primary V, binary32 -/
def ELM_SY_VLIVE.VALUE : Field := mkArr 0xA0008 64 2048 0 1 0 32 .SP 0
/-- +0x0C. Dead level, primary V, binary32 -/
def ELM_SY_VDEAD.VALUE : Field := mkArr 0xA000C 64 2048 0 1 0 32 .SP 0
/-- +0x10. Primary V, binary32 -/
def ELM_SY_DVMAX.VALUE : Field := mkArr 0xA0010 64 2048 0 1 0 32 .SP 0
/-- +0x14. µHz -/
def ELM_SY_DFMAX.VALUE : Field := mkArr 0xA0014 64 2048 0 1 0 32 .SP 0x186a0
/-- +0x18. 0.01°, 100 to 9,000. Bits [31:16] reserved -/
def ELM_SY_DPH.VALUE : Field := mkArr 0xA0018 64 2048 0 1 0 16 .SP 2000
/-- +0x1C. Closing time, µs, 0 to 1,000,000 -/
def ELM_SY_TCB.VALUE : Field := mkArr 0xA001C 64 2048 0 1 0 32 .SP 0
/-- +0x20. Bit 0 LL, 1 DLLB, 2 LLDB, 3 DLDB -/
def ELM_SY_MODE.EN : Field := mkArr 0xA0020 64 2048 0 1 0 4 .SP 1
/-- +0x20. ms. Bits [15:4] reserved -/
def ELM_SY_MODE.TCHK : Field := mkArr 0xA0020 64 2048 0 1 16 16 .SP 100
/-- +0x24. 0.01°, two's complement, −18,000 to 17,999. Bits [31:16] reserved -/
def ELM_SY_ANGOFS.VALUE : Field := mkArr 0xA0024 64 2048 0 1 0 16 .SP 0
/-- +0x2C. ΔV, binary32 -/
def ELM_SY_DV.VALUE : Field := mkArr 0xA002C 64 2048 0 1 0 32 .RO 0
/-- +0x30. Δf, µHz, two's complement -/
def ELM_SY_DF.VALUE : Field := mkArr 0xA0030 64 2048 0 1 0 32 .RO 0
/-- +0x34. Δφ_p, 0.01°, two's complement. Bits [31:16] reserved -/
def ELM_SY_DPH_P.VALUE : Field := mkArr 0xA0034 64 2048 0 1 0 16 .RO 0
/-- Group when KEN = 0, and at start-up -/
def SET_GRP.FIX : Field := mkArr 0x110800 4 64 0 1 0 2 .SP 0
/-- Knots select the group (R343) -/
def SET_GRP.KEN : Field := mkArr 0x110800 4 64 0 1 2 1 .SP 0
/-- Knot for bit 0 of the group -/
def SET_GRP.KN0 : Field := mkArr 0x110800 4 64 0 1 3 14 .SP 0
/-- Knot for bit 1. Bit [31] reserved -/
def SET_GRP.KN1 : Field := mkArr 0x110800 4 64 0 1 17 14 .SP 0
/-- Stable ticks before a switch, 0 to 255 -/
def SET_GRP_ST.HOLD : Field := mkArr 0x110900 4 64 0 1 0 8 .SP 2
/-- Group in force -/
def SET_GRP_ST.ACTIVE : Field := mkArr 0x110900 4 64 0 1 8 2 .RO 0
/-- Group wanted at the latest tick. Bits [31:12] reserved -/
def SET_GRP_ST.WANT : Field := mkArr 0x110900 4 64 0 1 10 2 .RO 0

/-- Register fields of this file, part 0. -/
def fieldsElmLv0 : List Field := [
  ELM_LCFG.DIR,
  ELM_LCFG.PHL,
  ELM_LCFG.QSEL,
  ELM_LCFG.QBLK,
  ELM_LCFG.XBLK,
  ELM_LCFG.CBMODE,
  ELM_LCFG.RES,
  ELM_LCFG.CBEN,
  ELM_LCFG.REF,
  ELM_LV_TH.VALUE,
  ELM_LV_TDEF.VALUE,
  ELM_LV_TDO.VALUE,
  ELM_LV_HYST.VALUE,
  ELM_LV_SUP.VALUE,
  ELM_LV_AUX.VALUE,
  ELM_LV_Q.VALUE,
  ELM_LV_TM.VALUE,
  ELM_LV_OPTIME.VALUE,
  ELM_TH_IB.VALUE,
  ELM_TH_TAU.VALUE,
  ELM_TH_TAUC.VALUE,
  ELM_TH_K.K,
  ELM_TH_K.LOW,
  ELM_TH_LEV.ALARM,
  ELM_TH_LEV.RESET,
  ELM_TH_INIT.VALUE,
  ELM_TH_THETA.VALUE,
  ELM_TH_TTT.VALUE,
  ELM_TH_IEQ.VALUE,
  ELM_HR_RATIO.VALUE,
  ELM_HR_IMIN.VALUE,
  ELM_HR_TEXT.VALUE,
  ELM_HR_TMAX.VALUE,
  ELM_HR_R.VALUE,
  ELM_CLP_ILOW.VALUE,
  ELM_CLP_TCOLD.VALUE,
  ELM_CLP_TCLP.VALUE,
  ELM_CLP_TFAST.VALUE,
  ELM_CLP_IREST.VALUE,
  ELM_CLP_CB.KNOT,
  ELM_CLP_STATE.STATE,
  ELM_CLP_TM.VALUE,
  ELM_BF_ISET.VALUE,
  ELM_BF_INSET.VALUE,
  ELM_BF_T1.VALUE,
  ELM_BF_T2.VALUE,
  ELM_BF_KN.START,
  ELM_BF_KN.CBCL,
  ELM_BF_TM.VALUE,
  ELM_AR_DT1.VALUE,
  ELM_AR_DT2.VALUE,
  ELM_AR_DT3.VALUE,
  ELM_AR_DT4.VALUE,
  ELM_AR_TRECLAIM.VALUE,
  ELM_AR_CFG.SHOTS,
  ELM_AR_CFG.SYNCREQ,
  ELM_AR_CFG.TCLOSE,
  ELM_AR_CFG.TSYNC,
  ELM_AR_TOPEN.VALUE,
  ELM_AR_KN1.START]

/-- Register fields of this file, part 1. -/
def fieldsElmLv1 : List Field := [
  ELM_AR_KN1.CBCL,
  ELM_AR_KN2.RESET,
  ELM_AR_KN2.SYNCEL,
  ELM_AR_KN2.SYNCEN,
  ELM_AR_STATE.STATE,
  ELM_AR_STATE.SHOT,
  ELM_AR_STATE.REASON,
  ELM_AR_TM.VALUE,
  ELM_AR_CNT.OK,
  ELM_AR_CNT.LOCK,
  ELM_SY_VLIVE.VALUE,
  ELM_SY_VDEAD.VALUE,
  ELM_SY_DVMAX.VALUE,
  ELM_SY_DFMAX.VALUE,
  ELM_SY_DPH.VALUE,
  ELM_SY_TCB.VALUE,
  ELM_SY_MODE.EN,
  ELM_SY_MODE.TCHK,
  ELM_SY_ANGOFS.VALUE,
  ELM_SY_DV.VALUE,
  ELM_SY_DF.VALUE,
  ELM_SY_DPH_P.VALUE,
  SET_GRP.FIX,
  SET_GRP.KEN,
  SET_GRP.KN0,
  SET_GRP.KN1,
  SET_GRP_ST.HOLD,
  SET_GRP_ST.ACTIVE,
  SET_GRP_ST.WANT]

/-- Every register field that 08_voltage_frequency_and_other_elements.md gives. -/
def fieldsElmLv : List Field := fieldsElmLv0 ++ fieldsElmLv1

end Sys2Proof.Machine.Reg
end

