-- ==== Sys2Proof/Machine/RegElmOc.lean ====
section
/-! DEFINITION. The register fields of spec file 07_time_overcurrent.md: address, array shape, bit place, access code, reset value
and (for a settings field) the range R697 binds. -/
namespace Sys2Proof.Machine.Reg
open Field

/-- Element enabled -/
def ELM_CFG.EN : Field := mkArr 0xA0000 64 2048 0 1 0 1 .SP 0
/-- 1 OC_PH, 2 OC_RES, 3 OC_SEF (R280) -/
def ELM_CFG.TYPE : Field := mkArr 0xA0000 64 2048 0 1 1 7 .SP 0
/-- Bay, 0 to 63 -/
def ELM_CFG.BAY : Field := mkArr 0xA0000 64 2048 0 1 8 6 .SP 0
/-- 0 fundamental, 1 true RMS (R281) -/
def ELM_CFG.MEAS : Field := mkArr 0xA0000 64 2048 0 1 14 2 .SP 0
/-- OC_RES: 0 measured IN, 1 computed 3I0 -/
def ELM_CFG.SRC : Field := mkArr 0xA0000 64 2048 0 1 16 1 .SP 0
/-- R304 -/
def ELM_CFG.QBLK : Field := mkArr 0xA0000 64 2048 0 1 17 1 .SP 0
/-- Blocking knot, 0 to 16,383 -/
def ELM_BLK.KNOT : Field := mkArr 0xA0004 64 2048 0 1 0 14 .SP 0
/-- Knot block enabled -/
def ELM_BLK.KEN : Field := mkArr 0xA0004 64 2048 0 1 14 1 .SP 0
/-- Second-harmonic restraint honoured -/
def ELM_BLK.HBLK : Field := mkArr 0xA0004 64 2048 0 1 15 1 .SP 0
/-- Cold-load multiplier applied -/
def ELM_BLK.CLPEN : Field := mkArr 0xA0004 64 2048 0 1 16 1 .SP 0
/-- Cold-load pickup holds the element off -/
def ELM_BLK.CLPBLK : Field := mkArr 0xA0004 64 2048 0 1 17 1 .SP 0
/-- Polarizing current slot for POL = 3 -/
def ELM_BLK.POLSLOT : Field := mkArr 0xA0004 64 2048 0 1 18 4 .SP 0
/-- Multiplier in 1/16, 16 to 255 -/
def ELM_BLK.CLPMUL : Field := mkArr 0xA0004 64 2048 0 1 22 8 .SP 32
/-- R287 -/
def ELM_OC_CURVE.CURVE : Field := mkArr 0xA000C 64 2048 0 1 0 4 .SP 0
/-- 0 instantaneous, 1 definite, 2 dependent -/
def ELM_OC_CURVE.RESET : Field := mkArr 0xA000C 64 2048 0 1 4 2 .SP 0
/-- Dropout level in 1/256 of Is_eff, 128 to 255 -/
def ELM_OC_CURVE.DO : Field := mkArr 0xA000C 64 2048 0 1 8 8 .SP 243
/-- Multiple above which time is constant, 2 to 40 -/
def ELM_OC_CURVE.MMAX : Field := mkArr 0xA000C 64 2048 0 1 16 6 .SP 20
/-- Time multiplier in 0.001, 10 to 30,000 -/
def ELM_OC_TMS.TMS : Field := mkArr 0xA0010 64 2048 0 1 0 16 .SP 100
/-- Minimum operate time, ms (R288). The register resets to 0x0000_0064 -/
def ELM_OC_TMS.TMIN : Field := mkArr 0xA0010 64 2048 0 1 16 16 .SP 0
/-- 0 none, 1 forward, 2 reverse (R294) -/
def ELM_OC_DIR.DIRMODE : Field := mkArr 0xA001C 64 2048 0 1 0 2 .SP 0
/-- 0 V1, 1 V2, 2 V0, 3 IPOL (R295) -/
def ELM_OC_DIR.POL : Field := mkArr 0xA001C 64 2048 0 1 2 2 .SP 0
/-- Permission while Q_p is unavailable (R298) -/
def ELM_OC_DIR.NODIR : Field := mkArr 0xA001C 64 2048 0 1 4 1 .SP 0
/-- Degrees, two's complement, −180 to 179 -/
def ELM_OC_DIR.RCA : Field := mkArr 0xA001C 64 2048 0 1 8 10 .SP 964
/-- Degrees, 30 to 89; outside is rejected at staging -/
def ELM_OC_DIR.HALFW : Field := mkArr 0xA001C 64 2048 0 1 18 7 .SP 85
/-- Memory in cycles, 0 to 3 (R299) -/
def ELM_OC_DIR.MEMT : Field := mkArr 0xA001C 64 2048 0 1 25 2 .SP 2
/-- Outputs as R305; the bit names are used as `ELM_OUT.START`, `ELM_OUT.MEM` and so on -/
def ELM_OUT.BITS : Field := mkArr 0xA0028 64 2048 0 1 0 18 .RO 0
/-- +0x08. Is, grid units of the operating slot; 0 is rejected at staging -/
def ELM_OC_PICKUP.VALUE : Field := mkArr 0xA0008 64 2048 0 1 0 32 .SP 0x2000000
/-- +0x14. Definite operate time, µs, 0 to 600,000,000 -/
def ELM_OC_TDEF.VALUE : Field := mkArr 0xA0014 64 2048 0 1 0 32 .SP 0
/-- +0x18. Definite reset time, or tr for dependent reset (R290), µs, 0 to 600,000,000 -/
def ELM_OC_TR.VALUE : Field := mkArr 0xA0018 64 2048 0 1 0 32 .SP 0
/-- +0x20. Minimum |Q_p|, grid units of the polarizing quantity -/
def ELM_OC_VPMIN.VALUE : Field := mkArr 0xA0020 64 2048 0 1 0 32 .SP 0x2000000
/-- +0x24. Ticks since V1 was last available, saturated; 0 when V1 is available. Bits [31:16] reserved -/
def ELM_OC_MEMAGE.VALUE : Field := mkArr 0xA0024 64 2048 0 1 0 16 .RO 0
/-- +0x2C. acc of phase A >> 16; 0x0100_0000 is FULL -/
def ELM_ACC_A.VALUE : Field := mkArr 0xA002C 64 2048 0 1 0 32 .RO 0
/-- +0x30. Phase B; 0 for OC_RES and OC_SEF -/
def ELM_ACC_B.VALUE : Field := mkArr 0xA0030 64 2048 0 1 0 32 .RO 0
/-- +0x34. Phase C; 0 for OC_RES and OC_SEF -/
def ELM_ACC_C.VALUE : Field := mkArr 0xA0034 64 2048 0 1 0 32 .RO 0
/-- +0x38. Largest M among unfrozen phases, Q16.16, rounded down, saturated -/
def ELM_OC_M.VALUE : Field := mkArr 0xA0038 64 2048 0 1 0 32 .RO 0
/-- +0x3C. el at the latest rise of OP, µs, saturated (R306) -/
def ELM_OC_OPTIME.VALUE : Field := mkArr 0xA003C 64 2048 0 1 0 32 .RO 0

/-- Register fields of this file, part 0. -/
def fieldsElmOc0 : List Field := [
  ELM_CFG.EN,
  ELM_CFG.TYPE,
  ELM_CFG.BAY,
  ELM_CFG.MEAS,
  ELM_CFG.SRC,
  ELM_CFG.QBLK,
  ELM_BLK.KNOT,
  ELM_BLK.KEN,
  ELM_BLK.HBLK,
  ELM_BLK.CLPEN,
  ELM_BLK.CLPBLK,
  ELM_BLK.POLSLOT,
  ELM_BLK.CLPMUL,
  ELM_OC_CURVE.CURVE,
  ELM_OC_CURVE.RESET,
  ELM_OC_CURVE.DO,
  ELM_OC_CURVE.MMAX,
  ELM_OC_TMS.TMS,
  ELM_OC_TMS.TMIN,
  ELM_OC_DIR.DIRMODE,
  ELM_OC_DIR.POL,
  ELM_OC_DIR.NODIR,
  ELM_OC_DIR.RCA,
  ELM_OC_DIR.HALFW,
  ELM_OC_DIR.MEMT,
  ELM_OUT.BITS,
  ELM_OC_PICKUP.VALUE,
  ELM_OC_TDEF.VALUE,
  ELM_OC_TR.VALUE,
  ELM_OC_VPMIN.VALUE,
  ELM_OC_MEMAGE.VALUE,
  ELM_ACC_A.VALUE,
  ELM_ACC_B.VALUE,
  ELM_ACC_C.VALUE,
  ELM_OC_M.VALUE,
  ELM_OC_OPTIME.VALUE]

/-- Every register field that 07_time_overcurrent.md gives. -/
def fieldsElmOc : List Field := fieldsElmOc0

end Sys2Proof.Machine.Reg
end

