-- ==== Sys2Proof/Machine/RegKnot.lean ====
section
/-! DEFINITION. The register fields of spec file 09_scheme_logic_and_fast_trip.md: address, array shape, bit place, access code, reset value
and (for a settings field) the range R697 binds. -/
namespace Sys2Proof.Machine.Reg
open Field

/-- A knot table is in force -/
def KNOT_STATUS.LOADED : Field := mk' 0xC0000 0 1 .RO 0
/-- R367 -/
def KNOT_STATUS.STORE_FAIL : Field := mk' 0xC0000 1 1 .RO 0
/-- 0x004. Enabled knots in force. Bits [31:15] reserved -/
def KNOT_COUNT.VALUE : Field := mk' 0xC0004 0 15 .RO 0
/-- 0x008. Knot shown in `KNOT_RD`. Bits [31:14] reserved -/
def KNOT_SEL.INDEX : Field := mk' 0xC0008 0 14 .RW 0
/-- 0x010 + 4 × w, w = 0 to 7. Word w of the selected entry in force -/
def KNOT_RD.VALUE : Field := mkArr 0xC0010 4 8 0 1 0 32 .RO 0
/-- 0x030. Bit d resets row d (R365) -/
def KNOT_TM_RESET.MASK : Field := mk' 0xC0030 0 32 .WO 0
/-- 0x034. R368 -/
def KNOT_TM_FORCE_EN.MASK : Field := mk' 0xC0034 0 32 .RW 0
/-- 0x038. R368 -/
def KNOT_TM_FORCE_VAL.MASK : Field := mk' 0xC0038 0 32 .RW 0
/-- 0x03C. Bit d: command of row d, after any force -/
def KNOT_TM_CMD.MASK : Field := mk' 0xC003C 0 32 .RO 0
/-- 0x040. Pickup of FP0 to FP31 -/
def KNOT_FP_PU_LO.MASK : Field := mk' 0xC0040 0 32 .RO 0
/-- 0x044. Pickup of FP32 to FP63 -/
def KNOT_FP_PU_HI.MASK : Field := mk' 0xC0044 0 32 .RO 0
/-- 0x048. Largest bay evaluation time, µs (R360) -/
def KNOT_EVAL_MAX.VALUE : Field := mk' 0xC0048 0 32 .RC 0
/-- 0x100 + 4 × w, w = 0 to 511. Bit b: output of K(32w + b) at its bay's latest completed tick -/
def KNOT_OUT.VALUE : Field := mkArr 0xC0100 4 512 0 1 0 32 .RO 0
/-- +0x00. Row enabled -/
def KNOT_TM_CFG.EN : Field := mkArr 0xC1000 32 32 0 1 0 1 .SP 0
/-- +0x00. Latch the command -/
def KNOT_TM_CFG.LATCH : Field := mkArr 0xC1000 32 32 0 1 1 1 .SP 0
/-- +0x00. Non-volatile latch (R367) -/
def KNOT_TM_CFG.NVL : Field := mkArr 0xC1000 32 32 0 1 2 1 .SP 0
/-- +0x00. 0 TRIP, 1 CLOSE, 2 SIGNAL; 3 is rejected at staging -/
def KNOT_TM_CFG.CLASS : Field := mkArr 0xC1000 32 32 0 1 3 2 .SP 0 |>.range 0 2
/-- +0x00. Knot drive used -/
def KNOT_TM_CFG.KEN : Field := mkArr 0xC1000 32 32 0 1 5 1 .SP 0
/-- +0x00. Bay that evaluates the row -/
def KNOT_TM_CFG.BAY : Field := mkArr 0xC1000 32 32 0 1 6 6 .SP 0
/-- +0x00. Drive knot. Bits [31:26] reserved -/
def KNOT_TM_CFG.KNOT : Field := mkArr 0xC1000 32 32 0 1 12 14 .SP 0
/-- +0x04. Reset knot -/
def KNOT_TM_RST.KNOT : Field := mkArr 0xC1004 32 32 0 1 0 14 .SP 0
/-- +0x04. Reset knot used (RKEN). Bits [31:15] reserved -/
def KNOT_TM_RST.KEN : Field := mkArr 0xC1004 32 32 0 1 14 1 .SP 0
/-- +0x08. Minimum command, µs, 0 to 10,000,000 -/
def KNOT_TM_MINP.VALUE : Field := mkArr 0xC1008 32 32 0 1 0 32 .SP 0x186a0 |>.range 0 10000000
/-- +0x0C. Detectors FP0 to FP31 -/
def KNOT_TM_FAST_LO.MASK : Field := mkArr 0xC100C 32 32 0 1 0 32 .SP 0
/-- +0x10. Detectors FP32 to FP63 -/
def KNOT_TM_FAST_HI.MASK : Field := mkArr 0xC1010 32 32 0 1 0 32 .SP 0
/-- +0x14. cmd -/
def KNOT_TM_STATE.CMD : Field := mkArr 0xC1014 32 32 0 1 0 1 .RO 0
/-- +0x14. lat -/
def KNOT_TM_STATE.LAT : Field := mkArr 0xC1014 32 32 0 1 1 1 .RO 0
/-- +0x14. fh -/
def KNOT_TM_STATE.FH : Field := mkArr 0xC1014 32 32 0 1 2 1 .RO 0
/-- +0x14. drv at the latest evaluation -/
def KNOT_TM_STATE.DRV : Field := mkArr 0xC1014 32 32 0 1 3 1 .RO 0
/-- +0x14. Force in effect. Bits [31:5] reserved -/
def KNOT_TM_STATE.FORCED : Field := mkArr 0xC1014 32 32 0 1 4 1 .RO 0
/-- +0x18. Rises of cmd -/
def KNOT_TM_OPCNT.VALUE : Field := mkArr 0xC1018 32 32 0 1 0 32 .RC 0
/-- +0x00. Detector enabled -/
def KNOT_FP_CFG.EN : Field := mkArr 0xC1800 32 64 0 1 0 1 .SP 0
/-- +0x00. Local channel -/
def KNOT_FP_CFG.CH : Field := mkArr 0xC1800 32 64 0 1 1 6 .SP 0
/-- +0x00. Bay -/
def KNOT_FP_CFG.BAY : Field := mkArr 0xC1800 32 64 0 1 7 6 .SP 0
/-- +0x00. Sample spacing, 8 to 31 -/
def KNOT_FP_CFG.M : Field := mkArr 0xC1800 32 64 0 1 13 5 .SP 16 |>.range 8 31
/-- +0x00. Consecutive samples, 1 to 15 -/
def KNOT_FP_CFG.Q : Field := mkArr 0xC1800 32 64 0 1 18 4 .SP 4 |>.range 1 15
/-- +0x00. Knot block used -/
def KNOT_FP_CFG.KEN : Field := mkArr 0xC1800 32 64 0 1 22 1 .SP 0
/-- +0x00. Dropout in 1/256 of TH, 128 to 255. The register resets to 0xE612_0000 -/
def KNOT_FP_CFG.DO : Field := mkArr 0xC1800 32 64 0 1 24 8 .SP 230 |>.range 128 255
/-- +0x04. Peak threshold, base-rate units; 0 is rejected at staging -/
def KNOT_FP_TH.VALUE : Field := mkArr 0xC1804 32 64 0 1 0 32 .SP 0x40000000 |>.range 1 4294967295
/-- +0x08. Blocking knot. Bits [31:14] reserved -/
def KNOT_FP_BLK.KNOT : Field := mkArr 0xC1808 32 64 0 1 0 14 .SP 0
/-- +0x0C. c in force, binary32 -/
def KNOT_FP_C.VALUE : Field := mkArr 0xC180C 32 64 0 1 0 32 .RO 0
/-- +0x10. ⌊√e2⌋ at the latest sample, saturated -/
def KNOT_FP_E.VALUE : Field := mkArr 0xC1810 32 64 0 1 0 32 .RO 0
/-- +0x14. Pickups -/
def KNOT_FP_PUCNT.VALUE : Field := mkArr 0xC1814 32 64 0 1 0 32 .RC 0
/-- Source knot, or row in [4:0] when ROW = 1 -/
def KNOT_GP_MAP.KNOT : Field := mkArr 0xC2000 128 128 4 32 0 14 .SP 0
/-- Source is a row command -/
def KNOT_GP_MAP.ROW : Field := mkArr 0xC2000 128 128 4 32 14 1 .SP 0
/-- Entry enabled. Bits [31:16] reserved -/
def KNOT_GP_MAP.EN : Field := mkArr 0xC2000 128 128 4 32 15 1 .SP 0

/-- Register fields of this file, part 0. -/
def fieldsKnot0 : List Field := [
  KNOT_STATUS.LOADED,
  KNOT_STATUS.STORE_FAIL,
  KNOT_COUNT.VALUE,
  KNOT_SEL.INDEX,
  KNOT_RD.VALUE,
  KNOT_TM_RESET.MASK,
  KNOT_TM_FORCE_EN.MASK,
  KNOT_TM_FORCE_VAL.MASK,
  KNOT_TM_CMD.MASK,
  KNOT_FP_PU_LO.MASK,
  KNOT_FP_PU_HI.MASK,
  KNOT_EVAL_MAX.VALUE,
  KNOT_OUT.VALUE,
  KNOT_TM_CFG.EN,
  KNOT_TM_CFG.LATCH,
  KNOT_TM_CFG.NVL,
  KNOT_TM_CFG.CLASS,
  KNOT_TM_CFG.KEN,
  KNOT_TM_CFG.BAY,
  KNOT_TM_CFG.KNOT,
  KNOT_TM_RST.KNOT,
  KNOT_TM_RST.KEN,
  KNOT_TM_MINP.VALUE,
  KNOT_TM_FAST_LO.MASK,
  KNOT_TM_FAST_HI.MASK,
  KNOT_TM_STATE.CMD,
  KNOT_TM_STATE.LAT,
  KNOT_TM_STATE.FH,
  KNOT_TM_STATE.DRV,
  KNOT_TM_STATE.FORCED,
  KNOT_TM_OPCNT.VALUE,
  KNOT_FP_CFG.EN,
  KNOT_FP_CFG.CH,
  KNOT_FP_CFG.BAY,
  KNOT_FP_CFG.M,
  KNOT_FP_CFG.Q,
  KNOT_FP_CFG.KEN,
  KNOT_FP_CFG.DO,
  KNOT_FP_TH.VALUE,
  KNOT_FP_BLK.KNOT,
  KNOT_FP_C.VALUE,
  KNOT_FP_E.VALUE,
  KNOT_FP_PUCNT.VALUE,
  KNOT_GP_MAP.KNOT,
  KNOT_GP_MAP.ROW,
  KNOT_GP_MAP.EN]

/-- Every register field that 09_scheme_logic_and_fast_trip.md gives. -/
def fieldsKnot : List Field := fieldsKnot0

end Sys2Proof.Machine.Reg
end

