-- ==== Sys2Proof/Machine/Elem.lean ====
section
/-! DEFINITION. Evaluation of elements: what they share, and the overcurrent elements (R280 to R312). -/
namespace Sys2Proof.Machine
open Reg

/-! ### What the evaluation of a bay at a tick knows -/

/-- The evaluation of bay `b` at tick `n`: the tick's record, the device time since the tick before, the settings group
and the bank in force at it. -/
structure Ctx where
  b : Nat
  n : Nat
  r : TickRec
  dt : Nat
  grp : Nat
  bank : Bank

/-- A setting of element (or other instance) `e`. -/
def Ctx.fld (c : Ctx) (f : Field) (e : Nat) : Nat := c.bank.fld f e

/-- A settings field of a group image: the words of group g lie at their address + (g + 1) * 2^24 of a bank. -/
def Bank.gfld (k : Bank) (f : Field) (e g : Nat) : Nat :=
  match k.word (f.at' e 0 + (g + 1) * 2 ^ 24) with
  | some w => f.get w
  | none => f.reset

/-- A group word of element `e` in the group in force (R312). -/
def Ctx.g (c : Ctx) (f : Field) (e : Nat) : Nat := c.bank.gfld f e c.grp

/-- t_n as an event stamp. -/
def Ctx.t (c : Ctx) : Nat := c.r.t / 2 ^ 24

/-- The mask of the numbered conditions that hold. -/
def bitsOf (l : List (Nat × Bool)) : Nat := l.foldl (fun m x => if x.2 then m ||| 2 ^ x.1 else m) 0

/-- A value saturated to 32 bits. -/
def sat32u (x : Nat) : Nat := min x (2 ^ 32 - 1)

/-- A rational as an integer; the rounding of what lies between two integers is left open. -/
def openRat (tag : Nat) (x : Rat) : Int := openDiv tag x.num x.den

/-- Nearest integer, halves away from 0, of a rational that is not negative (llround). -/
def llround (x : Rat) : Nat := (x + 1 / 2).floor.toNat

/-- SEC of R285. -/
def secUnit : Rat := r64 (4 / 1000000000)

/-- The output of a knot at tick n - 1. -/
def State.knotPrev (s : State) (q n : Nat) : Bool :=
  n != 0 && Trace.at' (tget {} s.eval.knot q).out (n - 1) == 1

/-- ELM_OUT of element `e` after the evaluation of tick `n`. -/
def State.elmOut (s : State) (e n : Nat) : Nat :=
  match tfind s.eval.elm e with
  | some x => Trace.at' x.out n
  | none => 0

/-- The latest ELM_OUT of element `e`. -/
def State.elmNow (s : State) (e : Nat) : Nat :=
  match tfind s.eval.elm e with
  | some x => Trace.now x.out
  | none => 0

/-- The reset state of an element of a type (R308, R325 to R338, R351). -/
def initElm (type init : Nat) : ElmSt :=
  match type with
  | 1 => .oc [{}, {}, {}] none 65535
  | 6 => .th (fdiv (init : Rat) 1000) 0 false false
  | 14 => .bf false 0
  | 15 => .ar 6 0 0 0
  | 16 => .sy false 0
  | 17 | 18 => .hr [false, false, false] [false, false, false] [0, 0, 0] [0, 0, 0] [false, false, false]
  | 19 => .clp 0 0 0
  | 2 | 3 | 4 => .oc [{}] none 65535
  | _ => .lv [false, false, false] false 0 0

/-- The state of element `e`; one that has not run yet stands in its reset state. -/
def State.elmSt (s : State) (c : Ctx) (e : Nat) : ElmSt :=
  match tfind s.eval.elm e with
  | some x => x.st
  | none => initElm (c.fld ELM_CFG.TYPE e) (c.fld ELM_TH_INIT.VALUE e)

/-- Store an element's state and outputs after the evaluation of tick `n`. -/
def State.putElm (s : State) (e n : Nat) (st : ElmSt) (out : Nat) : State :=
  let old := ((tfind s.eval.elm e).map (·.out)).getD []
  (s.modEval fun v => { v with elm := tset v.elm e { st := st, out := Trace.push old n out } }).wr ELM_OUT.BITS out e

/-- Note a happening of the evaluation in progress: its kind and its instance. -/
def State.noteEv (s : State) (k i : Nat) : State := s.modEval fun v => { v with ev := (k, i) :: v.ev }

/-- Happening: OP of an element rises. -/
def hOperate : Nat := 1
/-- Happening: a reset time runs out. -/
def hReset : Nat := 2
/-- Happening: a memory voltage expires. -/
def hMemory : Nat := 3
/-- Happening: RETRIP rises. -/
def hRetrip : Nat := 4
/-- Happening: BACKUP rises. -/
def hBackup : Nat := 5
/-- Happening: an autoreclose enters CLOSING. -/
def hArClose : Nat := 6
/-- Happening: an autoreclose enters LOCKOUT. -/
def hArLockout : Nat := 7
/-- Happening: an autoreclose sequence succeeds. -/
def hArSuccess : Nat := 8
/-- Happening: cold-load pickup becomes ARMED. -/
def hClpArmed : Nat := 9
/-- Happening: cold-load pickup ends. -/
def hClpEnd : Nat := 10
/-- Happening: a harmonic block is forced off. -/
def hTmax : Nat := 11
/-- Happening: a settings group comes into force in a bay. -/
def hGroup : Nat := 12
/-- Happening: a knot's timer changes its output. -/
def hKnot : Nat := 13
/-- Happening: a row's command falls after its minimum time. -/
def hMinp : Nat := 14

/-- ELM_START and ELM_OPERATE of an element whose outputs change from `old` to `new` (R306, R347): the masks of the START
and OP bits, the values the two events carry. A rise of OP is noted. -/
def State.elmEvents (s : State) (c : Ctx) (e old new mStart mOp vStart vOp : Nat) : State :=
  let rise := fun m => hasBit new m && !hasBit old m
  let s := if rise mStart then s.logAt c.t 0x5001 e vStart else s
  if rise mOp then (s.logAt c.t 0x5002 e vOp).noteEv hOperate e else s

/-- The knot block of an element (R300, R316). -/
def State.knotBlock (s : State) (c : Ctx) (e : Nat) : Bool :=
  c.fld ELM_BLK.KEN e == 1 && s.knotPrev (c.fld ELM_BLK.KNOT e) c.n

/-- The elements of a bay that a bank enables, ascending. -/
def Bank.elems (k : Bank) (b : Nat) : List Nat :=
  (k.words.filterMap fun w =>
    if ELM_CFG.EN.addr ≤ w.1 ∧ w.1 < ELM_CFG.EN.addr + 64 * 2048 ∧ w.1 % 64 = 0 ∧ ELM_CFG.EN.get w.2 = 1 ∧ ELM_CFG.BAY.get w.2 = b
    then some ((w.1 - ELM_CFG.EN.addr) / 64) else none)

/-- The enabled element of a type in the bay (R314). -/
def Ctx.only (c : Ctx) (type : Nat) : Option Nat := (c.bank.elems c.b).find? fun e => c.fld ELM_CFG.TYPE e == type

/-- Cold-load pickup is active in the bay at the tick (R331). -/
def State.clpActive (s : State) (c : Ctx) : Bool :=
  match c.only 19 with
  | some e => (s.elmOut e c.n).testBit 7
  | none => false

/-- The second-harmonic block bits of the bay at the tick (R300, R328). -/
def State.harmBlock (s : State) (c : Ctx) : Nat :=
  match c.only 17 with
  | some e => s.elmOut e c.n % 8
  | none => 0

/-! ### Curves (R286 to R292) -/

/-- The settings of an overcurrent element that its timing uses. -/
structure OcPar where
  curve : Nat
  reset : Nat
  dof : Nat
  mmax : Nat
  tms : Nat
  tmin : Nat
  tdef : Nat
  tr : Nat

/-- A, p and B of a standard curve (R287). -/
def curveAPB : Nat → Rat × Rat × Rat
  | 1 => (r64 (14 / 100), r64 (2 / 100), 0)
  | 2 => (r64 (135 / 10), 1, 0)
  | 3 => (80, 2, 0)
  | 4 => (120, 1, 0)
  | 5 => (r64 (515 / 10000), r64 (2 / 100), r64 (114 / 1000))
  | 6 => (r64 (1961 / 100), 2, r64 (491 / 1000))
  | _ => (r64 (282 / 10), 2, r64 (1217 / 10000))

/-- TMS as a factor (R286). -/
def OcPar.tmsF (p : OcPar) : Rat := r64 ((p.tms : Rat) / 1000)

/-- Word `i` of user curve `u` of a bank: the count P, then the points (R292). -/
def Bank.curveWord (k : Bank) (u i : Nat) : Nat := tget 0 k.curves (129 * u + i)

/-- The curve time of user curve `u` at a multiple of pickup, in seconds (R292). -/
def Bank.userTime (k : Bank) (u : Nat) (m : Rat) : Rat :=
  let p := k.curveWord u 0
  let pm := fun i => r64 ((k.curveWord u (1 + 2 * i) : Rat) / 65536)
  let pt := fun i => r64 ((k.curveWord u (2 + 2 * i) : Rat) / 1000000)
  if m ≤ pm 0 then pt 0
  else if pm (p - 1) ≤ m then pt (p - 1)
  else
    let i := ((List.range (p - 1)).find? fun i => decide (m < pm (i + 1))).getD 0
    let a := romLn (pt i)
    let sl := fdiv (fmul (fsub (romLn m) (romLn (pm i))) (fsub (romLn (pt (i + 1))) a)) (fsub (romLn (pm (i + 1))) (romLn (pm i)))
    romExp (fadd a sl)

/-- rate(M) in 1/s (R286, R292); `none` where the operate time is 0. -/
def Bank.ocRate (k : Bank) (p : OcPar) (m : Rat) : Option Rat :=
  let mc : Rat := if m < (p.mmax : Rat) then m else (p.mmax : Rat)
  if p.curve = 0 then if p.tdef = 0 then none else some (fdiv 1000000 (p.tdef : Rat))
  else if p.curve < 8 then
    let a := curveAPB p.curve
    let d := fsub (romPow mc a.2.1) 1
    if d ≤ 0 then some 0 else some (fdiv 1 (fmul p.tmsF (fadd (fdiv a.1 d) a.2.2)))
  else some (fdiv 1 (fmul p.tmsF (k.userTime (p.curve - 8) mc)))

/-- rrate(M) in 1/s (R290). -/
def OcPar.rrate (p : OcPar) (m : Rat) : Rat :=
  let lim : Rat := (p.dof : Rat) / 256
  let mr := if m < lim then m else lim
  let tr : Rat := match p.curve with
    | 5 => r64 (485 / 100)
    | 6 => r64 (216 / 10)
    | 7 => r64 (291 / 10)
    | _ => r64 ((p.tr : Rat) / 1000000)
  fdiv (fsub 1 (fmul mr mr)) (fmul p.tmsF tr)

/-- FULL of R285. -/
def ocFull : Nat := 2 ^ 40

/-- What a rate adds to or takes from acc over `dt` (R285). -/
def ocAmount (dt : Nat) (rate : Rat) : Nat := llround (fmul (fmul (dt : Rat) secUnit) rate * ((2 ^ 40 : Nat) : Rat))

/-- M of a phase in binary64 (R282). -/
def ocM (g : Nat) (ise : Rat) : Rat := fdiv (g : Rat) ise

/-- One phase at one tick (R285). -/
def Bank.ocStep (k : Bank) (p : OcPar) (dt g : Nat) (ise : Rat) (held : Bool) (x : OcPhase) : OcPhase :=
  let m := ocM g ise
  let up : Bool := if x.up then !held && decide (ise * (p.dof : Rat) / 256 ≤ (g : Rat)) else decide (1 ≤ m) && !held
  if up && x.up then
    let acc := if m ≤ 1 then x.acc else
      match k.ocRate p m with
      | none => ocFull
      | some r => min ocFull (x.acc + ocAmount dt r)
    { up := true, acc := acc, el := x.el + dt, hold := x.hold }
  else if up then
    { x with up := true, acc := if p.curve = 0 ∧ p.tdef = 0 then ocFull else x.acc }
  else
    let hold := if p.reset = 1 then (if x.up then 0 else x.hold) + dt else x.hold
    let acc := match p.reset with
      | 0 => 0
      | 1 => if p.tr * 250 ≤ hold then 0 else x.acc
      | _ => x.acc - ocAmount dt (p.rrate m)
    { up := false, acc := acc, el := if acc = 0 then 0 else x.el, hold := hold }

/-- op of R285, R288. -/
def OcPar.op (p : OcPar) (x : OcPhase) : Bool :=
  x.up && x.acc == ocFull && (p.curve == 0 || decide (p.tmin * 250000 ≤ x.el))

/-! ### Direction (R294 to R299) -/

/-- A polarizing quantity: angle, magnitude, status. -/
structure Pol where
  ang : Int
  mag : Nat
  psw : Nat

/-- A phasor as a polarizing quantity turned by an angle. -/
def Phasor.pol (p : Phasor) (turn : Int) : Pol := { ang := wrapTurn (angle32 p.re p.im + turn), mag := magOf p.re p.im, psw := p.psw }

/-- Whole degrees in the angle format (R296). -/
def degUnits (d : Int) : Int := (d * 2 ^ 32 * 2 + 360) / 720

/-- The direction (R296): `some true` forward, `some false` reverse. -/
def direction (id : Phasor) (q : Pol) (rca : Int) (halfw : Nat) : Option Bool :=
  let phi := wrapTurn (angle32 id.re id.im - q.ang - degUnits rca)
  let w := degUnits halfw
  if (phi.natAbs : Int) ≤ w then some true
  else if ((wrapTurn (phi - 2 ^ 31)).natAbs : Int) ≤ w then some false
  else none

/-- A phasor three times as large. -/
def Phasor.triple (p : Phasor) : Phasor := { p with re := 3 * p.re, im := 3 * p.im }

/-- The operating phasor and quantity of phase `i` of an element (R280, R281, R317). -/
def State.ocQuantity (s : State) (c : Ctx) (e type i : Nat) : Phasor × Nat :=
  let slot := fun role =>
    let p := (s.rolePh c.b role c.n).getD {}
    let rms := ((c.bank.slotOf c.b role).map fun j => s.slotRms c.b j c.n).getD 0
    (p, if c.fld ELM_CFG.MEAS e = 1 then rms else magOf p.re p.im)
  match type with
  | 1 => slot (1 + i)
  | 2 =>
    if c.fld ELM_CFG.SRC e = 0 then slot 4 else
    let x0 := s.seqComp c.b false 0 c.n
    (x0.triple, if c.fld ELM_CFG.MEAS e = 1 then ((s.rms3I0 c.b c.n).map (·.1)).getD 0 else 3 * magOf x0.re x0.im)
  | 3 => slot 5
  | _ =>
    let p := s.seqComp c.b false 2 c.n
    (p, magOf p.re p.im)

/-- POL gives direction quantities for the type (R295, R317). -/
def polAllowed (type pol : Nat) : Bool :=
  match pol with
  | 0 => type == 1
  | 1 => type == 1 || type == 2 || type == 4
  | _ => type == 2 || type == 3

/-- The polarizing phasor of R295 before it is turned to a phase, and the turn that its sign adds. -/
def State.polPhasor (s : State) (c : Ctx) (e pol : Nat) : Phasor × Int :=
  match pol with
  | 0 => (s.seqComp c.b true 1 c.n, 0)
  | 1 => (s.seqComp c.b true 2 c.n, 2 ^ 31)
  | 2 => ((((s.rolePh c.b 9 c.n).getD (s.seqComp c.b true 0 c.n))).triple, 2 ^ 31)
  | _ =>
    let i := c.fld ELM_BLK.POLSLOT e
    if [4, 5, 14].contains (c.bank.fld BAY_SLOT.ROLE c.b i) then (s.slotPh c.b i c.n, 0) else ({}, 0)

/-- The turn from V1 to phase `i` (R295). -/
def phaseTurn (rot : Bool) (i : Nat) : Int :=
  match i with
  | 0 => 0
  | 1 => if rot then 1431655765 else -1431655765
  | _ => if rot then -1431655765 else 1431655765

/-- The stored V1 and its age after this tick, and whether it serves as V1 (R299): `avail` says that V1 is available. -/
def ocMemory (avail : Bool) (v1 : Phasor) (memt np : Nat) (mem : Option (Int × Int × Nat)) (age : Nat) :
    Option (Int × Int × Nat) × Nat × Bool :=
  if avail then (some (v1.re, v1.im, v1.psw), 0, false)
  else
    let a := if mem.isSome then min (age + 1) 65535 else 65535
    (mem, a, mem.isSome && decide (a ≤ memt * np))

/-! ### An overcurrent element at a tick -/

/-- What one phase shows after a tick. -/
structure OcShow where
  x : OcPhase
  frozen : Bool
  held : Bool
  start : Bool
  op : Bool
  dir : Option Bool
  m : Rat

/-- Evaluate an overcurrent element (types 1 to 4) at a tick (R280 to R306). -/
def State.evalOc (s : State) (c : Ctx) (e : Nat) : State :=
  let type := c.fld ELM_CFG.TYPE e
  match s.elmSt c e with
  | .oc phs mem age =>
    let p : OcPar :=
      { curve := c.g ELM_OC_CURVE.CURVE e, reset := c.g ELM_OC_CURVE.RESET e, dof := c.g ELM_OC_CURVE.DO e,
        mmax := c.g ELM_OC_CURVE.MMAX e, tms := c.g ELM_OC_TMS.TMS e, tmin := c.g ELM_OC_TMS.TMIN e,
        tdef := c.g ELM_OC_TDEF.VALUE e, tr := c.g ELM_OC_TR.VALUE e }
    let clp := s.clpActive c
    let clpOn := clp && c.fld ELM_BLK.CLPEN e == 1
    let ise : Rat := (c.g ELM_OC_PICKUP.VALUE e : Rat) * (if clpOn then (c.fld ELM_BLK.CLPMUL e : Rat) / 16 else 1)
    let pol := c.g ELM_OC_DIR.POL e
    let dirmode := c.g ELM_OC_DIR.DIRMODE e
    let vpmin := c.g ELM_OC_VPMIN.VALUE e
    let ok := polAllowed type pol
    let q := s.polPhasor c e pol
    let avail := ok && hasBit q.1.psw bVALID && decide (vpmin ≤ magOf q.1.re q.1.im)
    let mm := if ok && pol == 0 then ocMemory avail q.1 (c.g ELM_OC_DIR.MEMT e) s.np mem age else (mem, if mem.isSome then min (age + 1) 65535 else 65535, false)
    let useMem := mm.2.2
    let base : Phasor := if useMem then
        match mm.1 with | some v => { re := v.1, im := v.2.1, psw := v.2.2 } | none => q.1
      else q.1
    let rot := c.bank.fld BAY_CFG.ROT c.b == 1
    let hb := s.harmBlock c
    let hblk := c.fld ELM_BLK.HBLK e == 1
    let kblk := s.knotBlock c e
    let cblk := clp && c.fld ELM_BLK.CLPBLK e == 1
    let qblk := c.fld ELM_CFG.QBLK e == 1
    let shows : List OcShow := phs.zipIdx.map fun y =>
      let i := y.2
      let qg := s.ocQuantity c e type i
      let id := if pol = 1 then s.seqComp c.b false 2 c.n else qg.1
      let qp := base.pol (q.2 + (if pol = 0 then phaseTurn rot i else 0))
      let have_ := avail || useMem
      let small := !hasBit id.psw bVALID || decide ((magOf id.re id.im : Rat) < ise / 16)
      let dir := if !ok || !have_ || small then none
        else direction id qp (sx 10 (c.g ELM_OC_DIR.RCA e)) (c.g ELM_OC_DIR.HALFW e)
      let perm := match dirmode with
        | 0 => true
        | 1 => if have_ then dir == some true else c.g ELM_OC_DIR.NODIR e == 1
        | _ => if have_ then dir == some false else c.g ELM_OC_DIR.NODIR e == 1
      let hbp := if type = 1 then hb.testBit i else hb != 0
      let held := !perm || kblk || (hblk && hbp) || cblk
      let frozen := !hasBit qg.1.psw bVALID
        || (qblk && (hasBit qg.1.psw bQUEST || (dirmode != 0 && hasBit qp.psw bQUEST)))
      let x := if frozen then y.1 else c.bank.ocStep p c.dt qg.2 ise held y.1
      { x := x, frozen := frozen, held := held, start := x.up && !frozen, op := p.op x && !frozen, dir := dir,
        m := ocM qg.2 ise }
    let at' := fun (f : OcShow → Bool) (off : Nat) => shows.zipIdx.map fun y => (off + y.2, f y.1)
    let any := fun (f : OcShow → Bool) => shows.any f
    let out := bitsOf (at' (·.start) 0 ++ [(3, any (·.start))] ++ at' (·.op) 4 ++ [(7, any (·.op))]
      ++ at' (·.dir == some true) 8 ++ at' (·.dir == some false) 11
      ++ [(14, any (·.held)), (15, any (·.frozen)), (16, useMem), (17, clpOn)])
    let old := s.elmNow e
    let el := (shows.filter (·.op)).foldl (fun a y => max a y.x.el) 0 / 250
    let s := s.elmEvents c e old out 0x8 0x80 (out % 8) (sat32u el)
    let s := if hasBit out 0x80 && !hasBit old 0x80 then s.wr ELM_OC_OPTIME.VALUE (sat32u el) e else s
    let s := if (phs.zip shows).any fun y => decide (0 < y.1.acc) && y.2.x.acc == 0 && !y.2.x.up && p.reset == 1
      then s.noteEv hReset e else s
    let s := if hasBit old 0x10000 && !useMem && !avail then s.noteEv hMemory e else s
    let m := (shows.filter fun y => !y.frozen).foldl (fun a y => if a < y.m then y.m else a) 0
    let s := s.wr ELM_OC_M.VALUE (sat32u (m * 65536).floor.toNat) e
    let s := s.wr ELM_OC_MEMAGE.VALUE (if ok && pol == 0 then mm.2.1 else 0) e
    let acc := fun i => ((shows[i]?).map fun (y : OcShow) => y.x.acc / 65536).getD 0
    let s := ((s.wr ELM_ACC_A.VALUE (acc 0) e).wr ELM_ACC_B.VALUE (acc 1) e).wr ELM_ACC_C.VALUE (acc 2) e
    s.putElm e c.n (.oc (shows.map (·.x)) mm.1 mm.2.1) out
  | _ => s

end Sys2Proof.Machine
end

