-- ==== Sys2Proof/Machine/Level.lean ====
section
/-! DEFINITION. Level elements, thermal image, harmonic restraint, cold-load pickup, breaker failure, autoreclose and
synchrocheck (R313 to R351). -/
namespace Sys2Proof.Machine
open Reg

/-! ### Bay frequency as elements read it (R271, R279) -/

/-- A changed frequency reference still holds the bay frequency at tick `n` (R279). -/
def State.frefHeld (s : State) (b n : Nat) : Bool :=
  match (tget {} s.eval.bay b).fref with
  | some c => decide (c ≤ n) && decide (n < c + s.np)
  | none => false

/-- f_b at tick `n`; `none` when FHOLD is 1 (R271). -/
def State.bayFreq (s : State) (b n : Nat) : Option Nat :=
  if s.frefHeld b n then none else s.freqOver n fun m => (s.mapAt n).frefPh b m

/-- f_b of an earlier tick as the unit's own history keeps it (R322). -/
def State.keptFreq (s : State) (b n : Nat) : Option Nat :=
  let x := tget {} s.eval.bay b
  if n < x.meas then (x.fbs.find? fun y => y.1 == n).map (·.2) else s.bayFreq b n

/-- The VSYNC frequency at tick `n`; `none` when SFHOLD is 1 (R271). -/
def State.syncFreq (s : State) (b n : Nat) : Option Nat := s.freqOver n fun m => (s.mapAt n).vsyncPh b m

/-! ### Level elements (R318 to R323) -/

/-- One phase of a level element: Q, or `none` where it has no value this tick; its phasor's status. -/
structure LvIn where
  q : Option Rat
  psw : Nat

/-- The magnitude of an optional phasor as Q, with its status. -/
def lvMag (p : Option Phasor) : LvIn :=
  match p with
  | some p => { q := some (magOf p.re p.im : Nat), psw := p.psw }
  | none => { q := none, psw := 0 }

/-- The quantities of a level element at a tick, and whether the SUP rule holds the element off (R318). -/
def State.lvInputs (s : State) (c : Ctx) (e type : Nat) : List LvIn × Bool :=
  let qsel := c.fld ELM_LCFG.QSEL e
  let sup := c.g ELM_LV_SUP.VALUE e
  let fr := s.frefPh c.b c.n
  let fsup := decide (magOf fr.re fr.im < sup)
  match type with
  | 5 =>
    let i1 := s.seqComp c.b false 1 c.n
    let i2 := s.seqComp c.b false 2 c.n
    let m1 := magOf i1.re i1.im
    let q := if m1 = 0 then 2 ^ 32 - 1 else min (openDiv 30 ((magOf i2.re i2.im : Nat) * 65536 : Int) m1).toNat (2 ^ 32 - 1)
    ([{ q := some (q : Rat), psw := joinPsw [i1.psw, i2.psw] }], decide (m1 < sup) || m1 == 0)
  | 7 | 8 =>
    if qsel = 2 then ([lvMag (some (s.seqComp c.b true 1 c.n))], false)
    else ((List.range 3).map fun i => lvMag (if qsel = 0 then s.rolePh c.b (6 + i) c.n else s.linePh c.b i c.n), false)
  | 9 =>
    if qsel = 0 then ([lvMag (s.rolePh c.b 9 c.n)], false) else
    let x := s.seqComp c.b true 0 c.n
    ([{ q := some ((3 * magOf x.re x.im : Nat) : Rat), psw := x.psw }], false)
  | 10 =>
    match s.bayFreq c.b c.n with
    | some f => ([{ q := some (f : Rat), psw := fr.psw }], fsup)
    | none => ([{ q := none, psw := fr.psw }], fsup)
  | 11 =>
    let w := c.g ELM_LV_AUX.VALUE e * s.np
    let old := if c.n < w then none else (s.keptFreq c.b (c.n - w)).bind fun f => (s.tickRec? (c.n - w)).map fun r => (f, r.t / 2 ^ 24)
    match s.bayFreq c.b c.n, old with
    | some f, some (f0, t0) =>
      let q : Rat := if c.t ≤ t0 then 0 else fdiv ((f : Rat) - (f0 : Rat)) (fmul ((c.t - t0 : Nat) : Rat) secUnit)
      ([{ q := some q, psw := fr.psw }], fsup)
    | _, _ => ([{ q := none, psw := fr.psw }], fsup)
  | 12 =>
    let p := s.power c.b c.n
    let f32 := fun (x : Bin64) => (dec32 x.enc32).getD x.v
    let a := romRad ((sx 32 (c.g ELM_LV_AUX.VALUE e) : Int) : Rat)
    let q := fadd (fmul (f32 (p.1.getD 6 {})) (romCos a)) (fmul (f32 (p.1.getD 7 {})) (romSin a))
    ([{ q := some q, psw := s.powerPsw c.b c.n }], false)
  | _ => ((List.range 3).map fun i => lvMag (s.rolePh c.b (1 + i) c.n), false)

/-- The sense, threshold and hysteresis of a level element: Q as the sense looks at it, TH, H, under sense (R318). -/
def Ctx.lvSense (c : Ctx) (e type : Nat) : (Rat → Rat) × Rat × Rat × Bool :=
  let th := c.g ELM_LV_TH.VALUE e
  let hy := c.g ELM_LV_HYST.VALUE e
  let dir := c.fld ELM_LCFG.DIR e
  let prop : Rat := (th : Rat) * (hy : Rat) / 256
  match type with
  | 7 | 13 => (id, (th : Rat), prop, true)
  | 10 => (id, (th : Rat), ((1000 * hy : Nat) : Rat), dir == 1)
  | 11 =>
    let f : Rat → Rat := if c.fld ELM_LCFG.QSEL e = 1 then (fun q => if q < 0 then -q else q)
      else if dir = 1 then (fun q => -q) else id
    (f, (th : Rat), prop, false)
  | 12 =>
    let t := (dec32 th).getD 0
    (id, t, r64 ((if t < 0 then -t else t) * (hy : Rat) / 256), dir == 1)
  | _ => (id, (th : Rat), prop, false)

/-- The condition of a phase (R319). -/
def lvCond (was : Bool) (q th h : Rat) (under : Bool) : Bool :=
  if under then (if was then decide (q ≤ th + h) else decide (q ≤ th))
  else (if was then decide (th - h ≤ q) else decide (th ≤ q))

/-- Q in the format of TH (R318). -/
def lvFormat (type : Nat) (q : Rat) : Nat :=
  match type with
  | 11 => toBits 32 (satI 32 (openRat 31 q))
  | 12 => enc32 q
  | _ => sat32u q.floor.toNat

/-- Evaluate a level element at a tick (R318 to R323). -/
def State.evalLevel (s : State) (c : Ctx) (e : Nat) : State :=
  let type := c.fld ELM_CFG.TYPE e
  match s.elmSt c e with
  | .lv cond was tm hold =>
    let old := s.elmNow e
    let inp := s.lvInputs c e type
    let sup := c.g ELM_LV_SUP.VALUE e
    let sn := c.lvSense e type
    let qblk := c.fld ELM_LCFG.QBLK e == 1
    let twin := type == 7 || type == 8
    let bad := fun (x : LvIn) => x.q.isNone || !hasBit x.psw bVALID || (twin && hasBit x.psw bTWIN) || (qblk && hasBit x.psw bQUEST)
    let frozen := inp.1.any bad
    let kb := s.knotBlock c e
    let held := kb || inp.2
    let under0 := fun (q : Rat) => (type == 7 || type == 13) && decide (q < (sup : Rat))
    let qs : List Rat := inp.1.filterMap (·.q)
    let best : Option Rat := match qs with
      | [] => none
      | q :: r => some (r.foldl (fun a x => if sn.2.2.2 then (if sn.1 x < sn.1 a then x else a) else (if sn.1 a < sn.1 x then x else a)) q)
    let s := match best with | some q => s.wr ELM_LV_Q.VALUE (lvFormat type q) e | none => s
    if frozen then
      s.putElm e c.n (.lv cond was tm hold) (bitsOf [(14, held), (15, true), (16, inp.2 || qs.any under0)])
    else
      let conds := qs.zipIdx.map fun y => if under0 y.1 then false else lvCond (cond.getD y.2 false) (sn.1 y.1) sn.2.1 sn.2.2.1 sn.2.2.2
      let all3 := c.fld ELM_LCFG.PHL e == 1 && (type == 7 || type == 8 || type == 13)
      let st := if all3 then conds.all id else conds.any id
      let on := st && !held
      let tm1 := if on && was then tm + c.dt else tm
      let run := !on && (was || decide (0 < tm))
      let h1 := if on then 0 else if run then hold + c.dt else hold
      let expire := run && decide (c.g ELM_LV_TDO.VALUE e * 250 ≤ h1)
      let tm2 := if expire then 0 else tm1
      let h2 := if expire then 0 else h1
      let op := on && decide (c.g ELM_LV_TDEF.VALUE e * 250 ≤ tm2)
      let ph := fun (f : Bool → Bool) (off : Nat) => conds.zipIdx.map fun y => (off + y.2, f y.1)
      let out := bitsOf (ph (fun b => b && !held) 0 ++ [(3, on)] ++ ph (fun b => b && op) 4
        ++ [(7, op), (14, held), (16, inp.2 || qs.any under0)])
      let us := sat32u (tm2 / 250)
      let s := s.elmEvents c e old out 0x8 0x80 (out % 8) us
      let s := if op && !hasBit old 0x80 then s.wr ELM_LV_OPTIME.VALUE us e else s
      let s := if expire && decide (0 < tm) then s.noteEv hReset e else s
      (s.wr ELM_LV_TM.VALUE us e).putElm e c.n (.lv conds on tm2 h2) out
  | _ => s

/-! ### Thermal image (R324 to R327) -/

/-- Q16.16 of a non-negative quantity, saturated; its rounding is left open. -/
def q16 (tag : Nat) (x : Rat) : Nat := sat32u (openRat tag (x * 65536)).toNat

/-- ELM_TH_TTT (R325). -/
def thTtt (ih theta : Rat) (tau : Nat) : Nat :=
  if ih ≤ 1 ∨ 1 ≤ theta then 2 ^ 32 - 1 else
  let eq := fmul ih ih
  sat32u (openRat 32 (fmul (tau : Rat) (romLn (fdiv (fsub eq theta) (fsub eq 1))))).toNat

/-- Evaluate a thermal element at a tick (R324 to R326). -/
def State.evalTherm (s : State) (c : Ctx) (e : Nat) : State :=
  match s.elmSt c e with
  | .th theta ih op alarm =>
    let old := s.elmNow e
    let slots := [1, 2, 3].filterMap fun r => c.bank.slotOf c.b r
    let valid := slots.length == 3 && slots.all fun i => hasBit (s.slotPh c.b i c.n).psw bVALID
    let rms := (slots.map fun i => s.slotRms c.b i c.n).foldl max 0
    let kib := fmul (fdiv (c.g ELM_TH_K.K e : Rat) 1000) (c.g ELM_TH_IB.VALUE e : Rat)
    let ih := if valid then fdiv (rms : Rat) kib else ih
    let heat := decide ((c.g ELM_TH_K.LOW e : Rat) / 256 ≤ ih)
    let tau := if heat then c.g ELM_TH_TAU.VALUE e else c.g ELM_TH_TAUC.VALUE e
    let eq := fmul ih ih
    let x := fdiv (-(fmul (c.dt : Rat) secUnit)) (fdiv (tau : Rat) 1000)
    let theta := fadd eq (fmul (fsub theta eq) (romExp x))
    let al := fdiv (c.g ELM_TH_LEV.ALARM e : Rat) 1000
    let op := if op then !decide (theta < fdiv (c.g ELM_TH_LEV.RESET e : Rat) 1000) else decide (1 ≤ theta)
    let alarm := if alarm then !decide (theta < fsub al (r64 (1 / 100))) else decide (al ≤ theta)
    let kb := s.knotBlock c e
    let out := bitsOf [(0, alarm && !kb), (1, heat), (7, op && !kb), (14, kb), (15, !valid)]
    let pm := sat32u (openRat 33 (theta * 1000)).toNat
    let s := s.elmEvents c e old out 0x1 0x80 pm pm
    let s := ((s.wr ELM_TH_THETA.VALUE (q16 34 theta) e).wr ELM_TH_IEQ.VALUE (q16 35 ih) e).wr ELM_TH_TTT.VALUE
      (thTtt ih theta tau) e
    s.putElm e c.n (.th theta ih op alarm) out
  | _ => s

/-! ### Harmonic restraint (R328 to R330) -/

/-- One phase of a harmonic restraint: BLK, restraint at the latest tick, time since it was absent, time BLK has been 1,
forced off. -/
structure HrPh where
  blk : Bool
  was : Bool
  ext : Nat
  on : Nat
  rel : Bool

/-- The phase at a tick with restraint `r` (R328). -/
def HrPh.step (x : HrPh) (r : Bool) (dt text tmax : Nat) : HrPh :=
  if x.rel then { blk := false, was := r, ext := 0, on := 0, rel := r }
  else
    let ext := if r then 0 else if x.was then 0 else x.ext + dt
    let blk := r || (x.blk && decide (ext < text * 250))
    let on := if blk && x.blk then x.on + dt else 0
    if blk && tmax != 0 && decide (tmax * 250 ≤ on) then { blk := false, was := r, ext := ext, on := 0, rel := true }
    else { blk := blk, was := r, ext := ext, on := on, rel := false }

/-- Evaluate a harmonic restraint at a tick (R328 to R330). -/
def State.evalHarm (s : State) (c : Ctx) (e h : Nat) : State :=
  match s.elmSt c e with
  | .hr blk was ext on rel =>
    let ratio := c.g ELM_HR_RATIO.VALUE e
    let imin := c.g ELM_HR_IMIN.VALUE e
    let phs : List (HrPh × Bool × Option Nat × Bool) := (List.range 3).map fun i =>
      let x : HrPh := { blk := blk.getD i false, was := was.getD i false, ext := ext.getD i 0, on := on.getD i 0, rel := rel.getD i false }
      let p := (s.rolePh c.b (1 + i) c.n).getD {}
      let ph := (s.rolePh c.b (1 + i) c.n h).getD {}
      let m1 := magOf p.re p.im
      let mh := magOf ph.re ph.im
      let q := if m1 = 0 then none else some (min (openDiv 36 ((mh * 1000 : Nat) : Int) m1).toNat 65535)
      let valid := hasBit p.psw bVALID
      let r := decide (imin ≤ m1) && decide (m1 * ratio ≤ mh * 1000)
      let y := if valid then x.step r c.dt (c.g ELM_HR_TEXT.VALUE e) (c.g ELM_HR_TMAX.VALUE e) else x
      (y, !valid, q, y.rel && !x.rel)
    let kb := s.knotBlock c e
    let any := phs.any fun y => y.1.blk
    let x := c.fld ELM_LCFG.XBLK e == 1
    let out := bitsOf (phs.zipIdx.map (fun y => (y.2, (if x then any else y.1.1.blk) && !kb))
      ++ [(3, any && !kb), (8, phs.any fun y => y.1.rel), (14, kb), (15, phs.any fun y => y.2.1)])
    let s := if phs.any fun y => y.2.2.2 then s.noteEv hTmax e else s
    let s := s.wr ELM_HR_R.VALUE ((phs.filterMap fun y => y.2.2.1).foldl max 0) e
    s.putElm e c.n (.hr (phs.map (·.1.blk)) (phs.map (·.1.was)) (phs.map (·.1.ext)) (phs.map (·.1.on)) (phs.map (·.1.rel))) out
  | _ => s

/-! ### Cold-load pickup (R331, R332) -/

/-- The state after a tick (R331): state, timer and time below IREST before it, bay dead, every phase below IREST; `fast`
is 0 where the latest tick of ACTIVE was not below IREST, else 1 more than the time below it. -/
def clpStep (st timer fast dt : Nat) (dead below : Bool) (tcold tclp tfast : Nat) : Nat × Nat × Nat :=
  let tm := timer + dt
  let f := if below then (if fast = 0 then 1 else fast + dt) else 0
  match st with
  | 0 => if dead then (1, 0, 0) else (0, 0, 0)
  | 1 => if !dead then (0, 0, 0) else if tcold * 250 ≤ tm then (2, 0, 0) else (1, tm, 0)
  | 2 => if !dead then (3, 0, if below then 1 else 0) else (2, tm, 0)
  | _ =>
    if tclp * 250 ≤ tm then (0, 0, 0)
    else if tfast ≠ 0 ∧ f ≠ 0 ∧ tfast * 250 ≤ f - 1 then (0, 0, 0)
    else if dead then (1, 0, 0) else (3, tm, f)

/-- Evaluate a cold-load element at a tick (R331, R332). -/
def State.evalClp (s : State) (c : Ctx) (e : Nat) : State :=
  match s.elmSt c e with
  | .clp st timer fast =>
    let phs := (List.range 3).map fun i => (s.rolePh c.b (1 + i) c.n).getD {}
    if phs.any fun p => !hasBit p.psw bVALID then
      s.putElm e c.n (.clp st timer fast) (s.elmNow e ||| 0x8000)
    else
      let mags := phs.map fun p => magOf p.re p.im
      let cb := if c.fld ELM_LCFG.CBEN e = 1 then !s.knotPrev (c.fld ELM_CLP_CB.KNOT e) c.n else true
      let dead := mags.all (fun m => decide (m < c.g ELM_CLP_ILOW.VALUE e)) && cb
      let below := mags.all fun m => decide (m < c.g ELM_CLP_IREST.VALUE e)
      let r := clpStep st timer fast c.dt dead below (c.g ELM_CLP_TCOLD.VALUE e) (c.g ELM_CLP_TCLP.VALUE e) (c.g ELM_CLP_TFAST.VALUE e)
      let kb := s.knotBlock c e
      let s := if st = 2 ∧ r.1 = 3 then s.logAt c.t 0x5014 0 0 else s
      let s := if st = 3 ∧ r.1 ≠ 3 then (s.logAt c.t 0x5015 0 0).noteEv hClpEnd e else s
      let s := if st = 1 ∧ r.1 = 2 then s.noteEv hClpArmed e else s
      let s := (s.wr ELM_CLP_STATE.STATE r.1 e).wr ELM_CLP_TM.VALUE (sat32u (r.2.1 / 250)) e
      s.putElm e c.n (.clp r.1 r.2.1 r.2.2) (bitsOf [(0, r.1 == 1), (1, r.1 == 2), (7, r.1 == 3 && !kb), (14, kb)])
  | _ => s

/-! ### Breaker failure (R333 to R335) -/

/-- The largest sample magnitude of a window's latest N_P / 2 ticks reaches a level (R333). -/
def peakReaches (np level : Nat) (w : List Int) : Bool := (w.take (np / 2)).any fun x => decide (level ≤ x.natAbs)

/-- The current check of a phase (R333): met, invalid. -/
def State.bfPhase (s : State) (c : Ctx) (role iset : Nat) : Bool × Bool :=
  match c.bank.slotOf c.b role with
  | some i =>
    let p := s.slotPh c.b i c.n
    let w := (s.slotWindow c.b i c.n).map fun x => x.2.v
    if hasBit p.psw bVALID then (decide (iset ≤ magOf p.re p.im) && peakReaches s.np iset w, false) else (false, true)
  | none => (false, true)

/-- The residual check (R333). -/
def State.bfResidual (s : State) (c : Ctx) (inset : Nat) : Bool :=
  match c.bank.slotOf c.b 1, c.bank.slotOf c.b 2, c.bank.slotOf c.b 3 with
  | some i, some j, some l =>
    let x0 := s.seqComp c.b false 0 c.n
    let w := fun i => (s.slotWindow c.b i c.n).map fun x => x.2.v
    let sum := ((w i).zip ((w j).zip (w l))).map fun x => x.1 + x.2.1 + x.2.2
    hasBit x0.psw bVALID && decide (inset ≤ 3 * magOf x0.re x0.im) && peakReaches s.np inset sum
  | _, _, _ => false

/-- Evaluate a breaker-failure element at a tick (R333 to R335). -/
def State.evalBf (s : State) (c : Ctx) (e : Nat) : State :=
  match s.elmSt c e with
  | .bf was t =>
    let old := s.elmNow e
    let ch := [1, 2, 3].map fun r => s.bfPhase c r (c.g ELM_BF_ISET.VALUE e)
    let inval := ch.any (·.2)
    let ipres := (ch.any fun x => x.1 || (x.2 && was)) || (c.fld ELM_LCFG.RES e == 1 && s.bfResidual c (c.g ELM_BF_INSET.VALUE e))
    let kb := s.knotBlock c e
    let start := s.knotPrev (c.fld ELM_BF_KN.START e) c.n
    let cbcl := s.knotPrev (c.fld ELM_BF_KN.CBCL e) c.n
    let on := start && !kb && (ipres || (c.fld ELM_LCFG.CBMODE e == 1 && cbcl))
    let t := if on then (if was then t + c.dt else t) else 0
    let retrip := on && decide (c.g ELM_BF_T1.VALUE e * 250 ≤ t)
    let backup := on && decide (c.g ELM_BF_T2.VALUE e * 250 ≤ t)
    let out := bitsOf [(3, on), (4, retrip), (5, backup), (7, retrip || backup), (8, ipres), (14, kb), (15, inval)]
    let us := sat32u (t / 250)
    let s := s.elmEvents c e old out 0x8 0x80 0 us
    let s := if retrip && !hasBit old 0x10 then s.noteEv hRetrip e else s
    let s := if backup && !hasBit old 0x20 then s.noteEv hBackup e else s
    (s.wr ELM_BF_TM.VALUE us e).putElm e c.n (.bf on t) out
  | _ => s

/-! ### Autoreclose (R336 to R338) -/

/-- What an autoreclose sees at a tick. -/
structure ArIn where
  start : Bool
  cbcl : Bool
  reset : Bool
  block : Bool
  sync : Bool

/-- What a transition does besides. -/
inductive ArAct where
  | none | close | success | lockout (reason : Nat) | reset
  deriving DecidableEq

/-- The transition of R337 from state `st` with `s` shots and the timer at `tm` us: next state, shots, action; `none`
when no row of the table applies. Limits in us. -/
def arNext (st s tm : Nat) (i : ArIn) (dt : Nat → Nat) (syncreq topen tsync tclose trec shots : Nat) : Option (Nat × Nat × ArAct) :=
  let lock := fun r => some (7, 0, ArAct.lockout r)
  if (st = 1 ∨ st = 2 ∨ st = 3 ∨ st = 4) ∧ i.block then lock 5 else
  match st with
  | 0 => if i.start && !i.block then some (1, s, .none) else if !i.cbcl then some (6, s, .none) else none
  | 1 => if !i.cbcl then some (2, s + 1, .none) else if topen ≤ tm then lock 2 else none
  | 2 =>
    if i.cbcl then some (5, s, .none)
    else if dt s ≤ tm then (if syncreq.testBit (s - 1) && !i.sync then some (3, s, .none) else some (4, s, .close))
    else none
  | 3 => if i.sync then some (4, s, .close) else if tsync ≤ tm then lock 4 else none
  | 4 => if i.cbcl then some (5, s, .none) else if tclose ≤ tm then lock 3 else none
  | 5 =>
    if i.start && i.block then lock 5
    else if i.start then (if s < shots then some (1, s, .none) else lock 1)
    else if trec ≤ tm then some (0, 0, .success) else none
  | 6 =>
    if i.start then lock 6
    else if !i.cbcl then some (6, s, .none)
    else if trec ≤ tm then some (0, s, .none) else none
  | _ => if i.reset && i.cbcl then some (6, s, .reset) else none

/-- Evaluate an autoreclose element at a tick (R336 to R338). -/
def State.evalAr (s : State) (c : Ctx) (e : Nat) : State :=
  match s.elmSt c e with
  | .ar st sh timer reason =>
    let kb := s.knotBlock c e
    let syncel := c.fld ELM_AR_KN2.SYNCEL e
    let i : ArIn :=
      { start := s.knotPrev (c.fld ELM_AR_KN1.START e) c.n, cbcl := s.knotPrev (c.fld ELM_AR_KN1.CBCL e) c.n,
        reset := s.knotPrev (c.fld ELM_AR_KN2.RESET e) c.n, block := kb,
        sync := c.fld ELM_AR_KN2.SYNCEN e == 1 && (s.elmOut syncel c.n).testBit 7 }
    let tm := timer + c.dt
    let dts := fun k => match k with
      | 0 | 1 => c.g ELM_AR_DT1.VALUE e * 250
      | 2 => c.g ELM_AR_DT2.VALUE e * 250
      | 3 => c.g ELM_AR_DT3.VALUE e * 250
      | _ => c.g ELM_AR_DT4.VALUE e * 250
    let r := arNext st sh tm i dts (c.g ELM_AR_CFG.SYNCREQ e) (c.g ELM_AR_TOPEN.VALUE e * 250)
      (c.g ELM_AR_CFG.TSYNC e * 25000000) (c.g ELM_AR_CFG.TCLOSE e * 250000) (c.g ELM_AR_TRECLAIM.VALUE e * 250)
      (c.g ELM_AR_CFG.SHOTS e)
    let st' := (r.map (·.1)).getD st
    let sh' := (r.map (·.2.1)).getD sh
    let tm' := if r.isSome then 0 else tm
    let act := (r.map (·.2.2)).getD .none
    let reason' := match act with | .lockout k => k | _ => reason
    let s := match act with
      | .none => s
      | .close => (s.logAt c.t 0x5010 0 sh').noteEv hArClose e
      | .success =>
        let s := (s.logAt c.t 0x5011 0 sh).noteEv hArSuccess e
        if 0 < sh then s.bump ELM_AR_CNT.OK e else s
      | .lockout k => ((s.logAt c.t 0x5012 0 (k + 256 * sh)).bump ELM_AR_CNT.LOCK e).noteEv hArLockout e
      | .reset => s.logAt c.t 0x5013 0 0
    let s := ((s.wr ELM_AR_STATE.STATE st' e).wr ELM_AR_STATE.SHOT sh' e).wr ELM_AR_STATE.REASON reason' e
    let s := s.wr ELM_AR_TM.VALUE (sat32u (tm' / 250)) e
    let out := bitsOf ([(0, st' == 0 && !kb), (1, decide (1 ≤ st') && decide (st' ≤ 5)), (2, st' == 4), (3, st' == 7)]
      ++ (List.range 5).map (fun k => (4 + k, sh' == k)) ++ [(9, st' == 6), (10, st' == 3), (14, kb)])
    s.putElm e c.n (.ar st' sh' tm' reason') out
  | _ => s

/-! ### Synchrocheck (R339 to R341) -/

/-- The line quantity of a SYNC element with the role whose scale it takes (R339). -/
def State.syncRef (s : State) (c : Ctx) (ref : Nat) : Phasor × Nat :=
  let vrole := if (c.bank.slotOf c.b 6).isSome then 6 else 10
  if ref < 3 then ((s.rolePh c.b (6 + ref) c.n).getD {}, 6 + ref)
  else if ref < 6 then
    ((s.linePh c.b (ref - 3) c.n).getD {}, if (c.bank.slotOf c.b (10 + (ref - 3))).isSome then 10 + (ref - 3) else 6 + (ref - 3))
  else (s.seqComp c.b true 1 c.n, vrole)

/-- Degrees of an angle difference, wrapped to ±180° (R339). -/
def wrapDeg (x : Rat) : Rat := x - ((((x + 180) / 360).floor : Int) : Rat) * 360

/-- Absolute value. -/
def rabs (x : Rat) : Rat := if x < 0 then -x else x

/-- Evaluate a synchrocheck element at a tick (R339 to R341). -/
def State.evalSync (s : State) (c : Ctx) (e : Nat) : State :=
  match s.elmSt c e with
  | .sy on t =>
    let old := s.elmNow e
    let vs := s.vsyncPh c.b c.n
    let rf := s.syncRef c (c.fld ELM_LCFG.REF e)
    let line := rf.1
    let ok := fun (p : Phasor) => hasBit p.psw bVALID && !hasBit p.psw bTWIN
    let valid := ok vs && ok line
    let mb := fmul (magOf vs.re vs.im : Rat) (c.bank.scaleOf c.b 13)
    let ml := fmul (magOf line.re line.im : Rat) (c.bank.scaleOf c.b rf.2)
    let dv := fsub mb ml
    let fb := s.bayFreq c.b c.n
    let fs := s.syncFreq c.b c.n
    let df : Int := ((fs.getD c.r.freq : Nat) : Int) - ((fb.getD c.r.freq : Nat) : Int)
    let ang : Rat := ((angle32 vs.re vs.im - angle32 line.re line.im : Int) : Rat) * 360 / ((2 ^ 32 : Nat) : Rat)
    let dphi := r64 (wrapDeg (ang - ((sx 16 (c.fld ELM_SY_ANGOFS.VALUE e) : Int) : Rat) / 100))
    let dpp := fadd dphi (fmul (fmul 360 (r64 ((df : Rat) / 1000000))) (r64 ((c.g ELM_SY_TCB.VALUE e : Rat) / 1000000)))
    let lim := fun f => (dec32 (c.g f e)).getD 0
    let vlive := lim ELM_SY_VLIVE.VALUE
    let vdead := lim ELM_SY_VDEAD.VALUE
    let dvOk := decide (rabs dv ≤ lim ELM_SY_DVMAX.VALUE)
    let dfOk := decide (df.natAbs ≤ c.g ELM_SY_DFMAX.VALUE e)
    let dphOk := decide (rabs dpp ≤ (c.g ELM_SY_DPH.VALUE e : Rat) / 100)
    let mode := c.g ELM_SY_MODE.EN e
    let bl := decide (vlive ≤ mb)
    let ll := decide (vlive ≤ ml)
    let bd := decide (mb < vdead)
    let ld := decide (ml < vdead)
    let llok := valid && mode.testBit 0 && bl && ll && dvOk && dfOk && dphOk && fb.isSome && fs.isSome
    let dead := valid && ((mode.testBit 1 && ld && bl) || (mode.testBit 2 && ll && bd) || (mode.testBit 3 && ld && bd))
    let cond := llok || dead
    let t := if cond then (if on then t + c.dt else 0) else 0
    let op := cond && decide (c.g ELM_SY_MODE.TCHK e * 250000 ≤ t)
    let kb := s.knotBlock c e
    let out := bitsOf [(0, llok), (1, dead), (7, op && !kb), (8, dvOk), (9, dfOk), (10, dphOk), (14, kb), (15, !valid)]
    let s := s.elmEvents c e old out 0 0x80 0 0
    let s := (s.wr ELM_SY_DV.VALUE (enc32 dv) e).wrI ELM_SY_DF.VALUE df e
    let s := s.wrI ELM_SY_DPH_P.VALUE (satI 16 (openRat 37 (dpp * 100))) e
    s.putElm e c.n (.sy cond t) out
  | _ => s

/-! ### The elements of a bay (R315) -/

/-- Evaluate element `e` by its type. -/
def State.evalElm (s : State) (c : Ctx) (e : Nat) : State :=
  match c.fld ELM_CFG.TYPE e with
  | 1 | 2 | 3 | 4 => s.evalOc c e
  | 6 => s.evalTherm c e
  | 14 => s.evalBf c e
  | 15 => s.evalAr c e
  | 16 => s.evalSync c e
  | 17 => s.evalHarm c e 2
  | 18 => s.evalHarm c e 5
  | 19 => s.evalClp c e
  | 0 => s
  | _ => s.evalLevel c e

/-- The elements of the bay in the order of R315. -/
def Ctx.order (c : Ctx) : List Nat :=
  let l := c.bank.elems c.b
  let ty := fun e => c.fld ELM_CFG.TYPE e
  l.filter (fun e => ty e == 17) ++ l.filter (fun e => ty e == 18) ++ l.filter (fun e => ty e == 19)
    ++ l.filter (fun e => decide (ty e < 14) || ty e == 16) ++ l.filter (fun e => ty e == 14) ++ l.filter (fun e => ty e == 15)

/-- Evaluate the elements of the bay at the tick. -/
def State.evalElms (s : State) (c : Ctx) : State := forL c.order (fun e s => s.evalElm c e) s

end Sys2Proof.Machine
end

