-- ==== Sys2Proof/Machine/Scheme.lean ====
section
/-! DEFINITION. Scheme logic: knots, the trip matrix and the fast path (R352 to R383). -/
namespace Sys2Proof.Machine
open Reg

/-! ### Knots (R352 to R361) -/

/-- Word `i` of a knot entry. -/
def knotWord (w : List Nat) (i : Nat) : Nat := w.getD i 0
/-- A knot entry is enabled. -/
def knotEn (w : List Nat) : Bool := (knotWord w 0).testBit 31
/-- The bay that owns a knot. -/
def knotBay (w : List Nat) : Nat := knotWord w 0 / 2 ^ 22 % 64
/-- TMODE of a knot. -/
def knotTmode (w : List Nat) : Nat := knotWord w 0 / 2 ^ 16 % 8
/-- LATCH of a knot. -/
def knotLatch (w : List Nat) : Nat := knotWord w 0 / 2 ^ 19 % 4

/-- Knot `q` of a bank. -/
def Bank.knot (k : Bank) (q : Nat) : List Nat := tget [] k.knots q

/-- The enabled knots of bay `b`, ascending. -/
def Bank.knotsOf (k : Bank) (b : Nat) : List (Nat × List Nat) := k.knots.filter fun x => knotEn x.2 && knotBay x.2 == b

/-- The reset state of a knot (R355). -/
def knotInit (w : List Nat) : Knot := { l := (knotWord w 0).testBit 21 }

/-- A trace at tick n - 1. -/
def Trace.prev (l : Trace) (n : Nat) : Nat := if n = 0 then 0 else Trace.at' l (n - 1)

/-- The output of knot `k` as bay `b` sees it at tick `n`, tick n when the same bay owns it and `same` allows. -/
def State.knotSeen (s : State) (c : Ctx) (q : Nat) (same : Bool) : Bool :=
  let o := (tget {} s.eval.knot q).out
  (if same && knotBay (c.bank.knot q) == c.b then Trace.at' o c.n else Trace.prev o c.n) == 1

/-- A row of the trip matrix. -/
def State.row (s : State) (d : Nat) : Row := tget {} s.eval.row d

/-- The group in force of a bay in a trace of groups plus 1, the settings group FIX before the first (R345). -/
def groupOf (v fix : Nat) : Nat := if v = 0 then fix else v - 1

/-- The group in force at the tick before (R343, R345, R357). -/
def State.groupPrev (s : State) (c : Ctx) : Nat :=
  groupOf (Trace.prev (tget {} s.eval.bay c.b).grp c.n) ((s.bankAt (c.n - 1)).fld SET_GRP.FIX c.b)

/-- The group in force of bay `b` (R343, R345): one that knots do not select is that of SET_GRP.FIX. -/
def State.group (s : State) (b : Nat) : Nat :=
  let x := tget {} s.eval.bay b
  let fix := s.bank.fld SET_GRP.FIX b
  if !x.run && s.bank.fld SET_GRP.KEN b == 0 then fix else groupOf (Trace.now x.grp) fix

/-- A system signal (R357) at the tick, for the bay. -/
def State.sysSignal (s : State) (c : Ctx) (i : Nat) : Bool :=
  let b := tget {} s.eval.bay c.b
  match i with
  | 8 => (s.groupPrev c).testBit 0
  | 9 => (s.groupPrev c).testBit 1
  | 10 => c.n % s.np == 0
  | 11 => b.first
  | _ => c.r.inp.sys.testBit i && decide (i < 8)

/-- The value an input selector gives knot `q` at the tick (R353). -/
def State.knotIn (s : State) (c : Ctx) (q sel : Nat) : Bool :=
  let i := sel % 2 ^ 28
  match sel / 2 ^ 28 with
  | 0 => i.testBit 0
  | 1 =>
    let e := i / 2 ^ 16 % 2048
    let o := ((tfind s.eval.elm e).map (·.out)).getD []
    (if c.fld ELM_CFG.BAY e = c.b then Trace.at' o c.n else Trace.prev o c.n).testBit (i % 32)
  | 2 => s.knotSeen c (i % 2 ^ 14) (decide (i % 2 ^ 14 < q))
  | 3 =>
    let g := i % 4096
    (tget 0 (if i.testBit 12 then c.r.inp.ginOk else c.r.inp.gin) (g / 32)).testBit (g % 32)
  | 4 => (if i.testBit 5 then c.r.inp.dinOk else c.r.inp.din).testBit (i % 32)
  | 5 => c.r.inp.fast.testBit (i % 64)
  | 6 => Trace.at' (s.tdSt (i % 128)).out c.n == 1
  | 7 => c.fld KNOT_TM_CFG.EN (i % 32) == 1 && Trace.prev (s.row (i % 32)).out c.n == 1
  | 8 => s.sysSignal c (i % 256)
  | _ => false

/-- The timer of a knot (R358): its state `x`, the value v, T1 and T2 in us, the time since the tick before. -/
def knotTimer (x : Knot) (v : Bool) (mode t1 t2 dt : Nat) : Knot :=
  match mode with
  | 1 =>
    let ton := if v then (if x.wv then x.ton + dt else x.ton) else 0
    { x with ton := ton, q := v && decide (t1 * 250 ≤ ton) }
  | 2 =>
    if v then { x with q := true, toff := 0 }
    else
      let toff := if x.wv then 0 else x.toff + dt
      { x with toff := toff, q := if t1 * 250 ≤ toff then false else x.q }
  | 3 =>
    if v && !x.wv && !x.q then { x with q := true, tp := 0 }
    else if x.q then { x with tp := x.tp + dt, q := !decide (t1 * 250 ≤ x.tp + dt) }
    else x
  | 4 =>
    if v then
      let ton := if x.wv then x.ton + dt else x.ton
      { x with toff := 0, ton := ton, q := x.q || decide (t1 * 250 ≤ ton) }
    else
      let toff := if x.wv then 0 else x.toff + dt
      { x with ton := 0, toff := toff, q := if t2 * 250 ≤ toff then false else x.q }
  | _ => { x with q := v }

/-- A knot at a tick (R358), from its entry and its four input bits. -/
def knotStep (w : List Nat) (inp : List Bool) (dt : Nat) (x : Knot) : Knot :=
  let bit := fun i => inp.getD i false
  let latch := knotLatch w
  let a := bitsOf [(0, bit 0), (1, bit 1), (2, bit 2), (3, latch == 0 && bit 3)]
  let y := (knotWord w 0).testBit a
  let l := match latch with
    | 1 => y || (x.l && !bit 3)
    | 2 => !bit 3 && (y || x.l)
    | _ => x.l
  let v := if latch = 0 then y else l
  { knotTimer { x with l := l } v (knotTmode w) (knotWord w 5) (knotWord w 6) dt with wv := v }

/-- Evaluate knot `q` at the tick. -/
def State.evalKnot (s : State) (c : Ctx) (q : Nat) (w : List Nat) : State :=
  let x := (tfind s.eval.knot q).getD (knotInit w)
  let inp := [1, 2, 3, 4].map fun i => s.knotIn c q (knotWord w i)
  let y := knotStep w inp c.dt x
  let timed := decide (knotTmode w ≠ 0) && y.q != x.q && y.wv == x.wv
  let s := s.modEval fun v => { v with knot := tset v.knot q { y with out := Trace.push x.out c.n (b2n y.q) } }
  let s := s.wrBit KNOT_OUT.VALUE q y.q
  if timed then s.noteEv hKnot q else s

/-- Evaluate the knots of the bay in ascending order (R355). -/
def State.evalKnots (s : State) (c : Ctx) : State := forL (c.bank.knotsOf c.b) (fun x s => s.evalKnot c x.1 x.2) s

/-- Knot `q` stops: its output reads 0 and its state is the reset state (R355). -/
def State.knotStop (s : State) (q n : Nat) (w : List Nat) : State :=
  let x := tget {} s.eval.knot q
  (s.modEval fun v => { v with knot := tset v.knot q { knotInit w with out := Trace.push x.out n 0 } }).wrBit KNOT_OUT.VALUE q false

/-! ### The trip matrix (R362 to R369) -/

/-- The command of a row after any force (R368). -/
def Row.shown (r : Row) : Bool := r.force.getD r.cmd

/-- Store a row and show it in its registers. -/
def State.putRow (s : State) (d : Nat) (r : Row) : State :=
  let s := s.modEval fun v => { v with row := tset v.row d r }
  let s := (s.wr KNOT_TM_STATE.CMD (b2n r.cmd) d).wr KNOT_TM_STATE.LAT (b2n r.lat) d
  let s := ((s.wr KNOT_TM_STATE.FH (b2n r.fh) d).wr KNOT_TM_STATE.DRV (b2n r.drv) d).wr KNOT_TM_STATE.FORCED (b2n r.force.isSome) d
  let m := s.rd KNOT_TM_CMD.MASK
  s.wr KNOT_TM_CMD.MASK (if r.shown then m ||| 2 ^ d else andNot m (2 ^ d))

/-- The force that the registers ask for on a row (R368); none in replay (R382). -/
def State.rowForce (s : State) (d : Nat) : Option Bool :=
  if s.maint && s.role != 3 && (s.rd KNOT_TM_FORCE_EN.MASK).testBit d then some ((s.rd KNOT_TM_FORCE_VAL.MASK).testBit d) else none

/-- The detectors of a row's FAST mask. -/
def Bank.rowFast (k : Bank) (d : Nat) : Nat := k.fld KNOT_TM_FAST_LO.MASK d + 2 ^ 32 * k.fld KNOT_TM_FAST_HI.MASK d

/-- The lowest-numbered detector of a mask; 0 for none (R369). -/
def lowestBit (m : Nat) : Nat := ((List.range 64).find? fun i => m.testBit i).getD 0

/-- The value of a TM_OPERATE entry (R369). -/
def tmValue (kn : Bool) (fast : Nat) : Nat := b2n kn + 2 * b2n (fast != 0) + 4 * lowestBit fast

/-- Write the latches of NVL rows to MRAM where they have changed, over the older copy (R367), unless writes are withheld. A row that has no
copy yet gets one (DEDUCED, log entry 103). -/
def State.storeLatches (s : State) : State :=
  if s.writesHeld then s else
  forN 32 (fun d s =>
    let c := tget {} s.nv.lat d
    if s.bank.fld KNOT_TM_CFG.NVL d = 1 ∧ c.good ≠ some (s.row d).lat then
      s.modNv fun v => { v with lat := tset v.lat d (c.put (s.row d).lat) }
    else s) s

/-- One evaluation of a row (R363): the knot drive, the fast drive, whether the reset knot is 1, LATCH, MINP in us. Gives
the row, whether its latch was cleared, whether its command rose, whether it fell. -/
def Row.step (r : Row) (kn fb rk latch : Bool) (minp dt : Nat) : Row × Bool × Bool × Bool :=
  let drv := kn || fb
  let clear := !(latch && drv) && (rk || r.hr) && !drv && r.lat
  let lat := if latch && drv then true else if (rk || r.hr) && !drv then false else r.lat
  let on := drv || lat
  let pt := if r.cmd && r.counting then r.pt + dt else r.pt
  let counting := r.cmd || r.counting
  let r := { r with fh := fb, drv := drv, lat := lat, hr := false, com := none }
  if on then ({ r with cmd := true, pt := pt, counting := counting }, clear, !r.cmd, false)
  else if r.cmd && decide (minp * 250 ≤ pt) then ({ r with cmd := false, pt := 0, counting := false }, clear, false, true)
  else ({ r with pt := pt, counting := counting }, clear, false, false)

/-- Evaluate row `d` at the tick (R363, R367 to R369). `live` is false for a row whose bay does not run: it has no drive and
its own bay's reset knot reads 0 (R380). A host reset waits while the unit replays (R382). -/
def State.evalRow (s : State) (c : Ctx) (live : Bool) (d : Nat) : State :=
  let wait := s.role == 3 && (s.row d).hr
  let r := { s.row d with hr := (s.row d).hr && !wait }
  let en := c.fld KNOT_TM_CFG.EN d == 1
  let kn := live && en && c.fld KNOT_TM_CFG.KEN d == 1 && s.knotSeen c (c.fld KNOT_TM_CFG.KNOT d) true
  let fast := if live && en then c.bank.rowFast d &&& c.r.inp.fast else 0
  let rq := c.fld KNOT_TM_RST.KNOT d
  let rk := c.fld KNOT_TM_RST.KEN d == 1 && s.knotSeen c rq true && (live || knotBay (c.bank.knot rq) != c.b)
  let hr := r.hr
  let x := r.step kn (fast != 0) rk (en && c.fld KNOT_TM_CFG.LATCH d == 1) (c.fld KNOT_TM_MINP.VALUE d) c.dt
  let y := { x.1 with force := s.rowForce d, hr := wait }
  let s := if x.2.1 then s.logAt c.t 0x5021 0 (if rk && hr then 2 else if hr then 1 else 0) else s
  let s := if x.2.2.1 then (s.logAt c.t 0x5020 d (tmValue kn fast)).bump KNOT_TM_OPCNT.VALUE d else s
  let s := if x.2.2.2 then s.noteEv hMinp d else s
  s.putRow d { y with out := Trace.push r.out c.n (b2n y.shown) }

/-- A row has anything to evaluate: it is enabled, or something of it stands. -/
def State.rowAlive (s : State) (k : Bank) (d : Nat) : Bool :=
  let r := s.row d
  k.fld KNOT_TM_CFG.EN d == 1 || r.cmd || r.lat || r.hr || r.force.isSome || (s.rowForce d).isSome || Trace.now r.out != 0

/-- Evaluate the rows of the bay (R363). -/
def State.evalRows (s : State) (c : Ctx) (live : Bool) : State :=
  (forL ((List.range 32).filter fun d => c.fld KNOT_TM_CFG.BAY d == c.b && s.rowAlive c.bank d)
    (fun d s => s.evalRow c live d) s).storeLatches

/-- Host resets of rows are requested (R365). -/
def State.tmReset (s : State) (w : Nat) : State :=
  forL (maskIdx 32 w) (fun d s => s.putRow d { s.row d with hr := true }) s

/-- The force registers are written (R368); outside maintenance mode nothing happens. -/
def State.tmForce (s : State) (val : Bool) (w : Nat) : State :=
  if !s.maint then s else
  let s := s.wr (if val then KNOT_TM_FORCE_VAL.MASK else KNOT_TM_FORCE_EN.MASK) w
  forN 32 (fun d s =>
    let r := s.row d
    if r.force = s.rowForce d then s else s.putRow d { r with force := s.rowForce d }) s

/-! ### Settings groups (R342 to R345) -/

/-- The bay's group at tick `n` (R343, R345): its state with the group in force, the wanted group and its count; `some`
the group before when a switch takes place. -/
def State.groupStep (s : State) (k : Bank) (b n : Nat) : BaySt × Option Nat :=
  let x := tget {} s.eval.bay b
  let fix := k.fld SET_GRP.FIX b
  let cur := groupOf (Trace.now x.grp) fix
  if k.fld SET_GRP.KEN b = 0 then
    ({ x with grp := Trace.push x.grp n (fix + 1), want := fix, cnt := 0 }, if fix = cur then none else some cur)
  else
    let want := b2n (s.knotPrev (k.fld SET_GRP.KN0 b) n) + 2 * b2n (s.knotPrev (k.fld SET_GRP.KN1 b) n)
    let cnt := if x.cnt ≠ 0 ∧ want = x.want then min (x.cnt + 1) 255 else 1
    let sw := decide (want ≠ cur) && decide (max (k.fld SET_GRP_ST.HOLD b) 1 ≤ cnt)
    ({ x with grp := Trace.push x.grp n ((if sw then want else cur) + 1), want := want, cnt := cnt }, if sw then some cur else none)

/-- Bring bay `b` to its group of tick `n` (R343). -/
def State.evalGroup (s : State) (k : Bank) (b : Nat) (r : TickRec) : State :=
  let x := s.groupStep k b r.n
  let g := groupOf (Trace.now x.1.grp) 0
  let s := s.modEval fun v => { v with bay := tset v.bay b x.1 }
  let s := (s.wr SET_GRP_ST.ACTIVE g b).wr SET_GRP_ST.WANT x.1.want b
  match x.2 with
  | some old => (s.logAt (r.t / 2 ^ 24) 0x5004 b (old + 4 * g)).noteEv hGroup b
  | none => s

/-! ### Evaluation of a bay (R254 to R256, R315) -/

/-- The unit evaluates its bays as they become ready: protection is enabled, and the unit is active or not paired
(R309, R381, R662). -/
def State.evaluates (s : State) : Bool := s.pwr.prot && (s.role == 0 || s.role == 4)

/-- The unit's bays evaluate, live or in replay (R490, R513). -/
def State.bayEngines (s : State) : Bool := s.pwr.prot && (s.role == 0 || s.role == 3 || s.role == 4)

/-- The device time from the tick before `n` to it. -/
def State.tickDt (s : State) (r : TickRec) : Nat :=
  if r.n = 0 then 0 else
  match s.tickRec? (r.n - 1) with
  | some p => r.t / 2 ^ 24 - p.t / 2 ^ 24
  | none => r.per / 2 ^ 24

/-- What the evaluation of bay `b` knows at a tick, its group already in force. -/
def State.ctxAt (s : State) (b : Nat) (r : TickRec) (dt : Nat) : Ctx :=
  { b := b, n := r.n, r := r, dt := dt, grp := s.group b, bank := s.bankAt r.n }

/-- Evaluate bay `b` at a tick, on the settings of that tick: group, elements, knots, rows (R254, R315, R355, R363). -/
def State.evalBay (s : State) (b : Nat) (r : TickRec) (dt : Nat) : State :=
  s.onTick r.n fun s =>
    let s := (s.modEval fun v => { v with ev := [] }).evalGroup s.bank b r
    let c := s.ctxAt b r dt
    let s := ((s.evalElms c).evalKnots c).evalRows c true
    let s := s.modEval fun v => { v with bay := tmod {} v.bay b fun x => { x with next := r.n + 1, first := false } }
    s.wr BAY_STATUS.RUN 1 b

/-! ### What a bay has committed (R260, R504, R505) -/

/-- The bays that the bank in force enables. -/
def State.enabledBays (s : State) : List Nat := (List.range 64).filter fun b => s.bank.fld BAY_CFG.EN b == 1
/-- The bays that run. -/
def State.runBays (s : State) : List Nat := (List.range 64).filter fun b => (tget {} s.eval.bay b).run

/-- The first tick that some running bay has still to evaluate; `none` when no bay runs. -/
def State.bayFront (s : State) : Option Nat :=
  match s.runBays.map fun b => (tget {} s.eval.bay b).next with
  | [] => none
  | n :: l => some (l.foldl min n)

/-- The latest tick that every running bay has completed. -/
def State.doneTick (s : State) : Option Nat := s.bayFront.bind fun n => if n = 0 then none else some (n - 1)

/-- An element's state as a snapshot carries it (R309, R310): without the memory phasor. -/
def ElmSt.noPhasor : ElmSt → ElmSt
  | .oc ph _ age => .oc ph none age
  | st => st

/-- What bay `b` has committed, on the settings of tick `n`, its latest: of a row that a fast detector has changed since, what the tick
committed. -/
def State.baySec (s : State) (b n : Nat) : BaySec :=
  let k := s.bankAt n
  let x := tget {} s.eval.bay b
  let bay : SnapBay :=
    { b := b, shed := x.shed, first := x.first, grp := groupOf (Trace.now x.grp) (k.fld SET_GRP.FIX b), want := x.want, cnt := x.cnt }
  let elms := (k.elems b).filterMap fun e => (tfind s.eval.elm e).map fun x => ({ e := e, st := x.st.noPhasor, out := Trace.now x.out } : SnapElm)
  let knots := (k.knotsOf b).map fun x =>
    let y := (tfind s.eval.knot x.1).getD (knotInit x.2)
    ({ q := x.1, pulse := knotTmode x.2 == 3, l := y.l, wv := y.wv, out := y.q, ton := y.ton, toff := y.toff, tp := y.tp } : SnapKnot)
  let rows := ((List.range 32).filter fun d => k.fld KNOT_TM_CFG.EN d == 1 && k.fld KNOT_TM_CFG.BAY d == b).map fun d =>
    let y := s.row d
    let x := y.com.getD (y.cmd, y.fh, y.pt, y.counting)
    ({ d := d, cmd := x.1, lat := y.lat, fh := x.2.1, counting := x.2.2.2, pt := x.2.2.1 } : SnapRow)
  { b := b, n := n, bay := bay, elms := elms, knots := knots, rows := rows }

/-- Before an active unit's bay `b` evaluates tick `n`, what it had committed at the tick before is kept for a snapshot of that tick, as
long as some running bay has not gone past it either (R504). -/
def State.keepSec (s : State) (b n : Nat) : State :=
  if s.role ≠ 4 ∨ n = 0 then s else
  let x := s.baySec b (n - 1)
  let front := s.bayFront.getD n
  s.modPair fun p => { p with past := x :: p.past.filter fun y => decide (front ≤ y.n + 1) }

/-- What bay `b` had committed at the end of tick `n`. -/
def State.secAt (s : State) (b n : Nat) : BaySec := (s.pair.past.find? fun x => x.b == b && x.n == n).getD (s.baySec b n)

/-- The trip-matrix rows of bay `b`, which does not run, are evaluated at a tick (R363, R380). -/
def State.idleBay (s : State) (b : Nat) (r : TickRec) : State :=
  s.onTick r.n fun s =>
    if (tget {} s.eval.bay b).run ∨ !((List.range 32).any fun d => s.bank.fld KNOT_TM_CFG.BAY d == b && s.rowAlive s.bank d) then s
    else (s.keepSec b r.n).evalRows (s.ctxAt b r (s.tickDt r)) false

/-- The trip-matrix rows of bays that do not run are evaluated at a tick (R363, R380), on its settings. -/
def State.idleRowsAt (s : State) (r : TickRec) : State := forN 64 (fun b s => s.idleBay b r) s

/-- Bay `b` has stopped at tick `n`: its rows are evaluated at the ticks from `n` on that the grid has already made (R380). -/
def State.idleSince (s : State) (b n : Nat) : State :=
  if !s.bayEngines then s else forL (s.grid.hist.takeWhile fun r => decide (n ≤ r.n)).reverse (fun r s => s.idleBay b r) s

/-- A swap from tick `first` on awaits bay `b`, which has to turn to the new bank before it evaluates that tick (R558). -/
def State.bayHeld (s : State) (b n : Nat) : Bool :=
  s.eval.chg.contains b && (match s.prev with | some (_, first) => decide (first ≤ n) | none => false)

/-- The tick that bay `b` evaluates next, once every mapped channel has its sample of it (R254). -/
def State.bayDue (s : State) (b : Nat) : Option TickRec :=
  let x := tget {} s.eval.bay b
  if x.run && s.evaluates then (s.tickRec? x.next).filter fun r => s.bayReady b r && !s.bayHeld b r.n && x.stopAt.all fun m => decide (r.n < m) else none

/-! ### The fast path (R371 to R376) -/

/-- Fast detector `f`. -/
def State.fp (s : State) (f : Nat) : FastDet := tget {} s.eval.fp f
/-- A fast detector replaced. -/
def State.setFp (s : State) (f : Nat) (x : FastDet) : State := s.modEval fun v => { v with fp := tset v.fp f x }

/-- Detector `f` is enabled, and its bay is. -/
def Bank.fpOn (k : Bank) (f : Nat) : Bool := k.fld KNOT_FP_CFG.EN f == 1 && k.fld BAY_CFG.EN (k.fld KNOT_FP_CFG.BAY f) == 1

/-- Detector `f` runs at strobe `sig` (2^-32 units): enabled, and its bay enabled and not shed by then (R371). -/
def State.fpRuns (s : State) (f sig : Nat) : Bool :=
  let x := tget {} s.eval.bay (s.bank.fld KNOT_FP_CFG.BAY f)
  s.bank.fpOn f && !(x.shed && decide (x.shedAt * 2 ^ 32 ≤ sig))

/-- The detectors that may run, or that the bank before the latest swap ran, ascending. That of a shed bay stays among them: the strobes
before its bay was shed still count (R376). -/
def State.fps (s : State) : List Nat := (List.range 64).filter fun f => s.bank.fpOn f || s.prev.any fun x => x.1.fpOn f

/-- The state with the settings in force at a strobe (2^-32 units): those before the latest swap for one before its swap tick (R371). -/
def State.asAtStrobe (s : State) (sig : Nat) : State :=
  match s.prev with
  | some (b, n) =>
    let t := match s.tickRec? n with | some r => r.t | none => if n < s.grid.nextN then 0 else s.grid.nextT
    if sig < t * 2 ^ 8 then { s with bank := b } else s
  | none => s

/-- Pi in binary64. -/
def pi64 : Rat := 884279719003555 / 281474976710656

/-- c of R372 for a frequency in uHz and a spacing. -/
def fastC (freq m : Nat) : Rat :=
  let x := fmul (fmul (fmul (fmul 2 pi64) (r64 ((freq : Rat) / 1000000))) (m : Rat)) (r64 (8 / 1000000))
  fdiv 1 (fmul 2 (romSin x))

/-- c of detector `f` for the frequency applied and its spacing (R372). -/
def State.fastSetC (s : State) (f : Nat) : State :=
  let c := fastC s.grid.freq (s.bank.fld KNOT_FP_CFG.M f)
  (s.setFp f { s.fp f with c := c }).wr KNOT_FP_C.VALUE (enc32 c) f

/-- c of every running detector for the cycle that begins (R372). -/
def State.fastCoef (s : State) : State := forL (s.fps.filter fun f => s.fpRuns f (s.grid.now * 2 ^ 32)) (fun f s => s.fastSetC f) s

/-- The targets of detector `f`'s channel that strobe `sig` has passed, from the detector's first open tick on: their ticks, oldest first
(R376). -/
def State.fastDue (s : State) (f sig : Nat) : List Nat :=
  let ch := s.bank.fld KNOT_FP_CFG.CH f
  (((s.grid.hist.takeWhile fun r => decide ((s.fp f).tick ≤ r.n)).filter fun r =>
    s.formable r.n && decide ((((r.t : Int) + tauUnits (tget 0 r.corr ch) * 2 ^ 16) * 2 ^ 8).toNat < sig)).map (·.n)).reverse

/-- The detector's value for the targets before strobe `sig` goes into their tick records: whether it was picked up at a strobe since the
target before (R376). -/
def State.fastTargets (s : State) (f sig : Nat) : State :=
  let due := s.fastDue f sig
  if due.isEmpty then s else
  let s := forL due (fun n s =>
    let x := s.fp f
    let s := s.setFp f { x with tick := n + 1, hot := x.up }
    if x.hot then s.modTick n fun r => { r with inp := { r.inp with fast := r.inp.fast ||| 2 ^ f } } else s) s
  s.setFp f { s.fp f with hot := false }

/-- The mask register of the pickups. -/
def State.fpShow (s : State) (f : Nat) (up : Bool) : State :=
  let fld := if f < 32 then KNOT_FP_PU_LO.MASK else KNOT_FP_PU_HI.MASK
  let b := 2 ^ (f % 32)
  s.wr fld (if up then s.rd fld ||| b else andNot (s.rd fld) b)

/-- The row with what its latest evaluation committed kept beside what a fast detector makes of it (R364, R504). -/
def Row.keep (r : Row) : Row := { r with com := some (r.com.getD (r.cmd, r.fh, r.pt, r.counting)) }

/-- A pickup of detector `f` at strobe `sig` sets its rows' commands at once (R364). -/
def State.fastRows (s : State) (f sig : Nat) : State :=
  if !s.evaluates then s else
  forN 32 (fun d s =>
    let k := s.bank
    if k.fld KNOT_TM_CFG.EN d = 1 ∧ (k.rowFast d).testBit f ∧ (tget {} s.eval.bay (k.fld KNOT_TM_CFG.BAY d)).run then
      let r := (s.row d).keep
      if r.cmd then s.putRow d { r with fh := true }
      else
        let kn := k.fld KNOT_TM_CFG.KEN d == 1 && Trace.now (tget {} s.eval.knot (k.fld KNOT_TM_CFG.KNOT d)).out == 1
        let s := s.putRow d { r with fh := true, cmd := true, pt := 0, counting := false }
        (s.logAt (sig / 2 ^ 32) 0x5020 d (tmValue kn (2 ^ f))).bump KNOT_TM_OPCNT.VALUE d
    else s) s

/-- The amplitude estimate at the head of `l` (R372): the squared amplitude, and the amplitude rounded down. -/
def fastEst (c : Rat) (m : Nat) (l : List BaseSmp) : Rat × Nat :=
  let xi := fun i => ((l[i]?).map (·.v)).getD 0
  let y : Rat := ((xi m : Int) : Rat)
  let d := fmul ((xi 0 - xi (2 * m) : Int) : Rat) c
  let e2 := fadd (fmul y y) (fmul d d)
  (e2, sat32u (isqrt e2.floor.toNat))

/-- Detector `f` is held dropped out (R374). -/
def State.fastHeld (s : State) (f : Nat) : Bool :=
  s.bank.fld KNOT_FP_CFG.KEN f == 1 && s.knotPrev (s.bank.fld KNOT_FP_BLK.KNOT f) (s.fp f).tick

/-- One base-rate sample, the head of `l`, at a running detector `f` (R372 to R376). -/
def State.fastEval (s : State) (f : Nat) (b : BaseSmp) (l : List BaseSmp) : State :=
  let x := s.fp f
  let k := s.bank
  let m := k.fld KNOT_FP_CFG.M f
  let e := fastEst x.c m l
  let s := s.wr KNOT_FP_E.VALUE e.2 f
  if s.fastHeld f then (s.setFp f { x with up := false, count := 0, fired := if x.up then 2 else 0 }).fpShow f false
  else
    let span := l.take (2 * m + 1)
    if span.length < 2 * m + 1 || span.any (fun z => hasBit z.flags (bSETTLING + bSELFTEST)) then
      (s.setFp f { x with count := 0, hot := x.hot || x.up }).fpShow f x.up
    else
      let th : Rat := (k.fld KNOT_FP_TH.VALUE f : Nat)
      let lo := th * (k.fld KNOT_FP_CFG.DO f : Rat) / 256
      let q := if x.up then decide (e.1 < fmul lo lo) else decide (fmul th th ≤ e.1)
      let n := if q then x.count + 1 else 0
      if q && decide (k.fld KNOT_FP_CFG.Q f ≤ n) then
        let up := !x.up
        let s := (s.setFp f { x with up := up, count := 0, hot := x.hot || up, fired := if up then 1 else 2 }).fpShow f up
        if up then ((s.logAt (b.s / 2 ^ 32) 0x5024 f e.2).bump KNOT_FP_PUCNT.VALUE f).fastRows f b.s else s
      else (s.setFp f { x with count := n, hot := x.hot || x.up }).fpShow f x.up

/-- Detector `f` is dropped out with its count at 0. -/
def State.fastDrop (s : State) (f : Nat) : State := (s.setFp f { s.fp f with up := false, count := 0 }).fpShow f false

/-- One base-rate sample, the head of `l`, at detector `f`, on the settings of its strobe: targets passed, a restart that falls due (R371),
the evaluation; a detector that does not run stays dropped out (R380). -/
def State.fastSample (s : State) (f : Nat) (l : List BaseSmp) : State :=
  match l with
  | [] => s
  | b :: _ =>
    let u := (s.asAtStrobe b.s).fastTargets f b.s
    let u := u.setFp f { u.fp f with seen := b.s, fired := 0 }
    let u := if (u.fp f).restart.any fun t => decide (t ≤ b.s) then
        ((u.setFp f { u.fp f with restart := none }).fastDrop f).fastSetC f
      else u
    { (if u.fpRuns f b.s then u.fastEval f b l else u.fastDrop f) with bank := s.bank }

/-- Run detector `f` over the suffixes of its channel's samples, oldest unseen sample first, until `stop` holds of what one
brought. -/
def State.fastRun (s : State) (f : Nat) (stop : Nat → Bool) (base : List BaseSmp) : Nat → State
  | 0 => s
  | k + 1 =>
    let s := s.fastSample f (base.drop k)
    if stop (s.fp f).fired then s else s.fastRun f stop base k

/-- Run detector `f` over the samples it has not seen. -/
def State.fastTo (s : State) (f : Nat) (stop : Nat → Bool) : State :=
  let x := s.fp f
  let new := fun (ch : Nat) => (s.chan ch).base.takeWhile fun b => decide (x.seen < b.s)
  let ch := s.bank.fld KNOT_FP_CFG.CH f
  let was := match s.prev with | some (b, _) => b.fld KNOT_FP_CFG.CH f | none => ch
  if was = ch then s.fastRun f stop (s.chan ch).base (new ch).length
  else
    -- the channel before the swap up to its swap tick, the new one from there on
    let old := (s.chan was).base.filter fun b => (s.asAtStrobe b.s).bank.fld KNOT_FP_CFG.CH f == was
    let u := s.fastRun f stop old (old.takeWhile fun b => decide (x.seen < b.s)).length
    if stop (u.fp f).fired then u else
    let nw := (s.chan ch).base.filter fun b => (s.asAtStrobe b.s).bank.fld KNOT_FP_CFG.CH f == ch
    u.fastRun f stop (s.chan ch).base (nw.takeWhile fun b => decide ((u.fp f).seen < b.s)).length

/-- Every running detector brought up to its channel's samples. -/
def State.fastAll (s : State) : State := forL s.fps (fun f s => s.fastTo f fun _ => false) s

/-- A pickup (`k` = 1) or dropout (2) of detector `f`: it takes place when the samples not yet seen bring it. -/
def State.fastEvent (s : State) (f k : Nat) : State :=
  if !s.fps.contains f then s else
  let u := s.fastTo f (· == k)
  if (u.fp f).fired = k then u.atTime ((u.fp f).seen / 2 ^ 32) else s

/-- A detector restarts at a swap tick with the instant `t` (2^-32 units) (R371). -/
def State.fastRestart (s : State) (f t : Nat) : State := s.setFp f { s.fp f with restart := some t }

/-! ### Detectors -/

/-- Bring threshold detectors and fast detectors up to date, as an evaluation needs them (R353). -/
def State.detectors (s : State) : State := s.tdAll.fastAll

/-! ### GOOSE publications (R370) -/

/-- The enabled members of publication `q`: member, source, whether it is a row. -/
def Bank.gpMap (k : Bank) (q : Nat) : List (Nat × Nat × Bool) :=
  ((List.range 32).filter fun i => k.fld KNOT_GP_MAP.EN q i == 1).map fun i =>
    (i, k.fld KNOT_GP_MAP.KNOT q i, k.fld KNOT_GP_MAP.ROW q i == 1)

/-- The bays that source members of publication `q`. -/
def Bank.gpBays (k : Bank) (q : Nat) : List Nat :=
  (k.gpMap q).map fun m => if m.2.2 then k.fld KNOT_TM_CFG.BAY (m.2.1 % 32) else knotBay (k.knot m.2.1)

/-- The values of publication `q` at tick `n`, on the settings of the tick (R370). -/
def State.gpVals (s : State) (q n : Nat) : Nat :=
  let k := s.bankAt n
  bitsOf ((k.gpMap q).map fun m =>
    (m.1, if m.2.2 then k.fld KNOT_TM_CFG.EN (m.2.1 % 32) == 1 && Trace.at' (s.row (m.2.1 % 32)).out n == 1
          else Trace.at' (tget {} s.eval.knot m.2.1).out n == 1))

/-- The first tick that some running bay of a list has yet to finish, or the grid has yet to make. -/
def State.openTick (s : State) (l : List Nat) : Nat :=
  (l.filterMap fun b => let x := tget {} s.eval.bay b; if x.run then some x.next else none).foldl min s.grid.nextN

/-- The first tick that a source of publication `q` has yet to finish: the sources are those of the settings of the tick, so ticks before
the latest swap tick wait for the sources they had. -/
def State.gpDone (s : State) (q : Nat) : Nat :=
  let new := s.openTick (s.bank.gpBays q)
  match s.prev with
  | none => new
  | some (old, m) => let was := s.openTick (old.gpBays q); if was < m then was else max new m

/-- Form publication `q` for the ticks that are complete, up to the first that changes it (R228, R370). -/
def State.gpForm (s : State) (q : Nat) : Nat → State
  | 0 => s
  | k + 1 =>
    let g := s.gpSt q
    let n := match g.tick with | some t => t + 1 | none => s.gpDone q - 1
    if s.gpDone q ≤ n then s else
    let v := s.gpVals q n
    let first := g.sent.isNone
    let s := s.setGp q { g with tick := some n }
    if first || v != g.vals then
      let d := match s.tickRec? n with | some r => r.t / 2 ^ 24 | none => s.grid.now
      s.gpChange q v (s.taiOf d)
    else s.gpForm q k

/-- GOOSE_PUBLISH (R228, R370): it takes place when a complete tick changes the publication. -/
def State.goosePublish (s : State) (q : Nat) : State :=
  if s.rd PBUS_GP_CFG.EN q = 0 ∨ !s.publishes ∨ !s.pwr.prot ∨ s.gpDone q = 0 then s else s.gpForm q 2048

end Sys2Proof.Machine
end

