-- ==== Sys2Proof/Machine/Dio.lean ====
section
/-! DEFINITION. Field channels, the isolator link and the claim line (R384 to R426). -/
namespace Sys2Proof.Machine
open Reg

/-! ### Channels -/

/-- The bank whose DIR, PAR and PARTNER are in force (R391). -/
def State.dirBank (s : State) : Bank := s.dio.bind.getD s.bank
/-- DIR of a channel in force: 0 disabled, 1 input, 2 output (R390). -/
def State.dir (s : State) (d : Nat) : Nat := s.dirBank.fld DIO_CH_CFG.DIR d
/-- The channel leads a parallel pair (R404). -/
def State.par (s : State) (d : Nat) : Bool := s.dirBank.fld DIO_CH_CFG.PAR d == 1
/-- The channel that drives channel `d`: the lead of its parallel pair, or itself. -/
def State.lead (s : State) (d : Nat) : Nat := if d % 2 = 1 && s.par (d - 1) then d - 1 else d
/-- The class a row gives its channel; without an enabled row it counts as SIGNAL (R400). -/
def State.rowClass (s : State) (d : Nat) : Nat := if s.rd KNOT_TM_CFG.EN d = 1 then s.rd KNOT_TM_CFG.CLASS d else 2

/-- The command the logic side forms for channel `d` (R362, R375, R381, R400): a standby or joining unit commands nothing. -/
def State.outCmd (s : State) (d : Nat) : Bool :=
  (s.role == 0 || s.role == 3 || s.role == 4) && s.rd KNOT_TM_CFG.EN d == 1 && (s.row d).shown

/-- A threshold of channel `d`'s pad: its nominal value within its tolerance, both in mV; `k` numbers the thresholds. -/
def padThr (d k nominal tol : Nat) : Nat := nominal - tol + Config.padTrim d k % (2 * tol + 1)

/-- The state of an input pad of type ITYPE at a voltage in mV, from its state before (R393): 12.0 V and 10.0 V for type 1, 8.0 V and 6.5 V
for type 3, each within 0.5 V. The part's thresholds are open within that. -/
def padHigh (d itype : Nat) (was : Bool) (mv : Nat) : Bool :=
  if itype = 0 then (if was then decide (padThr d 1 10000 500 < mv) else decide (padThr d 0 12000 500 ≤ mv))
  else if was then decide (padThr d 3 6500 500 < mv) else decide (padThr d 2 8000 500 ≤ mv)

/-- Class in force of an output. -/
def State.cls (s : State) (d : Nat) : Nat := tget 2 s.dio.cls d

/-- A mask with one bit set or cleared. -/
def setBit (m d : Nat) (b : Bool) : Nat := if b then m ||| 2 ^ d else andNot m (2 ^ d)

/-- OSTATE of a channel. -/
def State.ostate (s : State) (d : Nat) : Nat :=
  let x := s.dio
  let l := s.lead d
  if s.dir d = 1 then 7
  else if s.dir d ≠ 2 then 0
  else if x.drv.testBit d then (if x.lim.testBit d then 3 else 1)
  else if !x.cmd.testBit l then 0
  else if (tfind x.shut l).isSome then 4
  else if !x.claim.gate then 5
  else if x.uv = 3 then 6
  else if x.queue.any fun q => q.1 == l then 2
  else 0

/-- Show the outputs in their registers. -/
def State.dioRegs (s : State) : State :=
  let s := (s.wr DIO_CMD.MASK s.dio.cmd).wr DIO_DRV.MASK s.dio.drv
  let s := s.wr DIO_STATUS.SS_BUSY (b2n (!s.dio.queue.isEmpty))
  forN 32 (fun d s =>
    ((s.wr DIO_CH_STATUS.OSTATE (s.ostate d) d).wr DIO_CH_STATUS.CLASS (s.cls d) d).wr DIO_CH_STATUS.CMD
      (b2n (s.dio.cmd.testBit d)) d) s

/-- What lets a commanded output be on, the class and the queue aside (R389, R400, R401, R407, R419, R636). -/
def State.mayDrive (s : State) (d : Nat) : Bool :=
  let x := s.dio
  x.claim.gate && x.cfg && !x.reset && decide (x.uv < 3) && (tfind x.shut d).isNone && !x.test.testBit d
    && (s.cls d == 0 || !x.holdOff)

/-- Both halves of a parallel pair carry time for R401 from `t` on, if their OVERLOAD is set. -/
def DioSt.carryFrom (x : DioSt) (d t : Nat) (par : Bool) : Tab Nat :=
  let l := if x.ovl.testBit d then tset x.ovlAt d t else x.ovlAt
  if par && x.ovl.testBit (d + 1) then tset l (d + 1) t else l

/-- A driver turns on: both halves of a parallel pair; the inrush of the channel begins (R404, R411), and the time for which it carries its
load (R401). -/
def State.drvOn (s : State) (d : Nat) : State :=
  s.modDio fun x =>
    let v := setBit x.drv d true
    { x with drv := if s.par d then setBit v (d + 1) true else v,
             ovlAt := x.carryFrom d s.grid.now (s.par d),
             inrush := tset x.inrush d (s.grid.now + s.rd DIO_CH_INRUSH.T d * 25000),
             queue := x.queue.filter (·.1 != d) }

/-- A driver turns off. -/
def State.drvOff (s : State) (d : Nat) : State :=
  s.modDio fun x =>
    let v := setBit x.drv d false
    { x with drv := if s.par d then setBit v (d + 1) false else v }

/-- Bring the drivers to the commands in force: off at once, TRIP on at once, others into the queue (R400, R408 to R410,
R423). A channel that is no output is not driven (R390). -/
def State.settle (s : State) : State :=
  let s := forN 32 (fun d s =>
    if s.lead d ≠ d then s
    else if s.dir d ≠ 2 then
      s.modDio fun x => { x with drv := setBit x.drv d false, queue := x.queue.filter (·.1 != d) }
    else
    let x := s.dio
    let cmd := x.cmd.testBit d
    let may := s.mayDrive d
    if cmd && may then
      if x.drv.testBit d then
        (if s.par d then s.modDio fun x => { x with drv := setBit x.drv (d + 1) true } else s)
      else if s.cls d = 0 then s.drvOn d
      else if x.queue.any fun q => q.1 == d then s
      else s.modDio fun x => { x with queue := x.queue ++ [(d, s.grid.now)] }
    else
      let s := if x.drv.testBit d then s.drvOff d else s
      if cmd && x.uv == 3 && x.claim.gate then s
      else s.modDio fun x => { x with queue := x.queue.filter (·.1 != d) }) s
  s.dioRegs

/-- A diagnostic flag by its bit number in DIO_CH_STATUS (R402). -/
def diagField (bit : Nat) : Option Field :=
  match bit with
  | 7 => some DIO_CH_STATUS.STUCK_HIGH
  | 8 => some DIO_CH_STATUS.CONFLICT
  | 9 => some DIO_CH_STATUS.OPEN_LOAD
  | 10 => some DIO_CH_STATUS.OVERLOAD
  | _ => none

/-- The die's channels with the flag of a bit number set. -/
def DioSt.diag (x : DioSt) (bit : Nat) : Nat :=
  match bit with
  | 7 => x.stuck
  | 8 => x.confl
  | 9 => x.openL
  | 10 => x.ovl
  | _ => 0

/-- The die's flag of a bit number at channel `d` set or cleared. -/
def DioSt.setDiag (x : DioSt) (d bit : Nat) (v : Bool) : DioSt :=
  match bit with
  | 7 => { x with stuck := setBit x.stuck d v }
  | 8 => { x with confl := setBit x.confl d v }
  | 9 => { x with openL := setBit x.openL d v }
  | 10 => { x with ovl := setBit x.ovl d v }
  | _ => x

/-- A diagnostic flag of the die, with its register (R401 to R403). -/
def State.diagSet (s : State) (d bit : Nat) (v : Bool) : State :=
  match diagField bit with
  | some f => (s.modDio fun x => x.setDiag d bit v).wr f (b2n v) d
  | none => s

/-- A diagnostic flag that is set clears, and OUT_DIAG_CLEAR is logged (R401, R402). -/
def State.diagClear (s : State) (d bit : Nat) : State :=
  if (s.dio.diag bit).testBit d then (s.diagSet d bit false).logEv 0x6015 d bit else s

/-- The die takes a command and a class for every channel (R386, R400, R401): a class applies from the next rise, a fall ends
an overload episode, of both halves of a parallel pair (R401, R404). -/
def State.takeCommands (s : State) (cmd : Nat) (cls : Nat → Nat) : State :=
  let old := s.dio.cmd
  let s := forN 32 (fun d s =>
    let now := cmd.testBit d
    if now && !old.testBit d then s.modDio fun x => { x with cls := tset x.cls d (cls d) }
    else if !now && old.testBit d then
      let s := (s.modDio fun x => { x with shut := terase x.shut d }).diagClear d 10
      if s.par d then s.diagClear (d + 1) 10 else s
    else if !now then s.modDio fun x => { x with cls := tset x.cls d (cls d) }
    else s) s
  (s.modDio fun x => { x with cmd := cmd, test := maskIdx 32 x.test |>.filter (fun d => !(cmd.testBit d && tget 2 x.cls d == 0)) |> idxMask }).settle

/-! ### The claim gate (R419, R420) -/

/-- Claim word `x` is higher than `y` (R501). -/
def claimHigher (x y : Nat) : Bool :=
  let d := (x / 2 + 128 - y / 2 % 128) % 128
  (decide (1 ≤ d) && decide (d ≤ 63)) || ((d == 0 || d == 64) && x % 2 == 1)

/-- Show the claim line in its registers. -/
def State.claimRegs (s : State) : State :=
  let c := s.dio.claim
  let s := (s.wr DIO_CLAIM_STATUS.OWN c.own).wr DIO_CLAIM_STATUS.OWN_ASSERT (b2n c.assert_)
  let s := (s.wr DIO_CLAIM_STATUS.PARTNER c.pWord).wr DIO_CLAIM_STATUS.PARTNER_ASSERT (b2n c.pAssert)
  (s.wr DIO_CLAIM_STATUS.PARTNER_SEEN (b2n c.seen)).wr DIO_CLAIM_STATUS.GATE (b2n c.gate)

/-- The unit uses the claim line and the towpath: PAIR_CFG.EN as it stood at start-up, from which the unit has its role (R490). -/
def State.pairOn (s : State) : Bool := if s.pwr.phase = .running then s.role != 0 else s.rd PAIR_CFG.EN == 1

/-- Re-evaluate the gate (R419): on closing every output is off; a closing by a higher partner claim is counted and reported;
on opening the commands apply. -/
def State.gateEval (s : State) : State :=
  let c := s.dio.claim
  let beaten := s.pairOn && c.seen && c.pAssert && claimHigher c.pWord c.own
  let open_ := c.assert_ && !beaten
  let lost := c.gate && !open_ && c.assert_
  let s := s.modClaim fun c => { c with gate := open_, lost := c.lost || lost }
  let s := if lost then s.bump DIO_CLAIM_LOST_CNT.VALUE else s
  let s := if c.gate && !open_ then s.modDio fun x => { x with queue := [] } else s
  s.settle.claimRegs

/-! ### Inputs (R394 to R398) -/

/-- An input's valid flag (R395, R396). -/
def State.inputOk (s : State) (d : Nat) : Bool :=
  let x := s.dio
  s.dir d == 1 && decide (x.uv < 2) && !x.wb.testBit d && !x.test.testBit d && s.rd DIO_STATUS.LINK == 1 && x.link && x.cfg
    && !x.reset

/-- Recompute the valid flags; a flag that returns is noted with its instant (R395). -/
def State.inputFlags (s : State) : State :=
  forN 32 (fun d s =>
    let ok := s.inputOk d
    let m := s.rd DIO_IN_OK.MASK
    let s := if ok && !m.testBit d then s.modDio fun x => { x with ret := tset x.ret d s.grid.now } else s
    (s.wr DIO_IN_OK.MASK (setBit m d ok)).wr DIO_CH_STATUS.IN_OK (b2n ok) d) s

/-- The debounced inputs as the die holds them, in their registers. -/
def State.inputShow (s : State) (m : Nat) : State :=
  let s := s.wr DIO_IN_VAL.MASK m
  forN 32 (fun d s => s.wr DIO_CH_STATUS.IN_VAL (b2n (m.testBit d)) d) s

/-- An input pad stands at `mv` since `t`, which makes it a new state of the pad (R393), for the debounce time (R394, R395), counted from a
swap tick that restarts it (R423). -/
def State.dinChange (s : State) (d t mv : Nat) : State :=
  let was := s.dio.ival.testBit d
  let lvl := padHigh d (s.rd DIO_CH_CFG.ITYPE d) was mv
  if !(s.rd DIO_IN_OK.MASK).testBit d || was == lvl then s else
  let t := max t (tget 0 s.dio.deb d)
  let back := tfind s.dio.ret d
  let late := match back with | some r => decide (t ≤ r) | none => false
  let t0 := match back with | some r => max t r | none => t
  let s := s.atTime (t0 + s.rd DIO_CH_CFG.DEB d * 25000)
  let s := s.modDio fun x => { x with ret := terase x.ret d, ival := setBit x.ival d lvl }
  let s := (s.wr DIO_IN_VAL.MASK s.dio.ival).wr DIO_CH_STATUS.IN_VAL (b2n lvl) d
  let s := s.wr DIO_CH_EDGE_CNT.VALUE (s.rd DIO_CH_EDGE_CNT.VALUE d + 1) d
  if s.rd DIO_CH_CFG.EVT d = 1 then s.logAt t0 0x6001 d (b2n lvl + 2 * b2n late) else s

/-- The pad of an input lies below 0.45 V since `t` for WBT (R398). -/
def State.wireBreak (s : State) (d t : Nat) : State :=
  if s.dir d ≠ 1 ∨ s.rd DIO_CH_CFG.WB d = 0 ∨ s.dio.wb.testBit d then s else
  let s := s.atTime (max t (tget 0 s.dio.deb d) + s.rd DIO_CH_CFG.WBT d * 2500000)
  let s := s.modDio fun x => { x with wb := setBit x.wb d true }
  (((s.wr DIO_CH_STATUS.WIREBRK 1 d).bump DIO_CH_FAULT_CNT.VALUE d).inputFlags).logEv 0x6002

/-- The pad of an input lies at or above 0.60 V since `t` for WBT (R398). -/
def State.wireOk (s : State) (d t : Nat) : State :=
  if !s.dio.wb.testBit d then s else
  let s := s.atTime (max t (tget 0 s.dio.deb d) + s.rd DIO_CH_CFG.WBT d * 2500000)
  let s := s.modDio fun x => { x with wb := setBit x.wb d false }
  ((s.wr DIO_CH_STATUS.WIREBRK 0 d).inputFlags).logEv 0x6003

/-! ### Life contact (R412) -/

/-- DIO_ALIVE.CAUSE: the first condition of R412 that fails; 0 when all hold. -/
def State.aliveCause (s : State) : Nat :=
  if s.rd DIO_ALIVE.EN = 0 then 1
  else if s.rd DIO_ALIVE.HOSTOFF = 1 then 2
  else if s.rd PWR_START.STEP < 9 ∨ !(s.pwr.prot || s.role ≠ 0) then 6
  else if !s.dio.health then 4
  else if s.rd DIO_STATUS.LINK = 0 then 5
  else if s.dio.uv = 3 ∨ !s.dio.cfg ∨ s.dio.reset then 9
  else if s.pwr.fault then 7
  else if s.maint ∧ s.rd DIO_ALIVE.MAINT_OFF = 1 then 3
  else if s.dio.alOvl.isSome then 8
  else 0

/-- The life contact follows its conditions. -/
def State.alive (s : State) : State :=
  let c := s.aliveCause
  (s.wr DIO_ALIVE.STATE (b2n (c == 0))).wr DIO_ALIVE.CAUSE c

/-! ### Configuration of the die (R386, R389, R391) -/

/-- The fields of which the die's configuration consists. -/
def dieFields : List Field := [DIO_SS_CFG.BUDGET, DIO_LINK_CFG.LINKHOLD, DIO_ALIVE.EN, DIO_ALIVE.MAINT_OFF, DIO_PAIR_CFG.CLAIM_EN,
  DIO_PAIR_CFG.TERM, DIO_PAIR_CFG.TOW_EN, DIO_CH_CFG.DIR, DIO_CH_CFG.ITYPE, DIO_CH_CFG.WB, DIO_CH_CFG.DEB, DIO_CH_CFG.EVT, DIO_CH_CFG.PAR,
  DIO_CH_CFG.PARTNER, DIO_CH_CFG.ONOL, DIO_CH_CFG.OFFOL, DIO_CH_CFG.WBT, DIO_CH_INRUSH.I, DIO_CH_INRUSH.T]

/-- The word offsets in the DIO_ block of the registers that hold them: they serve as the configuration addresses of R386, which names
none (DESIGN CHOICE, log entry 114). -/
def dieAddrs : List Nat := [2, 3, 4, 16] ++ (List.range 32).flatMap fun d => [0x400 + 8 * d, 0x401 + 8 * d]

/-- The word of a bank at a configuration address; DIR, PAR and PARTNER are those of `dir` (R391). -/
def Bank.dieWord (k dir : Bank) (a : Nat) : Nat :=
  dieFields.foldl (fun w f => match f.indexAt (0xD0000 + 4 * a) with
    | some x => w + (if [DIO_CH_CFG.DIR, DIO_CH_CFG.PAR, DIO_CH_CFG.PARTNER].contains f then dir else k).fld f x.1 * 2 ^ f.lsb
    | none => w) 0

/-- The configuration word at an address as the settings in force have it. -/
def State.dieWord (s : State) (a : Nat) : Nat := s.bank.dieWord s.dirBank a

/-- The die has its configuration (R389). -/
def State.dieReady (s : State) : State :=
  ((((s.modDio fun x => { x with cfg := true }).wr DIO_STATUS.DIE_OK 1).inputFlags).settle).alive

/-- The die is given its whole configuration at start-up (R658); one that has reset since it was last configured logs FIELD_DIE_RESET
(R389). -/
def State.dieConfigure (s : State) : State :=
  let s := if s.dio.cfg then s else s.logEv 0x6032
  (s.modDio fun x => { x with conf := [], whole := false, words := dieAddrs.map fun a => (a, s.dieWord a) }).dieReady

/-- The configuration words that a swap changes are sent (R391). -/
def State.dieSend (s : State) (old : Bank) : State :=
  let l := dieAddrs.filter fun a => old.dieWord s.dirBank a != s.dieWord a
  if l.isEmpty ∨ !s.dio.cfg then s else s.modDio fun x => { x with conf := (x.conf.filter fun a => !l.contains a) ++ l }

/-- Debounce and wire-break timing of an input whose DEB, ITYPE, WB or WBT changes restart at the swap tick, at device time `t` (R423). -/
def State.swapInputs (s : State) (old : Bank) (t : Nat) : State :=
  forN 32 (fun d s =>
    if s.dir d = 1 ∧ [DIO_CH_CFG.DEB, DIO_CH_CFG.ITYPE, DIO_CH_CFG.WB, DIO_CH_CFG.WBT].any (fun f => old.fld f d != s.bank.fld f d) then
      s.modDio fun x => { x with deb := tset x.deb d t }
    else s) s

/-! ### Frames (R384 to R388) -/

/-- The low bits of a number, least significant first. -/
def bitsLsb (w v : Nat) : List Bool := (List.range w).map fun i => v.testBit i
/-- The number that bits spell, least significant first. -/
def ofBits (l : List Bool) : Nat := l.foldr (fun b a => 2 * a + b2n b) 0
/-- Field `n` bits wide at bit `i` of a frame. -/
def frameField (l : List Bool) (i n : Nat) : Nat := ofBits ((l.drop i).take n)
/-- A frame with the bits at the listed places inverted. -/
def flipBits (l : List Bool) (err : List Nat) : List Bool := l.zipIdx.map fun x => x.1 != err.contains x.2

/-- The configuration part of a command frame (R386): address, data and write strobe of the word next to be sent, 0 when there is
none. -/
def State.confBits (s : State) : List Bool :=
  match s.dio.conf with
  | a :: _ => bitsLsb 12 a ++ bitsLsb 32 (s.dieWord a) ++ [true]
  | [] => List.replicate 45 false

/-- The command frame of 320 bits that the logic side sends next (R386). -/
def State.commandFrame (s : State) : List Bool :=
  let sec := (List.range 32).flatMap fun d => s.outCmd d :: bitsLsb 2 (s.rowClass d)
  let body := sec ++ bitsLsb 8 (crcBits 8 0x07 0 sec) ++ bitsLsb 8 (s.rd PAIR_CLAIM.OWN) ++ [s.rd PAIR_CLAIM.ASSERT == 1]
    ++ [s.dio.tow, s.aliveCause == 0] ++ bitsLsb 4 s.dio.seq ++ s.confBits ++ List.replicate 140 false
  body ++ bitsLsb 16 (crcBits 16 0x1021 0xFFFF body)

/-- The die takes the configuration part of a frame (R386); once it holds every word it is configured (R389).
The logic side repeats a word until the die has taken it (DEDUCED, log entry 114). -/
def State.takeConf (s : State) (a w : Nat) (strobe : Bool) : State :=
  let s := s.modDio fun x => { x with cfgAt := a }
  if !strobe then s else
  let s := s.modDio fun x => { x with words := tset x.words a w, conf := x.conf.drop 1 }
  if !s.dio.cfg && dieAddrs.all (fun a => (tfind s.dio.words a).isSome) then s.dieReady else s

/-- The die receives a command frame whose bits at the places `err` were corrupted (R386 to R389, R418). -/
def State.commandRx (s : State) (t : Nat) (err : List Nat) : State :=
  let s := s.atTime t
  let f := flipBits s.commandFrame err
  let s := s.modDio fun x => { x with seq := (x.seq + 1) % 16 }
  if s.dio.reset ∨ s.pwr.phase ≠ .running ∧ s.pwr.phase ≠ .settings ∧ s.pwr.phase ≠ .calibrating then s else
  let sec := f.take 96
  let ok8 := crcBits 8 0x07 0 sec == frameField f 96 8
  let ok16 := crcBits 16 0x1021 0xFFFF (f.take 304) == frameField f 304 16
  let s := if ok16 then
      let u := s.modDio fun x => { x with frameAt := s.grid.now, applied := frameField f 115 4, aliveReq := frameField f 114 1 == 1,
                                          lostAt := none, link := true, holdOff := false }
      if s.dio.link then u else u.inputFlags
    else s
  if !s.dio.cfg then (if ok16 then s.takeConf (frameField f 119 12) (frameField f 131 32) (frameField f 163 1 == 1) else s) else
  let s := if ok8 then s.takeCommands (idxMask ((List.range 32).filter fun d => frameField f (3 * d) 1 == 1))
      (fun d => frameField f (3 * d + 1) 2) else s
  if !ok16 then s else
  let s := s.takeConf (frameField f 119 12) (frameField f 131 32) (frameField f 163 1 == 1)
  let tow := frameField f 113 1 == 1
  let s := if s.rd DIO_PAIR_CFG.TOW_EN = 1 ∧ s.pairOn then (s.modDio fun x => { x with towOut := tow }).wr DIO_TOW_STATUS.OUT (b2n tow) else s
  (s.modClaim fun c => { c with own := frameField f 104 8, assert_ := frameField f 112 1 == 1 }).gateEval

/-- The readback frame of 480 bits that the die sends next (R386). -/
def State.readbackFrame (s : State) (p : PadView) : List Bool :=
  let x := s.dio
  let c := x.claim
  let ch := fun d => [p.pads.toNat.testBit d, x.drv.testBit d, x.ival.testBit d, (s.rd DIO_IN_OK.MASK).testBit d,
    x.wb.testBit d, x.stuck.testBit d, x.confl.testBit d, x.openL.testBit d, x.ovl.testBit d, p.lim.toNat.testBit d]
  let body := (List.range 32).flatMap ch ++ bitsLsb 3 x.uv ++ bitsLsb 16 p.vf.toNat ++ bitsLsb 8 c.pWord ++ [c.pAssert, c.seen, c.gate]
    ++ [s.rd DIO_CLAIM_STATUS.LINE_OK == 1, s.rd DIO_CLAIM_STATUS.TX_FAULT == 1, c.lost, x.towIn, x.towNew]
    ++ bitsLsb 5 x.meas ++ bitsLsb 16 p.mv.toNat ++ bitsLsb 16 p.ma.toNat ++ bitsLsb 32 (tget 0 x.words x.cfgAt)
    ++ bitsLsb 4 x.applied
    ++ [x.cfg] ++ List.replicate 35 false
  body ++ bitsLsb 16 (crcBits 16 0x1021 0xFFFF body)

/-- Whether a frame's bit says that the pad of channel `d` reads high (R386). -/
def padBit (frame d : Nat) : Bool := frame.testBit (10 * d)

/-- What a readback frame says of each channel, in the registers: pad, debounced input, wire break, diagnostic flags (R385). -/
def State.frameShow (s : State) (f : List Bool) : State :=
  let mask := fun (i : Nat) => idxMask ((List.range 32).filter fun d => frameField f (10 * d + i) 1 == 1)
  let s := (s.wr DIO_RB.MASK (mask 0)).inputShow (mask 2)
  forL [(0, DIO_CH_STATUS.PAD), (4, DIO_CH_STATUS.WIREBRK), (5, DIO_CH_STATUS.STUCK_HIGH), (6, DIO_CH_STATUS.CONFLICT),
    (7, DIO_CH_STATUS.OPEN_LOAD), (8, DIO_CH_STATUS.OVERLOAD)]
    (fun x s => forN 32 (fun d s => s.wr x.2 (frameField f (10 * d + x.1) 1) d) s) s

/-- DIO_VFIELD follows the readback frames, once in every millisecond of device time (R406). -/
def State.vfieldShow (s : State) (mv : Nat) : State :=
  let k := s.grid.now / 250000 + 1
  if s.dio.vfAt = k then s else (s.modDio fun x => { x with vfAt := k }).wr DIO_VFIELD.VALUE mv

/-- The logic side receives a readback frame with corrupted bits `err` (R385 to R389). The die has sent it: the measured channel moves on and
what it reports of the time since its previous frame is reported, whether or not the frame arrives whole. The second part says that the die
reports its gate closed by a higher claim. -/
def State.readbackRx (s : State) (t : Nat) (p : PadView) (err : List Nat) : State × Bool :=
  let s := s.atTime t
  if s.dio.reset then (s, false) else
  let f := flipBits (s.readbackFrame p) err
  let s := s.modDio fun x => { x with towNew := false, meas := (x.meas + 1) % 32, claim := { x.claim with lost := false } }
  if crcBits 16 0x1021 0xFFFF (f.take 464) ≠ frameField f 464 16 then (s, false) else
  let back := s.rd DIO_STATUS.LINK == 0
  let m := frameField f 355 5
  let lost := frameField f 352 1 == 1
  let s := s.modDio fun x => { x with readAt := s.grid.now, lim := p.lim.toNat, pad := p.pads.toNat, mv := p.vf.toNat, frame := ofBits f }
  let s := (s.frameShow f).vfieldShow (frameField f 323 16)
  let s := (s.wr DIO_CH_MEAS.PAD_MV (frameField f 360 16) m).wr DIO_CH_MEAS.I_MA (if s.dir m = 1 then 0 else frameField f 376 16) m
  let s := (s.wr DIO_TOW_STATUS.IN (frameField f 353 1)).wrCause DIO_STATUS.LINK 1 3
  let s := if back then
      (if s.dio.loss then (s.modDio fun x => { x with loss := false }).logEv 0x6031 else s).inputFlags
    else s
  -- a die that reports itself not configured is sent its whole configuration
  let s := if frameField f 428 1 = 1 then s.modDio fun x => { x with whole := false }
    else if s.dio.whole ∧ !s.dio.conf.isEmpty then s
    else (s.modDio fun x => { x with conf := dieAddrs, whole := true }).logEv 0x6032
  (s.dioRegs.alive, lost)

/-- The device times at which the die and the logic side will have missed frames for 100 us (R388): `none` for a side that has lost the link
already. -/
def State.lossTimes (s : State) : Option Nat × Option Nat :=
  (if s.dio.link then some (s.dio.frameAt + 25000) else none, if s.rd DIO_STATUS.LINK = 1 then some (s.dio.readAt + 25000) else none)

/-- The die declares the link lost at device time `t` (R388). -/
def State.dieLost (s : State) (t : Nat) : State := (s.modDio fun x => { x with link := false, lostAt := some t }).inputFlags

/-- The logic side declares the link lost (R388). -/
def State.logicLost (s : State) : State :=
  let s := s.modDio fun x => { x with loss := true }
  ((((s.wrCause DIO_STATUS.LINK 0 3).bump DIO_LINK_LOST_CNT.VALUE).inputFlags).alive).logEv 0x6030

/-- 100 us pass without a valid frame (R388), at the side that has had none for longest; the other side follows in the same happening when
its frames stopped within one frame period of that. -/
def State.linkLost (s : State) : State :=
  let d := s.lossTimes.1
  let l := s.lossTimes.2
  match d.toList ++ l.toList with
  | [] => s
  | t :: r =>
    let lim := r.foldl min t + 2000
    let s := match d with | some t => if t ≤ lim then (s.atTime t).dieLost t else s | none => s
    match l with | some t => if t ≤ lim then (s.atTime t).logicLost else s | none => s

/-- LINKHOLD runs out (R388): CLOSE and SIGNAL outputs switch off. -/
def State.linkHold (s : State) : State :=
  let h := s.rd DIO_LINK_CFG.LINKHOLD
  match s.dio.lostAt with
  | some t => if h = 0 ∨ s.dio.holdOff then s else
    ((s.atTime (t + h * 250000)).modDio fun x => { x with holdOff := true }).settle
  | none => s

/-! ### Field supply (R389, R406 to R408) -/

/-- A new state of VFIELD. -/
def State.setUv (s : State) (t u mv : Nat) : State :=
  let s := (s.atTime t).modDio fun x => { x with uv := u, mv := mv }
  (((s.wrCause DIO_STATUS.UV u 3).inputFlags).settle).alive

/-- VFIELD falls below 7.5 V: the die resets; or it rises above 8.5 V again: the die has its supply, not its configuration
(R389). -/
def State.dieReset (s : State) (t mv : Nat) : State :=
  if mv < 7500 ∧ !s.dio.reset then
    let s := (s.atTime t).modDio fun x =>
      { x with reset := true, cfg := false, words := [], cmd := 0, drv := 0, queue := [], inrush := [], shut := [], cls := [], test := 0,
               mv := mv, stuck := 0, confl := 0, openL := 0, ovl := 0, ovlAt := [], link := false,
               claim := { x.claim with assert_ := false, gate := false, seen := false, sent := [] } }
    (((s.wr DIO_STATUS.DIE_OK 0).inputFlags).dioRegs).claimRegs.alive
  else if 8500 < mv ∧ s.dio.reset then ((s.atTime t).modDio fun x => { x with reset := false, uv := 3, mv := mv }).wrCause DIO_STATUS.UV 3 3
  else s

/-- FIELD_UV_WARN (R406). -/
def State.uvWarn (s : State) (t mv : Nat) : State :=
  if s.dio.reset ∨ s.dio.uv ≠ 0 ∨ 16000 ≤ mv then s else (s.setUv t 1 mv).logEv 0x6020 0 mv
/-- FIELD_UV_INVAL (R406). -/
def State.uvInval (s : State) (t mv : Nat) : State :=
  if s.dio.reset ∨ s.dio.uv ≠ 1 ∨ 12000 ≤ mv then s else (s.setUv t 2 mv).logEv 0x6022 0 mv
/-- FIELD_UV_DROP (R406, R407). -/
def State.uvDrop (s : State) (t mv : Nat) : State :=
  if s.dio.reset ∨ s.dio.uv ≠ 2 ∨ 9000 ≤ mv then s else
  let on := s.dio.drv
  ((((s.setUv t 3 mv).wr DIO_UV_DROP_MASK.MASK on).bump DIO_UV_DROP_CNT.VALUE).logEv 0x6023 0 on)
/-- FIELD_UV_RECOVER (R406, R408): VFIELD rises above 10.5 V. -/
def State.uvRecover (s : State) (t mv : Nat) : State :=
  if s.dio.reset ∨ s.dio.uv ≠ 3 ∨ mv ≤ 10500 then s else
  let s := s.modDio fun x => { x with queue := [] }
  (s.setUv t 2 mv).logEv 0x6024 0 s.dio.cmd
/-- VFIELD rises above 12.5 V (R406). -/
def State.uvInvalExit (s : State) (t mv : Nat) : State := if s.dio.reset ∨ s.dio.uv ≠ 2 ∨ mv ≤ 12500 then s else s.setUv t 1 mv
/-- FIELD_UV_CLEAR (R406). -/
def State.uvClear (s : State) (t mv : Nat) : State :=
  if s.dio.reset ∨ s.dio.uv ≠ 1 ∨ mv ≤ 16500 then s else (s.setUv t 0 mv).logEv 0x6021 0 mv

/-! ### Output diagnostics (R401 to R405) -/

/-- An output limits for 5 ms, or (`thermal`) reaches its shutdown temperature (R401); either switches both halves of a parallel pair off
until a common retry (R404). -/
def State.outOverload (s : State) (d t : Nat) (thermal : Bool) : State :=
  if s.dir d ≠ 2 ∨ !s.dio.drv.testBit d then s else
  let l := s.lead d
  let s := s.atTime t
  let new := !s.dio.ovl.testBit d
  let s := s.modDio fun x => { x with ovlAt := tset x.ovlAt d s.grid.now }
  let s := if thermal || s.par l then (s.modDio fun x => { x with shut := tset x.shut l { at' := s.grid.now + 25000000 } }).settle else
    (s.modDio fun x => { x with lim := setBit x.lim d true }).dioRegs
  if new then (((s.diagSet d 10 true).bump DIO_CH_OVL_CNT.VALUE d).logEv 0x6010) else s

/-- A thermally shut-down output retries after 100 ms (R401). -/
def State.overloadRetry (s : State) (d : Nat) : State :=
  match tfind s.dio.shut d with
  | some x => if !s.dio.cmd.testBit d then s else ((s.atTime x.at').modDio fun y => { y with shut := terase y.shut d }).settle
  | none => s

/-- An off channel may be tested for an unexpected high pad (R402). -/
def State.offTest (s : State) (d : Nat) : Bool :=
  s.dir d == 2 && !s.dio.cmd.testBit (s.lead d) && (s.dirBank.fld DIO_CH_CFG.PARTNER d == 0 || s.dio.claim.gate)

/-- An off output reads high for 1 ms without another output's cause (R402). -/
def State.stuckHigh (s : State) (d t : Nat) : State :=
  if !s.offTest d ∨ s.dio.stuck.testBit d then s else
  (((s.atTime t).diagSet d 7 true).bump DIO_CH_FAULT_CNT.VALUE d).logEv 0x6011

/-- An off output follows the switching of output `w` (R402). -/
def State.conflict (s : State) (d w t : Nat) : State :=
  if !s.offTest d ∨ s.dio.confl.testBit d ∨ w = d then s else
  ((((s.atTime t).diagSet d 8 true).wr DIO_CH_CONFLICT.WITH w d).bump DIO_CH_FAULT_CNT.VALUE d).logEv 0x6012

/-- An open-load test finds the load open for 20 ms (R403). The off-state test pauses while the pad reads high; an on channel's pad reads high
as it should, and its test goes on (DEDUCED, log entry 120). -/
def State.openLoad (s : State) (d t : Nat) : State :=
  let on := s.dio.drv.testBit d
  let tested := if on then s.rd DIO_CH_CFG.ONOL d == 1 else s.rd DIO_CH_CFG.OFFOL d == 1
  if s.dir d ≠ 2 ∨ !tested ∨ s.dio.openL.testBit d ∨ (!on ∧ s.dio.pad.testBit d) then s else
  (((s.atTime t).diagSet d 9 true).bump DIO_CH_FAULT_CNT.VALUE d).logEv 0x6013

/-- One half of a parallel pair carries too little for 20 ms (R404). -/
def State.parImbalance (s : State) (d t : Nat) : State :=
  if s.par d && s.dio.drv.testBit d then (s.atTime t).logEv 0x6014 else s

/-- A diagnostic condition has been absent long enough at device time `t` (R401, R402). An overload episode ends so only while the channel
carries its load, 1 s after it last limited or switched on. -/
def State.outDiagClear (s : State) (d bit t : Nat) : State :=
  if !(s.dio.diag bit).testBit d then s
  else if bit ≠ 10 then (s.atTime t).diagClear d bit
  else if !s.dio.drv.testBit d ∨ (tfind s.dio.shut (s.lead d)).isSome then s
  else
    let s := s.atTime (max t (tget 0 s.dio.ovlAt d + second))
    (s.modDio fun x => { x with lim := setBit x.lim d false }).diagClear d bit

/-! ### Soft start (R409 to R411) -/

/-- The next slot boundary to serve. -/
def State.nextSlot (s : State) : Nat :=
  let t := (s.grid.now + 24999) / 25000 * 25000
  if t ≤ s.dio.slot then s.dio.slot + 25000 else t

/-- Switch queued channels at a slot (R410): the queue in order, how many were switched, whether any inrush is in use. -/
def State.slotGo (s : State) (t : Nat) : List (Nat × Nat) → Nat → State
  | [], _ => s
  | (d, since) :: r, k =>
    if 8 ≤ k then s else
    let use := s.dio.inrush.foldl (fun a x => if t < x.2 then a + s.rd DIO_CH_INRUSH.I x.1 else a) 0
    let none_ := s.dio.inrush.all fun x => decide (x.2 ≤ t)
    if use + s.rd DIO_CH_INRUSH.I d ≤ s.rd DIO_SS_CFG.BUDGET ∨ (none_ ∧ k = 0) then
      let s := s.drvOn d
      (s.raiseTo DIO_SS_WAIT_MAX.VALUE ((t - since) / 250)).slotGo t r (k + 1)
    else s

/-- A slot of the scheduler (R409 to R411). -/
def State.softSlot (s : State) : State :=
  let t := s.nextSlot
  let s := (s.atTime t).modDio fun x => { x with slot := t }
  if s.dio.uv = 3 ∨ !s.dio.claim.gate then s else
  let byClass := fun c => (List.range 32).filterMap fun d => if s.cls d == c then s.dio.queue.find? (·.1 == d) else none
  (s.slotGo t (byClass 1 ++ byClass 2) 0).dioRegs

/-! ### Life contact, towpath (R412 to R414) -/

/-- The supervisor's refresh is missing for 50 ms. -/
def State.aliveTimeout (s : State) : State := (s.modDio fun x => { x with health := false }).alive

/-- ALIVE_OUT overloads (R412). -/
def State.aliveOverload (s : State) (t : Nat) : State :=
  if s.rd DIO_ALIVE.STATE = 0 then s else
  let s := s.atTime t
  (s.modDio fun x => { x with alOvl := some (s.grid.now + 25000000) }).alive

/-- ALIVE_OUT retries 100 ms after an overload (R412). -/
def State.aliveRetry (s : State) : State :=
  match s.dio.alOvl with
  | some t => ((s.atTime t).modDio fun x => { x with alOvl := none }).alive
  | none => s

/-- An edge on TOW_IN passes the 16 us glitch filter (R413): the line keeps its new level for so long. -/
def State.towPasses (s : State) (e : LineEdge) : Bool := s.rd DIO_PAIR_CFG.TOW_EN == 1 && s.pairOn && e.lvl != s.dio.towIn && decide (4000 ≤ e.held)

/-- An edge on TOW_IN is stamped with the device time of its first sample (R413, R414). -/
def State.towEdge (s : State) (t : Nat) : State :=
  let s := (s.atTime (t + 4000)).modDio fun x => { x with towIn := !x.towIn, towAt := some t, towNew := true }
  let s := (s.wr64 DIO_TOW_EDGE_LO.VALUE DIO_TOW_EDGE_HI.VALUE t).wr DIO_TOW_EDGE_CNT.VALUE (s.rd DIO_TOW_EDGE_CNT.VALUE + 1)
  (s.wr DIO_TOW_STATUS.IN (b2n s.dio.towIn)).wr DIO_TOW_STATUS.IN_ACTIVE 1

/-! ### The claim line (R415 to R422) -/

/-- The 16 bits of a claim frame in order of transmission (R416). -/
def claimFrame (word : Nat) (a : Bool) : List Bool :=
  let body := (bitsLsb 8 word).reverse ++ [a]
  [false] ++ body ++ (bitsLsb 4 (crcBits 4 0x3 0xF body)).reverse ++ [true, true]

/-- A rank-0 die is in step with the partner (R417): a valid rank-1 frame came within the last 48 us. -/
def State.inStep (s : State) : Bool := s.dio.claim.stepAt.any fun a => decide (s.grid.now < a + 12000)

/-- The die uses its claim line (R415, R490). -/
def State.claimUsed (s : State) : Bool := s.rd DIO_PAIR_CFG.CLAIM_EN == 1 && s.pairOn && !s.dio.reset

/-- The start of the die's next claim frame (R417): a rank-0 die in step with the partner starts it after the partner's frame, any other by
its own timer; a rank-0 die then waits for an idle line, which `t` is the earliest instant to show. -/
def State.claimStart (s : State) (t : Nat) : Nat :=
  let c := s.dio.claim
  if c.own % 2 = 1 ∨ s.inStep then max s.grid.now c.next else max (max s.grid.now t) c.next

/-- The die transmits its claim frame (R416 to R418); `bad`: it reads back with an error, and the timer of a rank-0 die then moves by 8 us. A
rank-0 die in step sends one frame after each frame of the partner. A cycle runs from an own frame to the next: both ways were valid in
it if that own frame read back well and a valid partner frame came since (R421). -/
def State.claimTx (s : State) (t : Nat) (bad : Bool) : State :=
  let c := s.dio.claim
  let low := c.own % 2 == 0
  if !s.claimUsed ∨ (low ∧ s.inStep ∧ c.answered) then s else
  let t := s.claimStart t
  let s := s.atTime t
  let s := s.modClaim fun c =>
    { c with sent := claimFrame c.own c.assert_, bad := if bad then c.bad + 1 else 0,
             run := if c.got && c.bad == 0 && !c.sent.isEmpty then c.run + 1 else 0, got := false,
             next := t + 4000 + (if bad && low then 2000 else 0), answered := true }
  if 3 ≤ s.dio.claim.bad then s.wr DIO_CLAIM_STATUS.TX_FAULT 1 else s

/-- The bits of a partner frame in order of transmission: bit 15 of the operand is the first on the line. -/
def claimBits (bits : BitVec 16) : List Bool := (bitsLsb 16 bits.toNat).reverse
/-- The claim word of a frame. -/
def claimWordOf (f : List Bool) : Nat := ofBits ((f.drop 1).take 8).reverse

/-- The die takes the frame: the line is in use, and start, stop and CRC are good (R416, R417). -/
def State.claimTakes (s : State) (bits : BitVec 16) : Bool :=
  let f := claimBits bits
  s.claimUsed && f == claimFrame (claimWordOf f) (f.getD 9 false)

/-- A partner frame arrives (R416, R417, R419). After a frame of the rank-1 die a rank-0 die starts its own 1.6 us after its last stop bit. -/
def State.claimRx (s : State) (t : Nat) (bits : BitVec 16) : State :=
  if !s.claimUsed then s else
  let s := s.atTime t
  if !s.claimTakes bits then s.bump DIO_CLAIM_CRC_CNT.VALUE else
  let f := claimBits bits
  let word := claimWordOf f
  let now := s.grid.now
  let s := s.modClaim fun c =>
    let c := { c with pWord := word, pAssert := f.getD 9 false, pAt := some now, seen := true, got := true }
    if word % 2 = 0 then c
    else { c with stepAt := some now, answered := false, next := if c.own % 2 = 0 then now + 400 else c.next }
  s.gateEval

/-- 48 us pass without a valid partner frame (R419). -/
def State.claimTimeout (s : State) : State :=
  match s.dio.claim.pAt with
  | some t => if !s.dio.claim.seen then s else ((s.atTime (t + 12000)).modClaim fun c => { c with seen := false }).gateEval
  | none => s

/-- The claim line is declared failed (R421): three own frames in a row in error, or 128 us without a valid partner frame while
TOW_IN shows edges. -/
def State.claimLineFail (s : State) : State :=
  let c := s.dio.claim
  if s.rd DIO_CLAIM_STATUS.LINE_OK = 0 then s
  else if 3 ≤ c.bad then ((s.wr DIO_CLAIM_STATUS.LINE_OK 0).wr DIO_CLAIM_STATUS.TX_FAULT 1).logEv 0x6033
  else if c.seen then s
  else
    let t := max s.grid.now (c.pAt.getD 0 + 32000)
    let live := match s.dio.towAt with | some e => decide (t ≤ e + 375000) | none => false
    if live then ((s.atTime t).wr DIO_CLAIM_STATUS.LINE_OK 0).logEv 0x6033 else s

/-- Eight cycles in a row with valid frames both ways (R421). -/
def State.claimLineOk (s : State) : State :=
  if s.rd DIO_CLAIM_STATUS.LINE_OK = 1 ∨ s.dio.claim.run < 8 then s else
  ((s.wr DIO_CLAIM_STATUS.LINE_OK 1).wr DIO_CLAIM_STATUS.TX_FAULT 0).logEv 0x6034

/-- DIR, PAR or PARTNER of a channel differ from those in force (R391). -/
def State.cfgPend (s : State) : State :=
  let k := s.dirBank
  s.wr DIO_STATUS.CFG_PEND (b2n ((List.range 32).any fun d =>
    k.fld DIO_CH_CFG.DIR d != s.bank.fld DIO_CH_CFG.DIR d || k.fld DIO_CH_CFG.PAR d != s.bank.fld DIO_CH_CFG.PAR d
      || k.fld DIO_CH_CFG.PARTNER d != s.bank.fld DIO_CH_CFG.PARTNER d))

end Sys2Proof.Machine
end

