-- ==== Sys2Proof/Machine/RegRec.lean ====
section
/-! DEFINITION. The register fields of spec file 11_disturbance_recorder.md: address, array shape, bit place, access code, reset value
and (for a settings field) the range R697 binds. -/
namespace Sys2Proof.Machine.Reg
open Field

/-- Store directory mounted -/
def REC_STATUS.STORE_OK : Field := mk' 0xE0000 0 1 .RO 0
/-- No room for a new record -/
def REC_STATUS.STORE_FULL : Field := mk' 0xE0000 1 1 .RO 0
/-- R448 -/
def REC_STATUS.DRAIN_BEHIND : Field := mk' 0xE0000 2 1 .RO 0
/-- Export running -/
def REC_STATUS.EXPORT_BUSY : Field := mk' 0xE0000 3 1 .RO 0
/-- TRIG_IN edge: 0 rising, 1 falling -/
def REC_EXT_CFG.POL : Field := mk' 0xE0010 0 1 .SP 0
/-- TRIG_IN latency, ns -/
def REC_EXT_CFG.LAT : Field := mk' 0xE0010 16 16 .SP 0
/-- TRIG_BUS sensed -/
def REC_TB_CFG.IN_EN : Field := mk' 0xE0014 0 1 .SP 0
/-- TRIG_BUS driven (R443) -/
def REC_TB_CFG.OUT_EN : Field := mk' 0xE0014 1 1 .SP 0
/-- Pulse width, µs, 1 to 255; 0 is rejected at staging -/
def REC_TB_CFG.PW : Field := mk' 0xE0014 8 8 .SP 10 |>.range 1 255
/-- TRIG_BUS latency, ns. The register resets to 0x0000_0A00 -/
def REC_TB_CFG.DLY : Field := mk' 0xE0014 16 16 .SP 0
/-- 0x004. Free store, MB -/
def REC_STORE_FREE.VALUE : Field := mk' 0xE0004 0 32 .RO 0
/-- 0x008. Records stored. Bits [31:13] reserved -/
def REC_STORE_RECS.VALUE : Field := mk' 0xE0008 0 13 .RO 0
/-- 0x00C. ID of the next record (R450) (reset: from MRAM) -/
def REC_NEXT_ID.VALUE : Field := mk' 0xE000C 0 32 .RO 0
/-- 0x018. KB drained in the latest second -/
def REC_DRAIN_RATE.VALUE : Field := mk' 0xE0018 0 32 .RO 0
/-- 0x01C. TRIG_BUS edges received -/
def REC_TB_CNT.VALUE : Field := mk' 0xE001C 0 32 .RC 0
/-- Instance enabled -/
def REC_CFG.EN : Field := mkArr 0xE0100 256 4 0 1 0 1 .SP 0
/-- Armed at start-up -/
def REC_CFG.AUTOARM : Field := mkArr 0xE0100 256 4 0 1 1 1 .SP 0
/-- 0 N_P, 1 N_R (R430) -/
def REC_CFG.RATE : Field := mkArr 0xE0100 256 4 0 1 2 1 .SP 0
/-- 0 EXTEND, 1 IGNORE, 2 CHAIN; 3 is rejected at staging -/
def REC_CFG.POLICY : Field := mkArr 0xE0100 256 4 0 1 3 2 .SP 0 |>.range 0 2
/-- 0 overwrite, 1 stop (R449) -/
def REC_CFG.FULL : Field := mkArr 0xE0100 256 4 0 1 5 1 .SP 0
/-- Source 16 -/
def REC_CFG.TRIGIN : Field := mkArr 0xE0100 256 4 0 1 6 1 .SP 0
/-- Source 17 -/
def REC_CFG.TRIGBUS : Field := mkArr 0xE0100 256 4 0 1 7 1 .SP 0
/-- R443 -/
def REC_CFG.BUSOUT : Field := mkArr 0xE0100 256 4 0 1 8 1 .SP 0
/-- Analog signals, 0 to 128 -/
def REC_CFG.NA : Field := mkArr 0xE0100 256 4 0 1 9 8 .SP 0 |>.range 0 128
/-- Binary signals, 0 to 256 -/
def REC_CFG.NB : Field := mkArr 0xE0100 256 4 0 1 17 9 .SP 0 |>.range 0 256
/-- Analog entry used for the inception angle -/
def REC_MEAS_CFG.ANGREF : Field := mkArr 0xE0110 256 4 0 1 0 7 .SP 0
/-- Inception angle computed -/
def REC_MEAS_CFG.ANGEN : Field := mkArr 0xE0110 256 4 0 1 7 1 .SP 0
/-- 0 DISABLED, 1 IDLE, 2 ARMED, 3 RECORDING, 4 REARM -/
def REC_STATE.STATE : Field := mkArr 0xE0120 256 4 0 1 0 3 .RO 0
/-- A trigger is latched in REARM -/
def REC_STATE.LATCHED : Field := mkArr 0xE0120 256 4 0 1 3 1 .RO 0
/-- +0x04. ms, 0 to 4,000. Bits [31:13] reserved -/
def REC_PRE.VALUE : Field := mkArr 0xE0104 256 4 0 1 0 13 .SP 500 |>.range 0 4000
/-- +0x08. ms, 1 to 60,000. Bits [31:17] reserved -/
def REC_POST.VALUE : Field := mkArr 0xE0108 256 4 0 1 0 17 .SP 3000 |>.range 1 60000
/-- +0x0C. MB (R432). Bits [31:9] reserved -/
def REC_ALLOC.VALUE : Field := mkArr 0xE010C 256 4 0 1 0 9 .SP 127
/-- +0x14. Inception threshold, grid units -/
def REC_MEAS_DTH.VALUE : Field := mkArr 0xE0114 256 4 0 1 0 32 .SP 0x4000000
/-- +0x18. Clearance threshold, grid units -/
def REC_MEAS_CTH.VALUE : Field := mkArr 0xE0118 256 4 0 1 0 32 .SP 0x800000
/-- +0x24. ID of the running record; 0 for none -/
def REC_CUR_ID.VALUE : Field := mkArr 0xE0124 256 4 0 1 0 32 .RO 0
/-- +0x28. Free blocks. Bits [31:16] reserved -/
def REC_FREE_BLK.VALUE : Field := mkArr 0xE0128 256 4 0 1 0 16 .RO 0
/-- +0x2C. Samples in history, saturated (R438) -/
def REC_HIST.VALUE : Field := mkArr 0xE012C 256 4 0 1 0 32 .RO 0
/-- +0x30. Triggers processed -/
def REC_TRIG_CNT.VALUE : Field := mkArr 0xE0130 256 4 0 1 0 32 .RC 0
/-- +0x34. Triggers ignored (R445, R449, R464) -/
def REC_IGN_CNT.VALUE : Field := mkArr 0xE0134 256 4 0 1 0 32 .RC 0
/-- +0x38. Blocks dropped (R447) -/
def REC_GAP_CNT.VALUE : Field := mkArr 0xE0138 256 4 0 1 0 32 .RC 0
/-- +0x3C. Blocks needed at the latest REC_ARM. Bits [31:16] reserved -/
def REC_ARM_NEED.VALUE : Field := mkArr 0xE013C 256 4 0 1 0 16 .RO 0
/-- +0x000 + 8 × a, a = 0 to 127. Grid channel -/
def REC_AN_CFG.CH : Field := mkArr 0xE1000 4096 4 8 128 0 9 .SP 0
/-- Used for inception and clearance -/
def REC_AN_CFG.FD : Field := mkArr 0xE1000 4096 4 8 128 9 1 .SP 0
/-- Current signal: I²t computed. Bits [31:11] reserved -/
def REC_AN_CFG.CUR : Field := mkArr 0xE1000 4096 4 8 128 10 1 .SP 0
/-- +0x004 + 8 × a. Primary units per grid unit, binary32 -/
def REC_AN_SCALE.VALUE : Field := mkArr 0xE1004 4096 4 8 128 0 32 .SP 0x3f800000
/-- +0x400 + 4 × b, b = 0 to 255. Selector (R353) -/
def REC_BIN_SEL.VALUE : Field := mkArr 0xE1400 4096 4 4 256 0 32 .SP 0
/-- +0x800 + 8 × t, t = 0 to 15. Selector (R353) -/
def REC_TRG_SEL.VALUE : Field := mkArr 0xE1800 4096 4 8 16 0 32 .SP 0
/-- +0x804 + 8 × t. Entry enabled -/
def REC_TRG_CTL.EN : Field := mkArr 0xE1804 4096 4 8 16 0 1 .SP 0
/-- 0 rising, 1 falling, 2 both; 3 is rejected at staging. Bits [31:3] reserved -/
def REC_TRG_CTL.EDGE : Field := mkArr 0xE1804 4096 4 8 16 1 2 .SP 0 |>.range 0 2

/-- Register fields of this file, part 0. -/
def fieldsRec0 : List Field := [
  REC_STATUS.STORE_OK,
  REC_STATUS.STORE_FULL,
  REC_STATUS.DRAIN_BEHIND,
  REC_STATUS.EXPORT_BUSY,
  REC_EXT_CFG.POL,
  REC_EXT_CFG.LAT,
  REC_TB_CFG.IN_EN,
  REC_TB_CFG.OUT_EN,
  REC_TB_CFG.PW,
  REC_TB_CFG.DLY,
  REC_STORE_FREE.VALUE,
  REC_STORE_RECS.VALUE,
  REC_NEXT_ID.VALUE,
  REC_DRAIN_RATE.VALUE,
  REC_TB_CNT.VALUE,
  REC_CFG.EN,
  REC_CFG.AUTOARM,
  REC_CFG.RATE,
  REC_CFG.POLICY,
  REC_CFG.FULL,
  REC_CFG.TRIGIN,
  REC_CFG.TRIGBUS,
  REC_CFG.BUSOUT,
  REC_CFG.NA,
  REC_CFG.NB,
  REC_MEAS_CFG.ANGREF,
  REC_MEAS_CFG.ANGEN,
  REC_STATE.STATE,
  REC_STATE.LATCHED,
  REC_PRE.VALUE,
  REC_POST.VALUE,
  REC_ALLOC.VALUE,
  REC_MEAS_DTH.VALUE,
  REC_MEAS_CTH.VALUE,
  REC_CUR_ID.VALUE,
  REC_FREE_BLK.VALUE,
  REC_HIST.VALUE,
  REC_TRIG_CNT.VALUE,
  REC_IGN_CNT.VALUE,
  REC_GAP_CNT.VALUE,
  REC_ARM_NEED.VALUE,
  REC_AN_CFG.CH,
  REC_AN_CFG.FD,
  REC_AN_CFG.CUR,
  REC_AN_SCALE.VALUE,
  REC_BIN_SEL.VALUE,
  REC_TRG_SEL.VALUE,
  REC_TRG_CTL.EN,
  REC_TRG_CTL.EDGE]

/-- Every register field that 11_disturbance_recorder.md gives. -/
def fieldsRec : List Field := fieldsRec0

end Sys2Proof.Machine.Reg
end

