-- ==== Sys2Proof/Machine/RegSet.lean ====
section
/-! DEFINITION. The register fields of spec file 14_settings_custody.md: address, array shape, bit place, access code, reset value
and (for a settings field) the range R697 binds. -/
namespace Sys2Proof.Machine.Reg
open Field

/-- R547 -/
def SET_CHAMBER.STATE : Field := mk' 0x110000 0 3 .RO 0
/-- Slot of the first gate -/
def SET_CHAMBER.G1_SLOT : Field := mk' 0x110000 3 3 .RO 0
/-- Its role; 0 when closed -/
def SET_CHAMBER.G1_ROLE : Field := mk' 0x110000 6 2 .RO 0
/-- Slot of the second gate -/
def SET_CHAMBER.G2_SLOT : Field := mk' 0x110000 8 3 .RO 0
/-- Its role; 0 when closed -/
def SET_CHAMBER.G2_ROLE : Field := mk' 0x110000 11 2 .RO 0
/-- Custody open (R542) (reset: from MRAM) -/
def SET_CHAMBER.OPEN : Field := mk' 0x110000 13 1 .RO 0
/-- R546 -/
def SET_CHAMBER.LOCKOUT : Field := mk' 0x110000 14 1 .RO 0
/-- The pending commit has a set time -/
def SET_CHAMBER.AT : Field := mk' 0x110000 15 1 .RO 0
/-- R560 -/
def SET_CHAMBER.LOST : Field := mk' 0x110000 16 1 .RO 0
/-- 0x004. `SET_CTR` bits [31:0]; a read latches HI (reset: from MRAM) -/
def SET_CTR_LO.VALUE : Field := mk' 0x110004 0 32 .RO 0
/-- 0x008. Bits [63:32] (reset: from MRAM) -/
def SET_CTR_HI.VALUE : Field := mk' 0x110008 0 32 .RO 0
/-- 0x00C. Settings digest in force, bits [31:0] (reset: from MRAM) -/
def SET_DIG_LO.VALUE : Field := mk' 0x11000C 0 32 .RO 0
/-- 0x010. Bits [63:32] (reset: from MRAM) -/
def SET_DIG_HI.VALUE : Field := mk' 0x110010 0 32 .RO 0
/-- 0x014. Bank digest in force, bits [31:0] (reset: from MRAM) -/
def SET_BDIG_LO.VALUE : Field := mk' 0x110014 0 32 .RO 0
/-- 0x018. Bits [63:32] (reset: from MRAM) -/
def SET_BDIG_HI.VALUE : Field := mk' 0x110018 0 32 .RO 0
/-- 0x01C. Staged bank digest, bits [31:0]; 0 below SEALED -/
def SET_SDIG_LO.VALUE : Field := mk' 0x11001C 0 32 .RO 0
/-- 0x020. Bits [63:32] -/
def SET_SDIG_HI.VALUE : Field := mk' 0x110020 0 32 .RO 0
/-- 0x024. Latest swap tick, bits [31:0]; 0 after start-up; a read latches HI -/
def SET_SWAP_TICK_LO.VALUE : Field := mk' 0x110024 0 32 .RO 0
/-- 0x028. Bits [63:32] -/
def SET_SWAP_TICK_HI.VALUE : Field := mk' 0x110028 0 32 .RO 0
/-- 0x02C. AT of the pending commit, ns, bits [31:0]; a read latches HI -/
def SET_PEND_TAI_LO.VALUE : Field := mk' 0x11002C 0 32 .RO 0
/-- 0x030. Bits [63:32] -/
def SET_PEND_TAI_HI.VALUE : Field := mk' 0x110030 0 32 .RO 0
/-- 0x034. Ignored SP writes (R539) -/
def SET_SPW_CNT.VALUE : Field := mk' 0x110034 0 32 .RC 0
/-- 0x038. AUTH_FAIL replies (R546) -/
def SET_AUTHFAIL_CNT.VALUE : Field := mk' 0x110038 0 32 .RC 0
/-- 0x03C. Banks brought into force (reset: from MRAM) -/
def SET_COMMIT_CNT.VALUE : Field := mk' 0x11003C 0 32 .RO 0
/-- 0x040. Data word 1 of the latest failed SEAL (R548) -/
def SET_STAGE_ERR.VALUE : Field := mk' 0x110040 0 32 .RO 0
/-- +0x0. 0 empty, 1 AUTHOR, 2 REVIEWER, 3 CUSTODIAN. Bits [31:2] reserved (reset: from MRAM) -/
def SET_KEY_CFG.ROLE : Field := mkArr 0x110100 16 8 0 1 0 2 .RO 0
/-- +0x4. First 8 bytes of SHA-256 over the 64-byte key, bits [31:0]; 0 when empty (reset: from MRAM) -/
def SET_KEY_FP_LO.VALUE : Field := mkArr 0x110104 16 8 0 1 0 32 .RO 0
/-- +0x8. Bits [63:32] (reset: from MRAM) -/
def SET_KEY_FP_HI.VALUE : Field := mkArr 0x110108 16 8 0 1 0 32 .RO 0
/-- +0xC. Endorsements accepted from the slot (reset: from MRAM) -/
def SET_KEY_USE_CNT.VALUE : Field := mkArr 0x11010C 16 8 0 1 0 32 .RO 0

/-- Register fields of this file, part 0. -/
def fieldsSet0 : List Field := [
  SET_CHAMBER.STATE,
  SET_CHAMBER.G1_SLOT,
  SET_CHAMBER.G1_ROLE,
  SET_CHAMBER.G2_SLOT,
  SET_CHAMBER.G2_ROLE,
  SET_CHAMBER.OPEN,
  SET_CHAMBER.LOCKOUT,
  SET_CHAMBER.AT,
  SET_CHAMBER.LOST,
  SET_CTR_LO.VALUE,
  SET_CTR_HI.VALUE,
  SET_DIG_LO.VALUE,
  SET_DIG_HI.VALUE,
  SET_BDIG_LO.VALUE,
  SET_BDIG_HI.VALUE,
  SET_SDIG_LO.VALUE,
  SET_SDIG_HI.VALUE,
  SET_SWAP_TICK_LO.VALUE,
  SET_SWAP_TICK_HI.VALUE,
  SET_PEND_TAI_LO.VALUE,
  SET_PEND_TAI_HI.VALUE,
  SET_SPW_CNT.VALUE,
  SET_AUTHFAIL_CNT.VALUE,
  SET_COMMIT_CNT.VALUE,
  SET_STAGE_ERR.VALUE,
  SET_KEY_CFG.ROLE,
  SET_KEY_FP_LO.VALUE,
  SET_KEY_FP_HI.VALUE,
  SET_KEY_USE_CNT.VALUE]

/-- Every register field that 14_settings_custody.md gives. -/
def fieldsSet : List Field := fieldsSet0

end Sys2Proof.Machine.Reg
end

