-- ==== Sys2Proof/Machine/Layout.lean ====
section
/-! DEFINITION. What a settings bank holds, word by word: the layouts of element words, the canonical image and its
digests (R534 to R538, R698). -/
namespace Sys2Proof.Machine
open Reg

/-! ### The element layouts (R698) -/

/-- The settings fields every layout has. -/
def layCommon : List Field := [ELM_CFG.EN, ELM_CFG.TYPE, ELM_CFG.BAY, ELM_BLK.KNOT, ELM_BLK.KEN]

/-- The layout of TYPE 0 to 4. -/
def layOc : List Field := [
  ELM_CFG.MEAS.range 0 1, ELM_CFG.SRC, ELM_CFG.QBLK, ELM_BLK.HBLK, ELM_BLK.CLPEN, ELM_BLK.CLPBLK, ELM_BLK.POLSLOT,
  ELM_BLK.CLPMUL.range 16 255, ELM_OC_PICKUP.VALUE.range 1 4294967295, ELM_OC_CURVE.CURVE, ELM_OC_CURVE.RESET.range 0 2,
  ELM_OC_CURVE.DO.range 128 255, ELM_OC_CURVE.MMAX.range 2 40, ELM_OC_TMS.TMS.range 10 30000, ELM_OC_TMS.TMIN,
  ELM_OC_TDEF.VALUE.range 0 600000000, ELM_OC_TR.VALUE.range 0 600000000, ELM_OC_DIR.DIRMODE.range 0 2, ELM_OC_DIR.POL,
  ELM_OC_DIR.NODIR, ELM_OC_DIR.RCA.srange (-180) 179, ELM_OC_DIR.HALFW.range 30 89, ELM_OC_DIR.MEMT, ELM_OC_VPMIN.VALUE]

/-- The layout of the level types; SUP, AUX and the type-specific bits of ELM_CFG depend on the type (R318). -/
def layLevel (type : Nat) : List Field :=
  [ELM_LCFG.QBLK, ELM_LV_TH.VALUE, ELM_LV_TDEF.VALUE.range 0 600000000, ELM_LV_TDO.VALUE.range 0 600000000,
    ELM_LV_HYST.VALUE, ELM_LV_SUP.VALUE,
    if type = 11 then ELM_LV_AUX.VALUE.range 1 16 else if type = 12 then ELM_LV_AUX.VALUE.srange (-180) 179 else ELM_LV_AUX.VALUE]
  ++ (if [10, 11, 12].contains type then [ELM_LCFG.DIR] else [])
  ++ (if [7, 8, 13].contains type then [ELM_LCFG.PHL] else [])
  ++ (if [7, 8].contains type then [ELM_LCFG.QSEL.range 0 2] else if [9, 11].contains type then [ELM_LCFG.QSEL.range 0 1] else [])

/-- The settings fields of an element word by TYPE, group words among them, with their ranges (R697, R698). -/
def elmLayout (type : Nat) : List Field :=
  layCommon ++
  match type with
  | 0 | 1 | 2 | 3 | 4 => layOc
  | 6 => [ELM_TH_IB.VALUE.range 1 4294967295, ELM_TH_TAU.VALUE.range 1000 36000000, ELM_TH_TAUC.VALUE.range 1000 36000000,
      ELM_TH_K.K.range 1000 2000, ELM_TH_K.LOW, ELM_TH_LEV.ALARM.range 50 999, ELM_TH_LEV.RESET.range 50 999,
      ELM_TH_INIT.VALUE.range 0 1000]
  | 5 | 7 | 8 | 9 | 10 | 11 | 12 | 13 => layLevel type
  | 14 => [ELM_LCFG.CBMODE, ELM_LCFG.RES, ELM_BF_ISET.VALUE, ELM_BF_INSET.VALUE, ELM_BF_T1.VALUE.range 0 10000000,
      ELM_BF_T2.VALUE.range 0 10000000, ELM_BF_KN.START, ELM_BF_KN.CBCL]
  | 15 => [ELM_AR_DT1.VALUE.range 10000 600000000, ELM_AR_DT2.VALUE.range 10000 600000000,
      ELM_AR_DT3.VALUE.range 10000 600000000, ELM_AR_DT4.VALUE.range 10000 600000000,
      ELM_AR_TRECLAIM.VALUE.range 1000000 600000000, ELM_AR_CFG.SHOTS.range 1 4, ELM_AR_CFG.SYNCREQ,
      ELM_AR_CFG.TCLOSE.range 1 65535, ELM_AR_CFG.TSYNC.range 1 255, ELM_AR_TOPEN.VALUE.range 10000 10000000,
      ELM_AR_KN1.START, ELM_AR_KN1.CBCL, ELM_AR_KN2.RESET, ELM_AR_KN2.SYNCEL, ELM_AR_KN2.SYNCEN]
  | 16 => [ELM_LCFG.REF.range 0 6, ELM_SY_VLIVE.VALUE, ELM_SY_VDEAD.VALUE, ELM_SY_DVMAX.VALUE, ELM_SY_DFMAX.VALUE,
      ELM_SY_DPH.VALUE.range 100 9000, ELM_SY_TCB.VALUE.range 0 1000000, ELM_SY_MODE.EN, ELM_SY_MODE.TCHK,
      ELM_SY_ANGOFS.VALUE.srange (-18000) 17999]
  | 17 | 18 => [ELM_LCFG.XBLK, ELM_HR_RATIO.VALUE.range 50 500, ELM_HR_IMIN.VALUE, ELM_HR_TEXT.VALUE.range 0 1000000,
      ELM_HR_TMAX.VALUE]
  | 19 => [ELM_LCFG.CBEN, ELM_CLP_ILOW.VALUE, ELM_CLP_TCOLD.VALUE.range 0 600000000, ELM_CLP_TCLP.VALUE.range 0 600000000,
      ELM_CLP_TFAST.VALUE, ELM_CLP_IREST.VALUE, ELM_CLP_CB.KNOT]
  | _ => []

/-- The base address of the ELM_ block. -/
def elmBase : Nat := 0xA0000
/-- An address lies in the ELM_ block. -/
def inElm (a : Nat) : Bool := decide (elmBase ≤ a) && decide (a < 0xC0000)
/-- The element whose word lies at an address of the ELM_ block. -/
def elmAt (a : Nat) : Nat := (a - elmBase) / 64
/-- The offset of an ELM_ word in its element. -/
def elmOff (a : Nat) : Nat := (a - elmBase) % 64
/-- A word offset of an element is that of a group word (R312). -/
def groupOff (w : Nat) : Bool := decide (8 ≤ w) && decide (w ≤ 0x20)

/-- The fields of a layout that lie in the word at offset `w`. -/
def wordFields (l : List Field) (w : Nat) : List Field := l.filter fun f => f.addr == elmBase + w

/-- TYPE of an element in a bank. -/
def Bank.etype (k : Bank) (e : Nat) : Nat := k.fld ELM_CFG.TYPE e

/-- A non-group word of element `e` as the canonical image holds it (R537, R698). -/
def Bank.elmWord (k : Bank) (e w : Nat) : Nat :=
  (wordFields (elmLayout (k.etype e)) w).foldl (fun a f => a + k.fld f e * 2 ^ f.lsb) 0

/-- A group word of element `e` in group `g` as the canonical image holds it. -/
def Bank.elmGroupWord (k : Bank) (e g w : Nat) : Nat :=
  (wordFields (elmLayout (k.etype e)) w).foldl (fun a f => a + k.gfld f e g * 2 ^ f.lsb) 0

/-- The bits of a word that fields cover. -/
def fieldMask (l : List Field) : Nat := l.foldl (fun m f => m ||| (2 ^ f.width - 1) * 2 ^ f.lsb) 0

/-! ### The other settings registers -/

/-- Every field of the part's registers outside the ELM_ block. -/
def plainFields : List Field :=
  fieldsHost ++ fieldsPwr ++ fieldsAfe ++ fieldsAux ++ fieldsFlt ++ fieldsGrid ++ fieldsPbus ++ fieldsBay ++ fieldsKnot
    ++ fieldsDio ++ fieldsRec ++ fieldsEvt ++ fieldsPair ++ fieldsSet ++ fieldsBist
    ++ (fieldsElmLv.filter fun f => !inElm f.addr)

/-- Every settings field outside the ELM_ block. -/
def plainSp : List Field := plainFields.filter fun f => f.acc == .SP

/-- The codes of R473. -/
def eventCodes : List Nat := [
  0x0001, 0x0002, 0x0003, 0x0004, 0x0005, 0x0006, 0x0010, 0x0011, 0x0012, 0x0013,
  0x1001, 0x1002, 0x1003, 0x1004, 0x1005, 0x1006, 0x1007, 0x1008, 0x1010, 0x1011, 0x1012, 0x1013, 0x1014,
  0x2001, 0x2002, 0x2003, 0x2004, 0x2010, 0x2011] ++ [
  0x3001, 0x3002, 0x3003, 0x3004, 0x3010, 0x3011, 0x3012, 0x3013,
  0x4001, 0x4002, 0x4003, 0x4010, 0x4011, 0x4012, 0x4013, 0x4020, 0x4021,
  0x5001, 0x5002, 0x5003, 0x5004, 0x5005, 0x5010, 0x5011, 0x5012, 0x5013, 0x5014, 0x5015, 0x5020, 0x5021, 0x5022, 0x5023,
  0x5024] ++ [
  0x6001, 0x6002, 0x6003, 0x6010, 0x6011, 0x6012, 0x6013, 0x6014, 0x6015, 0x6020, 0x6021, 0x6022, 0x6023, 0x6024, 0x6030,
  0x6031, 0x6032, 0x6033, 0x6034, 0x7001, 0x7002, 0x7003, 0x7004,
  0x8001, 0x8002, 0x8003, 0x8004, 0x8005, 0x8006, 0x8007, 0x8008] ++ [
  0x9001, 0x9002, 0x9003, 0x9004, 0x9005, 0x9006, 0x9007, 0xA001, 0xA002, 0xA003, 0xA004, 0xA005, 0xA006,
  0xB001, 0xB002, 0xB003]

/-- An instance of a field exists: EVT_RATE has entries only for the codes of R473. -/
def Field.exists' (f : Field) (i j : Nat) : Bool :=
  f.addr != EVT_RATE.RATE.addr || eventCodes.contains (4096 * i + j)

/-- The instances of a field. -/
def Field.insts (f : Field) : List (Nat × Nat) :=
  ((List.range f.n2).flatMap fun j => (List.range f.n1).map fun i => (i, j)).filter fun x => f.exists' x.1 x.2

/-- The fields among those given that have an instance at an address, with the instance. -/
def fieldsAt (l : List Field) (a : Nat) : List (Field × Nat × Nat) :=
  l.filterMap fun f => (f.indexAt a).bind fun x => if f.exists' x.1 x.2 then some (f, x) else none

/-- The settings fields of an address outside the ELM_ block. -/
def spAt (a : Nat) : List Field := (fieldsAt plainSp a).map (·.1)

/-- The unit-local settings fields (R70, R199, R212, R392, R535, BIST_CFG), those of the PAIR_ block and EVT_RATE apart. -/
def localFields : List Field := [
  AFE_CH_CFG.MODE, AFE_CH_CFG.TWIN_SRC, AFE_CH_TRIM_GAIN.VALUE, AFE_CH_TRIM_OFS.VALUE, AFE_CH_TRIM_SKEW.VALUE,
  AUX_IN_TRIM.OFS, AUX_IN_TRIM.GAIN, PBUS_NET_CFG.MODE, PBUS_NET_CFG.PORT_EN, PBUS_PORT_INGLAT.VALUE, PBUS_PORT_EGLAT.VALUE,
  PBUS_PORT_PHY.ADDR, PBUS_SV_CFG.PORT, PBUS_SV_CFG.VLAN_EN, PBUS_SV_APPID.VID, PBUS_SV_LAT.VALUE, PBUS_GS_CFG.PORT,
  PBUS_GS_CFG.VLAN_EN, PBUS_GS_CFG.VID, DIO_CH_CFG.EVT, DIO_CH_CFG.ONOL, DIO_CH_CFG.OFFOL, DIO_CH_INRUSH.I, DIO_CH_INRUSH.T,
  DIO_PAIR_CFG.CLAIM_EN, DIO_PAIR_CFG.TERM, DIO_PAIR_CFG.TOW_EN, DIO_SS_CFG.BUDGET, DIO_ALIVE.EN, DIO_ALIVE.MAINT_OFF,
  BIST_CFG.ROT_EN, BIST_CFG.PAT, BIST_CFG.PERIOD]

/-- A settings field is unit-local (R535). -/
def unitLocal (f : Field) : Bool :=
  localFields.contains f || f.addr == EVT_RATE.RATE.addr || (decide (0x100000 ≤ f.addr) && decide (f.addr < 0x110000))

/-- Neighbouring entries of one address added up. -/
def mergeWords : List (Nat × Nat) → List (Nat × Nat)
  | [] => []
  | (a, v) :: r =>
    match mergeWords r with
    | (b, w) :: t => if a = b then (a, v + w) :: t else (a, v) :: (b, w) :: t
    | [] => [(a, v)]

/-- The word offsets of an element that hold settings outside the group words in some layout. -/
def elmPlainOffs : List Nat := [0x00, 0x04, 0x24, 0x2C]

/-- Part 1 of the canonical image: address and word of each register holding a settings field, ascending. -/
def Bank.part1 (k : Bank) (loc : Bool) : List (Nat × Nat) :=
  let plain := plainSp.flatMap fun f => f.insts.map fun x =>
    (f.at' x.1 x.2, if loc && unitLocal f then 0 else k.fld f x.1 x.2 * 2 ^ f.lsb)
  let elm := (List.range 2048).flatMap fun e => elmPlainOffs.map fun w => (elmBase + 64 * e + w, k.elmWord e w)
  mergeWords ((plain ++ elm).mergeSort fun x y => decide (x.1 ≤ y.1))

/-- The words of an object table of a given extent. -/
def tabWords (t : Tab Nat) (n : Nat) : List Nat := (List.range n).map fun i => tget 0 t i

/-- A word of the knot table. -/
def Bank.knotWordAt (k : Bank) (q i : Nat) : Nat := (tget [] k.knots q).getD i 0

/-- A word of a user curve as the image holds it: words after the P points are 0. -/
def Bank.curveImage (k : Bank) (u i : Nat) : Nat := if i ≤ 2 * k.curveWord u 0 then k.curveWord u i else 0

/-- A word of a GOOSE template as the image holds it: the length, then its bytes, then 0. -/
def Bank.tmplImage (k : Bank) (q i : Nat) : Nat :=
  let n := tget 0 k.tmpl (376 * q)
  let w := tget 0 k.tmpl (376 * q + i)
  if i = 0 then n else w % 2 ^ (8 * min 4 (n - 4 * (i - 1)))

/-- The canonical image of a bank (R537), word by word; `loc` sets every unit-local field to 0 (R538). -/
def Bank.image (k : Bank) (loc : Bool) : List Nat :=
  (k.part1 loc).map (·.2)
  ++ ((List.range 4).flatMap fun g => (List.range 2048).flatMap fun e => (List.range 7).map fun w => k.elmGroupWord e g (8 + 4 * w))
  ++ ((List.range 16384).flatMap fun q => (List.range 8).map fun i => k.knotWordAt q i)
  ++ ((List.range 8).flatMap fun u => (List.range 129).map fun i => k.curveImage u i)
  ++ ((List.range 128).flatMap fun q => (List.range 376).map fun i => k.tmplImage q i)
  ++ tabWords k.labels (4 * 5536)

/-- The bank digest (R538). -/
def Bank.bankDigest (k : Bank) : Nat := digest64 ((k.image false).flatMap (leBytes 4 ·))
/-- The settings digest (R538). -/
def Bank.setDigest (k : Bank) : Nat := digest64 ((k.image true).flatMap (leBytes 4 ·))

end Sys2Proof.Machine
end

