-- ==== Sys2Proof/Machine/Bays.lean ====
section
/-! DEFINITION. Stopping elements and bays, placing bays on engines, and the measurements of bays (R252 to R275, R307,
R348). -/
namespace Sys2Proof.Machine
open Reg

/-! ### Stopping (R307, R348, R355, R380) -/

/-- The phases that a stopping element had picked up, if it logs (R307, R348). -/
def ElmSt.picked : ElmSt → Option Nat
  | .oc ph _ _ => if ph.any (·.up) then some (bitsOf (ph.zipIdx.map fun x => (x.2, x.1.up))) else none
  | .lv cond was _ _ => if was then some (bitsOf (cond.zipIdx.map fun x => (x.2, x.1))) else none
  | .bf was _ => if was then some 0 else none
  | .ar st s _ _ => if 1 ≤ st ∧ st ≤ 4 then some s else none
  | _ => none

/-- The state of an element that logs nothing as it stops. -/
def ElmSt.quiet : ElmSt → ElmSt
  | .oc ph m a => .oc (ph.map fun x => { x with up := false }) m a
  | .lv cond _ tm hold => .lv cond false tm hold
  | .bf _ t => .bf false t
  | .ar _ s t r => .ar 6 s t r
  | st => st

/-- The read-only words of element `e` return to their reset values; its counters stay. -/
def State.elmClear (s : State) (e : Nat) (ar : Bool) : State :=
  let lo := (0xA0000 + 64 * e) * 32
  { s with regs := s.regs.filter fun r =>
      !(decide (lo ≤ r.1) && decide (r.1 < lo + 2048)) || (ar && decide (lo + 0x38 * 32 ≤ r.1) && decide (r.1 < lo + 0x3C * 32)) }

/-- Element `e` stops at tick `n` with the instant `t`; it will start from the reset state of its type in bank `k` (R307, R348). -/
def State.elmStop (s : State) (e n t : Nat) (k : Bank) : State :=
  match tfind s.eval.elm e with
  | none => s
  | some x =>
    let s := match x.st.picked with | some v => s.logAt t 0x5003 e v | none => s
    let ar := match x.st with | .ar _ _ _ _ => true | _ => false
    let s := s.elmClear e ar
    let init := initElm (k.fld ELM_CFG.TYPE e) (k.fld ELM_TH_INIT.VALUE e)
    s.modEval fun v => { v with elm := tset v.elm e { st := init, out := Trace.push x.out n 0 } }

/-- Bay `b` stops at tick `n` (R259, R279, R307, R355): its elements and knots stop. `k` is the bank it ran on. -/
def State.bayStop (s : State) (b n t : Nat) (k : Bank) : State :=
  if !(tget {} s.eval.bay b).run then s else
  let s := forL (k.elems b) (fun e s => s.elmStop e n t k) s
  let s := forL (k.knotsOf b) (fun x s => s.knotStop x.1 n x.2) s
  let s := s.modEval fun v => { v with bay := tmod {} v.bay b fun x => { x with run := false, stopAt := none } }
  (s.wr BAY_STATUS.RUN 0 b).wr BAY_STATUS.ENG 15 b

/-- An element that does not run stands in the reset state of its type in bank `k`. -/
def State.elmInit (s : State) (k : Bank) (e : Nat) : State :=
  let init := initElm (k.fld ELM_CFG.TYPE e) (k.fld ELM_TH_INIT.VALUE e)
  s.modEval fun v => match tfind v.elm e with | some x => { v with elm := tset v.elm e { x with st := init } } | none => v

/-- Bay `b` starts from its reset state at tick `n`, its elements too (R278, R279, R345, R348). A shed bay starts no more: only a restart
restores it (R259). -/
def State.bayStart (s : State) (b n : Nat) : State :=
  if (tget {} s.eval.bay b).shed then s else
  let k := s.bankAt n
  let s := forL (k.elems b) (fun e s => s.elmInit k e) s
  s.modEval fun v => { v with bay := tmod {} v.bay b fun x => { x with run := true, next := n, first := true, cnt := 0 } }

/-! ### Placement (R257 to R259) -/

/-- The healthy engines, ascending. -/
def State.healthy (s : State) : List Nat := (List.range 9).filter fun k => s.rd BIST_ENG_STATUS.HEALTHY k == 1

/-- The bays that engines carry: enabled and not shed. -/
def State.carriedBays (s : State) : List Nat :=
  (List.range 64).filter fun b => s.bank.fld BAY_CFG.EN b == 1 && !(tget {} s.eval.bay b).shed

/-- The bay to shed next: lowest PRIO, then highest number (R259). -/
def State.shedNext (s : State) (l : List Nat) : Option Nat :=
  l.foldl (fun a b => match a with
    | none => some b
    | some x => if s.bank.fld BAY_CFG.PRIO b ≤ s.bank.fld BAY_CFG.PRIO x then some b else a) none

/-- Bay `b` has evaluated every tick before the one at which it is to stop, and stops (R259). -/
def State.bayDone (s : State) (b : Nat) : State :=
  let x := tget {} s.eval.bay b
  match x.stopAt with
  | some m =>
    if x.run && decide (m ≤ x.next) then (s.bayStop b m (((s.tickRec? m).map fun r => r.t / 2 ^ 24).getD s.grid.now) s.bank).idleSince b m else s
  | none => s

/-- Shed bays until `cap` are left (R259): a shed bay stops at tick `n`. -/
def State.shedTo (s : State) (cap n t : Nat) : Nat → State
  | 0 => s
  | k + 1 =>
    let l := s.carriedBays
    if l.length ≤ cap then s else
    match s.shedNext l with
    | none => s
    | some b =>
      let s := s.modEval fun v => { v with bay := tmod {} v.bay b fun x => { x with shed := true, shedAt := t, stopAt := some n } }
      (((s.wr BAY_STATUS.SHED 1 b).logAt t 0x5005 b 0).bayDone b).shedTo cap n t k

/-- Engine `k` starts a logic BIST (R606). -/
def State.engStart (s : State) (k kind pat : Nat) (again : Bool := false) : State :=
  (s.modBist fun v => { v with eng := tset v.eng k { kind := kind, pat := pat, start := s.grid.now, again := again } }).wr
    BIST_ENG_STATUS.TESTING 1 k

/-- The proof cycle goes on with the engine after `k`, or ends (R524, R616). That it completed, and that one begun in STANDBY passed, is
kept (R520, R522). Only a unit in STANDBY runs one. -/
def State.proofNext (s : State) (k : Nat) (fail inc : Bool) : State :=
  if s.role ≠ 2 then s.modBist fun v => { v with proof := none } else
  let f := match s.bist.proof with | some (_, a, b) => (a || fail, b || inc) | none => (fail, inc)
  if k + 1 < 9 then (s.modBist fun v => { v with proof := some (k + 1, f.1, f.2) }).engStart (k + 1) 2 2
  else
    let res := if f.1 then 2 else if f.2 then 3 else 1
    let s := s.modPair fun p => { p with proven := true, passedAt := if res = 1 then some (p.passedAt.getD s.grid.now) else p.passedAt }
    (s.modBist fun v => { v with proof := none }).wr PAIR_STATUS.PROOF res

/-- A running logic BIST is stopped because its engine is needed (R608): INCOMPLETE, and no repeat. -/
def State.engStop (s : State) (k : Nat) : State :=
  match tfind s.bist.eng k with
  | none => s
  | some x =>
    let s := s.modBist fun v => { v with eng := terase v.eng k, proof := if x.kind = 2 then none else v.proof }
    let s := ((s.wr BIST_ENG_STATUS.TESTING 0 k).wr BIST_ENG_STATUS.LAST 3 k).bump BIST_ENG_INC_CNT.VALUE k
    if x.kind = 1 then ((s.wr BIST_STATUS.BUSY 0).wr BIST_STATUS.LAST 2).logEv 0xA001 k 2
    else if x.kind = 2 then s.wr PAIR_STATUS.PROOF 3 else s

/-- The sizes of `e` sets of `b` bays, the first ones holding one bay more (R258). -/
def setSizes (b e : Nat) : List Nat := (List.range e).map fun i => b / e + (if i < b % e then 1 else 0)

/-- Cut a list into pieces of the given sizes. -/
def pieces : List Nat → List Nat → List (List Nat)
  | _, [] => []
  | l, n :: r => l.take n :: pieces (l.drop n) r

/-- Place the bays on engines at tick `n` with the instant `t` (R257 to R259). Sets go to the carrying engines in ascending
order; the spare stays the spare while it is healthy, else the highest-numbered healthy engine becomes it. After an engine failure (`lost`)
an engine under test is needed: its test stops and it carries bays (R608, R615, R637). -/
def State.place (s : State) (n t : Nat) (lost : Bool := false) : State :=
  let carry := s.role == 0 || s.role == 3 || s.role == 4
  let h := s.healthy
  let s := if carry && s.pwr.prot then s.shedTo (10 * h.length) n t 64 else s
  let bays := if carry && s.pwr.prot then s.carriedBays else []
  let susp := decide (10 * (h.length - 1) < bays.length)
  let s := if susp && s.rd BIST_STATUS.ROT_SUSP == 0 then (s.wr BIST_STATUS.ROT_SUSP 1).logAt t 0xA003 0 0
    else s.wr BIST_STATUS.ROT_SUSP (b2n susp)
  let testing := h.filter fun k => (tfind s.bist.eng k).isSome
  let all := susp || s.role == 3 || (lost && carry)
  let s := forL (if all then testing else testing.drop 1) (fun k s => s.engStop k) s
  let cur := s.rd BIST_SPARE.ENG
  let free := if all then h.filter fun k => !testing.contains k else h
  let spare := if susp then none else match (if all then none else testing.head?) with
    | some k => some k
    | none => if free.contains cur then some cur else free.getLast?
  let s := s.wr BIST_SPARE.ENG (match spare with | some k => if (tfind s.bist.eng k).any (·.kind == 0) then 15 else k | none => 15)
  let eng := if s.role = 3 then h else h.filter fun k => some k != spare
  let sets := (pieces bays (setSizes bays.length eng.length)).zip eng
  let map : Tab Nat := sets.foldl (fun m x => x.1.foldl (fun m b => tset m b x.2) m) []
  let s := s.modBist fun v => { v with sets := map }
  let s := forN 64 (fun b s => s.wr BAY_STATUS.ENG (tget 15 map b) b) s
  forN 9 (fun k s => s.wr BIST_ENG_STATUS.CARRYING (b2n (map.any fun x => x.2 == k)) k) s

/-- An engine is declared failed (R611): its bays evaluate the tick in hand from the state committed before it (R260), which is the state
held here, and at the next tick boundary bays are placed again, and shed where engines are short (R258, R279). -/
def State.engineFail (s : State) (k cause : Nat) : State :=
  if s.rd BIST_ENG_STATUS.HEALTHY k = 0 then s else
  let s := ((s.wr BIST_ENG_STATUS.HEALTHY 0 k).wr BIST_ENG_STATUS.CAUSE cause k).logEv 0xA002 k cause
  let s := if (tfind s.bist.eng k).any (·.kind == 2) then
      -- the proof cycle completes with the other engines (R524)
      let p := s.bist.proof
      ((s.engStop k).modBist fun v => { v with proof := p }).proofNext k true false
    else s.engStop k
  s.modBist fun v => { v with placeDue := true }

/-- The placement that a failed engine made necessary, at the boundary of tick `n` (R258). -/
def State.placeNow (s : State) (n t : Nat) : State :=
  if s.bist.placeDue then (s.modBist fun v => { v with placeDue := false }).place n t true else s

/-! ### A settings swap on a bay (R279, R307, R308, R343, R355, R361, R380, R558) -/

/-- The values of two banks differ in one of the fields at an instance. -/
def banksDiffer (a b : Bank) (l : List Field) (i : Nat) : Bool := l.any fun f => a.fld f i != b.fld f i

/-- The elements whose words either bank lists, ascending. -/
def elmsOf (a b : Bank) : List Nat :=
  let l := (a.words ++ b.words).filterMap fun x => if inElm (x.1 % 2 ^ 24) then some (elmAt (x.1 % 2 ^ 24)) else none
  (List.range 2048).filter fun e => l.contains e

/-- The knots that either bank lists. -/
def knotsIn (a b : Bank) : List Nat := ((a.knots ++ b.knots).map (·.1)).eraseDups

/-- The bay at whose turn an element takes the new bank: that which evaluated it, or else that which will. -/
def elmOwner (old new : Bank) (e : Nat) : Nat := if old.fld ELM_CFG.EN e = 1 then old.fld ELM_CFG.BAY e else new.fld ELM_CFG.BAY e
/-- The bay at whose turn a knot takes the new bank. -/
def knotOwner (old new : Bank) (q : Nat) : Nat := if knotEn (old.knot q) then knotBay (old.knot q) else knotBay (new.knot q)

/-- An element or a knot moves from one bay to another: the bays then turn together. -/
def baysLinked (old new : Bank) : Bool :=
  (elmsOf old new).any (fun e => old.fld ELM_CFG.EN e == 1 && new.fld ELM_CFG.EN e == 1 && old.fld ELM_CFG.BAY e != new.fld ELM_CFG.BAY e)
  || (knotsIn old new).any fun q => knotEn (old.knot q) && knotEn (new.knot q) && knotBay (old.knot q) != knotBay (new.knot q)

/-- An element at the swap tick (R307, R308, R348, R349): it stops when it is disabled or its TYPE, BAY or input changes, and
starts from its reset state when it is enabled or restarted. -/
def State.swapElm (s : State) (old new : Bank) (n t e : Nat) : State :=
  let en0 := old.fld ELM_CFG.EN e == 1
  let en1 := new.fld ELM_CFG.EN e == 1
  let oc := decide (1 ≤ new.etype e) && decide (new.etype e ≤ 4)
  let key := banksDiffer old new [ELM_CFG.TYPE, ELM_CFG.BAY] e
    || (oc && banksDiffer old new [ELM_CFG.MEAS, ELM_CFG.SRC, ELM_BLK.POLSLOT] e)
  let s := if en0 && (!en1 || key) then s.elmStop e n t new else s
  if old.etype e ≠ new.etype e ∨ (en1 ∧ !en0) then
    let init := initElm (new.etype e) (new.fld ELM_TH_INIT.VALUE e)
    let out := match tfind s.eval.elm e with | some x => Trace.push x.out n 0 | none => []
    (s.elmClear e false).modEval fun v => { v with elm := tset v.elm e { st := init, out := out } }
  else s

/-- A row keeps its latch although it is disabled or latches no more (R380). -/
def State.swapRow (s : State) (old new : Bank) (t d : Nat) : State :=
  let off := old.fld KNOT_TM_CFG.EN d == 1 && new.fld KNOT_TM_CFG.EN d == 0
  let unlatch := old.fld KNOT_TM_CFG.LATCH d == 1 && new.fld KNOT_TM_CFG.LATCH d == 0
  if (off || unlatch) && (s.row d).lat then s.logAt t 0x5023 0 0 else s

/-- The group of a bay that is not evaluated follows SET_GRP.FIX at the swap tick while knots do not select it (R343). -/
def State.swapGroup (s : State) (old new : Bank) (n t b : Nat) : State :=
  let g0 := ({ s with bank := old } : State).group b
  let g1 := new.fld SET_GRP.FIX b
  if new.fld SET_GRP.KEN b = 1 ∨ g0 = g1 ∨ !s.bayEngines then s else
  (s.modEval fun v => { v with bay := tmod {} v.bay b fun x => { x with grp := Trace.push x.grp n (g1 + 1), want := g1, cnt := 0 } }).logAt t
    0x5004 b (g0 + 4 * g1)

/-- Bay `b` takes the new bank, from tick `n` with the instant `t` on: itself, its elements, its knots, its rows. -/
def State.turnBay (s : State) (old new : Bank) (n t b : Nat) : State :=
  let e0 := old.fld BAY_CFG.EN b == 1
  let e1 := new.fld BAY_CFG.EN b == 1
  let s := if e0 && !e1 then s.bayStop b n t old else s
  let s := forL ((elmsOf old new).filter fun e => elmOwner old new e == b) (fun e s => s.swapElm old new n t e) s
  let s := forL ((knotsIn old new).filter fun q => knotOwner old new q == b) (fun q s =>
    if old.knot q = new.knot q ∨ (!knotEn (old.knot q) ∧ !knotEn (new.knot q)) then s else s.knotStop q n (new.knot q)) s
  let s := forL ((List.range 32).filter fun d => old.fld KNOT_TM_CFG.BAY d == b) (fun d s => s.swapRow old new t d) s
  let s := if (tget {} s.eval.bay b).run then s else s.swapGroup old new n t b
  let s := if e0 && !e1 then s.idleSince b n else s
  if !e0 && e1 && s.bayEngines then s.bayStart b n else s

/-- Bay `b` has evaluated every tick before `n`, or does not run. -/
def State.caughtUp (s : State) (n b : Nat) : Bool :=
  let x := tget {} s.eval.bay b
  !x.run || !s.bayEngines || decide (n ≤ x.next)

/-- The bays that have come to the latest swap tick take the new bank (R558), in ascending order. -/
def State.turnBays (s : State) : State :=
  match s.prev with
  | none => s
  | some (old, n) =>
    let all := s.eval.chg
    let due := all.filter (s.caughtUp n)
    if due.isEmpty || (decide (due.length < all.length) && baysLinked old s.bank) then s else
    let t := ((s.tickRec? n).map fun r => r.t / 2 ^ 24).getD (s.grid.nextT / 2 ^ 24)
    let s := s.modEval fun v => { v with chg := v.chg.filter fun b => !due.contains b }
    (forL due (fun b s => s.turnBay old s.bank n t b) s).storeLatches

/-! ### Evaluations that become due (R254, R255, R360) -/

/-- Bay `b` evaluates a tick whose evaluation begins now; what waits for the end of that tick follows. -/
def State.evalNow (s : State) (b : Nat) (r : TickRec) (dt : Nat) : State :=
  let s := s.raiseTo BAY_WAIT_MAX.VALUE ((s.grid.now - r.t / 2 ^ 24) / 250) b
  (((s.keepSec b r.n).evalBay b r dt).bayDone b).turnBays

/-- Evaluate bay `b` at its next tick, its evaluation starting at device time `t` and taking `us` (R254, R255, R360). -/
def State.bayEvaluation (s : State) (b t us : Nat) : State :=
  let s := s.detectors
  match s.bayDue b with
  | none => s
  | some r =>
    let s := (s.atTime (r.t / 2 ^ 24)).atTime t
    (s.evalNow b r (s.tickDt r)).raiseTo KNOT_EVAL_MAX.VALUE us

/-- Bay `b` evaluates the ticks whose samples have all been delivered, at most `fuel`. -/
def State.bayCatch (s : State) (b : Nat) : Nat → State
  | 0 => s
  | n + 1 => match s.bayDue b with
    | some r => (s.evalNow b r (s.tickDt r)).bayCatch b n
    | none => s

/-- The happening `k` of instance `i` in bay `b`: the bay's next tick is evaluated if that brings it. -/
def State.evalEvent (s : State) (b k i : Nat) : State :=
  let u := s.bayEvaluation b s.grid.now 0
  if (s.bayDue b).isSome && u.eval.ev.contains (k, i) then u else s

/-- The happening `k` of element `e`. -/
def State.elmEvent (s : State) (e k : Nat) : State := s.evalEvent (s.bank.fld ELM_CFG.BAY e) k e

/-! ### Measurements and reports (R262 to R275) -/

/-- Every mapped slot of bay `b` has a valid fundamental at tick `n` (BAY_STATUS.PV_ALL). -/
def State.pvAll (s : State) (b n : Nat) : Bool := ((s.bankAt n).slots b).all fun i => hasBit (s.slotPh b i n).psw bVALID

/-- The tick's measurements of bay `b` that are kept: f_b, and the count of ticks without a valid fundamental (R271, R322). -/
def State.measureBay (s : State) (b : Nat) (r : TickRec) : State :=
  let s := match s.bayFreq b r.n with
    | some f => s.modEval fun v => { v with bay := tmod {} v.bay b fun x =>
        { x with fbs := (r.n, f) :: x.fbs.takeWhile fun y => decide (r.n < y.1 + 4096) } }
    | none => s
  if (s.bankAt r.n).fld BAY_CFG.EN b = 1 && !s.pvAll b r.n then s.bump BAY_INVAL_CNT.VALUE b else s

/-- The phasor that selection bit `i` of a report names (R274): slots 0 to 15, then I0, I1, I2, V0, V1, V2. -/
def State.reportPh (s : State) (b n i : Nat) : Phasor :=
  if i < 16 then s.slotPh b i n else if i < 19 then s.seqComp b false (i - 16) n else s.seqComp b true (i - 19) n

/-- The body of a phasor report (R274). -/
def State.reportBody (s : State) (b : Nat) (r : TickRec) : List Byte :=
  let sel := maskIdx 22 (s.rd BAY_PSTREAM_SEL.SLOTS b + 2 ^ 16 * s.rd BAY_PSTREAM_SEL.SEQ b)
  let fb := s.bayFreq b r.n
  let d := r.t / 2 ^ 24
  leBytes 8 d ++ leBytes 8 (toBits 64 r.tai) ++ leBytes 8 r.n ++ leBytes 4 (fb.getD r.freq) ++ leBytes 1 b ++ leBytes 1 r.tq
    ++ leBytes 1 sel.length ++ leBytes 1 (b2n r.stby + 2 * b2n fb.isNone + 4 * b2n r.hold)
    ++ sel.flatMap fun i =>
      let p := s.reportPh b r.n i
      leBytes 4 (toBits 32 p.re) ++ leBytes 4 (toBits 32 p.im) ++ leBytes 2 p.psw ++ leBytes 1 i ++ leBytes 1 0

/-- A report of bay `b` is due at tick `n` (R273). -/
def State.reportDue (s : State) (b n : Nat) : Bool :=
  let np := s.np
  let div := s.rd BAY_PSTREAM.DIV b
  s.hasFeat 10 && s.rd BAY_PSTREAM.EN b == 1 &&
    (if div = 0 then n % np == 0 || n % np == np / 2 else n % np == 0 && n / np % div == 0)

/-- Write the phasor report of bay `b` for a tick (R273, R274, R578). -/
def State.report (s : State) (b : Nat) (r : TickRec) : State :=
  if !s.reportDue b r.n then s else
  let berth := s.rd BAY_PSTREAM.BERTH b
  if s.berthOk berth 0 1024 then (s.putMsg berth 2 (s.reportBody b r)).1 else s.bump HOST_MISROUTE_CNT.VALUE

/-- Measure bay `b` for the ticks whose samples it has (R268 to R275). -/
def State.measureTo (s : State) (b : Nat) : List TickRec → State
  | [] => s
  | r :: rest =>
    if s.bayReady b r then
      let s := (s.measureBay b r).report b r
      (s.modEval fun v => { v with bay := tmod {} v.bay b fun x => { x with meas := r.n + 1 } }).measureTo b rest
    else s

/-- The bays a bank lists a word of. An unlisted bay maps nothing. -/
def Bank.listsBay (k : Bank) (b : Nat) : Bool := k.words.any fun x => decide (0x80000 + 0x400 * b ≤ x.1) && decide (x.1 < 0x80400 + 0x400 * b)

/-- Bay `b` is measured tick by tick: it is listed, or it streams. -/
def State.measures (s : State) (k : Bank) (b : Nat) : Bool := k.listsBay b || s.rd BAY_PSTREAM.EN b == 1

/-- Measure every bay as far as its samples go. -/
def State.measureAll (s : State) : State :=
  forN 64 (fun b s =>
    if s.measures s.bank b then
      let m := (tget {} s.eval.bay b).meas
      s.measureTo b (s.grid.hist.takeWhile fun r => decide (m ≤ r.n)).reverse
    else s) s

/-- The latest tick of which bay `b` has every sample. -/
def State.lastDone (s : State) (b : Nat) : Option TickRec := s.grid.hist.find? fun r => s.bayReady b r

/-- The measurement of bay `b` begins with tick `n`. -/
def State.measFrom (s : State) (b n : Nat) : State :=
  s.modEval fun v => { v with bay := tmod {} v.bay b fun x => { x with meas := max x.meas n } }

/-- BAY_PSTREAM of a bay: EN = 1 is ignored while PHASOR_STREAM is not negotiated; a bay that was not measured before reports the ticks
completed from then on (R273). -/
def State.pstreamWrite (s : State) (b w : Nat) : State :=
  let w := if s.hasFeat 10 then w else andNot w 1
  let s := if s.measures s.bank b then s else s.measFrom b (((s.lastDone b).map fun r => r.n + 1).getD 0)
  forL [BAY_PSTREAM.EN, BAY_PSTREAM.DIV, BAY_PSTREAM.BERTH] (fun f s => s.wr f (f.get w) b) s

/-- A status bit of bay `b` at its latest completed tick; 0 before one (R271). -/
def State.bayShows (s : State) (b : Nat) (f : Nat → Bool) : Nat := match s.lastDone b with | some r => b2n (f r.n) | none => 0

/-- A read of BAY_TICK_LO latches the bay's measurement registers at its latest completed tick (R272). -/
def State.bayLatch (s : State) (b : Nat) : State :=
  match s.lastDone b with
  | none => s
  | some r =>
    let n := r.n
    let k := s.bankAt n
    let ix := List.range 16
    let ph := ix.map fun i => s.slotPh b i n
    let used := fun i => k.fld BAY_SLOT.ROLE b i != 0
    let sq := (List.range 6).map fun q => if q < 3 then s.seqComp b false q n else s.seqComp b true (q - 3) n
    let pw := s.power b n
    let hs := s.rd BAY_HARM_SEL.SLOT b
    let hp := (List.range 14).map fun i => s.slotPh b hs n (i + 2)
    let s := (s.wr BAY_FREQ.VALUE ((s.bayFreq b n).getD r.freq) b).wr BAY_SYNCFREQ.VALUE ((s.syncFreq b n).getD r.freq) b
    let s := (s.wr BAY_TICK_LO.VALUE n b).wr BAY_TICK_HI.VALUE (n / 2 ^ 32) b
    let s := forL ph.zipIdx (fun x s =>
      let i := x.2
      let s := (s.wrI BAY_M_RE.VALUE x.1.re b i).wrI BAY_M_IM.VALUE x.1.im b i
      (s.wr BAY_M_RMS.VALUE (if used i then s.slotRms b i n else 0) b i).wr BAY_M_PSW.PSW x.1.psw b i) s
    let s := forL sq.zipIdx (fun x s =>
      ((s.wrI BAY_SEQ_RE.VALUE x.1.re b x.2).wrI BAY_SEQ_IM.VALUE x.1.im b x.2).wr BAY_SEQ_PSW.PSW x.1.psw b x.2) s
    let s := forL pw.1.zipIdx (fun x s => s.wr BAY_PQ.VALUE x.1.enc32 b x.2) s
    let s := s.wr BAY_PQ_STATUS.VALID pw.2 b
    let s := forL hp.zipIdx (fun x s => (s.wrI BAY_H_RE.VALUE x.1.re b x.2).wrI BAY_H_IM.VALUE x.1.im b x.2) s
    s.wr BAY_H_PSW.PSW ((hp.head?.map (·.psw)).getD 0) b

end Sys2Proof.Machine
end

