-- ==== Sys2Proof/Machine/RecMeas.lean ====
section
/-! DEFINITION. The measurements of a record, its summary and the measurements of its channels (R452 to R455). -/
namespace Sys2Proof.Machine
open Reg

/-! ### Samples of a record -/

/-- The sample of a record at index `j`, if the record holds it. -/
def Record.at' (r : Record) (j : Nat) : Option RecSmp := r.smp.find? fun x => x.j == j

/-- The value of signal `a` at sample `j`, if the record holds that sample, it is no gap and its VALID is 1 (R453). -/
def Record.val (r : Record) (a j : Nat) : Option Int :=
  match r.at' j with
  | some x => if x.gap then none else ((x.an[a]?).filter fun v => hasBit v.2 bVALID).map (·.1)
  | none => none

/-- The values of signal `a` over `n` samples from `j` on; `none` when the window holds a gap or a sample with VALID = 0 (R453). -/
def Record.win (r : Record) (a j n : Nat) : Option (List Int) :=
  let l := (List.range n).map fun i => r.val a (j + i)
  if l.all (·.isSome) then some (l.filterMap fun x => x) else none

/-- The instant of sample `j`, 2^-24 units. -/
def Record.inst' (r : Record) (j : Nat) : Nat := ((r.at' j).map (·.t)).getD 0

/-- The analog signals with FD = 1. -/
def RecCfg.fds (c : RecCfg) : List Nat := (List.range c.na).filter fun a => ((c.an[a]?).map (·.1)).getD false

/-- The scale of signal `a`. -/
def RecCfg.scale (c : RecCfg) (a : Nat) : Rat := (((c.an[a]?).bind fun x => dec32 x.2.2)).getD 0

/-! ### Inception, clearance, angle (R452) -/

/-- Signal `a` changed by at least DTH over one cycle at sample `j`. -/
def Record.jumped (r : Record) (j a : Nat) : Bool :=
  if j < r.cfg.n then false else
  match r.val a j, r.val a (j - r.cfg.n) with
  | some x, some y => decide (r.cfg.dth ≤ (x - y).natAbs)
  | _, _ => false

/-- The inception sample, if there is one. -/
def Record.inception (r : Record) : Option Nat :=
  let lo := r.j0 - r.cfg.n
  ((List.range (r.j0 + r.cfg.n + 1 - lo)).map fun i => lo + i).find? fun j => r.cfg.fds.any (r.jumped j)

/-- Every FD signal lies below CTH over the half cycle that ends at sample `j`. -/
def Record.cleared (r : Record) (j : Nat) : Bool :=
  let h := r.cfg.n / 2
  r.cfg.fds.all fun a => ((List.range h).map fun i => r.val a (j - i)).all fun v =>
    match v with | some x => decide (x.natAbs < r.cfg.cth) | none => false

/-- The clearance sample after `ji`, if there is one. -/
def Record.clearance (r : Record) (ji : Nat) : Option Nat :=
  ((List.range (r.last - ji)).map fun i => ji + 1 + i).find? r.cleared

/-- The latest positive-going zero crossing of signal `a` at or before sample `j`, interpolated between samples, within `fuel`
samples. -/
def Record.crossing (r : Record) (a : Nat) : Nat → Nat → Option Rat
  | _, 0 => none
  | j, k + 1 =>
    if j = 0 then none else
    match r.val a (j - 1), r.val a j with
    | some x, some y => if x < 0 ∧ 0 ≤ y then some (((j - 1 : Nat) : Rat) + (-x : Rat) / ((y - x : Int) : Rat)) else r.crossing a (j - 1) k
    | _, _ => none

/-- The inception angle in 0.01 degree, if it can be computed. -/
def Record.angle (r : Record) (ji : Nat) : Option Nat :=
  match r.cfg.ang with
  | none => none
  | some a =>
    if ji < r.cfg.n then none else
    let j := ji - r.cfg.n
    (r.crossing a j (j + 1 - r.first)).map fun z =>
      let x := ((j : Rat) - z) / (r.cfg.n : Rat)
      (openRat 112 ((x - (x.floor : Rat)) * 36000) % 36000).toNat

/-! ### Values of the channels (R452, R453, R455) -/

/-- The binary32 quiet NaN of R453. -/
def nan32 : Nat := 0x7FC00000

/-- The sum of squares of a window. -/
def sumSq (l : List Int) : Nat := l.foldl (fun a x => a + x.natAbs * x.natAbs) 0

/-- A true RMS in primary units, binary32. -/
def rms32 (scale : Rat) (l : List Int) : Nat := enc32 (fmul (sqrt64 (fdiv (r64 (sumSq l)) (l.length : Rat))) scale)

/-- The pre-fault RMS of signal `a`. -/
def Record.preRms (r : Record) (a ji : Nat) : Nat :=
  match (if ji < r.cfg.n then none else r.win a (ji - r.cfg.n) r.cfg.n) with
  | some l => rms32 (r.cfg.scale a) l
  | none => nan32

/-- The fault RMS of signal `a`: the window with the largest sum of squares. -/
def Record.faultRms (r : Record) (a ji jc : Nat) : Nat :=
  let n := r.cfg.n
  if jc + 1 < ji + n then nan32 else
  let ws := (List.range (jc + 2 - ji - n)).map fun i => r.win a (ji + i) n
  if ws.any (·.isNone) then nan32 else
  rms32 (r.cfg.scale a) ((ws.filterMap fun x => x).foldl (fun m l => if sumSq m < sumSq l then l else m) [])

/-- The peak of signal `a` and its sample. -/
def Record.peak (r : Record) (a ji jc : Nat) : Nat × Nat :=
  match r.win a ji (jc + 1 - ji) with
  | some l =>
    let p := l.zipIdx.foldl (fun (m : Int × Nat) x => if m.1.natAbs < x.1.natAbs then x else m) ((l.head?).getD 0, 0)
    (enc32 (fmul (p.1 : Rat) (r.cfg.scale a)), ji + p.2 - r.first)
  | none => (nan32, Config.unstated 3 a % 2 ^ 32)

/-- I2t of signal `a`. -/
def Record.i2t (r : Record) (a ji jc : Nat) : Nat :=
  if !((r.cfg.an[a]?).map (·.2.1)).getD false then Config.unstated 2 a % 2 ^ 32 else
  match r.win a ji (jc - ji) with
  | some l =>
    enc32 (l.zipIdx.foldl (fun acc x =>
      let q := fmul (x.1 : Rat) (r.cfg.scale a)
      let j := ji + x.2
      let dt := fmul (r64 (((r.inst' (j + 1) - r.inst' j : Nat) : Rat) / ((2 ^ 24 : Nat) : Rat))) secUnit
      fadd acc (fmul (fmul q q) dt)) 0)
  | none => nan32

/-- A record flag by its bit in the summary (R454). -/
def Record.set (r : Record) (bit : Nat) (b : Bool := true) : Record := { r with flags := if b then r.flags ||| 2 ^ bit else andNot r.flags (2 ^ bit) }

/-- The measurements of a record at its close (R452, R453). An angle that cannot be computed reads 0 and is flagged NO_INCEPT, as a duration is
OPEN_FAULT: R453 names no flag (DESIGN CHOICE, log entry 121). -/
def Record.measure (r : Record) : Record :=
  let i := r.inception
  let ji := i.getD r.j0
  let c := r.clearance ji
  let jc := c.getD r.last
  let ch := (List.range r.cfg.na).map fun a =>
    let p := r.peak a ji jc
    [r.preRms a ji, r.faultRms a ji jc, p.1, p.2, r.i2t a ji jc]
  let dur := (openRat 111 ((((r.inst' jc : Int) - r.inst' ji : Int) : Rat) / ((250 * 2 ^ 24 : Nat) : Rat))).toNat
  let noAngle := r.cfg.ang.isSome && (r.angle ji).isNone
  ((({ r with meas := { jinc := ji, dur := dur, angle := (r.angle ji).getD 0, ch := ch } }).set 15 (i.isNone || noAngle)).set 14 c.isNone)

/-! ### Gaps, summary (R447, R454) -/

/-- The gaps among samples, oldest first: first sample, length, tick. -/
def gapsOf (l : List RecSmp) : List (Nat × Nat × Nat) :=
  (l.foldl (fun (acc : List (Nat × Nat × Nat)) x =>
    if !x.gap then acc else
    match acc with
    | (f, n, t) :: r => if f + n = x.j then (f, n + 1, t) :: r else (x.j, 1, x.n) :: acc
    | [] => [(x.j, 1, x.n)]) []).reverse

/-- The first and last replayed tick among samples, of the ticks from `a` to `b` that were replayed (R466). -/
def replayOf (rp : Option (Nat × Nat)) (smp : List RecSmp) : Option (Nat × Nat) :=
  match rp with
  | none => none
  | some (a, b) =>
    match (smp.map (·.n)).filter fun n => decide (a ≤ n) && decide (n ≤ b) with
    | [] => none
    | n :: l => some (l.foldl min n, l.foldl max n)

/-- A record closes with sample `last` (R441 to R454, R463, R466): its samples, gaps, flags and measurements. `rp` are the replayed ticks, `ft`
the first tick that the unit evaluated after a takeover. -/
def Record.finish (r : Record) (last : Nat) (rp : Option (Nat × Nat)) (ft : Option Nat) : Record :=
  let smp := r.smp.filter fun x => decide (r.first ≤ x.j) && decide (x.j ≤ last)
  let r := { r with
    last := last, smp := smp, gaps := gapsOf smp.reverse, closed := true, replay := replayOf rp smp,
    binFrom := ft.bind fun f => ((smp.filter fun (y : RecSmp) => decide (f ≤ y.n)).getLast?).map fun (z : RecSmp) => z.j }
  let early := ft.any fun f => smp.any fun y => decide (y.n < f)
  let step := smp.head?.any fun y => smp.any fun x => x.ofs != y.ofs
  ((((r.set 2 (!r.gaps.isEmpty)).set 10 r.replay.isSome).set 11 early).set 13 step).measure

/-- The 96 bytes of a record summary (R454). -/
def Record.summary (r : Record) : List Byte :=
  let noInc := r.flags.testBit 15
  let b := leBytes 4 r.id ++ leBytes 2 r.flags ++ leBytes 2 r.cfg.nb ++ leBytes 2 r.cfg.n ++ leBytes 1 r.cfg.na
    ++ leBytes 1 (r.inst + 16 * r.stop) ++ leBytes 4 r.src ++ leBytes 8 (r.t / 2 ^ 24) ++ leBytes 8 (toBits 64 r.tai)
    ++ leBytes 8 (r.inst' r.first / 2 ^ 24) ++ leBytes 8 r.tick ++ leBytes 4 r.preA ++ leBytes 4 (r.last + 1 - r.j0)
    ++ leBytes 4 r.skew ++ leBytes 4 r.gaps.length ++ leBytes 2 r.delayTicks ++ leBytes 1 r.tq ++ leBytes 1 0
    ++ leBytes 4 r.retrig ++ leBytes 4 r.pred ++ leBytes 4 r.freq
    ++ leBytes 4 (if noInc then 2 ^ 32 - 1 else r.meas.jinc - r.first) ++ leBytes 4 r.meas.dur ++ leBytes 2 r.meas.angle ++ leBytes 2 0
  b ++ leBytes 4 (crc32c b)

end Sys2Proof.Machine
end

