-- ==== Sys2Proof/Machine/Resample.lean ====
section
/-! DEFINITION. The resamplers at any instant: the protection grid and the record grid (R21, R34 to R46). -/
namespace Sys2Proof.Machine
open Reg

/-- The 16 taps of a target among the base-rate samples, newest first: the samples at s_i and s_(i+1), and the taps from i - 7 to
i + 8 in rising order. A sample before the grid's first has value 0 and SETTLING. `none` while sample i + 8 is to come (R41). -/
def resTaps (base : List BaseSmp) (t : Nat) : Option (BaseSmp × BaseSmp × List BaseSmp) :=
  let after := base.takeWhile fun b => decide (t < b.s)
  let before := base.drop after.length
  if after.length < 8 then none else
  match (after.drop (after.length - 1)).head? with
  | none => none
  | some b1 =>
    let pad : BaseSmp := { s := b1.s - 1, v := 0, flags := bSETTLING }
    let b0 := before.headD pad
    let lo := (before ++ List.replicate 8 pad).take 8
    some (b0, b1, lo.reverse ++ (after.drop (after.length - 8)).reverse)

/-- The fraction μ of a target between two strobes, in 16 bits, to nearest (R41). A μ that rounds to 65,536 is taken as it is, which is
phase 256 with the weight 0: R41 names no other (DESIGN CHOICE, log entry 102). -/
def resMu (s0 s1 t : Nat) : Nat := (2 * (t - s0) * 65536 + (s1 - s0)) / (2 * (s1 - s0))

/-- A row of the resampler with unity DC gain (R42) when the ROM's does not show it: a straight line between two samples. -/
def plainRow (q : Nat) : List Int :=
  List.replicate 6 0 ++ [1, 2 ^ 23 - 1 - (q : Int) * 2 ^ 15, (q : Int) * 2 ^ 15] ++ List.replicate 7 0

/-- Row `q` of the resampler table: the ROM's, of which R42 states unity DC gain, and that row 256 is row 0 moved on by one sample
(log entry 16). -/
def resRow (q : Nat) : List Int :=
  let row := fun (p : Nat) =>
    let l := (List.range 16).map fun j => Config.resampler p j
    if l.all (fun x => decide (-(2 : Int) ^ 23 ≤ x) && decide (x < 2 ^ 23)) && l.foldl (· + ·) 0 == 2 ^ 23 && (p != 0 || l.getLastD 0 == 0)
    then l else plainRow p
  if q = 256 then 0 :: (row 0).take 15 else row q

/-- The output of the local resampler (R41). -/
def resOut (mu : Nat) (xs : List Int) : Int :=
  let p := mu / 256
  let w : Int := (mu % 256 : Nat)
  let sum := fun q => (((resRow q).zip xs).foldl (fun a x => a + x.1 * x.2) 0 : Int)
  let y := asr (sum p * (256 - w) + (if w = 0 then 0 else sum (p + 1) * w)) 8
  satI 32 (asr (y + 2 ^ 22) 23)

/-- The correction of channel `g` at a tick in 2^-24 units (R38). -/
def TickRec.shift (r : TickRec) (g : Nat) : Int := tauUnits (tget 0 r.corr g) * 2 ^ 16

/-- The sample of local channel `c` at an instant (2^-24 units) that tick `r` is in force at: `none` while its taps are to come
(R41, R49, R62). -/
def State.localSample (s : State) (r : TickRec) (c inst : Nat) : Option Smp :=
  if s.rd AFE_CH_CFG.MODE c = 0 then some {} else
  let t := (((inst : Int) + r.shift c) * 2 ^ 8).toNat
  match resTaps (s.chan c).base t with
  | none => none
  | some (a, b, xs) =>
    let f := xs.foldl (fun f x => f ||| x.flags) 0
    some { s.mkSample r c (resOut (resMu a.s b.s t) (xs.map (·.v))) (f % 65536) false with fade := hasBit f bFADE }

/-- The sample of process-bus channel `g` at a record instant: as a tick's sample, from its four taps; LATE and SUBSTITUTED when one
is declared missing or the window has expired; `none` while they are to come (R44 to R46). -/
def State.svRecord (s : State) (r : TickRec) (g inst : Nat) : Option Smp :=
  if !s.mapped g then some {} else
  let k := s.mapSub g
  let t : Int := (inst : Int) + r.shift g
  let x := s.svTaps k t
  if x.2.2 then some (s.mkSample r g 0 (s.lateFlags g) false)
  else if x.2.1.length ≠ 4 then
    if s.svExpiryAt g r t ≤ s.grid.now then some (s.mkSample r g 0 (s.lateFlags g) false) else none
  else
    let m := s.rd PBUS_MAP.MEMBER (g - 64)
    let f := x.2.1.foldl (fun a y => a ||| (y.mem.getD m (0, 0)).2) 0
    let f := orIf f (s.rd PBUS_SV_STATUS.ALIGN_FAULT k == 1) bQUEST
    match x.2.1, x.2.1.map fun y => (y.mem.getD m (0, 0)).1 with
    | [_, a, b, _], [xm, x0, x1, x2] =>
      let d := (b.u - a.u) * 2 ^ 16
      let y := lagrange (t - a.u * 2 ^ 16).toNat d.toNat xm x0 x1 x2
      some (s.mkSample r g y (f % 65536) (hasBit f bSRCINV))
    | _, _ => none

end Sys2Proof.Machine
end

