-- ==== Sys2Proof/Machine/Rec.lean ====
section
/-! DEFINITION. The disturbance recorders: capture, triggers, records, drain and store (R427 to R451, R461, R464). -/
namespace Sys2Proof.Machine
open Reg

/-- Recorder instance `i`. -/
def State.recInst (s : State) (i : Nat) : RecInst := tget {} s.rec'.inst i
/-- The state with a recorder instance passed through a function. -/
def State.modInst (s : State) (i : Nat) (f : RecInst → RecInst) : State :=
  s.modRec fun r => { r with inst := tmod {} r.inst i f }

/-! ### Lengths (R430, R432, R434) -/

/-- N of an instance: N_P or N_R (R430). -/
def State.recN (s : State) (i : Nat) : Nat := if s.rd REC_CFG.RATE i = 1 then s.nr else s.np

/-- ⌈ms × f_nom × N / 1000⌉ (R434). -/
def recLen (ms fnom n : Nat) : Nat := (ms * fnom * n + 999999999) / 1000000000

/-- What an instance's settings say of a record (R434, R452). -/
def State.recCfg (s : State) (i : Nat) : RecCfg :=
  let n := s.recN i
  let na := s.rd REC_CFG.NA i
  { na := na, nb := s.rd REC_CFG.NB i, n := n,
    an := (List.range na).map fun a => (s.rd REC_AN_CFG.FD i a == 1, s.rd REC_AN_CFG.CUR i a == 1, s.rd REC_AN_SCALE.VALUE i a),
    dth := s.rd REC_MEAS_DTH.VALUE i, cth := s.rd REC_MEAS_CTH.VALUE i,
    ang := if s.rd REC_MEAS_CFG.ANGEN i = 1 then some (s.rd REC_MEAS_CFG.ANGREF i) else none,
    preS := recLen (s.rd REC_PRE.VALUE i) s.fnom n, postS := recLen (s.rd REC_POST.VALUE i) s.fnom n, fnom := s.fnom }

/-- Bytes of a block (R432). -/
def RecCfg.blkBytes (c : RecCfg) : Nat := 1024 * c.na + 4096
/-- Blocks of an instance's allocation (R432). -/
def State.recBlocks (s : State) (i : Nat) : Nat := s.rd REC_ALLOC.VALUE i * 2 ^ 20 / (s.recCfg i).blkBytes
/-- Blocks a record needs (R435). -/
def RecCfg.need (c : RecCfg) : Nat := (c.preS + c.postS + 255) / 256 + 2
/-- Blocks that the history keeps (R437). -/
def RecCfg.keep (c : RecCfg) : Nat := (c.preS + 255) / 256 + 1
/-- Change entries that a block has place for (R433). -/
def RecCfg.changes (c : RecCfg) : Nat := (4096 - Config.blockHeader - 2 * c.na - (c.nb + 7) / 8) / 4

/-! ### The store (R449, R627) -/

/-- The store's bytes for records. -/
def State.storeBytes (s : State) : Nat := (15104 - s.nv.bist.nandLost) * 262144
/-- Every record that has a place in the store or will have one. -/
def State.allRecs (s : State) : List Record :=
  (s.rec'.inst.filterMap fun x => x.2.cur) ++ s.rec'.closing ++ s.nv.rec'.recs
/-- The bytes left for records. -/
def State.storeFree (s : State) : Nat := s.storeBytes - (s.allRecs.foldl (fun a r => a + r.size) 0)
/-- The store has no room for a record of `n` bytes (R449). -/
def State.storeFull (s : State) (n : Nat) : Bool := decide (4096 ≤ s.allRecs.length) || decide (s.storeFree < n)

/-- The registers of the store. -/
def State.storeRegs (s : State) : State :=
  let s := (s.wr REC_STORE_FREE.VALUE (s.storeFree / 2 ^ 20)).wr REC_STORE_RECS.VALUE s.nv.rec'.recs.length
  let s := s.wr REC_STATUS.STORE_FULL (b2n (s.storeFull 262144))
  s.wr REC_NEXT_ID.VALUE (s.nv.rec'.seq % 2 ^ 31 + 2 ^ 31 * s.rd PAIR_CFG.RANK)

/-- Delete the oldest unprotected committed record, if there is one (R449). -/
def State.deleteOldest (s : State) : Option State :=
  match s.nv.rec'.recs.reverse.find? fun r => !r.flags.testBit 12 with
  | none => none
  | some r => some ((s.modRecNv fun n => { n with recs := n.recs.filter fun x => x.id != r.id }).logEv 0x7003)

/-- Make room for a record of `n` bytes by deleting old records, at most `fuel`; says whether there is room. -/
def State.recRoom (s : State) (n : Nat) : Nat → State × Bool
  | 0 => (s, !s.storeFull n)
  | k + 1 =>
    if !s.storeFull n then (s, true) else
    match s.deleteOldest with
    | some u => u.recRoom n k
    | none => (s, false)

/-- A block holds samples of a record of the list. -/
def RecBlk.used (b : RecBlk) (l : List Record) : Bool :=
  l.any fun r => decide (b.first ≤ r.last) && decide (r.first < b.first + b.cnt)

/-- The records of an instance whose blocks must drain: the running one and the closed ones. -/
def State.recsOf (s : State) (i : Nat) : List Record := (s.recInst i).cur.toList ++ s.rec'.closing.filter fun r => r.inst == i

/-- The next block of instance `i` to drain: the oldest complete one that a record holds (R448). -/
def State.drainable (s : State) (i : Nat) : Option RecBlk :=
  let l := s.recsOf i
  (s.recInst i).blk.reverse.find? fun b => b.closed && !b.drained && b.used l

/-- The instances are served one block at a time, in rotation (R448): with no block draining, the next instance that has one begins. -/
def State.drainNext (s : State) : State :=
  if s.rec'.draining.isSome then s else
  let l := (List.range 4).map fun k => (s.rec'.served + 1 + k) % 4
  s.modRec fun v => { v with draining := l.find? fun i => (s.drainable i).isSome }

/-- The registers of an instance. -/
def State.recRegs (s : State) (i : Nat) : State :=
  let s := s.drainNext
  let x := s.recInst i
  let s := ((s.wr REC_STATE.STATE x.st i).wr REC_CUR_ID.VALUE ((x.cur.map (·.id)).getD 0) i).wr REC_HIST.VALUE (min x.hist.length (2 ^ 32 - 1)) i
  let s := s.wr REC_STATE.LATCHED (b2n (x.st == 4 && !x.trig.isEmpty)) i
  let s := s.wr REC_FREE_BLK.VALUE (s.recBlocks i - x.blk.length) i
  s.wr REC_STATUS.DRAIN_BEHIND (b2n ((List.range 4).any fun k =>
    decide (s.recBlocks k < 2 * ((s.recInst k).blk.filter fun b => !b.drained && b.closed && b.used (s.recsOf k)).length)))

/-! ### What a selector shows (R429) -/

/-- The value of a selector at a tick that every bay has completed (R353, R429). -/
def State.binAt (s : State) (r : TickRec) (sel : Nat) : Bool :=
  let i := sel % 2 ^ 28
  let n := r.n
  match sel / 2 ^ 28 with
  | 0 => i.testBit 0
  | 1 => (Trace.at' (((tfind s.eval.elm (i / 2 ^ 16 % 2048)).map (·.out)).getD []) n).testBit (i % 32)
  | 2 => Trace.at' (tget {} s.eval.knot (i % 2 ^ 14)).out n == 1
  | 3 =>
    let g := i % 4096
    (tget 0 (if i.testBit 12 then r.inp.ginOk else r.inp.gin) (g / 32)).testBit (g % 32)
  | 4 =>
    let d := i % 32
    if i.testBit 5 then r.inp.dinOk.testBit d
    else if s.dir d = 2 then padBit r.inp.rb d
    else r.inp.din.testBit d
  | 5 => r.inp.fast.testBit (i % 64)
  | 6 => Trace.at' (s.tdSt (i % 128)).out n == 1
  | 7 => (s.bankAt n).fld KNOT_TM_CFG.EN (i % 32) == 1 && Trace.at' (s.row (i % 32)).out n == 1
  | 8 =>
    if i < 8 then r.inp.sys.testBit i
    else if i = 10 then n % s.np == 0
    else (Config.unstated 1 (16 * n + i)).testBit 0
  | _ => false

/-- Every bay, threshold detector and fast detector has completed tick `n` (R437). -/
def State.tickDone (s : State) (n : Nat) : Bool :=
  (s.eval.bay.all fun b => !b.2.run || decide (n < b.2.next))
    && (s.tds.all fun t => decide (n < (s.tdSt t).next))
    && (s.fps.all fun f => decide (n < (s.fp f).tick))

/-- The tick record of an index. -/
def State.tickRec (s : State) (n : Nat) : Option TickRec := s.grid.hist.find? fun r => r.n == n

/-! ### Record samples (R21, R428, R430) -/

/-- The record samples of an instance are the grid's own. -/
def State.recOnGrid (s : State) (i : Nat) : Bool := s.rd REC_CFG.RATE i == 0 || s.nr == s.np

/-- The instant of record sample `j` of an instance and the latest tick at or before it; `none` while it is not known: while a decision of
the tracker is due that can still move it. -/
def State.recInstant (s : State) (i j : Nat) : Option (Nat × TickRec) :=
  if s.recOnGrid i then (s.tickRec j).map fun r => (r.t, r) else
  let c := j / s.nr
  let m := j % s.nr
  match s.tickRec (c * s.np) with
  | none => none
  | some r0 =>
    if m ≠ 0 ∧ !s.formable (r0.n + 1) then none else
    (s.tickRec (c * s.np + m * s.np / s.nr)).map fun r => (r0.t + (openDiv 110 (m * s.np * r0.per : Nat) s.nr).toNat, r)

/-- The sample of channel `g` at a record instant, on the settings of its tick (R46, R428, R558); `none` while it is to come. -/
def State.recAnalog (s : State) (i g inst : Nat) (r : TickRec) : Option (Int × Nat) :=
  let s := s.asAt r.n
  if !s.mapped g then some (0, 0) else
  if s.recOnGrid i then (if r.wait.contains g then none else some ((r.at' g).v, (r.at' g).ssw))
  else ((if g < 64 then s.localSample r g inst else s.svRecord r g inst)).map fun x => (x.v, x.ssw)

/-- The analog values of record sample `j` that can be formed, those formed before kept. -/
def State.recForm (s : State) (i j : Nat) (t : Nat) (r : TickRec) : List (Option (Int × Nat)) :=
  let old := tget [] (s.recInst i).ahead j
  (List.range (s.rd REC_CFG.NA i)).map fun a => match old.getD a none with
    | some v => some v
    | none => s.recAnalog i (s.rd REC_AN_CFG.CH i a) t r

/-- An instance off the protection grid forms the values of its samples as their taps come: the base-rate history is short (R43, R46). -/
def State.recAhead (s : State) (i j : Nat) : Nat → State
  | 0 => s
  | n + 1 =>
    match s.recInstant i j with
    | none => s
    | some (t, r) =>
      let l := s.recForm i j t r
      (s.modInst i fun k => { k with ahead := tset k.ahead j l }).recAhead i (j + 1) n

/-- The tick on whose settings an instance captures: the one before a swap tick that it has not come to. -/
def RecInst.onTick (x : RecInst) (n : Nat) : Nat := match x.chg with | some m => m - 1 | none => n

/-- Every armed instance off the protection grid forms what it can. -/
def State.recAheadAll (s : State) : State :=
  forN 4 (fun i s => s.onTick ((s.recInst i).onTick s.grid.nextN) fun s =>
    if (s.recInst i).st < 2 ∨ s.recOnGrid i then s else s.recAhead i (s.recInst i).next 8192) s

/-- A record sample's status word as its tick has it: with FREQ_HOLD by the decision of the tick's cycle (R31, R430). -/
def State.recHold (s : State) (r : TickRec) (g : Nat) (x : Int × Nat) : Int × Nat :=
  if (s.asAt r.n).mapped g then (x.1, holdBit r.hold x.2) else x

/-- Record sample `j` of an instance, if it is available (R437), which it is not before its cycle is decided (R31). -/
def State.recSample (s : State) (i j : Nat) : Option RecSmp :=
  match s.recInstant i j with
  | none => none
  | some (t, r) =>
    if !s.tickDone r.n || !s.decided r.n then none else
    let an := (s.recForm i j t r).zipIdx.map fun x => x.1.map (s.recHold r (s.rd REC_AN_CFG.CH i x.2))
    if an.any (·.isNone) then none else
    let bin := (List.range (s.rd REC_CFG.NB i)).map fun b => (b, s.binAt r (s.rd REC_BIN_SEL.VALUE i b))
    some { j := j, t := t, n := r.n, an := an.filterMap fun x => x, bin := bitsOf bin, utc := r.utc, ofs := r.ofs }

/-- The first record sample at or after the present time, from which an instance captures (R437). -/
def State.recFirst (s : State) (i : Nat) : Nat :=
  match s.newest with
  | none => 0
  | some r =>
    if s.recOnGrid i then s.grid.nextN else
    let c := r.n / s.np
    let t0 := r.t - r.n % s.np * r.per
    let m := (List.range s.nr).find? fun m => decide (s.grid.now * 2 ^ 24 ≤ t0 + m * s.np * r.per / s.nr)
    c * s.nr + m.getD s.nr

/-! ### Blocks (R432, R433, R437, R447, R448) -/

/-- The change entries of a sample, `o` samples into its block, against the one before it: SSWs and binary values (R433). -/
def recChanges (nb o : Nat) (old new : RecSmp) : List Nat :=
  ((old.an.zip new.an).zipIdx.filterMap fun x => if x.1.1.2 = x.1.2.2 then none else some (o + 2 ^ 8 * x.2 + 2 ^ 16 * x.1.2.2))
    ++ ((List.range nb).filterMap fun b =>
      if old.bin.testBit b = new.bin.testBit b then none else some (o + 2 ^ 8 * b + 2 ^ 16 * b2n (new.bin.testBit b) + 2 ^ 31))

/-- Bytes brought to a length with zeros, or cut. -/
def padTo (n : Nat) (l : List Byte) : List Byte := (l ++ List.replicate (n - l.length) 0).take n

/-- The bytes of a block from the samples it holds, oldest first (R433): analog values, then the control area. The order of the values, and that
of the parts of the control area after the header, is that of R433's words (DESIGN CHOICE, log entry 122). -/
def RecBlk.image (b : RecBlk) (c : RecCfg) (smp : List RecSmp) : List Byte :=
  padTo (1024 * c.na) (smp.flatMap fun x => x.an.flatMap fun v => leBytes 4 (toBits 32 v.1))
    ++ padTo 4096 (padTo Config.blockHeader (Config.blockHead b.cnt) ++ b.ssw.flatMap (leBytes 2 ·) ++ leBytes ((c.nb + 7) / 8) b.bin
      ++ b.chgs.flatMap (leBytes 4 ·))

/-- Free the blocks that neither the history's newest `keep` blocks nor an undrained record holds, and trim the history. -/
def State.recTrim (s : State) (i keep : Nat) : State :=
  let l := s.recsOf i
  s.modInst i fun x =>
    let blk := (x.blk.zipIdx.filter fun b => decide (b.2 < keep) || (!b.1.drained && b.1.used l)).map (·.1)
    let lo := (((x.blk.take keep).getLast?).map (·.first)).getD x.next
    { x with blk := blk, hist := x.hist.takeWhile fun h => decide (lo ≤ h.j) }

/-- A gap ends: it is logged (R447). -/
def State.gapEnd (s : State) (i : Nat) : State :=
  match (s.recInst i).gap with
  | some n => (s.modInst i fun x => { x with gap := none, skip := 0 }).logEv 0x7002 i n
  | none => s

/-- Add a sample to the history and to the running record. -/
def State.recAdd (s : State) (i : Nat) (x : RecSmp) : State :=
  s.modInst i fun k =>
    { k with hist := x :: k.hist, next := x.j + 1, ahead := k.ahead.filter (fun e => decide (x.j < e.1)), cur := k.cur.map fun r => { r with smp := x :: r.smp } }

/-- The next 256 samples are skipped for want of a block (R447). -/
def State.recSkip (s : State) (i : Nat) (x : RecSmp) : State :=
  let s := (s.modInst i fun k => { k with skip := 255, gap := some (k.gap.getD 0 + 1) }).bump REC_GAP_CNT.VALUE i
  s.recAdd i { x with an := [], bin := 0, gap := true }

/-- Store a sample: into the open block, into a new one, or into a gap (R433, R437, R447). -/
def State.recStore (s : State) (i : Nat) (x : RecSmp) : State :=
  let c := s.recCfg i
  let k := s.recInst i
  if 0 < k.skip then
    (s.modInst i fun k => { k with skip := k.skip - 1, gap := k.gap.map (· + 1) }).recAdd i { x with an := [], bin := 0, gap := true }
  else
    let ch := fun (b : RecBlk) => match k.hist with | h :: _ => recChanges c.nb b.cnt h x | [] => []
    let fits := match k.blk with
      | b :: _ => !b.closed && decide (b.cnt < 256) && decide (b.first + b.cnt = x.j) && decide (b.chgs.length + (ch b).length ≤ c.changes)
      | [] => false
    if fits then
      (s.modInst i fun k => { k with blk := match k.blk with
        | b :: r => { b with cnt := b.cnt + 1, chgs := b.chgs ++ ch b, closed := decide (b.cnt + 1 = 256) } :: r
        | [] => [] }).recAdd i x
    else
      let s := s.modInst i fun k => { k with blk := match k.blk with | b :: r => { b with closed := true } :: r | [] => [] }
      let s := s.recTrim i (c.keep - 1)
      if (s.recInst i).blk.length < s.recBlocks i then
        ((s.gapEnd i).modInst i fun k => { k with blk := { first := x.j, cnt := 1, ssw := x.an.map (·.2), bin := x.bin } :: k.blk }).recAdd i x
      else s.recSkip i x

/-- The history restarts empty (R438). Blocks of closed records stay until they have drained. -/
def State.recClear (s : State) (i : Nat) : State :=
  let s := (s.gapEnd i).modInst i fun k => { k with hist := [], blk := k.blk.map fun b => { b with closed := true }, trig := [], rearm := none, chg := none }
  s.recTrim i 0

/-! ### Records (R441, R444 to R446, R449) -/

/-- The end of REARM after an instant, 2^-24 units (R446). -/
def rearmEndOf (t : Nat) : Nat := t + 50000 * 2 ^ 24

/-- The first tick at or after an instant. -/
def State.tickFrom (s : State) (t : Nat) : Nat :=
  match s.grid.hist.find? fun r => decide (r.t < t) with
  | some r => r.n + 1
  | none => ((s.grid.hist.getLast?).map (·.n)).getD 0

/-- A closed record all of whose blocks have drained is committed (R449). -/
def State.recCommit (s : State) (i : Nat) : State :=
  if s.writesHeld then s else
  let blk := (s.recInst i).blk
  let pend := fun (r : Record) => blk.any fun b => !b.drained && b.used [r]
  let done := s.rec'.closing.filter fun r => r.inst == i && !pend r
  if done.isEmpty then s else
  let s := s.modRec fun v => { v with closing := v.closing.filter fun r => !(r.inst == i && !pend r) }
  (s.modRecNv fun n => { n with recs := (done.map fun r => { r with done := true }).reverse ++ n.recs }).storeRegs

/-- The running record closes with its last sample; `rearm` says whether REARM follows (R445, R446, R452). One that has nothing left to drain is
committed at once. -/
def State.recClose (s : State) (i last : Nat) (rearm : Bool) : State :=
  match (s.recInst i).cur with
  | none => s
  | some r =>
    let r := r.finish last s.rec'.replayed s.rec'.firstTick
    let e := r.inst' last
    let s := s.modRec fun v => { v with closing := v.closing ++ [r] }
    ((s.modInst i fun x =>
      { x with cur := none, st := if rearm then 4 else x.st, rearm := if rearm then some (e, rearmEndOf e) else x.rearm }).recCommit i).recRegs i

/-- The running record closes STOPPED for a reason (R454). -/
def State.recStop (s : State) (i last reason : Nat) : State :=
  (s.modInst i fun x => { x with cur := x.cur.map fun r => { r.set 7 with stop := reason } }).recClose i last false

/-- The pulse on TRIG_BUS for a processed trigger (R443). -/
def State.busPulse (s : State) (i src : Nat) : State :=
  if s.rd REC_CFG.BUSOUT i = 1 ∧ s.rd REC_TB_CFG.OUT_EN = 1 ∧ andNot src (2 ^ 17) ≠ 0 then
    s.modRec fun r => { r with busOut := some (s.grid.now + s.rd REC_TB_CFG.PW * 250) }
  else s

/-- The oldest sample of the history at or after an instant: j0 (R441). -/
def RecInst.sampleAt (x : RecInst) (t : Nat) : Option RecSmp := (x.hist.takeWhile fun h => decide (t ≤ h.t)).getLast?

/-- From sample `j` on, the blocks that the store has already, as far as they follow one another (R448, R451): the first sample after them, and
their CRCs. -/
def RecInst.inStore (x : RecInst) (j : Nat) : Nat × Tab Nat :=
  x.blk.reverse.foldl (fun a b =>
    if b.drained ∧ b.first ≤ a.1 ∧ a.1 < b.first + b.cnt then (b.first + b.cnt, tset a.2 b.first b.crc) else a) (j, [])

/-- The digest of the settings in force. -/
def State.setDig (s : State) : Nat := s.rd64 SET_DIG_LO.VALUE SET_DIG_HI.VALUE

/-- The digest of the settings in force at tick `n` (R507). -/
def State.digAt (s : State) (n : Nat) : Nat :=
  match s.prev with
  | some (_, first) => if n < first then s.cust.prevDig else s.setDig
  | none => s.setDig

/-- A record begins at sample `h` (R444, R449, R450), with the labels and settings in force at its trigger (R456, R460). The sequence of IDs ends
with its 31 bits: R450 lets none be used again, so no record begins after the last (DESIGN CHOICE, log entry 123). -/
def State.recBegin (s : State) (i : Nat) (tr : RecTrig) (h : RecSmp) (pred : Option Nat) : State :=
  let c := s.recCfg i
  let room := if s.rd REC_CFG.FULL i = 0 then s.recRoom (c.need * c.blkBytes) 4096 else (s, !s.storeFull (c.need * c.blkBytes))
  if !room.2 ∨ 2 ^ 31 ≤ s.nv.rec'.seq then (room.1.bump REC_IGN_CNT.VALUE i).logEv 0x7004 else
  let s := room.1
  let x := s.recInst i
  let before := (x.hist.filter fun y => decide (y.j < h.j)).length
  let preA := min c.preS before
  let id := s.nv.rec'.seq + 2 ^ 31 * s.rd PAIR_CFG.RANK
  let rc := s.tickRec h.n
  let held := x.inStore (h.j - preA)
  let r : Record :=
    { id := id, inst := i, cfg := c, src := tr.src, t := tr.t, tai := s.taiOf (tr.t / 2 ^ 24), tq := (rc.map (·.tq)).getD s.tqByte, j0 := h.j,
      tick := h.n, skew := (h.t - tr.t) * 4 / 2 ^ 24, preA := preA, first := h.j - preA, last := h.j + c.postS - 1,
      smp := x.hist.filter fun y => decide (h.j - preA ≤ y.j), pred := pred.getD 0, freq := (rc.map (·.freq)).getD s.grid.freq,
      labels := (List.range 5536).map fun w => tget 0 (s.bankAt h.n).labels (5536 * i + w),
      dig := s.digAt h.n, delayNs := (tr.delay.map fun y => y.1 * 4 / 2 ^ 24).getD 0, delayTicks := (tr.delay.map (·.2)).getD 0,
      drainTo := held.1, crcs := held.2 }
  let r := ((r.set 0 (decide (preA < c.preS))).set 1 tr.delay.isSome).set 5 pred.isSome
  let s := s.modRecNv fun n => { n with seq := n.seq + 1 }
  let s := s.modInst i fun x => { x with cur := some r, st := 3 }
  (s.logEv 0x7001 0 id).storeRegs

/-- A trigger is processed while a record runs (R445). -/
def State.recAgain (s : State) (i : Nat) (tr : RecTrig) (h : RecSmp) (r : Record) : State :=
  let c := r.cfg
  let count := fun (r : Record) => { r with retrig := r.retrig + 1 }
  let put := fun (s : State) (r : Record) => s.modInst i fun x => { x with cur := some r }
  match s.rd REC_CFG.POLICY i with
  | 0 =>
    let cap := r.j0 + recLen 60000 c.fnom c.n - 1
    let want := h.j + c.postS - 1
    put s (((count { r with last := min want cap }).set 4 (decide (cap < want) || r.flags.testBit 4)).set 3
      (decide (want ≤ cap) || r.flags.testBit 3))
  | 1 => (put s (count r)).bump REC_IGN_CNT.VALUE i
  | _ =>
    if h.j ≤ r.j0 then (put s (count r)).bump REC_IGN_CNT.VALUE i else
    let s := (put s (r.set 6)).recClose i (h.j - 1) false
    let s := s.modInst i fun x => { x with st := 2 }
    s.recBegin i { tr with delay := none } h (some r.id)

/-- A trigger whose instant falls in REARM takes place at its end (R446). -/
def State.recDelay (s : State) (x : RecInst) (tr : RecTrig) : RecTrig :=
  match x.rearm with
  | some (a, e) =>
    if a < tr.t ∧ tr.t < e ∧ tr.delay.isNone then
      { tr with t := e, delay := some (e - tr.t, s.tickFrom e - s.tickFrom tr.t) }
    else tr
  | none => tr

/-- A unit that starts no record: it is a standby or joining (R464). -/
def State.recIdleRole (s : State) : Bool := s.role == 1 || s.role == 2

/-- A trigger that an instance processes is counted, and pulls TRIG_BUS (R443). -/
def State.recNote (s : State) (i : Nat) (tr : RecTrig) : State := (s.busPulse i tr.src).bump REC_TRIG_CNT.VALUE i

/-- Process a trigger at its sample (R442 to R445, R464). -/
def State.recTrigger (s : State) (i : Nat) (tr : RecTrig) (h : RecSmp) : State :=
  let x := s.recInst i
  if s.recIdleRole then s.bump REC_IGN_CNT.VALUE i else
  match x.st, x.cur with
  | 3, some r => (s.recNote i tr).recAgain i tr h r
  | 2, _ => (s.recNote i tr).recBegin i tr h none
  | _, _ => s

/-- One trigger of two at the same sample (R442): the sources of both, the instant of the one that came first. R442 names no instant for it
(DESIGN CHOICE, log entry 115). -/
def RecTrig.join (a b : RecTrig) : RecTrig :=
  let src := a.src ||| b.src
  if b.t < a.t ∨ (a.delay.map (·.1)).getD 0 < (b.delay.map (·.1)).getD 0 then { b with src := src } else { a with src := src }

/-- The triggers of an instance with their samples, as far as captured: triggers of one sample count as one, ascending (R442). -/
def State.recDue (s : State) (i : Nat) : List (RecTrig × RecSmp) :=
  let x := s.recInst i
  let l := x.trig.map fun t => s.recDelay x t
  let l := l.filterMap fun t => (x.sampleAt t.t).map fun h => (t, h)
  let merged := l.foldl (fun (m : Tab (RecTrig × RecSmp)) y =>
    match tfind m y.2.j with
    | some z => tset m y.2.j (z.1.join y.1, z.2)
    | none => tset m y.2.j y) []
  merged.map (·.2)

/-- Process one trigger; what a replayed tick triggers is logged as replayed, with the device time of that tick (R487). -/
def State.recOne (s : State) (i : Nat) (y : RecTrig × RecSmp) : State :=
  if s.rec'.replayed.any fun x => decide (x.1 ≤ y.2.n) && decide (y.2.n ≤ x.2) then
    let s := s.modLog fun l => { l with replayed := true, clock := some (((s.tickRec y.2.n).map fun r => r.t / 2 ^ 24).getD (y.2.t / 2 ^ 24)) }
    (s.recTrigger i y.1 y.2).modLog fun l => { l with replayed := false, clock := none }
  else s.recTrigger i y.1 y.2

/-- Process the triggers whose samples have been captured; not in REARM (R442, R446), nor in replay: recorders resume after the claim, and the
triggers of the replay wait for that (R466, R515; DEDUCED, log entry 73). -/
def State.recProcess (s : State) (i : Nat) : State :=
  let x := s.recInst i
  if (x.st ≠ 2 ∧ x.st ≠ 3) ∨ s.role = 3 then s else
  let due := s.recDue i
  let s := s.modInst i fun x => { x with trig := x.trig.filter fun t => (x.sampleAt (s.recDelay x t).t).isNone }
  forL due (fun y s => s.recOne i y) s

/-- Process what is due, and close the running record if its last sample, or a later one, is `j`, the latest captured. -/
def State.recSettle (s : State) (i j : Nat) : State :=
  let s := s.recProcess i
  match (s.recInst i).cur with
  | some r => if r.last ≤ j then s.recClose i r.last true else s
  | none => s

/-- REARM ends at its instant; a latched trigger then starts its record (R446). -/
def State.rearmEnd (s : State) (i : Nat) : State :=
  let x := s.recInst i
  match x.st, x.rearm with
  | 4, some (_, e) =>
    let s := (s.atTime (e / 2 ^ 24)).modInst i fun x => { x with st := 2 }
    (s.recProcess i).recRegs i
  | _, _ => s

/-! ### Triggers (R439, R440, R443) -/

/-- Add a trigger to an armed instance. -/
def State.recPend (s : State) (i : Nat) (t : Int) (src : Nat) : State :=
  if (s.recInst i).st < 2 then s else
  (s.modInst i fun x => { x with trig := x.trig ++ [{ t := t.toNat, src := 2 ^ src }] }).recRegs i

/-- The edges of the trigger entries at a tick (R439, R440). A rising edge of a threshold detector fires with TRG = 1 (R193;
DEDUCED, log entry 61). -/
def State.recEdges (s : State) (i : Nat) (r : TickRec) : State :=
  let prev := s.tickRec (r.n - 1)
  forN 16 (fun t s =>
    if s.rd REC_TRG_CTL.EN i t = 0 then s else
    let sel := s.rd REC_TRG_SEL.VALUE i t
    let now := s.binAt r sel
    let old := match prev with | some p => if r.n = 0 then false else s.binAt p sel | none => now
    let edge := s.rd REC_TRG_CTL.EDGE i t
    let up := now && !old && edge != 1 && (sel / 2 ^ 28 != 6 || (s.bankAt r.n).fld FLT_TD_CFG.TRG (sel % 128) == 1)
    let dn := old && !now && edge != 0
    if up || dn then s.recPend i r.t t else s) s

/-- Look at the ticks up to `n` for edges, at most `fuel`. -/
def State.recTicks (s : State) (i n : Nat) : Nat → State
  | 0 => s
  | k + 1 =>
    let m := (s.recInst i).tick
    if n < m then s else
    let s := match s.tickRec m with | some r => s.recEdges i r | none => s
    (s.modInst i fun x => { x with tick := m + 1 }).recTicks i n k

/-- An edge on TRIG_IN at device time `t` (R440). -/
def State.trigIn (s : State) (t : Nat) (rising : Bool) : State :=
  let s := s.atTime t
  if rising = (s.rd REC_EXT_CFG.POL == 1) then s else
  forN 4 (fun i s => if s.rd REC_CFG.TRIGIN i = 1 then s.recPend i ((t : Int) * 2 ^ 24 - s.rd REC_EXT_CFG.LAT * 2 ^ 22) 16 else s) s

/-- An edge on TRIG_BUS (R440, R443): a fall that passes the 1 us glitch filter, which takes neither a shorter low nor one that a shorter
high parts from the low before it. -/
def State.trigBus (s : State) (e : LineEdge) : State :=
  if e.lvl ∨ e.held < 250 then s else
  let t := e.t
  let was := s.rec'.busLow
  let s := s.modRec fun r => { r with busLow := max was (t + e.held) }
  if was ≠ 0 ∧ t < was + 250 then s else
  let s := s.atTime (t + 250)
  if s.rd REC_TB_CFG.IN_EN = 0 ∨ s.rec'.busOut.isSome then s else
  let s := s.bump REC_TB_CNT.VALUE
  forN 4 (fun i s => if s.rd REC_CFG.TRIGBUS i = 1 then s.recPend i ((t : Int) * 2 ^ 24 - s.rd REC_TB_CFG.DLY * 2 ^ 22) 17 else s) s

/-- TRIG_BUS is released when its pulse ends (R443). -/
def State.busRelease (s : State) : State :=
  match s.rec'.busOut with
  | some e => (s.atTime e).modRec fun r => { r with busOut := none }
  | none => s

/-! ### Capture (R437, R442) -/

/-- The instance captures record sample `x` (R437, R442, R444 to R447). -/
def State.recTake (s : State) (i : Nat) (x : RecSmp) : State :=
  let s := match (s.recInst i).st, (s.recInst i).rearm with
    | 4, some (_, e) => if e ≤ x.t then s.rearmEnd i else s
    | _, _ => s
  let s := s.recTicks i x.n 512
  ((s.recStore i x).recSettle i x.j).recRegs i

/-! ### Drain (R448, R449) -/

/-- Drained bytes of the second in progress and of the one before (R448). -/
def drainAt (d : Nat × Nat × Nat) (sec kb : Nat) : Nat × Nat × Nat :=
  if d.1 = sec then (sec, d.2.1 + kb, d.2.2) else (sec, kb, if d.1 + 1 = sec then d.2.1 else 0)

/-- The block of instance `i` that drains is in the store (R448). -/
def State.recDrain (s : State) (i : Nat) : State :=
  if s.writesHeld ∨ s.rec'.draining ≠ some i then s else
  let s := s.modRec fun v => { v with draining := none, served := i }
  match s.drainable i with
  | none => s.drainNext
  | some b =>
    let c := s.recCfg i
    let bytes := c.blkBytes
    let all := (s.recInst i).hist ++ (s.recsOf i).flatMap (·.smp)
    let crc := crc32c (b.image c ((List.range b.cnt).filterMap fun k => all.find? fun x => x.j == b.first + k))
    let mark := fun (r : Record) =>
      if b.used [r] then { r with drainTo := b.first + b.cnt, size := r.size + bytes, crcs := tset r.crcs b.first crc } else r
    let s := s.modInst i fun x =>
      { x with blk := x.blk.map fun y => if y.first = b.first then { y with drained := true, crc := crc } else y, cur := x.cur.map mark }
    let s := s.modRec fun v =>
      { v with closing := v.closing.map fun r => if r.inst = i then mark r else r,
               drain := drainAt v.drain (s.grid.now / second) (bytes / 1024) }
    let s := s.modRecNv fun n => { n with bytes := n.bytes + bytes }
    let s := (s.recCommit i).recTrim i (if 2 ≤ (s.recInst i).st then (s.recCfg i).keep else 0)
    (s.storeRegs).recRegs i

/-! ### Loss of the buffer and start-up (R451, R436) -/

/-- What the store holds of a record when the buffer is lost (R451): `j` the latest captured sample; what was not in the store is its final
gap. A record none of whose blocks is present is not there. -/
def Record.cut (r : Record) (j : Nat) (rp : Option (Nat × Nat)) (ft : Option Nat) : Option Record :=
  if r.drainTo ≤ r.first then none else
  let smp := r.smp.map fun x => if x.j < r.drainTo then x else { x with an := [], bin := 0, gap := true }
  some { (({ r with smp := smp }).finish (if r.closed then r.last else min r.last j) rp ft).set 8 with done := true }

/-- The records that the store holds when the buffer is lost. -/
def State.recLoss (s : State) : RecNv :=
  let rp := s.rec'.replayed
  let ft := s.rec'.firstTick
  let cur := s.rec'.inst.filterMap fun x => x.2.cur.bind fun r => r.cut (x.2.next - 1) rp ft
  let cl := s.rec'.closing.filterMap fun r => r.cut r.last rp ft
  { s.nv.rec' with recs := (cl ++ cur).reverse ++ s.nv.rec'.recs }

/-- An instance is armed and captures from record sample `j` on, looking for edges from tick `n` on (R436, R437). -/
def State.recArmAt (s : State) (i j n : Nat) : State :=
  let s := s.recClear i
  let s := s.wr REC_ARM_NEED.VALUE (s.recCfg i).need i
  (s.modInst i fun x => { x with st := 2, next := j, tick := n, skip := 0, ahead := [] }).recRegs i

/-- An instance is armed now (R436). -/
def State.recArm (s : State) (i : Nat) : State := s.recArmAt i (s.recFirst i) s.grid.nextN

/-- An instance at the end of start-up (R436). -/
def State.recStart (s : State) (i : Nat) : State :=
  if s.rd REC_CFG.EN i = 0 then (s.modInst i fun x => { x with st := 0 }).recRegs i
  else if s.rd REC_CFG.AUTOARM i = 1 ∧ (s.recCfg i).need ≤ s.recBlocks i then s.recArm i
  else (s.modInst i fun x => { x with st := 1 }).recRegs i

/-! ### A committed bank (R438, R463) and capture -/

/-- The latest tick at or before record sample `j` of an instance, by number. -/
def State.recTickOf (s : State) (i j : Nat) : Nat := if s.recOnGrid i then j else j / s.nr * s.np + j % s.nr * s.np / s.nr

/-- The first record sample of an instance at or after tick `n`. -/
def State.recFrom (s : State) (i n : Nat) : Nat := if s.recOnGrid i then n else n / s.np * s.nr + (n % s.np * s.nr + s.np - 1) / s.np

/-- The instance takes its new settings from tick `n` on (R438, R463): the running record closes with the latest captured sample, the one before
the swap tick, and the armed state goes on under the new settings. -/
def State.recChanged (s : State) (i n : Nat) : State :=
  let x := s.recInst i
  let s := if x.cur.isSome then s.recStop i (x.next - 1) 2 else s
  let armed := decide (2 ≤ x.st)
  let s := s.recClear i
  if s.rd REC_CFG.EN i = 0 then (s.modInst i fun x => { x with st := 0 }).recRegs i
  else if armed then s.recArmAt i (s.recFrom i n) n
  else (s.modInst i fun x => { x with st := 1 }).recRegs i

/-- An instance whose settings a swap changed takes them once it has captured the samples before the swap tick (R463). -/
def State.recTurn (s : State) (i : Nat) : State :=
  let x := s.recInst i
  match x.chg with
  | none => s
  | some n => if x.st < 2 ∨ n ≤ (s.asAt (n - 1)).recTickOf i x.next then s.recChanged i n else s

/-- Instance `i` captures its next record sample if it is available. -/
def State.recCapture (s : State) (i : Nat) : State :=
  if (s.recInst i).st < 2 then s else
  let u := s.detectors
  let n := (s.recInst i).onTick s.grid.nextN
  match (u.asAt n).recSample i (s.recInst i).next with
  | none => s
  | some x => (u.onTick n fun s => s.recTake i x).recTurn i

/-- Instance `i` captures the samples that are available, at most `fuel`. -/
def State.recCatch (s : State) (i : Nat) : Nat → State
  | 0 => s
  | k + 1 =>
    let j := (s.recInst i).next
    let u := s.recCapture i
    if (u.recInst i).next = j then s else u.recCatch i k

/-- A swap at tick `n` changes the settings of an instance (R463): it captures what is available, and takes them when it has come to the swap
tick. One that has not come to an earlier swap tick takes that bank first. -/
def State.recSwap (s : State) (i n : Nat) : State := (s.modInst i fun x => { x with chg := some n }).recTurn i

end Sys2Proof.Machine
end

