-- ==== Sys2Proof/Machine/Comtrade.lean ====
section
/-! DEFINITION. COMTRADE export and the recorder commands (R456 to R462). -/
namespace Sys2Proof.Machine
open Reg

/-! ### Text -/

/-- A line of text with its end (CR LF, as IEEE C37.111 has it; PRESUMED, log entry 62). -/
def line (x : String) : String := x ++ "\x0d\n"

/-- Fields joined by commas. -/
def commas (l : List String) : String := ",".intercalate l

/-- A number in decimal with at least `n` digits. -/
def decN (n v : Nat) : String :=
  let d := toString v
  String.ofList (List.replicate (n - d.length) '0') ++ d

/-- Hexadecimal digits of a number, `n` of them. -/
def hexN (n v : Nat) : String :=
  String.ofList ((List.range n).reverse.map fun i => Nat.digitChar (v / 16 ^ i % 16))

/-- The power of ten at or below a positive rational: the exponent within `fuel` steps. -/
def exp10 (x : Rat) : Nat → Int
  | 0 => 0
  | k + 1 => if 10 ≤ x then exp10 (x / 10) k + 1 else if x < 1 then exp10 (x * 10) k - 1 else 0

/-- A power of ten. -/
def pow10 (e : Int) : Rat := if 0 ≤ e then ((10 ^ e.toNat : Nat) : Rat) else 1 / ((10 ^ (-e).toNat : Nat) : Rat)

/-- A finite number to 9 significant digits, in scientific form (DESIGN CHOICE, log entry 62). -/
def sig9 (x : Rat) : String :=
  if x = 0 then "0" else
  let a := if x < 0 then -x else x
  let e := exp10 a 64
  let m := ratRne (a / pow10 (e - 8))
  let r : Int × Int := if m = 1000000000 then (100000000, e + 1) else (m, e)
  let d := toString r.1.toNat
  (if x < 0 then "-" else "") ++ String.ofList (d.toList.take 1) ++ "." ++ String.ofList (d.toList.drop 1)
    ++ (if r.2 < 0 then "e-" else "e+") ++ decN 2 r.2.natAbs

/-- A binary32 word to 9 significant digits. -/
def sig32 (w : Nat) : String := match dec32 w with | some x => sig9 x | none => "NaN"

/-- Year, month and day of a day number from 1970-01-01, and the seconds of the day as hh:mm:ss.ssssss, from microseconds. -/
def civil (us : Int) : Nat × Nat × Nat × Nat :=
  let day := us / 86400000000
  let z := day + 719468
  let era := z / 146097
  let doe := (z - era * 146097).toNat
  let yoe := (doe - doe / 1460 + doe / 36524 - doe / 146096) / 365
  let doy := doe - (365 * yoe + yoe / 4 - yoe / 100)
  let mp := (5 * doy + 2) / 153
  let d := doy - (153 * mp + 2) / 5 + 1
  let m := if mp < 10 then mp + 3 else mp - 9
  let y := ((yoe : Int) + era * 400 + (if m ≤ 2 then 1 else 0)).toNat
  (y, m, d, (us - day * 86400000000).toNat)

/-- UTC in the form dd/mm/yyyy,hh:mm:ss.ssssss of a TAI in ns with a UTC offset in seconds (R458). -/
def utcText (tai : Int) (ofs : Nat) : String :=
  let c := civil ((tai - ofs * 1000000000) / 1000)
  let u := c.2.2.2
  decN 2 c.2.2.1 ++ "/" ++ decN 2 c.2.1 ++ "/" ++ decN 4 c.1 ++ "," ++ decN 2 (u / 3600000000) ++ ":" ++ decN 2 (u / 60000000 % 60)
    ++ ":" ++ decN 2 (u / 1000000 % 60) ++ "." ++ decN 6 (u % 1000000)

/-! ### Labels (R456) -/

/-- Bytes of a label copy. -/
def labelBytes (l : List Nat) (o n : Nat) : List Byte :=
  (((l.drop (o / 4)).take ((n + 3) / 4)).flatMap (leBytes 4 ·)).take n

/-- A text of a label copy: UTF-8, ended by NUL. -/
def labelText (l : List Nat) (o n : Nat) : List Byte := (labelBytes l o n).takeWhile fun b => b != 0

/-- The offset of analog signal `a` in a label set. -/
def anLabel (a : Nat) : Nat := 128 + 68 * a
/-- The offset of binary signal `b` in a label set. -/
def binLabel (b : Nat) : Nat := 128 + 68 * 128 + 52 * b

/-! ### The .cfg (R457, R458) -/

/-- A digital line of the .cfg. -/
def digLine (n : Nat) (id ph ccbm : List Byte) : List Byte :=
  ascii (toString n ++ ",") ++ id ++ ascii "," ++ ph ++ ascii "," ++ ccbm ++ ascii (line ",0")

/-- TAI - UTC at sample `j` of a record. -/
def Record.utcAt (r : Record) (j : Nat) : Nat := ((r.at' j).map (·.utc)).getD 0

/-- The TAI of a sample of a record, ns. -/
def Record.taiAt (r : Record) (j : Nat) : Int := r.tai + (((r.inst' j : Int) - r.t) * 4) / 2 ^ 24

/-- The .cfg of a record. -/
def Record.cfgFile (r : Record) (bin32 sswdig : Bool) : List Byte :=
  let l := r.labels
  let na := r.cfg.na
  let nb := r.cfg.nb
  let nd := nb + (if sswdig then na else 0)
  let head := labelText l 0 64 ++ ascii "," ++ labelText l 64 64 ++ ascii (line ",2013")
    ++ ascii (line (commas [toString (na + nd), toString na ++ "A", toString nd ++ "D"]))
  let an := (List.range na).flatMap fun a =>
    let o := anLabel a
    ascii (toString (a + 1) ++ ",") ++ labelText l o 32 ++ ascii "," ++ labelText l (o + 32) 4 ++ ascii "," ++ labelText l (o + 36) 16
      ++ ascii "," ++ labelText l (o + 52) 8
      ++ ascii (line ("," ++ commas [sig32 (((r.cfg.an[a]?).map (·.2.2)).getD 0), "0", "0", "-2147483648", "2147483647",
          sig32 (ofLe (labelBytes l (o + 60) 4)), sig32 (ofLe (labelBytes l (o + 64) 4)), "P"]))
  let dg := (List.range nb).flatMap fun b =>
    let o := binLabel b
    digLine (b + 1) (labelText l o 32) (labelText l (o + 32) 4) (labelText l (o + 36) 16)
  let sd := if sswdig then (List.range na).flatMap fun a =>
      let o := anLabel a
      digLine (nb + a + 1) (labelText l o 32 ++ ascii "/V") (labelText l (o + 32) 4) (labelText l (o + 36) 16)
    else []
  let lf := if r.cfg.fnom = 16700000 then "16.7" else toString (r.cfg.fnom / 1000000)
  let cnt := (r.smp.filter fun x => !x.gap).length
  let acc := r.tq / 64 % 4
  let u0 := r.utcAt r.first
  let u1 := r.utcAt r.last
  let tail := line lf ++ line "0" ++ line ("0," ++ toString cnt) ++ line (utcText (r.taiAt r.first) u0) ++ line (utcText r.tai (r.utcAt r.j0))
    ++ line (if bin32 then "BINARY32" else "ASCII") ++ line "0.1" ++ line "0,0"
    ++ line (["4", "5", "7", "F"].getD acc "F" ++ "," ++ (if u0 < u1 then "1" else if u1 < u0 then "2" else "0"))
  head ++ an ++ dg ++ sd ++ ascii tail

/-! ### The .dat (R459) -/

/-- The digital values of a sample: the binary signals and, if asked for, the VALID bits. -/
def Record.digital (r : Record) (sswdig : Bool) (x : RecSmp) : List Bool :=
  (List.range r.cfg.nb).map (fun b => x.bin.testBit b) ++ (if sswdig then x.an.map (fun v => hasBit v.2 bVALID) else [])

/-- The time stamp of a sample, in 0.1 us, to nearest, from the device times that records carry: whole units (R10, R459). -/
def Record.stamp (r : Record) (x : RecSmp) : Nat := (2 * (x.t / 2 ^ 24 - r.inst' r.first / 2 ^ 24) + 25) / 50

/-- Digital values 16 to a word, the lowest-numbered in bit 0. -/
def packWords (l : List Bool) : Nat → List Byte
  | 0 => []
  | k + 1 => leBytes 2 (bitsOf ((l.take 16).zipIdx.map fun x => (x.2, x.1))) ++ packWords (l.drop 16) k

/-- The .dat of a record. -/
def Record.datFile (r : Record) (bin32 sswdig : Bool) : List Byte :=
  ((r.smp.filter fun x => !x.gap).reverse).zipIdx.flatMap fun x =>
    let d := r.digital sswdig x.1
    if bin32 then
      leBytes 4 (x.2 + 1) ++ leBytes 4 (r.stamp x.1) ++ x.1.an.flatMap (fun v => leBytes 4 (enc32 (v.1 : Rat)))
        ++ packWords d ((d.length + 15) / 16)
    else
      ascii (line (commas (toString (x.2 + 1) :: toString (r.stamp x.1) :: x.1.an.map (fun v => toString v.1)
        ++ d.map fun b => if b then "1" else "0")))

/-! ### The .inf (R460) -/

/-- A key line of the .inf. -/
def keyLine (k v : String) : String := line (k ++ "=" ++ v)

/-- The names of the record flags, bit 0 first (R454). -/
def flagNames : List String :=
  ["SHORT_PRE", "DELAYED", "GAPPED", "EXTENDED", "EXT_CAPPED", "CHAINED", "CHAINED_NEXT", "STOPPED", "PWR_CUT", "TAKEOVER", "REPLAYED",
   "BIN_PARTIAL", "PROTECTED", "TIME_STEP", "OPEN_FAULT", "NO_INCEPT"]

/-- The reason of a stop, or of a power cut. -/
def Record.stopText (r : Record) : String :=
  if r.flags.testBit 7 then (["", "disarm", "configuration", "role lost"].getD r.stop "") else "power cut"

/-- The .inf of a record of a unit with a serial and a firmware version. -/
def Record.infFile (r : Record) (serial fw : Nat) : List Byte :=
  let m := r.meas
  let ch := fun (a i : Nat) => ((m.ch[a]?).getD []).getD i 0
  let opt := fun (b : Bool) (x : String) => if b then x else ""
  let head := line "[Unrov DZ7464 Record]" ++ keyLine "Record_ID" (hexN 8 r.id) ++ keyLine "Predecessor_ID" (hexN 8 r.pred)
    ++ keyLine "Unit_Serial" (hexN 16 serial) ++ keyLine "Unit_Rank" (toString (r.id / 2 ^ 31)) ++ keyLine "Firmware" (hexN 8 fw)
    ++ keyLine "Settings_Digest" (hexN 16 r.dig) ++ keyLine "Instance" (toString r.inst)
    ++ keyLine "Flags" (hexN 4 r.flags ++ String.join (((List.range 16).filter fun b => r.flags.testBit b).map fun b => " " ++ flagNames.getD b ""))
    ++ keyLine "Trigger_Sources" (hexN 8 r.src) ++ keyLine "Trigger_Tick" (toString r.tick)
    ++ keyLine "Trigger_Device_Time" (toString (r.t / 2 ^ 24)) ++ keyLine "Trigger_Skew_ns" (toString r.skew)
    ++ keyLine "Delay_Ticks" (toString r.delayTicks) ++ keyLine "Delay_ns" (toString r.delayNs)
    ++ keyLine "Pre_Requested" (toString r.cfg.preS) ++ keyLine "Pre_Samples" (toString r.preA)
    ++ keyLine "Post_Samples" (toString (r.last + 1 - r.j0)) ++ keyLine "Retriggers" (toString r.retrig)
  let gaps := keyLine "Gap_Count" (toString r.gaps.length) ++ String.join (r.gaps.zipIdx.map fun g =>
    keyLine ("Gap_" ++ toString (g.2 + 1)) (commas [toString (g.1.1 - r.first), toString g.1.2.1, toString g.1.2.2]))
  let pair := (match r.replay with
      | some (a, b) => opt (r.flags.testBit 10) (keyLine "Replay_Ticks" (commas [toString a, toString b]))
      | none => "")
    ++ opt (r.flags.testBit 11) (keyLine "Bin_Valid_From" (toString ((r.binFrom.getD r.first) - r.first)))
    ++ opt (r.flags.testBit 7 || r.flags.testBit 8) (keyLine "Stop_Reason" r.stopText)
  let meas := keyLine "Freq_uHz" (toString r.freq)
    ++ keyLine "Period_us" (toString (if r.freq = 0 then 0 else (openDiv 113 1000000000000 r.freq).toNat))
    ++ keyLine "Inception_Sample" (toString (if r.flags.testBit 15 then 2 ^ 32 - 1 else m.jinc - r.first))
    ++ keyLine "Inception_Angle_deg" (toString (m.angle / 100) ++ "." ++ decN 2 (m.angle % 100))
    ++ keyLine "Fault_Duration_us" (toString m.dur)
  let sigs := String.join ((List.range r.cfg.na).map fun a =>
    let p := "A" ++ toString (a + 1) ++ "_"
    let ssw := (r.smp.filter fun x => !x.gap).foldl (fun o x => o ||| ((x.an[a]?).map (·.2)).getD 0) 0
    keyLine (p ++ "SSW_OR") (hexN 4 ssw) ++ keyLine (p ++ "PreRMS") (sig32 (ch a 0)) ++ keyLine (p ++ "FaultRMS") (sig32 (ch a 1))
      ++ keyLine (p ++ "Peak") (sig32 (ch a 2)) ++ keyLine (p ++ "PeakSample") (toString (ch a 3)) ++ keyLine (p ++ "I2t") (sig32 (ch a 4)))
  ascii (head ++ gaps ++ pair ++ meas ++ sigs ++ keyLine "Time_Quality" (hexN 2 r.tq))

/-! ### Chunks (R462) -/

/-- Cut a file into pieces of at most 4,080 bytes; an empty file is one empty piece. -/
def cutFile : List Byte → Nat → List (List Byte)
  | l, 0 => [l]
  | l, k + 1 => if l.length ≤ 4080 then [l] else l.take 4080 :: cutFile (l.drop 4080) k

/-- The chunks of a file: its number, whether the export ends with it. -/
def fileChunks (id file : Nat) (last : Bool) (data : List Byte) : List (List Byte) :=
  let ps := cutFile data (data.length / 4080)
  ps.zipIdx.map fun p =>
    let fin := decide (p.2 + 1 = ps.length)
    leBytes 4 id ++ leBytes 1 file ++ leBytes 1 (b2n fin + 2 * b2n (fin && last)) ++ leBytes 2 0 ++ leBytes 4 (4080 * p.2)
      ++ leBytes 4 p.1.length ++ p.1

/-- The chunks of an export in the order .cfg, .dat, .inf. -/
def State.exportChunks (s : State) (r : Record) (w : Nat) : List (List Byte) :=
  let bin32 := w.testBit 8
  let dig := w.testBit 9
  let fs := (List.range 3).filter fun i => w.testBit (10 + i)
  fs.flatMap fun i =>
    let data := match i with
      | 0 => r.cfgFile bin32 dig
      | 1 => r.datFile bin32 dig
      | _ => r.infFile (s.rd64 ID_SERIAL_LO.VALUE ID_SERIAL_HI.VALUE) (s.rd ID_FW_VER.VALUE)
    fileChunks r.id i (fs.getLast? == some i) data

/-- The next chunk of the export goes into its berth when there is room (R462, R576). -/
def State.exportChunk (s : State) : State :=
  match s.rec'.exporting with
  | none => s
  | some e =>
    match e.chunks with
    | [] => (s.modRec fun r => { r with exporting := none }).wr REC_STATUS.EXPORT_BUSY 0
    | c :: rest =>
      if s.berthOk e.berth 2 8192 && decide (s.content e.berth + pad8 (8 + c.length) ≤ s.berthSize e.berth) then
        let s := (s.putMsg e.berth 3 c).1
        if rest.isEmpty then (s.modRec fun r => { r with exporting := none }).wr REC_STATUS.EXPORT_BUSY 0
        else s.modRec fun r => { r with exporting := some { e with chunks := rest } }
      else s

/-! ### Commands (R461) -/

/-- REC_ARM. -/
def cmdRecArm (s : State) (_q : Bool) (p : Packet) : CmdRes :=
  let i := p.target.toNat
  if p.len ≠ 0 then s.badLength
  else if 3 < i then s.badTarget 0
  else if (s.recInst i).st = 0 then s.badTarget 16
  else if (s.recInst i).st ≠ 1 then s.ok
  else
    let need := (s.recCfg i).need
    let held := s.recBlocks i
    if held < need then (s.wr REC_ARM_NEED.VALUE need i).answer .armLength [need, held]
    else (s.recArm i).ok

/-- The committed record of an ID. -/
def State.stored (s : State) (id : Nat) : Option Record := s.nv.rec'.recs.find? fun r => r.id == id

/-- Bytes as reply words. -/
def replyWords (l : List Byte) : List Nat := (List.range (l.length / 4)).map fun i => ofLe ((l.drop (4 * i)).take 4)

/-- REC_FETCH. -/
def cmdRecFetch (s : State) (_q : Bool) (p : Packet) : CmdRes :=
  let t := p.target.toNat
  if p.len ≠ 4 then s.badLength
  else match p.word 0 with
  | 0 =>
    let l := ((s.nv.rec'.recs.drop t).take 32).map (·.id)
    s.ok (l.length :: l)
  | 1 => match s.stored t with | some r => s.ok (replyWords r.summary) | none => s.badTarget 12
  | 2 => match s.stored t with | some r => s.ok (r.meas.ch.flatMap fun x => x) | none => s.badTarget 12
  | _ => s.badTarget 0

/-- REC_EXPORT. -/
def cmdRecExport (s : State) (_q : Bool) (p : Packet) : CmdRes :=
  let w := p.word 0
  let b := w % 256
  if p.len ≠ 4 then s.badLength
  else match s.stored p.target.toNat with
  | none => s.badTarget 12
  | some r =>
    if s.rec'.exporting.isSome then s.busy 15
    else if !s.berthOk b 2 8192 then s.badTarget 25
    else
      let c := s.exportChunks r w
      ((s.modRec fun v => { v with exporting := some { id := r.id, berth := b, chunks := c } }).wr REC_STATUS.EXPORT_BUSY 1).accepted

/-- REC_TRIGGER. -/
def cmdRecTrigger (s : State) (_q : Bool) (p : Packet) : CmdRes :=
  let m := p.word 0
  if p.len ≠ 4 then s.badLength
  else if p.target.toNat ≠ 0 ∨ 16 ≤ m then s.badTarget 0
  else (forL (maskIdx 4 m) (fun i s => s.recPend i ((s.grid.now : Int) * 2 ^ 24) 18) s).ok

/-- REC_DISARM. -/
def cmdRecDisarm (s : State) (_q : Bool) (p : Packet) : CmdRes :=
  let i := p.target.toNat
  if p.len ≠ 0 then s.badLength
  else if 3 < i then s.badTarget 0
  else
    let x := s.recInst i
    if x.st < 2 then s.ok else
    let s := if x.cur.isSome then s.recStop i (x.next - 1) 1 else s
    let s := (s.recClear i).modInst i fun x => { x with st := 1 }
    (s.recRegs i).ok

/-- Change the protection flag of a record wherever it is. -/
def State.recProtect (s : State) (id : Nat) (b : Bool) : State :=
  let f := fun (r : Record) => if r.id = id then r.set 12 b else r
  let s := s.modRec fun v => { v with closing := v.closing.map f, inst := v.inst.map fun x => (x.1, { x.2 with cur := x.2.cur.map f }) }
  s.modRecNv fun n => { n with recs := n.recs.map f }

/-- REC_MANAGE. -/
def cmdRecManage (s : State) (_q : Bool) (p : Packet) : CmdRes :=
  let id := p.target.toNat
  if p.len ≠ 4 then s.badLength
  else if !(s.allRecs.any fun r => r.id == id) then s.badTarget 12
  else match p.word 0 with
  | 0 => (s.recProtect id true).ok
  | 1 => (s.recProtect id false).ok
  | 2 =>
    if !s.maint then s.busy 14
    else match s.stored id with
    | none => s.busy 18
    | some r =>
      if s.rec'.exporting.any fun e => e.id == id then s.busy 15
      else if r.flags.testBit 12 then s.badTarget 13
      else ((s.modRecNv fun n => { n with recs := n.recs.filter fun x => x.id != id }).storeRegs).ok
  | _ => s.badTarget 0

end Sys2Proof.Machine
end

