-- ==== Sys2Proof/Machine/Bist.lean ====
section
/-! DEFINITION. Resets of the logic side, and self-test of engines, memories and other blocks (R606 to R638, R651 to R653). -/
namespace Sys2Proof.Machine
open Reg

/-! ### Reset of the logic side (R651 to R653) -/

/-- The fuse rows of a macro that were burned before device time `t`, and the entries they used: one cut short is used (R623). -/
def Burn.before (b : Burn) (t : Nat) : Nat × Nat :=
  let n := min b.rows.length ((t - b.start) / 5000000)
  (n, if n < b.rows.length ∧ b.start < t then n + 1 else n)

/-- Rows of a macro are in its fuses, which took a number of entries; they are no longer candidates. -/
def BistNv.fuse (n : BistNv) (m : Nat) (rows : List Nat) (used : Nat) : BistNv :=
  { n with fused := tmod 0 n.fused m (· + rows.length), used := tmod 0 n.used m (· + used),
           cand := tmod [] n.cand m (·.filter fun x => !rows.contains x) }

/-- What the fuses hold when burning stops at device time `t` (R623). -/
def BistNv.cut (n : BistNv) (burns : Tab Burn) (t : Nat) : BistNv :=
  burns.foldl (fun n x =>
    let r := x.2.before t
    n.fuse x.1 (x.2.rows.take r.1) r.2) n

/-- The logic side is reset with a cause (R651 to R653): memories that hold without power are kept, and with them the reset
counters; the field die goes on under R388 with the configuration it has; the bank stands in MRAM. -/
def State.logicReset (s : State) (cause : Nat) (step2 : Bool := false) : State :=
  let old := s.rd PWR_RST_CAUSE.CAUSE
  let cnt := s.rd PWR_RST_CNT.VALUE
  let lol := s.rd CLK_LOL_CNT.VALUE
  let d :=
    { s.dio with bind := some s.dirBank, loss := false, conf := [], whole := false, test := 0, frame := 0, vfAt := 0, health := false }
  let nv := { s.nv with bist := s.nv.bist.cut s.bist.burns s.grid.now, rec' := s.recLoss,
                        log := { s.nv.log with begun := s.nv.log.begun || (!s.log.queue.isEmpty && !s.writesHeld) } }
  let s : State :=
    { State.reset with bank := s.bank, nv := nv, dio := d, tap := s.tap, free := s.free, pending := s.pending, grid := { now := s.grid.now, bound := s.grid.bound },
                       pwr := { phase := .held, rstN := s.pwr.rstN, step2 := step2 } }
  let s := ((s.wr PWR_RST_CAUSE.CAUSE cause).wr PWR_RST_CAUSE.PREV old).wr PWR_RST_CNT.VALUE (min (cnt + 1) (2 ^ 32 - 1))
  s.wr CLK_LOL_CNT.VALUE (if cause = 6 then min (lol + 1) (2 ^ 32 - 1) else lol)

/-! ### Logic BIST of the engines (R606 to R616) -/

/-- The patterns of a PAT code (R606). -/
def patterns (pat : Nat) : Nat := if pat = 0 then 4096 else if pat = 1 then 16384 else 65536

/-- How long a logic BIST lasts, in device-time units (R606). -/
def bistTime (pat : Nat) : Nat := patterns pat * 129 + 125000

/-- The result of a completed logic BIST (R607): 0 PASS, 1 FAIL, 2 INCOMPLETE. -/
def bistResult (ok : Bool) (count pat : Nat) : Nat :=
  if count = patterns pat then (if ok then 0 else 1) else 2

/-- A host BIST ends with a result and a detail (R632). -/
def State.hostBistDone (s : State) (tgt res detail : Nat) : State :=
  ((s.wr BIST_STATUS.BUSY 0).wr BIST_STATUS.LAST res).logEv 0xA001 tgt (res + 256 * detail)

/-- The registers of an engine whose logic BIST ended with a result: signature, sealed count, verdict, counters (R607, R616). -/
def State.bistShown (s : State) (k misr count res : Nat) : State :=
  let s := (s.modBist fun v => { v with eng := terase v.eng k }).wr BIST_ENG_STATUS.TESTING 0 k
  let s := (s.wr64 BIST_MISR_LO.VALUE BIST_MISR_HI.VALUE misr).wr BIST_PATCNT.VALUE count
  let s := s.wr BIST_ENG_STATUS.LAST (res + 1) k
  if res = 0 then
    (s.wr BIST_ENG_PASS_CNT.VALUE (s.rd BIST_ENG_PASS_CNT.VALUE k + 1) k).modBist fun v => { v with passAt := tset v.passAt k s.grid.now }
  else if res = 2 then s.bump BIST_ENG_INC_CNT.VALUE k else s

/-- The freed engine of a rotation passed: it becomes the spare (R614). -/
def State.rotated (s : State) (k : Nat) : State :=
  ((s.wr BIST_SPARE.ENG k).logEv 0xA001 k 0).wr BIST_ROT_CNT.VALUE (s.rd BIST_ROT_CNT.VALUE + 1)

/-- What the result of a logic BIST that is not repeated brings: the report to the host, the rotation or the failure of the engine, the
next engine of a proof cycle (R609, R611, R614, R524). -/
def State.bistVerdict (s : State) (k kind res : Nat) : State :=
  let s := if kind = 1 then s.hostBistDone k res 0 else s
  let s := if res ≠ 0 then s.engineFail k (res + 2) else if kind = 0 then s.rotated k else s
  if kind = 2 then s.proofNext k (res == 1) (res == 2) else s

/-- The logic BIST of engine `k` completes (R607, R609, R611, R614, R633). -/
def State.engineBistDone (s : State) (k misr : Nat) (ok : Bool) (count : Nat) : State :=
  match tfind s.bist.eng k with
  | none => s
  | some x =>
    let res := bistResult ok count x.pat
    let s := (s.atTime (x.start + bistTime x.pat)).bistShown k misr count res
    if res = 2 ∧ !x.again then s.engStart k x.kind x.pat true else s.bistVerdict k x.kind res

/-- The engines that carry bays. -/
def State.carrying (s : State) : List Nat := (List.range 9).filter fun k => s.bist.sets.any fun x => x.2 == k

/-- The source engine of a rotation (R614). -/
def State.rotSource (s : State) (spare : Nat) : Option Nat :=
  ((List.range 8).map fun i => (spare + 1 + i) % 9).find? fun k => s.carrying.contains k && s.rd BIST_ENG_STATUS.HEALTHY k == 1

/-- The multiple of PERIOD, in 2^-24 units, at which a rotation falls due: the tick boundary in hand is the first at or after it, and it has
not been served (R613). -/
def State.rotDue (s : State) : Option Nat :=
  match s.grid.hist with
  | [] => none
  | r :: rest =>
    let p := s.rd BIST_CFG.PERIOD * second * 2 ^ 24
    let m := if p = 0 then 0 else r.t / p * p
    let first := match rest with | q :: _ => decide (q.t < m) | [] => true
    if m = 0 ∨ m / 2 ^ 24 ≤ s.bist.rotAt ∨ !first then none else some m

/-- The engine whose bays the spare takes over, unless the rotation is skipped (R613, R614). -/
def State.rotFrom (s : State) : Option Nat :=
  let spare := s.rd BIST_SPARE.ENG
  if s.rd BIST_CFG.ROT_EN = 0 ∨ !s.evaluates ∨ s.rd BIST_STATUS.ROT_SUSP = 1 ∨ 8 < spare
    ∨ s.rd BIST_ENG_STATUS.HEALTHY spare = 0 ∨ (tfind s.bist.eng spare).isSome then none
  else s.rotSource spare

/-- The spare takes over the bays of engine `k`, which starts a logic BIST; no engine is spare until it passes (R614). -/
def State.rotate (s : State) (k : Nat) : State :=
  let spare := s.rd BIST_SPARE.ENG
  let s := s.modBist fun v => { v with sets := v.sets.map fun x => (x.1, if x.2 = k then spare else x.2) }
  let s := forN 64 (fun b s => s.wr BAY_STATUS.ENG (tget 15 s.bist.sets b) b) s
  let s := (s.wr BIST_ENG_STATUS.CARRYING 1 spare).wr BIST_ENG_STATUS.CARRYING 0 k
  (s.wr BIST_SPARE.ENG 15).engStart k 0 (s.rd BIST_CFG.PAT)

/-- A rotation of the spare (R613, R614). -/
def State.spareRotation (s : State) : State :=
  match s.rotDue with
  | none => s
  | some m =>
    let s := s.modBist fun v => { v with rotAt := m / 2 ^ 24 }
    match s.rotFrom with
    | none => s
    | some k => s.rotate k

/-- A proof cycle starts: on entry to STANDBY and every 10 minutes after it (R524). -/
def State.proofCycle (s : State) : State :=
  if s.role ≠ 2 ∨ s.bist.proof.isSome then s else
  let s := match s.bist.proofAt with | some t => s.atTime (t + 600 * second) | none => s
  ((s.modBist fun v => { v with proof := some (0, false, false), proofAt := some s.grid.now }).engStart 0 2 2)

/-! ### BIST_RUN (R632 to R636) -/

/-- The modulator group of a target. -/
def bistGroup (t : Nat) : Option Nat := if 0x100 ≤ t ∧ t ≤ 0x103 then some (t - 0x100) else none
/-- The converter of a target. -/
def bistAux (t : Nat) : Option Nat := if t = 0x110 ∨ t = 0x111 then some (t - 0x110) else none
/-- The field channel of a target. -/
def bistChan (t : Nat) : Option Nat := if 0x200 ≤ t ∧ t ≤ 0x21F then some (t - 0x200) else none

/-- A target that R632 lists. -/
def bistListed (t : Nat) : Bool := decide (t ≤ 8) || (bistGroup t).isSome || (bistAux t).isSome || (bistChan t).isSome

/-- How long the test of a block that is no engine lasts, in device-time units (R634). -/
def State.blockTime (s : State) (t : Nat) : Nat :=
  match bistGroup t, bistAux t, bistChan t with
  | some _, _, _ => 4000000
  | _, some _, _ => 200000
  | _, _, some d => if s.dir d = 2 then 250000 else 500000
  | _, _, _ => 0

/-- The block leaves its test: settling of a group runs from here and its splice restarts in WIDE (R73), a channel returns to its state
(R636). -/
def State.blockFree (s : State) (t : Nat) : State :=
  match bistGroup t, bistAux t, bistChan t with
  | some g, _, _ =>
    let s := s.wr AFE_STATUS.GRP_BIST (andNot (s.rd AFE_STATUS.GRP_BIST) (2 ^ g))
    let t := s.grid.now * 2 ^ 32
    forL (groupList g) (fun c s =>
      let s := (s.flagUntil c bSELFTEST t).spliceRestartAt c t
      s.setChan c { s.chan c with valFrom := t + s.settleSpan c }) s
  | _, some m, _ => (s.modConv m fun c => { c with free := s.grid.now }).wr AUX_STATUS.BIST (andNot (s.rd AUX_STATUS.BIST) (2 ^ m))
  | _, _, some d => ((s.modDio fun x => { x with test := andNot x.test (2 ^ d) }).inputFlags).settle
  | _, _, _ => s

/-- The host test of a block that is no engine ends with a result and a detail (R632, R634). -/
def State.blockEnd (s : State) (res detail : Nat) : State :=
  match s.bist.host with
  | none => s
  | some h => (((s.modBist fun v => { v with host := none }).blockFree h.tgt)).hostBistDone h.tgt res detail

/-- An output test of a TRIP channel ends at once, INCOMPLETE, when the channel's command is 1 (R636). -/
def State.tripTest (s : State) : State :=
  match s.bist.host with
  | some h =>
    match bistChan h.tgt with
    | some d => if s.dir d = 2 ∧ s.rowClass d = 0 ∧ s.dio.cmd.testBit d then s.blockEnd 2 0 else s
    | none => s
  | none => s

/-- The host test of a block that is no engine begins (R634, R636). -/
def State.blockStart (s : State) (t : Nat) : State :=
  let s := s.modBist fun v => { v with host := some { tgt := t, start := s.grid.now } }
  match bistGroup t, bistAux t, bistChan t with
  | some g, _, _ =>
    let t := s.grid.now * 2 ^ 32
    forL (groupList g) (fun c s => (s.flagFrom c bSELFTEST t none).spliceRestartAt c t)
      (s.wr AFE_STATUS.GRP_BIST (s.rd AFE_STATUS.GRP_BIST ||| 2 ^ g))
  | _, some m, _ => (s.auxBlock m 3).wr AUX_STATUS.BIST (s.rd AUX_STATUS.BIST ||| 2 ^ m)
  | _, _, some d => ((s.modDio fun x => { x with test := x.test ||| 2 ^ d }).inputFlags).settle.tripTest
  | _, _, _ => s

/-- The host test of a block that is no engine completes (R634). -/
def State.blockBistDone (s : State) (fail : Bool) (detail : Nat) : State :=
  match s.bist.host with
  | none => s
  | some h => (s.atTime (h.start + s.blockTime h.tgt)).blockEnd (b2n fail) (if fail then detail % 256 else 0)

/-- The block is in protection service, or the unit in a state that protects it (R632). -/
def State.bistService (s : State) (t : Nat) : Bool :=
  match bistGroup t, bistChan t with
  | some g, _ => s.inService (groupChans (2 ^ g))
  | _, some d => s.dir d == 2 && s.role != 2 && !s.maint && s.rd KNOT_TM_CFG.EN d == 1
  | _, _ => false

/-- A modulator group is in the SELFCAL that runs. -/
def State.groupInCal (s : State) (g : Nat) : Bool :=
  s.afe.cal.any fun r => r.groups.contains g || r.cur.any fun c => c.1 == g

/-- A channel of a modulator group is under path diagnosis or skew calibration. -/
def State.groupInProc (s : State) (g : Nat) : Bool :=
  s.afe.diag.any (fun d => d.1 / 16 == g) || s.afe.skew.any fun k => (maskIdx 64 k.1).any fun c => c / 16 == g

/-- BIST_RUN (R632). -/
def cmdBistRun (s : State) (_q : Bool) (p : Packet) : CmdRes :=
  let t := p.target.toNat
  let w := p.word 0
  if p.len ≠ 4 then s.badLength
  else if !bistListed t ∨ (if t ≤ 8 then 2 < w else w ≠ 0) then s.badTarget 0
  else if s.rd BIST_STATUS.BUSY = 1 then s.busy 49
  else if t ≤ 8 ∧ s.carrying.contains t then s.busy 48
  else if t ≤ 8 ∧ (tfind s.bist.eng t).isSome then s.answer .busySelftest
  else if (bistGroup t).any s.groupInCal then s.busy 2
  else if (bistGroup t).any s.groupInProc then s.busy 3
  else if s.bistService t then s.busy 1
  else
    let s := (s.wr BIST_STATUS.BUSY 1).wr BIST_STATUS.TGT t
    (if t ≤ 8 then s.engStart t 1 w else s.blockStart t).accepted

/-! ### SRAM repair (R617 to R623) -/

/-- The repair registers of a macro (R618, R620). -/
def State.repRegs (s : State) (m : Nat) : State :=
  (s.wr BIST_SRAM_REP.FUSED (tget 0 s.nv.bist.fused m) m).wr BIST_SRAM_REP.CAND (tget [] s.nv.bist.cand m).length m

/-- The patrol scrub corrects an error of a row (R620). -/
def State.sramCorrected (s : State) (m row t : Nat) : State :=
  let s := (s.atTime t).bump BIST_SRAM_CE_CNT.VALUE m
  let now := s.grid.now
  let l := (row, now) :: (tget [] s.bist.ce m).filter fun x => decide (now ≤ x.2 + 86400 * second)
  let s := s.modBist fun v => { v with ce := tset v.ce m l }
  if 3 ≤ (l.filter fun x => x.1 == row).length ∧ !(tget [] s.nv.bist.cand m).contains row then
    (s.modBistNv fun n => { n with cand := tmod [] n.cand m (row :: ·) }).repRegs m
  else s

/-- An uncorrectable error in SRAM (R621). -/
def State.sramUncorrectable (s : State) (m : Nat) : State :=
  let s := s.logEv 0x0006 0 (0x0A40 + m)
  s.drainAll.logicReset 8

/-- The supervisor cores disagree (R617). -/
def State.lockstep (s : State) : State :=
  let s := s.logEv 0x0006 0 0x0A01
  s.drainAll.logicReset 7 true

/-- The macros of a REPAIR_FUSE target. -/
def fuseMacros (t : Nat) : List Nat := if t = 0xFF then List.range 32 else [t]

/-- REPAIR_FUSE (R622). Macros burn one after the other (DESIGN CHOICE, log entry 60). -/
def cmdRepairFuse (s : State) (_q : Bool) (p : Packet) : CmdRes :=
  let t := p.target.toNat
  let v := s.rd AUX_RESULT.DATA 0 16
  let ms := (fuseMacros t).filter fun m => tget [] s.bist.soft m != []
  if p.len ≠ 4 then s.badLength
  else if 31 < t ∧ t ≠ 0xFF then s.badTarget 0
  else if p.word 0 ≠ 0x45535546 then s.badTarget 27
  else if !s.maint then s.busy 14
  else if 50 * v < 2064384 ∨ 2260992 < 50 * v then s.busy 52
  else if ms.isEmpty then s.badTarget 50
  else if ms.any fun m => decide (Config.fuseEntries < tget 0 s.nv.bist.used m + (tget [] s.bist.soft m).length) then s.badTarget 51
  else
    let s := forL ms (fun m s =>
      let n := tget [] s.bist.soft m
      let t0 := s.bist.burns.foldl (fun a x => max a x.2.done) s.grid.now
      s.modBist fun b =>
        { b with soft := terase b.soft m, burns := tset b.burns m { rows := n, start := t0, done := t0 + n.length * 5000000 } }) s
    s.accepted

/-- The macro whose burning is done first. -/
def firstBurn (l : Tab Burn) : Option (Nat × Burn) :=
  l.foldl (fun a x => match a with
    | some y => if x.2.done < y.2.done then some x else a
    | none => some x) none

/-- The macro whose burning is done first finishes (R622). -/
def State.fuseBurnDone (s : State) : State :=
  match firstBurn s.bist.burns with
  | none => s
  | some (m, b) =>
    let s := (s.atTime b.done).modBist fun v => { v with burns := terase v.burns m }
    let s := s.modBistNv fun n => n.fuse m b.rows b.rows.length
    (s.repRegs m).logEv 0xA004 m (65536 + b.rows.length)

/-! ### MRAM spares and wear (R625 to R631) -/

/-- The newer copies of custody are not good: custody takes what the older ones hold (R559, R631). Bit 0 says that the newer copies are bad,
bit 1 the older ones. With no good selector copy the key slots and SET_CTR stand (R560). -/
def CustNv.found (c : CustNv) (bad : BitVec 2) : CustNv :=
  let old := if bad.getLsbD 1 then none else c.old
  if !bad.getLsbD 0 then { c with old := old } else
  match old with
  | none => { c with bad := true, old := none }
  | some o =>
    { c with bank := o.bank, pend := o.pend, ctr := o.ctr, commits := o.commits, closed := o.closed, old := none,
             slots := o.slots.map fun x => (x.1, { x.2 with uses := (tget {} c.slots x.1).uses }) }

/-- The older copy of an object stays in force: its newer one could not be written (R631). -/
def State.olderStands (s : State) (o : MramObj) : State :=
  match o with
  | .bound => s.modGrid fun g => { g with bound := g.bound.keepOlder }
  | .custody => s.modCustNv fun c => if c.old.isSome then c.found 1 else c
  | .epoch => s.modNv fun n => { n with epoch := n.epoch.keepOlder }
  | .skew => s.modAfeNv fun n => { n with skew := n.skew.keepOlder }
  | .filters => s.modAfeNv fun n => { n with store := n.store.keepOlder }
  | .latch r => s.modNv fun n => { n with lat := tmod {} n.lat r.val fun x => x.keepOlder }

/-- The verify of a write fails `n` times with no spare sector left: each is logged (R631). -/
def State.verifyFails (s : State) (n : Nat) : State := forN n (fun _ s => s.logEv 0x0006 0 0x0A30) s

/-- A write to MRAM fails verification: its sector is remapped to a spare (R629); with none left the write is retried at the same sector, and
after three failures the older copy of the object stays in force (R631). -/
def State.sectorSpared (s : State) (x : MramFail) : State :=
  if s.nv.bist.mramSpare = 0 then
    let s := s.verifyFails (max 1 (min x.tries 3))
    match x.obj with
    | some o => if 3 ≤ x.tries then s.olderStands o else s
    | none => s
  else
  let s := s.modBistNv fun n => { n with mramSpare := n.mramSpare - 1, mramSpared := n.mramSpared + 1 }
  let s := (s.wr BIST_MRAM_SPARE.VALUE s.nv.bist.mramSpare).wr BIST_MRAM_SPARED_CNT.VALUE s.nv.bist.mramSpared
  s.logEv 0xA006 x.sec.val s.nv.bist.mramSpare

/-- The registers that show the spares (R624 to R629). The highest erase count lies above the mean by an open amount within the
bound of R628. -/
def State.spareRegs (s : State) : State :=
  let n := s.nv.bist
  let avg := n.erases / 16384
  let s := (s.wr BIST_NAND_SPARE.VALUE n.nandSpare).wr BIST_NAND_RETIRED.VALUE n.nandRetired
  let s := (s.wr BIST_NAND_PE_AVG.VALUE avg).wr BIST_NAND_PE_MAX.VALUE (avg + Config.wearAbove n.erases % (avg / 20 + 101))
  let s := (s.wr BIST_NAND_LIFE.VALUE (min 255 (avg * 100 / 30000))).wr BIST_MRAM_SPARE.VALUE n.mramSpare
  s.wr BIST_MRAM_SPARED_CNT.VALUE n.mramSpared

/-- A NAND block is retired onto a spare, or, with none left, onto a free record block, and marked bad (R625, R627). A block that is marked bad
holds nothing any more. -/
def State.nandRetired (s : State) (blk : Nat) : State :=
  if s.nv.bist.nandBad.contains blk then s else
  let s := s.modBistNv fun n => { n with nandBad := blk :: n.nandBad, nandRetired := n.nandRetired + 1 }
  if 0 < s.nv.bist.nandSpare then
    let s := (s.modBistNv fun n => { n with nandSpare := n.nandSpare - 1 }).spareRegs
    s.logEv 0xA005 blk s.nv.bist.nandSpare
  else
    let s := if s.storeFree < 262144 then (s.deleteOldest).getD s else s
    let s := (s.modBistNv fun n => { n with nandLost := n.nandLost + 1 }).spareRegs
    s.storeRegs.logEv 0xA005 blk 65536

/-- NAND blocks are erased: wear, with a report of each whole percent from 80 on (R628). -/
def State.erased (s : State) (k : Nat) : State :=
  let s := (s.modBistNv fun n => { n with erases := n.erases + k }).spareRegs
  let life := s.nv.bist.erases / 16384 * 100 / 30000
  if 80 ≤ life ∧ s.nv.bist.life < life then
    (s.modBistNv fun n => { n with life := life }).logEv 0xA005 0xFFFF (65536 * (life % 256))
  else s

/-- A record block finishes draining (R448): the NAND blocks it takes are erased first. -/
def State.blockDrained (s : State) (i : Nat) : State :=
  let b := s.nv.rec'.bytes
  let s := s.recDrain i
  let k := s.nv.rec'.bytes / 262144 - b / 262144
  if k = 0 then s else s.erased k

end Sys2Proof.Machine
end

