-- ==== Sys2Proof/Machine/Maint.lean ====
section
/-! DEFINITION. Maintenance mode (R595, R596). -/
namespace Sys2Proof.Machine
open Reg

/-- Maintenance mode ends for a reason (R596): the TEST marking is removed, MAINT_EXIT is logged; each row's force ends at its next
evaluation (R368). -/
def State.maintExit (s : State) (v : Nat) : State :=
  if !s.maint then s else
  let s := (s.wr HOST_STATUS.MAINT 0).modHost fun h => { h with maintEnd := 0 }
  let s := if v = 0 then s else s.cause 2
  let s := s.logEv 0x0005 0 v
  let s := (s.wr KNOT_TM_FORCE_EN.MASK 0).wr KNOT_TM_FORCE_VAL.MASK 0
  ((s.wr AFE_TESTMARK_LO.MASK 0).wr AFE_TESTMARK_HI.MASK 0).alive

/-- The lease of maintenance mode expires (R595, R596). -/
def State.maintLease (s : State) : State := if s.maint then (s.atTime s.host.maintEnd).maintExit 1 else s

/-- MAINT_MODE (R595). -/
def cmdMaintMode (s : State) (_q : Bool) (p : Packet) : CmdRes :=
  let lease := p.word 1
  if p.len ≠ 8 then s.badLength
  else if p.target.toNat ≠ 0 then s.badTarget 0
  else if s.role = 3 then s.busy 21
  else if (p.word 0).testBit 0 then
    if lease < 60 ∨ 86400 < lease then s.badTarget 29 else
    let s := (s.wr HOST_STATUS.MAINT 1).modHost fun h => { h with maintEnd := s.grid.now + lease * second }
    ((s.logEv 0x0004 0 lease).alive).ok
  else (s.maintExit 0).ok

end Sys2Proof.Machine
end

