-- ==== Sys2Proof/Machine/Lumko.lean ====
section
/-! DEFINITION. The Lumko link's frames and the snapshot as bytes (R491 to R494, R505). -/
namespace Sys2Proof.Machine
open Reg

/-! ### Frames (R491, R493) -/

/-- A field of `n` bytes at an offset, little-endian. -/
def leAt (l : List Byte) (off n : Nat) : Nat := ofLe ((l.drop off).take n)

/-- Header and payload of a frame of a TYPE (R491); LENGTH is that of the payload (DEDUCED, log entry 125). -/
def LkFrame.bytes (f : LkFrame) (type : Nat) : List Byte :=
  leBytes 1 type ++ leBytes 1 f.ver ++ leBytes 2 f.pay.length ++ leBytes 4 f.seq ++ f.pay

/-- The frame with its CRC-32C, as it goes over the link. -/
def LkFrame.wire (f : LkFrame) (type : Nat) : List Byte := f.bytes type ++ leBytes 4 (crc32c (f.bytes type))

/-- The bytes that go over lane 0 or lane 1: they alternate (R491). -/
def laneBytes (lane : Nat) (l : List Byte) : List Byte := (l.zipIdx.filter fun x => x.2 % 2 == lane).map (·.1)

/-- A frame is taken (R491): it arrives on lanes with symbol lock, its CRC is good, its payload has at most 2,048 bytes. -/
def State.takesFrame (s : State) (type : Nat) (f : LkFrame) (crc : BitVec 32) : Bool :=
  s.pair.hears && decide (f.pay.length ≤ 2048) && crc.toNat == crc32c (f.bytes type)

/-- A frame leaves (R491). Its VER is the version in use, 1 before one is agreed, and frames are numbered as they are formed (DESIGN CHOICE,
log entry 125). -/
def State.sendFrame (s : State) (type : Nat) (pay : List Byte) : State :=
  s.modPair fun p => { p with sent := some (type, { ver := max 1 p.ver, seq := p.txSeq, pay := pay }), txSeq := p.txSeq + 1 }

/-- The payload of a HELLO (R493); the widths of the version mask and of the rank, a byte each, are not stated (DESIGN CHOICE, log
entry 125). -/
def Hello.bytes (h : Hello) : List Byte := leBytes 1 (h.vers % 4) ++ leBytes 1 h.rank ++ leBytes 8 h.serial ++ leBytes 4 h.fw ++ leBytes 8 h.dig

/-- A HELLO read from its payload. -/
def Hello.ofBytes (l : List Byte) : Hello :=
  { vers := leAt l 0 1 % 4, rank := leAt l 1 1, serial := leAt l 2 8, fw := leAt l 10 4, dig := leAt l 14 8 }

/-- The 64 bytes of a HEARTBEAT (R494). -/
def Heartbeat.bytes (h : Heartbeat) : List Byte :=
  leBytes 1 (h.role % 8 + 8 * (h.rank % 2) + 16 * b2n h.ready + 32 * b2n h.assert_ + 64 * b2n h.ho) ++ leBytes 1 h.word ++ leBytes 2 h.nr
    ++ leBytes 8 h.s ++ leBytes 8 h.e ++ leBytes 4 h.w ++ leBytes 8 h.tickN ++ leBytes 8 h.tickAt ++ leBytes 4 h.snap ++ leBytes 8 h.dig
    ++ leBytes 4 h.inDig ++ leBytes 1 h.proof ++ leBytes 1 h.pSeen ++ leBytes 1 h.code ++ leBytes 5 0

/-- A HEARTBEAT read from its payload (R494). -/
def Heartbeat.ofBytes (l : List Byte) : Heartbeat :=
  let b := leAt l 0 1
  { role := b % 8, rank := b / 8 % 2, ready := b.testBit 4, assert_ := b.testBit 5, ho := b.testBit 6, word := leAt l 1 1, nr := leAt l 2 2,
    s := leAt l 4 8, e := leAt l 12 8, w := leAt l 20 4, tickN := leAt l 24 8, tickAt := leAt l 32 8, snap := leAt l 40 4, dig := leAt l 44 8,
    inDig := leAt l 52 4, proof := leAt l 56 1, pSeen := leAt l 57 1, code := leAt l 58 1 }

/-- The unit sends a handover code (R492, R518, R519): in a HANDOVER frame under version 2, in its heartbeats under version 1. -/
def State.tellHandover (s : State) (code : Nat) : State :=
  if s.pair.ver = 1 then s.modPair fun p => { p with code := code }
  else (s.modPair fun p => { p with code := 0, sentHo := some code }).sendFrame 5 (leBytes 1 code)

/-! ### The snapshot as bytes (R505) -/

/-- A rational as numbers. -/
def ratNums (r : Rat) : List Nat := [toBits 64 r.num, r.den]

/-- The state of an element as numbers, without the memory phasor, of which a snapshot holds the age only (R309, R310, R350). -/
def ElmSt.nums : ElmSt → List Nat
  | .oc ph _ age => ph.flatMap (fun p => [b2n p.up, p.acc, p.el, p.hold]) ++ [age]
  | .lv cond was tm hold => cond.map b2n ++ [b2n was, tm, hold]
  | .th theta ih op alarm => ratNums theta ++ ratNums ih ++ [b2n op, b2n alarm]
  | .hr blk was ext on rel => blk.map b2n ++ was.map b2n ++ ext ++ on ++ rel.map b2n
  | .clp st timer fast => [st, timer, fast]
  | .bf was t => [b2n was, t]
  | .ar st n timer reason => [st, n, timer, reason]
  | .sy on t => [b2n on, t]

/-- A slot of `n` bytes that holds the listed numbers, at places the spec does not state. -/
def snapSlot (n sec : Nat) (l : List Nat) : List Byte := (List.range n).map fun o => Config.snapByte sec l o

/-- Zero bytes. -/
def zeroBytes (n : Nat) : List Byte := List.replicate n 0

/-- A section of `cnt` slots of `n` bytes: an instance that is not listed has a slot of zeros. -/
def snapSection {α : Type} (cnt n : Nat) (l : List α) (key : α → Nat) (slot : α → List Byte) : List Byte :=
  (List.range cnt).flatMap fun i => match l.find? fun x => key x == i with
    | some x => slot x
    | none => zeroBytes n

/-- The slot of a bay. -/
def SnapBay.slot (x : SnapBay) : List Byte := snapSlot 64 1 [1, b2n x.shed, b2n x.first, x.grp, x.want, x.cnt]
/-- The slot of an element. -/
def SnapElm.slot (x : SnapElm) : List Byte := snapSlot 64 2 (x.st.nums ++ [x.out])
/-- The slot of a knot: l, wv and q in byte 0, then the two durations, ton and toff, or tp under TMODE 3. The last byte, and the second
duration of such a knot, are 0 (DESIGN CHOICE, log entry 127). -/
def SnapKnot.slot (x : SnapKnot) : List Byte :=
  leBytes 1 (b2n x.l + 2 * b2n x.wv + 4 * b2n x.out) ++ leBytes 5 (if x.pulse then x.tp else x.ton) ++ leBytes 5 (if x.pulse then 0 else x.toff)
    ++ zeroBytes 1
/-- The slot of a trip-matrix row. -/
def SnapRow.slot (x : SnapRow) : List Byte := snapSlot 16 3 [b2n x.cmd, b2n x.lat, b2n x.fh, b2n x.counting, x.pt]
/-- The slot of a recorder instance. -/
def SnapRec.slot (x : SnapRec) : List Byte :=
  snapSlot 64 5 [x.st, x.id, x.trigAt, x.off, x.src, x.post, x.retrig, b2n x.rearm.isSome, (x.rearm.getD (0, 0)).1, (x.rearm.getD (0, 0)).2]

/-- The header, its own CRC-32C last (DESIGN CHOICE, log entry 127). -/
def Snap.header (x : Snap) : List Byte :=
  let h := snapSlot 252 0 [x.ver, x.seq, x.n, x.d, toBits 64 x.tai, x.claim, x.dig, b2n x.ho]
  h ++ leBytes 4 (crc32c h)

/-- The sections of a snapshot, 334,016 bytes in all (R505). -/
def Snap.sections (x : Snap) : List (List Byte) :=
  [x.header, snapSection 64 64 x.bays (·.b) SnapBay.slot, snapSection 2048 64 x.elms (·.e) SnapElm.slot,
   snapSection 16384 12 x.knots (·.q) SnapKnot.slot, snapSection 32 16 x.rows (·.d) SnapRow.slot, snapSlot 64 4 [x.sys], leBytes 128 x.rb,
   snapSection 4 64 x.recs (·.i) SnapRec.slot, snapSection 128 8 x.gp (·.1) fun y => snapSlot 8 6 [y.2.1, b2n y.2.2]]

/-- The snapshot as laid out (R505). -/
def Snap.image (x : Snap) : List Byte := x.sections.flatten

/-- A run of `z` zero bytes that has ended: 16 or more are replaced with a run marker of 4 bytes (R505). -/
def zeroRun (z : Nat) : List Byte := if z < 16 then zeroBytes z else (List.range 4).map (Config.runMark z)

/-- The zero-run encoding of a section, `z` zero bytes having been met (R492, R505). -/
def zeroRuns : List Byte → Nat → List Byte
  | [], z => zeroRun z
  | b :: l, z => if b = 0 then zeroRuns l (z + 1) else zeroRun z ++ b :: zeroRuns l 0

/-- The bytes that go over the link: under version 2 each section has its zero runs encoded (R492, R505). -/
def Snap.encoded (x : Snap) : List Byte := if x.ver = 2 then x.sections.flatMap fun l => zeroRuns l 0 else x.image

/-- The payload of the SNAP_END of a snapshot (R493): sequence, total length, CRC-32C of the snapshot as laid out. -/
def Snap.endPay (x : Snap) : List Byte := leBytes 4 x.seq ++ leBytes 4 x.encoded.length ++ leBytes 4 (crc32c x.image)

/-- The payloads of the frames of a snapshot, each with its TYPE (R493): SNAP_DATA in pieces of 2,040 bytes, and SNAP_END. -/
def Snap.payloads (x : Snap) : List (Nat × List Byte) :=
  let l := x.encoded
  ((List.range ((l.length + 2039) / 2040)).map fun i =>
    (3, leBytes 4 x.seq ++ leBytes 4 (2040 * i) ++ (l.drop (2040 * i)).take 2040))
  ++ [(4, x.endPay)]

/-- The frames of the snapshot being sent, each with its TYPE. -/
def State.snapFrames (s : State) : List (Nat × LkFrame) :=
  match s.pair.snap with
  | some x => x.payloads.zipIdx.map fun y => (y.1.1, { ver := max 1 s.pair.ver, seq := s.pair.snapTx + y.2, pay := y.1.2 })
  | none => []

/-- The bytes that pieces make, each put at its offset; a piece beyond what stands so far leaves a hole, and is lost. -/
def assemble (l : List (Nat × List Byte)) : List Byte :=
  l.foldl (fun a p => if p.1 ≤ a.length then a.take p.1 ++ p.2 ++ a.drop (p.1 + p.2.length) else a) []

end Sys2Proof.Machine
end

