-- ==== Sys2Proof/Machine/Pair.lean ====
section
/-! DEFINITION. The redundant pair: readiness, claims, roles, input digests, takeover (R489 to R530). -/
namespace Sys2Proof.Machine
open Reg

/-! ### Bays and ticks -/

/-- Note the completion of a tick by every bay (R496, R504). -/
def State.pairDone (s : State) : State :=
  match s.doneTick with
  | some n => if n ≠ s.pair.doneN then s.modPair fun p => { p with doneN := n, doneAt := s.grid.now } else s
  | none => s

/-! ### Readiness (R522) -/

/-- The unit's rank. -/
def State.rank (s : State) : Nat := s.rd PAIR_CFG.RANK
/-- The receipt age of the newest good snapshot (R507). -/
def State.snapAge (s : State) : Option Nat := s.pair.good.map fun g => s.grid.now - g.2
/-- The partner shows the rank that the unit has (R489). -/
def State.rankConflict (s : State) : Bool := s.pair.pRank == some s.rank

/-- The NOT_READY mask (R522); a unit that is not paired has reason 6 only. -/
def State.nrMask (s : State) : Nat :=
  let start := s.pwr.phase != .running
  if s.role = 0 then 64 * b2n start else
  let known := s.pair.hello || s.pair.hb.isSome
  let age := match s.snapAge with | some a => decide (25000000 < a) | none => true
  bitsOf [(0, s.rd PAIR_STATUS.LINK == 0), (1, known && s.rd64 PAIR_PDIG_LO.VALUE PAIR_PDIG_HI.VALUE != s.setDig),
    (2, age), (3, !s.pair.proven), (4, decide (10 * s.healthy.length < s.enabledBays.length)),
    (5, s.rd PAIR_STATUS.DETECT == 0), (6, start), (7, s.maint), (8, s.rankConflict)]

/-- Bring PAIR_STATUS.NR and READY up to date; each change is logged (R522; log entry 74). -/
def State.nrUpdate (s : State) : State :=
  let m := s.nrMask
  let old := s.rd PAIR_STATUS.NR
  let ready := s.role == 2 && m == 0
  let s := (s.wr PAIR_STATUS.NR m).wr PAIR_STATUS.READY (b2n ready)
  let s := s.modPair fun p => { p with readyAt := if ready then some (p.readyAt.getD s.grid.now) else none }
  if m ≠ old ∧ s.role ≠ 0 then s.logEv 0x8006 0 m else s

/-- The system signals as the unit sees them now (R357): 0 ACTIVE, 1 MAINT, 2 TRACKING, 3 TIME_LOCKED, 4 FIELD_OK, 5 PAIR_PATH_ALARM,
6 PARTNER_READY, 7 CLAIM_LINE_OK. -/
def State.sysNow (s : State) : Nat :=
  bitsOf [(0, s.role == 4 || (s.role == 0 && s.pwr.prot)), (1, s.maint), (2, s.rd GRID_STATUS.TRK_STATE == 1), (3, s.rd GRID_TQ.LOCKED == 1),
    (4, s.dio.uv == 0 && !s.dio.reset), (5, s.pair.lk.alarm || s.pair.tow.alarm), (6, s.rd PAIR_STATUS.PREADY == 1),
    (7, s.rd DIO_CLAIM_STATUS.LINE_OK == 1)]

/-! ### Claims (R501, R502) -/

/-- The epoch that a claim takes: own epoch, and the partner's as last seen (R502). -/
def nextEpoch (own : Nat) (seen : Option Nat) : Nat :=
  let base := match seen with
    | some e => if 1 ≤ (e + 128 - own) % 128 ∧ (e + 128 - own) % 128 ≤ 64 then e else own
    | none => own
  (base + 1) % 128

/-- The own epoch: the newer good copy (R502). -/
def State.epoch (s : State) : Nat := s.nv.epoch.good.getD 0

/-- The own claim word (R501). -/
def State.claimWord (s : State) : Nat := 2 * s.epoch + s.rank

/-- The unit takes an epoch: it is written to MRAM and shown in its claim word. -/
def State.setEpoch (s : State) (e : Nat) : State :=
  let s := s.modNv fun n => { n with epoch := n.epoch.put (e % 128) }
  s.wr PAIR_CLAIM.OWN s.claimWord

/-- The unit claims (R502): the word goes out with its next command frame, once the epoch stands in MRAM; while writes are withheld the claim
waits (R643). -/
def State.claim (s : State) : State :=
  if s.writesHeld then s.modPwr fun p => { p with owedClaim := true } else
  let seen := if s.pair.word then some (s.rd PAIR_CLAIM.PSEEN / 2) else none
  (s.setEpoch (nextEpoch s.epoch seen)).wr PAIR_CLAIM.ASSERT 1

/-- The command frame that carries a claim reaches the die with the commands of the rows: its gate opens, and TRIP outputs switch on with it
(R408, R419, R425, R502). While the link is lost, no frame reaches the die (R388). -/
def State.claimGate (s : State) : State := if s.dio.link then s.commandRx s.grid.now [] else s

/-! ### Roles (R490, R503, R521) -/

/-- Every bay that runs stops, with the ticks it has evaluated; the trip matrix shows nothing from then on (R381, R464, R503). -/
def State.stopBays (s : State) : State :=
  let rows := forN 32 (fun d s =>
    let r := s.row d
    let x := tget {} s.eval.bay (s.bank.fld KNOT_TM_CFG.BAY d)
    if r = {} then s else s.putRow d { out := Trace.push r.out (if x.run then x.next else s.grid.nextN) 0 }) s
  forL s.runBays (fun b s => s.bayStop b (tget {} s.eval.bay b).next s.grid.now s.bank) rows

/-- The unit enters STANDBY (R490, R524). -/
def State.enterStandby (s : State) : State :=
  let s := (((s.modPwr fun p => { p with owedClaim := false }).setRole 2).wr PAIR_CLAIM.ASSERT 0).wr PAIR_STATUS.HO 0
  let s := s.modPair fun p =>
    { p with standbyAt := s.grid.now, readyAt := none, ho := none, hoTick := none, code := 0, replay := none, good := none, asm := none,
             diff := none, div := [], proven := false, passedAt := none }
  let s := s.modBist fun v => { v with proofAt := none }
  ((s.place s.grid.nextN s.grid.now).alive).nrUpdate

/-- The latches that NVL rows kept are restored, when protection is enabled (R367): from the newer good copy; without one the latch starts
at 0. -/
def State.restoreLatches (s : State) : State :=
  forN 32 (fun d s =>
    if s.rd KNOT_TM_CFG.NVL d = 0 then s else
    match (tget {} s.nv.lat d).good with
    | some true => (s.putRow d { s.row d with lat := true }).logEv 0x5022 d
    | some false => s
    | none => s.wr KNOT_STATUS.STORE_FAIL 1) s

/-- A joining unit becomes the active one (R521): it claims and starts every bay from its reset state. -/
def State.startActive (s : State) : State :=
  let s := (s.claim.setRole 4).modPwr fun p => { p with prot := true }
  let n := s.grid.nextN
  let s := forL s.enabledBays (fun b s => s.bayStart b n) s
  let s := s.restoreLatches
  let s := ((s.logEv 0x0002).logEv 0x8004 3 0).place n s.grid.now
  let s := s.modRec fun r => { r with firstTick := some n }
  (s.alive).nrUpdate

/-- Records close at the last evaluated tick: the unit loses its role (R466). -/
def State.recsLost (s : State) (n : Nat) : State :=
  forN 4 (fun i s =>
    match (s.recInst i).cur with
    | some r =>
      let last := ((r.smp.find? fun x => decide (x.n ≤ n)).map (·.j)).getD r.first
      ((s.recStop i last 3).modInst i fun x => { x with st := 2 }).recRegs i
    | none => s) s

/-- The die reports that a higher partner claim closed its gate (R503). -/
def State.claimLost (s : State) : State :=
  if s.role ≠ 4 then s else
  let own := s.rd PAIR_CLAIM.OWN
  let win := s.dio.claim.pWord
  let planned := s.rd PAIR_STATUS.HO == 1
  let heard := decide (s.pair.lk.miss < 4) && s.pair.lk.hb.isSome || decide (s.pair.tow.miss < 4) && s.pair.tow.hb.isSome
  let s := (s.wr PAIR_CLAIM.ASSERT 0).setEpoch (win / 2)
  let s := s.recsLost (s.doneTick.getD 0)
  let s := s.stopBays
  let s := s.wr PAIR_STATUS.DETECT (if planned then s.rd PAIR_STATUS.DETECT else b2n heard)
  let s := s.enterStandby
  (s.bump PAIR_CLAIMLOST_CNT.VALUE).logEv 0x8005 0 (own + 256 * win)

/-! ### Equivalent inputs (R508, R509) -/

/-- The local channels that enabled bays map, ascending. -/
def State.pairChans (s : State) : List Nat :=
  (List.range 64).filter fun c => s.enabledBays.any fun b => (s.bank.chans b).contains c

/-- The enabled streams. -/
def State.pairSubs (s : State) : List Nat := (List.range 256).filter fun k => s.bank.fld PBUS_SV_CFG.EN k == 1

/-- The channels that are inputs, as a mask. -/
def State.inputMask (s : State) : Nat := idxMask ((List.range 32).filter fun d => s.dir d == 1)

/-- The OR of SETTLING, SELFTEST and TEST of a channel over the ticks in an interval of device time, its start excluded. -/
def State.flagsIn (s : State) (c lo hi : Nat) : Nat :=
  (s.grid.hist.filter fun r => decide (lo * 2 ^ 24 < r.t) && decide (r.t ≤ hi * 2 ^ 24)).foldl
    (fun a r => a ||| ((r.at' c).ssw &&& (bSETTLING + bSELFTEST + bTEST))) 0

/-- The digest of the active bank of a channel. -/
def State.activeDig (s : State) (c : Nat) : Nat :=
  if s.rd FLT_CH_STATUS.ACTIVE c = 0 then s.rd64 FLT_CH_DIGA_LO.VALUE FLT_CH_DIGA_HI.VALUE c
  else s.rd64 FLT_CH_DIGB_LO.VALUE FLT_CH_DIGB_HI.VALUE c

/-- The input summary digest (R508) from its parts. Widths of its items that R508 does not state: log entry 63. -/
def inputDigest (din ok : Nat) (gin ginOk : List Nat) (sv chans : List (Nat × Nat)) (dig : Nat) : Nat :=
  crc32c (leBytes 4 din ++ leBytes 4 ok ++ gin.flatMap (leBytes 4 ·) ++ ginOk.flatMap (leBytes 4 ·)
    ++ sv.flatMap (fun x => leBytes 1 x.1 ++ leBytes 4 x.2) ++ chans.flatMap (fun x => leBytes 2 x.1 ++ leBytes 8 x.2) ++ leBytes 8 dig)

/-- The own interval that ends now and began at device time `lo`, but for the flags of its grid samples (R508). -/
def State.intervalEnd (s : State) (lo : Nat) : IntervalEnd :=
  let m := s.inputMask
  let w := List.range 128
  { lo := lo, hi := s.grid.now, din := s.rd DIO_IN_VAL.MASK &&& m, ok := s.rd DIO_IN_OK.MASK &&& m,
    gin := w.map fun i => s.rd PBUS_GIN_VAL.VALUE i, ginOk := w.map fun i => s.rd PBUS_GIN_OK.VALUE i,
    sv := s.pairSubs.map fun k => (s.rd PBUS_SV_STATUS.STATE k, (s.svSub k).gone - tget 0 s.pair.gone k),
    chans := s.pairChans.map fun c => (c, s.activeDig c), dig := s.setDig }

/-- The digest of an own interval, taken once the grid samples of its ticks stand (R508): local samples come up to τ and 64 µs after
their ticks. -/
def State.ownDigest (s : State) (e : IntervalEnd) : Nat :=
  inputDigest e.din e.ok e.gin e.ginOk e.sv (e.chans.map fun x => (s.flagsIn x.1 e.lo e.hi, x.2)) e.dig

/-- The digest over the mapped interval of the partner, from the ticks kept and on the settings of its end: what the latest tick in it holds
stands for the values, banks and settings at its end (DESIGN CHOICE, log entry 63). -/
def State.mappedDigest (s : State) (lo hi : Nat) : Nat :=
  let at' := fun (t : Nat) => (s.grid.hist.find? fun r => decide (r.t ≤ t * 2 ^ 24)).getD {}
  let a := at' lo
  let z := at' hi
  let u := s.asAt z.n
  let m := u.inputMask
  let w := List.range 128
  inputDigest (z.inp.din &&& m) (z.inp.dinOk &&& m) (w.map fun i => tget 0 z.inp.gin i) (w.map fun i => tget 0 z.inp.ginOk i)
    (u.pairSubs.map fun k => ((tget (0, 0) z.sv k).1, (tget (0, 0) z.sv k).2 - (tget (0, 0) a.sv k).2))
    (u.pairChans.map fun c => (s.flagsIn c lo hi, tget 0 z.dig c)) (s.digAt z.n)

/-- Compare the partner's digest of the interval that ends at its device time `e` (R509): θ maps it to the own grid. Two intervals that
differ make divergent ticks only if the one follows the other. -/
def State.compareInputs (s : State) (e dig : Nat) (theta : Int) : State :=
  let lo := ((e : Int) - 125000 - theta).toNat
  let hi := ((e : Int) - theta).toNat
  if dig = s.mappedDigest lo hi then s.modPair fun p => { p with diff := none } else
  let was := s.pair.diff.filter fun d => d.1 + 125000 == e
  let s := s.modPair fun p => { p with diff := some (e, lo, hi) }
  match was with
  | some d => (s.modPair fun p => { p with div := ((lo, hi) :: d.2 :: p.div).take 512 }).bump PAIR_DIV_CNT.VALUE
  | none => s

/-- The process-bus channels that enabled bays map, ascending. -/
def State.pairBus (s : State) : List Nat :=
  (List.range 512).filter fun g => decide (64 ≤ g) && s.enabledBays.any fun b => (s.bank.chans b).contains g

/-- The flags of a process-bus channel that break equivalent inputs (R243): LATE, SUBSTITUTED, and those of the source's quality; DEDUCED, log
entry 113. -/
def busDiffers (x : Smp) : Bool := x.inv || hasBit x.ssw (bLATE + bSUBST + bQUEST + bCLIPPED + bTEST)

/-- A tick is divergent: its instant lies in a divergent interval (R509), or the unit's own flags make it so: a mapped local channel settles,
is under test or fades between banks (R115, R196), or a mapped process-bus channel carries flags of R243. -/
def State.divergent (s : State) (r : TickRec) : Bool :=
  let u := s.asAt r.n
  s.pair.div.any (fun d => decide (d.1 * 2 ^ 24 < r.t) && decide (r.t ≤ d.2 * 2 ^ 24))
    || u.pairChans.any (fun c => (r.at' c).fade || hasBit (r.at' c).ssw (bSETTLING + bSELFTEST))
    || u.pairBus.any fun g => busDiffers (r.at' g)

/-! ### Location (R499, R500) -/

/-- The mean of the latest θ in units of 2^-24: partner's device time minus own (R499). -/
def State.theta24 (s : State) : Int :=
  match s.pair.thetas with
  | [] => 0
  | l => openDiv 120 (l.foldl (· + ·) 0 * 2 ^ 24) l.length

/-- An instant of the partner's device time in own device time, 2^-24 units. -/
def State.mapBack (s : State) (x : Nat) : Nat := ((x : Int) * 2 ^ 24 - s.theta24).toNat

/-- The latest own tick at or before an instant (2^-24 units) (R500). -/
def State.tickAtOrBefore (s : State) (t : Nat) : Option TickRec := s.grid.hist.find? fun r => decide (r.t ≤ t)

/-- The oldest tick of the replay buffer: 100 ms of device time (R510). -/
def State.oldestTick (s : State) : Option TickRec :=
  (s.grid.hist.takeWhile fun r => decide (s.grid.now * 2 ^ 24 ≤ r.t + 25000000 * 2 ^ 24)).getLast?

/-! ### Loading a snapshot (R309, R310, R350, R359, R381, R465, R511) -/

/-- The stored V1 of bay `b` after loading for the memory age `age` at tick `m` (R310): the V1 that this unit stored for the tick lying that
age before it; `none` when that tick lies outside the replay buffer. -/
def State.loadMemory (s : State) (b m age : Nat) : Option (Int × Int × Nat) :=
  match s.oldestTick with
  | none => none
  | some o =>
    if m < o.n + age then none else
    let v := s.seqComp b true 1 (m - age)
    some (v.re, v.im, v.psw)

/-- Load an element as the committed state of tick `m`; says whether its memory lay outside the replay buffer (R310). The age 65,535, at which
the age saturates, says that the element holds no memory: it is expired, and nothing of it lay in the buffer (DEDUCED, log entry 43). -/
def State.loadElm (s : State) (m : Nat) (x : SnapElm) : State × Bool :=
  let y : ElmSt × Bool := match x.st with
    | .oc ph _ age =>
      if age = 65535 then (.oc ph none age, false) else
      match s.loadMemory ((s.bankAt m).fld ELM_CFG.BAY x.e) m age with
      | some v => (.oc ph (some v) age, false)
      | none => (.oc ph none 65535, true)
    | st => (st, false)
  let old := ((tfind s.eval.elm x.e).map (·.out)).getD []
  ((s.modEval fun v => { v with elm := tset v.elm x.e { st := y.1, out := Trace.push old m x.out } }), y.2)

/-- Load a knot as the committed state of tick `m`. -/
def State.loadKnot (s : State) (m : Nat) (x : SnapKnot) : State :=
  let old := (tget {} s.eval.knot x.q).out
  let k : Knot := { l := x.l, wv := x.wv, q := x.out, ton := if x.pulse then 0 else x.ton, toff := if x.pulse then 0 else x.toff,
                    tp := if x.pulse then x.tp else 0, out := Trace.push old m (b2n x.out) }
  (s.modEval fun v => { v with knot := tset v.knot x.q k }).wrBit KNOT_OUT.VALUE x.q x.out

/-- Load a trip-matrix row as the committed state of tick `m`. -/
def State.loadRow (s : State) (m : Nat) (x : SnapRow) : State :=
  let old := s.row x.d
  s.putRow x.d { cmd := x.cmd, lat := x.lat, fh := x.fh, counting := x.counting, pt := x.pt, out := Trace.push old.out m (b2n x.cmd) }

/-- Load a bay: it evaluates tick m + 1 next, unless its snapshot or this unit has it shed (R259). -/
def State.loadBay (s : State) (m : Nat) (x : SnapBay) : State :=
  let shed := x.shed || (tget {} s.eval.bay x.b).shed
  let s := s.modEval fun v => { v with bay := tmod {} v.bay x.b fun y =>
    { y with run := !shed, next := m + 1, first := x.first, shed := shed, grp := Trace.push y.grp m (x.grp + 1), want := x.want, cnt := x.cnt } }
  ((s.wr BAY_STATUS.SHED (b2n shed) x.b).wr SET_GRP_ST.ACTIVE x.grp x.b).wr SET_GRP_ST.WANT x.want x.b

/-- Resume a recorder instance (R465): a record in progress starts under an own ID with the partner's as predecessor, at the partner's trigger
tick and j0 offset; a latched trigger stands in REARM; an instance that was idle or armed is so again. -/
def State.loadRec (s : State) (x : SnapRec) : State :=
  let i := x.i
  let own := (s.recInst i).st
  let s := if own = 0 ∨ x.st = 0 then s
    else if x.st = 1 then (if own = 1 then s else (s.recClear i).modInst i fun k => { k with st := 1 })
    else if own = 1 then s.recArm i else s
  if (s.recInst i).st < 2 then s.recRegs i else
  let at' := fun (d : Nat) => s.tickAtOrBefore (s.mapBack d)
  let s := match x.st, at' x.trigAt with
    | 3, some r =>
      match (s.recInst i).hist.find? fun (h : RecSmp) => h.j == s.recFrom i r.n + x.off with
      | some h =>
        let s := s.recBegin i { t := r.t, src := x.src } h (some x.id)
        let f := fun (r : Record) => { (r.set 5 false).set 9 with last := h.j + x.post, retrig := x.retrig }
        s.modInst i fun k => { k with cur := k.cur.map f }
      | none => s
    | 4, _ => s.modInst i fun k => { k with st := 4, rearm := some (s.grid.now * 2 ^ 24, rearmEndOf (s.grid.now * 2 ^ 24)) }
    | _, _ => s
  let s := match x.rearm.bind fun y => (at' y.1).map fun r => (r.t, y.2) with
    | some (t, src) => let tr : RecTrig := { t := t, src := src }; s.modInst i fun k => { k with trig := k.trig ++ [tr] }
    | none => s
  s.recRegs i

/-- Start every bay from its reset state at tick m + 1 for want of a snapshot (R517). -/
def State.loadReset (s : State) (m : Nat) : State :=
  let s := forL (s.asAt (m + 1)).enabledBays (fun b s => s.bayStart b (m + 1)) s
  s.restoreLatches

/-- The stored system signals that replay holds (R513): 0 and 5 to 7. -/
def heldSignals : Nat := 0xE1

/-- Load a snapshot at tick `m`. -/
def State.loadSnap (s : State) (m : Nat) (x : Snap) : State × Bool :=
  let s := forL x.bays (fun b s => s.loadBay m b) s
  let r := x.elms.foldl (fun (r : State × Bool) e => let y := r.1.loadElm m e; (y.1, r.2 || y.2)) (s, false)
  let s := forL x.knots (fun k s => s.loadKnot m k) r.1
  let s := forL x.rows (fun d s => s.loadRow m d) s
  let s := s.modPbus fun p => { p with gp := x.gp.foldl (fun g y => tmod {} g y.1 fun z => { z with sent := none, tick := none }) p.gp }
  (forL x.gp (fun y s => s.wr PBUS_GP_STNUM.VALUE y.2.1 y.1) s, r.2)

/-! ### Takeover (R511 to R519, R529) -/

/-- The conditions of R529 that the present state fails: 3 the claim line, 5 the supplies. -/
def State.pairNow (s : State) : Nat :=
  bitsOf [(3, s.rd DIO_CLAIM_STATUS.LINE_OK == 0),
    (5, decide (2 ≤ s.dio.uv) || s.dio.reset || s.rd PWR_STATUS.VMAIN_WARN == 1 || s.rd PWR_STATUS.VAFE_LOW == 1)]

/-- Note the conditions of R529 that fail while a replay runs. -/
def State.pairWatch (s : State) : State :=
  match s.pair.replay with
  | some r => s.modPair fun p => { p with replay := some { r with deg := r.deg ||| s.pairNow } }
  | none => s

/-- The conditions of R529 that fail at the declaration: 0 detection, 1 snapshot age. -/
def State.degAtStart (s : State) (last : Nat) (snap : Option (Snap × Nat)) : Nat :=
  let late := decide (520000 < s.grid.now - last)
  let slow := match s.pair.hb with | some (h, _) => decide (500000 < h.s - h.tickAt) | none => false
  let old := match snap with | some (_, r) => decide (5000000 < last - r) | none => true
  bitsOf [(0, late || slow), (1, old)]

/-- Replay begins: the newest good snapshot is located and loaded (R511, R512, R517). `src` is the source of TAKEOVER, `last` the
last heartbeat. -/
def State.startReplay (s : State) (src last : Nat) : State :=
  let snap := s.pair.good
  let deg := if src = 0 then s.degAtStart last snap ||| s.pairNow else s.pairNow
  let s := (s.setRole 3).modPair fun p => { p with asm := none }
  let s := forN 64 (fun b s => s.wr BAY_STATUS.REPLAY 1 b) s
  let s := if s.bist.host.isSome then s.blockEnd 2 0 else s
  -- every test of an engine stops, on a failed engine too (R524, R526)
  let s := forN 9 (fun k s => s.engStop k) s
  let s := s.modPwr fun p => { p with prot := true }
  match s.oldestTick with
  | none => s.modPair fun p => { p with replay := some { m := s.grid.nextN - 1, dt0 := none, src := src,
                                                                 deg := deg ||| bitsOf [(2, snap.isSome)], lastHb := last } }
  | some o =>
    let at' := snap.map fun g => s.mapBack g.1.d
    let loc := at'.bind fun t => (s.tickAtOrBefore t).map fun r => (t, r)
    -- a snapshot tick before the buffer: replay from the oldest tick with dt of one period
    let m := match loc with | some (_, r) => if r.n < o.n then o.n - 1 else r.n | none => o.n - 1
    let early := match loc with | some (_, r) => decide (r.n < o.n) | none => snap.isSome
    let first := s.tickRec? (m + 1)
    let per := (first.map fun r => r.per / 2 ^ 24).getD 0
    let dt0 := match loc, first with
      | some (t, r), some f => if r.n < o.n then per else f.t / 2 ^ 24 - t / 2 ^ 24
      | _, _ => per
    let y := match snap with | some g => s.loadSnap m g.1 | none => (s.loadReset m, false)
    -- a swap tick in the replay span is turned to when the bays come to it (R558)
    let s := (y.1.modEval fun v =>
      { v with chg := match s.prev with | some (_, first) => if m < first then List.range 64 else v.chg | none => v.chg }).turnBays
    let s := s.modRec fun r => { r with firstTick := some (m + 1), replayed := none }
    let s := forN 4 (fun i s => s.modInst i fun k => { k with tick := min k.tick (m + 1) }) s
    let deg := deg ||| bitsOf [(2, early || y.2)]
    let sys := (snap.map fun g => g.1.sys &&& heldSignals).getD 0
    let rb := (snap.map fun g => g.1.rb).getD 0
    let rp : Replay := { m := m, dt0 := some dt0, src := src, deg := deg, lastHb := last, sys := sys, rb := rb,
                         recs := (snap.map fun g => g.1.recs).getD [] }
    let s := s.modPair fun p => { p with replay := some rp }
    (s.place (m + 1) s.grid.now).nrUpdate

/-- A tick record as replay uses it: the held signals, REPLAYED on every mapped channel's sample (R52, R276, R513). -/
def State.markReplayed (s : State) (n sys : Nat) : State :=
  let s := s.modGrid fun g => { g with hist := g.hist.map fun r =>
    if r.n = n then
      { r with inp := { r.inp with sys := andNot r.inp.sys heldSignals ||| sys },
               smp := r.smp.map fun x => (x.1, { x.2 with ssw := x.2.ssw ||| bREPLAYED }) }
    else r }
  forL (((s.tickRec? n).map (·.smp)).getD []) (fun e s => s.showSsw e.1) s

/-- The recorder writes the binary values of a replayed tick into the history and takes the tick's triggers, which are processed once the
recorders resume (R466, R515). -/
def State.recReplay (s : State) (n : Nat) : State :=
  let s := s.modRec fun r => { r with replayed := some (match r.replayed with | some (a, b) => (min a n, max b n) | none => (n, n)) }
  match s.tickRec n with
  | none => s
  | some r =>
    forN 4 (fun i s =>
      if (s.recInst i).st < 2 then s else
      let bin := bitsOf ((List.range (s.rd REC_CFG.NB i)).map fun b => (b, s.binAt r (s.rd REC_BIN_SEL.VALUE i b)))
      let fix := fun (x : RecSmp) => if x.n = n ∧ !x.gap then { x with bin := bin } else x
      (s.modInst i fun k => { k with hist := k.hist.map fix }).recTicks i n 512) s

/-- After the claim the recorders resume (R465, R515), and what the replayed ticks triggered is processed. -/
def State.recResume (s : State) (l : List SnapRec) : State :=
  let s := forL l (fun x (s : State) => s.loadRec x) s
  forN 4 (fun i s => match (s.recInst i).hist.head? with
    | some h => if (s.recInst i).st < 2 then s else (s.recSettle i h.j).recRegs i
    | none => s) s

/-- What a replay built up is given up, the triggers of its ticks too, and nothing is logged for it (R519). -/
def State.dropReplay (s : State) : State :=
  let s := forN 4 (fun i s => s.modInst i fun k => { k with trig := k.trig.filter fun t => t.src / 2 ^ 16 != 0 }) s
  ((s.modRec fun r => { r with firstTick := none, replayed := none }).modEval fun v =>
    { v with elm := v.elm.map fun x => (x.1, { x.2 with st := x.2.st.quiet }) }).stopBays

/-- A planned handover ends without a change of roles (R519): the standby sends ABORT. -/
def State.abortHandover (s : State) : State :=
  let s := if s.role = 3 then s.dropReplay else s
  let s := (s.wr PAIR_STATUS.HO 0).setRole (if s.role = 3 then 2 else s.role)
  let s := forN 64 (fun b s => s.wr BAY_STATUS.REPLAY 0 b) s
  let s := (s.modPair fun p => { p with ho := none, replay := none, readyAt := p.readyAt.map fun _ => s.grid.now }).tellHandover 3
  (s.place s.grid.nextN s.grid.now).nrUpdate

/-- The next tick of a replay, once every running bay has its inputs (R513). -/
def State.replayDue (s : State) : Option TickRec :=
  match s.pair.replay with
  | none => none
  | some _ =>
    if s.role ≠ 3 then none else
    match s.bayFront with
    | none => none
    | some n => (s.tickRec? n).filter fun r => s.runBays.all fun b => s.bayReady b r

/-- The replaying unit evaluates its next buffered tick (R512, R513, R519). -/
def State.replayTick (s : State) : State :=
  let s := s.detectors
  match s.pair.replay, s.replayDue with
  | some p, some r =>
    let bad := s.divergent r
    if bad && p.src != 0 then s.abortHandover else
    let s := s.markReplayed r.n p.sys
    match s.tickRec? r.n with
    | none => s
    | some r =>
      let dt := if r.n = p.m + 1 then p.dt0.getD (s.tickDt r) else s.tickDt r
      let s := s.modLog fun l => { l with replayed := true }
      let s := forL s.runBays (fun b s => if (tget {} s.eval.bay b).next = r.n then s.evalNow b r dt else s) s
      let s := s.idleRowsAt r
      let s := s.recReplay r.n
      let s := s.modLog fun l => { l with replayed := false }
      let q : Replay := { p with count := p.count + 1, deg := p.deg ||| (if bad then 16 else 0) }
      (s.modPair fun x => { x with replay := some q }).pairWatch.pairDone
  | _, _ => s

/-- At the claim, an enabled TRIP row whose command is 0 and whose channel reads high takes its command again (R514). -/
def State.keepTrips (s : State) (rb n : Nat) : State :=
  forN 32 (fun d s =>
    let r := s.row d
    if s.rd KNOT_TM_CFG.EN d = 1 ∧ s.rd KNOT_TM_CFG.CLASS d = 0 ∧ !r.cmd ∧ (padBit rb d || padBit s.dio.frame d) then
      let r := { r with cmd := true, pt := 0, counting := false, lat := r.lat || s.rd KNOT_TM_CFG.LATCH d == 1, out := Trace.push r.out n 1 }
      ((s.putRow d r).logEv 0x5020 d 0).bump KNOT_TM_OPCNT.VALUE d
    else s) s

/-- Every enabled publication starts with a state change on the values of the takeover tick (R244). -/
def State.startGoose (s : State) (n : Nat) : State :=
  forN 128 (fun q s =>
    if s.rd PBUS_GP_CFG.EN q = 0 then s else
    let v := s.gpVals q n
    let s := s.gpChange q v (s.taiOf s.grid.now)
    s.setGp q { s.gpSt q with tick := some n }) s

/-- Replay has caught up: the unit claims, and at device time `t` its gate opens (R511, R514, R515, R518, R526, R530). -/
def State.replayCatchUp (s : State) (t : Nat) : State :=
  match s.pair.replay with
  | none => s
  | some p =>
    if s.role ≠ 3 ∨ s.replayDue.isSome then s else
    let n := s.doneTick.getD s.grid.nextN
    -- the rows of stopped bays come up to the newest tick; from then on they follow it
    let s := forL (s.grid.hist.takeWhile fun r => decide (s.doneTick.getD p.m < r.n)).reverse (fun r s => s.idleRowsAt r) s
    let s := s.pairWatch
    let deg := ((s.pair.replay.map (·.deg)).getD p.deg)
    if p.src ≠ 0 ∧ deg ≠ 0 then s.abortHandover else
    let s := s.keepTrips p.rb n
    let s := s.claim
    let s := s.maintExit 2
    let s := (s.atTime t).setRole 4
    let s := s.claimGate
    let s := forN 64 (fun b s => s.wr BAY_STATUS.REPLAY 0 b) s
    let s := (s.modPair fun x => { x with replay := none, ho := none, code := 0, snapAt := s.grid.now / 5000000 }).wr PAIR_STATUS.HO 0
    let s := (s.startGoose n).recResume p.recs
    let s := s.logEv 0x8004 p.src p.count
    let s := if p.src = 2 then s.logEv 0x8008 0 s.epoch else s
    let s := if p.src = 0 then
        let s := (s.wr PAIR_DEG_MASK.COND deg).wr PAIR_DEG_MASK.CLASS 1
        if deg = 0 then s else s.logEv 0x8007 1 deg
      else s
    let s := ((s.bump PAIR_TO_CNT.VALUE).wr PAIR_TO_TIME.VALUE (min ((s.grid.now - p.lastHb) / 250) (2 ^ 32 - 1))).wr PAIR_TO_REPLAY.VALUE p.count
    (((s.place s.grid.nextN s.grid.now).alive).dioRegs).nrUpdate

end Sys2Proof.Machine
end

