-- ==== Sys2Proof/Machine/PairLink.lean ====
section
/-! DEFINITION. The Lumko link, heartbeats, snapshots, handover and the pair's commands (R491 to R507, R518 to R521, R531 to
R533). -/
namespace Sys2Proof.Machine
open Reg

/-! ### The link (R491, R492) -/

/-- The unit takes part in a pair. -/
def State.paired (s : State) : Bool := decide (1 ≤ s.role) && decide (s.role ≤ 4)

/-- The version in use and the state of the link in their registers. -/
def State.linkRegs (s : State) : State :=
  (s.wr PAIR_STATUS.LKVER s.pair.ver).wr PAIR_STATUS.LINK (b2n (s.pair.lock && s.pair.ver != 0))

/-- A lane loses symbol lock: the link is down, and what the HELLO exchange had agreed with it (R491, R492; log entry 66). A snapshot
being assembled is discarded (R507). -/
def State.lumkoLost (s : State) (e : LaneEdge) : State :=
  if !s.pair.locks.getLsbD e.lane.val then s else
  let s := s.atTime e.t
  let s := if s.pair.asm.isSome then s.bump PAIR_SNAP_DROP_CNT.VALUE else s
  let s := s.modPair fun p => { p with locks := p.locks &&& ~~~(1#4 <<< e.lane.val), asm := none, hello := false, ver := 0 }
  if s.paired then s.linkRegs.nrUpdate else s

/-- Every lane has symbol lock: frames are accepted, and the HELLO exchange can agree a version (R491, R492). -/
def State.lumkoGained (s : State) (t : Nat) : State :=
  if s.pair.lock then s else
  let s := s.atTime t
  let s := s.modPair fun p => { p with locks := 15, helloAt := s.grid.now }
  if s.paired then s.linkRegs.nrUpdate else s

/-- The highest version that both units offer (R492). -/
def commonVersion (a b : Nat) : Nat := if a.testBit 1 && b.testBit 1 then 2 else if a.testBit 0 && b.testBit 0 then 1 else 0

/-- A HELLO is due (R492): every 1 ms until one has been received, the first at once when the link gains lock (log entry 67). -/
def State.helloSend (s : State) : State :=
  if !s.paired ∨ s.pair.hello then s else
  let s := s.atTime s.pair.helloAt
  let h : Hello :=
    { vers := s.rd PAIR_CFG.LKV, rank := s.rank, serial := s.rd64 ID_SERIAL_LO.VALUE ID_SERIAL_HI.VALUE, fw := s.rd ID_FW_VER.VALUE, dig := s.setDig }
  (s.modPair fun p => { p with helloAt := s.grid.now + 250000, sentHello := some h }).sendFrame 1 h.bytes

/-- The rank that the partner shows: one equal to the own rank is a conflict (R489). -/
def State.rankSeen (s : State) (rank : Nat) : State :=
  if s.paired then (s.modPair fun p => { p with pRank := some (rank % 2) }).nrUpdate else s

/-- A joining unit hears something of its partner. -/
def State.joinHeard (s : State) : State := if s.role = 1 then s.modPair fun p => { p with heardAt := s.grid.now } else s

/-- A HELLO is received at device time `t` (R491 to R493, R521). -/
def State.helloRx (s : State) (t : Nat) (f : LkFrame) (crc : BitVec 32) : State :=
  if !s.paired ∨ !s.takesFrame 1 f crc ∨ f.pay.length ≠ 22 then s else
  let h := Hello.ofBytes f.pay
  let s := (s.atTime t).modPair fun p => { p with hello := true, ver := commonVersion (s.rd PAIR_CFG.LKV) h.vers }
  (((s.wr64 PAIR_PDIG_LO.VALUE PAIR_PDIG_HI.VALUE h.dig).linkRegs).joinHeard.rankSeen h.rank)

/-! ### Handover (R492, R518, R519) -/

/-- A code that a HANDOVER frame or a heartbeat of the partner carries: 1 REQUEST, 2 OFFER, 3 ABORT. -/
def State.handoverCode (s : State) (code : Nat) : State :=
  let planned := s.rd PAIR_STATUS.HO == 1
  match code, s.role with
  | 1, 4 => if planned then s else (s.wr PAIR_STATUS.HO 1).modPair fun p => { p with hoTick := some p.doneN }
  | 2, 2 =>
    if planned then s
    else if s.rd PAIR_STATUS.READY = 1 then (s.wr PAIR_STATUS.HO 1).modPair fun p => { p with ho := some (1, s.grid.now), code := 0 }
    else s.abortHandover
  | 3, 4 => (s.wr PAIR_STATUS.HO 0).modPair fun p => { p with hoTick := none, code := 0 }
  | _, _ => s

/-- A HANDOVER frame is received (R491, R493); it exists under version 2 only. -/
def State.handoverRx (s : State) (t : Nat) (f : LkFrame) (crc : BitVec 32) : State :=
  if s.rd PAIR_STATUS.LINK = 0 ∨ s.pair.ver ≠ 2 ∨ !s.takesFrame 5 f crc ∨ f.pay.length ≠ 1 then s
  else (s.atTime t).handoverCode (leAt f.pay 0 1)

/-- A standby that is entitled to fail back requests a handover (R520): it has passed a proof cycle since it entered STANDBY and has then
been READY for its hold-off. -/
def State.handoverRequest (s : State) : State :=
  if s.role ≠ 2 ∨ s.rank = 0 ∨ s.rd PAIR_CFG.FAILBACK = 0 ∨ s.rd PAIR_STATUS.HO = 1 then s else
  match s.pair.readyAt, s.pair.passedAt with
  | some t, some u =>
    let s := (s.atTime (max t u + s.rd PAIR_FB_HOLD.VALUE * second)).wr PAIR_STATUS.HO 1
    (s.modPair fun p => { p with ho := some (2, s.grid.now) }).tellHandover 1
  | _, _ => s

/-- A planned handover of a standby is aborted (R519): its snapshot is not good within 10 ms, or the standby is not READY. -/
def State.handoverAbort (s : State) : State :=
  match s.pair.ho with
  | none => s
  | some (_, t) =>
    if s.role = 2 then
      if s.rd PAIR_STATUS.READY = 0 then s.abortHandover else (s.atTime (t + 2500000)).abortHandover
    else if s.role = 3 ∧ s.nrMask ≠ 0 then s.abortHandover
    else s

/-! ### Joining (R521) -/

/-- The unit enters JOINING (R521). -/
def State.enterJoining (s : State) : State :=
  let s := s.setRole 1
  let s := s.modPair fun p => { p with joinAt := s.grid.now, heardAt := s.grid.now, helloAt := s.grid.now }
  (s.alive).nrUpdate

/-- A joining unit hears a heartbeat of its partner on the link (R521). -/
def State.joinHeartbeat (s : State) (role : Nat) : State :=
  if s.role ≠ 1 ∨ s.rankConflict then s
  else if role = 4 then s.enterStandby
  else if role = 1 ∨ role = 2 then (if s.rank = 1 then s.startActive else s.enterStandby)
  else s

/-- A joining unit has heard nothing for 20 ms (R521). -/
def State.joiningTimeout (s : State) : State :=
  if s.role ≠ 1 ∨ s.rankConflict then s else
  let t := max s.pair.joinAt s.pair.heardAt + 5000000
  (s.atTime t).startActive

/-- A valid claim frame of the partner arrives: its word is noted, a rank like the own one is a conflict, a joining unit without a link
adopts an asserted epoch (R489, R502, R521). -/
def State.claimHeard (s : State) : State :=
  let c := s.dio.claim
  if !s.paired then s else
  let s := (s.wr PAIR_CLAIM.PSEEN c.pWord).modPair fun p => { p with word := true }
  let s := s.joinHeard.rankSeen c.pWord
  if s.role = 1 ∧ c.pAssert ∧ s.rd PAIR_STATUS.LINK = 0 then s.setEpoch (c.pWord / 2) else s

/-! ### Heartbeat paths (R497, R498, R503) -/

/-- A path of the unit: false the Lumko link, true the towpath. -/
def State.path (s : State) (tow : Bool) : PathSt := if tow then s.pair.tow else s.pair.lk
/-- A path replaced. -/
def State.setPath (s : State) (tow : Bool) (x : PathSt) : State :=
  let s := s.modPair fun p => if tow then { p with tow := x } else { p with lk := x }
  if tow then s.wr PAIR_STATUS.TOW (b2n (x.miss == 0 && x.hb.isSome)) else s

/-- A heartbeat arrives on a path now (R497, R503). -/
def State.pathHear (s : State) (tow : Bool) : State :=
  let x := s.path tow
  let back := x.alarm && decide (8 ≤ x.ok + 1)
  let s := s.setPath tow { at' := some s.grid.now, hb := some s.grid.now, miss := 0, ok := x.ok + 1, alarm := x.alarm && !back }
  let s := if back then s.logEv 0x8003 (b2n tow) else s
  (s.wr PAIR_STATUS.DETECT 1).joinHeard.nrUpdate

/-- The last heartbeat on either path. -/
def State.lastHeartbeat (s : State) : Nat := max (s.pair.lk.hb.getD 0) (s.pair.tow.hb.getD 0)

/-- The partner is declared failed (R498). -/
def State.partnerFailed (s : State) : State :=
  let last := s.lastHeartbeat
  let s := s.logEv 0x8001 0 ((s.grid.now - last) / 250)
  if s.role = 4 then ((s.wr PAIR_STATUS.HO 0).modPair fun p => { p with hoTick := none, code := 0 }).claim
  else if s.role = 2 then
    ((s.wr PAIR_STATUS.HO 0).modPair fun p => { p with ho := none, code := 0 }).startReplay 0 last
  else if s.role = 3 then
    -- a planned handover continues as a takeover
    let f := fun (r : Replay) => if r.src = 0 then r else { r with src := 0, lastHb := last, deg := r.deg ||| s.degAtStart last s.pair.good }
    (s.wr PAIR_STATUS.HO 0).modPair fun p => { p with replay := p.replay.map f, ho := none, code := 0 }
  else s

/-- 520 us pass without a heartbeat on a path (R497, R498). -/
def State.hbMiss (s : State) (tow : Bool) : State :=
  let x := s.path tow
  match x.at' with
  | none => s
  | some t =>
    if !s.paired then s else
    let s := s.atTime (t + 130000)
    let n := x.miss + 1
    let s := s.setPath tow { x with at' := some (t + 130000), miss := n, ok := 0, alarm := x.alarm || n == 4 }
    let s := if tow then s.bump PAIR_HB_MISS_TOW.VALUE else s.bump PAIR_HB_MISS_LK.VALUE
    if n ≠ 4 then s else
    let s := s.logEv 0x8002 (b2n tow)
    if 4 ≤ (s.path (!tow)).miss ∧ s.rd PAIR_STATUS.DETECT = 1 then s.partnerFailed else s

/-! ### Heartbeats (R494 to R496, R499, R508, R509) -/

/-- A snapshot has left completely (R506). -/
def State.snapSettle (s : State) : State :=
  match s.pair.sending, s.pair.snap with
  | some e, some x =>
    if s.grid.now < e then s else
    let s := s.modPair fun p => { p with sending := none, sentSeq := x.seq }
    (s.wr64 PAIR_SNAP_TICK_LO.VALUE PAIR_SNAP_TICK_HI.VALUE x.n).wr PAIR_SNAP_CNT.VALUE (s.rd PAIR_SNAP_CNT.VALUE + 1)
  | _, _ => s

/-- The unit keeps silent (R496): its supervisor has not asked, or its bays, shed ones too, complete no tick. A unit without an enabled bay
has none that could (DESIGN CHOICE, log entry 128). -/
def State.silent (s : State) : Bool :=
  s.role == 4 && (!s.dio.health || (!s.enabledBays.isEmpty && decide (1000000 < s.grid.now - s.pair.doneAt)))

/-- The heartbeat that the unit sends now (R494). -/
def State.heartbeat (s : State) (inDig : Nat) : Heartbeat :=
  let hb := s.pair.hb
  let n := s.pair.doneN
  { role := s.role, rank := s.rank, ready := s.rd PAIR_STATUS.READY == 1, assert_ := s.rd PAIR_CLAIM.ASSERT == 1, ho := s.rd PAIR_STATUS.HO == 1,
    word := s.rd PAIR_CLAIM.OWN, nr := s.rd PAIR_STATUS.NR, s := s.grid.now, e := (hb.map (·.1.s)).getD 0,
    w := (hb.map fun h => s.grid.now - h.2).getD 0, tickN := n, tickAt := ((s.tickRec n).map fun r => r.t / 2 ^ 24).getD 0,
    snap := s.pair.sentSeq, dig := s.setDig, inDig := inDig, proof := s.rd PAIR_STATUS.PROOF, pSeen := s.rd PAIR_CLAIM.PSEEN,
    code := if s.pair.ver = 1 then s.pair.code else 0 }

/-- The next heartbeat instant (R495). -/
def State.nextHeartbeat (s : State) : Nat :=
  let k := (s.grid.now + 124999) / 125000 * 125000
  if k ≤ s.pair.hbAt then s.pair.hbAt + 125000 else k

/-- A heartbeat is due on both paths (R495, R496): the frame, and one change of TOW_OUT. It carries the digest of the interval that ended
with the heartbeat before it, 0 where there was none (R508). -/
def State.heartbeatSend (s : State) : State :=
  if !s.paired then s else
  let s := (s.atTime s.nextHeartbeat).snapSettle.nrUpdate
  let h := s.heartbeat ((s.pair.ival.map s.ownDigest).getD 0)
  let e := s.intervalEnd s.pair.hbAt
  let quiet := s.silent
  let gone : Tab Nat := s.pairSubs.map fun k => (k, (s.svSub k).gone)
  let s := s.modPair fun p =>
    { p with hbAt := s.grid.now, ival := some e, gone := gone, sentHb := if quiet then p.sentHb else some h }
  if quiet then s else (s.sendFrame 2 h.bytes).modDio fun x => { x with tow := !x.tow }

/-- θ from a heartbeat received now (R499). -/
def State.measureTheta (s : State) (h : Heartbeat) : State :=
  if h.e = 0 then s else
  let r : Int := s.grid.now
  let rtt := r - h.e - h.w
  let theta := (h.s : Int) + rtt / 2 - r
  if 500 < rtt then s else
  let l := (theta :: s.pair.thetas).take 16
  let s := s.modPair fun p => { p with thetas := l }
  s.wr64 PAIR_DT_OFS_LO.VALUE PAIR_DT_OFS_HI.VALUE (toBits 64 (openDiv 121 (l.foldl (· + ·) 0 * 4) l.length))

/-- A heartbeat frame is received at device time `t` (R489, R491, R494, R497, R499, R508, R509, R521). Its rank bit tells the partner's
rank as a HELLO does (DEDUCED, log entry 126). -/
def State.heartbeatRx (s : State) (t : Nat) (f : LkFrame) (crc : BitVec 32) : State :=
  if !s.paired ∨ s.rd PAIR_STATUS.LINK = 0 ∨ !s.takesFrame 2 f crc ∨ f.pay.length ≠ 64 then s else
  let h := Heartbeat.ofBytes f.pay
  let s := ((s.atTime t).pathHear false).rankSeen h.rank
  let s := s.measureTheta h
  let s := s.modPair fun p => { p with hb := some (h, s.grid.now), word := true }
  let s := (s.wr64 PAIR_PDIG_LO.VALUE PAIR_PDIG_HI.VALUE h.dig).wr PAIR_CLAIM.PSEEN h.word
  let s := (s.wr PAIR_STATUS.PROLE h.role).wr PAIR_STATUS.PREADY (b2n h.ready)
  let s := if s.role = 2 ∧ h.role = 4 then s.compareInputs (h.s / 125000 * 125000 - 125000) h.inDig (openDiv 122 s.theta24 (2 ^ 24)) else s
  let s := if s.pair.ver = 1 ∧ h.code ≠ s.pair.seen then (s.modPair fun p => { p with seen := h.code }).handoverCode h.code else s
  (s.joinHeartbeat h.role).nrUpdate

/-- An edge on TOW_IN, stamped, is a heartbeat of the towpath (R414, R497). -/
def State.towHeartbeat (s : State) (e : LineEdge) : State :=
  if !s.towPasses e then s else
  let s := s.towEdge e.t
  if s.paired then s.pathHear true else s

/-! ### Snapshots (R504 to R507) -/

/-- The snapshot of the state committed at tick `r` (R504, R505). -/
def State.takeSnap (s : State) (r : TickRec) (ho : Bool) : Snap :=
  let k := s.bankAt r.n
  let d := r.t / 2 ^ 24
  let secs := (List.range 64).map fun b => s.secAt b r.n
  let on := secs.filter fun x => k.fld BAY_CFG.EN x.b == 1
  let recs := (List.range 4).map fun i =>
    let x := s.recInst i
    let first := x.trig.foldl (fun (a : Option Nat) y => some (min (a.getD y.t) y.t)) none
    let latched := if x.st = 4 then first.map fun t => (t / 2 ^ 24, x.trig.foldl (fun a y => a ||| y.src) 0) else none
    match x.cur with
    | some c =>
      ({ i := i, st := x.st, id := c.id, trigAt := ((s.tickRec c.tick).map fun y => y.t / 2 ^ 24).getD (c.t / 2 ^ 24),
         off := c.j0 - s.recFrom i c.tick, src := c.src,
         post := c.last - c.j0, retrig := c.retrig, rearm := latched } : SnapRec)
    | none => ({ i := i, st := x.st, rearm := latched } : SnapRec)
  let gp := (List.range 128).filterMap fun q =>
    if s.rd PBUS_GP_CFG.EN q = 1 then some (q, s.rd PBUS_GP_STNUM.VALUE q, true) else none
  { seq := s.pair.seq + 1, n := r.n, d := d, tai := s.taiOf d, claim := s.rd PAIR_CLAIM.OWN, dig := s.setDig, ho := ho, ver := s.pair.ver,
    bays := on.map (·.bay), elms := on.flatMap (·.elms), knots := secs.flatMap (·.knots), rows := secs.flatMap (·.rows),
    sys := r.inp.sys &&& heldSignals, rb := r.inp.rb, recs := recs, gp := gp }

/-- The active unit takes a snapshot (R504, R506, R518): the latest tick completed by all bays, first after a multiple of 20 ms or for a
handover. Of a bay that has gone past that tick, what it had committed then was kept. -/
def State.snapshot (s : State) : State :=
  let s := s.pairDone
  let n := s.pair.doneN
  let k := s.pair.doneAt / 5000000
  let due := decide (s.pair.snapAt < k)
  let ho := match s.pair.hoTick with | some m => decide (m < n) && (due || s.pair.ver == 2) | none => false
  match s.tickRec n with
  | none => s
  | some r =>
    if s.role ≠ 4 ∨ s.runBays.isEmpty ∨ !(due || ho) then s else
    let s := s.snapSettle
    let x := s.takeSnap r ho
    let s := if s.pair.sending.isSome then s.bump PAIR_SNAP_DROP_CNT.VALUE else s
    s.modPair fun p =>
      { p with snap := some x, seq := x.seq, sending := some (s.grid.now + 725000), snapAt := if due then k else p.snapAt,
               hoTick := if ho then none else p.hoTick, snapTx := p.txSeq, txSeq := p.txSeq + x.payloads.length }

/-- A SNAP_DATA frame is received (R491, R493, R506): sequence, byte offset and bytes of the snapshot. -/
def State.snapData (s : State) (t : Nat) (f : LkFrame) (crc : BitVec 32) : State :=
  if s.role ≠ 2 ∨ s.rd PAIR_STATUS.LINK = 0 ∨ !s.takesFrame 3 f crc ∨ f.pay.length < 8 then s else
  let s := s.atTime t
  let seq := leAt f.pay 0 4
  let piece := (leAt f.pay 4 4, f.pay.drop 8)
  match s.pair.asm with
  | some (q, l) =>
    if q = seq then s.modPair fun p => { p with asm := some (seq, l ++ [piece]) }
    else (s.modPair fun p => { p with asm := some (seq, [piece]) }).bump PAIR_SNAP_DROP_CNT.VALUE
  | none => s.modPair fun p => { p with asm := some (seq, [piece]) }

/-- Whether the assembled bytes are a good snapshot (R505, R507): they spell `x`, complete, whose CRC-32C and that of its header hold; its
version is the one in use and its settings digest the one in force at the located snapshot tick. -/
def State.snapGood (s : State) (x : Snap) (pay : List Byte) : Bool :=
  (match s.pair.asm with
    | some (q, l) => q == x.seq && (assemble l).take x.encoded.length == x.encoded
    | none => false)
    && pay == x.endPay && x.ver == s.pair.ver
    && (match s.tickAtOrBefore (s.mapBack x.d) with | some r => s.digAt r.n == x.dig | none => false)

/-- A SNAP_END is received (R491, R493, R507, R518). `x` is what the snapshot's bytes spell; that they do is tested. -/
def State.snapEnd (s : State) (t : Nat) (f : LkFrame) (crc : BitVec 32) (x : Snap) : State :=
  if s.role ≠ 2 ∨ s.rd PAIR_STATUS.LINK = 0 ∨ !s.takesFrame 4 f crc ∨ f.pay.length ≠ 12 then s else
  let s := s.atTime t
  let good := s.snapGood x f.pay
  let s := s.modPair fun p => { p with asm := none }
  if !good then (s.bump PAIR_SNAP_DROP_CNT.VALUE).nrUpdate else
  let s := s.modPair fun p => { p with good := some (x, s.grid.now) }
  let s := (s.wr64 PAIR_SNAP_TICK_LO.VALUE PAIR_SNAP_TICK_HI.VALUE x.n).wr PAIR_SNAP_CNT.VALUE (s.rd PAIR_SNAP_CNT.VALUE + 1)
  let s := s.nrUpdate
  match s.pair.ho with
  | some (src, t0) =>
    if x.ho then (if s.grid.now ≤ t0 + 2500000 ∧ s.rd PAIR_STATUS.READY = 1 then s.startReplay src s.lastHeartbeat else s.abortHandover) else s
  | none => s

/-! ### Commands (R531 to R533) -/

/-- PAIR_JOIN (R531). -/
def cmdPairJoin (s : State) (_q : Bool) (p : Packet) : CmdRes :=
  if p.len ≠ 0 then s.badLength
  else if p.target.toNat ≠ 0 then s.badTarget 0
  else if s.role = 0 then s.badTarget 22
  else if s.role = 3 ∨ s.role = 4 then s.busy 21
  else ((s.wr PAIR_STATUS.DETECT 1).enterJoining).accepted

/-- PAIR_YIELD (R532). -/
def cmdPairYield (s : State) (_q : Bool) (p : Packet) : CmdRes :=
  if p.len ≠ 0 then s.badLength
  else if p.target.toNat ≠ 0 then s.badTarget 0
  else if s.role ≠ 4 then s.busy 21
  else if s.rd PAIR_STATUS.HO = 1 then s.busy 23
  else if s.rd PAIR_STATUS.PREADY = 0 then s.answer .notReady [((s.pair.hb.map (·.1.nr)).getD 0)]
  else
    (((s.wr PAIR_STATUS.HO 1).modPair fun p => { p with hoTick := some p.doneN }).tellHandover 2).accepted

/-- A register word from fields of it. -/
def State.wordOf (s : State) (l : List Field) : Nat := l.foldl (fun a f => a + s.rd f * 2 ^ f.lsb) 0

/-- The fields of PAIR_STATUS. -/
def pairStatusFields : List Field :=
  [PAIR_STATUS.ROLE, PAIR_STATUS.READY, PAIR_STATUS.NR, PAIR_STATUS.LKVER, PAIR_STATUS.LINK, PAIR_STATUS.TOW, PAIR_STATUS.DETECT,
   PAIR_STATUS.HO, PAIR_STATUS.PROOF, PAIR_STATUS.PROLE, PAIR_STATUS.PREADY]

/-- PAIR_SNAP_AGE (R507): the receipt age in us, saturated. -/
def State.snapAgeReg (s : State) : Nat := match s.snapAge with | some a => min (a / 250) (2 ^ 32 - 1) | none => 2 ^ 32 - 1

/-- The partner's words as last heard (R533). -/
def State.partnerWords (s : State) : List Nat :=
  match s.pair.hb with
  | none => List.replicate 8 0
  | some (h, _) =>
    let st := h.role + 8 * b2n h.ready + 16 * (h.nr % 512) + 2 ^ 18 * b2n h.ho + 2 ^ 19 * (h.proof % 4)
    [st, h.word + 256 * h.pSeen + 65536 * b2n h.assert_, 0, 0, 0, 0, 0, h.proof]

/-- PAIR_STATUS (R533). -/
def cmdPairStatus (s : State) (_q : Bool) (p : Packet) : CmdRes :=
  if p.len ≠ 0 then s.badLength
  else if 1 < p.target.toNat then s.badTarget 0
  else if p.target.toNat = 1 then s.ok s.partnerWords
  else s.ok [s.wordOf pairStatusFields, s.wordOf [PAIR_CLAIM.OWN, PAIR_CLAIM.PSEEN, PAIR_CLAIM.ASSERT], s.rd PAIR_SNAP_TICK_LO.VALUE,
    s.rd PAIR_SNAP_TICK_HI.VALUE, s.snapAgeReg, s.rd PAIR_TO_TIME.VALUE, s.wordOf [PAIR_DEG_MASK.COND, PAIR_DEG_MASK.CLASS], s.rd PAIR_STATUS.PROOF]

end Sys2Proof.Machine
end

