-- ==== Sys2Proof/Machine/Ecdsa.lean ====
section
/-! DEFINITION. ECDSA over P-256 (FIPS 186-5), by which endorsements are checked (R544). -/
namespace Sys2Proof.Machine

/-- The field prime of P-256. -/
def p256P : Nat := 0xffffffff00000001000000000000000000000000ffffffffffffffffffffffff
/-- The group order of P-256. -/
def p256N : Nat := 0xffffffff00000000ffffffffffffffffbce6faada7179e84f3b9cac2fc632551
/-- The coefficient b of P-256. -/
def p256B : Nat := 0x5ac635d8aa3a93e7b3ebbd55769886bc651d06b0cc53b0f63bce3c3e27d2604b
/-- The base point of P-256. -/
def p256G : Nat × Nat :=
  (0x6b17d1f2e12c4247f8bce6e563a440f277037d812deb33a0f4a13945d898c296,
   0x4fe342e2fe1a7f9b8ee7eb4a7c0f9e162bce33576b315ececbb6406837bf51f5)

/-- b^e mod m, over the lowest `k` bits of e, the highest first. -/
def powModGo (b e m : Nat) : Nat → Nat → Nat
  | 0, r => r
  | k + 1, r =>
    let r := r * r % m
    powModGo b e m k (if e.testBit k then r * b % m else r)

/-- b^e mod m for e below 2^256. -/
def powMod (b e m : Nat) : Nat := powModGo (b % m) e m 256 1

/-- The inverse modulo a prime. -/
def invMod (a m : Nat) : Nat := powMod a (m - 2) m

/-- Sum of two points; `none` is the point at infinity. -/
def ecAdd : Option (Nat × Nat) → Option (Nat × Nat) → Option (Nat × Nat)
  | none, q => q
  | p, none => p
  | some (x1, y1), some (x2, y2) =>
    if x1 = x2 ∧ (y1 + y2) % p256P = 0 then none else
    let lam :=
      if x1 = x2 ∧ y1 = y2 then (3 * x1 * x1 + (p256P - 3)) % p256P * invMod (2 * y1 % p256P) p256P % p256P
      else (y2 + p256P - y1) % p256P * invMod ((x2 + p256P - x1) % p256P) p256P % p256P
    let x3 := (lam * lam + 2 * p256P - x1 - x2) % p256P
    some (x3, (lam * (x1 + p256P - x3) + p256P - y1) % p256P)

/-- A multiple of a point, over the lowest `k` bits of the factor. -/
def ecMulGo (n : Nat) (p : Option (Nat × Nat)) : Nat → Option (Nat × Nat) → Option (Nat × Nat)
  | 0, r => r
  | k + 1, r =>
    let r := ecAdd r r
    ecMulGo n p k (if n.testBit k then ecAdd r p else r)

/-- A multiple of a point. -/
def ecMul (n : Nat) (p : Option (Nat × Nat)) : Option (Nat × Nat) := ecMulGo n p 256 none

/-- The coordinates are those of a point of P-256 (R554). -/
def onCurve (x y : Nat) : Bool :=
  decide (x < p256P) && decide (y < p256P)
    && decide (y * y % p256P = (x * x % p256P * x + (p256P - 3) * x + p256B) % p256P)

/-- The signature (r, s) of a message under a public key (R544). -/
def ecdsaVerify (x y : Nat) (msg : List (BitVec 8)) (r s : Nat) : Bool :=
  if r = 0 ∨ p256N ≤ r ∨ s = 0 ∨ p256N ≤ s ∨ !onCurve x y then false else
  let e := ofBe (sha256 msg)
  let w := invMod s p256N
  match ecAdd (ecMul (e * w % p256N) (some p256G)) (ecMul (r * w % p256N) (some (x, y))) with
  | none => false
  | some (x1, _) => decide (x1 % p256N = r)

end Sys2Proof.Machine
end

