-- ==== Sys2Proof/Machine/Seal.lean ====
section
/-! DEFINITION. The rules that reject a bank at staging (R548, R697). Each check gives the values of data word 1 for the
items that break it; the first failing item is the least of them. -/
namespace Sys2Proof.Machine
open Reg

/-- The value that names an object (R548). -/
def objName (type inst : Nat) : Nat := 0xF0000000 + type * 65536 + inst
/-- The value that names the group words of element `e` in group `g`. -/
def groupName (e g : Nat) : Nat := objName 2 (e + 0x1000 * g)
/-- An item when a condition holds. -/
def failIf (c : Bool) (x : Nat) : List Nat := if c then [x] else []
/-- The members of a list at which a running sum first exceeds a limit. -/
def overLimit (limit : Nat) : Nat → List (Nat × Nat) → List Nat
  | _, [] => []
  | a, (x, v) :: r => if limit < a + v then [x] else overLimit limit (a + v) r

/-! ### Ranges (R697) -/

/-- Settings registers outside the ELM_ block that hold a value outside its range. -/
def Bank.badRanges (k : Bank) : List Nat :=
  plainSp.flatMap fun f => f.insts.flatMap fun x => failIf (!f.inRange (k.fld f x.1 x.2)) (f.at' x.1 x.2)

/-- Element words of an element that hold a value outside the range its layout gives. -/
def Bank.badElmRanges (k : Bank) (e : Nat) : List Nat :=
  (elmLayout (k.etype e)).flatMap fun f =>
    if groupOff (f.addr - elmBase) then (List.range 4).flatMap fun g => failIf (!f.inRange (k.gfld f e g)) (groupName e g)
    else failIf (!f.inRange (k.fld f e)) (f.at' e 0)

/-! ### Front end, network, process bus -/

/-- R79, R199, R237. -/
def Bank.badPlain (k : Bank) : List Nat :=
  failIf (decide (k.fld AFE_SPLICE_UP.VALUE < k.fld AFE_SPLICE_DN.VALUE + 5000)) AFE_SPLICE_DN.VALUE.addr
  ++ failIf (k.fld PBUS_NET_CFG.MODE != 0 && k.fld PBUS_NET_CFG.PORT_EN != 3) PBUS_NET_CFG.MODE.addr
  ++ failIf (k.fld PBUS_PTP_CFG.ROLE == 2 && k.fld PBUS_NET_CFG.MODE != 0) PBUS_PTP_CFG.EN.addr

/-- The port of a subscription breaks R206. -/
def Bank.badPort (k : Bank) (port : Nat) : Bool :=
  if k.fld PBUS_NET_CFG.MODE = 0 then port != 1 && port != 2 else port != 0

/-- R206, R210, R211. -/
def Bank.badStreams (k : Bank) : List Nat :=
  let en := fun i => k.fld PBUS_SV_CFG.EN i == 1
  let subs := List.range 256
  (subs.flatMap fun i => failIf (en i && k.badPort (k.fld PBUS_SV_CFG.PORT i)) (PBUS_SV_CFG.EN.at' i 0)
    ++ failIf (decide (160 < k.fld PBUS_SV_CFG.NMEM i * k.fld PBUS_SV_CFG.ASDU i)) (PBUS_SV_CFG.EN.at' i 0))
  ++ ([1, 2].flatMap fun p =>
    if k.fld PBUS_NET_CFG.MODE = 0 then
      overLimit 128 0 ((subs.filter fun i => en i && k.fld PBUS_SV_CFG.PORT i == p).map fun i => (PBUS_SV_CFG.EN.at' i 0, 1))
    else [])
  ++ ((List.range 1024).flatMap fun i =>
    failIf (k.fld PBUS_GS_CFG.EN i == 1 && k.badPort (k.fld PBUS_GS_CFG.PORT i)) (PBUS_GS_CFG.EN.at' i 0))
  ++ ((List.range 448).flatMap fun g =>
    let sub := k.fld PBUS_MAP.SUB g
    failIf (k.fld PBUS_MAP.EN g == 1 && (!en sub || decide (k.fld PBUS_SV_CFG.NMEM sub ≤ k.fld PBUS_MAP.MEMBER g))) (PBUS_MAP.EN.at' g 0))

/-! ### Bays (R248 to R251, R270) -/

/-- A binary32 word is positive and finite. -/
def posFinite (w : Nat) : Bool := match dec32 w with | some x => decide (0 < x) | none => false

/-- A bay maps roles `r` to `r` + 2. -/
def Bank.has3 (k : Bank) (b r : Nat) : Bool := (List.range 3).all fun i => (k.slotOf b (r + i)).isSome

/-- The faults of one bay. -/
def Bank.badBay (k : Bank) (b : Nat) : List Nat :=
  let slots := List.range 16
  let role := fun i => k.fld BAY_SLOT.ROLE b i
  let name := fun i => BAY_SLOT.CH.at' b i
  let trip := fun r => slots.filter fun i => decide (r ≤ role i) && decide (role i < r + 3)
  let twice := slots.flatMap fun i =>
    failIf (decide (1 ≤ role i) && decide (role i ≤ 13) && (List.range i).any fun j => role j == role i) (name i)
  let part := [1, 6, 10].flatMap fun r =>
    match (trip r).getLast? with
    | some i => failIf (!k.has3 b r) (name i)
        ++ failIf ((trip r).any fun j => k.fld BAY_SLOT_SCALE.VALUE b j != k.fld BAY_SLOT_SCALE.VALUE b i) (BAY_SLOT_SCALE.VALUE.at' b i)
    | none => []
  let both := match (trip 6 ++ trip 10).mergeSort.getLast? with
    | some i => failIf (!(trip 6).isEmpty && !(trip 10).isEmpty) (name i)
    | none => []
  let fref := k.fld BAY_CFG.FREF b
  twice ++ part ++ both
    ++ (slots.flatMap fun i => failIf (!posFinite (k.fld BAY_SLOT_SCALE.VALUE b i)) (BAY_SLOT_SCALE.VALUE.at' b i))
    ++ failIf (decide (fref < 16) && role fref == 0) (BAY_CFG.EN.at' b 0)

/-! ### Elements -/

/-- A bay maps the phase or the phase-to-phase voltages. -/
def Bank.hasVolts (k : Bank) (b : Nat) : Bool := k.has3 b 6 || k.has3 b 10

/-- The bay maps the slots an element of the type needs (R280, R313, R318). -/
def Bank.slotsOk (k : Bank) (e type b : Nat) : Bool :=
  let has := fun r => (k.slotOf b r).isSome
  let qsel := k.fld ELM_LCFG.QSEL e
  match type with
  | 2 => if k.fld ELM_CFG.SRC e = 0 then has 4 else k.has3 b 1
  | 3 => has 5
  | 7 | 8 => if qsel = 0 then k.has3 b 6 else k.hasVolts b
  | 9 => if qsel = 0 then has 9 else k.has3 b 6
  | 10 | 11 => decide (k.fld BAY_CFG.FREF b < 16) || k.hasVolts b
  | 12 => k.has3 b 1 && k.hasVolts b
  | 15 => true
  | 16 => has 13 && (if k.fld ELM_LCFG.REF e < 3 then has (6 + k.fld ELM_LCFG.REF e) else k.hasVolts b)
  | _ => k.has3 b 1

/-- The bay maps what the direction quantities of POL need (R295): the operating current I_d, which is that of the element's type but for
POL 1, and the polarizing quantity Q_p. -/
def Bank.polSlotsOk (k : Bank) (e b pol : Nat) : Bool :=
  (pol == 1 || k.slotsOk e (k.etype e) b) && match pol with
  | 0 => k.hasVolts b
  | 1 => k.hasVolts b && k.has3 b 1
  | 2 => (k.slotOf b 9).isSome || k.has3 b 6
  | _ => [4, 5, 14].contains (k.fld BAY_SLOT.ROLE b (k.fld ELM_BLK.POLSLOT e))

/-- What the rules for one type reject in the words of one element, enabled or not (R291, R317, R335, R336, R340). -/
def Bank.badElmWords (k : Bank) (e g type : Nat) : Bool :=
  if type ≤ 4 then
    let c := k.gfld ELM_OC_CURVE.CURVE e g
    (k.gfld ELM_OC_CURVE.RESET e g == 2 && (c == 0 || (!([5, 6, 7].contains c) && k.gfld ELM_OC_TR.VALUE e g == 0)))
      || (type == 4 && k.gfld ELM_OC_DIR.DIRMODE e g != 0 && k.gfld ELM_OC_DIR.POL e g != 1)
  else if type = 14 then decide (k.gfld ELM_BF_T2.VALUE e g < k.gfld ELM_BF_T1.VALUE e g)
  else if type = 15 then k.gfld ELM_AR_CFG.SYNCREQ e g != 0 && k.fld ELM_AR_KN2.SYNCEN e == 0
  else if type = 16 then
    match dec32 (k.gfld ELM_SY_VLIVE.VALUE e g), dec32 (k.gfld ELM_SY_VDEAD.VALUE e g) with
    | some l, some d => decide (l ≤ d)
    | _, _ => true
  else false

/-- What the rules reject in the group words of an enabled element (R318). -/
def Bank.badEnabledWords (k : Bank) (e g type : Nat) : Bool :=
  if [5, 7, 8, 9, 10, 11, 13].contains type then k.gfld ELM_LV_TH.VALUE e g == 0
  else false

/-- The enabled elements of a bay, ascending. -/
def Bank.enabledOf (k : Bank) (b : Nat) : List Nat :=
  (List.range 2048).filter fun e => k.fld ELM_CFG.EN e == 1 && k.fld ELM_CFG.BAY e == b

/-- The faults of one element; `of` gives the enabled elements of a bay (R281, R291 to R295, R314, R317, R318, R335, R336). -/
def Bank.badElm (k : Bank) (curves : Bool) (mates : Nat → List Nat) (e : Nat) : List Nat :=
  let type := k.etype e
  let b := k.fld ELM_CFG.BAY e
  let en := k.fld ELM_CFG.EN e == 1
  let cfg := ELM_CFG.EN.at' e 0
  let blk := ELM_BLK.KNOT.at' e 0
  let here := mates b
  let has := fun t => here.any fun x => k.etype x == t
  let before := here.filter fun x => decide (x < e)
  let oc := decide (1 ≤ type) && decide (type ≤ 4)
  let groups := List.range 4
  (groups.flatMap fun g => failIf (k.badElmWords e g type) (groupName e g))
  ++ (if type ≤ 4 then groups.flatMap fun g => failIf (decide (8 ≤ k.gfld ELM_OC_CURVE.CURVE e g) && !curves) (groupName e g) else [])
  ++ (if oc then groups.flatMap fun g =>
      let pol := k.gfld ELM_OC_DIR.POL e g
      failIf (k.gfld ELM_OC_DIR.DIRMODE e g != 0 && !(polAllowed type pol && k.polSlotsOk e b pol)) (groupName e g) else [])
  ++ failIf (decide (type ≤ 4) && k.fld ELM_BLK.CLPEN e == 1 && k.fld ELM_BLK.CLPBLK e == 1) blk
  ++ failIf (type == 4 && (k.fld ELM_CFG.MEAS e != 0 || k.fld ELM_CFG.SRC e != 0)) cfg
  ++ (if !en then [] else
    failIf (type == 0 || decide (19 < type) || !k.slotsOk e type b || decide (48 ≤ before.length)
      || ([15, 17, 18, 19].contains type && before.any fun x => k.etype x == type)) cfg
    ++ (groups.flatMap fun g => failIf (k.badEnabledWords e g type) (groupName e g))
    ++ failIf (oc && ((k.fld ELM_BLK.HBLK e == 1 && !has 17)
      || ((k.fld ELM_BLK.CLPEN e == 1 || k.fld ELM_BLK.CLPBLK e == 1) && !has 19))) blk
    ++ failIf (type == 15 && k.fld ELM_AR_KN2.SYNCEN e == 1
      && !(here.any fun x => x == k.fld ELM_AR_KN2.SYNCEL e && k.etype x == 16)) (ELM_AR_KN2.RESET.at' e 0))

/-! ### Knots, rows, detectors, channels -/

/-- A selector names a class and an index that exist (R353, R357). -/
def selectorOk (w : Nat) : Bool :=
  let i := w % 2 ^ 28
  let within := fun m => i &&& m == i
  match w / 2 ^ 28 with
  | 0 => within 1
  | 1 => within 0x07FF001F
  | 2 => within 0x3FFF
  | 3 => within 0x1FFF
  | 4 => within 0x3F
  | 5 => within 0x3F
  | 6 => within 0x7F
  | 7 => within 0x1F
  | 8 => decide (i ≤ 11)
  | _ => false

/-- The words of a knot break R354. -/
def Bank.badKnot (k : Bank) (w : List Nat) : Bool :=
  let w0 := knotWord w 0
  let ins := (List.range 4).map fun i => knotWord w (1 + i)
  w0 / 2 ^ 28 % 8 != 0 || decide (4 < knotTmode w) || knotLatch w == 3 || knotWord w 7 != 0
    || decide (600000000 < knotWord w 5) || decide (600000000 < knotWord w 6)
    || ins.any fun x => !selectorOk x || (x / 2 ^ 28 == 4 && k.fld DIO_CH_CFG.DIR (x % 32) != 1)

/-- R354. -/
def Bank.badKnots (k : Bank) : List Nat :=
  (k.knots.flatMap fun x => failIf (k.badKnot x.2) (objName 3 x.1))
  ++ ((List.range 64).flatMap fun b => overLimit 1024 0 ((k.knotsOf b).map fun x => (objName 3 x.1, 1)))

/-- R362, R371, R404. -/
def Bank.badRows (k : Bank) : List Nat :=
  ((List.range 32).flatMap fun d =>
    let en := k.fld KNOT_TM_CFG.EN d == 1
    failIf ((en && (k.fld DIO_CH_CFG.DIR d != 2 || (d % 2 == 1 && k.fld DIO_CH_CFG.PAR (d - 1) == 1)))
      || (k.fld KNOT_TM_CFG.KEN d == 1 && knotBay (k.knot (k.fld KNOT_TM_CFG.KNOT d)) != k.fld KNOT_TM_CFG.BAY d)) (KNOT_TM_CFG.EN.at' d 0))
  ++ ((List.range 64).flatMap fun f =>
    failIf (k.fld KNOT_FP_CFG.EN f == 1 && k.fld AFE_CH_CFG.MODE (k.fld KNOT_FP_CFG.CH f) == 0) (KNOT_FP_CFG.EN.at' f 0))
  ++ ((List.range 16).flatMap fun p =>
    let a := 2 * p
    let b := 2 * p + 1
    failIf (k.fld DIO_CH_CFG.PAR b == 1
      || (k.fld DIO_CH_CFG.PAR a == 1 && (k.fld DIO_CH_CFG.DIR a != 2 || k.fld DIO_CH_CFG.DIR b != 2))) (DIO_CH_CFG.DIR.at' b 0))

/-! ### Recorder, log, objects -/

/-- R431. -/
def Bank.badRec (k : Bank) : List Nat :=
  (List.range 4).flatMap fun i =>
    ((List.range 256).flatMap fun b => failIf (!selectorOk (k.fld REC_BIN_SEL.VALUE i b)) (REC_BIN_SEL.VALUE.at' i b))
    ++ ((List.range 16).flatMap fun t => failIf (!selectorOk (k.fld REC_TRG_SEL.VALUE i t)) (REC_TRG_SEL.VALUE.at' i t))
    ++ ((List.range 128).flatMap fun a => failIf (!posFinite (k.fld REC_AN_SCALE.VALUE i a)) (REC_AN_SCALE.VALUE.at' i a))
    ++ failIf (k.fld REC_MEAS_CFG.ANGEN i == 1 && decide (k.fld REC_CFG.NA i ≤ k.fld REC_MEAS_CFG.ANGREF i)) (REC_MEAS_CFG.ANGEN.at' i 0)

/-- The sums of REC_ALLOC and of BURST (R431, R478). -/
def Bank.badSums (k : Bank) : List Nat :=
  overLimit 508 0 ((List.range 4).map fun i => (REC_ALLOC.VALUE.at' i 0, k.fld REC_ALLOC.VALUE i))
  ++ overLimit 16384 0 (eventCodes.map fun c =>
    (EVT_RATE.BURST.at' (c / 4096) (c % 4096), k.fld EVT_RATE.BURST (c / 4096) (c % 4096)))

/-- User curve `u` breaks R292; a curve that is not given (P = 0) stands unless an element names it. -/
def Bank.badCurve (k : Bank) (u : Nat) : Bool :=
  let p := k.curveWord u 0
  let m := fun i => k.curveWord u (1 + 2 * i)
  let t := fun i => k.curveWord u (2 + 2 * i)
  let used := (List.range 2048).any fun e => decide (k.etype e ≤ 4) && (List.range 4).any fun g => k.gfld ELM_OC_CURVE.CURVE e g == 8 + u
  if p = 0 then used else
  decide (p < 2) || decide (64 < p) || decide (m 0 ≤ 65536) || decide (72089 < m 0)
    || ((List.range p).any fun i => t i == 0)
    || ((List.range (p - 1)).any fun i => decide (m (i + 1) ≤ m i) || decide (t i < t (i + 1)))

/-- A text that a label set must not hold (R456). -/
def badText (l : List Byte) : Bool := l.any fun c => c == 0x2C || c == 0x0D || c == 0x0A

/-- Label set `i` breaks R456; the primary and secondary values are those of the NA signals of the instance. -/
def Bank.badLabels (k : Bank) (i : Nat) : Bool :=
  let l := (List.range 5536).map fun w => tget 0 k.labels (5536 * i + w)
  let txt := fun o n => labelText l o n
  badText (txt 0 64) || badText (txt 64 64)
    || ((List.range 128).any fun a => let o := anLabel a
        badText (txt o 32) || badText (txt (o + 32) 4) || badText (txt (o + 36) 16) || badText (txt (o + 52) 8))
    || ((List.range (k.fld REC_CFG.NA i)).any fun a =>
        !posFinite (l.getD ((anLabel a + 60) / 4) 0) || !posFinite (l.getD ((anLabel a + 64) / 4) 0))
    || ((List.range 256).any fun b => let o := binLabel b
        badText (txt o 32) || badText (txt (o + 32) 4) || badText (txt (o + 36) 16))

/-- R227, R292, R456. -/
def Bank.badObjects (k : Bank) : List Nat :=
  ((List.range 8).flatMap fun u => failIf (k.badCurve u) (objName 4 u))
  ++ ((List.range 128).flatMap fun q => failIf (decide (1500 < tget 0 k.tmpl (376 * q))) (objName 5 q))
  ++ ((List.range 4).flatMap fun i => failIf (k.badLabels i) (objName 6 i))

/-- Every item of a bank that a staging rule rejects; `curves`: USER_CURVES is negotiated (R292). -/
def Bank.failures (k : Bank) (curves : Bool) : List Nat :=
  let by' : Tab (List Nat) := (List.range 64).map fun b => (b, k.enabledOf b)
  k.badRanges ++ ((List.range 2048).flatMap fun e => k.badElmRanges e ++ k.badElm curves (fun b => tget [] by' b) e)
    ++ k.badPlain ++ k.badStreams ++ ((List.range 64).flatMap fun b => k.badBay b) ++ k.badKnots ++ k.badRows ++ k.badRec
    ++ k.badSums ++ k.badObjects

/-- The first failing item of a bank, in the order of the canonical image. -/
def Bank.firstFailure (k : Bank) (curves : Bool) : Option Nat :=
  (k.failures curves).foldl (fun a x => match a with | none => some x | some y => some (min x y)) none

end Sys2Proof.Machine
end

