-- ==== Sys2Proof/Machine/Chamber.lean ====
section
/-! DEFINITION. The lock chamber: staging, endorsing, committing, aborting, enrolling keys (R539 to R555, R481). -/
namespace Sys2Proof.Machine
open Reg

/-! ### Registers -/

/-- STATE of the chamber (R547). -/
def State.chamber (s : State) : Nat := s.rd SET_CHAMBER.STATE

/-- The key slot `k`. -/
def State.slot (s : State) (k : Nat) : KeySlot := tget {} s.nv.cust.slots k

/-- The SET_ registers that show custody's state (R542, R545, R547). -/
def State.custRegs (s : State) : State :=
  let c := s.nv.cust
  let gate := fun (g : Option Gate) => match g with | some x => (x.slot, x.role) | none => (0, 0)
  let s := ((s.wr SET_CHAMBER.G1_SLOT (gate s.cust.g1).1).wr SET_CHAMBER.G1_ROLE (gate s.cust.g1).2)
  let s := ((s.wr SET_CHAMBER.G2_SLOT (gate s.cust.g2).1).wr SET_CHAMBER.G2_ROLE (gate s.cust.g2).2)
  let s := (s.wr SET_CHAMBER.OPEN (b2n !c.closed)).wr SET_CHAMBER.LOCKOUT (b2n s.cust.lockEnd.isSome)
  let s := (s.wr SET_CHAMBER.AT (b2n (c.pend.any fun p => p.at'.isSome))).wr64 SET_CTR_LO.VALUE SET_CTR_HI.VALUE c.ctr
  let s := s.wr64 SET_SDIG_LO.VALUE SET_SDIG_HI.VALUE (if s.chamber < 2 then 0 else s.cust.sdig)
  let s := s.wr64 SET_PEND_TAI_LO.VALUE SET_PEND_TAI_HI.VALUE (toBits 64 ((c.pend.bind (·.at')).getD 0))
  let s := s.wr SET_COMMIT_CNT.VALUE c.commits
  forN 8 (fun k s =>
    let x := s.slot k
    let s := (s.wr SET_KEY_CFG.ROLE x.role k).wr SET_KEY_USE_CNT.VALUE x.uses k
    let d := if x.role = 0 then 0 else digest64 x.key
    (s.wr SET_KEY_FP_LO.VALUE d k).wr SET_KEY_FP_HI.VALUE (d / 2 ^ 32) k) s

/-- The chamber enters a state. -/
def State.setChamber (s : State) (st : Nat) : State :=
  ((s.wr SET_CHAMBER.STATE st).modCustNv fun c => { c with work := st != 0 }).custRegs

/-- The chamber state does not accept the command (R555). -/
def State.busyChamber (s : State) : CmdRes := s.busy 34 [s.chamber]

/-! ### Endorsements (R543 to R546, R550) -/

/-- An endorsement block (R543). -/
structure Endorse where
  slot : Nat
  op : Nat
  ctr : Nat
  subject : Nat
  r : Nat
  s : Nat
  deriving DecidableEq, Repr

/-- The endorsement block at a byte offset of a packet's parameters. -/
def Packet.endorse (p : Packet) (o : Nat) : Endorse :=
  let f := fun i n => (p.params.drop (o + i)).take n
  { slot := ofLe (f 0 1), op := ofLe (f 1 1), ctr := ofLe (f 4 8), subject := ofLe (f 12 8), r := ofBe (f 20 32), s := ofBe (f 52 32) }

/-- The signed message (R544). -/
def endorseMsg (serial : Nat) (e : Endorse) (role : Nat) : List Byte :=
  ascii "UDZE" ++ leBytes 8 serial ++ leBytes 1 e.slot ++ leBytes 1 role ++ leBytes 1 e.op ++ leBytes 1 0 ++ leBytes 8 e.ctr
    ++ leBytes 8 e.subject

/-- The slot is enrolled and the signature valid (R544). -/
def State.signed (s : State) (e : Endorse) : Bool :=
  let k := s.slot e.slot
  decide (e.slot < 8) && k.role != 0
    && ecdsaVerify (ofBe (k.key.take 32)) (ofBe (k.key.drop 32)) (endorseMsg (s.rd64 ID_SERIAL_LO.VALUE ID_SERIAL_HI.VALUE) e k.role) e.r e.s

/-- Endorsements are locked out (R546). -/
def State.locked (s : State) : Bool := s.cust.lockEnd.any fun e => decide (s.grid.now < e)

/-- The checks of an endorsement from its OP on, in the order of R550; one from slot `self` is refused (R554). The reply of
the first that fails. -/
def State.endorseCheck (s : State) (e : Endorse) (op subject : Nat) (self : Option Nat := none) : Option (Status × List Nat) :=
  if e.op ≠ op then some (.badTarget, [37])
  else if self = some e.slot then some (.badTarget, [40])
  else if !s.signed e then some (.authFail, [])
  else if e.ctr ≠ s.nv.cust.ctr then some (.staleCounter, [])
  else if e.subject ≠ subject then some (.badTarget, [35])
  else none

/-- A minute of device time. -/
def minute : Nat := 60 * 250000000

/-- An AUTH_FAIL reply is counted and logged, and the fifth within 60 s locks endorsements out (R546). -/
def State.authFail (s : State) (slot : Nat) : State :=
  let s := (s.bump SET_AUTHFAIL_CNT.VALUE).logEv 0x9005 slot
  let l := (s.cust.fails.filter fun t => decide (s.grid.now ≤ t + minute)) ++ [s.grid.now]
  if 5 ≤ l.length ∧ !s.locked then
    (s.modCust fun c => { c with fails := [], lockEnd := some (s.grid.now + minute) }).wr SET_CHAMBER.LOCKOUT 1
  else s.modCust fun c => { c with fails := l }

/-- A refused endorsement is answered. -/
def State.endorseRefused (s : State) (e : Endorse) (f : Status × List Nat) : CmdRes :=
  (if f.1 = .authFail then s.authFail e.slot else s).answer f.1 f.2

/-- The lockout of endorsements ends (R546). -/
def State.authLockoutEnd (s : State) : State :=
  match s.cust.lockEnd with
  | some e => ((s.atTime e).modCust fun c => { c with lockEnd := none }).wr SET_CHAMBER.LOCKOUT 0
  | none => s

/-- An endorsement of a slot is accepted. -/
def State.useSlot (s : State) (k : Nat) : State :=
  s.modCustNv fun c => { c with slots := tmod {} c.slots k fun x => { x with uses := satInc x.uses } }

/-- What stands in custody's copy that is in force. -/
def CustNv.copy (c : CustNv) : CustOld :=
  { bank := c.bank, pend := c.pend, ctr := c.ctr, slots := c.slots, commits := c.commits, closed := c.closed }

/-- One MRAM write of custody: it goes over the older copies, and the copies that stood become the older ones (R545, R552, R554). -/
def State.custWrite (s : State) (f : CustNv → CustNv) : State :=
  s.modCustNv fun c => { f c with old := some c.copy }

/-! ### SET_STAGE (R548, R549) -/

/-- Replace words of a table from an index on. -/
def putWords (t : Tab Nat) (i : Nat) : List Nat → Tab Nat
  | [] => t
  | w :: r => putWords (tset t i w) (i + 1) r

/-- Every other settings word of an element takes the resets of its new TYPE's layout (R698). -/
def Bank.retype (k : Bank) (e : Nat) : Bank :=
  let b := elmBase + 64 * e
  { k with words := k.words.filter fun x => !(decide (b ≤ x.1 % 2 ^ 24) && decide (x.1 % 2 ^ 24 < b + 64)) }

/-- Write a settings register of the shadow bank (R549, R698); `none` where the TYPE 1 rule is broken. -/
def Bank.writeReg (k : Bank) (a w : Nat) : Option Bank :=
  if inElm a then
    let e := elmAt a
    let off := elmOff a
    if groupOff off ∨ a % 4 ≠ 0 then none else
    let type := if off = 0 then ELM_CFG.TYPE.get w else k.etype e
    let m := fieldMask (wordFields (elmLayout type) off)
    if m = 0 ∨ andNot w m ≠ 0 then none else
    let k := if off = 0 ∧ type ≠ k.etype e then k.retype e else k
    some { k with words := tset k.words a w }
  else
    let m := fieldMask (spAt a)
    if m = 0 ∨ andNot w m ≠ 0 then none else some { k with words := tset k.words a w }

/-- Write settings registers in ascending address order. -/
def Bank.writeRegs (k : Bank) (a : Nat) : List Nat → Option Bank
  | [] => some k
  | w :: r => (k.writeReg a w).bind fun k => k.writeRegs (a + 4) r

/-- Write group words: word `i` of the run belongs to element `e0` + i / 7; `none` for a 1 outside the layout. -/
def Bank.writeGroup (k : Bank) (g e0 i : Nat) : List Nat → Option Bank
  | [] => some k
  | w :: r =>
    let e := e0 + i / 7
    let off := 8 + 4 * (i % 7)
    if andNot w (fieldMask (wordFields (elmLayout (k.etype e)) off)) ≠ 0 then none else
    ({ k with words := tset k.words (elmBase + 64 * e + off + (g + 1) * 2 ^ 24) w } : Bank).writeGroup g e0 (i + 1) r

/-- Write knots, eight words each. -/
def Bank.writeKnots (k : Bank) (q : Nat) : Nat → List Nat → Bank
  | 0, _ => k
  | n + 1, l => ({ k with knots := tset k.knots q (l.take 8) } : Bank).writeKnots (q + 1) n (l.drop 8)

/-- A WRITE into the shadow bank (R549), or the REASON of its refusal. -/
def Bank.stageWrite (k : Bank) (type start : Nat) (d : List Nat) : Bank × Option Nat :=
  let n := d.length
  let idx := start % 65536
  let wo := start / 65536
  let obj := fun (cnt words : Nat) (put : Bank) =>
    if idx < cnt ∧ wo + n ≤ words then (put, none) else (k, some 33)
  if n = 0 ∨ 4096 < n then (k, some 33) else
  match type with
  | 1 => if start % 4 ≠ 0 then (k, some 31) else
    match k.writeRegs start d with | some x => (x, none) | none => (k, some 31)
  | 2 =>
    let e := start % 2048
    let g := start / 65536 % 4
    if n % 7 ≠ 0 ∨ 2048 < e + n / 7 ∨ start ≠ e + 65536 * g then (k, some 33) else
    match k.writeGroup g e 0 d with | some x => (x, none) | none => (k, some 31)
  | 3 => if n % 8 ≠ 0 ∨ 16384 < start + n / 8 then (k, some 33) else (k.writeKnots start (n / 8) d, none)
  | 4 => obj 8 129 { k with curves := putWords k.curves (129 * idx + wo) d }
  | 5 => obj 128 376 { k with tmpl := putWords k.tmpl (376 * idx + wo) d }
  | 6 => obj 4 5536 { k with labels := putWords k.labels (5536 * idx + wo) d }
  | _ => (k, some 33)

/-- The data words of a packet from word `i` on. -/
def Packet.wordsFrom (p : Packet) (i : Nat) : List Nat := (List.range (p.len / 4 - i)).map fun j => p.word (i + j)

/-- SET_STAGE OPEN (R548). -/
def State.stageOpen (s : State) (p : Packet) : CmdRes :=
  if p.len ≠ 4 then s.badLength
  else if s.chamber ≠ 0 then s.busyChamber
  else ((s.modCust fun c => { c with shadow := some s.bank, g1 := none, g2 := none }).setChamber 1).ok

/-- SET_STAGE WRITE (R548, R549). -/
def State.stageWrite (s : State) (p : Packet) : CmdRes :=
  if p.len < 12 ∨ p.len ≠ 12 + 4 * p.word 2 then s.badLength
  else if s.chamber ≠ 1 then s.busyChamber
  else
    let r := (s.cust.shadow.getD s.bank).stageWrite (p.word 0 / 256 % 256) (p.word 1) (p.wordsFrom 3)
    match r.2 with
    | some reason => s.badTarget reason
    | none => (s.modCust fun c => { c with shadow := some r.1 }).ok

/-- SET_STAGE SEAL (R548). -/
def State.stageSeal (s : State) (p : Packet) : CmdRes :=
  if p.len ≠ 4 then s.badLength
  else if s.chamber ≠ 1 then s.busyChamber
  else
    let k := s.cust.shadow.getD s.bank
    match k.firstFailure (s.hasFeat 14) with
    | some x => (s.wr SET_STAGE_ERR.VALUE x).badTarget 32 [x]
    | none =>
      let d := k.bankDigest
      let e := k.setDigest
      let c := s.nv.cust.ctr
      let s := ((s.modCust fun v => { v with sdig := d, g1 := none, g2 := none }).setChamber 2).logEv 0x9001 0 (d % 2 ^ 32)
      s.ok [d % 2 ^ 32, d / 2 ^ 32, e % 2 ^ 32, e / 2 ^ 32, c % 2 ^ 32, c / 2 ^ 32]

/-- SET_STAGE (R548). -/
def cmdSetStage (s : State) (_q : Bool) (p : Packet) : CmdRes :=
  if p.len < 4 then s.badLength
  else if p.target.toNat ≠ 0 then s.badTarget 0
  else match p.word 0 % 256 with
    | 1 => s.stageOpen p
    | 2 => s.stageWrite p
    | 3 => s.stageSeal p
    | _ => s.badTarget 0

/-! ### SET_ENDORSE, SET_COMMIT, SET_ABORT (R550 to R553) -/

/-- SET_ENDORSE (R550). -/
def cmdSetEndorse (s : State) (_q : Bool) (p : Packet) : CmdRes :=
  let e := p.endorse 0
  if p.len ≠ 84 then s.badLength
  else if p.target.toNat ≠ 0 then s.badTarget 0
  else if s.chamber ≠ 2 ∧ s.chamber ≠ 3 then s.busyChamber
  else if s.locked then s.busy 36
  else match s.endorseCheck e 1 s.cust.sdig with
    | some f => s.endorseRefused e f
    | none =>
      let role := (s.slot e.slot).role
      if s.cust.g1.any fun g => g.role == role then s.answer .roleDuplicate else
      let g : Gate := { slot := e.slot, role := role, ctr := e.ctr }
      let second := s.cust.g1.isSome
      let s := (s.modCust fun c => if second then { c with g2 := some g } else { c with g1 := some g }).useSlot e.slot
      ((s.setChamber (if second then 4 else 3)).logEv 0x9002 e.slot role).ok

/-- SET_COMMIT (R551, R552). -/
def cmdSetCommit (s : State) (_q : Bool) (p : Packet) : CmdRes :=
  let useAt := (p.word 0).testBit 0
  let at' : Int := sx 64 (p.word 1 + 2 ^ 32 * p.word 2)
  if p.len ≠ (if useAt then 12 else 4) then s.badLength
  else if p.target.toNat ≠ 0 then s.badTarget 0
  else if s.chamber ≠ 4 then s.busyChamber
  else if !([s.cust.g1, s.cust.g2].all fun g => g.any fun x => x.ctr == s.nv.cust.ctr) then
    ((s.modCust fun c => { c with g1 := none, g2 := none }).setChamber 2).answer .staleCounter
  else if useAt ∧ (at' < s.tai + 50000000 ∨ s.tai + 86400000000000 < at') then s.badTarget 11
  else
    let k := s.cust.shadow.getD s.bank
    let c := s.nv.cust.ctr + 1
    let r : PendRec := { bank := k, bdig := s.cust.sdig, sdig := k.setDigest, at' := if useAt then some at' else none, ctr := c, accepted := s.grid.now }
    let s := (s.custWrite fun v => { v with pend := some r, ctr := c }).modCust fun v => { v with g1 := none, g2 := none, shadow := none }
    (s.setChamber 5).accepted [c % 2 ^ 32, c / 2 ^ 32]

/-- The pending record whose swap tick is the grid's next tick (R556). -/
def State.swapNext (s : State) : Option PendRec :=
  if s.chamber ≠ 5 ∨ !s.pwr.applied then none else
  s.nv.cust.pend.filter fun r =>
    decide (r.accepted + 12500000 ≤ s.grid.nextT / 2 ^ 24) && s.rd GRID_STATUS.RUN == 1
      && (match r.at' with | some a => decide (a ≤ s.taiOf (s.grid.nextT / 2 ^ 24)) | none => true)

/-- The swap tick has been reached. -/
def State.swapReached (s : State) : Bool := s.swapNext.isSome && decide (s.grid.nextT / 2 ^ 24 ≤ s.grid.now)

/-- SET_ABORT (R553). -/
def cmdSetAbort (s : State) (_q : Bool) (p : Packet) : CmdRes :=
  let e := p.endorse 0
  if p.len ≠ 0 ∧ p.len ≠ 84 then s.badLength
  else if p.target.toNat ≠ 0 then s.badTarget 0
  else if p.len = 0 then
    if s.chamber = 5 then s.busyChamber
    else if s.chamber = 0 then s.ok
    else (((s.modCust fun c => { c with shadow := none, g1 := none, g2 := none }).setChamber 0).logEv 0x9004 0 0).ok
  else if s.chamber ≠ 5 then s.busyChamber
  else if s.locked then s.busy 36
  else match s.endorseCheck e 4 ((s.nv.cust.pend.map (·.bdig)).getD 0) with
    | some f => s.endorseRefused e f
    | none =>
      if s.swapReached then s.busyChamber else
      let s := (s.useSlot e.slot).custWrite fun c => { c with pend := none, ctr := c.ctr + 1 }
      ((s.setChamber 0).logEv 0x9004 0 1).ok

/-! ### KEY_ENROL and EVT_CLEAR (R542, R554, R481) -/

/-- The roles of the slots with slot `k` given a role. -/
def State.rolesWith (s : State) (k role : Nat) : List Nat :=
  (List.range 8).map fun i => if i = k then role else (s.slot i).role

/-- Two distinct roles are among the slots' roles. -/
def twoRoles (l : List Nat) : Bool := decide (2 ≤ ([1, 2, 3].filter fun r => l.contains r).length)

/-- KEY_ENROL (R542, R554). -/
def cmdKeyEnrol (s : State) (_q : Bool) (p : Packet) : CmdRes :=
  let k := p.target.toNat
  let role := p.word 0 % 4
  let key := (p.params.drop 4).take 64
  let closed := s.nv.cust.closed
  let a := p.endorse 68
  let b := p.endorse 152
  let subj := digest64 (ascii "KENR" ++ leBytes 1 k ++ leBytes 1 role ++ key)
  let keyOk := if role = 0 then key.all (· == 0) else onCurve (ofBe (key.take 32)) (ofBe (key.drop 32))
  if p.len ≠ (if closed then 236 else 68) then s.badLength
  else if 7 < k then s.badTarget 0
  else if !s.maint then s.busy 14
  else if s.locked then s.busy 36
  else if !keyOk then s.badTarget 38
  else if closed && !twoRoles (s.rolesWith k role) then s.badTarget 39
  else
    let check := fun e => if closed then s.endorseCheck e 3 subj (some k) else none
    match check a, check b with
    | some f, _ => s.endorseRefused a f
    | none, some f => s.endorseRefused b f
    | none, none =>
      if closed && (s.slot a.slot).role == (s.slot b.slot).role then s.answer .roleDuplicate else
      let s := if closed then (s.useSlot a.slot).useSlot b.slot else s
      let s := s.custWrite fun c =>
        { c with slots := tmod {} c.slots k fun x => { x with role := role, key := if role = 0 then [] else key },
                 closed := c.closed || twoRoles (s.rolesWith k role), ctr := c.ctr + 1 }
      (s.custRegs.logEv 0x9006 k role).ok

/-- EVT_CLEAR (R481, R482, R545). -/
def cmdEvtClear (s : State) (_q : Bool) (p : Packet) : CmdRes :=
  let upto := p.word 0
  let e := p.endorse 4
  if p.len ≠ 88 then s.badLength
  else if p.target.toNat ≠ 0 then s.badTarget 0
  else if !s.maint then s.busy 14
  else if s.nv.log.nextSeq ≤ upto ∨ upto ≤ s.nv.log.clearMark then s.badTarget 20
  else if s.locked then s.busy 36
  else match s.endorseCheck e 2 (digest64 (ascii "ECLR" ++ leBytes 4 upto)) with
    | some f => s.endorseRefused e f
    | none =>
      let s := (((s.useSlot e.slot).custWrite fun c => { c with ctr := c.ctr + 1 }).custRegs).logEv 0x0011 e.slot upto
      s.drainAll.ok

/-! ### Direct writes (R539) -/

/-- The settings bits of a register that a direct write meets, in the layout the bank in force gives. -/
def State.spMaskAt (s : State) (a : Nat) : Nat :=
  if inElm a then fieldMask (wordFields (elmLayout (s.bank.etype (elmAt a))) (elmOff a)) else fieldMask (spAt a)

/-- A direct write to settings bits is ignored; one that differs from the value in force is counted and logged (R539).
`old` is the word the register shows. -/
def State.spWrite (s : State) (a old w : Nat) : State :=
  let m := s.spMaskAt a
  if old &&& m = w &&& m then s else (s.bump SET_SPW_CNT.VALUE).logEv 0x9007 0 a

end Sys2Proof.Machine
end

