-- ==== Sys2Proof/Machine/Swap.lean ====
section
/-! DEFINITION. A bank comes into force at its swap tick (R22, R26, R64, R174, R188, R194, R199, R206, R235, R279, R307, R308, R343,
R348, R355, R361, R371, R380, R391, R438, R478, R556 to R558). -/
namespace Sys2Proof.Machine
open Reg

/-- Grid, tracker, network and time (R22, R26, R199, R206, R235). What the tracker holds for a reference serves a decision that is still
due for a tick before the swap tick. -/
def State.swapGrid (s : State) (old new : Bank) (n : Nat) : State :=
  let pend := new.fld GRID_CFG.NOMF != s.rd GRID_STATUS.NOMF_IF || new.fld GRID_CFG.NP != s.rd GRID_STATUS.NP_IF
    || new.fld GRID_CFG.NR != s.rd GRID_STATUS.NR_IF
  let s := s.wr GRID_STATUS.STRUCT_PEND (b2n pend)
  let refs := [[GRID_TRK_REFA.CH_A, GRID_TRK_REFA.CH_B, GRID_TRK_REFA.CH_C, GRID_TRK_REFA.MODE],
    [GRID_TRK_REFB.CH_A, GRID_TRK_REFB.CH_B, GRID_TRK_REFB.CH_C, GRID_TRK_REFB.MODE],
    [GRID_TRK_REFC.CH_A, GRID_TRK_REFC.CH_B, GRID_TRK_REFC.CH_C, GRID_TRK_REFC.MODE]]
  let s := forL refs.zipIdx (fun x s =>
    if banksDiffer old new x.1 0 then s.modGrid fun g =>
      { g with refs := if s.trackDue.isSome then g.refs else terase g.refs x.2, disc := tset g.disc x.2 n } else s) s
  let net := s.pbus.net
  let s := s.wr PBUS_STATUS.NET_PEND (b2n (new.fld PBUS_NET_CFG.MODE != net.mode || new.fld PBUS_NET_CFG.PORT_EN != net.ports))
  s.modNet fun v =>
    { v with bind := if new.fld PBUS_NET_CFG.MODE = v.mode then none else some (v.bind.getD old) }

/-- TAI − UTC of a bank comes into force, unless PTP gives it (R235). -/
def State.swapUtc (s : State) (old new : Bank) (t : Nat) : State :=
  let utc := new.fld PBUS_UTC_SET.VALUE
  if utc = old.fld PBUS_UTC_SET.VALUE then s else
  let s := (if s.announceLost then s.dropUtc else s).modTime fun x => { x with leaps := 0 }
  if s.pbus.ptp.utc then s else (s.wr GRID_UTC_OFS.VALUE utc).logAt t 0x3013 0 utc

/-- The channels take the new bank as their own time comes to the swap tick (R64, R71, R174, R188), a channel that stands there already at
once; threshold detectors restart at it (R194). `t` in 2^-24 units. -/
def State.swapChannels (s : State) (old new : Bank) (n t : Nat) : State :=
  let s := forN 64 (fun c s =>
    let k := s.chan c
    let s := (s.setChan c { k with chg := some (t * 2 ^ 8) }).chanShow c old
    if t * 2 ^ 8 ≤ k.tm then s.chanSwap c else s) s
  forN 128 (fun d s =>
    if banksDiffer old new [FLT_TD_CFG.EN, FLT_TD_CFG.MEAS, FLT_TD_CFG.DIR, FLT_TD_CFG.EVT, FLT_TD_CFG.TRG, FLT_TD_CFG.CH, FLT_TD_CFG.Q,
        FLT_TD_CFG.HYST, FLT_TD_TH.VALUE, FLT_TD_WIN.W] d then s.tdRestartAt d n else s) s

/-- Bays, elements, knots and rows (R279, R307, R308, R343, R355, R361, R380): each bay turns to the new bank once it has evaluated the
ticks before the swap tick. -/
def State.swapBays (s : State) (old new : Bank) (n : Nat) : State :=
  let s := forN 64 (fun b s =>
    let s := if s.measures old b then s else s.measFrom b n
    if old.fld BAY_CFG.FREF b ≠ new.fld BAY_CFG.FREF b then
      s.modEval fun v => { v with bay := tmod {} v.bay b fun x => { x with fref := some n } }
    else s) s
  (s.modEval fun v => { v with chg := List.range 64 }).turnBays

/-- Fast detectors and field channels (R371, R380, R391). A detector also restarts when its bay is enabled. -/
def State.swapRows (s : State) (old new : Bank) : State :=
  let fp := [KNOT_FP_CFG.EN, KNOT_FP_CFG.CH, KNOT_FP_CFG.BAY, KNOT_FP_CFG.M, KNOT_FP_CFG.Q, KNOT_FP_CFG.KEN, KNOT_FP_CFG.DO, KNOT_FP_TH.VALUE,
    KNOT_FP_BLK.KNOT]
  let s := forN 64 (fun f s =>
    let b := new.fld KNOT_FP_CFG.BAY f
    if banksDiffer old new fp f || old.fld BAY_CFG.EN b != new.fld BAY_CFG.EN b then s.fastRestart f (s.grid.nextT * 2 ^ 8) else s) s
  let dirs := [DIO_CH_CFG.DIR, DIO_CH_CFG.PAR, DIO_CH_CFG.PARTNER]
  let s := if (List.range 32).any fun d => banksDiffer old new dirs d then s.modDio fun x => { x with bind := some (x.bind.getD old) } else s
  ((s.dieSend old).swapInputs old (s.grid.nextT / 2 ^ 24)).cfgPend

/-- Buckets of the log (R478). -/
def State.swapLog (s : State) (old new : Bank) : State :=
  forL eventCodes (fun c s =>
    let i := c / 4096
    let j := c % 4096
    let o := (old.fld EVT_RATE.RATE i j, old.fld EVT_RATE.BURST i j)
    let u := (new.fld EVT_RATE.RATE i j, new.fld EVT_RATE.BURST i j)
    if o = u then s else s.modLog fun l => { l with buckets := tmod {} l.buckets c fun b =>
      { b with lvl := some (min (b.lvl.getD (o.2 * 1000000)) (u.2 * 1000000)) } }) s

/-- The settings fields of a recorder instance. -/
def recFields : List Field := [REC_CFG.EN, REC_CFG.AUTOARM, REC_CFG.RATE, REC_CFG.POLICY, REC_CFG.FULL, REC_CFG.TRIGIN, REC_CFG.TRIGBUS, REC_CFG.BUSOUT,
  REC_CFG.NA, REC_CFG.NB, REC_MEAS_CFG.ANGREF, REC_MEAS_CFG.ANGEN, REC_PRE.VALUE, REC_POST.VALUE, REC_ALLOC.VALUE, REC_MEAS_DTH.VALUE,
  REC_MEAS_CTH.VALUE]

/-- A recorder instance's settings differ. -/
def recDiffers (a b : Bank) (i : Nat) : Bool :=
  banksDiffer a b recFields i
  || [REC_AN_CFG.CH, REC_AN_CFG.FD, REC_AN_CFG.CUR, REC_AN_SCALE.VALUE, REC_BIN_SEL.VALUE, REC_TRG_SEL.VALUE, REC_TRG_CTL.EN, REC_TRG_CTL.EDGE].any fun f =>
    (List.range f.n2).any fun j => a.fld f i j != b.fld f i j

/-- The registers that show the digests of a bank in force (R538, R557). -/
def State.showBank (s : State) (bdig sdig : Nat) : State :=
  (s.wr64 SET_BDIG_LO.VALUE SET_BDIG_HI.VALUE bdig).wr64 SET_DIG_LO.VALUE SET_DIG_HI.VALUE sdig

/-- The swap at the grid's next tick (R557, R558). -/
def State.swapBank (s : State) (p : PendRec) : State :=
  let n := s.grid.nextN
  let t := s.grid.nextT / 2 ^ 24
  let s := s.atTime t
  let s := forN 64 (fun b s => s.bayCatch b 4096) s.detectors
  let s := forN 4 (fun i s => match (s.recInst i).chg with | some m => s.recChanged i m | none => s.recCatch i 8192) s
  let old := s.bank
  let new := p.bank
  let was := s.setDig
  let s := { s with prev := some (old, n), bank := new }.modCust fun c => { c with prevDig := was }
  let s := ((s.swapGrid old new n).swapUtc old new t).busWait.ptpPorts
  let s := s.swapChannels old new n s.grid.nextT
  let s := (s.swapBays old new n).swapRows old new
  let s := s.swapLog old new
  let s := forN 4 (fun i s => if recDiffers old new i then s.recSwap i n else s) s
  let s := s.place n t
  let s := ((s.showBank p.bdig p.sdig).wr64 SET_SWAP_TICK_LO.VALUE SET_SWAP_TICK_HI.VALUE n)
  let s := s.custWrite fun c => { c with bank := new, pend := none, commits := satInc c.commits, bad := false }
  -- a new RANK shows in the claim word and in the record identifiers (R450, R489, R501)
  let s := if old.fld PAIR_CFG.RANK = new.fld PAIR_CFG.RANK then s else (s.wr PAIR_CLAIM.OWN s.claimWord).storeRegs
  (((s.setChamber 0).cause 5).logAt t 0x9003 0 (p.ctr % 2 ^ 32)).nrUpdate.alive

/-- The settings swap, when the grid's next tick is the swap tick (R556, R557). -/
def State.settingsSwap (s : State) : State :=
  match s.swapNext with
  | some p => s.swapBank p
  | none => s

end Sys2Proof.Machine
end

