-- ==== Sys2Proof/Machine/Tick.lean ====
section
/-! DEFINITION. A tick of the protection grid: its samples, what it latches, the tracker at a cycle boundary (R17 to R54, R217 to
R219, R356). -/
namespace Sys2Proof.Machine
open Reg

/-! ### Corrections (R34 to R39, R72) -/

/-- What τ_g takes beside D_chain, as the settings give it now (R34, R35). -/
def State.tauPart (s : State) (g : Nat) : Int := if g < 64 then s.effSkew g + s.rdI GRID_CH_EXT.VALUE g else s.rdI GRID_CH_EXT.VALUE g

/-- τ_g of a channel (R34, R35): its D_chain now, and the rest as it stood when the cycle began or the channel was mapped (R72). -/
def State.tauOf (s : State) (g : Nat) : Int := (if g < 64 then s.rdI FLT_CH_DCHAIN.VALUE g else 0) + tget 0 s.grid.part g

/-- The correction of channel `g` at a tick of device time `t`: τ_g is computed anew at the first tick of a cycle, and at the first tick at
which the channel is mapped (R36, R72). An unmapped channel has none. -/
def State.chanTau (s : State) (g t : Nat) (first : Bool) : State :=
  if s.mapped g then
    if first || (tfind s.grid.corr g).isNone then
      let s := s.modGrid fun x => { x with part := tset x.part g (s.tauPart g) }
      s.applyTau g (s.tauOf g) t
    else s
  else
    let s := if (tfind s.grid.corr g).isNone then s
      else s.modGrid fun x => { x with corr := terase x.corr g, clamped := terase x.clamped g }
    if s.rd GRID_CH_SSW.SSW g = 0 then s else s.wr GRID_CH_SSW.SSW 0 g

/-- The corrections of the channels at tick `n` of device time `t`, in its record. -/
def State.tickTaus (s : State) (n t : Nat) (first : Bool) : State :=
  let s := forN 512 (fun g s => s.chanTau g t first) s
  let c := s.grid.corr
  let l := s.grid.clampList
  s.modTick n fun r => { r with corr := c, clamp := l }

/-! ### The tracker (R25 to R37) -/

/-- The corrections at the frequency decided go into the records of the ticks after `n`, the first of the cycle: at tick `n` itself
they are still those at the frequency of the cycle before, since its samples had to be formed before f_c was decided (DEDUCED, log
entry 104). -/
def State.retau (s : State) (n : Nat) : State :=
  let t := ((s.tickRec? (n + 1)).map (·.t)).getD s.grid.nextT / 2 ^ 24
  let s := forN 64 (fun g s => if (tfind s.grid.corr g).isSome then s.applyTau g (s.tauOf g) t else s) s
  let c := s.grid.corr
  let l := s.grid.clampList
  s.modGrid fun g => { g with hist := g.hist.map fun r => if n < r.n then { r with corr := c, clamp := l } else r }

/-- What hangs on a cycle's frequency follows it (R36, R37, R372): `n` is the cycle's first tick. -/
def State.freqFollow (s : State) (n : Nat) : State := (forN 64 (fun c s => s.onTick n fun s => s.chainRegs c) s).fastCoef

/-- The tracker decides its cycle if that is still due. A cycle whose period was fixed before keeps its frequency. -/
def State.trackFull (s : State) : State :=
  match s.trackDue with
  | none => s
  | some r =>
    let s := s.trackCycle
    if s.grid.fixed then s else (s.freqFollow r.n).retau r.n

/-- The channels that the enabled references name. -/
def State.refChans (s : State) : List Nat :=
  [0, 1, 2].flatMap fun i => let d := s.refDef i; match d.1 with | 0 => [] | 1 => d.2.take 1 | _ => d.2

/-- The tracker decides before anything of the tick is published, once it has the references' samples (R31). -/
def State.trackNow (s : State) : State :=
  match s.trackDue with
  | some r => if s.refChans.any fun g => r.wait.contains g then s else s.trackFull
  | none => s

/-- TRK_RAMP_ENTER (R30): the tracker's decision, when it takes the tracker into RAMP. -/
def State.trackRamp (s : State) : State :=
  let u := s.trackNow
  if s.rd GRID_STATUS.TRK_STATE ≠ 3 ∧ u.rd GRID_STATUS.TRK_STATE = 3 then u else s

/-! ### What a tick latches (R356) -/

/-- The inputs that the scheme logic latches at a tick instant. -/
def State.latchInputs (s : State) : Latched :=
  let words := fun (f : Field) => (List.range 128).filterMap fun i => let v := s.rd f i; if v = 0 then none else some (i, v)
  { gin := words PBUS_GIN_VAL.VALUE, ginOk := words PBUS_GIN_OK.VALUE, din := s.rd DIO_IN_VAL.MASK, dinOk := s.rd DIO_IN_OK.MASK,
    sys := s.sysNow, rb := s.dio.frame }

/-! ### Samples of a tick -/

/-- The ticks that await local channels, oldest first. -/
def State.localAwaited (s : State) : List TickRec := (s.grid.hist.filter fun r => r.wait.any fun g => decide (g < 64)).reverse

/-- The local channels' samples of a tick, all of them or none (R43), on the settings of the tick. -/
def State.localTick (s : State) (r : TickRec) : Option (List (Nat × Smp)) :=
  let u := s.asAt r.n
  (r.wait.filter fun g => decide (g < 64)).mapM fun g => (u.localSample r g r.t).map fun x => (g, x)

/-- Deliver the local channels of the given ticks in order, as far as their taps have come and their instants are decided (R41, R43). -/
def State.localDeliver (s : State) : List TickRec → State
  | [] => s
  | r :: rest =>
    if !s.formable r.n then s else
    match s.localTick r with
    | some l => (forL l (fun x s => s.setSample r.n x.1 x.2) s).localDeliver rest
    | none => s

/-- The process-bus channels that some tick awaits, in ascending order. -/
def State.busAwaited (s : State) : List Nat :=
  match s.grid.hist.flatMap (·.wait) with
  | [] => []
  | l => ((List.range 512).drop 64).filter l.contains

/-- Deliver every grid sample whose taps have come. -/
def State.deliver (s : State) : State :=
  let s := s.localDeliver s.localAwaited
  forL s.busAwaited (fun g s => s.svDeliver g (s.awaited g)) s

/-- Deliver samples, let the tracker decide a cycle whose references have come, and deliver what waited for its decision. -/
def State.gridCatch (s : State) : State :=
  let s := s.deliver
  if s.trackDue.isNone then s else
  let s := s.trackNow
  if s.trackDue.isNone then s.deliver else s

/-- The trip-matrix rows of bays that do not run are evaluated at the tick (R363, R380). -/
def State.idleRows (s : State) (n : Nat) : State :=
  if !s.evaluates then s else
  match s.tickRec? n with
  | none => s
  | some r => s.idleRowsAt r

/-- The record of a new tick at instant `t` (2^-24 units). -/
def State.newTick (s : State) (n t : Nat) : TickRec :=
  { n := n, t := t, per := s.grid.per, freq := s.grid.freq, wait := (List.range 512).filter s.mapped, inp := s.latchInputs, tq := s.tqByte,
    tai := s.taiOf (t / 2 ^ 24), hold := s.freqHold,
    sv := s.pairSubs.map fun k => (k, (s.rd PBUS_SV_STATUS.STATE k, (s.svSub k).gone)), stby := s.role == 2,
    dig := s.pairChans.map fun c => (c, s.activeDig c), utc := s.rd GRID_UTC_OFS.VALUE, ofs := s.grid.taiOfs }

/-- What is owed before a tick of instant `t` (2^-24 units): the modulators run up to it, windows that end by it expire, samples, detectors
and record samples follow as far as they can. -/
def State.beforeTick (s : State) (codes : List (Nat × Codes)) (t : Nat) : State :=
  let d := t / 2 ^ 24
  let s := (s.fastAll.atTime d).ginsAll
  let s := forN 64 (fun c s => s.runChan c (t * 2 ^ 8) (fun _ => false) (((codes.find? fun x => x.1 == c).map (·.2)).getD [])) s
  let s := s.syncPend
  let s := forL s.busAwaited (fun g s => s.svExpireTo g d s.grid.hist.length) s
  s.gridCatch.fastAll.recAheadAll

/-- A tick that is no cycle's first fixes the period of its cycle, when the tracker's decision still waits for a process-bus channel; the
first tick of a cycle takes the frequency that such a decision left for it (DESIGN CHOICE, log entry 105). -/
def State.tickFreq (s : State) (first : Bool) : State :=
  if first then
    let s := match s.grid.nextF with | some f => s.setFreq f | none => s
    s.modGrid fun g => { g with fixed := false, nextF := none }
  else match s.trackDue with
    | some r => if s.refChans.any fun g => decide (64 ≤ g) && r.wait.contains g then s.modGrid fun g => { g with fixed := true } else s
    | none => s

/-- A tick of the protection grid (R18 to R54). `codes` are the modulator codes of channels up to the tick. Where a process-bus reference's
samples of the first tick of a cycle have not come by the first tick of the next, the tracker decides without them, and they count as
not VALID (DESIGN CHOICE, log entry 105). -/
def State.gridTick (s : State) (codes : List (Nat × Codes)) : State :=
  if s.rd GRID_STATUS.RUN = 0 then s else
  let n := s.grid.nextN
  let first := n % s.np == 0
  let s := if first then s.trackFull else s
  let t := s.grid.nextT
  let d := t / 2 ^ 24
  -- what belongs before the tick comes first, then a swap whose tick this is, if SETTINGS_SWAP has not brought it already
  let s := ((s.beforeTick codes t).settingsSwap).placeNow n d
  let s := s.tickFreq first
  let s := if first then (forN 64 (fun c s => s.cycleBank c) s).freqFollow n else s
  let r := s.newTick n t
  let s := s.modGrid fun g =>
    { g with hist := (r :: g.hist).take histKeep, nextN := n + 1, nextT := t + g.per, trkDone := !first && g.trkDone }
  let s := (s.wr64 GRID_TICK_LO.VALUE GRID_TICK_HI.VALUE n).wr GRID_CYCLE.VALUE (n / s.np)
  let s := (s.tickTaus n d first).gridCatch
  ((s.auxCalStart.idleRows n).tdAll).measureAll

end Sys2Proof.Machine
end

