-- ==== Sys2Proof/Machine/Host.lean ====
section
/-! DEFINITION. The host interface: session, system commands, the command table, berth registers, host-interface reset (R563 to
R605). -/
namespace Sys2Proof.Machine
open Reg

/-! ### The session (R568, R588 to R592) -/

/-- The device's feature word for a packet that arrives on an interface (R589). -/
def State.devFeat (s : State) (q : Bool) : Nat :=
  let w := s.rd64 ID_DEV_FEAT_LO.VALUE ID_DEV_FEAT_HI.VALUE
  andNot w (if q then 1 else 2)

/-- Phasor streaming is switched off in every bay. -/
def State.noStreams (s : State) : State := forN 64 (fun b s => s.wr BAY_PSTREAM.EN 0 b) s

/-- NEGOTIATE (R588 to R592). With both versions in common the higher is chosen (DESIGN CHOICE, log entry 64). -/
def cmdNegotiate (s : State) (q : Bool) (p : Packet) : CmdRes :=
  let host := p.word 0 + 2 ^ 32 * p.word 1
  let offer := p.word 2 % 4
  if p.len ≠ 12 then s.badLength
  else if p.target.toNat ≠ 0 then s.badTarget 0
  else if offer = 0 then s.answer .ifverUnsupported [3]
  else if !host.testBit (b2n q) then s.badTarget 30
  else
    let v := if 2 ≤ offer then 2 else 1
    let w := (host &&& s.devFeat q) ||| 2 ^ 13
    let s := ((s.wr HOST_STATUS.NEG 1).wr HOST_STATUS.IF (b2n q)).wr HOST_STATUS.IFVER v
    let s := s.wr64 HOST_FEAT_LO.VALUE HOST_FEAT_HI.VALUE w
    let s := if w.testBit 10 then s else s.noStreams
    let s := s.modHost fun h => { h with taps := h.taps.filter fun t => w.testBit (if t.goose then 3 else 2) }
    (s.logEv 0xB001 (b2n q) (v + 65536 * (w % 65536))).ok
      [w % 2 ^ 32, w / 2 ^ 32, v + 256 * 32 + 65536 * ifverLimit v, if q then 16 else 256]

/-- IDENTIFY (R593). -/
def cmdIdentify (s : State) (_q : Bool) (p : Packet) : CmdRes :=
  if p.len ≠ 0 then s.badLength
  else if p.target.toNat ≠ 0 then s.badTarget 0
  else s.ok [s.rd ID_SERIAL_LO.VALUE, s.rd ID_SERIAL_HI.VALUE, s.rd ID_PART.PART + 65536 * s.rd ID_PART.REV,
    s.rd ID_FW_VER.VALUE, Config.otp (ID_ROM_VER.VALUE.key 0 0) % 2 ^ 32, s.rd ID_DEV_FEAT_LO.VALUE, s.rd ID_DEV_FEAT_HI.VALUE,
    3 + 256 * s.rd PAIR_CFG.LKV + 65536 * s.role + 2 ^ 24 * s.rd HOST_STATUS.MAINT + 2 ^ 25 * b2n s.pwr.prot,
    s.rd SET_DIG_LO.VALUE, s.rd SET_DIG_HI.VALUE, s.grid.now % 2 ^ 32, s.grid.now / 2 ^ 32 % 2 ^ 32]

/-- RESTART (R594): what it accepts is logged durably; the start-up sequence follows. -/
def cmdRestart (s : State) (_q : Bool) (p : Packet) : CmdRes :=
  if p.len ≠ 4 then s.badLength
  else if p.target.toNat ≠ 0 then s.badTarget 0
  else if p.word 0 ≠ 0x54534552 then s.badTarget 27
  else if (s.role = 4 ∨ (s.role = 0 ∧ s.pwr.prot)) ∧ !s.maint then s.busy 14
  else
    let s := s.logEv 0x0003
    (s.drainAll.modHost fun h => { h with restartReq := true }).ok

/-! ### The command table (R598) -/

/-- The command of an opcode. -/
def hostCmd (op : Nat) : State → Bool → Packet → CmdRes :=
  match op with
  | 0x0101 => cmdNegotiate
  | 0x0102 => cmdIdentify
  | 0x0103 => cmdRestart
  | 0x0104 => cmdMaintMode
  | 0x0201 => cmdSelfcal
  | 0x0202 => cmdAuxInject
  | 0x0203 => cmdAfeDiag
  | 0x0204 => cmdAfeSkewcal
  | 0x0301 => cmdFltBankLoad
  | 0x0302 => cmdFltBankSwap
  | 0x0303 => cmdFltSync
  | 0x0401 => cmdTimeSet
  | 0x0501 => cmdPbusSubscribe
  | 0x0601 => cmdSetStage
  | 0x0602 => cmdSetEndorse
  | 0x0603 => cmdSetCommit
  | 0x0604 => cmdSetAbort
  | 0x0605 => cmdKeyEnrol
  | 0x0701 => cmdRecArm
  | 0x0702 => cmdRecFetch
  | 0x0703 => cmdRecExport
  | 0x0704 => cmdRecTrigger
  | 0x0705 => cmdRecDisarm
  | 0x0706 => cmdRecManage
  | 0x0801 => cmdEvtRead
  | 0x0802 => cmdEvtClear
  | 0x0901 => cmdPairJoin
  | 0x0902 => cmdPairYield
  | 0x0903 => cmdPairStatus
  | 0x0A01 => cmdBistRun
  | 0x0A02 => cmdRepairFuse
  | _ => fun s _ _ => s.answer .badOpcode

/-- A host command: the host writes its packet into B0 behind what stands there and moves HEAD past it. With nothing before it, the
supervisor interprets it at once; otherwise it waits its turn (R573 to R575, R584). The berth window answers once the grid
has started (R659). -/
def State.submit (s : State) (q : Bool) (op : Nat) (p : Packet) (f : State → Bool → Packet → CmdRes) : State :=
  if !s.up then s
  else if s.foreign q then s.bump HOST_BADPTR_CNT.VALUE
  else
    let hd := s.rd HOST_BERTH_HEAD.VALUE 0
    if s.berthSize 0 < s.content 0 + p.size then (s.bump HOST_BADPTR_CNT.VALUE).wr HOST_STATUS.PTR_ERR 1
    else if s.idleBerth ∧ p.len ≤ 65532 ∧ !s.mramWait op then
      let s := ((s.b0Write hd (p.bytes op)).wr HOST_BERTH_HEAD.VALUE (hd + p.size) 0).wr HOST_STATUS.PTR_ERR 0
      s.interpretWith f (Waiting.mk op q p)
    else
      ((s.b0Write hd (p.bytes op)).headWrite q (hd + p.size)).serve hostCmd

/-- A packet whose opcode no row of R598 defines (R585, R598). -/
def State.undefinedOpcode (s : State) (q : Bool) (op : Nat) (p : Packet) : State :=
  if opcodes.contains op then s else s.submit q op p (hostCmd op)

/-- The SUBOP of a SET_STAGE packet (R548). -/
def Packet.subop (p : Packet) : Nat := p.word 0 % 256

/-! ### Registers of the berths (R571 to R576, R601) -/

/-- A host write of B0 HEAD: the bytes the host wrote into B0 before it (count and byte), then the pointer (R565, R575). -/
def State.b0Head (s : State) (q : Bool) (l : List (Nat × Byte)) (v : Nat) : State :=
  if !s.up then s else
  let s := s.modHost fun h => { h with mem := l.foldl (fun m x => if x.1 < 131072 then memWrite m x.1 x.2 else m) h.mem }
  (s.headWrite q v).serve hostCmd

/-- A berth number and a TAIL lie on a message boundary of the berth (R575): the messages left. -/
def tailAt (tail v : Nat) : List Msg → Option (List Msg)
  | [] => if v = tail then some [] else none
  | m :: r => if v = tail then some (m :: r) else tailAt ((m.pos + m.len) % 2 ^ 32) v r

/-- A host write of the TAIL of a device-to-host berth (R568, R575, R601). -/
def State.tailWrite (s : State) (q : Bool) (b v : Nat) : State :=
  if s.foreign q then s.bump HOST_BADPTR_CNT.VALUE
  else if b = 0 then s
  else match tailAt (s.rd HOST_BERTH_TAIL.VALUE b) v (s.msgs b) with
  | none => (s.bump HOST_BADPTR_CNT.VALUE).wr HOST_STATUS.PTR_ERR 1
  | some l =>
    let s := ((s.setMsgs b l).wr HOST_BERTH_TAIL.VALUE v b).wr HOST_STATUS.PTR_ERR 0
    let s := s.modHost fun h => { h with armed := tset h.armed b true }
    let s := s.berthIrq b
    if b = 1 then s.setCredits.serve hostCmd else s

/-- The bytes two berths occupy overlap. -/
def spansMeet (a m b n : Nat) : Bool := decide (a < b + n) && decide (b < a + m)

/-- A berth may be enabled with a policy, size code and base in KB (R571, R572). -/
def State.berthFits (s : State) (b policy size base : Nat) : Bool :=
  let n := 2 ^ size
  decide (size ≤ 10) && decide (base % n = 0) && decide (base + n ≤ 4096) && decide (256 ≤ base) && decide (policy ≠ 3)
  && !(decide (s.rd HOST_STATUS.NEG = 1) && decide (s.rd HOST_STATUS.IF = 1) && decide (15 < b))
  && (List.range 256).all fun k => k < 2 || k == b || s.rd HOST_BERTH_CFG.EN k == 0
      || !spansMeet base n (s.rd HOST_BERTH_CFG.BASE k) (2 ^ s.rd HOST_BERTH_CFG.SIZE k)

/-- A host write of HOST_BERTH_CFG (R568, R572). -/
def State.berthCfg (s : State) (q : Bool) (b w : Nat) : State :=
  if s.foreign q then s.bump HOST_BADPTR_CNT.VALUE
  else if b < 2 then s
  else
    let en := HOST_BERTH_CFG.EN.get w
    let pol := HOST_BERTH_CFG.POLICY.get w
    let size := HOST_BERTH_CFG.SIZE.get w
    let base := HOST_BERTH_CFG.BASE.get w
    let was := s.rd HOST_BERTH_CFG.EN b
    if was = 1 ∧ en = 1 then s else
    let s := ((s.wr HOST_BERTH_CFG.POLICY pol b).wr HOST_BERTH_CFG.SIZE size b).wr HOST_BERTH_CFG.BASE base b
    if en = 0 then
      -- what a disabled berth held is gone
      if was = 0 then s else
      ((s.wr HOST_BERTH_CFG.EN 0 b).setMsgs b []).wr HOST_BERTH_TAIL.VALUE (s.rd HOST_BERTH_HEAD.VALUE b) b
    else if s.berthFits b pol size base then
      let s := ((s.wr HOST_BERTH_CFG.EN 1 b).wr HOST_BERTH_CFG.CFG_ERR 0 b).setMsgs b []
      let s := ((s.wr HOST_BERTH_HEAD.VALUE 0 b).wr HOST_BERTH_TAIL.VALUE 0 b).wr HOST_BERTH_SEQ.VALUE 0 b
      s.modHost fun h => { h with armed := tset h.armed b true }
    else s.wr HOST_BERTH_CFG.CFG_ERR 1 b

/-- The oldest unread message of a berth ages past HOLDOFF; the rule is also evaluated every 10 µs for a threshold that the host has lowered
(R601). -/
def State.berthHoldoff (s : State) (b : Nat) : State :=
  match s.msgs b with
  | m :: _ => if s.rd HOST_BERTH_IRQ.HOLDOFF b = 0 then s.berthIrq b else (s.atTime (m.at' + s.rd HOST_BERTH_IRQ.HOLDOFF b * 250)).berthIrq b
  | [] => s

/-- A second boundary: one HOST_BERTH_OVERFLOW for each berth whose drops rose in the second just ended (R579). -/
def State.berthOverflow (s : State) : State :=
  let k := s.nextSecond s.host.sec
  let l := s.host.secDrops
  let s := (s.atTime (k * second)).modHost fun h => { h with sec := k, secDrops := [] }
  forL l (fun x s => if x.2 = 0 then s else s.logAt (k * second) 0xB002 x.1 x.2) s

/-! ### Host-interface reset and link (R563, R569) -/

/-- A key of the register store belongs to a HOST_BERTH_ register of B2 to B255. -/
def berthKey (k : Nat) : Bool := decide (0x1040 ≤ k / 32) && decide (k / 32 < 0x3000)

/-- A host-interface reset (R569). -/
def State.hostReset (s : State) : State :=
  let s := { s with regs := s.regs.filter fun x => !berthKey x.1 }
  let s := ((s.wr HOST_STATUS.NEG 0).wr HOST_STATUS.IF 0).wr HOST_STATUS.IFVER 0
  let s := s.wr64 HOST_FEAT_LO.VALUE HOST_FEAT_HI.VALUE 0
  let s := forL [0, 1] (fun b s => ((s.wr HOST_BERTH_HEAD.VALUE 0 b).wr HOST_BERTH_TAIL.VALUE 0 b).wr HOST_BERTH_CNT.VALUE 0 b) s
  let s := s.modHost fun h =>
    { h with msgs := [], armed := [(1, true)], waiting := [], partialAt := none, resync := none, taps := [] }
  let s := (s.modRec fun r => { r with exporting := none }).wr REC_STATUS.EXPORT_BUSY 0
  let s := (s.noStreams.wr EVT_BERTH.EN 0).wr HOST_IRQ_PEND.MASK 0
  s.setCredits.bump HOST_RESET_CNT.VALUE

/-- A host write of HOST_CTRL (R569). -/
def State.hostCtrl (s : State) (w : Nat) : State := if w.testBit 0 then s.hostReset else s

/-- The register window answers: start-up is past step 1 (R652, R659). -/
def State.regWindow (s : State) : Bool := s.up || s.pwr.phase == .bootFail

/-- A PCIe hot reset, link down, FLR or return from D3hot (R569); the MSI-X structures take their reset values (PRESUMED, log
entry 65). -/
def State.pcieReset (s : State) (down : Bool) : State :=
  if !s.regWindow then s else
  let s := if down then (s.wr HOST_STATUS.LINK 0).wr HOST_STATUS.LINKSPD 0 else s
  let s := s.modHost fun h => { h with msix := [], msixPba := 0 }
  if s.rd HOST_STATUS.NEG = 1 ∧ s.rd HOST_STATUS.IF = 1 then s else s.hostReset

/-- The PCIe link trains (R563). -/
def State.pcieUp (s : State) (gen2 : Bool) : State :=
  if !s.regWindow then s else (s.wr HOST_STATUS.LINK 1).wr HOST_STATUS.LINKSPD (if gen2 then 2 else 1)

/-- IRQ_N is driven low (R567, R603). -/
def State.irqLow (s : State) : Bool :=
  decide (s.rd HOST_STATUS.NEG = 1) && decide (s.rd HOST_STATUS.IF = 1) && decide (s.rd HOST_IRQ_PEND.MASK &&& s.rd HOST_IRQ_MASK.MASK ≠ 0)

end Sys2Proof.Machine
end

