-- ==== Sys2Proof/Machine/Power.lean ====
section
/-! DEFINITION. Supplies, resets, start-up and the NOR port (R12, R17, R104, R559, R560, R618, R619, R639 to R664, R689). -/
namespace Sys2Proof.Machine
open Reg

/-! ### Resets (R642, R643, R650 to R652) -/

/-- A supply, the clock or the temperature resets the logic side (R643, R650, R651); one that the power-on reset holds already is
not reset again. -/
def State.supplyReset (s : State) (cause : Nat) : State := if s.pwr.phase = .unpowered then s else s.logicReset cause

/-- RST_N is driven low (R652). -/
def State.rstLow (s : State) : State := (s.modPwr fun p => { p with rstN := true }).supplyReset 1

/-! ### Supply supervision (R643 to R646) -/

/-- A monitor enters a state other than NORMAL (R643). -/
def State.uvEnter (s : State) (sticky : Field) : State := (s.wr sticky 1).bump PWR_UV_CNT.VALUE

/-- A self-calibration whose group in hand meets a low VAFE fails that group (R645). -/
def State.vafeSpoils (s : State) : State :=
  s.modAfe fun a => { a with cal := a.cal.map fun r => if r.cur.isSome then { r with badVafe := true } else r }

/-- VMAIN enters the warn state (R643). -/
def State.vmainWarn (s : State) : State :=
  if !s.up ∨ s.rd PWR_STATUS.VMAIN_WARN = 1 then s
  else ((s.wr PWR_STATUS.VMAIN_WARN 1).uvEnter PWR_UV_STICKY.VMAIN_WARN).pairWatch

/-- VMAIN leaves the warn state (R643): what was withheld meanwhile is written, latches (R367), coefficient banks (R179), skews (R114) and the
epoch of a claim (R502), and the commands that waited for a write are interpreted. -/
def State.vmainClear (s : State) : State :=
  if s.rd PWR_STATUS.VMAIN_WARN = 0 then s else
  let p := s.pwr
  let s := ((s.wr PWR_STATUS.VMAIN_WARN 0).modPwr fun p => { p with owedBanks := [], owedSkew := false, owedClaim := false }).storeLatches
  let s := s.storeBanks p.owedBanks
  let s := if p.owedSkew then s.storeSkew else s
  let s := forN 4 (fun i s => s.recCommit i) s
  (if p.owedClaim then s.claim else s).serve hostCmd

/-- VAFE falls below 3.10 V (R643). -/
def State.vafeLow (s : State) : State :=
  if !s.up ∨ s.rd PWR_STATUS.VAFE_LOW = 1 then s
  else ((s.wr PWR_STATUS.VAFE_LOW 1).uvEnter PWR_UV_STICKY.VAFE_LOW).vafeSpoils.pairWatch

/-- VAFE is back at 3.12 V (R643). -/
def State.vafeClear (s : State) : State :=
  if s.rd PWR_STATUS.VAFE_LOW = 0 ∨ s.rd PWR_STATUS.VAFE_LOST = 1 then s else s.wr PWR_STATUS.VAFE_LOW 0

/-- VAFE falls below 2.90 V, and with it below 3.10 V (R643): the modulator groups are powered down, and no word of theirs is settled
(R105). -/
def State.vafeLost (s : State) : State :=
  if !s.up ∨ s.rd PWR_STATUS.VAFE_LOST = 1 then s
  else
    let s := ((s.vafeLow.wr PWR_STATUS.VAFE_LOST 1).uvEnter PWR_UV_STICKY.VAFE_LOST).vafeSpoils.wr AFE_STATUS.GRP_PWR 0
    let t := s.grid.now * 2 ^ 32
    forN 64 (fun c s => s.flagFrom c bSETTLING t none) (s.modAfe fun a => { a with settled := [] })

/-- The soft-start powers group g `g` ms after device time `t`, and it settles for 2 ms (R104). -/
def groupUp (t g : Nat) : Nat := t + (g + 2) * 250000

/-- VAFE has been back at 3.10 V for 1 ms at device time `t` (R645): the soft-start powers group g after g ms, it settles for 2 ms, and
its chains are then reset (R104, R105, R174). -/
def State.vafeReturn (s : State) (t : Nat) : State :=
  if s.rd PWR_STATUS.VAFE_LOST = 0 then s else
  let s := (s.atTime t).wr PWR_STATUS.VAFE_LOST 0
  let t := s.grid.now
  let s := s.modAfe fun a => { a with settled := (List.range 4).map fun g => (g, groupUp t g) }
  forN 64 (fun c s =>
    let e := groupUp t (c / 16) * 2 ^ 32
    let s := (s.spliceRestartAt c (t * 2 ^ 32)).flagUntil c bSETTLING e
    s.setChan c { s.chan c with powerUp := some e, valFrom := e + s.settleSpan c }) s

/-! ### The bank in force at start-up (R559, R560, R658) -/

/-- The structure fields (R658). -/
def structFields : List Field := [
  GRID_CFG.NOMF, GRID_CFG.NP, GRID_CFG.NR, FLT_CH_CFG.K, FLT_CH_CFG.RCODE, AFE_CH_CFG.MODE, PBUS_NET_CFG.MODE, PBUS_NET_CFG.PORT_EN,
  DIO_CH_CFG.DIR, DIO_CH_CFG.PAR, DIO_CH_CFG.PARTNER] ++ fieldsPair.filter fun f => f.addr == PAIR_CFG.EN.addr

/-- The structure fields of a bank, with every other field at its reset value. -/
def Bank.structure' (k : Bank) : Bank :=
  { words := k.words.filterMap fun x =>
      let l := spAt x.1
      if l.any structFields.contains then
        some (x.1, l.foldl (fun w f => f.put w (if structFields.contains f then f.get x.2 else f.reset)) 0)
      else none }

/-- The newest SET_COMMITTED entry of the log carries a counter. -/
def State.committedLogged (s : State) (ctr : Nat) : Bool :=
  (s.nv.log.entries.find? fun e => e.code == 0x9003).any fun e => e.val == ctr % 2 ^ 32

/-- Custody decides its state and the bank in force (R559, R560). -/
def State.custStart (s : State) (v : StartView) : State :=
  let s := s.modCustNv fun c => c.found v.custBad
  let c := s.nv.cust
  if v.bankBad || c.bad then
    let s := s.modCustNv fun c => { c with bank := {}, pend := none, work := false, bad := true }
    ((s.wr SET_CHAMBER.LOST 1).wr PWR_STATUS.BANK_LOST 1).logEv 0x0006 0 0x0601
  else
    let s := s.modCustNv fun c => { c with work := false }
    match c.pend with
    | none => if c.work then s.logEv 0x9004 0 (if s.rd PWR_RST_CAUSE.CAUSE = 2 then 3 else 2) else s
    | some p =>
      if p.at'.any fun t => decide (s.tai < t) then s.setChamber 5
      else
        let s := s.custWrite fun c => { c with bank := p.bank, pend := none, commits := satInc c.commits }
        if s.committedLogged p.ctr then s else s.logEv 0x9003 0 (p.ctr % 2 ^ 32)

/-- The structure fields are applied to the hardware, and the field die is configured (R389, R658). -/
def State.applyStructure (s : State) : State :=
  let k := s.nv.cust.bank
  let s := { s with bank := k.structure', prev := none }
  let s := ((s.wr GRID_STATUS.NOMF_IF (k.fld GRID_CFG.NOMF)).wr GRID_STATUS.NP_IF (k.fld GRID_CFG.NP)).wr GRID_STATUS.NR_IF (k.fld GRID_CFG.NR)
  let s := s.modNet fun n => { n with mode := k.fld PBUS_NET_CFG.MODE, ports := k.fld PBUS_NET_CFG.PORT_EN, bind := none }
  let s := s.modDio fun d => { d with bind := none, health := true }
  let s := (((s.wr DIO_STATUS.UV s.dio.uv).wr DIO_VFIELD.VALUE s.dio.mv).claimRegs).wr PAIR_CLAIM.OWN s.claimWord
  if s.dio.reset then s.dioRegs else s.dieConfigure.dioRegs

/-! ### Start-up to the end of step 6 (R654 to R659) -/

/-- The slot the boot ROM loads: its number, version and rollback index (R655). -/
def StartView.slot (v : StartView) (rbMin : Nat) : Option (Nat × Nat × Nat) :=
  let ok := fun (x : Option (Nat × Nat)) => x.bind fun y => if rbMin ≤ y.2 then some y else none
  match ok v.slot0, ok v.slot1 with
  | some a, some b => if a.1 < b.1 then some (1, b) else some (0, a)
  | some a, none => some (0, a)
  | none, some b => some (1, b)
  | none, none => none

/-- Step 3: the logic BIST of the engines (R610). -/
def State.startEngines (s : State) (l : List (Fin 9 × Bool)) : State :=
  let s := forN 9 (fun k s =>
    match l.find? fun x => x.1.val == k with
    | none =>
      (((s.wr BIST_ENG_STATUS.HEALTHY 1 k).wr BIST_ENG_STATUS.LAST 1 k).bump BIST_ENG_PASS_CNT.VALUE k).modBist
        fun v => { v with passAt := tset v.passAt k s.grid.now }
    | some x =>
      let s := ((s.wr BIST_ENG_STATUS.HEALTHY 0 k).wr BIST_ENG_STATUS.CAUSE (if x.2 then 4 else 3) k).wr BIST_ENG_STATUS.LAST (if x.2 then 3 else 2) k
      s.logEv 0xA002 k (if x.2 then 4 else 3)) s
  s

/-- Step 4: MBIST of a macro, its failing rows and candidates soft-repaired (R618, R619). -/
def State.startMacro (s : State) (m : Nat) (rows : List Nat) : State :=
  let l := (rows ++ tget [] s.nv.bist.cand m).eraseDups
  let fused := tget 0 s.nv.bist.fused m
  let s := s.repRegs m
  if l.isEmpty then s
  else if 24 < fused + l.length then (s.modPwr fun p => { p with halt := true }).logEv 0x0006 0 (0x0A60 + m)
  else ((s.modBist fun v => { v with soft := tset v.soft m l }).wr BIST_SRAM_REP.SOFT l.length m).logEv 0xA004 m (l.length + 256 * fused)

/-- The row latches as start-up finds their copies (R367). -/
def State.findLatches (s : State) (v : StartView) : State :=
  s.modNv fun n => { n with lat := n.lat.map fun x =>
    (x.1, x.2.found (BitVec.ofNat 2 (b2n (v.latBad.toNat.testBit x.1) + 2 * b2n (v.latOld.toNat.testBit x.1)))) }

/-- Device time begins at the newer good copy of the bound, and the next bound is written over the other copy (R12). Without a good copy, of which
R12 says nothing, it begins where the count stood (DESIGN CHOICE, log entry 106). -/
def State.startTime (s : State) (bad : BitVec 2) : State :=
  s.modGrid fun g =>
    let b := g.bound.found bad
    let now := max g.now (b.good.getD 0)
    { now := now, bound := b.put (boundAfter now) }

/-- Step 5: what MRAM holds is restored (R658). Where neither copy of the skews is good, of which R114 says nothing, S_cal is 0 in every
channel (DESIGN CHOICE, log entry 106). -/
def State.restore (s : State) (v : StartView) : State :=
  let s := s.startTime v.bndBad
  let s := (s.logStart v.torn).modHost fun h => { h with sec := s.grid.now / second }
  let s := (s.startEngines v.eng)
  let s := forN 32 (fun m s => s.startMacro m ((v.rows.filter fun x => x.1.val == m).map (·.2))) s
  let s := s.custStart v
  let k := s.nv.cust.bank
  let s := s.modNv fun n => { n with epoch := n.epoch.found v.epochBad }
  let s := s.applyStructure.restoreBanks v.fltBad
  let s := (s.modAfeNv fun n => { n with skew := n.skew.found v.skewBad }).findLatches v
  let s := forN 64 (fun c s => s.wrI AFE_CH_CAL_SKEW.VALUE (tget 0 (s.nv.afe.skew.good.getD []) c) c) s
  let s := ((s.spareRegs).storeRegs.wr REC_STATUS.STORE_OK 1).showBank k.bankDigest k.setDigest
  s.custRegs

/-- The end of one of steps 1 to 6, in µs (R657). -/
def StartView.stepUs (v : StartView) (step : Nat) : Nat := v.us.getD (step - 1) 0

/-- Step 6 ends at device time `t`, 5 ms after it began: the groups have been powered at 0 to 3 ms and have settled for 2 ms each, the grid
starts, every chain is reset (R17, R104, R174). -/
def State.startGrid (s : State) (t us : Nat) : State :=
  let s := (s.atTime t).modGrid fun g => { g with nextN := 0, nextT := t * 2 ^ 24 }
  let s := (s.setFreq s.fnom).wr GRID_STATUS.RUN 1
  let s := (s.wr AFE_STATUS.GRP_PWR 15).modAfe fun a => { a with settled := (List.range 4).map fun g => (g, groupUp (t - 1250000) g) }
  let s := forN 64 (fun c s => (s.setChan c { s.chan c with tm := t * 2 ^ 32 }).chainReset c) s
  let s := (s.wr PWR_STEP_TIME.VALUE us 5).wr PWR_START.STEP 7
  s.modPwr fun p => { p with phase := .calibrating, gridStart := t, gridUs := us, selfcalSeen := false, applied := false }

/-- Start-up from the release of reset to the end of step 6 (R657 to R659). -/
def State.startUp (s : State) (v : StartView) : State :=
  let go := decide (s.pwr.phase = .released) || decide (s.pwr.phase = .held) || (s.up && s.host.restartReq)
  if !go then s else
  let s := if s.up then s.logicReset 2 else s
  let s := (s.wr CLK_STATUS.LOCK 1).wr CLK_STATUS.REF_OK 1
  let s := s.modPwr fun p => { p with rstN := false }
  let s := if s.pwr.step2 then s else s.wr PWR_STEP_TIME.VALUE (v.stepUs 1) 0
  match v.slot (s.rd ID_FW_SLOT.RB_MIN) with
  | none => (s.wr PWR_START.STEP 15).modPwr fun p => { p with phase := .bootFail }
  | some (slot, ver, rb) =>
    let s := ((s.wr PWR_RST_CAUSE.SLOT slot).wr ID_FW_VER.VALUE ver).wr ID_FW_SLOT.RB rb
    let s := forL [2, 3, 4, 5] (fun i s => s.wr PWR_STEP_TIME.VALUE (v.stepUs i) (i - 1)) s
    let s := (s.restore v).busWait.ptpPorts.xFrom
    let t0 := s.grid.now
    let s := s.atTime (t0 + (v.stepUs 5 - v.stepUs 4) * 250)
    let s := s.logEv 0x0001 0 (s.rd PWR_RST_CAUSE.CAUSE + 256 * slot + 512 * s.rd PWR_STATUS.BANK_LOST)
    s.startGrid (s.grid.now + 1250000) (v.stepUs 5 + 5000)

/-! ### Steps 7 to 10 (R660 to R662) -/

/-- The device runs its own SELFCAL 500 ms after the grid start, having accepted none (R660). -/
def State.autocal (s : State) : State :=
  if s.pwr.phase ≠ .calibrating ∨ s.pwr.selfcalSeen then s else
  let s := (s.atTime (s.pwr.gridStart + 125000000)).modPwr fun p => { p with selfcalSeen := true }
  (s.startCal 15 3).wr PWR_START.AUTOCAL 1

/-- The bank in force is applied at the grid's next tick, in the manner of R557; row latches stay as MRAM holds them (R661). -/
def State.applyBank (s : State) : State :=
  let n := s.grid.nextN
  let t := s.grid.nextT / 2 ^ 24
  let s := s.atTime t
  let old := s.bank
  let new := s.nv.cust.bank
  let lat := s.nv.lat
  let s := { s with prev := some (old, n), bank := new }
  let s := s.wr GRID_UTC_OFS.VALUE (if s.pbus.ptp.utc then s.rd GRID_UTC_OFS.VALUE else new.fld PBUS_UTC_SET.VALUE)
  let s := (s.swapGrid old new n).busWait.ptpPorts
  let s := s.swapChannels old new n s.grid.nextT
  let s := ((s.swapBays old new n).swapRows old new).modNv fun v => { v with lat := lat }
  let s := s.swapLog old new
  (s.wr KNOT_STATUS.LOADED 1).modPwr fun p => { p with applied := true }

/-- Protection is enabled (R662), or the unit enters JOINING (R521); recorder instances take their settings (R436). -/
def State.protect (s : State) : State :=
  let n := s.grid.nextN
  let s := if s.rd PAIR_CFG.EN = 1 then s.enterJoining
    else
      let s := s.restoreLatches
      let s := s.modPwr fun p => { p with prot := true }
      let s := forL s.enabledBays (fun b s => s.bayStart b n) s
      (s.wr PAIR_CLAIM.ASSERT 1).logEv 0x0002
  let s := ((s.stepEnd 8).stepEnd 9).stepEnd 10
  let s := (s.wr PWR_START.STEP 10).modPwr fun p => { p with phase := .running }
  let s := forN 4 (fun i s => s.recStart i) s
  ((s.place n s.grid.now).nrUpdate).alive

/-- Steps 8 to 10 (R661, R662); a start-up that R619 stops goes no further than step 8. -/
def State.startSettings (s : State) : State :=
  if s.pwr.phase ≠ .settings ∨ s.pwr.applied then s
  else if s.pwr.halt then s.applyBank.alive
  else s.applyBank.protect

/-! ### The NOR through JTAG (R654, R656, R689) -/

/-- The words of a NOR sector of 64 KB. -/
def norSector : Nat := 16384
/-- The words of the NOR. -/
def norSize : Nat := 4194304

/-- The word of the NOR at a word address. -/
def NorSt.read (n : NorSt) (a : Nat) : Nat :=
  if norSize ≤ a then Config.unstated 4 a % 2 ^ 32 else
  match tfind n.words a with
  | some v => v
  | none =>
    match tfind n.sect (a / norSector) with
    | some none => 2 ^ 32 - 1
    | some (some k) => Config.freeValue (k + a % norSector) % 2 ^ 32
    | none => Config.unstated 4 a % 2 ^ 32

/-- A completed operation; a word that did not read 0xFFFF_FFFF takes an open value (R689). -/
def State.norApply (s : State) (x : NorOp) : State :=
  let n := s.nv.nor
  let put := fun (s : State) (f : NorSt → NorSt) => s.modNv fun v => { v with nor := f v.nor }
  if x.op = 1 then put s fun n => { n with data := n.read x.addr }
  else if norSize ≤ x.addr then s
  else if x.op = 2 then
    if n.read x.addr = 2 ^ 32 - 1 then put s fun n => { n with words := tset n.words x.addr x.data }
    else
      let r := s.fresh 32
      put r.2 fun n => { n with words := tset n.words x.addr r.1 }
  else
    let q := x.addr / norSector
    put s fun n => { n with words := n.words.filter fun w => w.1 / norSector != q, sect := tset n.sect q none }

/-- NOR_ACCESS: Update-DR with a data register word (R689). An OP that the table does not list starts nothing. -/
def State.norAccess (s : State) (w : Nat) : State :=
  let op := w / 2 ^ 56 % 256
  if op = 0 ∨ 3 < op then s
  else if !s.pwr.rstN ∨ s.nv.nor.busy.isSome then s.modNv fun v => { v with nor := { v.nor with error := true } }
  else
    let x : NorOp := { op := op, addr := w / 2 ^ 32 % 2 ^ 24, data := w % 2 ^ 32 }
    s.modNv fun v => { v with nor := { v.nor with busy := some x, error := false } }

/-- The NOR operation in progress completes (R689). -/
def State.norDone (s : State) : State :=
  match s.nv.nor.busy with
  | some x => (s.norApply x).modNv fun v => { v with nor := { v.nor with busy := none } }
  | none => s

/-- What the next Capture-DR returns (R689). -/
def State.norCapture (s : State) : Nat :=
  s.nv.nor.data + 2 ^ 56 * (b2n s.nv.nor.busy.isSome + 2 * b2n s.nv.nor.error + 4 * b2n s.pwr.rstN)

/-- A power loss cuts a program or an erase short: what it was writing is open (R656). -/
def State.norCut (s : State) : State :=
  match s.nv.nor.busy with
  | none => s
  | some x =>
    let s := s.modNv fun v => { v with nor := { v.nor with busy := none } }
    if norSize ≤ x.addr then s
    else if x.op = 2 then
      let r := s.fresh 32
      r.2.modNv fun v => { v with nor := { v.nor with words := tset v.nor.words x.addr r.1 } }
    else if x.op = 3 then
      let q := x.addr / norSector
      let k := s.free
      { s with free := k + norSector }.modNv fun v =>
        { v with nor := { v.nor with words := v.nor.words.filter fun w => w.1 / norSector != q, sect := tset v.nor.sect q (some k) } }
    else s

/-- The power-on reset releases (R642): it was the latest reset, with cause 0, and cut short what the NOR was doing. -/
def State.powerOn (s : State) : State :=
  if s.pwr.phase ≠ .unpowered ∧ s.pwr.phase ≠ .held then s else
  let s := s.norCut
  let s := (s.wr PWR_RST_CAUSE.PREV (s.rd PWR_RST_CAUSE.CAUSE)).wr PWR_RST_CAUSE.CAUSE 0
  (s.bump PWR_RST_CNT.VALUE).modPwr fun p => { p with phase := .released, step2 := false }

end Sys2Proof.Machine
end

