-- ==== Sys2Proof/Machine/Window.lean ====
section
/-! DEFINITION. The register window: what a host read returns and does, what a host write does (R3 to R6, R15, R564, R568, R655,
R659). -/
namespace Sys2Proof.Machine
open Reg

/-! ### What a read shows -/

/-- The read-only fields an element's words show, by TYPE (R308, R318 to R341). -/
def elmShow (type : Nat) : List Field :=
  ELM_OUT.BITS ::
  (if type ≤ 4 then [ELM_OC_MEMAGE.VALUE, ELM_ACC_A.VALUE, ELM_ACC_B.VALUE, ELM_ACC_C.VALUE, ELM_OC_M.VALUE, ELM_OC_OPTIME.VALUE]
  else match type with
  | 6 => [ELM_TH_THETA.VALUE, ELM_TH_TTT.VALUE, ELM_TH_IEQ.VALUE]
  | 14 => [ELM_BF_TM.VALUE]
  | 15 => [ELM_AR_STATE.STATE, ELM_AR_STATE.SHOT, ELM_AR_STATE.REASON, ELM_AR_TM.VALUE, ELM_AR_CNT.OK, ELM_AR_CNT.LOCK]
  | 16 => [ELM_SY_DV.VALUE, ELM_SY_DF.VALUE, ELM_SY_DPH_P.VALUE]
  | 17 | 18 => [ELM_HR_R.VALUE]
  | 19 => [ELM_CLP_STATE.STATE, ELM_CLP_TM.VALUE]
  | _ => [ELM_LV_Q.VALUE, ELM_LV_TM.VALUE, ELM_LV_OPTIME.VALUE])

/-- Seconds since a moment, rounded down and saturated. -/
def State.ageSec (s : State) (t : Option Nat) : Nat :=
  match t with | some x => min ((s.grid.now - x) / second) (2 ^ 32 - 1) | none => 2 ^ 32 - 1

/-- The value a read of a field shows: those that are computed when read, and the register store for the rest. -/
def State.view (s : State) (f : Field) (i j : Nat) : Nat :=
  if f.acc == .WO then 0
  else if f == GRID_TIME_LO.VALUE then s.grid.now
  else if f == GRID_TIME_HI.VALUE then s.grid.now / 2 ^ 32
  else if f == GRID_TAI_OFS_LO.VALUE then toBits 64 s.grid.taiOfs
  else if f == GRID_TAI_OFS_HI.VALUE then toBits 64 s.grid.taiOfs / 2 ^ 32
  else if f == GRID_RATE_ADJ.VALUE then toBits 32 s.grid.delta
  else if f == HOST_DEV_FEAT_LO.VALUE then s.rd ID_DEV_FEAT_LO.VALUE
  else if f == HOST_DEV_FEAT_HI.VALUE then s.rd ID_DEV_FEAT_HI.VALUE
  else if f == HOST_MAINT_LEFT.VALUE then if s.maint then (s.host.maintEnd - s.grid.now + second - 1) / second else 0
  else if f == PBUS_MAC_LO.VALUE then s.rd ID_MAC_LO.VALUE
  else if f == PBUS_MAC_HI.VALUE then s.rd ID_MAC_HI.VALUE
  else if f == ID_ROM_VER.VALUE then Config.otp (f.key 0 0)
  else if f == AFE_CH_EFF_GAIN_A.VALUE then
    gEff (s.rd ID_AFE_GAIN_A.VALUE i) (s.gainCal AFE_CH_CAL_GAIN_A.VALUE i) (s.rd AFE_CH_TRIM_GAIN.VALUE i)
  else if f == AFE_CH_EFF_SKEW.VALUE then toBits 32 (s.effSkew i)
  else if f == AUX_SCAN_STATUS.INJ_FULL then b2n ((s.injCatch i).conv i).inj.isSome
  else if f == EVT_RATE.EXEMPT then b2n (exempt (4096 * i + j))
  else if f == BAY_STATUS.PV_ALL then s.bayShows i (s.pvAll i)
  else if f == BAY_STATUS.FHOLD then s.bayShows i fun n => (s.bayFreq i n).isNone
  else if f == BAY_STATUS.SFHOLD then s.bayShows i fun n => (s.syncFreq i n).isNone
  else if f == SET_GRP_ST.ACTIVE then s.group i
  else if f == PAIR_SNAP_AGE.VALUE then s.snapAgeReg
  else if f == REC_DRAIN_RATE.VALUE then (drainAt s.rec'.drain (s.grid.now / second) 0).2.2
  else if f == BIST_ENG_AGE.VALUE then s.ageSec (tfind s.bist.passAt i)
  else if f == DIO_TOW_STATUS.IN_ACTIVE then b2n (s.dio.towAt.any fun t => decide (s.grid.now ≤ t + 375000))
  else if f == KNOT_COUNT.VALUE then (s.bank.knots.filter fun x => knotEn x.2).length
  else if f == KNOT_RD.VALUE then s.bank.knotWordAt (s.rd KNOT_SEL.INDEX) i
  else s.rd f i j

/-- A register word put together from the values its fields show; reserved bits read 0 (R5). -/
def State.wordFrom (s : State) (l : List (Field × Nat × Nat)) : Nat :=
  l.foldl (fun a x => a + s.view x.1 x.2.1 x.2.2 % 2 ^ x.1.width * 2 ^ x.1.lsb) 0

/-- The fields of an element's word outside its settings, with the element. -/
def State.elmFields (s : State) (a : Nat) : List (Field × Nat × Nat) :=
  ((elmShow (s.bank.etype (elmAt a))).filter fun f => f.addr == elmBase + elmOff a).map fun f => (f, elmAt a, 0)

/-- A word of the ELM_ block: settings, group words of the group in force (R312), and what the element shows. -/
def State.elmRead (s : State) (a : Nat) : Nat :=
  let e := elmAt a
  let w := elmOff a
  let g := s.group (s.bank.fld ELM_CFG.BAY e)
  (if groupOff w then s.bank.elmGroupWord e g w else s.bank.elmWord e w) + s.wordFrom (s.elmFields a)

/-- An address lies in the MSI-X table. -/
def inMsix (a : Nat) : Bool := decide (0x8000 ≤ a) && decide (a < 0x8200)

/-- The word a host read of an address returns; an unimplemented offset reads 0 (R564). -/
def State.readWord (s : State) (a : Nat) : Nat :=
  if inElm a then s.elmRead a
  else if inMsix a then tget (b2n ((a - 0x8000) / 4 % 4 == 3)) s.host.msix ((a - 0x8000) / 4)
  else if a = 0x9000 then s.host.msixPba
  else s.wordFrom (fieldsAt plainFields a)

/-- The blocks that answer when no firmware slot is valid: CLK_, PWR_ and ID_ (R655). -/
def bootBlock (a : Nat) : Bool := (decide (0x10000 ≤ a) && decide (a < 0x20000)) || (decide (0x130000 ≤ a) && decide (a < 0x140000))

/-- The window answers at an address. -/
def State.answers (s : State) (a : Nat) : Bool := s.up || (s.pwr.phase == .bootFail && bootBlock a)

/-! ### The berth window (R565) -/

/-- Bit 31 of an access selects the berth window, over QSPI as R566 says, and over PCIe too (DESIGN CHOICE, log entry 116). -/
def berthBit : Nat := 2 ^ 31

/-- The byte of the berth window at an offset: what an enabled berth holds there, 0 elsewhere. -/
def State.windowByte (s : State) (o : Nat) : Byte :=
  if (List.range 256).any fun b => s.rd HOST_BERTH_CFG.EN b == 1 && decide (s.berthBase b ≤ o) && decide (o < s.berthBase b + s.berthSize b)
  then memRead s.host.mem o else 0

/-- The word of the berth window at an offset. -/
def State.windowWord (s : State) (o : Nat) : Nat := ofLe ((List.range 4).map fun i => s.windowByte (o + i))

/-- A write to the berth window, byte by byte: only what falls within B0 is taken. -/
def State.windowWrite (s : State) (o be w : Nat) : State :=
  s.modHost fun h => { h with mem := (List.range 4).foldl (fun m i =>
    if be.testBit i ∧ o + i < 131072 then memWrite m (o + i) (BitVec.ofNat 8 (w / 256 ^ i)) else m) h.mem }

/-! ### Reads -/

/-- The LO registers whose read latches the HI register behind them (R15 and the register tables). -/
def loRegs : List Nat :=
  [GRID_TIME_LO.VALUE.addr, GRID_TAI_OFS_LO.VALUE.addr, GRID_TICK_LO.VALUE.addr, AUX_SCAN_TS_LO.VALUE.at' 0 0, AUX_SCAN_TS_LO.VALUE.at' 1 0,
   AUX_INJ_TS_LO.VALUE.at' 0 0, AUX_INJ_TS_LO.VALUE.at' 1 0, BIST_MISR_LO.VALUE.addr, DIO_TOW_EDGE_LO.VALUE.addr, PAIR_DT_OFS_LO.VALUE.addr,
   SET_CTR_LO.VALUE.addr, SET_SWAP_TICK_LO.VALUE.addr, SET_PEND_TAI_LO.VALUE.addr]

/-- The word a read returned is what the host has. -/
def State.returns (s : State) (w : Nat) : State := s.modHost fun h => { h with rdata := w }

/-- The read-to-clear fields at an address are cleared to their reset values (R4). -/
def State.clearRc (s : State) (a : Nat) : State :=
  let l := if inElm a then s.elmFields a else fieldsAt plainFields a
  let s := forL (l.filter fun x => x.1.acc == .RC) (fun x s => s.wr x.1 x.1.reset x.2.1 x.2.2) s
  match PBUS_SV_DLY_MAX.VALUE.indexAt a with
  | some x => s.setSv x.1 { s.svSub x.1 with dly := none }
  | none => s

/-- A host read of one word, with its side effects (R4, R15, R137, R272, R564). -/
def State.hostRead (s : State) (a : Nat) : State :=
  if !s.regWindow then s
  else if berthBit ≤ a then s.returns (if s.up then s.windowWord (a - berthBit) else 0)
  else if !s.answers a then s.returns 0
  else match AUX_RESULT.DATA.indexAt a, AUX_INJ_RESULT.DATA.indexAt a, BAY_TICK_LO.VALUE.indexAt a with
  | some (m, k), _, _ => let r := s.auxRead m k; r.1.returns r.2
  | _, some (m, _), _ => let r := s.injRead m; r.1.returns r.2
  | _, _, some (b, _) => let s := s.bayLatch b; s.returns (s.readWord a)
  | none, none, none =>
    match tfind s.host.hiLatch a with
    | some v => (s.modHost fun h => { h with hiLatch := terase h.hiLatch a }).returns v
    | none =>
      let s := if loRegs.contains a then s.modHost fun h => { h with hiLatch := tset h.hiLatch (a + 4) (s.readWord (a + 4)) } else s
      (s.clearRc a).returns (s.readWord a)

/-! ### Writes -/

/-- Write the read-write fields at an address (R4). -/
def State.writeRw (s : State) (a w : Nat) : State :=
  forL ((fieldsAt plainFields a).filter fun x => x.1.acc == .RW) (fun x s => s.wr x.1 (x.1.get w) x.2.1 x.2.2) s

/-- Write 1s to the write-1-to-clear fields at an address (R4). -/
def State.writeW1c (s : State) (a w : Nat) : State :=
  forL ((fieldsAt plainFields a).filter fun x => x.1.acc == .W1C)
    (fun x s => s.wr x.1 (andNot (s.rd x.1 x.2.1 x.2.2) (x.1.get w)) x.2.1 x.2.2) s

/-- A write of an MSI-X table word; unmasking a vector delivers it if it is held pending (R603, R604). -/
def State.msixWrite (s : State) (a w : Nat) : State :=
  let k := (a - 0x8000) / 4
  let s := s.modHost fun h => { h with msix := tset h.msix k (if k % 4 = 3 then w % 2 else w) }
  if k % 4 = 3 ∧ !w.testBit 0 ∧ s.host.msixPba.testBit (k / 4) then
    s.modHost fun h => { h with msixPba := andNot h.msixPba (2 ^ (k / 4)), sent := some (k / 4) }
  else s

/-- The registers only the session's interface may write (R568). -/
def sessionOnly (a : Nat) : Bool :=
  a == HOST_CAUSE_CFG.EN.addr || a == HOST_IRQ_PEND.MASK.addr || a == HOST_IRQ_MASK.MASK.addr
  || (decide (0x1000 ≤ a) && decide (a < 0x3000) && decide (a % 32 ≤ 0xC))

/-- A write of a berth's registers (R568, R572, R575). THRESH and HOLDOFF of B0 stay 0. -/
def State.berthWrite (s : State) (q : Bool) (a w : Nat) : State :=
  let b := (a - 0x1000) / 32
  match a % 32 with
  | 0x0 => s.berthCfg q b w
  | 0x4 => if b = 0 then s.b0Head q [] w else s
  | 0x8 => s.tailWrite q b w
  | 0xC => s.writeRw a (if b = 0 then w % 32 else w)
  | _ => s

/-- A host write of one word with all its byte enables set. -/
def State.hostWrite (s : State) (q : Bool) (a w : Nat) : State :=
  if !s.answers a then s
  else if sessionOnly a ∧ s.foreign q then s.bump HOST_BADPTR_CNT.VALUE
  else if 0x1000 ≤ a ∧ a < 0x3000 then s.berthWrite q a w
  else if inMsix a then s.msixWrite a w
  else if inElm a then s.spWrite a (s.readWord a) w
  else if a = HOST_CTRL.RESET.addr then s.hostCtrl w
  else if a = AFE_TDAC_CTRL.DEST.addr then s.tdacCtrl w
  else if a = AFE_TDAC_DATA.CODE.addr then if s.tdacOwned then s else s.writeRw a w
  else if a = AFE_TESTMARK_LO.MASK.addr then s.testmarkWrite false w
  else if a = AFE_TESTMARK_HI.MASK.addr then s.testmarkWrite true w
  else if a = KNOT_TM_RESET.MASK.addr then s.tmReset w
  else if a = KNOT_TM_FORCE_EN.MASK.addr then s.tmForce false w
  else if a = KNOT_TM_FORCE_VAL.MASK.addr then s.tmForce true w
  else if a = AUX_XCHK_CFG.EN.addr then s.xchkWrite w
  else if a = PBUS_LEAP.DIR.addr then s.leapWrite w
  else if a = PBUS_MDIO.VALUE.addr then s.mdioWrite w
  else if a = PBUS_TOD_LO.VALUE.addr then s.todWrite false w
  else if a = PBUS_TOD_HI.VALUE.addr then s.todWrite true w
  else match AUX_INJ_REQ.VALUE.indexAt a, AUX_TRG_CFG.SRC.indexAt a, BAY_PSTREAM.EN.indexAt a with
  | some (m, _), _, _ => s.injWrite m w
  | _, some (m, _), _ => s.auxTrgCfg m w
  | _, _, some (b, _) => s.pstreamWrite b w
  | none, none, none =>
    let s := if s.spMaskAt a = 0 then s else s.spWrite a (s.readWord a) w
    let s := (s.writeRw a w).writeW1c a w
    if a = DIO_ALIVE.HOSTOFF.addr then s.alive else s

/-- REGISTER_WRITE: a write word to a register whose byte enables are not all set is ignored (R564); the berth window takes bytes (R565). -/
def State.registerWrite (s : State) (q : Bool) (a be w : Nat) : State :=
  if berthBit ≤ a then if s.up then s.windowWrite (a - berthBit) be w else s
  else if be ≠ 15 ∨ a % 4 ≠ 0 then s else s.hostWrite q a w

end Sys2Proof.Machine
end

