-- ==== Sys2Proof/Machine/Operands.lean ====
section
/-! DEFINITION. Where a command lands: on the logic side, on the field die, or on one object of a kind, and the happenings that touch
both dies. -/
namespace Sys2Proof.Machine
open Reg

/-- What happens on the logic side happens only while it runs (R651, R657). -/
def State.live (s : State) (f : State → State) : State := if s.up then f s else s

/-- What happens on the field die happens whether or not the logic side runs (R384, R651); what the logic side sees of it comes with
its start. -/
def State.viaDie (s : State) (f : State → State) : State := if s.up then f s else { s with dio := (f s).dio }

/-- The link is lost (R388): the die starts LINKHOLD; the logic side, while it runs, logs the loss. -/
def State.linkDown (s : State) : State := if s.up then s.linkLost.pairWatch else { s with dio := (s.linkLost).dio }

/-- A readback frame arrives and the pair logic takes note of what it says of the claim (R387, R418, R529). -/
def State.readbackSeen (s : State) (t : Nat) (p : PadView) (err : List Nat) : State :=
  let r := s.readbackRx t p err
  (if r.2 then r.1.claimLost else r.1).pairWatch.nrUpdate

/-- A frame on the claim line arrives (R417, R420); the pair logic hears of a valid one. -/
def State.claimSeen (s : State) (t : Nat) (bits : BitVec 16) : State :=
  let s' := s.claimRx t bits
  if s.claimTakes bits then s'.claimHeard else s'

/-- A host write of a write-1-to-clear register (R4, R568). -/
def State.w1cRow (s : State) (q : Bool) (a w : Nat) : State :=
  if !s.answers a then s
  else if sessionOnly a ∧ s.foreign q then s.bump HOST_BADPTR_CNT.VALUE
  else s.writeW1c a w

/-- A host read of AUX_RESULT (R137). -/
def State.auxResultRead (s : State) (m k : Nat) : State := let r := s.auxRead m k; r.1.returns r.2

/-- A host read of BAY_TICK_LO, which latches the bay's phasor registers (R272). -/
def State.bayTickRead (s : State) (b : Nat) : State :=
  let s := s.bayLatch b
  s.returns (s.readWord (BAY_TICK_LO.VALUE.at' b 0))

end Sys2Proof.Machine
end

