-- ==== Sys2Proof/Machine/Tap.lean ====
section
/-! DEFINITION. The TAP of IEEE 1149.1, clocked by the board (R656, R682, R688, R689). What the standard gives, the spec names by reference
(PRESUMED, log entry 118). -/
namespace Sys2Proof.Machine
open Reg

/-! ### Instructions -/

/-- EXTEST, SAMPLE/PRELOAD, EXTEST_PULSE and EXTEST_TRAIN select the boundary register (R688). -/
def scanInstr (ir : BitVec 8) : Bool := ir == 0x00 || ir == 0x01 || ir == 0x06 || ir == 0x07

/-- The boundary register drives the logic signal pads: EXTEST, CLAMP, EXTEST_PULSE, EXTEST_TRAIN. -/
def scanDrives (ir : BitVec 8) : Bool := ir == 0x00 || ir == 0x04 || ir == 0x06 || ir == 0x07

/-- IDCODE (R688). -/
def State.idcode (s : State) : Nat := 2 ^ 28 * (s.rd ID_PART.REV % 16) + 0x7464567

/-- Capture-DR: the register of the instruction takes what it reports (R688, R689). The levels that the boundary register samples are open. -/
def State.tapCapture (s : State) : State :=
  let put := fun (s : State) (l : List Bool) => { s with tap := { s.tap with dr := l } }
  let ir := s.tap.ir
  if scanInstr ir then
    put { s with free := s.free + Config.scanCells }
      ((List.range Config.scanCells).map fun i => (Config.freeValue (s.free + i)).testBit 0)
  else if ir = 0x02 then put s (bitsLsb 32 s.idcode)
  else if ir = 0x40 then put s (bitsLsb 64 s.norCapture)
  else put s [false]

/-- Update-DR: NOR_ACCESS starts its operation (R689), the boundary register's latches take what was shifted in. -/
def State.tapUpdate (s : State) : State :=
  let ir := s.tap.ir
  if scanInstr ir then { s with tap := { s.tap with cells := s.tap.dr } }
  else if ir = 0x40 then s.norAccess (ofBits s.tap.dr)
  else s

/-! ### The controller -/

/-- The state that follows a rising edge of TCK. -/
def TapState.next (t : TapState) (tms : Bool) : TapState :=
  match t with
  | .reset => if tms then .reset else .idle
  | .idle => if tms then .selectDr else .idle
  | .selectDr => if tms then .selectIr else .captureDr
  | .captureDr => if tms then .exit1Dr else .shiftDr
  | .shiftDr => if tms then .exit1Dr else .shiftDr
  | .exit1Dr => if tms then .updateDr else .pauseDr
  | .pauseDr => if tms then .exit2Dr else .pauseDr
  | .exit2Dr => if tms then .updateDr else .shiftDr
  | .updateDr => if tms then .selectDr else .idle
  | .selectIr => if tms then .reset else .captureIr
  | .captureIr => if tms then .exit1Ir else .shiftIr
  | .shiftIr => if tms then .exit1Ir else .shiftIr
  | .exit1Ir => if tms then .updateIr else .pauseIr
  | .pauseIr => if tms then .exit2Ir else .pauseIr
  | .exit2Ir => if tms then .updateIr else .shiftIr
  | .updateIr => if tms then .selectDr else .idle

/-- One shift: the first stage leaves, TDI enters behind the last. -/
def shiftIn (l : List Bool) (tdi : Bool) : List Bool := l.drop 1 ++ [tdi]

/-- The rising edge of TCK: a register in Capture takes its value, one in Shift moves by a bit, the controller goes on. -/
def State.tapRise (s : State) (x : TapClk) : State :=
  let s := match s.tap.state with
    | .captureDr => s.tapCapture
    | .shiftDr => { s with tap := { s.tap with dr := shiftIn s.tap.dr x.tdi } }
    | .captureIr => { s with tap := { s.tap with irShift := bitsLsb 8 (1 + 4 * (Config.unstated 5 0 % 64)) } }
    | .shiftIr => { s with tap := { s.tap with irShift := shiftIn s.tap.irShift x.tdi } }
    | _ => s
  { s with tap := { s.tap with state := s.tap.state.next x.tms } }

/-- The falling edge of TCK: an update takes effect, and Test-Logic-Reset selects IDCODE (R688). -/
def State.tapFall (s : State) : State :=
  match s.tap.state with
  | .updateDr => s.tapUpdate
  | .updateIr => { s with tap := { s.tap with ir := BitVec.ofNat 8 (ofBits s.tap.irShift) } }
  | .reset => { s with tap := { s.tap with ir := 0x02 } }
  | _ => s

/-- One cycle of TCK; TRST_N low alone holds the TAP in reset (R652, R681). -/
def State.tapClock (s : State) (x : TapClk) : State :=
  if !x.trst then { s with tap := { s.tap with state := .reset, ir := 0x02 } } else (s.tapRise x).tapFall

/-- The cycles of TCK that the board gives. -/
def State.tapClocks (s : State) (l : List TapClk) : State := forL l (fun x s => s.tapClock x) s

/-- TDO: the bit next to leave while the TAP shifts, high-impedance otherwise (R682). -/
def TapSt.tdo (t : TapSt) : Option Bool :=
  match t.state with
  | .shiftDr => t.dr.head?
  | .shiftIr => t.irShift.head?
  | _ => none

/-- A logic-side output pad that the part pulls low when `own` says so: under HIGHZ it is released, and under an instruction by which the
boundary register drives the pads that decides (R688). -/
def TapSt.pad (t : TapSt) (k : Nat) (own : Bool) : Bool :=
  if t.state = .reset then own
  else if t.ir = 0x05 then false
  else if scanDrives t.ir then Config.scanPad k t.cells
  else own

end Sys2Proof.Machine
end

