-- ==== Sys2Proof/Machine/Tdac.lean ====
section
/-! DEFINITION. What the test DAC and the calibration bus drive, and the channels that are off their pads (R97, R106 to R112). -/
namespace Sys2Proof.Machine
open Reg

/-- A code of the test DAC for a level of `num / den` of full scale: offset binary, rounded to nearest, held to 12 bits (R106; the rounding is
a DESIGN CHOICE, log entry 98). -/
def dacCode (num : Int) (den : Nat) : Nat :=
  (clampI (2048 + (2 * num * 2048 + den) / (2 * den : Nat)) 0 4095).toNat

/-- Point `k` of a sine of `n` points of 1 µs, with a peak of `num / den` of full scale. -/
def dacSine (n k num den : Nat) : Nat := dacCode (sinQ23 n k * num) (2 ^ 23 * den)

/-- A square wave of 500 Hz, `us` into it: high for the first half of its period (DESIGN CHOICE, log entry 98). -/
def dacSquare (us : Nat) (num den : Nat) : Nat := if us % 2000 < 1000 then dacCode num den else dacCode (-(num : Int)) den

/-- What the calibration bus carries to a group under calibration (R97). -/
def calDrive (us : Nat) : CalDrive :=
  if us < 1000 then .open
  else if us < 4000 then .short
  else if us < 5500 then .plus
  else if us < 7000 then .minus
  else if us < 8000 then .plus
  else if us < 9000 then .minus
  else if us < 11000 then .dac
  else .open

/-- The test DAC under the procedure in hand, `us` into it: its code and whether the bus range is divided by 32. A self-calibration drives
5 kHz with 30 mV of ±46.875 mV (R97); a diagnosis 0 V, ±25 mV and ±1.0 V (R110); a skew calibration 1 kHz with 1.0 V from 1,000 points
(R112). -/
def calDac (us : Nat) : Option (Nat × Bool) :=
  if 9000 ≤ us ∧ us < 11000 then some (dacSine 200 us 640 1000, true) else none
/-- The test DAC in a diagnosis. -/
def diagDac (us : Nat) : Option (Nat × Bool) :=
  if us < 1000 ∨ 7000 ≤ us then none
  else if us < 3000 then some (0x800, false)
  else if us < 5000 then some (dacSquare (us - 3000) 25000 46875, true)
  else some (dacSquare (us - 5000) 2 3, false)
/-- The test DAC in a skew calibration. -/
def skewDac (us : Nat) : Option (Nat × Bool) := if us < 22000 then some (dacSine 1000 us 2 3, false) else none

/-- The code of the host's waveform: DC, or the point of the table that its RATE has come to, over LEN + 1 points (R106). -/
def State.hostDac (s : State) : Nat :=
  if s.rd AFE_TDAC_CTRL.WAVE = 0 then s.rd AFE_TDAC_DATA.CODE
  else
    let us := (s.grid.now - s.afe.dacAt) / 250
    s.rd AFE_TDAC_TABLE.CODE (us / max 1 (s.rd AFE_TDAC_CTRL.RATE) % (s.rd AFE_TDAC_CTRL.LEN + 1))

/-- Microseconds since device time `t`. -/
def State.usSince (s : State) (t : Nat) : Nat := (s.grid.now - t) / 250

/-- What the internal test bus carries: the code of the test DAC and whether its range is divided by 32. -/
def State.testBus (s : State) : Option (Nat × Bool) :=
  match s.afe.cal.bind (·.cur), s.afe.diag, s.afe.skew with
  | some (_, t), _, _ => if t ≤ s.grid.now then calDac (s.usSince t) else none
  | _, some (_, t), _ => diagDac (s.usSince t)
  | _, _, some (_, t) => skewDac (s.usSince t)
  | none, none, none =>
    if s.rd AFE_TDAC_CTRL.RUN = 1 ∧ s.rd AFE_TDAC_CTRL.DEST = 1 then some (s.hostDac, s.rd AFE_TDAC_CTRL.ATT == 1) else none

/-- The code on TDAC_OUT; `none` while it is off. RUN is cleared when a procedure takes the DAC: a SELFCAL at the start of its first group
(R103, R107). -/
def State.tdacOut (s : State) : Option Nat :=
  if s.rd AFE_TDAC_CTRL.RUN == 1 && s.rd AFE_TDAC_CTRL.DEST == 2 then some s.hostDac else none

/-- What the calibration bus carries (R97). -/
def State.calBus (s : State) : CalDrive :=
  match s.afe.cal.bind (·.cur) with
  | some (_, t) => if t ≤ s.grid.now then calDrive (s.usSince t) else .open
  | none => .open

/-- The levels at the inputs of modulators A and B of the group under calibration, in nV, and whether B is at gain 32 (R97). -/
def State.calIn (s : State) : Option (Option (Int × Int) × Bool) :=
  match s.afe.cal.bind (·.cur) with
  | some (_, t) => if t ≤ s.grid.now then calInputs (s.usSince t) else none
  | none => none

/-- The channels disconnected from their pads (R97, R108, R634). A group is off them for its whole 12 ms, as the text of R97 says; the last
row of its table has them reconnected from 11.0 ms (DESIGN CHOICE, log entry 97). -/
def State.padsOff (s : State) : List Nat :=
  let cal := match s.afe.cal.bind (·.cur) with | some (g, t) => if t ≤ s.grid.now then groupList g else [] | none => []
  cal ++ (s.afe.diag.map (·.1)).toList ++ (s.afe.skew.map fun x => maskIdx 64 x.1).getD [] ++ groupChans (s.rd AFE_STATUS.GRP_BIST)

end Sys2Proof.Machine
end

