-- ==== Sys2Proof/Machine/Flags.lean ====
section
/-! DEFINITION. What every command leaves behind: the life contact and the output pads follow the state, and the queue is the step's. -/
namespace Sys2Proof.Machine
open Reg

/-- The outputs of the part in a state: IRQ_N (R567, R603), TRIG_BUS (R443), the drivers of DIO0 to DIO31 (R400), TOW_OUT (R414) and
ALIVE_OUT, which the die drives on the logic side's request while VFIELD, configuration, link and load allow it (R412). -/
def State.padsNow (s : State) : Pads :=
  { irqLow := s.tap.pad 0 s.irqLow, trigLow := s.tap.pad 1 s.rec'.busOut.isSome, tdo := s.tap.tdo, dio := s.dio.drv, towOut := s.dio.towOut,
    aliveOut := s.dio.aliveReq && s.dio.link && decide (s.dio.uv < 3) && s.dio.cfg && !s.dio.reset && s.dio.alOvl.isNone,
    tdac := s.tdacOut, calBus := s.calBus, calIn := s.calIn, testBus := s.testBus, off := s.padsOff }

/-- The register store with GRP_PWR showing the modulator groups that have settled by now after a power-up (R104). -/
def State.grpRegs (s : State) : Tab Nat :=
  if s.afe.settled.isEmpty then s.regs
  else (s.wr AFE_STATUS.GRP_PWR (idxMask ((s.afe.settled.filter fun x => decide (x.2 ≤ s.grid.now)).map (·.1)))).regs

/-- The state with GRP_PWR brought up to date (R104). -/
def State.grpShown (s : State) : State := { s with regs := s.grpRegs }

/-- The state with its groups, its life contact and its pads brought up to date (R104, R412). -/
def State.shown (s : State) : State := { s.alive.grpShown with pads := s.alive.grpShown.padsNow }

/-- What a command executed on `s` leaves when its effect gave `t`: the outputs shown, the queue as the command found it. -/
def State.left (s t : State) : State := { t.shown with pending := s.pending }

/-- A command executed on `s` whose effect gave `t`: a next state. -/
def State.done (s t : State) : Host.Outcome State Fault Refusal := .next (s.left t)

end Sys2Proof.Machine
end

