-- ==== Sys2Proof/Machine/CmdHost.lean ====
section
/-! DEFINITION. Host commands: packets of the command berth (R580 to R598). -/
namespace Sys2Proof.Machine
open Reg

/-- NEGOTIATE (R588): Host command that opens or renews a session, choosing the interface version and the negotiated feature word. -/
def execNegotiate (q : Bool) (p : Packet) (s : State) : Host.Outcome State Fault Refusal :=
  s.done (s.submit q 0x0101 p cmdNegotiate)

/-- IDENTIFY (R593): Host command that returns serial, part, firmware, features, role and settings digest. -/
def execIdentify (q : Bool) (p : Packet) (s : State) : Host.Outcome State Fault Refusal :=
  s.done (s.submit q 0x0102 p cmdIdentify)

/-- RESTART (R594): Guarded host command that logs RESTART, replies and restarts the logic side through start-up. -/
def execRestart (q : Bool) (p : Packet) (s : State) : Host.Outcome State Fault Refusal :=
  s.done (s.submit q 0x0103 p cmdRestart)

/-- MAINT_MODE (R595): Host command that enters or renews maintenance mode with a lease, or leaves it. -/
def execMaintMode (q : Bool) (p : Packet) (s : State) : Host.Outcome State Fault Refusal :=
  s.done (s.submit q 0x0104 p cmdMaintMode)

/-- SELFCAL (R94): Host command that requests self-calibration of selected modulator groups and AUX converters. -/
def execSelfcal (q : Bool) (p : Packet) (s : State) : Host.Outcome State Fault Refusal :=
  s.done (s.submit q 0x0201 p cmdSelfcal)

/-- AUX_INJECT (R135): Host command that requests one injected conversion of an AUX input. -/
def execAuxInject (q : Bool) (p : Packet) (s : State) : Host.Outcome State Fault Refusal :=
  s.done (s.submit q 0x0202 p cmdAuxInject)

/-- AFE_DIAG (R110): Host command that starts the 10 ms path diagnosis of one analog channel. -/
def execAfeDiag (q : Bool) (p : Packet) (s : State) : Host.Outcome State Fault Refusal :=
  s.done (s.submit q 0x0203 p cmdAfeDiag)

/-- AFE_SKEWCAL (R112): Host command that starts the 24 ms skew calibration of the selected channels. -/
def execAfeSkewcal (q : Bool) (p : Packet) (s : State) : Host.Outcome State Fault Refusal :=
  s.done (s.submit q 0x0204 p cmdAfeSkewcal)

/-- FLT_BANK_LOAD (R176): Host command that writes the non-active coefficient bank of the masked channels. -/
def execFltBankLoad (q : Bool) (p : Packet) (s : State) : Host.Outcome State Fault Refusal :=
  s.done (s.submit q 0x0301 p cmdFltBankLoad)

/-- FLT_BANK_SWAP (R180): Host command that queues a cross-faded swap to the non-active coefficient bank. -/
def execFltBankSwap (q : Bool) (p : Packet) (s : State) : Host.Outcome State Fault Refusal :=
  s.done (s.submit q 0x0302 p cmdFltBankSwap)

/-- FLT_SYNC (R171): Host command that schedules a synchronising reset of the masked filter chains. -/
def execFltSync (q : Bool) (p : Packet) (s : State) : Host.Outcome State Fault Refusal :=
  s.done (s.submit q 0x0303 p cmdFltSync)

/-- TIME_SET (R241): Host command that supplies a TAI and device-time pair, applied as a time measurement. -/
def execTimeSet (q : Bool) (p : Packet) (s : State) : Host.Outcome State Fault Refusal :=
  s.done (s.submit q 0x0401 p cmdTimeSet)

/-- PBUS_SUBSCRIBE (R597): Host command that starts or ends a frame tap copying accepted SV or GOOSE frames to a berth. -/
def execPbusSubscribe (q : Bool) (p : Packet) (s : State) : Host.Outcome State Fault Refusal :=
  s.done (s.submit q 0x0501 p cmdPbusSubscribe)

/-- SET_STAGE_OPEN (R548): SET_STAGE operation that copies the bank in force into the shadow bank and enters STAGING. -/
def execSetStageOpen (q : Bool) (p : Packet) (s : State) : Host.Outcome State Fault Refusal :=
  s.done (if p.subop ≠ 2 ∧ p.subop ≠ 3 then s.submit q 0x0601 p cmdSetStage else s)

/-- SET_STAGE_WRITE (R549): SET_STAGE operation that replaces shadow registers, group words, knots or objects. -/
def execSetStageWrite (q : Bool) (p : Packet) (s : State) : Host.Outcome State Fault Refusal :=
  s.done (if p.subop = 2 then s.submit q 0x0601 p cmdSetStage else s)

/-- SET_STAGE_SEAL (R548): SET_STAGE operation that validates the shadow bank and fixes its digests. -/
def execSetStageSeal (q : Bool) (p : Packet) (s : State) : Host.Outcome State Fault Refusal :=
  s.done (if p.subop = 3 then s.submit q 0x0601 p cmdSetStage else s)

/-- SET_ENDORSE (R550): Host command that presents one endorsement block to open a gate of the lock chamber. -/
def execSetEndorse (q : Bool) (p : Packet) (s : State) : Host.Outcome State Fault Refusal :=
  s.done (s.submit q 0x0602 p cmdSetEndorse)

/-- SET_COMMIT (R551): Host command that writes the pending record durably and schedules the swap of an endorsed bank. -/
def execSetCommit (q : Bool) (p : Packet) (s : State) : Host.Outcome State Fault Refusal :=
  s.done (s.submit q 0x0603 p cmdSetCommit)

/-- SET_ABORT (R553): Host command that discards the shadow bank, or with an endorsement cancels a pending commit. -/
def execSetAbort (q : Bool) (p : Packet) (s : State) : Host.Outcome State Fault Refusal :=
  s.done (s.submit q 0x0604 p cmdSetAbort)

/-- KEY_ENROL (R554): Host command that enrols, changes or revokes a key slot. -/
def execKeyEnrol (q : Bool) (p : Packet) (s : State) : Host.Outcome State Fault Refusal :=
  s.done (s.submit q 0x0605 p cmdKeyEnrol)

/-- REC_ARM (R461): Host command that arms a recorder instance. -/
def execRecArm (q : Bool) (p : Packet) (s : State) : Host.Outcome State Fault Refusal :=
  s.done (s.submit q 0x0701 p cmdRecArm)

/-- REC_FETCH (R461): Host command that returns a directory page, a record summary or channel measurements. -/
def execRecFetch (q : Bool) (p : Packet) (s : State) : Host.Outcome State Fault Refusal :=
  s.done (s.submit q 0x0702 p cmdRecFetch)

/-- REC_EXPORT (R461): Host command that starts a COMTRADE export of a record into a berth. -/
def execRecExport (q : Bool) (p : Packet) (s : State) : Host.Outcome State Fault Refusal :=
  s.done (s.submit q 0x0703 p cmdRecExport)

/-- REC_TRIGGER (R461): Host command that triggers the masked recorder instances. -/
def execRecTrigger (q : Bool) (p : Packet) (s : State) : Host.Outcome State Fault Refusal :=
  s.done (s.submit q 0x0704 p cmdRecTrigger)

/-- REC_DISARM (R461): Host command that disarms an instance and closes any running record as STOPPED. -/
def execRecDisarm (q : Bool) (p : Packet) (s : State) : Host.Outcome State Fault Refusal :=
  s.done (s.submit q 0x0705 p cmdRecDisarm)

/-- REC_MANAGE (R461): Host command that protects, unprotects or deletes a stored record. -/
def execRecManage (q : Bool) (p : Packet) (s : State) : Host.Outcome State Fault Refusal :=
  s.done (s.submit q 0x0706 p cmdRecManage)

/-- EVT_READ (R484): Host command that returns entries from the circulating or permanent event area. -/
def execEvtRead (q : Bool) (p : Packet) (s : State) : Host.Outcome State Fault Refusal :=
  s.done (s.submit q 0x0801 p cmdEvtRead)

/-- EVT_CLEAR (R481): Endorsed host command that clears circulating entries up to a sequence number. -/
def execEvtClear (q : Bool) (p : Packet) (s : State) : Host.Outcome State Fault Refusal :=
  s.done (s.submit q 0x0802 p cmdEvtClear)

/-- PAIR_JOIN (R531): Host command that re-arms detection and restarts joining. -/
def execPairJoin (q : Bool) (p : Packet) (s : State) : Host.Outcome State Fault Refusal :=
  s.done (s.submit q 0x0901 p cmdPairJoin)

/-- PAIR_YIELD (R532): Host command that makes an active unit offer a planned handover. -/
def execPairYield (q : Bool) (p : Packet) (s : State) : Host.Outcome State Fault Refusal :=
  s.done (s.submit q 0x0902 p cmdPairYield)

/-- PAIR_STATUS (R533): Host command that returns the pair status of the unit or of its partner. -/
def execPairStatus (q : Bool) (p : Packet) (s : State) : Host.Outcome State Fault Refusal :=
  s.done (s.submit q 0x0903 p cmdPairStatus)

/-- BIST_RUN (R632): Host command that starts a self-test of an engine, modulator group, AUX converter or field channel. -/
def execBistRun (q : Bool) (p : Packet) (s : State) : Host.Outcome State Fault Refusal :=
  s.done (s.submit q 0x0A01 p cmdBistRun)

/-- REPAIR_FUSE (R622): Host command that burns soft SRAM repairs into fuses. -/
def execRepairFuse (q : Bool) (p : Packet) (s : State) : Host.Outcome State Fault Refusal :=
  s.done (s.submit q 0x0A02 p cmdRepairFuse)

/-- BAD_OPCODE (R598): A command packet with an undefined opcode is answered BAD_OPCODE and changes nothing. -/
def execBadOpcode (q : Bool) (op : BitVec 16) (p : Packet) (s : State) : Host.Outcome State Fault Refusal :=
  s.done (s.undefinedOpcode q op.toNat p)

end Sys2Proof.Machine
end

