-- ==== Sys2Proof/Machine/CmdWindow.lean ====
section
/-! DEFINITION. Register accesses and what else reaches the host interface (R3 to R6, R563 to R579, R601 to R603). -/
namespace Sys2Proof.Machine
open Reg

/-- REGISTER_WRITE (R564): Host write of a register that has no row of its own. -/
def execRegisterWrite (q : Bool) (a : Word) (be : BitVec 4) (w : Word) (s : State) : Host.Outcome State Fault Refusal :=
  s.done (s.registerWrite q a.toNat be.toNat w.toNat)

/-- SP_WRITE (R539): Direct host write to a register holding SP fields; the SP bits are ignored and the rest applied. -/
def execSpWrite (q : Bool) (a : Word) (w : Word) (s : State) : Host.Outcome State Fault Refusal :=
  s.done (s.live fun s => if s.spMaskAt a.toNat = 0 then s else s.hostWrite q a.toNat w.toNat)

/-- RC_READ (R4): Host read of a read-to-clear field, which returns and clears it. -/
def execRcRead (q : Bool) (a : Word) (s : State) : Host.Outcome State Fault Refusal :=
  s.done (s.hostRead a.toNat)

/-- W1C_WRITE (R4): Host write of 1s to a write-1-to-clear field, clearing those bits. -/
def execW1cWrite (q : Bool) (a : Word) (w : Word) (s : State) : Host.Outcome State Fault Refusal :=
  s.done (s.w1cRow q a.toNat w.toNat)

/-- LO_READ_LATCH (R15): Host read of a LO register that latches its HI partner. -/
def execLoReadLatch (a : Word) (s : State) : Host.Outcome State Fault Refusal :=
  s.done (s.live fun s => if loRegs.contains a.toNat then s.hostRead a.toNat else s)

/-- AUX_RESULT_READ (R137): Host read of an AUX result, returning VALID, DUP, OVR and clearing VALID and OVR. -/
def execAuxResultRead (m : Fin 2) (k : Fin 24) (s : State) : Host.Outcome State Fault Refusal :=
  s.done (s.live fun s => s.auxResultRead m k)

/-- AUX_INJ_REQ_WRITE (R132): Host write that requests an injected AUX conversion through the latch. -/
def execAuxInjReqWrite (m : Fin 2) (w : Word) (s : State) : Host.Outcome State Fault Refusal :=
  s.done (s.live fun s => s.injWrite m w.toNat)

/-- AUX_TRG_CFG_WRITE (R128): Host write of the AUX trigger configuration, discarding any trigger waiting out its delay. -/
def execAuxTrgCfgWrite (m : Fin 2) (w : Word) (s : State) : Host.Outcome State Fault Refusal :=
  s.done (s.live fun s => s.auxTrgCfg m w.toNat)

/-- AFE_TDAC_CTRL_WRITE (R106): Host write that starts or stops the test DAC output, ignored while a procedure owns it. -/
def execAfeTdacCtrlWrite (w : Word) (s : State) : Host.Outcome State Fault Refusal :=
  s.done (s.live fun s => s.tdacCtrl w.toNat)

/-- AFE_TESTMARK_WRITE (R109): Host write that marks channels TEST in maintenance mode. -/
def execAfeTestmarkWrite (hi : Bool) (w : Word) (s : State) : Host.Outcome State Fault Refusal :=
  s.done (s.live fun s => s.testmarkWrite hi w.toNat)

/-- BAY_TICK_LO_READ (R272): Host read that latches a bay's measurement registers at its latest completed tick. -/
def execBayTickLoRead (b : Fin 64) (s : State) : Host.Outcome State Fault Refusal :=
  s.done (s.live fun s => s.bayTickRead b)

/-- KNOT_TM_RESET_WRITE (R365): Host write that requests a reset of trip-matrix row latches. -/
def execKnotTmResetWrite (w : Word) (s : State) : Host.Outcome State Fault Refusal :=
  s.done (s.live fun s => s.tmReset w.toNat)

/-- KNOT_TM_FORCE_WRITE (R368): Host write that forces row commands in maintenance mode. -/
def execKnotTmForceWrite (val : Bool) (w : Word) (s : State) : Host.Outcome State Fault Refusal :=
  s.done (s.live fun s => s.tmForce val w.toNat)

/-- PBUS_LEAP_WRITE (R235): Host write that announces a leap second and sets LEAP_PENDING. -/
def execPbusLeapWrite (w : Word) (s : State) : Host.Outcome State Fault Refusal :=
  s.done (s.live fun s => s.leapWrite w.toNat)

/-- PBUS_MDIO_WRITE (R203): Host write that starts an MDIO transaction to a PHY, pausing link polling. -/
def execPbusMdioWrite (w : Word) (s : State) : Host.Outcome State Fault Refusal :=
  s.done (s.live fun s => s.mdioWrite w.toNat)

/-- B0_HEAD_WRITE (R575): Host write of the command berth HEAD, making command packets visible. -/
def execB0HeadWrite (q : Bool) (l : List (Nat × Byte)) (v : Word) (s : State) : Host.Outcome State Fault Refusal :=
  s.done (s.live fun s => s.b0Head q l v.toNat)

/-- BERTH_TAIL_WRITE (R575): Host write of a device-to-host berth TAIL, consuming messages and re-arming its interrupt. -/
def execBerthTailWrite (q : Bool) (b : Fin 256) (v : Word) (s : State) : Host.Outcome State Fault Refusal :=
  s.done (s.live fun s => s.tailWrite q b v.toNat)

/-- HOST_BERTH_CFG_WRITE (R572): Host write that enables, disables or reconfigures a berth. -/
def execHostBerthCfgWrite (q : Bool) (b : Fin 256) (w : Word) (s : State) : Host.Outcome State Fault Refusal :=
  s.done (s.live fun s => s.berthCfg q b w.toNat)

/-- HOST_CTRL_RESET_WRITE (R569): Host write of HOST_CTRL.RESET requesting a host-interface reset. -/
def execHostCtrlResetWrite (w : Word) (s : State) : Host.Outcome State Fault Refusal :=
  s.done (s.live fun s => s.hostCtrl w.toNat)

/-- PCIE_RESET (R569): A PCIe hot reset, link down, FLR or return from D3hot causes a host-interface reset. -/
def execPcieReset (down : Bool) (s : State) : Host.Outcome State Fault Refusal :=
  s.done (s.live fun s => s.pcieReset down)

/-- PCIE_LINK_UP (R563): The PCIe link trains up at 2.5 or 5.0 GT/s and HOST_STATUS.LINK and LINKSPD change. -/
def execPcieLinkUp (gen2 : Bool) (s : State) : Host.Outcome State Fault Refusal :=
  s.done (s.live fun s => s.pcieUp gen2)

/-- RESYNC (R584): A command packet that cannot be framed within 100 ms is discarded with a RESYNC reply. -/
def execResync (s : State) : Host.Outcome State Fault Refusal :=
  s.done (s.live fun s => s.resyncDue)

/-- BERTH_IRQ_HOLDOFF (R601): Unread berth messages age past HOLDOFF and the berth's vector is raised. -/
def execBerthIrqHoldoff (b : Fin 256) (s : State) : Host.Outcome State Fault Refusal :=
  s.done (s.live fun s => s.berthHoldoff b)

/-- HOST_BERTH_OVERFLOW (R579): At each second boundary an event is logged for each berth whose drops rose. -/
def execHostBerthOverflow (s : State) : Host.Outcome State Fault Refusal :=
  s.done (s.live fun s => s.berthOverflow)

/-- MAINT_LEASE_EXPIRY (R596): The maintenance lease runs out and maintenance mode ends. -/
def execMaintLeaseExpiry (s : State) : Host.Outcome State Fault Refusal :=
  s.done (s.live fun s => s.maintLease)

/-- AUTH_LOCKOUT_END (R546): The 60 s endorsement lockout expires. -/
def execAuthLockoutEnd (s : State) : Host.Outcome State Fault Refusal :=
  s.done (s.live fun s => s.authLockoutEnd)

/-- SETTINGS_SWAP (R557): At the swap tick every block applies the committed bank together and the chamber returns to EMPTY. -/
def execSettingsSwap (s : State) : Host.Outcome State Fault Refusal :=
  s.done (s.live fun s => s.settingsSwap)

/-- EVT_APPEND (R479): A queued event entry becomes durable in MRAM and is offered to the event berth. -/
def execEvtAppend (s : State) : Host.Outcome State Fault Refusal :=
  s.done (s.live fun s => s.evtAppend)

/-- EVT_SUPPRESSED (R477): At each second boundary an entry is appended for each code with suppressed occurrences. -/
def execEvtSuppressed (s : State) : Host.Outcome State Fault Refusal :=
  s.done (s.live fun s => s.evtSuppressed)

end Sys2Proof.Machine
end

