-- ==== Sys2Proof/Machine/EvBay.lean ====
section
/-! DEFINITION. Bays, elements, scheme logic and detectors (R251 to R383). -/
namespace Sys2Proof.Machine
open Reg

/-- BAY_EVALUATION (R254): A bay evaluates its elements, knots and rows for a tick once all its mapped channels are available. -/
def execBayEvaluation (b : Fin 64) (t us : Nat) (s : State) : Host.Outcome State Fault Refusal :=
  s.done (s.live fun s => (s.gridCatch.bayEvaluation b t us).pairDone)

/-- ELM_OPERATE (R288): An element's integrated or definite time reaches its operate level and OP rises. -/
def execElmOperate (e : Fin 2048) (s : State) : Host.Outcome State Fault Refusal :=
  s.done (s.live fun s => (s.gridCatch.elmEvent e hOperate).pairDone)

/-- ELM_RESET_TIMEOUT (R289): A definite reset time after dropout expires and the element's accumulated time is cleared. -/
def execElmResetTimeout (e : Fin 2048) (s : State) : Host.Outcome State Fault Refusal :=
  s.done (s.live fun s => (s.gridCatch.elmEvent e hReset).pairDone)

/-- ELM_MEMORY_EXPIRY (R299): The stored V1 memory of a directional element expires after MEMT cycles. -/
def execElmMemoryExpiry (e : Fin 2048) (s : State) : Host.Outcome State Fault Refusal :=
  s.done (s.live fun s => (s.gridCatch.elmEvent e hMemory).pairDone)

/-- BF_RETRIP (R334): The breaker-failure timer reaches T1 and RETRIP rises. -/
def execBfRetrip (e : Fin 2048) (s : State) : Host.Outcome State Fault Refusal :=
  s.done (s.live fun s => (s.gridCatch.elmEvent e hRetrip).pairDone)

/-- BF_BACKUP (R334): The breaker-failure timer reaches T2 and BACKUP rises. -/
def execBfBackup (e : Fin 2048) (s : State) : Host.Outcome State Fault Refusal :=
  s.done (s.live fun s => (s.gridCatch.elmEvent e hBackup).pairDone)

/-- AR_CLOSE (R337): An autoreclose dead time expires and the element enters CLOSING. -/
def execArClose (e : Fin 2048) (s : State) : Host.Outcome State Fault Refusal :=
  s.done (s.live fun s => (s.gridCatch.elmEvent e hArClose).pairDone)

/-- AR_LOCKOUT (R337): Autoreclose enters LOCKOUT on a block, a failed shot or an expired open, close or sync timer. -/
def execArLockout (e : Fin 2048) (s : State) : Host.Outcome State Fault Refusal :=
  s.done (s.live fun s => (s.gridCatch.elmEvent e hArLockout).pairDone)

/-- AR_SUCCESS (R337): The reclaim time expires and autoreclose returns to READY. -/
def execArSuccess (e : Fin 2048) (s : State) : Host.Outcome State Fault Refusal :=
  s.done (s.live fun s => (s.gridCatch.elmEvent e hArSuccess).pairDone)

/-- CLP_ARMED (R331): A dead bay stays dead for TCOLD and cold-load pickup becomes ARMED. -/
def execClpArmed (e : Fin 2048) (s : State) : Host.Outcome State Fault Refusal :=
  s.done (s.live fun s => (s.gridCatch.elmEvent e hClpArmed).pairDone)

/-- CLP_END (R331): Cold-load pickup ends on TCLP, the early-end timer, or the bay going dead. -/
def execClpEnd (e : Fin 2048) (s : State) : Host.Outcome State Fault Refusal :=
  s.done (s.live fun s => (s.gridCatch.elmEvent e hClpEnd).pairDone)

/-- TMAX_REL (R328): A harmonic block held for TMAX is forced off. -/
def execTmaxRel (e : Fin 2048) (s : State) : Host.Outcome State Fault Refusal :=
  s.done (s.live fun s => (s.gridCatch.elmEvent e hTmax).pairDone)

/-- GROUP_CHANGE (R343): A wanted settings group completes its HOLD count and comes into force. -/
def execGroupChange (b : Fin 64) (s : State) : Host.Outcome State Fault Refusal :=
  s.done (s.live fun s => (s.gridCatch.evalEvent b hGroup b).pairDone)

/-- KNOT_TIMER_EXPIRY (R358): A knot's on-delay, off-delay or pulse timer expires and its output changes. -/
def execKnotTimerExpiry (k : Fin 16384) (s : State) : Host.Outcome State Fault Refusal :=
  s.done (s.live fun s => (s.gridCatch.evalEvent (knotBay (s.bank.knot k)) hKnot k).pairDone)

/-- TM_MINP_EXPIRY (R363): A row's minimum command time has elapsed with no drive and its command falls. -/
def execTmMinpExpiry (d : Fin 32) (s : State) : Host.Outcome State Fault Refusal :=
  s.done (s.live fun s => (s.gridCatch.evalEvent (s.bank.fld KNOT_TM_CFG.BAY d) hMinp d).pairDone)

/-- FAST_PICKUP (R373): A fast detector completes Q hits and sets its rows' commands at once. -/
def execFastPickup (f : Fin 64) (s : State) : Host.Outcome State Fault Refusal :=
  s.done (s.live fun s => s.fastEvent f 1)

/-- FAST_DROPOUT (R373): A fast detector completes Q low samples and drops out. -/
def execFastDropout (f : Fin 64) (s : State) : Host.Outcome State Fault Refusal :=
  s.done (s.live fun s => s.fastEvent f 2)

/-- TD_PICKUP (R192): A threshold detector completes Q qualifying ticks and picks up, firing its recorder trigger. -/
def execTdPickup (d : Fin 128) (s : State) : Host.Outcome State Fault Refusal :=
  s.done (s.live fun s => s.tdEvent d 1)

/-- TD_DROPOUT (R192): A threshold detector completes Q ticks beyond its hysteresis and drops out. -/
def execTdDropout (d : Fin 128) (s : State) : Host.Outcome State Fault Refusal :=
  s.done (s.live fun s => s.tdEvent d 2)

end Sys2Proof.Machine
end

