-- ==== Sys2Proof/Machine/EvBist.lean ====
section
/-! DEFINITION. Self-test, repair and spares (R607 to R637). -/
namespace Sys2Proof.Machine
open Reg

/-- ENGINE_FAIL (R611): A bay engine is declared failed by a check error, an evaluation timeout or BIST, and bays are placed again. -/
def execEngineFail (k : Fin 9) (late : Bool) (s : State) : Host.Outcome State Fault Refusal :=
  s.done (s.live fun s => s.engineFail k (if late then 2 else 1))

/-- SPARE_ROTATION (R614): At each rotation period one engine's bays move to the spare and the freed engine starts logic BIST. -/
def execSpareRotation (s : State) : Host.Outcome State Fault Refusal :=
  s.done (s.live fun s => s.spareRotation)

/-- ENGINE_BIST_DONE (R607): An engine logic BIST completes with PASS, FAIL or INCOMPLETE. -/
def execEngineBistDone (k : Fin 9) (misr : BitVec 64) (ok : Bool) (count : Nat) (s : State) : Host.Outcome State Fault Refusal :=
  s.done (s.live fun s => s.engineBistDone k misr.toNat ok count)

/-- BLOCK_BIST_DONE (R634): A host self-test of a modulator group, AUX converter or field channel completes. -/
def execBlockBistDone (fail : Bool) (detail : BitVec 8) (s : State) : Host.Outcome State Fault Refusal :=
  s.done (s.live fun s => s.blockBistDone fail detail.toNat)

/-- PROOF_CYCLE (R524): A standby starts a proof cycle of all engines on entry to STANDBY and every 10 minutes. -/
def execProofCycle (s : State) : Host.Outcome State Fault Refusal :=
  s.done (s.live fun s => s.proofCycle)

/-- SRAM_CORRECTED_ERROR (R620): The patrol scrub corrects an SRAM error and may record a repair candidate. -/
def execSramCorrectedError (m : Fin 32) (row t : Nat) (s : State) : Host.Outcome State Fault Refusal :=
  s.done (s.live fun s => s.sramCorrected m row t)

/-- SRAM_UNCORRECTABLE (R621): An uncorrectable SRAM error logs INTERNAL_FAULT and restarts the device. -/
def execSramUncorrectable (m : Fin 32) (s : State) : Host.Outcome State Fault Refusal :=
  s.done (s.live fun s => s.sramUncorrectable m)

/-- NAND_BLOCK_RETIRED (R625): A NAND program, erase or read failure retires the block onto a spare. -/
def execNandBlockRetired (blk : Fin 16384) (s : State) : Host.Outcome State Fault Refusal :=
  s.done (s.live fun s => s.nandRetired blk)

/-- MRAM_SECTOR_SPARED (R629): An MRAM write fails verification and its sector is remapped to a spare. -/
def execMramSectorSpared (sec : MramFail) (s : State) : Host.Outcome State Fault Refusal :=
  s.done (s.live fun s => s.sectorSpared sec)

/-- LOCKSTEP_MISMATCH (R617): The supervisor cores disagree, INTERNAL_FAULT is logged and the supervisor resets. -/
def execLockstepMismatch (s : State) : Host.Outcome State Fault Refusal :=
  s.done (s.live fun s => s.lockstep)

/-- FUSE_BURN_DONE (R622): A macro's fuse rows finish burning and SRAM_REPAIR is logged. -/
def execFuseBurnDone (s : State) : Host.Outcome State Fault Refusal :=
  s.done (s.live fun s => s.fuseBurnDone)

end Sys2Proof.Machine
end

