-- ==== Sys2Proof/Machine/EvBus.lean ====
section
/-! DEFINITION. The process bus and the time sources (R196 to R250). -/
namespace Sys2Proof.Machine
open Reg

/-- SV_FRAME (R207): A sampled-value frame is received, matched, accepted or rejected, and its samples aligned. -/
def execSvFrame (f : SvFrame) (s : State) : Host.Outcome State Fault Refusal :=
  s.done (s.live fun s => (s.svFrame f).gridCatch.measureAll)

/-- SV_STREAM_LOST (R220): No ASDU has been accepted for 10 ms and the stream enters LOST. -/
def execSvStreamLost (k : Fin 256) (s : State) : Host.Outcome State Fault Refusal :=
  s.done (s.live fun s => s.svLost k)

/-- SV_ALIGN_EXPIRY (R218): A tick's alignment window expires with a tap missing, making the grid sample LATE and SUBSTITUTED. -/
def execSvAlignExpiry (g : Fin 512) (s : State) : Host.Outcome State Fault Refusal :=
  s.done (s.live fun s => (s.svExpire g).gridCatch.measureAll)

/-- GOOSE_FRAME (R224): A GOOSE frame is received and changes or refreshes its subscription state. -/
def execGooseFrame (f : GooseFrame) (s : State) : Host.Outcome State Fault Refusal :=
  s.done (s.live fun s => s.gooseFrame f)

/-- GOOSE_TAL_EXPIRED (R225): No frame arrives within timeAllowedtoLive and the subscription becomes stale. -/
def execGooseTalExpired (x : Fin 1024) (s : State) : Host.Outcome State Fault Refusal :=
  s.done (s.live fun s => s.gooseTal x)

/-- GOOSE_PUBLISH (R370): After the last sourcing bay finishes a tick, a changed publication is sent with a new stNum. -/
def execGoosePublish (x : Fin 128) (s : State) : Host.Outcome State Fault Refusal :=
  s.done (s.live fun s => s.goosePublish x)

/-- GOOSE_REPEAT (R228): A GOOSE repeat interval expires and the publication is sent again. -/
def execGooseRepeat (x : Fin 128) (s : State) : Host.Outcome State Fault Refusal :=
  s.done (s.live fun s => s.gpRepeat x)

/-- HSR_FORWARD (R201): A ring frame not originated by this node is forwarded to the other ring port. -/
def execHsrForward (p : Fin 2) (f : RingFrame) (s : State) : Host.Outcome State Fault Refusal :=
  s.done (s.live fun s => s.hsrForward p f.src.toNat f.ev)

/-- PRP_SUPERVISION_SEND (R201): A PRP or HSR supervision frame is sent at each supervision interval. -/
def execPrpSupervisionSend (s : State) : Host.Outcome State Fault Refusal :=
  s.done (s.live fun s => s.supSend)

/-- PRP_SUPERVISION_RX (R201): A received PRP or HSR supervision frame fills the node table. -/
def execPrpSupervisionRx (h : NetHead) (s : State) : Host.Outcome State Fault Refusal :=
  s.done (s.live fun s => s.supRx h)

/-- PHY_POLL (R203): Every 10 ms the device reads the PHY link status. -/
def execPhyPoll (p : Fin 2) (up : Bool) (s : State) : Host.Outcome State Fault Refusal :=
  s.done (s.live fun s => (s.phyPoll p up).ptpLinkLost p)

/-- SGMII_AUTONEG (R198): SGMII in-band auto-negotiation sets a port's speed. -/
def execSgmiiAutoneg (p : Fin 2) (fast : Bool) (s : State) : Host.Outcome State Fault Refusal :=
  s.done (s.live fun s => s.autoneg p fast)

/-- PTP_SYNC (R231): A PTP Sync measurement is turned into a servo correction or a step. -/
def execPtpSync (p : Fin 2) (t : Nat) (m : SyncMsg) (s : State) : Host.Outcome State Fault Refusal :=
  s.done (s.live fun s => s.ptpSync p t m)

/-- PTP_ANNOUNCE (R237): A PTP Announce message is received and updates the clock state and qualification. -/
def execPtpAnnounce (p : Fin 2) (t : Nat) (a : Announce) (s : State) : Host.Outcome State Fault Refusal :=
  s.done (s.live fun s => s.ptpAnnounce p t a)

/-- PTP_PDELAY_RX (R236): A Pdelay_Req, Pdelay_Resp or follow-up frame is received and answered or used to measure the peer delay. -/
def execPtpPdelayRx (p : Fin 2) (t : Nat) (m : PdelayMsg) (s : State) : Host.Outcome State Fault Refusal :=
  s.done (s.live fun s => s.pdelayRx p t m)

/-- PTP_MESSAGE_SEND (R236): At each 1 s interval the device sends Pdelay_Req, and Sync and Announce while in MASTER state. -/
def execPtpMessageSend (s : State) : Host.Outcome State Fault Refusal :=
  s.done (s.live fun s => s.ptpSend)

/-- IRIG_FRAME (R239): An IRIG-B frame is decoded and its reference marker gives a time measurement. -/
def execIrigFrame (t : Nat) (r : IrigRaw) (s : State) : Host.Outcome State Fault Refusal :=
  s.done (s.live fun s => s.irigFrame t (s.irigRead r))

/-- PPS_EDGE (R240): A 1PPS edge is accepted or rejected and gives a time measurement. -/
def execPpsEdge (t width : Nat) (falling : Bool) (s : State) : Host.Outcome State Fault Refusal :=
  s.done (s.live fun s => s.ppsEdge t width falling)

/-- TIME_SOURCE_LOST (R233): The time source in use is lost by timeout and the device enters holdover. -/
def execTimeSourceLost (s : State) : Host.Outcome State Fault Refusal :=
  s.done (s.live fun s => s.sourceLost)

/-- HOLDOVER_ACC_DEGRADE (R233): Holdover timers T1, T2 and one day degrade the time accuracy. -/
def execHoldoverAccDegrade (s : State) : Host.Outcome State Fault Refusal :=
  s.done (s.live fun s => s.hoDegrade)

/-- TIME_SRC_SELECT (R230): At each TAI second the highest-priority qualified time source is chosen. -/
def execTimeSrcSelect (s : State) : Host.Outcome State Fault Refusal :=
  s.done (s.live fun s => s.srcSelect)

/-- UTC_OFS_CHANGE (R235): At the end of a UTC day with a leap pending, the UTC offset changes by one. -/
def execUtcOfsChange (s : State) : Host.Outcome State Fault Refusal :=
  s.done (s.live fun s => s.utcChange)

/-- MDIO_DONE (R203): A host MDIO transaction completes, PBUS_MDIO BUSY clears with the data, and link polling resumes. -/
def execMdioDone (data : BitVec 16) (s : State) : Host.Outcome State Fault Refusal :=
  s.done (s.live fun s => s.mdioDone data.toNat)

/-- NODE_FORGET_TIME (R201): A node-table entry not refreshed for 60 s is forgotten. -/
def execNodeForgetTime (s : State) : Host.Outcome State Fault Refusal :=
  s.done (s.live fun s => s.nodeForget)

end Sys2Proof.Machine
end

