-- ==== Sys2Proof/Machine/EvField.lean ====
section
/-! DEFINITION. The isolator link, the field channels, the life contact, the towpath and the claim line (R384 to R426). -/
namespace Sys2Proof.Machine
open Reg

/-- COMMAND_FRAME (R386): The field die receives an isolator command frame and applies its sections when their CRCs check. -/
def execCommandFrame (t : Nat) (err : List Nat) (s : State) : Host.Outcome State Fault Refusal :=
  s.done (s.live fun s => (s.commandRx t err).tripTest)

/-- READBACK_FRAME (R385): The logic side receives a readback frame with pad, driver, input, supply and claim status. -/
def execReadbackFrame (t : Nat) (p : PadView) (err : List Nat) (s : State) : Host.Outcome State Fault Refusal :=
  s.done (s.live fun s => s.readbackSeen t p err)

/-- FIELD_LINK_LOST (R388): No valid frame for 100 us; the die holds commands and the logic side logs the loss. -/
def execFieldLinkLost (s : State) : Host.Outcome State Fault Refusal :=
  s.done (s.linkDown)

/-- LINKHOLD_EXPIRY (R388): LINKHOLD after link loss expires and CLOSE and SIGNAL outputs switch off. -/
def execLinkholdExpiry (s : State) : Host.Outcome State Fault Refusal :=
  s.done (s.viaDie fun s => s.linkHold)

/-- FIELD_DIE_RESET (R389): VFIELD falls below 7.5 V, the die resets and is reconfigured on the link's return. -/
def execFieldDieReset (t : Nat) (mv : BitVec 16) (s : State) : Host.Outcome State Fault Refusal :=
  s.done (s.viaDie fun s => (s.dieReset t mv.toNat).pairWatch)

/-- FIELD_UV_WARN (R406): VFIELD falls below 16.0 V and inputs become questionable. -/
def execFieldUvWarn (t : Nat) (mv : BitVec 16) (s : State) : Host.Outcome State Fault Refusal :=
  s.done (s.viaDie fun s => (s.uvWarn t mv.toNat).pairWatch)

/-- FIELD_UV_INVAL (R406): VFIELD falls below 12.0 V and inputs become invalid. -/
def execFieldUvInval (t : Nat) (mv : BitVec 16) (s : State) : Host.Outcome State Fault Refusal :=
  s.done (s.viaDie fun s => (s.uvInval t mv.toNat).pairWatch)

/-- FIELD_UV_DROP (R407): VFIELD falls below 9.0 V and the drivers lose gate drive. -/
def execFieldUvDrop (t : Nat) (mv : BitVec 16) (s : State) : Host.Outcome State Fault Refusal :=
  s.done (s.viaDie fun s => (s.uvDrop t mv.toNat).pairWatch)

/-- FIELD_UV_RECOVER (R408): VFIELD rises above 10.5 V and outputs take their commands in force. -/
def execFieldUvRecover (t : Nat) (mv : BitVec 16) (s : State) : Host.Outcome State Fault Refusal :=
  s.done (s.viaDie fun s => (s.uvRecover t mv.toNat).pairWatch)

/-- FIELD_UV_CLEAR (R406): VFIELD returns to NORMAL above 16.5 V. -/
def execFieldUvClear (t : Nat) (mv : BitVec 16) (s : State) : Host.Outcome State Fault Refusal :=
  s.done (s.viaDie fun s => (s.uvClear t mv.toNat).pairWatch)

/-- FIELD_UV_INVALID_EXIT (R406): VFIELD rises above 12.5 V, leaving INVALID for WARN, and inputs become valid again. -/
def execFieldUvInvalidExit (t : Nat) (mv : BitVec 16) (s : State) : Host.Outcome State Fault Refusal :=
  s.done (s.viaDie fun s => (s.uvInvalExit t mv.toNat).pairWatch)

/-- DIN_CHANGE (R394): An input's pad holds its new state for the debounce time and the debounced value changes. -/
def execDinChange (d : Fin 32) (t : Nat) (mv : BitVec 16) (s : State) : Host.Outcome State Fault Refusal :=
  s.done (s.viaDie fun s => s.dinChange d t mv.toNat)

/-- WIRE_BREAK (R398): An input's pad stays below 0.45 V for WBT and wire break is detected. -/
def execWireBreak (d : Fin 32) (t : Nat) (s : State) : Host.Outcome State Fault Refusal :=
  s.done (s.viaDie fun s => s.wireBreak d t)

/-- WIRE_OK (R398): An input's pad stays at or above 0.60 V for WBT and wire break clears. -/
def execWireOk (d : Fin 32) (t : Nat) (s : State) : Host.Outcome State Fault Refusal :=
  s.done (s.viaDie fun s => s.wireOk d t)

/-- OUT_OVERLOAD (R401): An output limits current for 5 ms or reaches shutdown temperature and switches off. -/
def execOutOverload (d : Fin 32) (t : Nat) (thermal : Bool) (s : State) : Host.Outcome State Fault Refusal :=
  s.done (s.viaDie fun s => s.outOverload d t thermal)

/-- OUT_OVERLOAD_RETRY (R401): A thermally shut-down output still commanded on retries after 100 ms. -/
def execOutOverloadRetry (d : Fin 32) (s : State) : Host.Outcome State Fault Refusal :=
  s.done (s.viaDie fun s => s.overloadRetry d)

/-- OUT_STUCK_HIGH (R402): An off output's pad reads high for 1 ms without another output's cause. -/
def execOutStuckHigh (d : Fin 32) (t : Nat) (s : State) : Host.Outcome State Fault Refusal :=
  s.done (s.viaDie fun s => s.stuckHigh d t)

/-- OUT_CONFLICT (R402): An off output's pad follows another output's switching within 200 us. -/
def execOutConflict (d : Fin 32) (w t : Nat) (s : State) : Host.Outcome State Fault Refusal :=
  s.done (s.viaDie fun s => s.conflict d w t)

/-- OUT_OPEN_LOAD (R403): An output's open-load test finds the load open for 20 ms. -/
def execOutOpenLoad (d : Fin 32) (t : Nat) (s : State) : Host.Outcome State Fault Refusal :=
  s.done (s.viaDie fun s => s.openLoad d t)

/-- OUT_PAR_IMBALANCE (R404): One half of a parallel pair carries under 20 % of the current for 20 ms. -/
def execOutParImbalance (d : Fin 32) (t : Nat) (s : State) : Host.Outcome State Fault Refusal :=
  s.done (s.viaDie fun s => s.parImbalance d t)

/-- OUT_DIAG_CLEAR (R401): An output diagnostic condition has been absent long enough and its flag clears. -/
def execOutDiagClear (d : Fin 32) (bit : Fin 16) (t : Nat) (s : State) : Host.Outcome State Fault Refusal :=
  s.done (s.viaDie fun s => s.outDiagClear d bit t)

/-- SOFT_START_SLOT (R410): At each 100 us slot the scheduler switches queued CLOSE and SIGNAL outputs within the inrush budget. -/
def execSoftStartSlot (s : State) : Host.Outcome State Fault Refusal :=
  s.done (s.viaDie fun s => s.softSlot)

/-- ALIVE_REFRESH_TIMEOUT (R412): The supervisor's health refresh is missing for 50 ms and ALIVE_OUT switches off. -/
def execAliveRefreshTimeout (s : State) : Host.Outcome State Fault Refusal :=
  s.done (s.live fun s => s.aliveTimeout)

/-- ALIVE_OUT_OVERLOAD (R412): ALIVE_OUT overloads and switches off with CAUSE 8. -/
def execAliveOutOverload (t : Nat) (s : State) : Host.Outcome State Fault Refusal :=
  s.done (s.live fun s => s.aliveOverload t)

/-- ALIVE_OVERLOAD_RETRY (R412): 100 ms after an ALIVE_OUT overload the life contact retries switching on. -/
def execAliveOverloadRetry (s : State) : Host.Outcome State Fault Refusal :=
  s.done (s.live fun s => s.aliveRetry)

/-- TOW_IN_EDGE (R414): An edge arrives on TOW_IN and is timestamped as a towpath heartbeat. -/
def execTowInEdge (e : LineEdge) (s : State) : Host.Outcome State Fault Refusal :=
  s.done (s.live fun s => s.towHeartbeat e)

/-- CLAIM_FRAME_TX (R417): A die transmits its claim frame in its slot of the 16 us cycle. -/
def execClaimFrameTx (t : Nat) (bad : Bool) (s : State) : Host.Outcome State Fault Refusal :=
  s.done (s.viaDie fun s => s.claimTx t bad)

/-- CLAIM_FRAME_RX (R419): A valid partner claim frame arrives and the die re-evaluates its claim gate. -/
def execClaimFrameRx (t : Nat) (bits : BitVec 16) (s : State) : Host.Outcome State Fault Refusal :=
  s.done (s.viaDie fun s => s.claimSeen t bits)

/-- CLAIM_PARTNER_TIMEOUT (R419): 48 us pass without a valid partner frame and the gate is re-evaluated. -/
def execClaimPartnerTimeout (s : State) : Host.Outcome State Fault Refusal :=
  s.done (s.viaDie fun s => s.claimTimeout)

/-- CLAIM_LINE_FAIL (R421): The claim line is declared failed by missing partner frames or own transmit errors. -/
def execClaimLineFail (s : State) : Host.Outcome State Fault Refusal :=
  s.done (s.viaDie fun s => s.claimLineFail.pairWatch)

/-- CLAIM_LINE_OK (R421): Eight cycles of valid frames in both directions restore LINE_OK. -/
def execClaimLineOk (s : State) : Host.Outcome State Fault Refusal :=
  s.done (s.viaDie fun s => s.claimLineOk.pairWatch)

end Sys2Proof.Machine
end

