-- ==== Sys2Proof/Machine/EvGrid.lean ====
section
/-! DEFINITION. The sample grid, the analog front ends, the filters and the housekeeping converters (R9 to R195). -/
namespace Sys2Proof.Machine
open Reg

/-- GRID_TICK (R18): A protection-grid tick instant arrives and every channel's grid sample is produced. -/
def execGridTick (codes : List (Fin 64 × Codes)) (s : State) : Host.Outcome State Fault Refusal :=
  s.done (s.live fun s => s.gridTick (codes.map fun x => (x.1.val, x.2)))

/-- TRACKER_CYCLE (R28): At the first tick of a cycle the tracker measures, qualifies references and sets the next cycle's frequency and period. -/
def execTrackerCycle (s : State) : Host.Outcome State Fault Refusal :=
  s.done (s.live fun s => s.gridCatch.tdAll.measureAll)

/-- TRK_RAMP_ENTER (R30): After HOLDMAX cycles in HOLD the tracker enters RAMP toward nominal. -/
def execTrkRampEnter (s : State) : Host.Outcome State Fault Refusal :=
  s.done (s.live fun s => s.trackRamp)

/-- DEVICE_TIME_BOUND (R12): Device time crosses a multiple of 2^28 and the supervisor writes the next bound V to MRAM. -/
def execDeviceTimeBound (s : State) : Host.Outcome State Fault Refusal :=
  s.done (s.live fun s => s.timeBound)

/-- SELFCAL_GROUP_START (R95): A selected modulator group begins its 12 ms calibration at the first tick after acceptance or after the previous
group. -/
def execSelfcalGroupStart (s : State) : Host.Outcome State Fault Refusal :=
  s.done (s.live fun s => s.calGroupStart)

/-- SELFCAL_GROUP_DONE (R100): A group's 12 ms calibration ends and the results of its 16 channels are committed together. -/
def execSelfcalGroupDone (ms : List CalMeas) (s : State) : Host.Outcome State Fault Refusal :=
  s.done (s.live fun s => s.calGroupDone ms)

/-- AUX_CAL_DONE (R145): An AUX converter completes its 1.2 ms calibration and commits or rejects its results. -/
def execAuxCalDone (m : Fin 2) (x : AuxCalMeas) (s : State) : Host.Outcome State Fault Refusal :=
  s.done (s.live fun s => s.auxCalDone m x)

/-- AFE_DIAG_DONE (R111): The path diagnosis completes and its verdict is stored and logged. -/
def execAfeDiagDone (x : DiagMeas) (s : State) : Host.Outcome State Fault Refusal :=
  s.done (s.live fun s => s.diagDone x)

/-- SKEWCAL_DONE (R114): Skew calibration completes and the new S_cal values are written to MRAM together. -/
def execSkewcalDone (meas : List (Fin 64 × Int)) (s : State) : Host.Outcome State Fault Refusal :=
  s.done (s.live fun s => s.skewDone (meas.map fun x => (x.1.val, x.2)))

/-- FLT_SWAP_START (R182): A waiting or queued coefficient swap starts its fade at the first base-rate sample at or after its start instant. -/
def execFltSwapStart (c : Fin 64) (codes : Codes) (s : State) : Host.Outcome State Fault Refusal :=
  s.done (s.live fun s => s.chanUntil c evSwapStart codes)

/-- FLT_SWAP_DONE (R187): A channel's fade reaches its target, the selection is written to MRAM, and the event follows when the whole command is
done. -/
def execFltSwapDone (c : Fin 64) (codes : Codes) (s : State) : Host.Outcome State Fault Refusal :=
  s.done (s.live fun s => s.chanUntil c evSwapDone codes)

/-- FLT_SYNC_RESET (R173): At the scheduled modulator period the selected chains clear their histories and restart their decimation phases. -/
def execFltSyncReset (c : Fin 64) (codes : Codes) (s : State) : Host.Outcome State Fault Refusal :=
  s.done (s.live fun s => s.chanUntil c evSync codes)

/-- SPLICE_FADE_UP (R74): The fine estimate or overload detector switches the splice toward the wide modulator. -/
def execSpliceFadeUp (c : Fin 64) (codes : Codes) (s : State) : Host.Outcome State Fault Refusal :=
  s.done (s.live fun s => s.chanEvent c evFadeUp codes)

/-- SPLICE_FADE_DOWN (R76): The wide estimate stays low for the hold time and the splice fades toward the fine modulator. -/
def execSpliceFadeDown (c : Fin 64) (codes : Codes) (s : State) : Host.Outcome State Fault Refusal :=
  s.done (s.live fun s => s.chanEvent c evFadeDown codes)

/-- SPLICE_FADE_END (R75): A splice fade completes its periods and the block settles in WIDE or FINE. -/
def execSpliceFadeEnd (c : Fin 64) (codes : Codes) (s : State) : Host.Outcome State Fault Refusal :=
  s.done (s.live fun s => s.chanEvent c evFadeEnd codes)

/-- SPLICE_VAL_WINDOW_END (R83): A 10 ms overlap-validation window ends and gives pass, fail or no verdict. -/
def execSpliceValWindowEnd (c : Fin 64) (codes : Codes) (s : State) : Host.Outcome State Fault Refusal :=
  s.done (s.live fun s => s.chanEvent c evValEnd codes)

/-- TWIN_MISMATCH (R89): The twin-mode instantaneous check fails on CNT samples and the channel is flagged. -/
def execTwinMismatch (c : Fin 64) (codes : Codes) (s : State) : Host.Outcome State Fault Refusal :=
  s.done (s.live fun s => s.chanEvent c evTwin codes)

/-- TWIN_WINDOW_END (R88): A 10 ms twin-mode window check ends, setting or clearing the mismatch flags. -/
def execTwinWindowEnd (c : Fin 64) (codes : Codes) (s : State) : Host.Outcome State Fault Refusal :=
  s.done (s.live fun s => s.chanEvent c evTwinEnd codes)

/-- MOD_RESET (R92): A modulator overloaded for 64 periods is reset. -/
def execModReset (c : Fin 64) (codes : Codes) (s : State) : Host.Outcome State Fault Refusal :=
  s.done (s.live fun s => s.chanEvent c evModReset codes)

/-- CLIPPED_ONSET (R91): E_w reaches 1.6 V or modulator A's overload detector fires, words carry CLIPPED and AFE_CH_CLIP_CNT increments. -/
def execClippedOnset (c : Fin 64) (codes : Codes) (s : State) : Host.Outcome State Fault Refusal :=
  s.done (s.live fun s => s.chanEvent c evClip codes)

/-- AUX_TIMER_TRIGGER (R125): The AUX timer trigger fires every PERIOD microseconds. -/
def execAuxTimerTrigger (m : Fin 2) (s : State) : Host.Outcome State Fault Refusal :=
  s.done (s.live fun s => s.auxTimer m)

/-- AUX_TICK_TRIGGER (R125): The AUX tick trigger fires at ticks with n mod M equal to PHASE. -/
def execAuxTickTrigger (m : Fin 2) (s : State) : Host.Outcome State Fault Refusal :=
  s.done (s.live fun s => s.auxTick m)

/-- AUX_PULSE_TRIGGER (R125): A TRIG_IN pulse of qualifying width ends and fires the AUX trigger, or is rejected. -/
def execAuxPulseTrigger (m : Fin 2) (t width : Nat) (low : Bool) (s : State) : Host.Outcome State Fault Refusal :=
  s.done (s.live fun s => s.auxPulse m t width low)

/-- AUX_SCAN_START (R126): A trigger's delay expires and a scan starts at the next slot boundary. -/
def execAuxScanStart (m : Fin 2) (s : State) : Host.Outcome State Fault Refusal :=
  s.done (s.live fun s => s.auxScanStart m)

/-- AUX_CONVERSION (R124): A scan conversion completes and its corrected result is stored. -/
def execAuxConversion (m : Fin 2) (raw : BitVec 16) (s : State) : Host.Outcome State Fault Refusal :=
  s.done (s.live fun s => s.auxConversion m raw.toNat)

/-- AUX_INJ_CONVERSION (R134): A latched injected request is converted in its slot and its result stored. -/
def execAuxInjConversion (m : Fin 2) (raw : BitVec 16) (s : State) : Host.Outcome State Fault Refusal :=
  s.done (s.live fun s => s.auxInjConversion m raw.toNat)

/-- AUX_XCHK (R140): Both converters convert input 23 in a common slot at each cross-check period. -/
def execAuxXchk (r0 r1 : BitVec 16) (s : State) : Host.Outcome State Fault Refusal :=
  s.done (s.live fun s => s.auxXchk r0.toNat r1.toNat)

end Sys2Proof.Machine
end

