-- ==== Sys2Proof/Machine/EvPair.lean ====
section
/-! DEFINITION. The redundant pair (R488 to R534). -/
namespace Sys2Proof.Machine
open Reg

/-- HELLO_SEND (R492): A unit sends HELLO every 1 ms until it has received one. -/
def execHelloSend (s : State) : Host.Outcome State Fault Refusal :=
  s.done (s.live fun s => s.helloSend)

/-- HELLO_RX (R492): A HELLO is received and the Lumko version is agreed or ranks found to conflict. -/
def execHelloRx (t : Nat) (f : LkFrame) (crc : BitVec 32) (s : State) : Host.Outcome State Fault Refusal :=
  s.done (s.live fun s => s.helloRx t f crc)

/-- HEARTBEAT_SEND (R495): Every 500 us a unit sends a heartbeat frame and orders a towpath change. -/
def execHeartbeatSend (s : State) : Host.Outcome State Fault Refusal :=
  s.done (s.live fun s => s.heartbeatSend)

/-- HEARTBEAT_RX (R499): A Lumko heartbeat is received, updating θ, partner status and input-summary comparison. -/
def execHeartbeatRx (t : Nat) (f : LkFrame) (crc : BitVec 32) (s : State) : Host.Outcome State Fault Refusal :=
  s.done (s.live fun s => s.heartbeatRx t f crc)

/-- HB_MISS (R497): 520 us pass without a heartbeat on a path and a miss is counted. -/
def execHbMiss (tow : Bool) (s : State) : Host.Outcome State Fault Refusal :=
  s.done (s.live fun s => s.hbMiss tow)

/-- SNAPSHOT (R504): An active unit takes a snapshot at the first completed tick after each 20 ms boundary and sends it. -/
def execSnapshot (s : State) : Host.Outcome State Fault Refusal :=
  s.done (s.live fun s => s.snapshot)

/-- SNAP_DATA_RX (R493): A SNAP_DATA frame is received into the snapshot being assembled. -/
def execSnapDataRx (t ver seq : Nat) (pay : List Byte) (crc : BitVec 32) (s : State) : Host.Outcome State Fault Refusal :=
  s.done (s.live fun s => s.snapData t { ver := ver, seq := seq, pay := pay } crc)

/-- SNAP_END_RX (R507): A SNAP_END arrives and the assembled snapshot becomes good or is discarded. -/
def execSnapEndRx (t : Nat) (h : LkHead) (pay : List Byte) (crc : BitVec 32) (x : Snap) (s : State) : Host.Outcome State Fault Refusal :=
  s.done (s.live fun s => s.snapEnd t { toLkHead := h, pay := pay } crc x)

/-- HANDOVER_RX (R518): A HANDOVER REQUEST, OFFER or ABORT is received and a planned handover starts or ends. -/
def execHandoverRx (t : Nat) (f : LkFrame) (crc : BitVec 32) (s : State) : Host.Outcome State Fault Refusal :=
  s.done (s.live fun s => s.handoverRx t f crc)

/-- HANDOVER_REQUEST (R520): A rank-1 standby completes its failback hold-off and requests a handover. -/
def execHandoverRequest (s : State) : Host.Outcome State Fault Refusal :=
  s.done (s.live fun s => s.handoverRequest)

/-- HANDOVER_ABORT (R519): A planned handover is aborted when its snapshot is not good within 10 ms or the standby is unfit. -/
def execHandoverAbort (s : State) : Host.Outcome State Fault Refusal :=
  s.done (s.live fun s => s.handoverAbort)

/-- REPLAY_TICK (R513): The replaying unit evaluates the next buffered tick from stored inputs. -/
def execReplayTick (s : State) : Host.Outcome State Fault Refusal :=
  s.done (s.live fun s => s.gridCatch.replayTick)

/-- REPLAY_CATCH_UP (R511): Replay catches up, the unit claims, its gate opens and it becomes ACTIVE. -/
def execReplayCatchUp (t : Nat) (s : State) : Host.Outcome State Fault Refusal :=
  s.done (s.live fun s => s.replayCatchUp t)

/-- JOINING_TIMEOUT (R521): A joining unit hears nothing for 20 ms and claims as rank 1 would. -/
def execJoiningTimeout (s : State) : Host.Outcome State Fault Refusal :=
  s.done (s.live fun s => s.joiningTimeout)

/-- LUMKO_LOCK_LOST (R491): A lane of the Lumko link loses symbol lock, the link goes down, and LINK is set in the NOT_READY mask. -/
def execLumkoLockLost (e : LaneEdge) (s : State) : Host.Outcome State Fault Refusal :=
  s.done (s.live fun s => s.lumkoLost e)

/-- LUMKO_LOCK_GAINED (R491): All Lumko lanes gain symbol lock, so frames are accepted and the HELLO exchange can agree a version. -/
def execLumkoLockGained (t : Nat) (s : State) : Host.Outcome State Fault Refusal :=
  s.done (s.live fun s => s.lumkoGained t)

end Sys2Proof.Machine
end

