-- ==== Sys2Proof/Machine/EvPower.lean ====
section
/-! DEFINITION. Supplies, resets, start-up and the NOR (R638 to R664, R689). -/
namespace Sys2Proof.Machine
open Reg

/-- POWER_ON_RESET_RELEASE (R642): All logic supplies and regulators are in range and the power-on reset releases. -/
def execPowerOnResetRelease (s : State) : Host.Outcome State Fault Refusal :=
  s.done (s.powerOn)

/-- RST_N_LOW (R652): RST_N is driven low and holds the logic side in reset. -/
def execRstNLow (s : State) : Host.Outcome State Fault Refusal :=
  s.done (s.rstLow)

/-- VMAIN_BROWN_OUT (R643): VMAIN falls below 2.85 V and the logic side resets. -/
def execVmainBrownOut (s : State) : Host.Outcome State Fault Refusal :=
  s.done (s.supplyReset 3)

/-- VIO_LOW (R643): VIO falls below 1.55 V and the logic side resets. -/
def execVioLow (s : State) : Host.Outcome State Fault Refusal :=
  s.done (s.supplyReset 4)

/-- REGULATOR_OUT_OF_RANGE (R643): A core or DRAM regulator leaves its range and the logic side resets. -/
def execRegulatorOutOfRange (s : State) : Host.Outcome State Fault Refusal :=
  s.done (s.supplyReset 5)

/-- REFCLK_LOST (R650): The reference clock or PLL lock is lost and the logic side resets. -/
def execRefclkLost (s : State) : Host.Outcome State Fault Refusal :=
  s.done (s.supplyReset 6)

/-- OVER_TEMPERATURE (R643): The logic die exceeds 135 °C and the logic side resets. -/
def execOverTemperature (s : State) : Host.Outcome State Fault Refusal :=
  s.done (s.supplyReset 9)

/-- VMAIN_WARN (R643): VMAIN falls below 2.95 V and new MRAM and NAND writes are withheld. -/
def execVmainWarn (s : State) : Host.Outcome State Fault Refusal :=
  s.done (s.live fun s => s.vmainWarn)

/-- VMAIN_WARN_CLEAR (R643): VMAIN rises back to 3.00 V or more, so NAND and MRAM writes and record drain resume. -/
def execVmainWarnClear (s : State) : Host.Outcome State Fault Refusal :=
  s.done (s.live fun s => s.vmainClear)

/-- VAFE_LOW (R643): VAFE falls below 3.10 V and every local channel carries QUESTIONABLE. -/
def execVafeLow (s : State) : Host.Outcome State Fault Refusal :=
  s.done (s.live fun s => s.vafeLow)

/-- VAFE_LOW_CLEAR (R643): VAFE returns to 3.12 V or more from the low state, and local channels stop carrying QUESTIONABLE. -/
def execVafeLowClear (s : State) : Host.Outcome State Fault Refusal :=
  s.done (s.live fun s => s.vafeClear)

/-- VAFE_LOST (R643): VAFE falls below 2.90 V and all modulator groups power down. -/
def execVafeLost (s : State) : Host.Outcome State Fault Refusal :=
  s.done (s.live fun s => s.vafeLost)

/-- VAFE_RETURN (R645): VAFE returns and the groups are powered again through the soft-start. -/
def execVafeReturn (t : Nat) (s : State) : Host.Outcome State Fault Refusal :=
  s.done (s.live fun s => s.vafeReturn t)

/-- START_UP (R657): After reset release the device runs boot, self-tests, MRAM restore and analog power-up, logging START_UP. -/
def execStartUp (v : StartView) (s : State) : Host.Outcome State Fault Refusal :=
  s.done (s.startUp v)

/-- AUTOCAL (R660): No SELFCAL is accepted within 500 ms of grid start and the device runs its own. -/
def execAutocal (s : State) : Host.Outcome State Fault Refusal :=
  s.done (s.live fun s => s.autocal)

/-- START_UP_SETTINGS (R661): After calibration the working image is built and applied at a tick, and protection is enabled. -/
def execStartUpSettings (s : State) : Host.Outcome State Fault Refusal :=
  s.done (s.live fun s => s.startSettings)

/-- NOR_ACCESS (R689): A JTAG Update-DR starts a NOR read, program, erase or status operation. The command is what the board clocks through the
TAP. -/
def execNorAccess (w : List TapClk) (s : State) : Host.Outcome State Fault Refusal :=
  s.done (s.tapClocks w)

/-- NOR_OP_DONE (R689): A NOR operation started through JTAG completes and its status is available. -/
def execNorOpDone (s : State) : Host.Outcome State Fault Refusal :=
  s.done (s.norDone)

end Sys2Proof.Machine
end

