-- ==== Sys2Proof/Machine/EvRec.lean ====
section
/-! DEFINITION. The disturbance recorders (R427 to R466). -/
namespace Sys2Proof.Machine
open Reg

/-- TRIG_IN_EDGE (R440): A TRIG_IN edge gives a recorder trigger instant. -/
def execTrigInEdge (t : Nat) (rising : Bool) (s : State) : Host.Outcome State Fault Refusal :=
  s.done (s.live fun s => s.trigIn t rising)

/-- TRIG_BUS_EDGE (R440): A falling TRIG_BUS edge gives a recorder trigger instant. -/
def execTrigBusEdge (e : LineEdge) (s : State) : Host.Outcome State Fault Refusal :=
  s.done (s.live fun s => s.trigBus e)

/-- TRIG_BUS_PULSE_END (R443): The device's TRIG_BUS pulse width expires and the line is released. -/
def execTrigBusPulseEnd (s : State) : Host.Outcome State Fault Refusal :=
  s.done (s.live fun s => s.busRelease)

/-- REC_SAMPLE_CAPTURE (R437): An armed instance captures a record sample once its inputs are available and processes triggers up to it. -/
def execRecSampleCapture (x : Fin 4) (s : State) : Host.Outcome State Fault Refusal :=
  s.done (s.live fun s => s.recCapture x)

/-- REARM_END (R446): The 200 us REARM interval ends and any latched trigger starts a DELAYED record. -/
def execRearmEnd (x : Fin 4) (s : State) : Host.Outcome State Fault Refusal :=
  s.done (s.live fun s => s.rearmEnd x)

/-- REC_BLOCK_DRAINED (R448): A record block finishes draining to NAND and may be freed or complete a record's commit. -/
def execRecBlockDrained (x : Fin 4) (s : State) : Host.Outcome State Fault Refusal :=
  s.done (s.live fun s => s.blockDrained x)

/-- EXPORT_CHUNK (R462): An export chunk is written to its berth once the berth has room. -/
def execExportChunk (s : State) : Host.Outcome State Fault Refusal :=
  s.done (s.live fun s => s.exportChunk)

end Sys2Proof.Machine
end

