-- ==== Sys2Proof/Machine/Dispatch.lean ====
section
/-! DEFINITION. The meaning of every command, one arm each. -/
namespace Sys2Proof.Machine

/-- The effect of a command on everything but the queue. -/
def exec (i : Instr) (s : State) : Host.Outcome State Fault Refusal :=
  match i with
  | .negotiate q p => Sys2Proof.Machine.execNegotiate q p s
  | .identify q p => Sys2Proof.Machine.execIdentify q p s
  | .restart q p => Sys2Proof.Machine.execRestart q p s
  | .maintMode q p => Sys2Proof.Machine.execMaintMode q p s
  | .maintLeaseExpiry => Sys2Proof.Machine.execMaintLeaseExpiry s
  | .selfcal q p => Sys2Proof.Machine.execSelfcal q p s
  | .selfcalGroupStart => Sys2Proof.Machine.execSelfcalGroupStart s
  | .selfcalGroupDone ms => Sys2Proof.Machine.execSelfcalGroupDone ms s
  | .auxCalDone m x => Sys2Proof.Machine.execAuxCalDone m x s
  | .auxInject q p => Sys2Proof.Machine.execAuxInject q p s
  | .afeDiag q p => Sys2Proof.Machine.execAfeDiag q p s
  | .afeDiagDone x => Sys2Proof.Machine.execAfeDiagDone x s
  | .afeSkewcal q p => Sys2Proof.Machine.execAfeSkewcal q p s
  | .skewcalDone meas => Sys2Proof.Machine.execSkewcalDone meas s
  | .fltBankLoad q p => Sys2Proof.Machine.execFltBankLoad q p s
  | .fltBankSwap q p => Sys2Proof.Machine.execFltBankSwap q p s
  | .fltSwapStart c codes => Sys2Proof.Machine.execFltSwapStart c codes s
  | .fltSwapDone c codes => Sys2Proof.Machine.execFltSwapDone c codes s
  | .fltSync q p => Sys2Proof.Machine.execFltSync q p s
  | .fltSyncReset c codes => Sys2Proof.Machine.execFltSyncReset c codes s
  | .timeSet q p => Sys2Proof.Machine.execTimeSet q p s
  | .pbusSubscribe q p => Sys2Proof.Machine.execPbusSubscribe q p s
  | .setStageOpen q p => Sys2Proof.Machine.execSetStageOpen q p s
  | .setStageWrite q p => Sys2Proof.Machine.execSetStageWrite q p s
  | .setStageSeal q p => Sys2Proof.Machine.execSetStageSeal q p s
  | .setEndorse q p => Sys2Proof.Machine.execSetEndorse q p s
  | .authLockoutEnd => Sys2Proof.Machine.execAuthLockoutEnd s
  | .setCommit q p => Sys2Proof.Machine.execSetCommit q p s
  | .setAbort q p => Sys2Proof.Machine.execSetAbort q p s
  | .keyEnrol q p => Sys2Proof.Machine.execKeyEnrol q p s
  | .settingsSwap => Sys2Proof.Machine.execSettingsSwap s
  | .recArm q p => Sys2Proof.Machine.execRecArm q p s
  | .recFetch q p => Sys2Proof.Machine.execRecFetch q p s
  | .recExport q p => Sys2Proof.Machine.execRecExport q p s
  | .exportChunk => Sys2Proof.Machine.execExportChunk s
  | .recTrigger q p => Sys2Proof.Machine.execRecTrigger q p s
  | .recDisarm q p => Sys2Proof.Machine.execRecDisarm q p s
  | .recManage q p => Sys2Proof.Machine.execRecManage q p s
  | .evtRead q p => Sys2Proof.Machine.execEvtRead q p s
  | .evtClear q p => Sys2Proof.Machine.execEvtClear q p s
  | .pairJoin q p => Sys2Proof.Machine.execPairJoin q p s
  | .pairYield q p => Sys2Proof.Machine.execPairYield q p s
  | .pairStatus q p => Sys2Proof.Machine.execPairStatus q p s
  | .bistRun q p => Sys2Proof.Machine.execBistRun q p s
  | .repairFuse q p => Sys2Proof.Machine.execRepairFuse q p s
  | .fuseBurnDone => Sys2Proof.Machine.execFuseBurnDone s
  | .registerWrite q a be w => Sys2Proof.Machine.execRegisterWrite q a be w s
  | .spWrite q a w => Sys2Proof.Machine.execSpWrite q a w s
  | .rcRead q a => Sys2Proof.Machine.execRcRead q a s
  | .w1cWrite q a w => Sys2Proof.Machine.execW1cWrite q a w s
  | .loReadLatch a => Sys2Proof.Machine.execLoReadLatch a s
  | .auxResultRead m k => Sys2Proof.Machine.execAuxResultRead m k s
  | .auxInjReqWrite m w => Sys2Proof.Machine.execAuxInjReqWrite m w s
  | .auxTrgCfgWrite m w => Sys2Proof.Machine.execAuxTrgCfgWrite m w s
  | .afeTdacCtrlWrite w => Sys2Proof.Machine.execAfeTdacCtrlWrite w s
  | .afeTestmarkWrite hi w => Sys2Proof.Machine.execAfeTestmarkWrite hi w s
  | .bayTickLoRead b => Sys2Proof.Machine.execBayTickLoRead b s
  | .knotTmResetWrite w => Sys2Proof.Machine.execKnotTmResetWrite w s
  | .knotTmForceWrite val w => Sys2Proof.Machine.execKnotTmForceWrite val w s
  | .pbusLeapWrite w => Sys2Proof.Machine.execPbusLeapWrite w s
  | .pbusMdioWrite w => Sys2Proof.Machine.execPbusMdioWrite w s
  | .b0HeadWrite q l v => Sys2Proof.Machine.execB0HeadWrite q l v s
  | .berthTailWrite q b v => Sys2Proof.Machine.execBerthTailWrite q b v s
  | .hostBerthCfgWrite q b w => Sys2Proof.Machine.execHostBerthCfgWrite q b w s
  | .hostCtrlResetWrite w => Sys2Proof.Machine.execHostCtrlResetWrite w s
  | .pcieReset down => Sys2Proof.Machine.execPcieReset down s
  | .resync => Sys2Proof.Machine.execResync s
  | .berthIrqHoldoff b => Sys2Proof.Machine.execBerthIrqHoldoff b s
  | .hostBerthOverflow => Sys2Proof.Machine.execHostBerthOverflow s
  | .gridTick codes => Sys2Proof.Machine.execGridTick codes s
  | .trackerCycle => Sys2Proof.Machine.execTrackerCycle s
  | .trkRampEnter => Sys2Proof.Machine.execTrkRampEnter s
  | .deviceTimeBound => Sys2Proof.Machine.execDeviceTimeBound s
  | .bayEvaluation b t us => Sys2Proof.Machine.execBayEvaluation b t us s
  | .elmOperate e => Sys2Proof.Machine.execElmOperate e s
  | .elmResetTimeout e => Sys2Proof.Machine.execElmResetTimeout e s
  | .elmMemoryExpiry e => Sys2Proof.Machine.execElmMemoryExpiry e s
  | .bfRetrip e => Sys2Proof.Machine.execBfRetrip e s
  | .bfBackup e => Sys2Proof.Machine.execBfBackup e s
  | .arClose e => Sys2Proof.Machine.execArClose e s
  | .arLockout e => Sys2Proof.Machine.execArLockout e s
  | .arSuccess e => Sys2Proof.Machine.execArSuccess e s
  | .clpArmed e => Sys2Proof.Machine.execClpArmed e s
  | .clpEnd e => Sys2Proof.Machine.execClpEnd e s
  | .tmaxRel e => Sys2Proof.Machine.execTmaxRel e s
  | .groupChange b => Sys2Proof.Machine.execGroupChange b s
  | .knotTimerExpiry k => Sys2Proof.Machine.execKnotTimerExpiry k s
  | .tmMinpExpiry d => Sys2Proof.Machine.execTmMinpExpiry d s
  | .fastPickup f => Sys2Proof.Machine.execFastPickup f s
  | .fastDropout f => Sys2Proof.Machine.execFastDropout f s
  | .tdPickup d => Sys2Proof.Machine.execTdPickup d s
  | .tdDropout d => Sys2Proof.Machine.execTdDropout d s
  | .engineFail k late => Sys2Proof.Machine.execEngineFail k late s
  | .spareRotation => Sys2Proof.Machine.execSpareRotation s
  | .engineBistDone k misr ok count => Sys2Proof.Machine.execEngineBistDone k misr ok count s
  | .blockBistDone fail detail => Sys2Proof.Machine.execBlockBistDone fail detail s
  | .proofCycle => Sys2Proof.Machine.execProofCycle s
  | .sramCorrectedError m row t => Sys2Proof.Machine.execSramCorrectedError m row t s
  | .sramUncorrectable m => Sys2Proof.Machine.execSramUncorrectable m s
  | .nandBlockRetired blk => Sys2Proof.Machine.execNandBlockRetired blk s
  | .mramSectorSpared sec => Sys2Proof.Machine.execMramSectorSpared sec s
  | .lockstepMismatch => Sys2Proof.Machine.execLockstepMismatch s
  | .spliceFadeUp c codes => Sys2Proof.Machine.execSpliceFadeUp c codes s
  | .spliceFadeDown c codes => Sys2Proof.Machine.execSpliceFadeDown c codes s
  | .spliceFadeEnd c codes => Sys2Proof.Machine.execSpliceFadeEnd c codes s
  | .spliceValWindowEnd c codes => Sys2Proof.Machine.execSpliceValWindowEnd c codes s
  | .twinMismatch c codes => Sys2Proof.Machine.execTwinMismatch c codes s
  | .twinWindowEnd c codes => Sys2Proof.Machine.execTwinWindowEnd c codes s
  | .modReset c codes => Sys2Proof.Machine.execModReset c codes s
  | .auxTimerTrigger m => Sys2Proof.Machine.execAuxTimerTrigger m s
  | .auxTickTrigger m => Sys2Proof.Machine.execAuxTickTrigger m s
  | .auxPulseTrigger m t width low => Sys2Proof.Machine.execAuxPulseTrigger m t width low s
  | .auxScanStart m => Sys2Proof.Machine.execAuxScanStart m s
  | .auxConversion m raw => Sys2Proof.Machine.execAuxConversion m raw s
  | .auxInjConversion m raw => Sys2Proof.Machine.execAuxInjConversion m raw s
  | .auxXchk r0 r1 => Sys2Proof.Machine.execAuxXchk r0 r1 s
  | .svFrame f => Sys2Proof.Machine.execSvFrame f s
  | .svStreamLost k => Sys2Proof.Machine.execSvStreamLost k s
  | .svAlignExpiry g => Sys2Proof.Machine.execSvAlignExpiry g s
  | .gooseFrame f => Sys2Proof.Machine.execGooseFrame f s
  | .gooseTalExpired x => Sys2Proof.Machine.execGooseTalExpired x s
  | .goosePublish x => Sys2Proof.Machine.execGoosePublish x s
  | .gooseRepeat x => Sys2Proof.Machine.execGooseRepeat x s
  | .hsrForward p f => Sys2Proof.Machine.execHsrForward p f s
  | .prpSupervisionSend => Sys2Proof.Machine.execPrpSupervisionSend s
  | .phyPoll p up => Sys2Proof.Machine.execPhyPoll p up s
  | .sgmiiAutoneg p fast => Sys2Proof.Machine.execSgmiiAutoneg p fast s
  | .ptpSync p t m => Sys2Proof.Machine.execPtpSync p t m s
  | .ptpAnnounce p t a => Sys2Proof.Machine.execPtpAnnounce p t a s
  | .irigFrame t r => Sys2Proof.Machine.execIrigFrame t r s
  | .ppsEdge t width falling => Sys2Proof.Machine.execPpsEdge t width falling s
  | .timeSourceLost => Sys2Proof.Machine.execTimeSourceLost s
  | .holdoverAccDegrade => Sys2Proof.Machine.execHoldoverAccDegrade s
  | .timeSrcSelect => Sys2Proof.Machine.execTimeSrcSelect s
  | .utcOfsChange => Sys2Proof.Machine.execUtcOfsChange s
  | .commandFrame t err => Sys2Proof.Machine.execCommandFrame t err s
  | .readbackFrame t p err => Sys2Proof.Machine.execReadbackFrame t p err s
  | .fieldLinkLost => Sys2Proof.Machine.execFieldLinkLost s
  | .linkholdExpiry => Sys2Proof.Machine.execLinkholdExpiry s
  | .fieldDieReset t mv => Sys2Proof.Machine.execFieldDieReset t mv s
  | .fieldUvWarn t mv => Sys2Proof.Machine.execFieldUvWarn t mv s
  | .fieldUvInval t mv => Sys2Proof.Machine.execFieldUvInval t mv s
  | .fieldUvDrop t mv => Sys2Proof.Machine.execFieldUvDrop t mv s
  | .fieldUvRecover t mv => Sys2Proof.Machine.execFieldUvRecover t mv s
  | .fieldUvClear t mv => Sys2Proof.Machine.execFieldUvClear t mv s
  | .dinChange d t mv => Sys2Proof.Machine.execDinChange d t mv s
  | .wireBreak d t => Sys2Proof.Machine.execWireBreak d t s
  | .wireOk d t => Sys2Proof.Machine.execWireOk d t s
  | .outOverload d t thermal => Sys2Proof.Machine.execOutOverload d t thermal s
  | .outOverloadRetry d => Sys2Proof.Machine.execOutOverloadRetry d s
  | .outStuckHigh d t => Sys2Proof.Machine.execOutStuckHigh d t s
  | .outConflict d w t => Sys2Proof.Machine.execOutConflict d w t s
  | .outOpenLoad d t => Sys2Proof.Machine.execOutOpenLoad d t s
  | .outParImbalance d t => Sys2Proof.Machine.execOutParImbalance d t s
  | .outDiagClear d bit t => Sys2Proof.Machine.execOutDiagClear d bit t s
  | .softStartSlot => Sys2Proof.Machine.execSoftStartSlot s
  | .aliveRefreshTimeout => Sys2Proof.Machine.execAliveRefreshTimeout s
  | .towInEdge e => Sys2Proof.Machine.execTowInEdge e s
  | .claimFrameTx t bad => Sys2Proof.Machine.execClaimFrameTx t bad s
  | .claimFrameRx t bits => Sys2Proof.Machine.execClaimFrameRx t bits s
  | .claimPartnerTimeout => Sys2Proof.Machine.execClaimPartnerTimeout s
  | .claimLineFail => Sys2Proof.Machine.execClaimLineFail s
  | .claimLineOk => Sys2Proof.Machine.execClaimLineOk s
  | .trigInEdge t rising => Sys2Proof.Machine.execTrigInEdge t rising s
  | .trigBusEdge e => Sys2Proof.Machine.execTrigBusEdge e s
  | .trigBusPulseEnd => Sys2Proof.Machine.execTrigBusPulseEnd s
  | .recSampleCapture x => Sys2Proof.Machine.execRecSampleCapture x s
  | .rearmEnd x => Sys2Proof.Machine.execRearmEnd x s
  | .recBlockDrained x => Sys2Proof.Machine.execRecBlockDrained x s
  | .evtAppend => Sys2Proof.Machine.execEvtAppend s
  | .evtSuppressed => Sys2Proof.Machine.execEvtSuppressed s
  | .helloSend => Sys2Proof.Machine.execHelloSend s
  | .helloRx t f crc => Sys2Proof.Machine.execHelloRx t f crc s
  | .heartbeatSend => Sys2Proof.Machine.execHeartbeatSend s
  | .heartbeatRx t f crc => Sys2Proof.Machine.execHeartbeatRx t f crc s
  | .hbMiss tow => Sys2Proof.Machine.execHbMiss tow s
  | .snapshot => Sys2Proof.Machine.execSnapshot s
  | .snapDataRx t ver seq pay crc => Sys2Proof.Machine.execSnapDataRx t ver seq pay crc s
  | .snapEndRx t h pay crc x => Sys2Proof.Machine.execSnapEndRx t h pay crc x s
  | .handoverRx t f crc => Sys2Proof.Machine.execHandoverRx t f crc s
  | .handoverRequest => Sys2Proof.Machine.execHandoverRequest s
  | .handoverAbort => Sys2Proof.Machine.execHandoverAbort s
  | .replayTick => Sys2Proof.Machine.execReplayTick s
  | .replayCatchUp t => Sys2Proof.Machine.execReplayCatchUp t s
  | .joiningTimeout => Sys2Proof.Machine.execJoiningTimeout s
  | .powerOnResetRelease => Sys2Proof.Machine.execPowerOnResetRelease s
  | .rstNLow => Sys2Proof.Machine.execRstNLow s
  | .vmainWarn => Sys2Proof.Machine.execVmainWarn s
  | .vmainBrownOut => Sys2Proof.Machine.execVmainBrownOut s
  | .vafeLow => Sys2Proof.Machine.execVafeLow s
  | .vafeLost => Sys2Proof.Machine.execVafeLost s
  | .vafeReturn t => Sys2Proof.Machine.execVafeReturn t s
  | .vioLow => Sys2Proof.Machine.execVioLow s
  | .regulatorOutOfRange => Sys2Proof.Machine.execRegulatorOutOfRange s
  | .overTemperature => Sys2Proof.Machine.execOverTemperature s
  | .refclkLost => Sys2Proof.Machine.execRefclkLost s
  | .startUp v => Sys2Proof.Machine.execStartUp v s
  | .autocal => Sys2Proof.Machine.execAutocal s
  | .startUpSettings => Sys2Proof.Machine.execStartUpSettings s
  | .norAccess w => Sys2Proof.Machine.execNorAccess w s
  | .norOpDone => Sys2Proof.Machine.execNorOpDone s
  | .vmainWarnClear => Sys2Proof.Machine.execVmainWarnClear s
  | .vafeLowClear => Sys2Proof.Machine.execVafeLowClear s
  | .fieldUvInvalidExit t mv => Sys2Proof.Machine.execFieldUvInvalidExit t mv s
  | .lumkoLockLost e => Sys2Proof.Machine.execLumkoLockLost e s
  | .lumkoLockGained t => Sys2Proof.Machine.execLumkoLockGained t s
  | .pcieLinkUp gen2 => Sys2Proof.Machine.execPcieLinkUp gen2 s
  | .ptpPdelayRx p t m => Sys2Proof.Machine.execPtpPdelayRx p t m s
  | .ptpMessageSend => Sys2Proof.Machine.execPtpMessageSend s
  | .mdioDone data => Sys2Proof.Machine.execMdioDone data s
  | .aliveOutOverload t => Sys2Proof.Machine.execAliveOutOverload t s
  | .aliveOverloadRetry => Sys2Proof.Machine.execAliveOverloadRetry s
  | .clippedOnset c codes => Sys2Proof.Machine.execClippedOnset c codes s
  | .prpSupervisionRx h => Sys2Proof.Machine.execPrpSupervisionRx h s
  | .nodeForgetTime => Sys2Proof.Machine.execNodeForgetTime s
  | .badOpcode q op p => Sys2Proof.Machine.execBadOpcode q op p s

end Sys2Proof.Machine
end

