-- ==== Sys2Proof/Machine/Step.lean ====
section
/-! DEFINITION. One step: the command at the front of the queue, or, with nothing waiting, one cycle of the grid clock (log entry 2). -/
namespace Sys2Proof.Machine

/-- A cycle with nothing to do: device time moves on while the logic side runs (R8, R10). -/
def State.idle (s : State) : Host.Outcome State Fault Refusal := s.done (s.live State.clockCycle)

/-- One step. -/
def step (s : State) : Host.Outcome State Fault Refusal :=
  match s.pending with
  | c :: rest => exec c { s with pending := rest }
  | [] => s.idle

/-- The state with the command that a table word spells put at the front of its queue; unchanged where it spells none. -/
def State.withFetchWord (s : State) (nbits w : Nat) : State :=
  match decodeTableWord nbits w with
  | some c => { s with pending := c :: s.pending }
  | none => s

end Sys2Proof.Machine
end

