-- ==== Sys2Proof/WellFormed.lean ====
section
/-! DEFINITION. Which commands the surroundings can give: the ranges of the operands that their types do not already bound. -/
namespace Sys2Proof
open Machine

/-- A packet has a LENGTH that its 32-bit field can carry (R580). -/
def Machine.Packet.wf (p : Packet) : Bool := decide (p.params.length < 2 ^ 32)

/-- Bytes written into the 128 KB of B0 (R571). -/
def wfBytes (l : List (Nat × Byte)) : Bool := l.all fun x => decide (x.1 < 131072)

/-- The codes of a tick: every channel named at most once. -/
def wfCodes (l : List (Fin 64 × Codes)) : Bool := (l.map (·.1)).eraseDups.length == l.length

/-- What lies below an application: 48-bit addresses, a 12-bit VLAN ID, a 16-bit APPID, a 4-bit LAN or direction (R197, R201). -/
def Machine.NetHead.wf (h : NetHead) : Bool :=
  decide (h.src < 2 ^ 48) && decide (h.dst < 2 ^ 48) && (h.vlan.all fun v => decide (v < 4096)) && decide (h.appid < 65536)
    && (h.red.all fun r => decide (r.1 < 65536) && decide (r.2 < 16))

/-- A sampled-value frame: 16-bit sample counts and 32-bit signed members of a 2-bit validity (R205, R221). -/
def Machine.SvFrame.wf (f : SvFrame) : Bool :=
  f.hd.wf && f.asdu.all fun a => decide (a.smpCnt < 65536) && a.mem.all fun m =>
    decide (-2147483648 ≤ m.1) && decide (m.1 ≤ 2147483647) && decide (m.2.validity < 4)

/-- A GOOSE frame: 32-bit numbers (R223). -/
def Machine.GooseFrame.wf (f : GooseFrame) : Bool :=
  f.hd.wf && decide (f.confRev < 2 ^ 32) && decide (f.stNum < 2 ^ 32) && decide (f.sqNum < 2 ^ 32) && decide (f.tal < 2 ^ 32)

/-- An IRIG-B frame: no pulse outlasts its element of 10 ms (R239). -/
def Machine.IrigRaw.wf (r : IrigRaw) : Bool := r.w.all fun x => decide (x ≤ 2500000)

/-- The header of a Lumko frame: VER fits 8 bits and the frame sequence number 32, and its LENGTH 16 (R491). -/
def Machine.LkFrame.wf (f : LkFrame) : Bool := decide (f.ver < 256) && decide (f.seq < 2 ^ 32) && decide (f.pay.length < 65536)

/-- The operands are ones the surroundings can bring. -/
def Instr.wellFormed : Instr → Bool
  | .negotiate _ p | .identify _ p | .restart _ p | .maintMode _ p | .selfcal _ p | .auxInject _ p | .afeDiag _ p
  | .afeSkewcal _ p | .fltBankLoad _ p | .fltBankSwap _ p | .fltSync _ p | .timeSet _ p | .pbusSubscribe _ p
  | .setStageOpen _ p | .setStageWrite _ p | .setStageSeal _ p | .setEndorse _ p | .setCommit _ p | .setAbort _ p
  | .keyEnrol _ p | .recArm _ p | .recFetch _ p | .recExport _ p | .recTrigger _ p | .recDisarm _ p | .recManage _ p
  | .evtRead _ p | .evtClear _ p | .pairJoin _ p | .pairYield _ p | .pairStatus _ p | .bistRun _ p | .repairFuse _ p
  | .badOpcode _ _ p => p.wf
  | .b0HeadWrite _ l _ => wfBytes l
  | .gridTick codes => wfCodes codes
  | .svFrame f => f.wf
  | .gooseFrame f => f.wf
  | .prpSupervisionRx h => h.wf
  | .irigFrame _ r => r.wf
  | .commandFrame _ err => err.all fun i => decide (i < 320)
  | .readbackFrame _ _ err => err.all fun i => decide (i < 480)
  | .helloRx _ f _ | .heartbeatRx _ f _ | .handoverRx _ f _ => f.wf
  | .snapDataRx _ ver seq pay _ => Machine.LkFrame.wf { ver := ver, seq := seq, pay := pay }
  | .snapEndRx _ h pay _ _ => Machine.LkFrame.wf { toLkHead := h, pay := pay }
  | _ => true

end Sys2Proof
end

