-- ==== Sys2Proof/Safety.lean ====
section
/-! DEFINITION. What the statements ask of a state and of a step: the run goes on, the outputs agree with the state, the queue holds only
commands the surroundings can give, a step leaves everything alone but what it names, an event goes to the log, a command is answered. -/
namespace Sys2Proof.Machine
open Reg

/-- The outcome is the next state `t`. -/
def Goes (o : Host.Outcome State Fault Refusal) (t : State) : Prop := o = .next t

/-- The outcome is a next state of which `P` holds. -/
def GoesTo (o : Host.Outcome State Fault Refusal) (P : State → Prop) : Prop := ∃ t, o = .next t ∧ P t

/-- The life contact is on exactly while no condition of R412 fails, and CAUSE names the first that does. -/
def State.LifeOk (s : State) : Prop := s.rd DIO_ALIVE.STATE = b2n (s.aliveCause == 0) ∧ s.rd DIO_ALIVE.CAUSE = s.aliveCause

/-- The output pads agree with the state (R400, R412, R414, R443, R603). -/
def State.PadsOk (s : State) : Prop := s.pads = s.padsNow

/-- The outputs agree with the state. -/
def State.OutputsOk (s : State) : Prop := s.LifeOk ∧ s.PadsOk

/-- The settings in force. -/
def State.settings (s : State) : Bank := s.bank

/-- Every waiting command is one the surroundings can give. -/
def State.QueueOk (s : State) : Prop := ∀ c ∈ s.pending, c.wellFormed = true

/-- The parts of a state beside its register store, its pads and its queue. `host` is the host interface less the berth SRAM, `mem`
the berth SRAM. -/
inductive Part where
  | bank | prev | nv | grid | log | host | mem | cust | afe | td | aux | pbus | eval | dio | bist | recd | pair | pwr | tap | free
  deriving DecidableEq, Repr

/-- A part is the same in two states. -/
def Part.same (p : Part) (s t : State) : Prop :=
  match p with
  | .bank => t.bank = s.bank
  | .prev => t.prev = s.prev
  | .nv => t.nv = s.nv
  | .grid => t.grid = s.grid
  | .log => t.log = s.log
  | .host => { t.host with mem := [] } = { s.host with mem := [] }
  | .mem => t.host.mem = s.host.mem
  | .cust => t.cust = s.cust
  | .afe => t.afe = s.afe
  | .td => t.td = s.td
  | .aux => t.aux = s.aux
  | .pbus => t.pbus = s.pbus
  | .eval => t.eval = s.eval
  | .dio => t.dio = s.dio
  | .bist => t.bist = s.bist
  | .recd => t.rec' = s.rec'
  | .pair => t.pair = s.pair
  | .pwr => t.pwr = s.pwr
  | .tap => t.tap = s.tap
  | .free => t.free = s.free

/-- The keys of the fields that follow every command: the life contact's (R412) and the powered modulator groups (R104). -/
def lifeKeys : List Nat := [DIO_ALIVE.STATE.key 0 0, DIO_ALIVE.CAUSE.key 0 0, AFE_STATUS.GRP_PWR.key 0 0]

/-- The keys that raising an event may write (R475, R480). -/
def logKeys : List Nat := [EVT_SUPP_CNT.VALUE.key 0 0, EVT_STATUS.QFULL.key 0 0, EVT_QUEUE_MAX.VALUE.key 0 0]

/-- The keys that a device condition writes (R602, R603). -/
def causeKeys : List Nat := [HOST_CAUSE.BITS.key 0 0, HOST_IRQ_PEND.MASK.key 0 0]

/-- The frame: from `s` to `t` every part but those listed stays as it was, every register field but those whose keys are listed (and the
`lifeKeys`) reads as before, the queue is the one `s` had, and the outputs agree with the state. -/
def State.Keeps (s t : State) (parts : List Part) (keys : List Nat) : Prop :=
  (∀ p, p ∉ parts → p.same s t) ∧ (∀ k, k ∉ lifeKeys → k ∉ keys → tfind t.regs k = tfind s.regs k) ∧ t.pending = s.pending ∧ t.OutputsOk

/-- What stays over a command that runs a whole block: the settings in force, what custody holds, the queue; the outputs agree with the
state. -/
def State.Stays (s t : State) : Prop :=
  t.settings = s.settings ∧ t.nv.cust = s.nv.cust ∧ t.cust = s.cust ∧ t.pending = s.pending ∧ t.OutputsOk

/-- The log of `t` is the one that raising an event in `s` leaves (R471). -/
def State.Logs (s t : State) (dev code src val : Nat) : Prop := t.log = (s.logAt dev code src val).log

end Sys2Proof.Machine
end

