-- ==== Sys2Proof/Certificates/Slice0/Obligations.lean ====
section
/-! DEFINITION. The statements for the provers: what the rules of the spec say of the block, claim by claim, and the obligations that
gather them. -/
namespace Sys2Proof.Machine
open Reg

/-! ### Supplies, resets and start-up (R642 to R664, R689) -/

/-- Held commands, R651: the reset cause that a command gives. -/
def resetCause : Instr → Option Nat
  | .rstNLow => some 1
  | .vmainBrownOut => some 3
  | .vioLow => some 4
  | .regulatorOutOfRange => some 5
  | .refclkLost => some 6
  | .overTemperature => some 9
  | _ => none

/-- The keys of the registers that tell of resets (R650, R651). -/
def rstKeys : List Nat :=
  [PWR_RST_CAUSE.CAUSE.key 0 0, PWR_RST_CAUSE.PREV.key 0 0, PWR_RST_CNT.VALUE.key 0 0, CLK_LOL_CNT.VALUE.key 0 0]

/-- POWER_ON_RESET_RELEASE (R642, R651): the logic side is released and will start at step 1, the cause is 0, the count rises; of the
non-volatile memories only an operation of the NOR in progress ends. -/
def Claim.powerOnReleases : Prop := ∀ s : State, s.pwr.phase = .unpowered ∨ s.pwr.phase = .held →
  GoesTo (exec .powerOnResetRelease s) fun t =>
    t.pwr = { s.pwr with phase := .released, step2 := false } ∧ t.rd PWR_RST_CAUSE.CAUSE = 0
    ∧ t.rd PWR_RST_CAUSE.PREV = s.rd PWR_RST_CAUSE.CAUSE % 16
    ∧ t.rd PWR_RST_CNT.VALUE = min (s.rd PWR_RST_CNT.VALUE + 1) (2 ^ 32 - 1)
    ∧ t.nv.nor.busy = none ∧ { t.nv with nor := s.nv.nor } = s.nv
    ∧ s.Keeps t [.pwr, .nv, .free] [PWR_RST_CAUSE.CAUSE.key 0 0, PWR_RST_CAUSE.PREV.key 0 0, PWR_RST_CNT.VALUE.key 0 0]

/-- RST_N_LOW, VMAIN_BROWN_OUT, VIO_LOW, REGULATOR_OUT_OF_RANGE, REFCLK_LOST, OVER_TEMPERATURE on a powered part (R643, R650 to R653):
the logic side is held in reset, the registers tell the cause, the log, the custody memory, the calibration memory, the latches, the
epoch, the device-time bound and the NOR keep what they hold, and everything else on the logic side stands at its reset value. -/
def Claim.resetHolds : Prop := ∀ (s : State) (c : Instr) (k : Nat), resetCause c = some k → s.pwr.phase ≠ .unpowered →
  GoesTo (exec c s) fun t =>
    t.pwr = { phase := .held, rstN := s.pwr.rstN || decide (k = 1) }
    ∧ t.rd PWR_RST_CAUSE.CAUSE = k ∧ t.rd PWR_RST_CAUSE.PREV = s.rd PWR_RST_CAUSE.CAUSE % 16
    ∧ t.rd PWR_RST_CNT.VALUE = min (s.rd PWR_RST_CNT.VALUE + 1) (2 ^ 32 - 1)
    ∧ t.rd CLK_LOL_CNT.VALUE = (if k = 6 then min (s.rd CLK_LOL_CNT.VALUE + 1) (2 ^ 32 - 1) else s.rd CLK_LOL_CNT.VALUE % 2 ^ 32)
    ∧ (t.nv.log = s.nv.log ∧ t.nv.cust = s.nv.cust ∧ t.nv.afe = s.nv.afe ∧ t.nv.lat = s.nv.lat ∧ t.nv.epoch = s.nv.epoch
      ∧ t.nv.nor = s.nv.nor)
    ∧ t.grid = { now := s.grid.now, bound := s.grid.bound } ∧ t.tap = s.tap
    ∧ (t.log = {} ∧ t.host = {} ∧ t.cust = {} ∧ t.afe = {} ∧ t.td = [] ∧ t.aux = {} ∧ t.pbus = {} ∧ t.eval = {} ∧ t.bist = {}
      ∧ t.rec' = {} ∧ t.pair = {})
    ∧ (∀ x, x ∉ lifeKeys → x ∉ rstKeys → tfind t.regs x = tfind State.reset.regs x)
    ∧ t.pending = s.pending ∧ t.OutputsOk

/-- The same commands on a part that the power-on reset holds (R642, R652): only RST_N is noted. -/
def Claim.resetUnpowered : Prop := ∀ (s : State) (c : Instr) (k : Nat), resetCause c = some k → s.pwr.phase = .unpowered →
  GoesTo (exec c s) fun t => t.pwr = { s.pwr with rstN := s.pwr.rstN || decide (k = 1) } ∧ s.Keeps t [.pwr] []

/-- VMAIN_WARN (R643): the state, its sticky bit and the count of entries; nothing is written to MRAM or NAND from then on. -/
def Claim.vmainWarnEnters : Prop := ∀ s : State, s.up = true → s.rd PWR_STATUS.VMAIN_WARN = 0 →
  GoesTo (exec .vmainWarn s) fun t =>
    t.rd PWR_STATUS.VMAIN_WARN = 1 ∧ t.rd PWR_UV_STICKY.VMAIN_WARN = 1
    ∧ t.rd PWR_UV_CNT.VALUE = min (s.rd PWR_UV_CNT.VALUE + 1) (2 ^ 32 - 1) ∧ t.writesHeld = true
    ∧ s.Keeps t [.pair] [PWR_STATUS.VMAIN_WARN.key 0 0, PWR_UV_STICKY.VMAIN_WARN.key 0 0, PWR_UV_CNT.VALUE.key 0 0]

/-- No command packet waits in B0 and nothing else is to be interpreted there (R584). -/
def State.NothingWaits (s : State) : Prop := s.host.waiting = [] ∧ s.host.resync = none ∧ s.unframed = false

/-- VMAIN_WARN_CLEAR (R643, R367, R179, R114) with no claim and no command waiting for it: the state ends, and what was withheld is written:
the latch of every row that keeps one, the coefficient banks of every channel that changed them, the skews. -/
def Claim.vmainWarnLeaves : Prop := ∀ s : State, s.up = true → s.rd PWR_STATUS.VMAIN_WARN = 1 → s.pwr.owedClaim = false → s.NothingWaits →
  GoesTo (exec .vmainWarnClear s) fun t =>
    t.rd PWR_STATUS.VMAIN_WARN = 0 ∧ t.pwr = { s.pwr with owedBanks := [], owedSkew := false }
    ∧ (∀ d < 32, s.bank.fld KNOT_TM_CFG.NVL d = 1 → (tget {} t.nv.lat d).good = some (s.row d).lat)
    ∧ (∀ c ∈ s.pwr.owedBanks, tfind (t.nv.afe.store.good.getD []) c = some ((s.chan c).bankA, (s.chan c).bankB, s.rd FLT_CH_STATUS.ACTIVE c))
    ∧ (s.pwr.owedSkew = true → ∀ c < 64, tget 0 (t.nv.afe.skew.good.getD []) c = s.rdI AFE_CH_CAL_SKEW.VALUE c)
    ∧ (s.pwr.owedBanks = [] → t.nv.afe.store = s.nv.afe.store) ∧ (s.pwr.owedSkew = false → t.nv.afe.skew = s.nv.afe.skew)
    ∧ { t.nv with lat := s.nv.lat, afe := s.nv.afe } = s.nv
    ∧ s.Keeps t [.nv, .pwr] [PWR_STATUS.VMAIN_WARN.key 0 0]

/-- VMAIN_WARN_CLEAR with a claim withheld (R502, R643), no command waiting: the epoch is written, and the assert bit rises. -/
def Claim.withheldClaimMade : Prop := ∀ s : State, s.up = true → s.rd PWR_STATUS.VMAIN_WARN = 1 → s.pwr.owedClaim = true → s.NothingWaits →
  GoesTo (exec .vmainWarnClear s) fun t =>
    t.rd PWR_STATUS.VMAIN_WARN = 0 ∧ t.pwr.owedClaim = false ∧ t.rd PAIR_CLAIM.ASSERT = 1
    ∧ t.epoch = nextEpoch s.epoch (if s.pair.word then some (s.rd PAIR_CLAIM.PSEEN / 2) else none)
    ∧ t.nv.epoch.older = s.nv.epoch.good ∧ t.settings = s.settings ∧ t.pending = s.pending ∧ t.OutputsOk

/-- VAFE_LOW (R643, R645): the state, its sticky bit and the count; a group in calibration is spoilt. -/
def Claim.vafeLowEnters : Prop := ∀ s : State, s.up = true → s.rd PWR_STATUS.VAFE_LOW = 0 →
  GoesTo (exec .vafeLow s) fun t =>
    t.rd PWR_STATUS.VAFE_LOW = 1 ∧ t.rd PWR_UV_STICKY.VAFE_LOW = 1
    ∧ t.rd PWR_UV_CNT.VALUE = min (s.rd PWR_UV_CNT.VALUE + 1) (2 ^ 32 - 1)
    ∧ (∀ r, s.afe.cal = some r → r.cur.isSome → ∃ r', t.afe.cal = some r' ∧ r'.badVafe = true)
    ∧ s.Keeps t [.pair, .afe] [PWR_STATUS.VAFE_LOW.key 0 0, PWR_UV_STICKY.VAFE_LOW.key 0 0, PWR_UV_CNT.VALUE.key 0 0]

/-- VAFE_LOW_CLEAR (R643): from the low state, and not from the lost one. -/
def Claim.vafeLowLeaves : Prop := ∀ s : State, s.up = true → s.rd PWR_STATUS.VAFE_LOW = 1 → s.rd PWR_STATUS.VAFE_LOST = 0 →
  GoesTo (exec .vafeLowClear s) fun t => t.rd PWR_STATUS.VAFE_LOW = 0 ∧ s.Keeps t [] [PWR_STATUS.VAFE_LOW.key 0 0]

/-- VAFE_LOST (R643): the state and its sticky bit, with VAFE low entered if it was not, and no modulator group powered. -/
def Claim.vafeLostEnters : Prop := ∀ s : State, s.up = true → s.rd PWR_STATUS.VAFE_LOST = 0 →
  GoesTo (exec .vafeLost s) fun t =>
    t.rd PWR_STATUS.VAFE_LOST = 1 ∧ t.rd PWR_UV_STICKY.VAFE_LOST = 1 ∧ t.rd AFE_STATUS.GRP_PWR = 0
    ∧ (s.rd PWR_STATUS.VAFE_LOW = 0 → t.rd PWR_STATUS.VAFE_LOW = 1 ∧ t.rd PWR_UV_STICKY.VAFE_LOW = 1)
    ∧ (s.rd PWR_STATUS.VAFE_LOW = 0 → t.rd PWR_UV_CNT.VALUE = min (s.rd PWR_UV_CNT.VALUE + 2) (2 ^ 32 - 1))
    ∧ (s.rd PWR_STATUS.VAFE_LOW = 1 → t.rd PWR_UV_CNT.VALUE = min (s.rd PWR_UV_CNT.VALUE + 1) (2 ^ 32 - 1))
    ∧ s.Keeps t [.pair, .afe] [PWR_STATUS.VAFE_LOW.key 0 0, PWR_STATUS.VAFE_LOST.key 0 0, PWR_UV_STICKY.VAFE_LOW.key 0 0,
        PWR_UV_STICKY.VAFE_LOST.key 0 0, PWR_UV_CNT.VALUE.key 0 0, AFE_STATUS.GRP_PWR.key 0 0]

/-- VAFE_RETURN (R104, R645): the lost state ends, the soft-start powers the four groups one each ms, each settles for 2 ms, and its chains are
reset then; no group is settled yet, and the calibration results stay. -/
def Claim.vafeReturns : Prop := ∀ (s : State) (t0 : Nat), s.up = true → s.rd PWR_STATUS.VAFE_LOST = 1 → s.grid.now ≤ t0 →
  GoesTo (exec (.vafeReturn t0) s) fun t =>
    t.rd PWR_STATUS.VAFE_LOST = 0 ∧ t.rd AFE_STATUS.GRP_PWR = 0
    ∧ t.afe.settled = [(0, t0 + 500000), (1, t0 + 750000), (2, t0 + 1000000), (3, t0 + 1250000)]
    ∧ (∀ c < 64, (t.chan c).powerUp = some ((t0 + (c / 16 + 2) * 250000) * 2 ^ 32)
      ∧ ∀ x ∈ (t.chan c).spans, x.flag = bSETTLING → ∃ hi, x.hi = some hi)
    ∧ t.grid.now = t0
    ∧ s.Keeps t [.grid, .afe] (PWR_STATUS.VAFE_LOST.key 0 0 :: (List.range 64).map fun c => AFE_CH_STATUS.TWIN_MM.key c 0)

/-- The powered groups (R104): after a power-up AFE_STATUS.GRP_PWR shows, after every command, the groups that have settled by then. -/
def Claim.groupsShown : Prop := ∀ (s : State) (t : State) (c : Instr), exec c s = .next t → t.afe.settled ≠ [] →
  ∀ g < 4, (t.rd AFE_STATUS.GRP_PWR).testBit g = true ↔ ∃ x ∈ t.afe.settled, x.1 = g ∧ x.2 ≤ t.grid.now

/-- START_UP with no valid firmware slot (R655): it stops at step 2 with STEP = 15. -/
def Claim.bootFails : Prop := ∀ (s : State) (v : StartView), s.pwr.phase = .released ∨ s.pwr.phase = .held →
  v.slot (s.rd ID_FW_SLOT.RB_MIN) = none →
  GoesTo (exec (.startUp v) s) fun t => t.rd PWR_START.STEP = 15 ∧ t.pwr.phase = .bootFail ∧ t.up = false
    ∧ s.Keeps t [.pwr] [PWR_START.STEP.key 0 0, CLK_STATUS.LOCK.key 0 0, CLK_STATUS.REF_OK.key 0 0, PWR_STEP_TIME.VALUE.key 0 0]

/-- START_UP with a valid slot (R655 to R659): the part comes to step 7 with its grid running, its groups powered and the window open. -/
def Claim.startUpReachesCalibration : Prop := ∀ (s : State) (v : StartView), s.pwr.phase = .released ∨ s.pwr.phase = .held →
  (v.slot (s.rd ID_FW_SLOT.RB_MIN)).isSome →
  GoesTo (exec (.startUp v) s) fun t => t.pwr.phase = .calibrating ∧ t.up = true ∧ t.pwr.rstN = false ∧ t.rd PWR_START.STEP = 7
    ∧ t.rd PWR_STEP_TIME.VALUE 5 = (v.stepUs 5 + 5000) % 2 ^ 32 ∧ t.pwr.selfcalSeen = false ∧ t.pwr.applied = false
    ∧ t.pwr.gridUs = v.stepUs 5 + 5000 ∧ t.rd AFE_STATUS.GRP_PWR = 15 ∧ t.pending = s.pending ∧ t.OutputsOk

/-- AUTOCAL (R660): 500 ms after the grid start, no SELFCAL accepted, the part's own calibration of all groups and both converters is due. -/
def Claim.autocalRuns : Prop := ∀ s : State, s.pwr.phase = .calibrating → s.pwr.selfcalSeen = false →
  GoesTo (exec .autocal s) fun t => t.rd PWR_START.AUTOCAL = 1 ∧ t.pwr.selfcalSeen = true ∧ t.afe.cal.isSome = true
    ∧ t.grid.now = max s.grid.now (s.pwr.gridStart + 125000000)
    ∧ s.Keeps t [.pwr, .afe, .grid] [PWR_START.AUTOCAL.key 0 0, AFE_STATUS.CAL_BUSY.key 0 0]

/-- START_UP_SETTINGS (R661, R662): the bank in custody comes into force at the grid's next tick and start-up is complete; an unpaired
unit's protection is enabled. -/
def Claim.settingsComeIntoForceAtStartUp : Prop := ∀ s : State, s.pwr.phase = .settings → s.pwr.applied = false → s.pwr.halt = false →
  GoesTo (exec .startUpSettings s) fun t => t.settings = s.nv.cust.bank ∧ t.pwr.phase = .running ∧ t.pwr.applied = true
    ∧ t.rd PWR_START.STEP = 10 ∧ (t.rd PAIR_CFG.EN = 0 → t.pwr.prot = true) ∧ t.pending = s.pending ∧ t.OutputsOk

/-- The cycles of TCK by which the board selects instruction `ir` from any state of the TAP, the instruction's bits least significant first
(IEEE 1149.1, log entry 118). -/
def tapSelect (ir : BitVec 8) : List TapClk :=
  [⟨true, true, false⟩, ⟨true, true, false⟩, ⟨true, true, false⟩, ⟨true, true, false⟩, ⟨true, true, false⟩, ⟨true, false, false⟩,
    ⟨true, true, false⟩, ⟨true, true, false⟩, ⟨true, false, false⟩, ⟨true, false, false⟩]
  ++ (List.range 8).map (fun i => ⟨true, i == 7, ir.getLsbD i⟩) ++ [⟨true, true, false⟩, ⟨true, false, false⟩]

/-- The cycles of TCK from Run-Test/Idle by which the board passes a word of `n` bits through the data register of the instruction and back to
Run-Test/Idle. -/
def tapShift (n w : Nat) : List TapClk :=
  [⟨true, true, false⟩, ⟨true, false, false⟩, ⟨true, false, false⟩]
  ++ (List.range n).map (fun i => ⟨true, i + 1 == n, w.testBit i⟩) ++ [⟨true, true, false⟩, ⟨true, false, false⟩]

/-- NOR_ACCESS of a word through the TAP (R689): whatever the TAP was doing, NOR_ACCESS is selected and 64 bits are shifted and updated. -/
def norWord (w : BitVec 64) : List TapClk := tapSelect 0x40 ++ tapShift 64 w.toNat

/-- NOR_ACCESS with RST_N held low and no operation in progress (R656, R689): a listed operation starts. -/
def Claim.norStarts : Prop := ∀ (s : State) (w : BitVec 64), s.pwr.rstN = true → s.nv.nor.busy = none →
  1 ≤ w.toNat / 2 ^ 56 % 256 → w.toNat / 2 ^ 56 % 256 ≤ 3 →
  GoesTo (exec (.norAccess (norWord w)) s) fun t =>
    t.nv.nor = { s.nv.nor with error := false, busy := some ⟨w.toNat / 2 ^ 56 % 256, w.toNat / 2 ^ 32 % 2 ^ 24, w.toNat % 2 ^ 32⟩ }
    ∧ t.tap.state = .idle ∧ t.tap.ir = 0x40 ∧ { t.nv with nor := s.nv.nor } = s.nv
    ∧ s.Keeps t [.nv, .tap] []

/-- NOR_ACCESS otherwise: without RST_N low, or while an operation runs, ERROR is set and nothing of the NOR changes; a status operation
changes nothing. -/
def Claim.norRefused : Prop := ∀ (s : State) (w : BitVec 64), s.pwr.rstN = false ∨ s.nv.nor.busy.isSome = true ∨ w.toNat / 2 ^ 56 % 256 = 0 →
  GoesTo (exec (.norAccess (norWord w)) s) fun t =>
    t.nv.nor.words = s.nv.nor.words ∧ t.nv.nor.sect = s.nv.nor.sect ∧ t.nv.nor.busy = s.nv.nor.busy
    ∧ (1 ≤ w.toNat / 2 ^ 56 % 256 → w.toNat / 2 ^ 56 % 256 ≤ 3 → t.nv.nor.error = true)
    ∧ (w.toNat / 2 ^ 56 % 256 = 0 → t.nv = s.nv) ∧ s.Keeps t [.nv, .tap] []

/-- The other instructions of the TAP (R688): a cycle of TCK under any instruction but NOR_ACCESS changes the TAP alone, and draws open values
where it captures the boundary register. -/
def Claim.tapAlone : Prop := ∀ (s : State) (x : TapClk), s.tap.ir ≠ 0x40 →
  GoesTo (exec (.norAccess [x]) s) fun t => s.Keeps t [.tap, .free] []

/-- The TAP's reset (R652, R688): TRST_N low, or five cycles with TMS high, bring IDCODE into the instruction register, and the 32 bits then
shifted out are the device code. -/
def Claim.tapIdentifies : Prop := ∀ s : State,
  GoesTo (exec (.norAccess [⟨false, false, false⟩]) s) (fun t => t.tap.state = .reset ∧ t.tap.ir = 0x02 ∧ s.Keeps t [.tap] [])
  ∧ GoesTo (exec (.norAccess ((tapSelect 0).take 5 ++ [⟨true, false, false⟩] ++ (tapShift 32 0).take 3)) s) fun t =>
      t.tap.state = .shiftDr ∧ ofBits t.tap.dr = 2 ^ 28 * (s.rd ID_PART.REV % 16) + 0x7464567 ∧ t.tap.dr.length = 32
      ∧ t.pads.tdo = some (t.tap.dr.headD false)

/-- BYPASS (R688), selected by any unlisted code: the data register is one bit, so what goes in comes out a cycle later. -/
def Claim.tapBypasses : Prop := ∀ (s : State) (ir : BitVec 8) (b : Bool), ir ∉ [0x00, 0x01, 0x02, 0x06, 0x07, 0x40] →
  GoesTo (exec (.norAccess (tapSelect ir ++ (tapShift 1 0).take 3 ++ [⟨true, false, b⟩])) s) fun t =>
    t.tap.ir = ir ∧ t.tap.state = .shiftDr ∧ t.pads.tdo = some b

/-- NOR_OP_DONE (R689): a read brings the word, a program of an erased word stores its data, an erase leaves every word of its sector
0xFFFF_FFFF and the programmed words of the others as they are. -/
def Claim.norCompletes : Prop := ∀ (s : State) (x : NorOp), s.nv.nor.busy = some x → x.addr < norSize → 1 ≤ x.op → x.op ≤ 3 →
  GoesTo (exec .norOpDone s) fun t =>
    t.nv.nor.busy = none
    ∧ (x.op = 1 → t.nv.nor.data = s.nv.nor.read x.addr ∧ ∀ a, t.nv.nor.read a = s.nv.nor.read a)
    ∧ (x.op = 2 → s.nv.nor.read x.addr = 2 ^ 32 - 1 → ∀ a, t.nv.nor.read a = if a = x.addr then x.data else s.nv.nor.read a)
    ∧ (x.op = 3 → (∀ a < norSize, a / norSector = x.addr / norSector → t.nv.nor.read a = 2 ^ 32 - 1)
      ∧ t.nv.nor.words = s.nv.nor.words.filter (fun w => w.1 / norSector != x.addr / norSector)
      ∧ ∀ q, q ≠ x.addr / norSector → tfind t.nv.nor.sect q = tfind s.nv.nor.sect q)
    ∧ { t.nv with nor := s.nv.nor } = s.nv ∧ s.Keeps t [.nv, .free] []

/-! ### The field die, the isolator link, the life contact, the claim line (R384 to R422) -/

/-- Keys of a field over an array. -/
def keysOver (f : Field) (n : Nat) : List Nat := (List.range n).map fun i => f.key i 0

/-- The keys of the registers that show the outputs (R400). -/
def outKeys : List Nat :=
  [DIO_CMD.MASK.key 0 0, DIO_DRV.MASK.key 0 0, DIO_STATUS.SS_BUSY.key 0 0]
    ++ keysOver DIO_CH_STATUS.OSTATE 32 ++ keysOver DIO_CH_STATUS.CLASS 32 ++ keysOver DIO_CH_STATUS.CMD 32
/-- The keys of the registers that show the inputs' valid flags (R395). -/
def inKeys : List Nat := DIO_IN_OK.MASK.key 0 0 :: keysOver DIO_CH_STATUS.IN_OK 32
/-- The keys of the registers that show the claim line (R415 to R420). -/
def claimKeys : List Nat :=
  [DIO_CLAIM_STATUS.OWN.key 0 0, DIO_CLAIM_STATUS.OWN_ASSERT.key 0 0, DIO_CLAIM_STATUS.PARTNER.key 0 0, DIO_CLAIM_STATUS.PARTNER_ASSERT.key 0 0,
    DIO_CLAIM_STATUS.PARTNER_SEEN.key 0 0, DIO_CLAIM_STATUS.GATE.key 0 0, DIO_CLAIM_LOST_CNT.VALUE.key 0 0]

/-- The commands of the field die, which it obeys whether or not the logic side runs. -/
def dieCommand : Instr → Bool
  | .linkholdExpiry | .fieldDieReset .. | .fieldUvWarn .. | .fieldUvInval .. | .fieldUvDrop .. | .fieldUvRecover .. | .fieldUvClear ..
  | .fieldUvInvalidExit .. | .dinChange .. | .wireBreak .. | .wireOk .. | .outOverload .. | .outOverloadRetry .. | .outStuckHigh ..
  | .outConflict .. | .outOpenLoad .. | .outParImbalance .. | .outDiagClear .. | .softStartSlot | .claimFrameTx .. | .claimFrameRx ..
  | .claimPartnerTimeout | .claimLineFail | .claimLineOk => true
  | _ => false

/-- While the logic side is down, what happens on the field die changes the die alone (R384, R651). -/
def Claim.dieAlone : Prop := ∀ (s : State) (c : Instr), dieCommand c = true → s.up = false → GoesTo (exec c s) fun t => s.Keeps t [.dio] []

/-- COMMAND_FRAME received without error by a configured die (R386 to R388, R400, R419): the die has the commands the logic side formed and
its claim word and assert bit, the link is good, and no output is on that is commanded off. -/
def Claim.commandFrameTaken : Prop := ∀ (s : State) (t0 : Nat), s.pwr.phase = .running → s.dio.reset = false → s.dio.cfg = true → s.bist.host = none →
  GoesTo (exec (.commandFrame t0 []) s) fun t =>
    (∀ d < 32, t.dio.cmd.testBit d = s.outCmd d)
    ∧ (∀ d < 32, s.dir d = 2 → s.lead d = d → s.outCmd d = false → t.dio.drv.testBit d = false)
    ∧ t.dio.link = true ∧ t.dio.holdOff = false ∧ t.dio.lostAt = none ∧ t.dio.frameAt = t.grid.now ∧ t.dio.seq = (s.dio.seq + 1) % 16
    ∧ t.dio.claim.own = s.rd PAIR_CLAIM.OWN % 256 ∧ t.dio.claim.assert_ = (s.rd PAIR_CLAIM.ASSERT == 1)
    ∧ t.grid.now = max s.grid.now t0 ∧ t.settings = s.settings ∧ t.host.mem = s.host.mem ∧ t.nv = s.nv ∧ t.pending = s.pending ∧ t.OutputsOk

/-- READBACK_FRAME received without error while the link is good and the die configured, no lost claim to report (R385 to R388): the pads, the
measurement are shown, and VFIELD once in every millisecond of device time (R406). -/
def Claim.readbackSeen : Prop := ∀ (s : State) (t0 : Nat) (p : PadView), s.up = true → s.dio.reset = false → s.dio.cfg = true →
  s.rd DIO_STATUS.LINK = 1 → s.dio.claim.lost = false →
  GoesTo (exec (.readbackFrame t0 p []) s) fun t =>
    (∀ d < 32, (t.rd DIO_RB.MASK).testBit d = p.pads.toNat.testBit d ∧ t.rd DIO_CH_STATUS.PAD d = b2n (p.pads.toNat.testBit d))
    ∧ t.rd DIO_VFIELD.VALUE = (if s.dio.vfAt = max s.grid.now t0 / 250000 + 1 then s.rd DIO_VFIELD.VALUE else p.vf.toNat)
    ∧ t.rd DIO_STATUS.LINK = 1 ∧ t.dio.readAt = t.grid.now ∧ t.dio.meas = (s.dio.meas + 1) % 32
    ∧ t.grid.now = max s.grid.now t0 ∧ t.dio.cmd = s.dio.cmd ∧ t.dio.drv = s.dio.drv ∧ t.settings = s.settings ∧ t.host.mem = s.host.mem
    ∧ t.nv = s.nv ∧ t.pending = s.pending ∧ t.OutputsOk

/-- FIELD_LINK_LOST (R388) at the logic side, 100 µs after its latest valid frame: inputs are invalid, the loss is counted, logged and a device
condition; commands and drivers stay as they are. The die, if its frames stopped within one frame of that, has held since its own 100 µs. -/
def Claim.linkLossSeen : Prop := ∀ (s : State) (u : Nat), s.up = true → s.rd DIO_STATUS.LINK = 1 →
  s.dio.link = false ∨ s.dio.readAt ≤ s.dio.frameAt + 2000 →
  u = (if s.dio.link = true ∧ s.dio.frameAt ≤ s.dio.readAt + 2000 then max s.dio.readAt s.dio.frameAt else s.dio.readAt) + 25000 →
  GoesTo (exec .fieldLinkLost s) fun t =>
    t.rd DIO_STATUS.LINK = 0 ∧ t.rd DIO_LINK_LOST_CNT.VALUE = min (s.rd DIO_LINK_LOST_CNT.VALUE + 1) (2 ^ 32 - 1)
    ∧ t.grid.now = max s.grid.now u ∧ t.dio.loss = true ∧ t.dio.cmd = s.dio.cmd ∧ t.dio.drv = s.dio.drv
    ∧ (∀ d < 32, (t.rd DIO_IN_OK.MASK).testBit d = false) ∧ (t.rd HOST_CAUSE.BITS).testBit 3 = true
    ∧ (s.atTime u).Logs t t.grid.now 0x6030 0 0
    ∧ s.Keeps t [.grid, .log, .host, .dio, .pair]
        ([DIO_STATUS.LINK.key 0 0, DIO_LINK_LOST_CNT.VALUE.key 0 0] ++ inKeys ++ logKeys ++ causeKeys)

/-- FIELD_LINK_LOST (R388, R395) at the die, 100 µs after its latest valid frame: it holds its commands and its drivers as they are, LINKHOLD
runs from then, and no input is valid; the logic side declares no loss unless its own frames stopped within one frame of that. -/
def Claim.linkLostHolds : Prop := ∀ s : State, s.up = true → s.dio.link = true →
  s.rd DIO_STATUS.LINK = 0 ∨ s.dio.frameAt ≤ s.dio.readAt + 2000 →
  GoesTo (exec .fieldLinkLost s) fun t =>
    t.dio.link = false ∧ t.dio.lostAt = some (s.dio.frameAt + 25000) ∧ t.dio.cmd = s.dio.cmd ∧ t.dio.drv = s.dio.drv
    ∧ (∀ d < 32, (t.rd DIO_IN_OK.MASK).testBit d = false)
    ∧ (s.rd DIO_STATUS.LINK = 0 ∨ s.dio.frameAt + 2000 < s.dio.readAt →
        t.dio = { s.dio with link := false, lostAt := some (s.dio.frameAt + 25000) } ∧ t.rd DIO_STATUS.LINK = s.rd DIO_STATUS.LINK
        ∧ t.grid.now = max s.grid.now (s.dio.frameAt + 25000) ∧ s.Keeps t [.grid, .dio, .pair] inKeys)

/-- LINKHOLD_EXPIRY (R388): LINKHOLD after the loss every CLOSE and SIGNAL output is off; the commands the die holds stay. -/
def Claim.linkholdSwitchesOff : Prop := ∀ (s : State) (t0 : Nat), s.up = true → s.dio.lostAt = some t0 → s.rd DIO_LINK_CFG.LINKHOLD ≠ 0 →
  s.dio.holdOff = false →
  GoesTo (exec .linkholdExpiry s) fun t =>
    (∀ d < 32, s.dir d = 2 → s.lead d = d → s.cls d ≠ 0 → t.dio.drv.testBit d = false) ∧ t.dio.holdOff = true ∧ t.dio.cmd = s.dio.cmd
    ∧ t.grid.now = max s.grid.now (t0 + s.rd DIO_LINK_CFG.LINKHOLD * 250000) ∧ s.Keeps t [.grid, .dio] outKeys

/-- FIELD_DIE_RESET below 7.5 V (R389): every output off, commands forgotten, configuration lost, gate closed, inputs invalid. -/
def Claim.dieResets : Prop := ∀ (s : State) (t0 : Nat) (mv : BitVec 16), s.up = true → mv.toNat < 7500 → s.dio.reset = false →
  GoesTo (exec (.fieldDieReset t0 mv) s) fun t =>
    t.dio.reset = true ∧ t.dio.cfg = false ∧ t.dio.drv = 0 ∧ t.dio.cmd = 0 ∧ t.dio.claim.assert_ = false ∧ t.dio.claim.gate = false
    ∧ t.rd DIO_STATUS.DIE_OK = 0 ∧ t.dio.mv = mv.toNat ∧ t.dio.link = false ∧ t.rd DIO_DRV.MASK = 0 ∧ t.rd DIO_CLAIM_STATUS.GATE = 0
    ∧ (∀ d < 32, (t.rd DIO_IN_OK.MASK).testBit d = false) ∧ t.grid.now = max s.grid.now t0
    ∧ s.Keeps t [.grid, .dio, .pair] (DIO_STATUS.DIE_OK.key 0 0 :: inKeys ++ outKeys ++ claimKeys)

/-- FIELD_DIE_RESET above 8.5 V again (R389): the die leaves reset, not configured, its supply in the state DROP. -/
def Claim.dieSupplied : Prop := ∀ (s : State) (t0 : Nat) (mv : BitVec 16), s.up = true → 8500 < mv.toNat → s.dio.reset = true →
  GoesTo (exec (.fieldDieReset t0 mv) s) fun t =>
    t.dio = { s.dio with reset := false, uv := 3, mv := mv.toNat } ∧ t.rd DIO_STATUS.UV = 3 ∧ t.grid.now = max s.grid.now t0
    ∧ s.Keeps t [.grid, .host, .dio, .pair] (DIO_STATUS.UV.key 0 0 :: causeKeys)

/-- The state of VFIELD from which a crossing that logs the voltage starts, the state it enters, whether the voltage is beyond the level, the
event (R406). -/
def uvCrossing : Instr → Option (Nat × Nat × Bool × Nat × Nat × Nat)
  | .fieldUvWarn t mv => some (0, 1, decide (mv.toNat < 16000), 0x6020, t, mv.toNat)
  | .fieldUvInval t mv => some (1, 2, decide (mv.toNat < 12000), 0x6022, t, mv.toNat)
  | .fieldUvClear t mv => some (1, 0, decide (16500 < mv.toNat), 0x6021, t, mv.toNat)
  | _ => none

/-- The keys that a change of VFIELD's state may write (R406). -/
def uvKeys : List Nat := [DIO_STATUS.UV.key 0 0] ++ inKeys ++ outKeys ++ causeKeys

/-- FIELD_UV_WARN, FIELD_UV_INVAL, FIELD_UV_CLEAR (R395, R396, R406): the state, the event with the voltage, a device condition; no input is
valid from INVALID on; the commands stay. -/
def Claim.uvCrosses : Prop := ∀ (s : State) (c : Instr) (u v code t0 mv : Nat), uvCrossing c = some (u, v, true, code, t0, mv) →
  s.up = true → s.dio.reset = false → s.dio.uv = u → s.rd DIO_STATUS.UV = u →
  GoesTo (exec c s) fun t =>
    t.dio.uv = v ∧ t.rd DIO_STATUS.UV = v ∧ t.dio.mv = mv ∧ t.dio.cmd = s.dio.cmd ∧ t.grid.now = max s.grid.now t0
    ∧ (v = 2 → ∀ d < 32, (t.rd DIO_IN_OK.MASK).testBit d = false) ∧ (t.rd HOST_CAUSE.BITS).testBit 3 = true
    ∧ (s.atTime t0).Logs t t.grid.now code 0 mv ∧ s.Keeps t [.grid, .log, .host, .dio, .pair] (uvKeys ++ logKeys)

/-- FIELD_UV_INVALID_EXIT (R406): from INVALID to WARN above 12.5 V, without an event. -/
def Claim.uvInvalidLeft : Prop := ∀ (s : State) (t0 : Nat) (mv : BitVec 16), s.up = true → s.dio.reset = false → s.dio.uv = 2 →
  12500 < mv.toNat →
  GoesTo (exec (.fieldUvInvalidExit t0 mv) s) fun t =>
    t.dio.uv = 1 ∧ t.rd DIO_STATUS.UV = 1 ∧ t.dio.mv = mv.toNat ∧ t.dio.cmd = s.dio.cmd ∧ t.grid.now = max s.grid.now t0
    ∧ s.Keeps t [.grid, .host, .dio, .pair] uvKeys

/-- FIELD_UV_DROP (R406, R407): every driver loses its gate drive; the mask of those that were on is kept, counted and logged; the commands
stay. -/
def Claim.uvDrops : Prop := ∀ (s : State) (t0 : Nat) (mv : BitVec 16), s.up = true → s.dio.reset = false → s.dio.uv = 2 → mv.toNat < 9000 →
  GoesTo (exec (.fieldUvDrop t0 mv) s) fun t =>
    t.dio.uv = 3 ∧ t.rd DIO_STATUS.UV = 3 ∧ t.rd DIO_UV_DROP_MASK.MASK = s.dio.drv % 2 ^ 32
    ∧ t.rd DIO_UV_DROP_CNT.VALUE = min (s.rd DIO_UV_DROP_CNT.VALUE + 1) (2 ^ 32 - 1)
    ∧ (∀ d < 32, s.dir d = 2 → s.lead d = d → t.dio.drv.testBit d = false) ∧ t.dio.cmd = s.dio.cmd ∧ t.grid.now = max s.grid.now t0
    ∧ (s.atTime t0).Logs t t.grid.now 0x6023 0 s.dio.drv
    ∧ s.Keeps t [.grid, .log, .host, .dio, .pair]
        ([DIO_UV_DROP_MASK.MASK.key 0 0, DIO_UV_DROP_CNT.VALUE.key 0 0] ++ uvKeys ++ logKeys)

/-- FIELD_UV_RECOVER (R408): above 10.5 V a TRIP output whose command is on, which nothing else holds off, is on at once; the event carries
the commands in force. -/
def Claim.uvRecovers : Prop := ∀ (s : State) (t0 : Nat) (mv : BitVec 16), s.up = true → s.dio.reset = false → s.dio.uv = 3 →
  10500 < mv.toNat →
  GoesTo (exec (.fieldUvRecover t0 mv) s) fun t =>
    t.dio.uv = 2 ∧ t.rd DIO_STATUS.UV = 2 ∧ t.dio.cmd = s.dio.cmd ∧ t.grid.now = max s.grid.now t0
    ∧ (∀ d < 32, s.dir d = 2 → s.lead d = d → s.cls d = 0 → s.dio.cmd.testBit d = true → s.dio.claim.gate = true → s.dio.cfg = true →
        tfind s.dio.shut d = none → s.dio.test.testBit d = false → t.dio.drv.testBit d = true)
    ∧ (s.atTime t0).Logs t t.grid.now 0x6024 0 s.dio.cmd ∧ s.Keeps t [.grid, .log, .host, .dio, .pair] (uvKeys ++ logKeys)

/-- The thresholds of R393: a pad of type 1 reads high from 12.5 V on and low up to 9.5 V, one of type 3 from 8.5 V on and up to 6.0 V, whatever it
read before and wherever the part's own thresholds lie within their 0.5 V; the type that a channel is given selects the pair. -/
def Claim.inputThresholds : Prop := ∀ (d : Nat) (was : Bool) (mv : Nat),
  (12500 ≤ mv → padHigh d 0 was mv = true) ∧ (mv ≤ 9500 → padHigh d 0 was mv = false)
  ∧ (8500 ≤ mv → padHigh d 1 was mv = true) ∧ (mv ≤ 6000 → padHigh d 1 was mv = false)

/-- DIN_CHANGE (R393 to R395) on a pad whose voltage leaves its state as it is, or of an input that is not valid: nothing changes. -/
def Claim.inputUnmoved : Prop := ∀ (s : State) (d : Fin 32) (t0 : Nat) (mv : BitVec 16), s.up = true →
  (s.rd DIO_IN_OK.MASK).testBit d = false ∨ padHigh d (s.rd DIO_CH_CFG.ITYPE d) (s.dio.ival.testBit d) mv.toNat = s.dio.ival.testBit d →
  GoesTo (exec (.dinChange d t0 mv) s) fun t => s.Keeps t [] []

/-- DIN_CHANGE (R393, R394, R423): the pad of an input stands at a voltage that is another state of it. DEB after the first sample of the new
state, or after the swap that changed its timing, the debounced value of a valid input changes, its edges are counted, and with EVT = 1 the event
has the time of that sample. No other input changes. -/
def Claim.inputDebounces : Prop := ∀ (s : State) (d : Fin 32) (t0 u : Nat) (mv : BitVec 16) (lvl : Bool), s.up = true →
  (s.rd DIO_IN_OK.MASK).testBit d = true → lvl = padHigh d (s.rd DIO_CH_CFG.ITYPE d) (s.dio.ival.testBit d) mv.toNat →
  s.dio.ival.testBit d = !lvl → tfind s.dio.ret d = none → u = max t0 (tget 0 s.dio.deb d) →
  GoesTo (exec (.dinChange d t0 mv) s) fun t =>
    (∀ e < 32, (t.rd DIO_IN_VAL.MASK).testBit e = if e = d.val then lvl else s.dio.ival.testBit e)
    ∧ (∀ e < 32, t.dio.ival.testBit e = if e = d.val then lvl else s.dio.ival.testBit e)
    ∧ t.rd DIO_CH_STATUS.IN_VAL d = b2n lvl ∧ t.rd DIO_CH_EDGE_CNT.VALUE d = (s.rd DIO_CH_EDGE_CNT.VALUE d + 1) % 2 ^ 32
    ∧ t.grid.now = max s.grid.now (u + s.rd DIO_CH_CFG.DEB d * 25000)
    ∧ (s.rd DIO_CH_CFG.EVT d = 1 → (s.atTime (u + s.rd DIO_CH_CFG.DEB d * 25000)).Logs t u 0x6001 d (b2n lvl))
    ∧ (s.rd DIO_CH_CFG.EVT d ≠ 1 → t.log = s.log)
    ∧ s.Keeps t [.grid, .log, .dio]
        ([DIO_IN_VAL.MASK.key 0 0, DIO_CH_STATUS.IN_VAL.key d 0, DIO_CH_EDGE_CNT.VALUE.key d 0] ++ logKeys)

/-- WIRE_BREAK (R395, R398, R423): the flag, the fault count, the event, and the input is no longer valid, WBT after the pad fell or after the
swap that changed its timing. -/
def Claim.wireBreaks : Prop := ∀ (s : State) (d : Fin 32) (t0 u : Nat), s.up = true → s.dir d = 1 → s.rd DIO_CH_CFG.WB d = 1 →
  s.dio.wb.testBit d = false → u = max t0 (tget 0 s.dio.deb d) →
  GoesTo (exec (.wireBreak d t0) s) fun t =>
    t.rd DIO_CH_STATUS.WIREBRK d = 1 ∧ t.rd DIO_CH_FAULT_CNT.VALUE d = min (s.rd DIO_CH_FAULT_CNT.VALUE d + 1) (2 ^ 32 - 1)
    ∧ (t.rd DIO_IN_OK.MASK).testBit d = false ∧ t.rd DIO_CH_STATUS.IN_OK d = 0 ∧ t.dio.wb.testBit d = true
    ∧ t.grid.now = max s.grid.now (u + s.rd DIO_CH_CFG.WBT d * 2500000)
    ∧ (s.atTime (u + s.rd DIO_CH_CFG.WBT d * 2500000)).Logs t t.grid.now 0x6002 0 0
    ∧ s.Keeps t [.grid, .log, .dio] ([DIO_CH_STATUS.WIREBRK.key d 0, DIO_CH_FAULT_CNT.VALUE.key d 0] ++ inKeys ++ logKeys)

/-- WIRE_OK (R398, R423): the flag clears and the event is logged. -/
def Claim.wireRestored : Prop := ∀ (s : State) (d : Fin 32) (t0 u : Nat), s.up = true → s.dio.wb.testBit d = true →
  u = max t0 (tget 0 s.dio.deb d) →
  GoesTo (exec (.wireOk d t0) s) fun t =>
    t.rd DIO_CH_STATUS.WIREBRK d = 0 ∧ t.dio.wb.testBit d = false
    ∧ t.grid.now = max s.grid.now (u + s.rd DIO_CH_CFG.WBT d * 2500000)
    ∧ (s.atTime (u + s.rd DIO_CH_CFG.WBT d * 2500000)).Logs t t.grid.now 0x6003 0 0
    ∧ s.Keeps t [.grid, .log, .dio] (DIO_CH_STATUS.WIREBRK.key d 0 :: inKeys ++ logKeys)

/-- OUT_OVERLOAD (R401, R404): once per episode the flag, the count and the event; a thermal shutdown, or any overload of a parallel pair,
switches the output, both halves of a pair, off until it retries. -/
def Claim.outputOverloads : Prop := ∀ (s : State) (d : Fin 32) (l t0 : Nat) (thermal : Bool), s.up = true → s.dir d = 2 → l = s.lead d →
  s.dir l = 2 → s.dio.drv.testBit d = true → s.dio.ovl.testBit d = false →
  GoesTo (exec (.outOverload d t0 thermal) s) fun t =>
    t.rd DIO_CH_STATUS.OVERLOAD d = 1 ∧ t.dio.ovl.testBit d = true ∧ t.rd DIO_CH_OVL_CNT.VALUE d = min (s.rd DIO_CH_OVL_CNT.VALUE d + 1) (2 ^ 32 - 1)
    ∧ (thermal = true ∨ s.par l = true → t.dio.drv.testBit d = false ∧ t.dio.drv.testBit l = false
        ∧ tfind t.dio.shut l = some { at' := t.grid.now + 25000000 })
    ∧ (thermal = false → s.par l = false → t.dio.drv = s.dio.drv ∧ t.dio.lim.testBit d = true)
    ∧ t.grid.now = max s.grid.now t0 ∧ (s.atTime t0).Logs t t.grid.now 0x6010 0 0
    ∧ s.Keeps t [.grid, .log, .dio] ([DIO_CH_STATUS.OVERLOAD.key d 0, DIO_CH_OVL_CNT.VALUE.key d 0] ++ outKeys ++ logKeys)

/-- OUT_OVERLOAD_RETRY (R401): at its time a TRIP output still commanded on, which nothing else holds off, is on again at once. -/
def Claim.overloadRetries : Prop := ∀ (s : State) (d : Fin 32) (x : Shut), s.up = true → tfind s.dio.shut d = some x →
  tfind (terase s.dio.shut d) d = none → s.dio.cmd.testBit d = true →
  GoesTo (exec (.outOverloadRetry d) s) fun t =>
    t.dio.shut = terase s.dio.shut d ∧ t.grid.now = max s.grid.now x.at' ∧ t.dio.cmd = s.dio.cmd
    ∧ (s.dir d = 2 → s.lead d = d.val → s.cls d = 0 → s.dio.claim.gate = true → s.dio.cfg = true → s.dio.reset = false → s.dio.uv < 3 →
        s.dio.test.testBit d = false → t.dio.drv.testBit d = true)
    ∧ s.Keeps t [.grid, .dio] outKeys

/-- OUT_STUCK_HIGH (R402) on an output commanded off whose flag is clear. -/
def Claim.outputSticksHigh : Prop := ∀ (s : State) (d : Fin 32) (t0 : Nat), s.up = true → s.offTest d = true → s.dio.stuck.testBit d = false →
  GoesTo (exec (.outStuckHigh d t0) s) fun t =>
    t.rd DIO_CH_STATUS.STUCK_HIGH d = 1 ∧ t.dio = { s.dio with stuck := setBit s.dio.stuck d true } ∧ t.rd DIO_CH_FAULT_CNT.VALUE d = min (s.rd DIO_CH_FAULT_CNT.VALUE d + 1) (2 ^ 32 - 1)
    ∧ t.grid.now = max s.grid.now t0 ∧ (s.atTime t0).Logs t t.grid.now 0x6011 0 0
    ∧ s.Keeps t [.grid, .log, .dio] ([DIO_CH_STATUS.STUCK_HIGH.key d 0, DIO_CH_FAULT_CNT.VALUE.key d 0] ++ logKeys)

/-- OUT_CONFLICT (R402) on an output commanded off that follows another output `w`. -/
def Claim.outputConflicts : Prop := ∀ (s : State) (d : Fin 32) (w t0 : Nat), s.up = true → s.offTest d = true → w ≠ d.val →
  s.dio.confl.testBit d = false →
  GoesTo (exec (.outConflict d w t0) s) fun t =>
    t.rd DIO_CH_STATUS.CONFLICT d = 1 ∧ t.dio = { s.dio with confl := setBit s.dio.confl d true } ∧ t.rd DIO_CH_CONFLICT.WITH d = w % 32
    ∧ t.rd DIO_CH_FAULT_CNT.VALUE d = min (s.rd DIO_CH_FAULT_CNT.VALUE d + 1) (2 ^ 32 - 1)
    ∧ t.grid.now = max s.grid.now t0 ∧ (s.atTime t0).Logs t t.grid.now 0x6012 0 0
    ∧ s.Keeps t [.grid, .log, .dio]
        ([DIO_CH_STATUS.CONFLICT.key d 0, DIO_CH_CONFLICT.WITH.key d 0, DIO_CH_FAULT_CNT.VALUE.key d 0] ++ logKeys)

/-- OUT_OPEN_LOAD (R403) on an output whose open-load test in its present state is configured and, for the off state, does not pause. -/
def Claim.outputOpens : Prop := ∀ (s : State) (d : Fin 32) (t0 : Nat), s.up = true → s.dir d = 2 → s.dio.openL.testBit d = false →
  (if s.dio.drv.testBit d then s.rd DIO_CH_CFG.ONOL d = 1 else s.rd DIO_CH_CFG.OFFOL d = 1 ∧ s.dio.pad.testBit d = false) →
  GoesTo (exec (.outOpenLoad d t0) s) fun t =>
    t.rd DIO_CH_STATUS.OPEN_LOAD d = 1 ∧ t.dio = { s.dio with openL := setBit s.dio.openL d true } ∧ t.rd DIO_CH_FAULT_CNT.VALUE d = min (s.rd DIO_CH_FAULT_CNT.VALUE d + 1) (2 ^ 32 - 1)
    ∧ t.grid.now = max s.grid.now t0 ∧ (s.atTime t0).Logs t t.grid.now 0x6013 0 0
    ∧ s.Keeps t [.grid, .log, .dio] ([DIO_CH_STATUS.OPEN_LOAD.key d 0, DIO_CH_FAULT_CNT.VALUE.key d 0] ++ logKeys)

/-- OUT_OPEN_LOAD (R403) on an off output whose pad reads high: the test pauses, and nothing changes. -/
def Claim.openLoadPauses : Prop := ∀ (s : State) (d : Fin 32) (t0 : Nat), s.up = true → s.dio.drv.testBit d = false → s.dio.pad.testBit d = true →
  GoesTo (exec (.outOpenLoad d t0) s) fun t => s.Keeps t [] []

/-- OUT_PAR_IMBALANCE (R404) on a parallel pair that is on: the event alone. -/
def Claim.pairImbalanced : Prop := ∀ (s : State) (d : Fin 32) (t0 : Nat), s.up = true → s.par d = true → s.dio.drv.testBit d = true →
  GoesTo (exec (.outParImbalance d t0) s) fun t =>
    t.grid.now = max s.grid.now t0 ∧ (s.atTime t0).Logs t t.grid.now 0x6014 0 0 ∧ s.Keeps t [.grid, .log] logKeys

/-- OUT_DIAG_CLEAR (R402, R403): a flag of the die but for OVERLOAD clears, and the event names its bit. -/
def Claim.diagnosticClears : Prop := ∀ (s : State) (d : Fin 32) (bit : Fin 16) (f : Field) (t0 : Nat), s.up = true → diagField bit = some f →
  bit.val ≠ 10 → (s.dio.diag bit).testBit d = true →
  GoesTo (exec (.outDiagClear d bit t0) s) fun t =>
    t.rd f d = 0 ∧ t.dio = s.dio.setDiag d bit false ∧ t.grid.now = max s.grid.now t0 ∧ (s.atTime t0).Logs t t.grid.now 0x6015 d bit
    ∧ s.Keeps t [.grid, .log, .dio] (f.key d 0 :: logKeys)

/-- OUT_DIAG_CLEAR of OVERLOAD (R401) on an output that is on: it has carried its load for 1 s since it last limited or switched on. -/
def Claim.overloadEnds : Prop := ∀ (s : State) (d : Fin 32) (t0 u : Nat), s.up = true → s.dio.ovl.testBit d = true → s.dio.drv.testBit d = true →
  tfind s.dio.shut (s.lead d) = none → u = max t0 (tget 0 s.dio.ovlAt d + second) →
  GoesTo (exec (.outDiagClear d 10 t0) s) fun t =>
    t.rd DIO_CH_STATUS.OVERLOAD d = 0 ∧ t.dio.ovl.testBit d = false ∧ t.dio.lim.testBit d = false ∧ t.dio.drv = s.dio.drv
    ∧ t.grid.now = max s.grid.now u ∧ (s.atTime u).Logs t t.grid.now 0x6015 d 10
    ∧ s.Keeps t [.grid, .log, .dio] (DIO_CH_STATUS.OVERLOAD.key d 0 :: logKeys)

/-- OUT_DIAG_CLEAR of OVERLOAD (R401) on an output that is off or shut down: it carries no load, and the flag stays. -/
def Claim.overloadStays : Prop := ∀ (s : State) (d : Fin 32) (t0 : Nat), s.up = true →
  s.dio.drv.testBit d = false ∨ (tfind s.dio.shut (s.lead d)).isSome = true →
  GoesTo (exec (.outDiagClear d 10 t0) s) fun t => s.Keeps t [] []

/-- SOFT_START_SLOT (R409, R410) with the drivers supplied and the gate open: the slot is the next multiple of 25,000 units; while no inrush
is in use the first channel of the queue, CLOSE before SIGNAL, is on and leaves the queue. -/
def Claim.softStartSwitches : Prop := ∀ (s : State) (d : Fin 32) (since : Nat), s.up = true → s.dio.uv < 3 → s.dio.claim.gate = true →
  s.cls d = 1 → s.dio.queue.find? (·.1 == d.val) = some (d.val, since) → (∀ e < d.val, s.cls e = 1 → s.dio.queue.find? (·.1 == e) = none) →
  (s.dio.inrush.all fun x => decide (x.2 ≤ s.nextSlot)) = true →
  GoesTo (exec .softStartSlot s) fun t =>
    t.dio.drv.testBit d = true ∧ (t.dio.queue.all fun x => x.1 != d.val) = true ∧ t.dio.slot = s.nextSlot
    ∧ t.grid.now = max s.grid.now s.nextSlot ∧ t.dio.cmd = s.dio.cmd
    ∧ s.Keeps t [.grid, .dio] (DIO_SS_WAIT_MAX.VALUE.key 0 0 :: outKeys)

/-- ALIVE_REFRESH_TIMEOUT (R412): the supervisor's refresh is missing and the contact is off. -/
def Claim.aliveRefreshMissed : Prop := ∀ s : State, s.up = true →
  GoesTo (exec .aliveRefreshTimeout s) fun t =>
    t.dio = { s.dio with health := false } ∧ t.rd DIO_ALIVE.STATE = 0 ∧ t.rd DIO_ALIVE.CAUSE ≠ 0 ∧ s.Keeps t [.dio] []

/-- ALIVE_OUT_OVERLOAD (R412): the contact that was on goes off with CAUSE 8, to retry after 100 ms. -/
def Claim.aliveOverloads : Prop := ∀ (s : State) (t0 : Nat), s.up = true → s.rd DIO_ALIVE.STATE = 1 → s.aliveCause = 0 →
  GoesTo (exec (.aliveOutOverload t0) s) fun t =>
    t.rd DIO_ALIVE.STATE = 0 ∧ t.rd DIO_ALIVE.CAUSE = 8 ∧ t.dio = { s.dio with alOvl := some (max s.grid.now t0 + 25000000) }
    ∧ t.pads.aliveOut = false ∧ t.grid.now = max s.grid.now t0 ∧ s.Keeps t [.grid, .dio] []

/-- ALIVE_OVERLOAD_RETRY (R412): at its time the overload ends. -/
def Claim.aliveRetries : Prop := ∀ (s : State) (t0 : Nat), s.up = true → s.dio.alOvl = some t0 →
  GoesTo (exec .aliveOverloadRetry s) fun t =>
    t.dio = { s.dio with alOvl := none } ∧ t.rd DIO_ALIVE.CAUSE ≠ 8 ∧ t.grid.now = max s.grid.now t0 ∧ s.Keeps t [.grid, .dio] []

/-- TOW_IN_EDGE (R413, R414) of a level that the line has kept for 16 µs, in a unit that uses the towpath: the edge is stamped with the device
time of its first sample and counted; until the unit takes a role nothing else of it changes. -/
def Claim.towEdgeStamped : Prop := ∀ (s : State) (e : LineEdge), s.up = true → s.rd DIO_PAIR_CFG.TOW_EN = 1 → s.pairOn = true →
  e.lvl ≠ s.dio.towIn → 4000 ≤ e.held →
  GoesTo (exec (.towInEdge e) s) fun t =>
    t.rd DIO_TOW_EDGE_LO.VALUE = e.t % 2 ^ 32 ∧ t.rd DIO_TOW_EDGE_HI.VALUE = e.t / 2 ^ 32 % 2 ^ 32
    ∧ t.rd DIO_TOW_EDGE_CNT.VALUE = (s.rd DIO_TOW_EDGE_CNT.VALUE + 1) % 2 ^ 32 ∧ t.rd DIO_TOW_STATUS.IN = b2n e.lvl
    ∧ t.dio.towIn = e.lvl ∧ t.dio.towAt = some e.t ∧ t.dio.towNew = true ∧ t.grid.now = max s.grid.now (e.t + 4000)
    ∧ (s.paired = false → t.dio = { s.dio with towIn := e.lvl, towAt := some e.t, towNew := true }
      ∧ s.Keeps t [.grid, .dio] [DIO_TOW_EDGE_LO.VALUE.key 0 0, DIO_TOW_EDGE_HI.VALUE.key 0 0, DIO_TOW_EDGE_CNT.VALUE.key 0 0,
          DIO_TOW_STATUS.IN.key 0 0, DIO_TOW_STATUS.IN_ACTIVE.key 0 0])

/-- TOW_IN_EDGE (R413, R490) of a level that the line keeps for less than 16 µs, of the level it has, or in a unit that does not use the towpath:
nothing changes. -/
def Claim.towEdgeIgnored : Prop := ∀ (s : State) (e : LineEdge), s.up = true →
  e.held < 4000 ∨ e.lvl = s.dio.towIn ∨ s.rd DIO_PAIR_CFG.TOW_EN = 0 ∨ s.pairOn = false →
  GoesTo (exec (.towInEdge e) s) fun t => s.Keeps t [] []

/-- A rank-0 die in step with its partner, a rank-1 frame having come within 48 µs, has sent its frame of this cycle (R417). -/
def State.claimAnswered (s : State) : Prop := s.dio.claim.own % 2 = 0 ∧ s.inStep = true ∧ s.dio.claim.answered = true

/-- CLAIM_FRAME_TX (R416 to R418, R421): the frame of the die's own word and assert bit is sent, by the timer of a rank-1 die or 1.6 µs after a
rank-1 partner's frame, or by a rank-0 die out of step once the line is idle; the next is due 16 µs later, or, of a rank-0 die whose frame
read back with an error, 24 µs later; the cycle that ends counts towards LINE_OK if it was valid both ways; three in a row in error raise
TX_FAULT. -/
def Claim.claimFrameSent : Prop := ∀ (s : State) (t0 u : Nat) (bad : Bool), s.up = true → s.rd DIO_PAIR_CFG.CLAIM_EN = 1 → s.pairOn = true →
  s.dio.reset = false → ¬ s.claimAnswered →
  u = max (if s.dio.claim.own % 2 = 1 ∨ s.inStep = true then s.grid.now else max s.grid.now t0) s.dio.claim.next →
  GoesTo (exec (.claimFrameTx t0 bad) s) fun t =>
    t.dio.claim = { s.dio.claim with
      sent := claimFrame s.dio.claim.own s.dio.claim.assert_, bad := if bad then s.dio.claim.bad + 1 else 0, got := false, answered := true,
      run := if s.dio.claim.got = true ∧ s.dio.claim.bad = 0 ∧ s.dio.claim.sent ≠ [] then s.dio.claim.run + 1 else 0,
      next := u + (if bad = true ∧ s.dio.claim.own % 2 = 0 then 6000 else 4000) }
    ∧ (bad = true → 2 ≤ s.dio.claim.bad → t.rd DIO_CLAIM_STATUS.TX_FAULT = 1) ∧ t.grid.now = u
    ∧ s.Keeps t [.grid, .dio] [DIO_CLAIM_STATUS.TX_FAULT.key 0 0]

/-- CLAIM_FRAME_TX of a rank-0 die in step that has answered the partner's latest frame (R417): it sends none until the next comes. -/
def Claim.claimFrameAwaits : Prop := ∀ (s : State) (t0 : Nat) (bad : Bool), s.claimAnswered → GoesTo (exec (.claimFrameTx t0 bad) s) fun t => s.Keeps t [] []

/-- CLAIM_FRAME_RX of a whole frame (R417): a rank-0 die sends its own 1.6 µs after that of a rank-1 partner, and a rank-0 partner's moves
nothing. -/
def Claim.claimFramesInStep : Prop := ∀ (s : State) (t0 : Nat) (bits : BitVec 16) (w : Nat) (a : Bool), s.up = true → s.rd DIO_PAIR_CFG.CLAIM_EN = 1 →
  s.pairOn = true → s.dio.reset = false → w < 256 → (bitsLsb 16 bits.toNat).reverse = claimFrame w a →
  GoesTo (exec (.claimFrameRx t0 bits) s) fun t =>
    (w % 2 = 1 → t.dio.claim.answered = false ∧ t.dio.claim.stepAt = some (max s.grid.now t0)
      ∧ t.dio.claim.next = if s.dio.claim.own % 2 = 0 then max s.grid.now t0 + 400 else s.dio.claim.next)
    ∧ (w % 2 = 0 → t.dio.claim.answered = s.dio.claim.answered ∧ t.dio.claim.stepAt = s.dio.claim.stepAt
      ∧ t.dio.claim.next = s.dio.claim.next)

/-- CLAIM_FRAME_RX of a whole frame (R417, R419, R420): the partner's word and assert bit are taken, and the gate is open exactly when the die
asserts and no asserting partner has the higher word; a gate it closes leaves every output off. Until the unit takes a role nothing else
of it changes. -/
def Claim.claimFrameTaken : Prop := ∀ (s : State) (t0 : Nat) (bits : BitVec 16) (w : Nat) (a : Bool), s.up = true →
  s.rd DIO_PAIR_CFG.CLAIM_EN = 1 → s.pairOn = true → s.dio.reset = false → w < 256 → (bitsLsb 16 bits.toNat).reverse = claimFrame w a →
  GoesTo (exec (.claimFrameRx t0 bits) s) fun t =>
    t.dio.claim.pWord = w ∧ t.dio.claim.pAssert = a ∧ t.dio.claim.seen = true ∧ t.dio.claim.pAt = some (max s.grid.now t0)
    ∧ t.dio.claim.got = true ∧ t.dio.claim.gate = (s.dio.claim.assert_ && !(a && claimHigher w s.dio.claim.own))
    ∧ t.rd DIO_CLAIM_STATUS.GATE = b2n t.dio.claim.gate ∧ t.rd DIO_CLAIM_STATUS.PARTNER = w
    ∧ (t.dio.claim.gate = false → ∀ d < 32, s.dir d = 2 → s.lead d = d → t.dio.drv.testBit d = false)
    ∧ (s.dio.claim.gate = true → t.dio.claim.gate = false → s.dio.claim.assert_ = true →
        t.rd DIO_CLAIM_LOST_CNT.VALUE = min (s.rd DIO_CLAIM_LOST_CNT.VALUE + 1) (2 ^ 32 - 1))
    ∧ t.dio.cmd = s.dio.cmd ∧ t.grid.now = max s.grid.now t0 ∧ (s.paired = false → s.Keeps t [.grid, .dio] (outKeys ++ claimKeys))

/-- CLAIM_FRAME_TX and CLAIM_FRAME_RX in a unit that does not use the claim line (R415, R490): nothing changes. -/
def Claim.claimLineUnused : Prop := ∀ (s : State) (t0 : Nat) (bad : Bool) (bits : BitVec 16), s.up = true →
  s.rd DIO_PAIR_CFG.CLAIM_EN = 0 ∨ s.pairOn = false →
  GoesTo (exec (.claimFrameTx t0 bad) s) (fun t => s.Keeps t [] []) ∧ GoesTo (exec (.claimFrameRx t0 bits) s) fun t => s.Keeps t [] []

/-- CLAIM_PARTNER_TIMEOUT (R419): 48 µs after the latest valid partner frame the partner is not seen, and the gate is as the die asserts. -/
def Claim.claimPartnerGone : Prop := ∀ (s : State) (t0 : Nat), s.up = true → s.dio.claim.pAt = some t0 → s.dio.claim.seen = true →
  GoesTo (exec .claimPartnerTimeout s) fun t =>
    t.dio.claim.seen = false ∧ t.dio.claim.gate = s.dio.claim.assert_ ∧ t.rd DIO_CLAIM_STATUS.PARTNER_SEEN = 0
    ∧ t.rd DIO_CLAIM_STATUS.GATE = b2n s.dio.claim.assert_ ∧ t.dio.cmd = s.dio.cmd ∧ t.grid.now = max s.grid.now (t0 + 12000)
    ∧ s.Keeps t [.grid, .dio] (outKeys ++ claimKeys)

/-- CLAIM_LINE_FAIL after three own frames in error (R421). -/
def Claim.claimLineFails : Prop := ∀ s : State, s.up = true → s.rd DIO_CLAIM_STATUS.LINE_OK = 1 → 3 ≤ s.dio.claim.bad →
  GoesTo (exec .claimLineFail s) fun t =>
    t.rd DIO_CLAIM_STATUS.LINE_OK = 0 ∧ t.rd DIO_CLAIM_STATUS.TX_FAULT = 1 ∧ s.Logs t s.grid.now 0x6033 0 0
    ∧ s.Keeps t [.log, .pair] ([DIO_CLAIM_STATUS.LINE_OK.key 0 0, DIO_CLAIM_STATUS.TX_FAULT.key 0 0] ++ logKeys)

/-- CLAIM_LINE_FAIL without partner frames while TOW_IN shows edges (R421): 128 µs after the latest one. -/
def Claim.claimLineSilent : Prop := ∀ (s : State) (t0 e : Nat), s.up = true → s.rd DIO_CLAIM_STATUS.LINE_OK = 1 → s.dio.claim.bad < 3 →
  s.dio.claim.seen = false → s.dio.claim.pAt = some t0 → s.dio.towAt = some e → max s.grid.now (t0 + 32000) ≤ e + 375000 →
  GoesTo (exec .claimLineFail s) fun t =>
    t.rd DIO_CLAIM_STATUS.LINE_OK = 0 ∧ t.grid.now = max s.grid.now (t0 + 32000) ∧ (s.atTime (max s.grid.now (t0 + 32000))).Logs t t.grid.now 0x6033 0 0
    ∧ s.Keeps t [.grid, .log, .pair] (DIO_CLAIM_STATUS.LINE_OK.key 0 0 :: logKeys)

/-- CLAIM_LINE_OK after eight cycles in a row with valid frames both ways (R421). -/
def Claim.claimLineRestored : Prop := ∀ s : State, s.up = true → s.rd DIO_CLAIM_STATUS.LINE_OK = 0 → 8 ≤ s.dio.claim.run →
  GoesTo (exec .claimLineOk s) fun t =>
    t.rd DIO_CLAIM_STATUS.LINE_OK = 1 ∧ t.rd DIO_CLAIM_STATUS.TX_FAULT = 0 ∧ s.Logs t s.grid.now 0x6034 0 0
    ∧ s.Keeps t [.log, .pair] ([DIO_CLAIM_STATUS.LINE_OK.key 0 0, DIO_CLAIM_STATUS.TX_FAULT.key 0 0] ++ logKeys)

/-! ### The redundant pair (R489 to R533) -/

/-- The keys of the mask of reasons and READY (R522). -/
def nrKeys : List Nat := [PAIR_STATUS.NR.key 0 0, PAIR_STATUS.READY.key 0 0]

/-- R501: which claim word is higher, by epochs and ranks, and units of different rank never tie. -/
def Claim.claimOrder : Prop :=
  (∀ eX eY rX rY : Nat, eX < 128 → eY < 128 → rX < 2 → rY < 2 →
    (claimHigher (2 * eX + rX) (2 * eY + rY) = true ↔
      (1 ≤ (eX + 128 - eY) % 128 ∧ (eX + 128 - eY) % 128 ≤ 63)
        ∨ (((eX + 128 - eY) % 128 = 0 ∨ (eX + 128 - eY) % 128 = 64) ∧ rX = 1)))
  ∧ ∀ x y : Nat, x < 256 → y < 256 → x % 2 ≠ y % 2 → claimHigher x y = !claimHigher y x

/-- A frame of a TYPE arrives whole (R491): its lanes have symbol lock, its payload is no longer than 2,048 bytes, its CRC-32C is good. -/
def State.Hears (s : State) (type : Nat) (f : LkFrame) (crc : BitVec 32) : Prop :=
  s.pair.hears = true ∧ f.pay.length ≤ 2048 ∧ crc.toNat = crc32c (f.bytes type)

/-- The frame that leaves with a payload: numbered as the next, under the version in use (R491; log entry 125). -/
def State.outFrame (s : State) (pay : List Byte) : LkFrame := { ver := max 1 s.pair.ver, seq := s.pair.txSeq, pay := pay }

/-- R493, R494: the payloads of a HELLO and of a HEARTBEAT have 22 and 64 bytes, and a field that fits its width is read back from them; the
widths of a HELLO are the model's choice (log entry 125). -/
def Claim.linkPayloads : Prop :=
  (∀ h : Hello, h.vers < 4 → h.rank < 256 → h.serial < 2 ^ 64 → h.fw < 2 ^ 32 → h.dig < 2 ^ 64 → h.bytes.length = 22 ∧ Hello.ofBytes h.bytes = h)
  ∧ ∀ h : Heartbeat, h.role < 8 → h.rank < 2 → h.word < 256 → h.nr < 2 ^ 16 → h.s < 2 ^ 64 → h.e < 2 ^ 64 → h.w < 2 ^ 32 → h.tickN < 2 ^ 64 →
      h.tickAt < 2 ^ 64 → h.snap < 2 ^ 32 → h.dig < 2 ^ 64 → h.inDig < 2 ^ 32 → h.proof < 256 → h.pSeen < 256 → h.code < 256 →
      h.bytes.length = 64 ∧ Heartbeat.ofBytes h.bytes = h

/-- R505: whatever a snapshot holds, its header, the slots of its bays, elements, knots and rows, the system signals, the readback frame, the
slots of its recorders and of its publications are 334,016 bytes. -/
def Claim.snapshotSize : Prop := ∀ x : Snap, x.image.length = 334016

/-- R492, R505: under version 2 a run of 16 or more zero bytes goes as a marker of 4 bytes and a shorter one as it is, so no section grows. -/
def Claim.zeroRunsShrink : Prop := ∀ l : List Byte, (zeroRuns l 0).length ≤ l.length ∧ ∀ n, zeroRuns (List.replicate n 0) 0 = zeroRun n

/-- HELLO_SEND (R492): a unit of a pair that has received none yet says what it offers, and is due again 1 ms later. -/
def Claim.helloIsSent : Prop := ∀ s : State, s.up = true → s.paired = true → s.pair.hello = false →
  GoesTo (exec .helloSend s) fun t =>
    (∃ h, t.pair.sentHello = some h ∧ h.vers = s.rd PAIR_CFG.LKV ∧ h.rank = s.rank ∧ h.dig = s.setDig ∧ h.fw = s.rd ID_FW_VER.VALUE
      ∧ t.pair.sent = some (1, s.outFrame h.bytes))
    ∧ t.pair.txSeq = s.pair.txSeq + 1
    ∧ t.grid.now = max s.grid.now s.pair.helloAt ∧ t.pair.helloAt = t.grid.now + 250000 ∧ s.Keeps t [.grid, .pair] []

/-- HELLO_SEND once a HELLO has been received (R492): none is sent. -/
def Claim.helloStops : Prop := ∀ s : State, s.up = true → s.pair.hello = true → GoesTo (exec .helloSend s) fun t => s.Keeps t [] []

/-- HELLO_RX of a whole frame (R489, R492, R521): the highest version both offer is used, and without one the link stays down; the partner's
digest is shown; the same rank is a conflict; a joining unit has heard its partner. -/
def Claim.helloIsTaken : Prop := ∀ (s : State) (t0 : Nat) (f : LkFrame) (crc : BitVec 32) (h : Hello), s.up = true → s.paired = true →
  s.Hears 1 f crc → f.pay.length = 22 → h = Hello.ofBytes f.pay →
  GoesTo (exec (.helloRx t0 f crc) s) fun t =>
    t.pair.hello = true ∧ t.pair.ver = commonVersion (s.rd PAIR_CFG.LKV) h.vers ∧ t.rd PAIR_STATUS.LKVER = t.pair.ver
    ∧ t.rd PAIR_STATUS.LINK = (if t.pair.ver = 0 ∨ s.pair.lock = false then 0 else 1) ∧ t.rd PAIR_PDIG_LO.VALUE = h.dig % 2 ^ 32
    ∧ t.rd PAIR_PDIG_HI.VALUE = h.dig / 2 ^ 32 % 2 ^ 32 ∧ t.rankConflict = decide (h.rank % 2 = s.rank)
    ∧ (t.rd PAIR_STATUS.NR).testBit 8 = decide (h.rank % 2 = s.rank)
    ∧ (s.role = 1 → t.pair.heardAt = t.grid.now) ∧ t.grid.now = max s.grid.now t0
    ∧ s.Keeps t [.grid, .log, .pair] ([PAIR_STATUS.LKVER.key 0 0, PAIR_STATUS.LINK.key 0 0, PAIR_PDIG_LO.VALUE.key 0 0,
        PAIR_PDIG_HI.VALUE.key 0 0] ++ nrKeys ++ logKeys)

/-- TYPE, frame and CRC of a command that a Lumko frame gives (R493). -/
def lumkoFrame : Instr → Option (Nat × LkFrame × BitVec 32)
  | .helloRx _ f c => some (1, f, c)
  | .heartbeatRx _ f c => some (2, f, c)
  | .snapDataRx _ ver seq pay c => some (3, { ver := ver, seq := seq, pay := pay }, c)
  | .snapEndRx _ h pay c _ => some (4, { toLkHead := h, pay := pay }, c)
  | .handoverRx _ f c => some (5, f, c)
  | _ => none

/-- A HELLO, a heartbeat, a snapshot frame or a handover frame whose CRC fails, that is too long, or that arrives without symbol lock is
discarded (R491). -/
def Claim.badFrameDiscarded : Prop := ∀ (s : State) (c : Instr) (k : Nat) (f : LkFrame) (crc : BitVec 32), s.up = true →
  lumkoFrame c = some (k, f, crc) → ¬ s.Hears k f crc → GoesTo (exec c s) fun t => s.Keeps t [] []

/-- HEARTBEAT_SEND of a unit that does not keep silent (R494, R495): at the next heartbeat instant the frame carries the role, rank, claim
word, mask and the instant, and the towpath changes its level once. -/
def Claim.heartbeatIsSent : Prop := ∀ s : State, s.up = true → s.paired = true → (s.atTime s.nextHeartbeat).silent = false →
  GoesTo (exec .heartbeatSend s) fun t =>
    (∃ h, t.pair.sentHb = some h ∧ h.role = s.role ∧ h.rank = s.rank ∧ h.word = s.rd PAIR_CLAIM.OWN ∧ h.nr = t.rd PAIR_STATUS.NR
      ∧ h.s = t.grid.now ∧ h.assert_ = (s.rd PAIR_CLAIM.ASSERT == 1) ∧ h.dig = s.setDig ∧ t.pair.sent = some (2, s.outFrame h.bytes))
    ∧ t.pair.txSeq = s.pair.txSeq + 1
    ∧ t.dio = { s.dio with tow := !s.dio.tow } ∧ t.grid.now = s.nextHeartbeat ∧ t.pair.hbAt = t.grid.now
    ∧ s.Keeps t [.grid, .log, .dio, .pair] ([PAIR_SNAP_TICK_LO.VALUE.key 0 0, PAIR_SNAP_TICK_HI.VALUE.key 0 0, PAIR_SNAP_CNT.VALUE.key 0 0]
        ++ nrKeys ++ logKeys)

/-- HEARTBEAT_SEND of a unit that keeps silent (R496): neither path carries anything. -/
def Claim.heartbeatWithheld : Prop := ∀ s : State, s.up = true → s.paired = true → (s.atTime s.nextHeartbeat).silent = true →
  GoesTo (exec .heartbeatSend s) fun t => t.pair.sentHb = s.pair.sentHb ∧ t.dio = s.dio ∧ t.grid.now = s.nextHeartbeat

/-- HEARTBEAT_RX of a whole frame, in a unit in STANDBY or ACTIVE under version 2 (R494, R497, R499): the partner's words are shown, the link's
count of misses is 0, detection is armed, and a heartbeat with an echo and a round trip of at most 500 units gives a θ. -/
def Claim.heartbeatIsTaken : Prop := ∀ (s : State) (t0 : Nat) (f : LkFrame) (crc : BitVec 32) (h : Heartbeat), s.up = true →
  s.role = 2 ∨ s.role = 4 → s.rd PAIR_STATUS.LINK = 1 → s.pair.ver = 2 → s.Hears 2 f crc → f.pay.length = 64 → h = Heartbeat.ofBytes f.pay →
  GoesTo (exec (.heartbeatRx t0 f crc) s) fun t =>
    t.pair.hb = some (h, t.grid.now) ∧ t.pair.lk.miss = 0 ∧ t.pair.lk.hb = some t.grid.now ∧ t.rd PAIR_STATUS.DETECT = 1
    ∧ t.rd PAIR_STATUS.PROLE = h.role ∧ t.rd PAIR_STATUS.PREADY = b2n h.ready ∧ t.rd PAIR_CLAIM.PSEEN = h.word
    ∧ t.rankConflict = decide (h.rank = s.rank)
    ∧ t.rd PAIR_PDIG_LO.VALUE = h.dig % 2 ^ 32 ∧ t.rd PAIR_PDIG_HI.VALUE = h.dig / 2 ^ 32 % 2 ^ 32 ∧ t.grid.now = max s.grid.now t0
    ∧ (h.e ≠ 0 → (t.grid.now : Int) - h.e - h.w ≤ 500 → t.pair.thetas
        = (((h.s : Int) + ((t.grid.now : Int) - h.e - h.w) / 2 - t.grid.now) :: s.pair.thetas).take 16)
    ∧ s.Keeps t [.grid, .log, .pair] ([PAIR_STATUS.DETECT.key 0 0, PAIR_STATUS.PROLE.key 0 0, PAIR_STATUS.PREADY.key 0 0, PAIR_CLAIM.PSEEN.key 0 0,
        PAIR_PDIG_LO.VALUE.key 0 0, PAIR_PDIG_HI.VALUE.key 0 0, PAIR_DT_OFS_LO.VALUE.key 0 0, PAIR_DT_OFS_HI.VALUE.key 0 0,
        PAIR_DIV_CNT.VALUE.key 0 0] ++ nrKeys ++ logKeys)

/-- HEARTBEAT_RX of an ACTIVE partner of the other rank, in JOINING (R489, R521): the unit becomes STANDBY and does not assert. -/
def Claim.joinsBehindActive : Prop := ∀ (s : State) (t0 : Nat) (f : LkFrame) (crc : BitVec 32) (h : Heartbeat), s.up = true → s.role = 1 →
  s.rd PAIR_STATUS.LINK = 1 → s.pair.ver = 2 → s.Hears 2 f crc → f.pay.length = 64 → h = Heartbeat.ofBytes f.pay → h.role = 4 → h.rank ≠ s.rank →
  GoesTo (exec (.heartbeatRx t0 f crc) s) fun t =>
    t.role = 2 ∧ t.rd PAIR_CLAIM.ASSERT = 0 ∧ t.rd PAIR_STATUS.HO = 0 ∧ t.pair.standbyAt = t.grid.now ∧ t.grid.now = max s.grid.now t0
    ∧ t.settings = s.settings ∧ t.pending = s.pending ∧ t.OutputsOk

/-- HEARTBEAT_RX of a partner of the same rank, in JOINING (R489): the conflict stands in the mask and the unit joins nothing. -/
def Claim.rankConflictHolds : Prop := ∀ (s : State) (t0 : Nat) (f : LkFrame) (crc : BitVec 32) (h : Heartbeat), s.up = true → s.role = 1 →
  s.rd PAIR_STATUS.LINK = 1 → s.pair.ver = 2 → s.Hears 2 f crc → f.pay.length = 64 → h = Heartbeat.ofBytes f.pay → h.rank = s.rank →
  GoesTo (exec (.heartbeatRx t0 f crc) s) fun t => t.role = 1 ∧ (t.rd PAIR_STATUS.NR).testBit 8 = true ∧ t.rankConflict = true
    ∧ t.rd PAIR_CLAIM.ASSERT = s.rd PAIR_CLAIM.ASSERT ∧ t.pair.heardAt = t.grid.now

/-- The register that counts the misses of a path (R497). -/
def missReg (tow : Bool) : Field := if tow then PAIR_HB_MISS_TOW.VALUE else PAIR_HB_MISS_LK.VALUE

/-- HB_MISS, not the fourth in a row (R497): 520 µs after the path's previous heartbeat or miss one more is counted. -/
def Claim.missCounts : Prop := ∀ (s : State) (tow : Bool) (t0 : Nat), s.up = true → s.paired = true → (s.path tow).at' = some t0 →
  (s.path tow).miss ≠ 3 →
  GoesTo (exec (.hbMiss tow) s) fun t =>
    t.path tow = { s.path tow with at' := some (t0 + 130000), miss := (s.path tow).miss + 1, ok := 0 } ∧ t.path (!tow) = s.path (!tow)
    ∧ t.rd (missReg tow) = min (s.rd (missReg tow) + 1) (2 ^ 32 - 1) ∧ t.grid.now = max s.grid.now (t0 + 130000)
    ∧ s.Keeps t [.grid, .pair] [(missReg tow).key 0 0, PAIR_STATUS.TOW.key 0 0]

/-- HB_MISS, the fourth in a row on one path alone (R497, R498): the alarm and HB_PATH_LOST; the partner is not declared failed. -/
def Claim.missAlarms : Prop := ∀ (s : State) (tow : Bool) (t0 : Nat), s.up = true → s.paired = true → (s.path tow).at' = some t0 →
  (s.path tow).miss = 3 → (s.path (!tow)).miss < 4 →
  GoesTo (exec (.hbMiss tow) s) fun t =>
    (t.path tow).miss = 4 ∧ (t.path tow).alarm = true ∧ t.path (!tow) = s.path (!tow) ∧ t.role = s.role
    ∧ (s.atTime (t0 + 130000)).Logs t t.grid.now 0x8002 (b2n tow) 0
    ∧ s.Keeps t [.grid, .log, .pair] ([(missReg tow).key 0 0, PAIR_STATUS.TOW.key 0 0] ++ logKeys)

/-- HB_MISS, the fourth in a row on the second path, detection armed, in STANDBY (R498, R511): the unit begins the takeover in REPLAY. -/
def Claim.missTakesOver : Prop := ∀ (s : State) (tow : Bool) (t0 : Nat), s.up = true → s.role = 2 → (s.path tow).at' = some t0 →
  (s.path tow).miss = 3 → 4 ≤ (s.path (!tow)).miss → s.rd PAIR_STATUS.DETECT = 1 →
  GoesTo (exec (.hbMiss tow) s) fun t => t.role = 3 ∧ t.pair.replay.isSome = true ∧ t.rd PAIR_STATUS.HO = 0 ∧ t.pwr.prot = true
    ∧ t.settings = s.settings ∧ t.pending = s.pending ∧ t.OutputsOk

/-- The same in ACTIVE (R498, R502): the unit claims again, with a new epoch, and goes on. -/
def Claim.missClaimsAgain : Prop := ∀ (s : State) (tow : Bool) (t0 : Nat), s.up = true → s.role = 4 → (s.path tow).at' = some t0 →
  (s.path tow).miss = 3 → 4 ≤ (s.path (!tow)).miss → s.rd PAIR_STATUS.DETECT = 1 → s.writesHeld = false →
  GoesTo (exec (.hbMiss tow) s) fun t => t.role = 4 ∧ t.rd PAIR_CLAIM.ASSERT = 1
    ∧ t.epoch = nextEpoch s.epoch (if s.pair.word then some (s.rd PAIR_CLAIM.PSEEN / 2) else none)
    ∧ t.rd PAIR_CLAIM.OWN = (2 * t.epoch + s.rank) % 256 ∧ { t.nv with epoch := s.nv.epoch } = s.nv
    ∧ s.Keeps t [.grid, .log, .pair, .nv] ([(missReg tow).key 0 0, PAIR_STATUS.TOW.key 0 0, PAIR_STATUS.HO.key 0 0, PAIR_CLAIM.OWN.key 0 0,
        PAIR_CLAIM.ASSERT.key 0 0] ++ logKeys)

/-- R502: the epoch of a claim. -/
def Claim.epochOfClaim : Prop := ∀ own seen : Nat, own < 128 → seen < 128 →
  nextEpoch own none = (own + 1) % 128
  ∧ nextEpoch own (some seen) = ((if 1 ≤ (seen + 128 - own) % 128 ∧ (seen + 128 - own) % 128 ≤ 64 then seen else own) + 1) % 128

/-- SNAPSHOT of an ACTIVE unit all of whose running bays have completed tick `n`, first after a multiple of 20 ms (R504, R506), some of them ticks
after it too: it is taken of that tick and sent; one still being sent is aborted. -/
def Claim.snapshotTaken : Prop := ∀ (s : State) (n : Nat) (r : TickRec), s.up = true → s.role = 4 → s.runBays ≠ [] → s.doneTick = some n →
  s.pair.doneN = n → s.tickRec n = some r → s.pair.snapAt < s.pair.doneAt / 5000000 →
  GoesTo (exec .snapshot s) fun t =>
    (∃ x, t.pair.snap = some x ∧ x.n = r.n ∧ x.d = r.t / 2 ^ 24 ∧ x.seq = s.pair.seq + 1 ∧ x.dig = s.setDig ∧ x.claim = s.rd PAIR_CLAIM.OWN
      ∧ x.ver = s.pair.ver ∧ t.pair.txSeq = s.pair.txSeq + x.payloads.length)
    ∧ t.pair.seq = s.pair.seq + 1 ∧ t.pair.snapAt = s.pair.doneAt / 5000000 ∧ t.pair.sending = some (s.grid.now + 725000)
    ∧ (s.pair.sending = none → s.Keeps t [.pair] [])
    ∧ (∀ e, s.pair.sending = some e → s.grid.now < e →
        t.rd PAIR_SNAP_DROP_CNT.VALUE = min (s.rd PAIR_SNAP_DROP_CNT.VALUE + 1) (2 ^ 32 - 1)
          ∧ s.Keeps t [.pair] [PAIR_SNAP_DROP_CNT.VALUE.key 0 0])

/-- SNAP_DATA_RX of a whole frame in STANDBY (R493, R506): the piece joins the snapshot being assembled; a frame of another snapshot begins it
anew and counts the old one as discarded. -/
def Claim.snapDataJoins : Prop := ∀ (s : State) (t0 ver seq q off : Nat) (pay : List Byte) (crc : BitVec 32), s.up = true → s.role = 2 →
  s.rd PAIR_STATUS.LINK = 1 → s.Hears 3 { ver := ver, seq := seq, pay := pay } crc → 8 ≤ pay.length → q = leAt pay 0 4 → off = leAt pay 4 4 →
  GoesTo (exec (.snapDataRx t0 ver seq pay crc) s) fun t =>
    (s.pair.asm = none → t.pair.asm = some (q, [(off, pay.drop 8)]))
    ∧ (∀ l, s.pair.asm = some (q, l) → t.pair.asm = some (q, l ++ [(off, pay.drop 8)]))
    ∧ (∀ p l, s.pair.asm = some (p, l) → p ≠ q → t.pair.asm = some (q, [(off, pay.drop 8)])
        ∧ t.rd PAIR_SNAP_DROP_CNT.VALUE = min (s.rd PAIR_SNAP_DROP_CNT.VALUE + 1) (2 ^ 32 - 1))
    ∧ t.grid.now = max s.grid.now t0 ∧ s.Keeps t [.grid, .pair] [PAIR_SNAP_DROP_CNT.VALUE.key 0 0]

/-- SNAP_END_RX of a whole frame in STANDBY with no handover in progress (R507): a good snapshot is kept and shown, any other is discarded and
counted. -/
def Claim.snapEnds : Prop := ∀ (s : State) (t0 : Nat) (h : LkHead) (pay : List Byte) (crc : BitVec 32) (x : Snap), s.up = true → s.role = 2 →
  s.rd PAIR_STATUS.LINK = 1 → s.pair.ho = none → s.Hears 4 { toLkHead := h, pay := pay } crc → pay.length = 12 →
  GoesTo (exec (.snapEndRx t0 h pay crc x) s) fun t =>
    t.pair.asm = none ∧ t.grid.now = max s.grid.now t0
    ∧ ((s.atTime t0).snapGood x pay = true → t.pair.good = some (x, t.grid.now) ∧ t.rd PAIR_SNAP_TICK_LO.VALUE = x.n % 2 ^ 32
        ∧ t.rd PAIR_SNAP_CNT.VALUE = (s.rd PAIR_SNAP_CNT.VALUE + 1) % 2 ^ 32)
    ∧ ((s.atTime t0).snapGood x pay = false → t.pair.good = s.pair.good
        ∧ t.rd PAIR_SNAP_DROP_CNT.VALUE = min (s.rd PAIR_SNAP_DROP_CNT.VALUE + 1) (2 ^ 32 - 1))
    ∧ s.Keeps t [.grid, .log, .pair] ([PAIR_SNAP_TICK_LO.VALUE.key 0 0, PAIR_SNAP_TICK_HI.VALUE.key 0 0, PAIR_SNAP_CNT.VALUE.key 0 0,
        PAIR_SNAP_DROP_CNT.VALUE.key 0 0] ++ nrKeys ++ logKeys)

/-- R507: a snapshot is good only if the bytes assembled are all of it and the CRC-32C of SNAP_END is that of its bytes. -/
def Claim.goodSnapshotIsWhole : Prop := ∀ (s : State) (x : Snap) (pay : List Byte), s.snapGood x pay = true →
  (∃ l, s.pair.asm = some (x.seq, l) ∧ (assemble l).take x.encoded.length = x.encoded) ∧ leAt pay 0 4 = x.seq % 2 ^ 32
  ∧ leAt pay 4 4 = x.encoded.length % 2 ^ 32 ∧ leAt pay 8 4 = crc32c x.image ∧ x.ver = s.pair.ver

/-- HANDOVER_RX of a whole frame under version 2 (R492, R518, R519): a REQUEST to the ACTIVE unit and an OFFER to a READY standby begin a planned
handover, an ABORT to the ACTIVE unit ends it. -/
def Claim.handoverFrameActs : Prop := ∀ (s : State) (t0 : Nat) (f : LkFrame) (crc : BitVec 32), s.up = true → s.rd PAIR_STATUS.LINK = 1 →
  s.pair.ver = 2 → s.Hears 5 f crc →
  (f.pay = [1] → s.role = 4 → s.rd PAIR_STATUS.HO = 0 → GoesTo (exec (.handoverRx t0 f crc) s) fun t =>
    t.rd PAIR_STATUS.HO = 1 ∧ t.pair = { s.pair with hoTick := some s.pair.doneN } ∧ t.grid.now = max s.grid.now t0
      ∧ s.Keeps t [.grid, .pair] [PAIR_STATUS.HO.key 0 0])
  ∧ (f.pay = [2] → s.role = 2 → s.rd PAIR_STATUS.HO = 0 → s.rd PAIR_STATUS.READY = 1 → GoesTo (exec (.handoverRx t0 f crc) s) fun t =>
    t.rd PAIR_STATUS.HO = 1 ∧ t.pair = { s.pair with ho := some (1, max s.grid.now t0), code := 0 } ∧ t.grid.now = max s.grid.now t0
      ∧ s.Keeps t [.grid, .pair] [PAIR_STATUS.HO.key 0 0])
  ∧ (f.pay = [3] → s.role = 4 → GoesTo (exec (.handoverRx t0 f crc) s) fun t =>
    t.rd PAIR_STATUS.HO = 0 ∧ t.pair = { s.pair with hoTick := none, code := 0 } ∧ t.grid.now = max s.grid.now t0
      ∧ s.Keeps t [.grid, .pair] [PAIR_STATUS.HO.key 0 0])

/-- HANDOVER_REQUEST (R520): PAIR_FB_HOLD after it was READY and had passed a proof cycle begun in STANDBY, whatever later cycles do, a rank-1
standby entitled to fail back asks for a handover. -/
def Claim.failbackRequested : Prop := ∀ (s : State) (t0 t1 : Nat), s.up = true → s.role = 2 → s.rank = 1 → s.rd PAIR_CFG.FAILBACK = 1 →
  s.rd PAIR_STATUS.HO = 0 → s.pair.readyAt = some t0 → s.pair.passedAt = some t1 → s.pair.ver = 2 →
  GoesTo (exec .handoverRequest s) fun t =>
    t.rd PAIR_STATUS.HO = 1
    ∧ t.pair = { s.pair with ho := some (2, t.grid.now), code := 0, sentHo := some 1, sent := some (5, s.outFrame [1]), txSeq := s.pair.txSeq + 1 }
    ∧ t.grid.now = max s.grid.now (max t0 t1 + s.rd PAIR_FB_HOLD.VALUE * 250000000) ∧ s.Keeps t [.grid, .pair] [PAIR_STATUS.HO.key 0 0]

/-- HANDOVER_ABORT of a standby (R519): with READY lost at once, otherwise 10 ms after it began, the handover ends and the unit stays STANDBY. -/
def Claim.handoverAborts : Prop := ∀ (s : State) (k t0 : Nat), s.up = true → s.role = 2 → s.pair.ho = some (k, t0) → s.pair.ver = 2 →
  GoesTo (exec .handoverAbort s) fun t =>
    t.rd PAIR_STATUS.HO = 0 ∧ t.role = 2 ∧ t.pair.ho = none ∧ t.pair.replay = none ∧ t.pair.sentHo = some 3
    ∧ t.grid.now = (if s.rd PAIR_STATUS.READY = 0 then s.grid.now else max s.grid.now (t0 + 2500000))
    ∧ t.settings = s.settings ∧ t.pending = s.pending ∧ t.OutputsOk

/-- REPLAY_TICK when the next buffered tick is due, not divergent or in a takeover (R512, R513, R519): one tick more has been replayed. -/
def Claim.replayAdvances : Prop := ∀ (s : State) (p : Replay) (r : TickRec), s.up = true → s.gridCatch.detectors.pair.replay = some p →
  s.gridCatch.detectors.replayDue = some r → s.gridCatch.detectors.divergent r = false ∨ p.src = 0 →
  GoesTo (exec .replayTick s) fun t => (∃ q, t.pair.replay = some q ∧ q.count = p.count + 1 ∧ q.m = p.m ∧ q.src = p.src)
    ∧ t.log.replayed = false ∧ t.settings = s.settings ∧ t.pending = s.pending ∧ t.OutputsOk

/-- REPLAY_CATCH_UP of a takeover with no tick left to replay (R502, R511, R515, R596): the unit claims and is ACTIVE, maintenance mode is
over, and the replayed ticks are shown. -/
def Claim.replayCatchesUp : Prop := ∀ (s : State) (t0 : Nat) (p : Replay), s.up = true → s.role = 3 → s.pair.replay = some p → p.src = 0 →
  s.replayDue = none → s.writesHeld = false →
  GoesTo (exec (.replayCatchUp t0) s) fun t =>
    t.role = 4 ∧ t.rd PAIR_CLAIM.ASSERT = 1 ∧ t.pair.replay = none ∧ t.rd PAIR_STATUS.HO = 0 ∧ t.maint = false
    ∧ t.epoch = nextEpoch s.epoch (if s.pair.word then some (s.rd PAIR_CLAIM.PSEEN / 2) else none)
    ∧ t.rd PAIR_TO_CNT.VALUE = min (s.rd PAIR_TO_CNT.VALUE + 1) (2 ^ 32 - 1) ∧ t.rd PAIR_TO_REPLAY.VALUE = p.count % 2 ^ 32
    ∧ t.settings = s.settings ∧ t.pending = s.pending ∧ t.OutputsOk

/-- JOINING_TIMEOUT without a rank conflict (R502, R521): 20 ms after it entered JOINING or last heard anything the unit claims, is ACTIVE and
its protection is enabled. -/
def Claim.joiningTimesOut : Prop := ∀ s : State, s.up = true → s.role = 1 → s.rankConflict = false → s.writesHeld = false →
  GoesTo (exec .joiningTimeout s) fun t =>
    t.role = 4 ∧ t.rd PAIR_CLAIM.ASSERT = 1 ∧ t.pwr.prot = true
    ∧ t.epoch = nextEpoch s.epoch (if s.pair.word then some (s.rd PAIR_CLAIM.PSEEN / 2) else none)
    ∧ t.grid.now = max s.grid.now (max s.pair.joinAt s.pair.heardAt + 5000000) ∧ t.settings = s.settings ∧ t.pending = s.pending ∧ t.OutputsOk

/-- LUMKO_LOCK_LOST (R491, R507, R522) on a lane that had symbol lock: the link is down, which is reason 0 of the mask, and a snapshot being
assembled is discarded and counted. -/
def Claim.lumkoGoesDown : Prop := ∀ (s : State) (e : LaneEdge), s.up = true → s.paired = true → s.pair.locks.getLsbD e.lane = true →
  GoesTo (exec (.lumkoLockLost e) s) fun t =>
    t.pair.lock = false ∧ t.pair.asm = none ∧ t.rd PAIR_STATUS.LINK = 0 ∧ (t.rd PAIR_STATUS.NR).testBit 0 = true ∧ t.rd PAIR_STATUS.READY = 0
    ∧ (∀ i < 4, t.pair.locks.getLsbD i = (s.pair.locks.getLsbD i && decide (i ≠ e.lane.val)))
    ∧ t.rd PAIR_SNAP_DROP_CNT.VALUE = (if s.pair.asm.isSome then min (s.rd PAIR_SNAP_DROP_CNT.VALUE + 1) (2 ^ 32 - 1)
        else s.rd PAIR_SNAP_DROP_CNT.VALUE)
    ∧ t.grid.now = max s.grid.now e.t
    ∧ s.Keeps t [.grid, .log, .pair] ([PAIR_SNAP_DROP_CNT.VALUE.key 0 0, PAIR_STATUS.LKVER.key 0 0, PAIR_STATUS.LINK.key 0 0] ++ nrKeys ++ logKeys)

/-- LUMKO_LOCK_GAINED (R491, R492): every lane has symbol lock, frames are accepted, a HELLO is due, and the link is up as soon as a version is
agreed. -/
def Claim.lumkoComesUp : Prop := ∀ (s : State) (t0 : Nat), s.up = true → s.paired = true → s.pair.lock = false →
  GoesTo (exec (.lumkoLockGained t0) s) fun t =>
    t.pair.lock = true ∧ t.pair.hears = true ∧ t.pair.helloAt = t.grid.now ∧ t.rd PAIR_STATUS.LINK = (if s.pair.ver = 0 then 0 else 1)
    ∧ t.grid.now = max s.grid.now t0
    ∧ s.Keeps t [.grid, .log, .pair] ([PAIR_STATUS.LKVER.key 0 0, PAIR_STATUS.LINK.key 0 0] ++ nrKeys ++ logKeys)

/-! ### The grid, the tracker, device time (R8 to R54) -/

/-- The reference the tracker takes for the cycle that begins with tick `r`, 0 for none, and the frequency measured on it (R25 to R27). -/
def trackPick (s : State) (r : TickRec) : Nat × Nat :=
  let fp := ((s.tickRec? (r.n - 1)).map (·.freq)).getD s.grid.freq
  let refs : Tab TrackRef := [(0, s.trackRef 0 r.n fp), (1, s.trackRef 1 r.n fp), (2, s.trackRef 2 r.n fp)]
  let new := if r.n / s.np = 0 then 0 else
    pickRef refs (s.rd GRID_STATUS.TRK_REF) (s.rd GRID_TRK_CFG.QUAL) (s.rd GRID_TRK_CFG.REVERT == 1)
  (new, if new = 0 then 0 else ((tget {} refs (new - 1)).fmeas.getD 0).toNat)

/-- GRID_TICK with the grid running, the tracker's last decision taken and no settings swap due (R18, R19, R20, R356): the tick is recorded with
its index, instant and latched inputs, the next one lies one period on, and a channel that is OFF has no sample. -/
def Claim.tickArrives : Prop := ∀ (s u : State) (codes : List (Fin 64 × Codes)), s.up = true → s.rd GRID_STATUS.RUN = 1 →
  u = (if s.grid.nextN % s.np = 0 then s.trackFull else s) → u.trackDue = none →
  (u.beforeTick (codes.map fun x => (x.1.val, x.2)) u.grid.nextT).swapNext = none →
  GoesTo (exec (.gridTick codes) s) fun t =>
    t.grid.nextN = s.grid.nextN + 1 ∧ t.rd GRID_TICK_LO.VALUE = s.grid.nextN % 2 ^ 32 ∧ t.rd GRID_TICK_HI.VALUE = s.grid.nextN / 2 ^ 32 % 2 ^ 32
    ∧ t.rd GRID_CYCLE.VALUE = s.grid.nextN / s.np % 2 ^ 32
    ∧ (∃ r, t.grid.hist.head? = some r ∧ r.n = s.grid.nextN ∧ r.t = u.grid.nextT ∧ r.inp.din = s.rd DIO_IN_VAL.MASK
        ∧ r.inp.dinOk = s.rd DIO_IN_OK.MASK)
    ∧ t.grid.nextT = u.grid.nextT + t.grid.per ∧ t.grid.now = max s.grid.now (u.grid.nextT / 2 ^ 24)
    ∧ (∀ c < 64, s.rd AFE_CH_CFG.MODE c = 0 → t.rd GRID_CH_SSW.SSW c = 0)
    ∧ s.Stays t

/-- The tracker's decision of the cycle that begins with tick `r` is due, and the samples of its references are there (R31). -/
def State.decides (s : State) (r : TickRec) : Prop := s.trackDue = some r ∧ (s.refChans.any fun g => r.wait.contains g) = false

/-- The tick instants follow from the period decided at tick `r` (R18). -/
def State.Paces (s t : State) (r : TickRec) : Prop :=
  t.grid.per = periodOf t.grid.freq s.np ∧ t.grid.nextT = r.t + (t.grid.nextN - r.n) * t.grid.per
  ∧ ∀ x ∈ t.grid.hist, r.n ≤ x.n → x.t = r.t + (x.n - r.n) * t.grid.per ∧ x.freq = t.grid.freq ∧ x.per = t.grid.per

/-- TRACKER_CYCLE with a usable reference (R18, R27, R28), once its samples are there: the tracker is in TRACK on it, the cycle's frequency steps
toward the measured one, and the instants of the ticks of the cycle follow from it. -/
def Claim.trackerTracks : Prop := ∀ (s u v : State) (r : TickRec), s.up = true → u = s.deliver → u.decides r → v = u.asAt r.n →
  (trackPick v r).1 ≠ 0 → u.tickRec? r.n = some r → s.grid.fixed = false →
  GoesTo (exec .trackerCycle s) fun t =>
    t.rd GRID_STATUS.TRK_STATE = 1 ∧ t.rd GRID_STATUS.TRK_REF = (trackPick v r).1 % 4 ∧ t.rd GRID_FREQ_MEAS.VALUE = (trackPick v r).2 % 2 ^ 32
    ∧ t.grid.freq = trackStep (trackPick v r).2 s.grid.freq (v.rd GRID_TRK_CFG.GAIN) (v.rd GRID_TRK_SLEW.VALUE * 1000) v.fnom
    ∧ t.rd GRID_FREQ.VALUE = t.grid.freq % 2 ^ 32 ∧ v.Paces t r
    ∧ t.grid.trkDone = true ∧ t.grid.holdCyc = 0 ∧ t.grid.now = s.grid.now ∧ s.Stays t

/-- TRACKER_CYCLE with a usable reference after the cycle's second tick came (log entry 105): the cycle keeps the frequency and the instants it
has, and the frequency decided is the next cycle's. -/
def Claim.lateDecisionWaits : Prop := ∀ (s u v : State) (r : TickRec), s.up = true → u = s.deliver → u.decides r → v = u.asAt r.n →
  (trackPick v r).1 ≠ 0 → s.grid.fixed = true →
  GoesTo (exec .trackerCycle s) fun t =>
    t.rd GRID_STATUS.TRK_STATE = 1 ∧ t.rd GRID_FREQ_MEAS.VALUE = (trackPick v r).2 % 2 ^ 32
    ∧ t.grid.nextF = some (trackStep (trackPick v r).2 s.grid.freq (v.rd GRID_TRK_CFG.GAIN) (v.rd GRID_TRK_SLEW.VALUE * 1000) v.fnom)
    ∧ t.grid.freq = s.grid.freq ∧ t.grid.per = s.grid.per ∧ t.grid.nextT = s.grid.nextT ∧ t.grid.hist.map (·.t) = s.grid.hist.map (·.t)
    ∧ t.grid.trkDone = true ∧ t.grid.now = s.grid.now ∧ s.Stays t

/-- TRACKER_CYCLE without a usable reference (R29, R30, R32): ACQUIRE runs at the nominal frequency; TRACK goes over to HOLD at the frequency
it has, counted and logged with the tick instant; HOLD keeps it while HOLDMAX has not passed. -/
def Claim.trackerHolds : Prop := ∀ (s u v : State) (r : TickRec), s.up = true → u = s.deliver → u.decides r → v = u.asAt r.n →
  (trackPick v r).1 = 0 → u.tickRec? r.n = some r → s.grid.fixed = false →
  (s.rd GRID_STATUS.TRK_STATE = 0 ∨ s.rd GRID_STATUS.TRK_STATE = 1
    ∨ (s.rd GRID_STATUS.TRK_STATE = 2 ∧ (v.rd GRID_TRK_HOLDMAX.VALUE = 0 ∨ s.grid.holdCyc + 1 < v.rd GRID_TRK_HOLDMAX.VALUE))) →
  GoesTo (exec .trackerCycle s) fun t =>
    (s.rd GRID_STATUS.TRK_STATE = 0 → t.rd GRID_STATUS.TRK_STATE = 0 ∧ t.grid.freq = v.fnom)
    ∧ (s.rd GRID_STATUS.TRK_STATE = 1 → t.rd GRID_STATUS.TRK_STATE = 2 ∧ t.grid.freq = s.grid.freq ∧ t.grid.holdCyc = 0
        ∧ t.rd GRID_HOLD_CNT.VALUE = min (s.rd GRID_HOLD_CNT.VALUE + 1) (2 ^ 32 - 1))
    ∧ (s.rd GRID_STATUS.TRK_STATE = 2 → t.rd GRID_STATUS.TRK_STATE = 2 ∧ t.grid.freq = s.grid.freq ∧ t.grid.holdCyc = s.grid.holdCyc + 1)
    ∧ t.rd GRID_STATUS.TRK_REF = 0 ∧ v.Paces t r ∧ t.grid.trkDone = true ∧ t.grid.now = s.grid.now ∧ s.Stays t

/-- TRK_RAMP_ENTER (R30): after HOLDMAX cycles in HOLD the tracker is in RAMP, and the frequency steps toward nominal. -/
def Claim.trackerRamps : Prop := ∀ (s v : State) (r : TickRec), s.up = true → s.decides r → v = s.asAt r.n → (trackPick v r).1 = 0 →
  s.tickRec? r.n = some r → s.grid.fixed = false →
  s.rd GRID_STATUS.TRK_STATE = 2 → v.rd GRID_TRK_HOLDMAX.VALUE ≠ 0 → v.rd GRID_TRK_HOLDMAX.VALUE ≤ s.grid.holdCyc + 1 →
  GoesTo (exec .trkRampEnter s) fun t =>
    t.rd GRID_STATUS.TRK_STATE = 3 ∧ t.grid.freq = rampStep s.grid.freq v.fnom (v.rd GRID_TRK_SLEW.VALUE * 1000)
    ∧ v.Paces t r ∧ t.grid.now = s.grid.now ∧ s.Stays t

/-- DEVICE_TIME_BOUND (R12): device time passes the next multiple k of 2^28, and MRAM then holds the bound (k + 2) × 2^28 over the older copy,
the bound of the step before beside it; no bound is ever lowered. -/
def Claim.boundIsWritten : Prop := ∀ (s : State) (k : Nat), s.up = true → k = s.grid.now / 2 ^ 28 + 1 →
  GoesTo (exec .deviceTimeBound s) fun t =>
    t.grid.now = k * 2 ^ 28
    ∧ (s.grid.boundV < (k + 2) * 2 ^ 28 → t.grid.bound = { newer := some ((k + 2) * 2 ^ 28), older := some ((k + 1) * 2 ^ 28) })
    ∧ ((k + 2) * 2 ^ 28 ≤ s.grid.boundV → t.grid.bound = s.grid.bound)
    ∧ t.grid = { s.grid with now := t.grid.now, frac := 0, bound := t.grid.bound, delta := t.grid.delta, deltaEnd := t.grid.deltaEnd }
    ∧ s.Keeps t [.grid] []

/-- Device time never passes the bound that MRAM holds (R8, R12): moved on to an instant or by a cycle of the clock, it never goes back and stays
2^28 or more below the bound. -/
def Claim.boundStaysAhead : Prop := ∀ (s : State) (d : Nat), s.grid.now + 2 ^ 28 ≤ s.grid.boundV →
  ((s.atTime d).grid.now = max s.grid.now d ∧ (s.atTime d).grid.now + 2 ^ 28 ≤ (s.atTime d).grid.boundV)
  ∧ (-(2 : Int) ^ 32 ≤ s.grid.delta → s.grid.now ≤ s.clockCycle.grid.now ∧ s.clockCycle.grid.now + 2 ^ 28 ≤ s.clockCycle.grid.boundV)

/-! ### Calibration and diagnosis of the front ends (R94 to R114) -/

/-- The keys of the calibration results and status of the channels of a group. -/
def calKeys (g : Nat) : List Nat :=
  (List.range 16).flatMap fun i => [AFE_CH_CAL_OFS_A.VALUE, AFE_CH_CAL_GAIN_A.VALUE, AFE_CH_CAL_OFS_B32.VALUE, AFE_CH_CAL_GAIN_B32.VALUE,
    AFE_CH_CAL_OFS_B1.VALUE, AFE_CH_CAL_GAIN_B1.VALUE, AFE_CH_CAL_FDLY.VALUE, AFE_CH_STATUS.CAL_FAIL, AFE_CH_STATUS.UNCAL,
    AFE_CH_STATUS.FORCED_WIDE, AFE_CH_STATUS.TWIN_MM].map (·.key (16 * g + i) 0)

/-- The keys written when a SELFCAL ends (R96, R657, R660). -/
def calEndKeys : List Nat := [AFE_STATUS.CAL_BUSY.key 0 0, PWR_STEP_TIME.VALUE.key 6 0, PWR_START.STEP.key 0 0]

/-- SELFCAL_GROUP_START (R95, R97, R101, R103): the next selected group is the one under calibration, from the end of the group before it or the
first tick after acceptance; the test DAC stops, the group's splices start again in WIDE, its words carry SETTLING for the 12 ms and
SELFTEST from 9 to 11 ms, and its checks wait for the settling after it. -/
def Claim.groupCalibrationBegins : Prop := ∀ (s : State) (r : CalRun) (g t0 : Nat) (rest : List Nat), s.up = true → s.afe.cal = some r →
  r.cur = none → r.groups = g :: rest → g < 4 → t0 = (if r.pass ≠ 0 ∨ r.fail ≠ 0 then r.ready else s.firstTickAfter r.ready) →
  GoesTo (exec .selfcalGroupStart s) fun t =>
    (∃ q, t.afe.cal = some q ∧ q.cur = some (g, t0) ∧ q.groups = rest ∧ q.pass = r.pass ∧ q.fail = r.fail)
    ∧ t.rd AFE_STATUS.CAL_GRP = g ∧ t.rd AFE_TDAC_CTRL.RUN = 0
    ∧ (∀ i < 16, ({ flag := bSETTLING, lo := t0 * 2 ^ 32, hi := some ((t0 + 3000000) * 2 ^ 32) } : FlagSpan) ∈ (t.chan (16 * g + i)).spans
      ∧ ({ flag := bSELFTEST, lo := (t0 + 2250000) * 2 ^ 32, hi := some ((t0 + 2750000) * 2 ^ 32) } : FlagSpan) ∈ (t.chan (16 * g + i)).spans
      ∧ (t.chan (16 * g + i)).valFrom = (t0 + 3000000) * 2 ^ 32 + s.settleSpan (16 * g + i)
      ∧ ((t.chan (16 * g + i)).tm < t0 * 2 ^ 32 → t0 * 2 ^ 32 ∈ (t.chan (16 * g + i)).restarts)
      ∧ (t0 * 2 ^ 32 ≤ (t.chan (16 * g + i)).tm → (t.chan (16 * g + i)).st = .wide ∧ (t.chan (16 * g + i)).wA = 64))
    ∧ t.grid.now = max s.grid.now t0
    ∧ s.Keeps t [.grid, .afe] ([AFE_STATUS.CAL_GRP.key 0 0, AFE_TDAC_CTRL.RUN.key 0 0]
        ++ (List.range 16).map fun i => AFE_CH_STATUS.TWIN_MM.key (16 * g + i) 0)

/-- SELFCAL_GROUP_DONE, every result within its limits (R98 to R101): 12 ms after its start the results of the group's 16 channels stand
together, the group counts as calibrated and passed, its channels lose UNCAL and CAL_FAIL. -/
def Claim.groupCalibrationPasses : Prop := ∀ (s : State) (r : CalRun) (g t0 : Nat) (ms : List CalMeas), s.up = true → s.afe.cal = some r →
  r.cur = some (g, t0) → g < 4 → r.badVafe = false → (∀ i < 16, calBad (ms.getD i {}) = false) →
  GoesTo (exec (.selfcalGroupDone ms) s) fun t =>
    (∀ i < 16, t.rdI AFE_CH_CAL_OFS_A.VALUE (16 * g + i) = (ms.getD i {}).ofsA
      ∧ t.rd AFE_CH_CAL_GAIN_A.VALUE (16 * g + i) = gCal 5242880 (ms.getD i {}).spanA
      ∧ t.rdI AFE_CH_CAL_OFS_B32.VALUE (16 * g + i) = (ms.getD i {}).ofsB32
      ∧ t.rd AFE_CH_CAL_GAIN_B32.VALUE (16 * g + i) = gCal 163840 (ms.getD i {}).spanB32
      ∧ t.rdI AFE_CH_CAL_OFS_B1.VALUE (16 * g + i) = (ms.getD i {}).ofsB1
      ∧ t.rd AFE_CH_CAL_GAIN_B1.VALUE (16 * g + i) = gCal 5242880 (ms.getD i {}).spanB1
      ∧ t.rdI AFE_CH_CAL_FDLY.VALUE (16 * g + i) = (ms.getD i {}).fdly
      ∧ t.rd AFE_CH_STATUS.CAL_FAIL (16 * g + i) = 0 ∧ t.rd AFE_CH_STATUS.UNCAL (16 * g + i) = 0
      ∧ (s.rd AFE_CH_STATUS.FORCED_WIDE (16 * g + i) = 1 → t.rd AFE_CH_STATUS.FORCED_WIDE (16 * g + i) = 0))
    ∧ t.rd AFE_CAL_CNT.VALUE = min (s.rd AFE_CAL_CNT.VALUE + 1) (2 ^ 32 - 1) ∧ (t.rd AFE_STATUS.CAL_DONE).testBit g = true
    ∧ (r.groups ≠ [] ∨ r.auxRun ≠ 0 → ∃ q, t.afe.cal = some q ∧ q.cur = none ∧ q.pass = r.pass ||| 2 ^ g ∧ q.fail = r.fail ∧ q.groups = r.groups)
    ∧ (r.groups = [] → r.auxRun = 0 → t.afe.cal = none ∧ t.rd AFE_STATUS.CAL_BUSY = 0)
    ∧ t.grid.now = max s.grid.now (t0 + 3000000)
    ∧ s.Keeps t [.grid, .log, .afe, .pwr]
        ([AFE_CAL_CNT.VALUE.key 0 0, AFE_STATUS.CAL_DONE.key 0 0] ++ calKeys g ++ calEndKeys ++ logKeys)

/-- SELFCAL_GROUP_DONE with a failing channel or a supply that was not good (R99, R100): the group does not count as calibrated, and a failing
channel keeps the results it had and carries CAL_FAIL. -/
def Claim.groupCalibrationFails : Prop := ∀ (s : State) (r : CalRun) (g t0 k : Nat) (ms : List CalMeas), s.up = true → s.afe.cal = some r →
  r.cur = some (g, t0) → g < 4 → k < 16 → r.badVafe = true ∨ calBad (ms.getD k {}) = true →
  GoesTo (exec (.selfcalGroupDone ms) s) fun t =>
    t.rd AFE_CH_STATUS.CAL_FAIL (16 * g + k) = 1 ∧ t.rd AFE_CH_CAL_GAIN_A.VALUE (16 * g + k) = s.rd AFE_CH_CAL_GAIN_A.VALUE (16 * g + k)
    ∧ t.rd AFE_CH_CAL_OFS_A.VALUE (16 * g + k) = s.rd AFE_CH_CAL_OFS_A.VALUE (16 * g + k)
    ∧ t.rd AFE_CH_CAL_FDLY.VALUE (16 * g + k) = s.rd AFE_CH_CAL_FDLY.VALUE (16 * g + k)
    ∧ t.rd AFE_CAL_CNT.VALUE = min (s.rd AFE_CAL_CNT.VALUE + 1) (2 ^ 32 - 1)
    ∧ t.rd AFE_CAL_FAIL_CNT.VALUE = min (s.rd AFE_CAL_FAIL_CNT.VALUE + 1) (2 ^ 32 - 1)
    ∧ t.rd AFE_STATUS.CAL_DONE = s.rd AFE_STATUS.CAL_DONE
    ∧ (r.groups ≠ [] → ∃ q, t.afe.cal = some q ∧ q.cur = none ∧ q.pass = r.pass ∧ q.fail = r.fail ||| 2 ^ g)
    ∧ t.grid.now = max s.grid.now (t0 + 3000000)
    ∧ s.Keeps t [.grid, .log, .afe, .pwr]
        ([AFE_CAL_CNT.VALUE.key 0 0, AFE_CAL_FAIL_CNT.VALUE.key 0 0] ++ calKeys g ++ calEndKeys ++ logKeys)

/-- What a converter's calibration measured lies outside its limits (R145, R146). -/
def auxCalBad (x : AuxCalMeas) : Bool :=
  decide (2 ^ 22 < 200 * ((x.gain : Int) - 2 ^ 22).natAbs) || decide (100 < x.ofs.natAbs) || decide (8 < ((x.lin : Int) - 13107).natAbs)

/-- AUX_CAL_DONE (R145 to R147): 1.2 ms after its start a converter's results stand and its UNCAL clears; results outside the limits change
nothing and set CALFAIL, with the event. -/
def Claim.converterCalibrated : Prop := ∀ (s : State) (r : CalRun) (m : Fin 2) (x : AuxCalMeas) (t0 : Nat), s.up = true → s.afe.cal = some r →
  r.auxStart = some t0 → r.auxRun.testBit m = true →
  GoesTo (exec (.auxCalDone m x) s) fun t =>
    (auxCalBad x = false → t.rdI AUX_CAL_OFS.VALUE m = x.ofs ∧ t.rd AUX_CAL_GAIN.VALUE m = x.gain
        ∧ t.rd (if m = 0 then AUX_STATUS.UNCAL0 else AUX_STATUS.UNCAL1) = 0 ∧ t.rd (if m = 0 then AUX_STATUS.CALFAIL0 else AUX_STATUS.CALFAIL1) = 0)
    ∧ (auxCalBad x = true → t.rd (if m = 0 then AUX_STATUS.CALFAIL0 else AUX_STATUS.CALFAIL1) = 1
        ∧ t.rd AUX_CAL_OFS.VALUE m = s.rd AUX_CAL_OFS.VALUE m ∧ t.rd AUX_CAL_GAIN.VALUE m = s.rd AUX_CAL_GAIN.VALUE m)
    ∧ (t.rd AUX_STATUS.CAL).testBit m = false ∧ t.grid.now = max s.grid.now (t0 + 300000)
    ∧ s.Keeps t [.grid, .log, .afe, .pwr] ([AUX_CAL_OFS.VALUE.key m 0, AUX_CAL_GAIN.VALUE.key m 0, AUX_STATUS.CAL.key 0 0,
        AUX_STATUS.UNCAL0.key 0 0, AUX_STATUS.UNCAL1.key 0 0, AUX_STATUS.CALFAIL0.key 0 0, AUX_STATUS.CALFAIL1.key 0 0] ++ calEndKeys ++ logKeys)

/-- AFE_DIAG_DONE (R86, R110, R111): 10 ms after its start the verdict stands in the result registers and in the channel's status and is logged;
a forced-wide channel found good is fit again, and one whose B alone is faulty works as WIDE_ONLY. -/
def Claim.diagnosisEnds : Prop := ∀ (s : State) (c t0 : Nat) (m : DiagMeas), s.up = true → s.afe.diag = some (c, t0) → c < 64 →
  GoesTo (exec (.afeDiagDone m) s) fun t =>
    t.rd AFE_DIAG_RES.CH = c ∧ t.rd AFE_DIAG_RES.VERDICT = b2n (diagBadA m) + 2 * b2n (diagBadB m) ∧ t.rd AFE_DIAG_RES.DONE = 1
    ∧ t.rd AFE_CH_STATUS.DIAG c = b2n (diagBadA m) + 2 * b2n (diagBadB m) + 1
    ∧ t.rd AFE_DIAG_AERR.VALUE = toBits 32 (worst m.gainA25 m.gainA1) ∧ t.rd AFE_DIAG_BERR.VALUE = toBits 32 (worst m.gainB32 m.gainB1)
    ∧ (s.rd AFE_CH_STATUS.FORCED_WIDE c = 1 → diagBadA m = false → diagBadB m = false → t.rd AFE_CH_STATUS.FORCED_WIDE c = 0)
    ∧ (s.rd AFE_CH_STATUS.FORCED_WIDE c = 1 → diagBadA m = false → diagBadB m = true → (t.chan c).wideOnly = true ∧ (t.chan c).valFail = false)
    ∧ t.afe.diag = none ∧ t.rd AFE_STATUS.DIAG_BUSY = 0 ∧ (∀ d, d ≠ c → t.chan d = s.chan d)
    ∧ t.grid.now = max s.grid.now (t0 + 2500000)
    ∧ (s.atTime (t0 + 2500000)).Logs t t.grid.now 0x1007 0 (b2n (diagBadA m) + 2 * b2n (diagBadB m))
    ∧ s.Keeps t [.grid, .log, .afe] ([AFE_DIAG_RES.CH.key 0 0, AFE_DIAG_RES.VERDICT.key 0 0, AFE_DIAG_RES.DONE.key 0 0,
        AFE_CH_STATUS.DIAG.key c 0, AFE_DIAG_AERR.VALUE.key 0 0, AFE_DIAG_BERR.VALUE.key 0 0, AFE_CH_STATUS.FORCED_WIDE.key c 0,
        AFE_STATUS.DIAG_BUSY.key 0 0] ++ logKeys)

/-- SKEWCAL_DONE (R113, R114): 24 ms after its start each selected channel's S_cal is the delay measured less the chain's and the test bus's, in the
register; all are written together to MRAM over the older copy; the others keep theirs; the end is logged. -/
def Claim.skewCalibrationEnds : Prop := ∀ (s : State) (m t0 : Nat) (meas : List (Fin 64 × Int)), s.up = true → s.afe.skew = some (m, t0) → s.writesHeld = false →
  GoesTo (exec (.skewcalDone meas) s) fun t =>
    (∀ c < 64, m.testBit c = true →
      t.rd AFE_CH_CAL_SKEW.VALUE c
        = toBits 32 ((tfind (meas.map fun x => (x.1.val, x.2)) c).getD 0 - s.dChainOf c (s.activeBank c) - s.rdI ID_AFE_TBUS.VALUE c)
      ∧ tfind (t.nv.afe.skew.good.getD []) c = some (t.rdI AFE_CH_CAL_SKEW.VALUE c))
    ∧ (∀ c < 64, m.testBit c = false → tfind (t.nv.afe.skew.good.getD []) c = some (s.rdI AFE_CH_CAL_SKEW.VALUE c))
    ∧ t.nv.afe.skew.older = s.nv.afe.skew.good ∧ t.nv.afe.store = s.nv.afe.store ∧ { t.nv with afe := s.nv.afe } = s.nv
    ∧ t.afe = { s.afe with skew := none } ∧ t.rd AFE_STATUS.SKEW_BUSY = 0 ∧ t.grid.now = max s.grid.now (t0 + 6000000)
    ∧ (s.atTime (t0 + 6000000)).Logs t t.grid.now 0x1008 0 0
    ∧ s.Keeps t [.grid, .log, .afe, .nv] (AFE_STATUS.SKEW_BUSY.key 0 0
        :: ((maskIdx 64 m).map fun c => AFE_CH_CAL_SKEW.VALUE.key c 0) ++ logKeys)

/-! ### The modulator periods of a channel (R58 to R93, R158 to R187) -/

/-- The keys that the periods of a channel may write. -/
def chanKeys (c : Nat) : List Nat :=
  [AFE_CH_STATUS.WIDE, AFE_CH_STATUS.A_OVL, AFE_CH_STATUS.B_OVL, AFE_CH_STATUS.TWIN_MM, AFE_CH_STATUS.VAL, AFE_CH_STATUS.FORCED_WIDE,
    AFE_CH_CLIP_CNT.VALUE, AFE_CH_MODRST_CNT.VALUE, AFE_CH_VALFAIL_CNT.VALUE, AFE_CH_TWIN_CNT.VALUE, AFE_CH_SWITCH_CNT.VALUE,
    FLT_CH_SYNC_CNT.VALUE, FLT_CH_SAT_CNT.VALUE, FLT_CH_SWAP_CNT.VALUE, FLT_CH_STATUS.SETTLING, FLT_CH_STATUS.ACTIVE, FLT_CH_STATUS.STATE,
    FLT_CH_STATUS.QUEUED, FLT_CH_STATUS.TYPE, FLT_CH_STATUS.A_LOADED, FLT_CH_STATUS.B_LOADED, FLT_CH_FADE.POS, FLT_CH_FADE.LOG2F].map
    (·.key c 0)

/-- The frame of a channel's periods: every other channel stays, of the non-volatile memories only the stored filter banks may change. -/
def chanRuns (s t : State) (c : Nat) : Prop :=
  (∀ d, d ≠ c → t.chan d = s.chan d) ∧ { t.nv with afe := s.nv.afe } = s.nv ∧ t.nv.afe.skew = s.nv.afe.skew
  ∧ s.Keeps t [.grid, .log, .afe, .nv, .pwr] (FLT_STATUS.SYNC_PEND.key 0 0 :: chanKeys c ++ logKeys)

/-- The channel's next period lies before the next tick, and nothing falls due at it: no settings swap, no restart of the splice, no reset. -/
def State.plainPeriod (s : State) (c : Nat) : Bool :=
  decide ((s.chan c).tm < s.runLimit c) && decide (0 < s.modStep) && (s.chan c).sync.isEmpty && (s.chan c).powerUp.isNone
    && (s.chan c).restarts.isEmpty && (s.chan c).chg.isNone

/-- The channel's next validation sample is checked (R103, R86): it has settled after a procedure, carries no SELFTEST, and is not one that a
diagnosis left to work as WIDE_ONLY. -/
def State.validates (s : State) (c : Nat) : Bool :=
  decide ((s.chan c).valFrom ≤ (s.chan c).tm) && !(s.chan c).inSpan bSELFTEST && !(s.chan c).wideOnly

/-- The words that the validation of a channel takes in a period with the codes `x` (R63, R81): that of A, and that of B. -/
def State.valWords (s : State) (c : Nat) (x : Int × Int) : Int × Int :=
  let g32 := s.rd AFE_CH_CFG.MODE c == 2
  let k := { s.chan c with hA := s.wordA c (codeOf x.1) :: (s.chan c).hA, hB := s.wordB c g32 (codeOf x.2) :: (s.chan c).hB }
  (((s.chan c).vA.integ (delayedA k)).comb.2, ((s.chan c).vB.integ (s.delayedB c g32 k)).comb.2)

/-- The fine estimate reaches the up threshold in the period, or B's second code in a row is at full scale (R74). -/
def State.upTrigger (s : State) (c : Nat) (x : Int × Int) : Bool :=
  efReaches (s.rd AFE_SPLICE_UP.VALUE) ((s.wordB c true (codeOf x.2) :: (s.chan c).hB).take 192)
    || (decide (1 ≤ (s.chan c).oB.run) && decide (8 ≤ x.2.natAbs))

/-- SPLICE_FADE_UP (R74, R75): in SPLICE mode the trigger starts the fade toward A with its first step of 4 of 64, counted; no validation
sample falls into the period. -/
def Claim.spliceFadesUp : Prop := ∀ (s : State) (c : Fin 64) (x : Int × Int), s.up = true → s.rd AFE_CH_CFG.MODE c = 2 →
  s.plainPeriod c = true → (s.chan c).vPh < 99 → (s.chan c).st = .fine → s.upTrigger c x = true →
  GoesTo (exec (.spliceFadeUp c [x]) s) fun t =>
    (t.chan c).st = .fadeUp ∧ (t.chan c).wA = 4
    ∧ t.rd AFE_CH_SWITCH_CNT.VALUE c = min (s.rd AFE_CH_SWITCH_CNT.VALUE c + 1) (2 ^ 32 - 1)
    ∧ t.grid.now = max s.grid.now ((t.chan c).tm / 2 ^ 32) ∧ chanRuns s t c

/-- SPLICE_FADE_DOWN (R76, R77): E_w below the down threshold for the hold time starts the fade toward B, except while WIDE is forced. -/
def Claim.spliceFadesDown : Prop := ∀ (s : State) (c : Fin 64) (x : Int × Int), s.up = true → s.rd AFE_CH_CFG.MODE c = 2 →
  s.plainPeriod c = true → (s.chan c).vPh < 99 → (s.chan c).st = .wide → s.rd AFE_CH_STATUS.FORCED_WIDE c = 0 →
  s.rd AFE_SPLICE_HOLD.VALUE * 12500 ≤ (if ewReaches (s.rd AFE_SPLICE_DN.VALUE) ((s.wordA c (codeOf x.1) :: (s.chan c).hA).take 192) then 0
    else (s.chan c).low + 1) →
  GoesTo (exec (.spliceFadeDown c [x]) s) fun t =>
    (t.chan c).st = .fadeDown ∧ (t.chan c).wA = 63 ∧ (t.chan c).low = 0 ∧ t.rd AFE_CH_SWITCH_CNT.VALUE c = s.rd AFE_CH_SWITCH_CNT.VALUE c
    ∧ t.grid.now = max s.grid.now ((t.chan c).tm / 2 ^ 32) ∧ chanRuns s t c

/-- SPLICE_FADE_END (R75, R77): a fade up at full weight is WIDE; a fade down at weight 0 without a trigger is FINE. -/
def Claim.spliceSettles : Prop := ∀ (s : State) (c : Fin 64) (x : Int × Int), s.up = true → s.rd AFE_CH_CFG.MODE c = 2 →
  s.plainPeriod c = true → (s.chan c).vPh < 99 →
  ((s.chan c).st = .fadeUp → 64 ≤ (s.chan c).wA →
    GoesTo (exec (.spliceFadeEnd c [x]) s) fun t => (t.chan c).st = .wide ∧ (t.chan c).wA = 64 ∧ (t.chan c).low = 0 ∧ chanRuns s t c)
  ∧ ((s.chan c).st = .fadeDown → (s.chan c).wA = 0 → s.upTrigger c x = false →
    GoesTo (exec (.spliceFadeEnd c [x]) s) fun t => (t.chan c).st = .fine ∧ (t.chan c).wA = 0 ∧ chanRuns s t c)

/-- SPLICE_VAL_WINDOW_END (R81 to R84): the 1,250th sample closes the window. With 625 samples scored the verdict by the two RMS values sets VAL
and clears or counts the failures; with fewer there is none. The last sample of these windows is not scored. -/
def Claim.validationWindowEnds : Prop := ∀ (s : State) (c : Fin 64) (x : Int × Int), s.up = true → s.rd AFE_CH_CFG.MODE c = 2 →
  s.plainPeriod c = true → s.validates c = true → 99 ≤ (s.chan c).vPh → 1249 ≤ (s.chan c).win.seen → (s.chan c).st ≠ .fine →
  s.rd AFE_CH_STATUS.FORCED_WIDE c = 0 → ((s.chan c).oA.step true (codeOf x.1)).2 = false → (s.chan c).swap = none →
  GoesTo (exec (.spliceValWindowEnd c [x]) s) fun t =>
    (t.chan c).win = {}
    ∧ ((s.chan c).win.scored < 625 → t.rd AFE_CH_STATUS.VAL c = s.rd AFE_CH_STATUS.VAL c ∧ (t.chan c).fails = (s.chan c).fails ∧ t.log = s.log)
    ∧ (625 ≤ (s.chan c).win.scored →
        winPass (s.rd AFE_VAL_CFG.ABS) (s.rd AFE_VAL_CFG.REL) (s.chan c).win.sumD (s.chan c).win.sumR (s.chan c).win.scored = true →
        t.rd AFE_CH_STATUS.VAL c = 1 ∧ (t.chan c).fails = 0 ∧ (t.chan c).valFail = false)
    ∧ (625 ≤ (s.chan c).win.scored →
        winPass (s.rd AFE_VAL_CFG.ABS) (s.rd AFE_VAL_CFG.REL) (s.chan c).win.sumD (s.chan c).win.sumR (s.chan c).win.scored = false →
        t.rd AFE_CH_STATUS.VAL c = 2 ∧ (t.chan c).fails = (s.chan c).fails + 1 ∧ (t.chan c).valFail = true
        ∧ t.rd AFE_CH_VALFAIL_CNT.VALUE c = min (s.rd AFE_CH_VALFAIL_CNT.VALUE c + 1) (2 ^ 32 - 1)
        ∧ t.rd AFE_CH_STATUS.FORCED_WIDE c = b2n (decide (s.rd AFE_VAL_CFG.FAILN ≤ (s.chan c).fails + 1)))
    ∧ t.grid.now = max s.grid.now ((t.chan c).tm / 2 ^ 32) ∧ chanRuns s t c

/-- TWIN_MISMATCH (R89): in TWIN mode the CNT-th sample in a row beyond TOL flags the channel, with the event and the count. -/
def Claim.twinsMismatch : Prop := ∀ (s : State) (c : Fin 64) (x : Int × Int), s.up = true → s.rd AFE_CH_CFG.MODE c = 3 →
  s.plainPeriod c = true → s.validates c = true → 99 ≤ (s.chan c).vPh → s.rd AFE_CH_STATUS.TWIN_MM c = 0 →
  s.rd AFE_TWIN_TOL.TOL * 2 ^ 21 < ((s.valWords c x).1 - (s.valWords c x).2).natAbs → s.rd AFE_TWIN_TOL.CNT ≤ (s.chan c).win.instRun + 1 →
  GoesTo (exec (.twinMismatch c [x]) s) fun t =>
    t.rd AFE_CH_STATUS.TWIN_MM c = 1 ∧ t.rd AFE_CH_TWIN_CNT.VALUE c = min (s.rd AFE_CH_TWIN_CNT.VALUE c + 1) (2 ^ 32 - 1)
    ∧ t.grid.now = max s.grid.now ((t.chan c).tm / 2 ^ 32) ∧ chanRuns s t c

/-- TWIN_WINDOW_END (R88, R89): the 1,250th sample closes the window; a window that passes, in which the instantaneous check did not fail,
clears the flag, and one that does not pass sets it. -/
def Claim.twinWindowEnds : Prop := ∀ (s : State) (c : Fin 64) (x : Int × Int) (d v : Nat), s.up = true → s.rd AFE_CH_CFG.MODE c = 3 →
  s.plainPeriod c = true → s.validates c = true → 99 ≤ (s.chan c).vPh → (s.chan c).win.seen = 1249 → (s.chan c).win.failed = false →
  d = ((s.valWords c x).1 - (s.valWords c x).2).natAbs → v = (s.valWords c x).1.natAbs → d ≤ s.rd AFE_TWIN_TOL.TOL * 2 ^ 21 →
  0 < s.rd AFE_TWIN_TOL.CNT →
  GoesTo (exec (.twinWindowEnd c [x]) s) fun t =>
    (t.chan c).win = {}
    ∧ t.rd AFE_CH_STATUS.TWIN_MM c = b2n (!winPass (s.rd AFE_TWIN_WIN.ABS) (s.rd AFE_TWIN_WIN.REL) ((s.chan c).win.sumD + d * d)
        ((s.chan c).win.sumR + v * v) 1250)
    ∧ t.grid.now = max s.grid.now ((t.chan c).tm / 2 ^ 32) ∧ chanRuns s t c

/-- MOD_RESET (R92): modulator A, its overload detector active for 64 periods, is reset, which takes the next 8 periods, with the event and the
count. -/
def Claim.modulatorResets : Prop := ∀ (s : State) (c : Fin 64) (x : Int × Int), s.up = true → s.rd AFE_CH_CFG.MODE c ≠ 0 →
  s.plainPeriod c = true → (s.chan c).oA.rst = 0 → 63 ≤ (s.chan c).oA.act → 1 ≤ (s.chan c).oA.run → 8 ≤ x.1.natAbs →
  ((s.chan c).oB.step (s.rd AFE_CH_CFG.MODE c == 3) (codeOf x.2)).2 = false →
  GoesTo (exec (.modReset c [x]) s) fun t =>
    (t.chan c).oA = { run := (s.chan c).oA.run + 1, act := 0, rst := 8 } ∧ t.rd AFE_CH_MODRST_CNT.VALUE c = min (s.rd AFE_CH_MODRST_CNT.VALUE c + 1) (2 ^ 32 - 1)
    ∧ t.rd AFE_CH_STATUS.A_OVL c = 1 ∧ t.grid.now = max s.grid.now ((t.chan c).tm / 2 ^ 32) ∧ chanRuns s t c

/-- CLIPPED_ONSET by modulator A's overload detector (R91): two full-scale codes in a row; the words carry CLIPPED and the onset is counted. -/
def Claim.clippingBegins : Prop := ∀ (s : State) (c : Fin 64) (x : Int × Int), s.up = true → s.rd AFE_CH_CFG.MODE c ≠ 0 →
  s.plainPeriod c = true → (s.chan c).clip = false → 1 ≤ (s.chan c).oA.run → 8 ≤ x.1.natAbs →
  GoesTo (exec (.clippedOnset c [x]) s) fun t =>
    (t.chan c).clip = true ∧ t.rd AFE_CH_STATUS.A_OVL c = 1
    ∧ t.rd AFE_CH_CLIP_CNT.VALUE c = min (s.rd AFE_CH_CLIP_CNT.VALUE c + 1) (2 ^ 32 - 1)
    ∧ t.grid.now = max s.grid.now ((t.chan c).tm / 2 ^ 32) ∧ chanRuns s t c

/-- FLT_SYNC_RESET (R158, R173): with the period at the reset instant the chain starts again from cleared histories, counted, and the instant is
served. -/
def Claim.syncResets : Prop := ∀ (s : State) (c : Fin 64) (x : Int × Int) (t0 : Nat), s.up = true → s.rd AFE_CH_CFG.MODE c ≠ 0 →
  (s.chan c).sync = [t0] → t0 ≤ (s.chan c).tm → (s.chan c).tm < s.runLimit c → 0 < s.modStep → (s.chan c).fading = false →
  (s.chan c).chg = none → (s.chan c).powerUp = none →
  GoesTo (exec (.fltSyncReset c [x]) s) fun t =>
    (t.chan c).sync = [] ∧ t.rd FLT_CH_SYNC_CNT.VALUE c = min (s.rd FLT_CH_SYNC_CNT.VALUE c + 1) (2 ^ 32 - 1)
    ∧ (t.chan c).ph = 1 ∧ (t.chan c).uH = [] ∧ (t.chan c).uPh = 0 ∧ (t.chan c).zPh = 0
    ∧ t.grid.now = max s.grid.now ((t.chan c).tm / 2 ^ 32) ∧ chanRuns s t c

/-- The next period of a channel brings exactly one base-rate sample: its decimators stand one before their last place (R161), with an RCODE
that gives one sample for one word of the compensation FIR. -/
def State.baseDue (s : State) (c : Nat) : Bool :=
  decide (rOf (s.rd FLT_CH_CFG.RCODE c) ≤ (s.chan c).ph + 1) && decide (s.rd FLT_CH_CFG.RCODE c ≤ 2)
    && decide ((s.chan c).uPh = 0) && decide ((s.chan c).zPh = 0)

/-- FLT_SWAP_START (R182, R183): at the first base-rate sample at or after its instant a waiting swap begins to fade. -/
def Claim.swapFadeBegins : Prop := ∀ (s : State) (c : Fin 64) (x : Int × Int) (r : SwapReq), s.up = true → s.rd AFE_CH_CFG.MODE c ≠ 0 →
  s.plainPeriod c = true → s.baseDue c = true → (s.chan c).swap = some r → (s.chan c).fading = false → r.fade ≠ 0 →
  s.swapAt r ≤ (s.chan c).tm + s.cycles 1910 →
  GoesTo (exec (.fltSwapStart c [x]) s) fun t =>
    (t.chan c).fading = true ∧ (t.chan c).pos = 1 ∧ t.rd FLT_CH_STATUS.STATE c = 2 ∧ t.rd FLT_CH_FADE.LOG2F c = r.fade % 16
    ∧ t.rd FLT_CH_STATUS.ACTIVE c = s.rd FLT_CH_STATUS.ACTIVE c ∧ t.nv = s.nv
    ∧ t.grid.now = max s.grid.now ((t.chan c).tm / 2 ^ 32) ∧ chanRuns s t c

/-- FLT_SWAP_DONE (R183, R184, R187): the fade's last sample changes the selection, which MRAM keeps, and the queued swap moves up. -/
def Claim.swapCompletes : Prop := ∀ (s : State) (c : Fin 64) (x : Int × Int) (r : SwapReq), s.up = true → s.rd AFE_CH_CFG.MODE c ≠ 0 →
  s.plainPeriod c = true → s.baseDue c = true → (s.chan c).swap = some r → (s.chan c).fading = true → 2 ^ r.fade ≤ (s.chan c).pos + 1 →
  s.rd FLT_CH_STATUS.ACTIVE c ≤ 1 → s.writesHeld = false →
  GoesTo (exec (.fltSwapDone c [x]) s) fun t =>
    t.rd FLT_CH_STATUS.ACTIVE c = 1 - s.rd FLT_CH_STATUS.ACTIVE c ∧ (t.chan c).fading = false ∧ (t.chan c).swap = (s.chan c).queued
    ∧ (t.chan c).queued = none ∧ t.rd FLT_CH_SWAP_CNT.VALUE c = min (s.rd FLT_CH_SWAP_CNT.VALUE c + 1) (2 ^ 32 - 1)
    ∧ (∃ l, t.nv.afe.store = { newer := some l, older := s.nv.afe.store.good }
        ∧ tfind l c = some ((t.chan c).bankA, (t.chan c).bankB, t.rd FLT_CH_STATUS.ACTIVE c))
    ∧ t.grid.now = max s.grid.now ((t.chan c).tm / 2 ^ 32) ∧ chanRuns s t c

/-! ### The housekeeping converters (R117 to R150) -/

/-- The keys of a converter's own status (R125 to R134). -/
def convKeys (m : Nat) : List Nat :=
  [AUX_STATUS.SCAN.key 0 0, AUX_SCAN_STATUS.BUSY.key m 0, AUX_SCAN_STATUS.PEND.key m 0, AUX_SCAN_STATUS.INJ_FULL.key m 0]

/-- What a trigger at `t0` does (R126, R127, R149): a blocked converter counts it, one with a trigger waiting or a scan running counts an
overlap, and otherwise it waits out its delay. -/
def auxFired (s t : State) (m t0 : Nat) : Prop :=
  (s.auxBlocked m = true → t.rd AUX_TRG_BLOCK.VALUE m = min (s.rd AUX_TRG_BLOCK.VALUE m + 1) (2 ^ 32 - 1) ∧ (t.conv m).wait = (s.conv m).wait)
  ∧ (s.auxBlocked m = false → (s.conv m).wait.isSome = true ∨ (s.conv m).scan.isSome = true →
      t.rd AUX_TRG_OVERLAP.VALUE m = min (s.rd AUX_TRG_OVERLAP.VALUE m + 1) (2 ^ 32 - 1) ∧ (t.conv m).wait = (s.conv m).wait)
  ∧ (s.auxBlocked m = false → (s.conv m).wait = none → (s.conv m).scan = none →
      (t.conv m).wait = some (t0 + s.rd AUX_TRG_DELAY.VALUE m) ∧ t.rd AUX_SCAN_STATUS.PEND m = 1)
  ∧ t.conv (1 - m) = s.conv (1 - m) ∧ (t.conv m).scan = (s.conv m).scan

/-- The keys that a trigger may write. -/
def fireKeys (m : Nat) : List Nat := [AUX_TRG_BLOCK.VALUE.key m 0, AUX_TRG_OVERLAP.VALUE.key m 0] ++ convKeys m

/-- AUX_TIMER_TRIGGER (R125): PERIOD microseconds after its latest instant the timer fires. -/
def Claim.timerFires : Prop := ∀ (s : State) (m : Fin 2), s.up = true → s.rd AUX_TRG_CFG.SRC m = 1 → s.rd AUX_TRG_PERIOD.VALUE m ≠ 0 →
  GoesTo (exec (.auxTimerTrigger m) s) fun t =>
    (t.conv m).timer = (s.conv m).timer + s.rd AUX_TRG_PERIOD.VALUE m * 250 ∧ auxFired s t m ((s.conv m).timer + s.rd AUX_TRG_PERIOD.VALUE m * 250)
    ∧ t.grid.now = max s.grid.now ((s.conv m).timer + s.rd AUX_TRG_PERIOD.VALUE m * 250) ∧ s.Keeps t [.grid, .aux] (fireKeys m)

/-- AUX_TICK_TRIGGER (R125): the newest tick fires it when its index leaves PHASE modulo M, once. -/
def Claim.tickFires : Prop := ∀ (s : State) (m : Fin 2) (r : TickRec), s.up = true → s.newest = some r → s.rd AUX_TRG_CFG.SRC m = 2 →
  s.rd AUX_TRG_TICK.VALUE m % 65536 ≠ 0 → r.n % (s.rd AUX_TRG_TICK.VALUE m % 65536) = s.rd AUX_TRG_TICK.VALUE m / 65536 →
  (s.conv m).tickDone ≠ some r.n →
  GoesTo (exec (.auxTickTrigger m) s) fun t =>
    (t.conv m).tickDone = some r.n ∧ auxFired s t m (r.t / 2 ^ 24) ∧ s.Keeps t [.aux] (fireKeys m)

/-- AUX_PULSE_TRIGGER of the configured polarity (R125): a width within the limits fires at the trailing edge, another is counted as
rejected. -/
def Claim.pulseFires : Prop := ∀ (s : State) (m : Fin 2) (t0 width : Nat) (low : Bool), s.up = true → s.rd AUX_TRG_CFG.SRC m = 3 →
  s.rd AUX_TRG_CFG.POL m = b2n low →
  GoesTo (exec (.auxPulseTrigger m t0 width low) s) fun t =>
    (s.rd AUX_TRG_PW.VALUE m % 65536 * 250 ≤ width → width ≤ s.rd AUX_TRG_PW.VALUE m / 65536 * 250 → auxFired s t m t0)
    ∧ (width < s.rd AUX_TRG_PW.VALUE m % 65536 * 250 ∨ s.rd AUX_TRG_PW.VALUE m / 65536 * 250 < width →
        t.rd AUX_TRG_PWREJ.VALUE m = min (s.rd AUX_TRG_PWREJ.VALUE m + 1) (2 ^ 32 - 1) ∧ t.aux = s.aux)
    ∧ t.grid.now = max s.grid.now t0 ∧ s.Keeps t [.grid, .aux] (AUX_TRG_PWREJ.VALUE.key m 0 :: fireKeys m)

/-- AUX_SCAN_START (R124, R126): when the delay expires the scan of the inputs in the mask starts at the next slot that is free. -/
def Claim.scanStarts : Prop := ∀ (s : State) (m : Fin 2) (t0 : Nat), s.up = true → (s.conv m).wait = some t0 →
  GoesTo (exec (.auxScanStart m) s) fun t =>
    (t.conv m).wait = none ∧ t.grid.now = max s.grid.now (max (slotUp t0) (s.conv m).free)
    ∧ (maskIdx 24 (s.rd AUX_SCAN_MASK.MASK m) ≠ [] → (t.conv m).scan = some { left := maskIdx 24 (s.rd AUX_SCAN_MASK.MASK m), first := none }
        ∧ (t.conv m).free = max (slotUp t0) (s.conv m).free ∧ t.rd AUX_SCAN_STATUS.BUSY m = 1)
    ∧ (maskIdx 24 (s.rd AUX_SCAN_MASK.MASK m) = [] → (t.conv m).scan = (s.conv m).scan)
    ∧ t.conv (1 - m.val) = s.conv (1 - m.val) ∧ s.Keeps t [.grid, .aux] (convKeys m)

/-- AUX_CONVERSION (R122, R124, R129 to R131, R137): the corrected code of the scan's next input stands, new, with OVR for one that was not
read; the last one ends the scan with the time of its first. -/
def Claim.scanConverts : Prop := ∀ (s : State) (m : Fin 2) (raw : BitVec 16) (k : Nat) (rest : List Nat) (first : Option Nat), s.up = true →
  s.auxBlocked m = false → (s.conv m).scan = some { left := k :: rest, first := first } → k < 24 →
  GoesTo (exec (.auxConversion m raw) s) fun t =>
    t.rd AUX_RESULT.DATA m k = s.auxCode m k raw.toNat ∧ t.rd AUX_RESULT.VALID m k = 1 ∧ t.rd AUX_RESULT.DUP m k = 0
    ∧ t.rd AUX_RESULT.OVR m k = (s.rd AUX_RESULT.OVR m k ||| s.rd AUX_RESULT.VALID m k) % 2
    ∧ t.rd AUX_RESULT.XQ m k = s.rd AUX_STATUS.XCHK_FAIL % 2
    ∧ t.rd AUX_RESULT.SLOT m k = ((s.scanSlot m).2 - first.getD (s.scanSlot m).2) / 250 % 64
    ∧ (rest ≠ [] → (t.conv m).scan = some { left := rest, first := some (first.getD (s.scanSlot m).2) })
    ∧ (rest = [] → (t.conv m).scan = none ∧ t.rd AUX_SCAN_STATUS.BUSY m = 0 ∧ t.rd AUX_SCAN_CNT.VALUE m = (s.rd AUX_SCAN_CNT.VALUE m + 1) % 2 ^ 32
        ∧ t.rd AUX_SCAN_TS_LO.VALUE m = first.getD (s.scanSlot m).2 % 2 ^ 32)
    ∧ (t.conv m).free = (s.scanSlot m).2 + 250 ∧ t.grid.now = max s.grid.now ((s.scanSlot m).2 + 250)
    ∧ s.Keeps t [.grid, .log, .aux] ([AUX_RESULT.DATA.key m k, AUX_RESULT.VALID.key m k, AUX_RESULT.DUP.key m k, AUX_RESULT.OVR.key m k,
        AUX_RESULT.XQ.key m k, AUX_RESULT.SLOT.key m k, AUX_SCAN_CNT.VALUE.key m 0, AUX_SCAN_TS_LO.VALUE.key m 0, AUX_SCAN_TS_HI.VALUE.key m 0,
        AUX_SCAN_STATUS.ABORT.key m 0] ++ convKeys 0 ++ convKeys 1 ++ logKeys)

/-- AUX_CONVERSION of a scan that calibration or BIST cut short (R149): the conversion in progress completes, the scan ends and is not counted. -/
def Claim.cutScanEnds : Prop := ∀ (s : State) (m : Fin 2) (raw : BitVec 16) (k : Nat) (first : Option Nat), s.up = true →
  (s.conv m).scan = some { left := [k], first := first, cut := true } → k < 24 →
  GoesTo (exec (.auxConversion m raw) s) fun t =>
    t.rd AUX_RESULT.DATA m k = s.auxCode m k raw.toNat ∧ t.rd AUX_RESULT.VALID m k = 1 ∧ (t.conv m).scan = none
    ∧ t.rd AUX_SCAN_CNT.VALUE m = s.rd AUX_SCAN_CNT.VALUE m ∧ t.rd AUX_SCAN_STATUS.ABORT m = s.rd AUX_SCAN_STATUS.ABORT m
    ∧ t.grid.now = max s.grid.now ((s.scanSlot m).2 + 250)

/-- AUX_INJ_CONVERSION (R129, R134, R137): the request whose slot it is, in progress or latched, is converted in its slot, its result stands with
the slot's start; the slot's start has freed the latch, and a request latched since then stays. -/
def Claim.injectedConverts : Prop := ∀ (s : State) (m : Fin 2) (raw : BitVec 16) (k t0 : Nat), s.up = true → s.injNext m = some (k, t0) →
  GoesTo (exec (.auxInjConversion m raw) s) fun t =>
    t.rd AUX_INJ_RESULT.DATA m = s.auxCode m k raw.toNat ∧ t.rd AUX_INJ_RESULT.VALID m = 1 ∧ t.rd AUX_INJ_RESULT.DUP m = 0
    ∧ t.rd AUX_INJ_RESULT.OVR m = (s.rd AUX_INJ_RESULT.OVR m ||| s.rd AUX_INJ_RESULT.VALID m) % 2
    ∧ t.rd AUX_INJ_RESULT.SLOT m = k % 64 ∧ t.rd AUX_INJ_TS_LO.VALUE m = t0 % 2 ^ 32 ∧ t.rd AUX_INJ_TS_HI.VALUE m = t0 / 2 ^ 32 % 2 ^ 32
    ∧ ((s.conv m).injRun = none → (t.conv m).inj = none ∧ (t.conv m).injAt = none ∧ t.rd AUX_SCAN_STATUS.INJ_FULL m = 0)
    ∧ ((s.conv m).injRun ≠ none → (t.conv m).inj = (s.conv m).inj) ∧ (t.conv m).injRun = none ∧ (t.conv m).scan = (s.conv m).scan
    ∧ t.grid.now = max s.grid.now (t0 + 250)
    ∧ s.Keeps t [.grid, .aux] ([AUX_INJ_RESULT.DATA.key m 0, AUX_INJ_RESULT.VALID.key m 0, AUX_INJ_RESULT.DUP.key m 0,
        AUX_INJ_RESULT.OVR.key m 0, AUX_INJ_RESULT.XQ.key m 0, AUX_INJ_RESULT.SLOT.key m 0, AUX_INJ_TS_LO.VALUE.key m 0,
        AUX_INJ_TS_HI.VALUE.key m 0] ++ convKeys m)

/-- The keys that a cross-check may write (R141, R142). -/
def xchkKeys : List Nat :=
  [AUX_XCHK_LAST.VALUE.key 0 0, AUX_XCHK_CNT.VALUE.key 0 0, AUX_STATUS.XCHK_FAIL.key 0 0, AUX_STATUS.XCHK_BLAME.key 0 0] ++ convKeys 0 ++ convKeys 1

/-- AUX_XCHK with both converters free of calibration and BIST, in the slot given to it (R140 to R142): both codes are shown; a difference beyond
the limit is counted, and the N-th in a row sets XCHK_FAIL with the event; an agreement clears the run and XCHK_FAIL. -/
def Claim.crossCheckRuns : Prop := ∀ (s : State) (r0 r1 : BitVec 16) (t0 d0 d1 : Nat), s.up = true → s.rd AUX_XCHK_CFG.EN ≠ 0 →
  s.auxBlocked 0 = false → s.auxBlocked 1 = false → s.aux.xAt = some t0 → d0 = s.auxCode 0 23 r0.toNat → d1 = s.auxCode 1 23 r1.toNat →
  GoesTo (exec (.auxXchk r0 r1) s) fun t =>
    t.rd AUX_XCHK_LAST.VALUE = (d0 + 65536 * d1) % 2 ^ 32 ∧ t.aux.xAt = none ∧ t.grid.now = max s.grid.now (t0 + 250)
    ∧ ((s.xVerdict d0 d1).1 = true → t.rd AUX_XCHK_CNT.VALUE = min (s.rd AUX_XCHK_CNT.VALUE + 1) (2 ^ 32 - 1) ∧ t.aux.xRun = s.aux.xRun + 1)
    ∧ ((s.xVerdict d0 d1).1 = true → max 1 (s.rd AUX_XCHK_CFG.N) ≤ s.aux.xRun + 1 → s.rd AUX_STATUS.XCHK_FAIL = 0 →
        t.rd AUX_STATUS.XCHK_FAIL = 1 ∧ t.rd AUX_STATUS.XCHK_BLAME = (s.xVerdict d0 d1).2
        ∧ (s.atTime (t0 + 250)).Logs t t.grid.now 0x1012 0 ((d0 : Int) - d1).natAbs)
    ∧ ((s.xVerdict d0 d1).1 = false → t.aux.xRun = 0 ∧ (s.rd AUX_STATUS.XCHK_FAIL = 1 → t.rd AUX_STATUS.XCHK_FAIL = 0
        ∧ t.rd AUX_STATUS.XCHK_BLAME = 0 ∧ (s.atTime (t0 + 250)).Logs t t.grid.now 0x1013 0 0))
    ∧ s.Keeps t [.grid, .log, .aux] (xchkKeys ++ logKeys)

/-- AUX_XCHK while a converter is under calibration or BIST (R143): the check is skipped. -/
def Claim.crossCheckSkips : Prop := ∀ (s : State) (r0 r1 : BitVec 16), s.up = true → s.rd AUX_XCHK_CFG.EN ≠ 0 →
  (s.auxBlocked 0 || s.auxBlocked 1) = true →
  GoesTo (exec (.auxXchk r0 r1) s) fun t => t.aux.xLast = s.xNext ∧ t.aux.xAt = none ∧ t.aux.conv = s.aux.conv ∧ t.aux.xRun = s.aux.xRun
    ∧ t.grid.now = max s.grid.now s.xNext ∧ s.Keeps t [.grid, .aux] []

/-! ### The process bus (R198 to R229, R597) -/

/-- A frame that its port takes and passes on: the port takes part, the frame is whole, this node did not originate it, and it needs no
duplicate discard. -/
def State.netSeen (s : State) (h : NetHead) : Prop :=
  s.portOn h.port.val = true ∧ h.bad = false ∧ (s.pbus.net.mode = 2 → h.src ≠ s.ownMac) ∧ (s.pbus.net.mode = 0 ∨ h.red = none) ∧ h.sec = 0

/-- A sampled-value frame is for subscription `k` (R205 to R207). -/
def State.svFor (s : State) (k : Nat) (h : NetHead) : Prop :=
  0x4000 ≤ h.appid ∧ h.appid ≤ 0x7FFF ∧ s.rd PBUS_SV_CFG.EN k = 1 ∧ s.bound (s.bindBank.fld PBUS_SV_CFG.PORT k) h.port.val = true ∧ s.rd PBUS_SV_APPID.APPID k = h.appid
  ∧ s.rd64 PBUS_SV_MAC_LO.VALUE PBUS_SV_MAC_HI.VALUE k = h.dst

/-- SV_FRAME of one ASDU, accepted (R207, R209, R210, R212, R220): the stream is ONLINE, the ASDU is counted and its smpCnt, its source's
revision and its alignment are reported. -/
def Claim.svFrameAccepted : Prop := ∀ (s : State) (f : SvFrame) (k : Nat) (a : SvAsdu), s.up = true → s.netSeen f.hd → k < 256 → s.svFor k f.hd →
  f.asdu = [a] → s.svAccepts k f = true →
  GoesTo (exec (.svFrame f) s) fun t =>
    t.rd PBUS_SV_STATUS.STATE k = 2 ∧ t.rd PBUS_SV_RX_CNT.VALUE k = min (s.rd PBUS_SV_RX_CNT.VALUE k + 1) (2 ^ 32 - 1)
    ∧ t.rd PBUS_SV_LASTCNT.VALUE k = a.smpCnt % 2 ^ 16 ∧ t.rd PBUS_SV_STATUS.UNSYNC k = b2n (!s.svSynced k a.smpSynch)
    ∧ t.rd PBUS_SV_STATUS.REV_B k = b2n (a.confRev != s.rd PBUS_SV_CONFREV_A.VALUE k) ∧ (t.svSub k).seenAt = some (s.rxStamp f.hd)
    ∧ (t.svSub k).rev = some a.confRev ∧ t.rd PBUS_SV_REJ_CNT.VALUE k = s.rd PBUS_SV_REJ_CNT.VALUE k
    ∧ t.rd PBUS_PORT_RX_CNT.VALUE f.hd.port.val = min (s.rd PBUS_PORT_RX_CNT.VALUE f.hd.port.val + 1) (2 ^ 32 - 1)
    ∧ t.nv = s.nv ∧ s.Stays t

/-- SV_FRAME for a subscription whose tests it fails (R207): counted as rejected, and the stream is as it was. -/
def Claim.svFrameRejected : Prop := ∀ (s : State) (f : SvFrame) (k : Nat), s.up = true → s.netSeen f.hd → k < 256 → s.svFor k f.hd →
  s.svAccepts k f = false →
  GoesTo (exec (.svFrame f) s) fun t =>
    t.rd PBUS_SV_REJ_CNT.VALUE k = min (s.rd PBUS_SV_REJ_CNT.VALUE k + 1) (2 ^ 32 - 1) ∧ t.svSub k = s.svSub k
    ∧ t.rd PBUS_SV_STATUS.STATE k = s.rd PBUS_SV_STATUS.STATE k ∧ t.rd PBUS_SV_RX_CNT.VALUE k = s.rd PBUS_SV_RX_CNT.VALUE k
    ∧ t.nv = s.nv ∧ s.Stays t

/-- A bad frame is counted and not seen (R202, R204). -/
def Claim.badFrameCounted : Prop := ∀ (s : State) (f : GooseFrame), s.up = true → s.portOn f.hd.port.val = true → f.hd.bad = true →
  GoesTo (exec (.gooseFrame f) s) fun t =>
    t.rd PBUS_PORT_RX_CNT.VALUE f.hd.port.val = min (s.rd PBUS_PORT_RX_CNT.VALUE f.hd.port.val + 1) (2 ^ 32 - 1)
    ∧ t.rd PBUS_PORT_ERR_CNT.VALUE f.hd.port.val = min (s.rd PBUS_PORT_ERR_CNT.VALUE f.hd.port.val + 1) (2 ^ 32 - 1)
    ∧ t.grid.now = max s.grid.now f.hd.sfd
    ∧ s.Keeps t [.grid] [PBUS_PORT_RX_CNT.VALUE.key f.hd.port.val 0, PBUS_PORT_ERR_CNT.VALUE.key f.hd.port.val 0]

/-- The copy of a frame that came first on the other port is counted and discarded (R201). -/
def Claim.duplicateDiscarded : Prop := ∀ (s : State) (f : GooseFrame) (seq lan t0 : Nat), s.up = true → s.portOn f.hd.port.val = true →
  f.hd.bad = false → s.pbus.net.mode = 2 → f.hd.src ≠ s.ownMac → f.hd.red = some (seq, lan) →
  (f.hd.src, seq, 1 - f.hd.port.val, t0) ∈ s.pbus.net.seen → f.hd.sfd < t0 + 15000000000 →
  GoesTo (exec (.gooseFrame f) s) fun t =>
    t.rd PBUS_PORT_DUP_CNT.VALUE f.hd.port.val = min (s.rd PBUS_PORT_DUP_CNT.VALUE f.hd.port.val + 1) (2 ^ 32 - 1)
    ∧ t.pbus.gs = s.pbus.gs ∧ (∀ p t1, (f.hd.src, seq, p, t1) ∉ t.pbus.net.seen) ∧ t.grid.now = max s.grid.now f.hd.sfd
    ∧ s.Keeps t [.grid, .pbus] [PBUS_PORT_RX_CNT.VALUE.key f.hd.port.val 0, PBUS_PORT_DUP_CNT.VALUE.key f.hd.port.val 0]

/-- A frame that this node originated is taken out of the ring (R201): it is counted at its port and not seen. -/
def Claim.ownFrameRemoved : Prop := ∀ (s : State) (f : GooseFrame), s.up = true → s.portOn f.hd.port.val = true → f.hd.bad = false →
  s.pbus.net.mode = 2 → f.hd.src = s.ownMac →
  GoesTo (exec (.gooseFrame f) s) fun t =>
    t.rd PBUS_PORT_RX_CNT.VALUE f.hd.port.val = min (s.rd PBUS_PORT_RX_CNT.VALUE f.hd.port.val + 1) (2 ^ 32 - 1)
    ∧ t.grid.now = max s.grid.now f.hd.sfd ∧ s.Keeps t [.grid] [PBUS_PORT_RX_CNT.VALUE.key f.hd.port.val 0]

/-- SV_STREAM_LOST (R220): 10 ms after the latest accepted ASDU the stream is LOST, and the event carries that time. -/
def Claim.streamLost : Prop := ∀ (s : State) (k : Fin 256) (t0 : Nat), s.up = true → (s.svSub k.val).seenAt = some t0 →
  s.rd PBUS_SV_STATUS.STATE k.val = 2 →
  GoesTo (exec (.svStreamLost k) s) fun t =>
    t.rd PBUS_SV_STATUS.STATE k.val = 3 ∧ t.grid.now = max s.grid.now (t0 + 2500000)
    ∧ (s.atTime (t0 + 2500000)).Logs t (t0 + 2500000) 0x4010 k.val 0
    ∧ s.Keeps t [.grid, .log] (PBUS_SV_STATUS.STATE.key k.val 0 :: logKeys)

/-- SV_ALIGN_EXPIRY of the one tick that awaits a channel (R218, R219, R49): on the settings of the tick, the tick has the channel's sample
LATE and SUBSTITUTED, which is counted, and awaits it no longer; the tick's status word is shown while the channel is mapped. -/
def Claim.alignmentExpires : Prop := ∀ (s : State) (g : Fin 512) (r : TickRec) (x : Smp), s.up = true → 64 ≤ g.val →
  s.awaited g.val = [r] → s.trackDue = none → x = (s.asAt r.n).mkSample r g.val 0 (bLATE + bSUBST) false →
  GoesTo (exec (.svAlignExpiry g) s) fun t =>
    t.awaited g.val = [] ∧ (tfind s.grid.corr g.val ≠ none → t.rd GRID_CH_SSW.SSW g.val = x.ssw % 2 ^ 16)
    ∧ (∃ r' ∈ t.grid.hist, r'.n = r.n ∧ tget {} r'.smp g.val = x)
    ∧ t.rd PBUS_SV_LATE_CNT.VALUE ((s.asAt r.n).mapSub g.val)
        = min (s.rd PBUS_SV_LATE_CNT.VALUE ((s.asAt r.n).mapSub g.val) + 1) (2 ^ 32 - 1)
    ∧ t.nv = s.nv ∧ s.Stays t

/-- A GOOSE frame is for subscription `i` and passes its tests (R206, R223, R224). -/
def State.gsFor (s : State) (i : Nat) (f : GooseFrame) : Prop :=
  f.hd.appid ≤ 0x3FFF ∧ s.rd PBUS_GS_CFG.EN i = 1 ∧ s.bound (s.bindBank.fld PBUS_GS_CFG.PORT i) f.hd.port.val = true
  ∧ s.rd PBUS_GS_APPID.APPID i = f.hd.appid ∧ gooseMac f.hd.appid = f.hd.dst ∧ s.gsAccepts i f = true ∧ f.ndsCom = false

/-- The GINs of a subscription follow its state and its members (R226). -/
def State.ginsFollow (s : State) (i : Nat) : Prop :=
  ∀ j ∈ s.gins, s.rd PBUS_GIN_MAP.SUB j = i →
    (s.rd PBUS_GIN_OK.VALUE (j / 32)).testBit (j % 32) = (s.ginEval j).isSome
    ∧ ∀ v, s.ginEval j = some v → (s.rd PBUS_GIN_VAL.VALUE (j / 32)).testBit (j % 32) = v

/-- GOOSE_FRAME with a new state, its timeAllowedtoLive not passed (R224, R225, R226): the subscription is ONLINE with the frame's stNum and
members; a stNum that is not the next one is counted, but for a restart. -/
def Claim.gooseTaken : Prop := ∀ (s : State) (f : GooseFrame) (i : Nat), s.up = true → s.netSeen f.hd → i < 1024 → s.gsFor i f →
  f.stNum < 2 ^ 32 → (s.rd PBUS_GS_STATUS.STATE i = 1 ∨ f.stNum ≠ s.rd PBUS_GS_STNUM.VALUE i) →
  (s.rd PBUS_GS_STATUS.STATE i = 2 → s.rxStamp f.hd < (s.gsSub i).seenAt + (s.gsSub i).tal * 250000) →
  GoesTo (exec (.gooseFrame f) s) fun t =>
    t.rd PBUS_GS_STATUS.STATE i = 2 ∧ t.rd PBUS_GS_STNUM.VALUE i = f.stNum
    ∧ t.gsSub i = { seenAt := s.rxStamp f.hd, tal := f.tal, sq := f.sqNum, mem := f.mem }
    ∧ t.rd PBUS_GS_SEQERR_CNT.VALUE i = (if s.rd PBUS_GS_STATUS.STATE i = 1 ∨ (f.stNum = 1 ∧ f.sqNum = 0)
        ∨ f.stNum = (if s.rd PBUS_GS_STNUM.VALUE i = 2 ^ 32 - 1 then 1 else s.rd PBUS_GS_STNUM.VALUE i + 1) then s.rd PBUS_GS_SEQERR_CNT.VALUE i
        else min (s.rd PBUS_GS_SEQERR_CNT.VALUE i + 1) (2 ^ 16 - 1))
    ∧ t.ginsFollow i ∧ t.nv = s.nv ∧ s.Stays t

/-- GOOSE_FRAME repeated or out of order (R224): a frame of the same stNum and no higher sqNum changes nothing in its subscription. -/
def Claim.gooseIgnored : Prop := ∀ (s : State) (f : GooseFrame) (i : Nat), s.up = true → s.netSeen f.hd → i < 1024 → s.gsFor i f →
  s.rd PBUS_GS_STATUS.STATE i = 2 → f.stNum = s.rd PBUS_GS_STNUM.VALUE i → f.sqNum ≤ (s.gsSub i).sq →
  s.rxStamp f.hd < (s.gsSub i).seenAt + (s.gsSub i).tal * 250000 →
  GoesTo (exec (.gooseFrame f) s) fun t =>
    t.rd PBUS_GS_STATUS.STATE i = 2 ∧ t.rd PBUS_GS_STNUM.VALUE i = f.stNum ∧ t.gsSub i = s.gsSub i
    ∧ t.rd PBUS_GS_SEQERR_CNT.VALUE i = s.rd PBUS_GS_SEQERR_CNT.VALUE i ∧ t.nv = s.nv ∧ s.Stays t

/-- GOOSE_TAL_EXPIRED (R225, R226): timeAllowedtoLive after the latest accepted frame the subscription is stale, counted and logged, and
its GINs keep their values but are not valid. -/
def Claim.gooseStale : Prop := ∀ (s : State) (x : Fin 1024) (n : Nat), s.up = true → s.rd PBUS_GS_STATUS.STATE x.val = 2 →
  n = (s.gsSub x.val).seenAt + (s.gsSub x.val).tal * 250000 →
  GoesTo (exec (.gooseTalExpired x) s) fun t =>
    t.rd PBUS_GS_STATUS.STATE x.val = 3 ∧ t.rd PBUS_GS_TAL_CNT.VALUE x.val = min (s.rd PBUS_GS_TAL_CNT.VALUE x.val + 1) (2 ^ 16 - 1)
    ∧ (s.atTime n).Logs t n 0x4020 0 0 ∧ t.grid.now = max s.grid.now n
    ∧ (∀ j ∈ s.gins, s.rd PBUS_GIN_MAP.SUB j = x.val → (t.rd PBUS_GIN_OK.VALUE (j / 32)).testBit (j % 32) = false)
    ∧ s.Keeps t [.grid, .log] ([PBUS_GS_STATUS.STATE.key x.val 0, PBUS_GS_TAL_CNT.VALUE.key x.val 0]
        ++ ((List.range 128).map fun w => PBUS_GIN_OK.VALUE.key w 0) ++ logKeys)

/-- The tick that publication `q` is formed for next (R370). -/
def State.gpNext (s : State) (q : Nat) : Nat := match (s.gpSt q).tick with | some t => t + 1 | none => s.gpDone q - 1

/-- A frame leaves from `s` to `t` as the copies `out` (R200, R201; ports in independent mode: the model's choice, log entry 107): one on each
port that takes part, with the device's MAC address, and in PRP and HSR mode with the next redundancy sequence number. -/
def State.Sends (s t : State) (out : List TxCopy) : Prop :=
  (∀ x ∈ out, x.src = s.ownMac ∧ x.red = (if s.pbus.net.mode = 0 then none else some (s.pbus.net.txSeq, x.port)))
  ∧ out.map (·.port) = [0, 1].filter s.portOn
  ∧ t.pbus.net.txSeq = (if s.pbus.net.mode = 0 then s.pbus.net.txSeq else (s.pbus.net.txSeq + 1) % 65536)

/-- GOOSE_PUBLISH at a tick that changes the publication, or forms its first frame (R200, R201, R227 to R229, R370): the frame, filled into the
template, carries the values with the next stNum, sqNum 0 and the tick's TAI, and repeats after TMIN. -/
def Claim.goosePublished : Prop := ∀ (s : State) (x : Fin 128) (r : TickRec) (d : Int), s.up = true → s.rd PBUS_GP_CFG.EN x.val = 1 →
  s.publishes = true → s.pwr.prot = true → s.gpDone x.val ≠ 0 → s.gpNext x.val < s.gpDone x.val →
  ((s.gpSt x.val).sent = none ∨ s.gpVals x.val (s.gpNext x.val) ≠ (s.gpSt x.val).vals) → s.tickRec? (s.gpNext x.val) = some r →
  s.rd PBUS_GP_STNUM.VALUE x.val < 2 ^ 32 - 1 → d = s.taiOf (r.t / 2 ^ 24) →
  GoesTo (exec (.goosePublish x) s) fun t =>
    ∃ raw out, s.Sends t out ∧ { t.pbus.net with txSeq := s.pbus.net.txSeq } = s.pbus.net
    ∧ raw = gooseFill (s.bank.template x.val) { mac := s.ownMac, st := s.rd PBUS_GP_STNUM.VALUE x.val + 1, sq := 0, tal := 2 * s.rd PBUS_GP_CFG.TMIN x.val, tai := d, tq := s.goTq, vals := s.gpVals x.val (s.gpNext x.val) }
    ∧ t.gpSt x.val = { vals := s.gpVals x.val (s.gpNext x.val), gap := s.rd PBUS_GP_CFG.TMIN x.val, next := some (s.grid.now + s.rd PBUS_GP_CFG.TMIN x.val * 250000), tick := some (s.gpNext x.val), sent := some { st := s.rd PBUS_GP_STNUM.VALUE x.val + 1, sq := 0, tai := d, tq := s.goTq, tal := 2 * s.rd PBUS_GP_CFG.TMIN x.val, vals := s.gpVals x.val (s.gpNext x.val), raw := raw, out := out } }
    ∧ t.rd PBUS_GP_STNUM.VALUE x.val = s.rd PBUS_GP_STNUM.VALUE x.val + 1 ∧ t.rd PBUS_GP_SQNUM.VALUE x.val = 0
    ∧ t.rd PBUS_GP_TX_CNT.VALUE x.val = min (s.rd PBUS_GP_TX_CNT.VALUE x.val + 1) (2 ^ 32 - 1)
    ∧ s.Keeps t [.pbus] [PBUS_GP_STNUM.VALUE.key x.val 0, PBUS_GP_SQNUM.VALUE.key x.val 0, PBUS_GP_TX_CNT.VALUE.key x.val 0]

/-- GOOSE_REPEAT (R228, R229): at its time the frame goes out with the next sqNum, and the interval doubles up to TMAX. -/
def Claim.gooseRepeated : Prop := ∀ (s : State) (x : Fin 128) (t0 : Nat) (f : GpFrame), s.up = true → s.rd PBUS_GP_CFG.EN x.val = 1 →
  s.publishes = true → (s.gpSt x.val).next = some t0 → (s.gpSt x.val).sent = some f → f.sq < 2 ^ 32 - 1 →
  GoesTo (exec (.gooseRepeat x) s) fun t =>
    (∃ raw out, s.Sends t out
      ∧ raw = gooseFill (s.bank.template x.val) { mac := s.ownMac, st := f.st, sq := f.sq + 1, tal := 2 * (t.gpSt x.val).gap, tai := f.tai, tq := s.goTq, vals := (s.gpSt x.val).vals }
      ∧ (t.gpSt x.val).sent = some { f with sq := f.sq + 1, tq := s.goTq, tal := 2 * (t.gpSt x.val).gap, vals := (s.gpSt x.val).vals, raw := raw, out := out })
    ∧ (t.gpSt x.val).gap = min (2 * (s.gpSt x.val).gap) (s.rd PBUS_GP_CFG.TMAX x.val * 100)
    ∧ (t.gpSt x.val).next = some (t.grid.now + (t.gpSt x.val).gap * 250000) ∧ t.rd PBUS_GP_SQNUM.VALUE x.val = f.sq + 1
    ∧ t.rd PBUS_GP_TX_CNT.VALUE x.val = min (s.rd PBUS_GP_TX_CNT.VALUE x.val + 1) (2 ^ 32 - 1) ∧ t.grid.now = max s.grid.now t0
    ∧ s.Keeps t [.grid, .pbus] [PBUS_GP_STNUM.VALUE.key x.val 0, PBUS_GP_SQNUM.VALUE.key x.val 0, PBUS_GP_TX_CNT.VALUE.key x.val 0]

/-- HSR_FORWARD (R201, R237): in HSR mode a ring frame of another node goes on to the other port; to the correctionField of a PTP event
message, in 2^-16 ns, the 4 ns of each unit of device time between its coming and its leaving are added. -/
def Claim.ringForwards : Prop := ∀ (s : State) (p : Fin 2) (f : RingFrame), s.up = true → s.pbus.net.mode = 2 → s.portOn p.val = true →
  s.portOn (1 - p.val) = true → f.src.toNat ≠ s.ownMac →
  GoesTo (exec (.hsrForward p f) s) fun t =>
    (∃ c, t.pbus.net = { s.pbus.net with fwd := some (1 - p.val, f.src.toNat, c) } ∧ (f.ev = none → c = none)
      ∧ ∀ c0 a b, f.ev = some (c0, a, b) → c = some (c0 + 4 * ((b : Int) - a) * 2 ^ 16))
    ∧ s.Keeps t [.pbus] []

/-- PRP_SUPERVISION_SEND (R200, R201): the frame goes out at its time on the ports and the next one SUPINT later. -/
def Claim.supervisionSent : Prop := ∀ s : State, s.up = true → s.pbus.net.mode ≠ 0 →
  GoesTo (exec .prpSupervisionSend s) fun t =>
    (∃ out, s.Sends t out
      ∧ t.pbus.net = { s.pbus.net with supNext := max s.grid.now s.pbus.net.supNext + s.rd PBUS_NET_CFG.SUPINT * 25000000, supSent := s.pbus.net.supSent + 1, supOut := out, txSeq := (s.pbus.net.txSeq + 1) % 65536 })
    ∧ t.grid.now = max s.grid.now s.pbus.net.supNext ∧ s.Keeps t [.grid, .pbus] []

/-- PRP_SUPERVISION_RX (R201): the node is in the table with the frame's time; a full table of 512 takes no further node. -/
def Claim.supervisionTaken : Prop := ∀ (s : State) (h : NetHead), s.up = true → s.pbus.net.mode ≠ 0 → s.portOn h.port.val = true → h.bad = false →
  h.red = none → (s.pbus.net.mode = 2 → h.src ≠ s.ownMac) →
  GoesTo (exec (.prpSupervisionRx h) s) fun t =>
    (s.pbus.net.nodes.length < 512 → (h.src, h.sfd) ∈ t.pbus.net.nodes)
    ∧ (∀ x, x.1 ≠ h.src → (x ∈ t.pbus.net.nodes ↔ x ∈ s.pbus.net.nodes)) ∧ t.grid.now = max s.grid.now h.sfd
    ∧ t.rd PBUS_PORT_RX_CNT.VALUE h.port.val = min (s.rd PBUS_PORT_RX_CNT.VALUE h.port.val + 1) (2 ^ 32 - 1)
    ∧ s.Keeps t [.grid, .pbus] [PBUS_PORT_RX_CNT.VALUE.key h.port.val 0]

/-- NODE_FORGET_TIME (R201): 60 s after its latest refresh the oldest node is forgotten. -/
def Claim.nodeForgotten : Prop := ∀ (s : State) (l : List (Nat × Nat)) (m t0 : Nat), s.up = true → s.pbus.net.nodes = l ++ [(m, t0)] →
  GoesTo (exec .nodeForgetTime s) fun t =>
    t.pbus.net = { s.pbus.net with nodes := l } ∧ t.grid.now = max s.grid.now (t0 + 15000000000) ∧ s.Keeps t [.grid, .pbus] []

/-- PHY_POLL without a host MDIO transaction (R203) that takes no PTP link away: the port's LINK bit follows the PHY, a change is logged, and
the next poll is 10 ms on. -/
def Claim.phyPolled : Prop := ∀ (s : State) (p : Fin 2) (up : Bool), s.up = true → s.mdioBusy = false → s.pbus.net.ports.testBit p.val = true →
  (up = true ∨ s.pbus.net.mode ≠ 1 ∨ tget 7 s.pbus.ptp.st p.val ≠ 3) →
  GoesTo (exec (.phyPoll p up) s) fun t =>
    (t.rd PBUS_STATUS.LINK).testBit p.val = up ∧ (t.rd PBUS_STATUS.LINK).testBit (1 - p.val) = (s.rd PBUS_STATUS.LINK).testBit (1 - p.val)
    ∧ t.grid.now = max s.grid.now (tget 0 s.pbus.pollAt p.val) ∧ tget 0 t.pbus.pollAt p.val = t.grid.now + 2500000
    ∧ ((s.rd PBUS_STATUS.LINK).testBit p.val = up → t.log = s.log)
    ∧ ((s.rd PBUS_STATUS.LINK).testBit p.val ≠ up →
        (s.atTime (max s.grid.now (tget 0 s.pbus.pollAt p.val))).Logs t t.grid.now (if up then 0x4002 else 0x4001) p.val 0)
    ∧ s.Keeps t [.grid, .pbus, .log] (PBUS_STATUS.LINK.key 0 0 :: logKeys)

/-- PHY_POLL that finds the link of the SLAVE port of a doubly attached clock down (R237): the listening port, on the master of its latest
Announce, becomes the SLAVE port. -/
def Claim.slavePortStandsIn : Prop := ∀ (s : State) (p : Fin 2) (t0 : Nat) (a : Announce), s.up = true → s.mdioBusy = false →
  s.pbus.net.ports.testBit p.val = true →
  (s.atTime (tget 0 s.pbus.pollAt p.val)).ptpStandIn p.val = some (1 - p.val, t0, a) →
  GoesTo (exec (.phyPoll p false) s) fun t =>
    tget 7 t.pbus.ptp.st (1 - p.val) = 3 ∧ tget 7 t.pbus.ptp.st p.val = 1 ∧ t.rd PBUS_STATUS.PTP_STATE = 3
    ∧ t.rd PBUS_STATUS.PTP_PORT = 1 - p.val ∧ t.pbus.ptp.ann = some t0 ∧ t.pbus.ptp.sync = some t.grid.now ∧ t.pbus.ptp.cls = a.cls
    ∧ (t.rd PBUS_STATUS.LINK).testBit p.val = false
    ∧ s.Keeps t [.grid, .pbus, .log] ([PBUS_STATUS.LINK.key 0 0, PBUS_STATUS.PTP_STATE.key 0 0, PBUS_STATUS.PTP_PORT.key 0 0,
        GRID_UTC_OFS.VALUE.key 0 0, GRID_TQ.LEAP_PENDING.key 0 0, GRID_TQ.ACC.key 0 0] ++ logKeys)

/-- PHY_POLL while a host MDIO transaction runs (R203): nothing happens. -/
def Claim.phyPollPauses : Prop := ∀ (s : State) (p : Fin 2) (up : Bool), s.up = true → s.mdioBusy = true →
  GoesTo (exec (.phyPoll p up) s) fun t => s.Keeps t [] []

/-- MDIO_DONE (R203): the transaction's register shows the PHY's data, a write's its own, and BUSY clears. -/
def Claim.mdioCompletes : Prop := ∀ (s : State) (data : BitVec 16), s.up = true → s.mdioBusy = true →
  GoesTo (exec (.mdioDone data) s) fun t =>
    t.rd PBUS_MDIO.VALUE = (if (s.rd PBUS_MDIO.VALUE).testBit 21 then s.rd PBUS_MDIO.VALUE % 65536 else data.toNat)
    ∧ t.mdioBusy = false ∧ s.Keeps t [] [PBUS_MDIO.VALUE.key 0 0]

/-- SGMII_AUTONEG (R198): the port has its speed; in PRP and HSR mode one whose speed is not the other port's is logged and taken down. -/
def Claim.speedNegotiated : Prop := ∀ (s : State) (p : Fin 2) (fast : Bool) (v : Nat), s.up = true → v = (if fast then 1000 else 100) →
  GoesTo (exec (.sgmiiAutoneg p fast) s) fun t =>
    tget 0 t.pbus.net.speed p.val = v ∧ tget 0 t.pbus.net.speed (1 - p.val) = tget 0 s.pbus.net.speed (1 - p.val)
    ∧ (s.pbus.net.mode ≠ 0 ∧ tget 0 s.pbus.net.speed (1 - p.val) ≠ 0 ∧ tget 0 s.pbus.net.speed (1 - p.val) ≠ v →
        t.portOn p.val = false ∧ s.Logs t s.grid.now 0x4003 0 0)
    ∧ (s.pbus.net.mode = 0 ∨ tget 0 s.pbus.net.speed (1 - p.val) = 0 ∨ tget 0 s.pbus.net.speed (1 - p.val) = v →
        t.portOn p.val = s.pbus.net.ports.testBit p.val ∧ t.log = s.log)
    ∧ t.portOn (1 - p.val) = s.portOn (1 - p.val) ∧ s.Keeps t [.pbus, .log] logKeys

/-! ### Time (R13 to R16, R230 to R241) -/

/-- The keys of the registers that a measurement of the time source in use writes. -/
def timeKeys : List Nat := [PBUS_TIME_OFS.VALUE.key 0 0, PBUS_TSTEP_CNT.VALUE.key 0 0, GRID_TQ.LOCKED.key 0 0, GRID_TQ.ACC.key 0 0]

/-- A measurement within 1 µs steers the servo from `s`, whose time is its instant, to `t` (R231). -/
def State.Steers (s t : State) (theta : Int) : Prop :=
  let i := clampI (s.pbus.time.integ + asr theta (s.rd PBUS_SERVO.KI)) (-200000) 200000
  let ppb := clampI (asr theta (s.rd PBUS_SERVO.KP) + i) (-200000) 200000
  t.rdI PBUS_TIME_OFS.VALUE = theta ∧ t.grid = { s.grid with delta := deltaOf ppb, deltaEnd := none }
  ∧ t.pbus.time.integ = i ∧ t.pbus.time.lockCnt = s.pbus.time.lockCnt + 1
  ∧ (s.rd PBUS_SERVO.LOCKN ≤ s.pbus.time.lockCnt + 1 → t.rd GRID_TQ.LOCKED = 1)
  ∧ (s.pbus.time.lockCnt + 1 < s.rd PBUS_SERVO.LOCKN → t.rd GRID_TQ.LOCKED = s.rd GRID_TQ.LOCKED)

/-- A measurement beyond 1 µs steps TAI from `s` to `t` (R14, R216, R231, R232): the offset takes the whole of it, the lock is lost and counts
anew, the step is counted, and the synchronized streams lose their histories. -/
def State.StepsTime (s t : State) (theta : Int) : Prop :=
  t.grid = { s.grid with taiOfs := s.grid.taiOfs - theta } ∧ t.pbus.time.integ = 0 ∧ t.pbus.time.lockCnt = 0 ∧ t.rd GRID_TQ.LOCKED = 0
  ∧ t.rd PBUS_TSTEP_CNT.VALUE = min (s.rd PBUS_TSTEP_CNT.VALUE + 1) (2 ^ 32 - 1)
  ∧ ∀ e ∈ t.pbus.sv, e.2.sync = true → e.2.smp = [] ∧ e.2.miss = []

/-- PTP_SYNC with PTP in use (R204, R230, R231): the offset from the master is the device's TAI at the receive stamp, INGLAT before the delimiter,
less the origin timestamp, the correctionField and the port's peer delay (a fraction of a ns is open); within 1 µs it steers, beyond it steps. -/
def Claim.syncMeasures : Prop := ∀ (s : State) (p : Fin 2) (t0 : Nat) (m : SyncMsg) (theta : Int), s.up = true → s.rd PBUS_PTP_CFG.EN = 1 →
  s.portOn p.val = true → m.dom.toNat = s.rd PBUS_PTP_CFG.DOMAIN → tget 7 s.pbus.ptp.st p.val = 3 → s.rd GRID_TQ.SOURCE = 1 →
  s.rd GRID_TQ.HOLDOVER = 0 →
  theta = ((4 * t0 - s.rd PBUS_PORT_INGLAT.VALUE p.val : Nat) : Int) + s.grid.taiOfs
    - (m.origin + openDiv 44 m.corr 65536 + s.rd PBUS_PORT_PDELAY.VALUE p.val) →
  GoesTo (exec (.ptpSync p t0 m) s) fun t =>
    t.pbus.ptp = { s.pbus.ptp with sync := some t0 } ∧ t.grid.now = max s.grid.now t0
    ∧ (theta.natAbs ≤ 1000 → (s.atTime t0).Steers t theta ∧ t.log = s.log ∧ t.pbus.sv = s.pbus.sv)
    ∧ (1000 < theta.natAbs → (s.atTime t0).StepsTime t theta)
    ∧ t.pbus.net = s.pbus.net ∧ t.pbus.gs = s.pbus.gs ∧ t.pbus.gp = s.pbus.gp
    ∧ s.Keeps t [.grid, .pbus, .log, .host] (timeKeys ++ causeKeys ++ logKeys)

/-- PTP_SYNC while another source is in use (R230): only the source's freshness changes. -/
def Claim.syncOfUnused : Prop := ∀ (s : State) (p : Fin 2) (t0 : Nat) (m : SyncMsg), s.up = true → s.rd PBUS_PTP_CFG.EN = 1 →
  s.portOn p.val = true → m.dom.toNat = s.rd PBUS_PTP_CFG.DOMAIN → tget 7 s.pbus.ptp.st p.val = 3 →
  (s.rd GRID_TQ.SOURCE ≠ 1 ∨ s.rd GRID_TQ.HOLDOVER = 1) →
  GoesTo (exec (.ptpSync p t0 m) s) fun t =>
    t.pbus = { s.pbus with ptp := { s.pbus.ptp with sync := some t0 } } ∧ t.grid = (s.atTime t0).grid ∧ s.Keeps t [.grid, .pbus] []

/-- PTP_SYNC, PTP_ANNOUNCE and PTP_PDELAY_RX of another domain (R236): nothing changes. -/
def Claim.otherDomainIgnored : Prop := ∀ (s : State) (p : Fin 2) (t0 : Nat) (c : Instr) (m : SyncMsg) (x : PdelayMsg) (a : Announce),
  s.up = true → m.dom.toNat ≠ s.rd PBUS_PTP_CFG.DOMAIN → x.dom.toNat ≠ s.rd PBUS_PTP_CFG.DOMAIN → a.dom ≠ s.rd PBUS_PTP_CFG.DOMAIN →
  (c = .ptpSync p t0 m ∨ c = .ptpAnnounce p t0 a ∨ c = .ptpPdelayRx p t0 x) →
  GoesTo (exec c s) fun t => s.Keeps t [] []

/-- The keys that a change of the PTP ports' states may write. -/
def portKeys : List Nat := [PBUS_STATUS.PTP_STATE.key 0 0, PBUS_STATUS.PTP_PORT.key 0 0, GRID_UTC_OFS.VALUE.key 0 0,
  GRID_TQ.LEAP_PENDING.key 0 0, GRID_TQ.ACC.key 0 0]

/-- The state of a PTP port as time alone changes it (R237): DISABLED while PTP or the port is off; LISTENING when it comes on; after 3 s without
an Announce, no other port standing in, MASTER where the role admits it (from IEEE 1588, log entry 110). -/
def Claim.portFollows : Prop := ∀ (s : State) (p : Nat), p < 2 →
  ((s.rd PBUS_PTP_CFG.EN = 0 ∨ s.portOn p = false) → tget 7 (s.ptpPort p).pbus.ptp.st p = 7)
  ∧ (s.rd PBUS_PTP_CFG.EN = 1 → s.portOn p = true → tget 7 s.pbus.ptp.st p = 7 → tget 7 (s.ptpPort p).pbus.ptp.st p = 1)
  ∧ (s.rd PBUS_PTP_CFG.EN = 1 → s.portOn p = true → tget 7 s.pbus.ptp.st p ≠ 7 → s.grid.now < tget 0 s.pbus.ptp.from' p + 750000000 →
      s.ptpPort p = s)
  ∧ (s.rd PBUS_PTP_CFG.EN = 1 → s.portOn p = true → tget 7 s.pbus.ptp.st p ≠ 7 → tget 0 s.pbus.ptp.from' p + 750000000 ≤ s.grid.now →
      s.ptpStandIn p = none → tget 7 (s.ptpPort p).pbus.ptp.st p
        = if tget 7 s.pbus.ptp.st p ≠ 4 ∧ (s.rd PBUS_PTP_CFG.ROLE = 0 ∨ (s.rd PBUS_PTP_CFG.ROLE = 1 ∧ tget 7 s.pbus.ptp.st (1 - p) = 3))
          then 1 else 4)
  ∧ (s.ptpPort p).nv = s.nv ∧ (s.ptpPort p).grid = s.grid ∧ (s.ptpPort p).bank = s.bank

/-- PTP_ANNOUNCE that leaves its port SLAVE (R230, R235, R237): the one SLAVE port, with the grandmaster's class, its UTC offset where it gives
one, and a leap second it announces; where a master that gave one gives it no longer, PBUS_UTC_SET's offset applies again. -/
def Claim.announceMakesSlave : Prop := ∀ (s u : State) (p : Fin 2) (t0 : Nat) (a : Announce), s.up = true → s.rd PBUS_PTP_CFG.EN = 1 →
  s.portOn p.val = true → a.dom = s.rd PBUS_PTP_CFG.DOMAIN → a.st = 3 → u = (s.atTime t0).ptpPorts →
  GoesTo (exec (.ptpAnnounce p t0 a) s) fun t =>
    t.rd PBUS_STATUS.PTP_STATE = 3 ∧ t.rd PBUS_STATUS.PTP_PORT = p.val ∧ tget 7 t.pbus.ptp.st p.val = 3
    ∧ (∀ x ∈ t.pbus.ptp.st, x.2 = 3 → x.1 = p.val) ∧ t.pbus.ptp.ann = some t0 ∧ t.pbus.ptp.cls = a.cls
    ∧ t.rd GRID_UTC_OFS.VALUE = (match a.utc with
        | some x => x % 2 ^ 16 | none => if u.pbus.ptp.utc then u.setUtc % 2 ^ 16 else u.rd GRID_UTC_OFS.VALUE)
    ∧ t.pbus.ptp.utc = a.utc.isSome
    ∧ (a.leap61 = true → t.rd GRID_TQ.LEAP_PENDING = 1 ∧ t.pbus.time.leap = 1)
    ∧ (a.leap61 = false → a.leap59 = true → t.rd GRID_TQ.LEAP_PENDING = 1 ∧ t.pbus.time.leap = 2)
    ∧ (a.leap61 = false → a.leap59 = false → t.pbus.time = u.pbus.time) ∧ tget 0 t.pbus.ptp.from' p.val = t0 ∧ t.grid.now = max s.grid.now t0
    ∧ s.Keeps t [.grid, .pbus] portKeys

/-- PTP_ANNOUNCE that leaves its port in another state (R237): the port's state changes and its latest Announce is kept. One of ROLE 0 is
never MASTER, one of ROLE 1 not beside a SLAVE port (log entry 110). -/
def Claim.announceElsewhere : Prop := ∀ (s u : State) (p : Fin 2) (t0 : Nat) (a : Announce), s.up = true → s.rd PBUS_PTP_CFG.EN = 1 →
  s.portOn p.val = true → a.dom = s.rd PBUS_PTP_CFG.DOMAIN → a.st ≠ 3 → u = (s.atTime t0).ptpPorts →
  GoesTo (exec (.ptpAnnounce p t0 a) s) fun t =>
    tget 7 t.pbus.ptp.st p.val = (if a.st = 4 ∧ (s.rd PBUS_PTP_CFG.ROLE = 0 ∨ (s.rd PBUS_PTP_CFG.ROLE = 1 ∧ tget 7 u.pbus.ptp.st (1 - p.val) = 3))
      then 1 else a.st.val) ∧ tfind t.pbus.ptp.heard p.val = some (t0, a) ∧ tget 0 t.pbus.ptp.from' p.val = t0 ∧ t.pbus.ptp.ann = u.pbus.ptp.ann
    ∧ t.pbus.time = u.pbus.time ∧ t.grid.now = max s.grid.now t0 ∧ s.Keeps t [.grid, .pbus] portKeys

/-- PTP_PDELAY_RX of a response (R204, R236): the peer delay, half of what the round trip from the request's transmit stamp to the response's
receive stamp has beyond the peer's turnaround and the correctionFields, is reported at its port (a fraction of a ns is open; a negative result
reads 0, log entry 119). Where the device has no request out, nothing is measured. -/
def Claim.peerDelayMeasured : Prop := ∀ (s : State) (p : Fin 2) (t0 d : Nat) (m : PdelayMsg) (a : PdelayAns), s.up = true →
  s.rd PBUS_PTP_CFG.EN = 1 → s.portOn p.val = true → m.dom.toNat = s.rd PBUS_PTP_CFG.DOMAIN → m.ans = some a →
  GoesTo (exec (.ptpPdelayRx p t0 m) s) fun t =>
    (∀ t1, tfind s.pbus.ptp.req p.val = some t1 →
      (d = (openDiv 45 ((((4 * t0 - s.rd PBUS_PORT_INGLAT.VALUE p.val : Nat) : Int) - t1 - (a.t3 - a.t2)) * 65536 - a.corr) 131072).toNat →
        t.rd PBUS_PORT_PDELAY.VALUE p.val = d % 2 ^ 32) ∧ tfind t.pbus.ptp.req p.val = none)
    ∧ (tfind s.pbus.ptp.req p.val = none → t.pbus = s.pbus ∧ t.rd PBUS_PORT_PDELAY.VALUE p.val = s.rd PBUS_PORT_PDELAY.VALUE p.val)
    ∧ t.pbus = { s.pbus with ptp := { s.pbus.ptp with req := t.pbus.ptp.req } }
    ∧ t.grid.now = max s.grid.now t0 ∧ s.Keeps t [.grid, .pbus] [PBUS_PORT_PDELAY.VALUE.key p.val 0]

/-- PTP_PDELAY_RX of a request (R204, R236): answered at its port with the request's receive stamp and
the answer's transmit stamp, in one message or in two. -/
def Claim.peerDelayAnswered : Prop := ∀ (s : State) (p : Fin 2) (t0 rx tx : Nat) (m : PdelayMsg), s.up = true → s.rd PBUS_PTP_CFG.EN = 1 →
  s.portOn p.val = true → m.dom.toNat = s.rd PBUS_PTP_CFG.DOMAIN → m.ans = none → rx = (4 * t0 - s.rd PBUS_PORT_INGLAT.VALUE p.val) / 4 →
  tx = (4 * max s.grid.now t0 + s.rd PBUS_PORT_EGLAT.VALUE p.val) / 4 →
  GoesTo (exec (.ptpPdelayRx p t0 m) s) fun t =>
    t.pbus.ptp.sent.map (·.kind) = (if s.rd PBUS_PTP_CFG.ONESTEP = 1 then [.pdelayResp] else [.pdelayResp, .pdelayRespFollowUp])
    ∧ (∀ m ∈ t.pbus.ptp.sent, m.port = p.val ∧ m.src = s.ownMac ∧ m.dom = s.rd PBUS_PTP_CFG.DOMAIN ∧ m.rx = some rx ∧ m.stamp = some tx)
    ∧ t.grid.now = max s.grid.now t0 ∧ s.Keeps t [.grid, .pbus] []

/-- PTP_MESSAGE_SEND (R200, R204, R236, R238): each second every port that takes part sends a Pdelay_Req; a MASTER port sends Sync and Announce
too, with clock class, domain and priorities. -/
def Claim.ptpMessagesSent : Prop := ∀ (s u : State) (d : Nat), s.up = true → s.rd PBUS_PTP_CFG.EN = 1 → d = max s.grid.now s.pbus.ptp.next →
  u = (s.atTime d).ptpPorts →
  GoesTo (exec .ptpMessageSend s) fun t =>
    t.pbus.ptp.next = d + 250000000 ∧ t.grid.now = d
    ∧ (∀ m ∈ t.pbus.ptp.sent, s.portOn m.port = true ∧ m.src = s.ownMac ∧ m.dom = s.rd PBUS_PTP_CFG.DOMAIN
        ∧ (m.kind ≠ .pdelayReq → tget 7 u.pbus.ptp.st m.port = 4))
    ∧ (∀ p < 2, s.portOn p = true →
        (∃ m ∈ t.pbus.ptp.sent, m.kind = .pdelayReq ∧ m.port = p ∧ m.stamp = some ((4 * d + s.rd PBUS_PORT_EGLAT.VALUE p) / 4))
        ∧ tfind t.pbus.ptp.req p = some (4 * d + s.rd PBUS_PORT_EGLAT.VALUE p)
        ∧ (tget 7 u.pbus.ptp.st p = 4 →
          (∃ m ∈ t.pbus.ptp.sent, m.kind = .announce ∧ m.port = p ∧ m.cls = u.ownClass ∧ m.acc = clockAccuracy (u.rd GRID_TQ.ACC)
            ∧ m.prio1 = s.rd PBUS_PTP_CFG.PRIO1 ∧ m.prio2 = s.rd PBUS_PTP_CFG.PRIO2)
          ∧ (∃ m ∈ t.pbus.ptp.sent, m.kind = .sync ∧ m.port = p)
          ∧ (∃ m ∈ t.pbus.ptp.sent, m.kind = (if s.rd PBUS_PTP_CFG.ONESTEP = 1 then .sync else .followUp) ∧ m.port = p
              ∧ m.tai = some (4 * (d : Int) + s.rd PBUS_PORT_EGLAT.VALUE p + (s.atTime d).grid.taiOfs))))
    ∧ s.Keeps t [.grid, .pbus] portKeys

/-- IRIG_FRAME that could not be decoded (R230, R239): counted; the third in a row makes IRIG-B unqualified, and lost when it was in use. -/
def Claim.irigUndecoded : Prop := ∀ (s : State) (t0 : Nat) (r : IrigRaw), s.up = true → s.irigRead r = none →
  GoesTo (exec (.irigFrame t0 r) s) fun t =>
    t.rd PBUS_IRIG_ERR.VALUE = min (s.rd PBUS_IRIG_ERR.VALUE + 1) (2 ^ 32 - 1) ∧ t.pbus.time.irigBad = s.pbus.time.irigBad + 1
    ∧ (2 ≤ s.pbus.time.irigBad → t.pbus.time.irigOk = 0) ∧ (s.pbus.time.irigBad < 2 → t.pbus.time.irigOk = s.pbus.time.irigOk)
    ∧ (s.pbus.time.irigBad = 2 → s.rd GRID_TQ.SOURCE = 2 → s.rd GRID_TQ.HOLDOVER = 0 → s.rd GRID_TQ.LOCKED = 1 →
        t.rd GRID_TQ.HOLDOVER = 1 ∧ t.rd GRID_TQ.LOCKED = 0)
    ∧ t.grid.now = max s.grid.now t0
    ∧ s.Keeps t [.grid, .pbus, .log, .host] ([PBUS_IRIG_ERR.VALUE.key 0 0, GRID_TQ.HOLDOVER.key 0 0, GRID_TQ.SOURCE.key 0 0,
        PBUS_STATUS.TSRC.key 0 0] ++ timeKeys ++ causeKeys ++ logKeys)

/-- The elements of IRIG-B are told by their widths, and pulses of the other polarity do not decode (R239): nor does a frame with an element
that is no 0, 1 or marker. -/
def Claim.irigWidths : Prop :=
  (∀ w, (irigElem w = some 0 ↔ 250000 ≤ w ∧ w ≤ 750000) ∧ (irigElem w = some 1 ↔ 1000000 ≤ w ∧ w ≤ 1500000)
    ∧ (irigElem w = some 2 ↔ 1750000 ≤ w ∧ w ≤ 2250000))
  ∧ ∀ (s : State) (r : IrigRaw), (s.rd PBUS_IRIG_CFG.POL ≠ b2n r.low ∨ r.w.length ≠ 100 ∨ ∃ w ∈ r.w, irigElem w = none) → s.irigRead r = none

/-- IRIG_FRAME decoded while another source is in use (R230, R239): its marker's device time and TAI second are kept. Two frames in a row whose
seconds follow each other qualify the source, and fewer than three that are bad or missing leave it qualified. -/
def Claim.irigDecoded : Prop := ∀ (s : State) (t0 : Nat) (w : IrigRaw) (f : IrigTime), s.up = true → s.irigRead w = some f →
  (s.rd PBUS_IRIG_CFG.YEAR = 1 ∨ s.pbus.time.taiSet = true) →
  (s.rd GRID_TQ.SOURCE ≠ 2 ∨ s.rd GRID_TQ.HOLDOVER = 1) →
  GoesTo (exec (.irigFrame t0 w) s) fun t =>
    t.pbus.time.irig = some (t0, (s.atTime t0).irigTai f) ∧ t.pbus.time.irigBad = 0 ∧ t.pbus.time.irigTq = f.tq
    ∧ t.pbus.time.irigOk = (match s.pbus.time.irig with
        | some (u, q) => if (t0 < u + 875000000 ∧ 2 ≤ s.pbus.time.irigOk) ∨ (s.pbus.time.irigBad = 0 ∧ (s.atTime t0).irigTai f = q + 1) then 2 else 1
        | none => 1)
    ∧ (s.rd PBUS_IRIG_CFG.EXT = 1 → f.lsp = true → t.rd GRID_TQ.LEAP_PENDING = 1 ∧ t.pbus.time.leap = (if f.del then 2 else 1))
    ∧ t.grid = (s.atTime t0).grid ∧ s.Keeps t [.grid, .pbus] [GRID_TQ.LEAP_PENDING.key 0 0, GRID_TQ.ACC.key 0 0]

/-- IRIG_FRAME decoded with IRIG-B in use (R231, R239): the marker measures TAI. -/
def Claim.irigMeasures : Prop := ∀ (s : State) (t0 : Nat) (w : IrigRaw) (f : IrigTime) (theta : Int), s.up = true → s.irigRead w = some f →
  (s.rd PBUS_IRIG_CFG.YEAR = 1 ∨ s.pbus.time.taiSet = true) → s.rd PBUS_IRIG_CFG.EXT = 0 → s.rd GRID_TQ.SOURCE = 2 → s.rd GRID_TQ.HOLDOVER = 0 →
  theta = (s.atTime t0).taiOf t0 - (s.atTime t0).irigTai f * 1000000000 →
  GoesTo (exec (.irigFrame t0 w) s) fun t =>
    (theta.natAbs ≤ 1000 → (s.atTime t0).Steers t theta ∧ t.log = s.log) ∧ (1000 < theta.natAbs → (s.atTime t0).StepsTime t theta)
    ∧ s.Keeps t [.grid, .pbus, .log, .host] (timeKeys ++ causeKeys ++ logKeys)

/-- PPS_EDGE of the edge selected, of a source that is not in use (R230, R240): the edge is the latest accepted one, it qualifies 1PPS one
second after another, and the time of day that has been written counts on. -/
def Claim.ppsAccepted : Prop := ∀ (s : State) (t0 width p0 : Nat) (falling : Bool), s.up = true → s.rd PBUS_PPS_CFG.POL = b2n falling → 250 ≤ width →
  s.pbus.time.ppsAt = some p0 → s.pbus.time.todSet = true → t0 = p0 + 250000000 → (s.rd GRID_TQ.SOURCE ≠ 3 ∨ s.rd GRID_TQ.HOLDOVER = 1) →
  GoesTo (exec (.ppsEdge t0 width falling) s) fun t =>
    t.pbus = { s.pbus with time := { s.pbus.time with ppsAt := some t0, ppsQual := true } }
    ∧ t.rd64 PBUS_TOD_LO.VALUE PBUS_TOD_HI.VALUE = (s.rd64 PBUS_TOD_LO.VALUE PBUS_TOD_HI.VALUE + 1) % 2 ^ 64 ∧ t.grid = (s.atTime t0).grid
    ∧ s.Keeps t [.grid, .pbus] [PBUS_TOD_LO.VALUE.key 0 0, PBUS_TOD_HI.VALUE.key 0 0]

/-- PPS_EDGE after three missing edges (R230, R240): it is the latest accepted edge and qualifies nothing. -/
def Claim.ppsAfterLoss : Prop := ∀ (s : State) (t0 width p0 : Nat) (falling : Bool), s.up = true → s.rd PBUS_PPS_CFG.POL = b2n falling → 250 ≤ width →
  s.pbus.time.ppsAt = some p0 → p0 + 750000000 + s.rd PBUS_PPS_CFG.WIN * 250 < t0 → (s.rd GRID_TQ.SOURCE ≠ 3 ∨ s.rd GRID_TQ.HOLDOVER = 1) →
  GoesTo (exec (.ppsEdge t0 width falling) s) fun t =>
    t.pbus = { s.pbus with time := { s.pbus.time with ppsAt := some t0, ppsQual := false } }
    ∧ s.Keeps t [.grid, .pbus] [PBUS_TOD_LO.VALUE.key 0 0, PBUS_TOD_HI.VALUE.key 0 0]

/-- PPS_EDGE outside the window of a qualified source (R240): rejected and counted. The second after the latest accepted edge is expected
first. -/
def Claim.ppsRejected : Prop := ∀ (s : State) (t0 width p0 : Nat) (falling : Bool), s.up = true → s.rd PBUS_PPS_CFG.POL = b2n falling → 250 ≤ width →
  s.pbus.time.ppsAt = some p0 → s.pbus.time.ppsQual = true → t0 ≤ p0 + 750000000 + s.rd PBUS_PPS_CFG.WIN * 250 →
  (250000000 ≤ t0 - p0 → s.rd PBUS_PPS_CFG.WIN * 250 < (t0 - p0) % 250000000) →
  s.rd PBUS_PPS_CFG.WIN * 250 < 250000000 - (t0 - p0) % 250000000 →
  GoesTo (exec (.ppsEdge t0 width falling) s) fun t =>
    t.rd PBUS_PPS_REJ.VALUE = min (s.rd PBUS_PPS_REJ.VALUE + 1) (2 ^ 32 - 1) ∧ t.grid = (s.atTime t0).grid
    ∧ s.Keeps t [.grid] [PBUS_PPS_REJ.VALUE.key 0 0]

/-- The time source that times out is lost: it is not PTP with a port that stands in (R237). -/
def State.noStandIn (s : State) : Prop := s.rd GRID_TQ.SOURCE = 1 → s.ptpStandIn (s.rd PBUS_STATUS.PTP_PORT) = none

/-- TIME_SOURCE_LOST of a locked source (R230, R232, R233, R235): at its time-out the unit is in holdover, unlocked, and the event says so; the UTC
offset that PTP gave goes with its Announces. -/
def Claim.sourceIntoHoldover : Prop := ∀ (s : State) (t0 : Nat), s.up = true → s.sourceDue = some t0 → s.rd GRID_TQ.LOCKED = 1 →
  (s.atTime t0).noStandIn →
  GoesTo (exec .timeSourceLost s) fun t =>
    t.rd GRID_TQ.HOLDOVER = 1 ∧ t.rd GRID_TQ.LOCKED = 0 ∧ t.pbus.time.hoAt = some t.grid.now ∧ t.pbus.time.hoStep = 0 ∧ t.pbus.time.lockCnt = 0
    ∧ t.rd GRID_TQ.SOURCE = s.rd GRID_TQ.SOURCE ∧ t.grid = (s.atTime t0).grid
    ∧ ((∀ p < 2, (s.atTime t0).ptpStandIn p = none) →
        t.rd GRID_UTC_OFS.VALUE = (if s.rd GRID_TQ.SOURCE = 1 ∧ (s.atTime t0).announceLost = true ∧ s.pbus.ptp.utc = true then s.setUtc % 2 ^ 16
          else s.rd GRID_UTC_OFS.VALUE))
    ∧ s.Keeps t [.grid, .pbus, .log, .host] ([GRID_TQ.HOLDOVER.key 0 0, GRID_TQ.LOCKED.key 0 0] ++ portKeys ++ causeKeys ++ logKeys)

/-- TIME_SOURCE_LOST of PTP's SLAVE port while the other port of the doubly attached clock hears its master (R237): that port is SLAVE, and PTP
stays the source. -/
def Claim.slavePortFailsOver : Prop := ∀ (s : State) (t0 p t1 : Nat) (a : Announce), s.up = true → s.rd GRID_TQ.SOURCE = 1 → s.sourceDue = some t0 →
  (s.atTime t0).ptpStandIn (s.rd PBUS_STATUS.PTP_PORT) = some (p, t1, a) →
  GoesTo (exec .timeSourceLost s) fun t =>
    tget 7 t.pbus.ptp.st p = 3 ∧ t.rd PBUS_STATUS.PTP_PORT = p % 2 ∧ t.pbus.ptp.ann = some t1 ∧ t.pbus.ptp.sync = some t.grid.now
    ∧ t.rd GRID_TQ.SOURCE = 1 ∧ t.rd GRID_TQ.LOCKED = s.rd GRID_TQ.LOCKED ∧ t.grid = (s.atTime t0).grid
    ∧ s.Keeps t [.grid, .pbus] [PBUS_STATUS.PTP_STATE.key 0 0, PBUS_STATUS.PTP_PORT.key 0 0, GRID_UTC_OFS.VALUE.key 0 0,
        GRID_TQ.LEAP_PENDING.key 0 0, GRID_TQ.ACC.key 0 0]

/-- TIME_SOURCE_LOST of a source that never locked (R11, R232, R233): free-run with accuracy unknown, the rate no longer adjusted. -/
def Claim.sourceIntoFreeRun : Prop := ∀ (s : State) (t0 : Nat), s.up = true → s.sourceDue = some t0 → s.rd GRID_TQ.LOCKED = 0 →
  (s.atTime t0).noStandIn →
  GoesTo (exec .timeSourceLost s) fun t =>
    t.rd GRID_TQ.SOURCE = 0 ∧ t.rd PBUS_STATUS.TSRC = 0 ∧ t.rd GRID_TQ.HOLDOVER = 0 ∧ t.rd GRID_TQ.ACC = 3 ∧ t.pbus.time.lockCnt = 0
    ∧ ((((s.atTime t0).wr GRID_TQ.SOURCE 0).wr GRID_TQ.HOLDOVER 0).wr GRID_TQ.ACC 3).Logs t t.grid.now 0x3011 0 0
    ∧ t.grid = { (s.atTime t0).grid with delta := 0, deltaEnd := none }
    ∧ s.Keeps t [.grid, .pbus, .log] ([GRID_TQ.SOURCE.key 0 0, PBUS_STATUS.TSRC.key 0 0, GRID_TQ.HOLDOVER.key 0 0] ++ portKeys ++ logKeys)

/-- HOLDOVER_ACC_DEGRADE (R233): T1, T2 and one day into holdover the accuracy is at least 1, 2 and 3. -/
def Claim.holdoverDegrades : Prop := ∀ (s : State) (t0 d a : Nat), s.up = true → s.pbus.time.hoAt = some t0 → s.pbus.time.hoStep < 3 →
  (d, a) = (if s.pbus.time.hoStep = 0 then (s.rd PBUS_HO_CFG.VALUE % 65536, 1) else if s.pbus.time.hoStep = 1 then (s.rd PBUS_HO_CFG.VALUE / 65536, 2)
    else (86400, 3)) →
  GoesTo (exec .holdoverAccDegrade s) fun t =>
    t.rd GRID_TQ.ACC = max (s.rd GRID_TQ.ACC) a % 4 ∧ t.pbus = { s.pbus with time := { s.pbus.time with hoStep := s.pbus.time.hoStep + 1 } }
    ∧ t.grid.now = max s.grid.now (t0 + d * 250000000) ∧ s.Keeps t [.grid, .pbus] [GRID_TQ.ACC.key 0 0]

/-- The TAI second at which the source is chosen next. -/
def State.selSecond (s : State) : Int :=
  match s.pbus.time.sel with | some k => if s.tai / 1000000000 ≤ k then k + 1 else s.tai / 1000000000 | none => s.tai / 1000000000

/-- The first device time at which TAI has reached second `k`. -/
def State.secondStart (s : State) (k : Int) : Nat := ((k * 1000000000 - s.grid.taiOfs + 3) / 4).toNat

/-- TIME_SRC_SELECT that finds a better source (R230, R233): it is in use, holdover ends, and the change is logged. -/
def Claim.sourceChosen : Prop := ∀ (s : State) (c : Nat), s.up = true → (s.atTime (s.secondStart s.selSecond)).ptpPorts.bestSource = some c →
  s.rd GRID_TQ.SOURCE ≠ c →
  GoesTo (exec .timeSrcSelect s) fun t =>
    t.rd GRID_TQ.SOURCE = c ∧ t.rd PBUS_STATUS.TSRC = c ∧ t.rd GRID_TQ.HOLDOVER = 0 ∧ t.pbus.time.sel = some s.selSecond
    ∧ t.pbus.time.hoAt = none ∧ t.grid = (s.atTime (s.secondStart s.selSecond)).grid
    ∧ s.Keeps t [.grid, .pbus, .log] ([GRID_TQ.SOURCE.key 0 0, PBUS_STATUS.TSRC.key 0 0, GRID_TQ.HOLDOVER.key 0 0] ++ portKeys ++ logKeys)

/-- TIME_SRC_SELECT that finds the source in use again (R230, R235): it stays; once the Announces have timed out, the UTC offset they gave is
PBUS_UTC_SET's again. -/
def Claim.sourceStays : Prop := ∀ (s u : State) (c : Nat), s.up = true → u = (s.atTime (s.secondStart s.selSecond)).ptpPorts → u.bestSource = some c →
  s.rd GRID_TQ.SOURCE = c → s.rd GRID_TQ.HOLDOVER = 0 →
  GoesTo (exec .timeSrcSelect s) fun t =>
    t.pbus = { u.pbus with ptp := { u.pbus.ptp with utc := u.pbus.ptp.utc && !u.announceLost }, time := { u.pbus.time with sel := some s.selSecond } }
    ∧ t.rd GRID_UTC_OFS.VALUE = (if u.pbus.ptp.utc && u.announceLost then u.setUtc % 2 ^ 16 else u.rd GRID_UTC_OFS.VALUE)
    ∧ s.Keeps t [.grid, .pbus] portKeys

/-- UTC_OFS_CHANGE with a leap second pending (R235): the offset changes by one, and the announcement is done. -/
def Claim.leapSecondTaken : Prop := ∀ s : State, s.up = true → (s.pbus.time.leap = 1 ∨ s.pbus.time.leap = 2) →
  0 < s.rd GRID_UTC_OFS.VALUE → s.rd GRID_UTC_OFS.VALUE < 65535 →
  GoesTo (exec .utcOfsChange s) fun t =>
    t.rd GRID_UTC_OFS.VALUE = (if s.pbus.time.leap = 1 then s.rd GRID_UTC_OFS.VALUE + 1 else s.rd GRID_UTC_OFS.VALUE - 1)
    ∧ t.rd GRID_TQ.LEAP_PENDING = 0 ∧ t.rd PBUS_LEAP.DIR = 0 ∧ t.pbus = { s.pbus with time := { s.pbus.time with leap := 0, leaps := s.pbus.time.leaps + (if s.pbus.time.leap = 1 then 1 else -1) } }
    ∧ s.Keeps t [.grid, .pbus, .log] ([GRID_UTC_OFS.VALUE.key 0 0, GRID_TQ.LEAP_PENDING.key 0 0, PBUS_LEAP.DIR.key 0 0] ++ logKeys)

/-- UTC_OFS_CHANGE with none pending (R235): nothing happens. -/
def Claim.noLeapSecond : Prop := ∀ s : State, s.up = true → s.pbus.time.leap = 0 →
  GoesTo (exec .utcOfsChange s) fun t => s.Keeps t [] []

/-! ### Bays, elements, scheme logic and detectors (R190 to R194, R254 to R383) -/

/-- The evaluation of bay `b` at its next tick brings happening `k` of instance `i`; the tick is `r`'s. -/
def State.brings (s : State) (b k i : Nat) (r : TickRec) : Prop :=
  s.gridCatch.bayDue b = some r ∧ (s.gridCatch.bayEvaluation b s.gridCatch.grid.now 0).eval.ev.contains (k, i) = true

/-- Bay `b` goes on as it is after the tick of `r`: it does not stop there as shed (R259), and no settings swap is taken over then (R558). -/
def State.steady (s : State) (b : Nat) (r : TickRec) : Prop :=
  (∀ m, (tget {} s.eval.bay b).stopAt = some m → r.n + 1 < m) ∧ (s.eval.chg = [] ∨ ∃ k n, s.prev = some (k, n) ∧ r.n + 1 < n)

/-- Bay `b` has been evaluated for the tick of `r` (R254): it runs and waits for the next tick; what is kept over power but for the latches of
rows, the settings, custody and the queue are as before. -/
def State.Evaluated (s t : State) (b : Nat) (r : TickRec) : Prop :=
  (tget {} t.eval.bay b).next = r.n + 1 ∧ (tget {} t.eval.bay b).first = false ∧ t.rd BAY_STATUS.RUN b = 1
  ∧ t.grid.now = max s.gridCatch.grid.now (r.t / 2 ^ 24) ∧ t.nv = { s.nv with lat := t.nv.lat } ∧ s.Stays t

/-- BAY_EVALUATION of a bay that has every sample of its next tick (R254, R255, R360): evaluated; its wait and the evaluation's length go into
the largest-so-far registers. -/
def Claim.bayEvaluates : Prop := ∀ (s : State) (b : Fin 64) (t0 us : Nat) (r : TickRec), s.up = true → s.gridCatch.bayDue b.val = some r → s.steady b.val r →
  GoesTo (exec (.bayEvaluation b t0 us) s) fun t =>
    (tget {} t.eval.bay b.val).next = r.n + 1 ∧ t.rd BAY_STATUS.RUN b.val = 1 ∧ t.grid.now = max (max s.gridCatch.grid.now (r.t / 2 ^ 24)) t0
    ∧ t.rd BAY_WAIT_MAX.VALUE b.val = max (s.rd BAY_WAIT_MAX.VALUE b.val) (min ((t.grid.now - r.t / 2 ^ 24) / 250) (2 ^ BAY_WAIT_MAX.VALUE.width - 1)) % 2 ^ BAY_WAIT_MAX.VALUE.width
    ∧ t.rd KNOT_EVAL_MAX.VALUE = max (s.rd KNOT_EVAL_MAX.VALUE) (min us (2 ^ KNOT_EVAL_MAX.VALUE.width - 1)) % 2 ^ KNOT_EVAL_MAX.VALUE.width
    ∧ t.nv = { s.nv with lat := t.nv.lat } ∧ s.Stays t

/-- BAY_EVALUATION of a bay that lacks a sample, or does not run (R254): its elements, knots, rows and the bay itself stay as they are. -/
def Claim.bayWaits : Prop := ∀ (s : State) (b : Fin 64) (t0 us : Nat), s.up = true → s.gridCatch.bayDue b.val = none →
  GoesTo (exec (.bayEvaluation b t0 us) s) fun t =>
    t.eval.elm = s.eval.elm ∧ t.eval.knot = s.eval.knot ∧ t.eval.bay = s.eval.bay ∧ t.nv = s.nv ∧ s.Stays t

/-- A happening of an evaluation that the bay's next tick does not bring, or that has no tick to be evaluated at, does not take place (log
entries 1 and 4): the tracker alone may run. -/
def Claim.happeningWaits : Prop := ∀ (s : State) (e : Fin 2048) (x : Instr × Nat), s.up = true →
  x ∈ [(Instr.elmOperate e, hOperate), (.elmResetTimeout e, hReset), (.elmMemoryExpiry e, hMemory), (.bfRetrip e, hRetrip), (.bfBackup e, hBackup), (.arClose e, hArClose), (.arLockout e, hArLockout), (.arSuccess e, hArSuccess), (.clpArmed e, hClpArmed), (.clpEnd e, hClpEnd), (.tmaxRel e, hTmax)] →
  (∀ r, ¬ s.brings (s.bank.fld ELM_CFG.BAY e) x.2 e r) →
  GoesTo (exec x.1 s) fun t =>
    t.eval.elm = s.eval.elm ∧ t.eval.knot = s.eval.knot ∧ t.eval.row = s.eval.row ∧ t.eval.bay = s.eval.bay ∧ t.nv = s.nv ∧ s.Stays t

/-- ELM_OPERATE (R288, R319, R347): OP of an element that its bay lists once rises. -/
def Claim.elementOperates : Prop := ∀ (s : State) (e : Fin 2048) (b : Nat) (r : TickRec), s.up = true → s.bank.fld ELM_CFG.BAY e = b →
  s.brings b hOperate e r → s.steady b r → ((s.bankAt r.n).elems b).count e.val = 1 →
  GoesTo (exec (.elmOperate e) s) fun t =>
    (t.rd ELM_OUT.BITS e.val).testBit 7 = true ∧ (t.elmOut e.val r.n).testBit 7 = true ∧ (s.elmNow e.val).testBit 7 = false ∧ s.Evaluated t b r

/-- ELM_RESET_TIMEOUT (R289, R320): the time that the element, or one of its phases, has accumulated is cleared, and it is not picked up. -/
def Claim.elementResets : Prop := ∀ (s : State) (e : Fin 2048) (b : Nat) (r : TickRec), s.up = true → s.bank.fld ELM_CFG.BAY e = b →
  s.brings b hReset e r → s.steady b r → ((s.bankAt r.n).elems b).count e.val = 1 →
  GoesTo (exec (.elmResetTimeout e) s) fun t =>
    (∃ x, tfind t.eval.elm e.val = some x ∧ match x.st with
      | .oc ph _ _ => ∃ p ∈ ph, p.acc = 0 ∧ p.up = false | .lv _ was tm _ => was = false ∧ tm = 0 | _ => False)
    ∧ s.Evaluated t b r

/-- ELM_MEMORY_EXPIRY (R299): the element no longer polarizes from the stored V1. -/
def Claim.memoryExpires : Prop := ∀ (s : State) (e : Fin 2048) (b : Nat) (r : TickRec), s.up = true → s.bank.fld ELM_CFG.BAY e = b →
  s.brings b hMemory e r → s.steady b r → ((s.bankAt r.n).elems b).count e.val = 1 →
  GoesTo (exec (.elmMemoryExpiry e) s) fun t =>
    (t.rd ELM_OUT.BITS e.val).testBit 16 = false ∧ (s.elmNow e.val).testBit 16 = true ∧ s.Evaluated t b r

/-- BF_RETRIP and BF_BACKUP (R334): RETRIP, or BACKUP, rises, and OP is on. -/
def Claim.breakerFails : Prop := ∀ (s : State) (e : Fin 2048) (b k i : Nat) (c : Instr) (r : TickRec), s.up = true → s.bank.fld ELM_CFG.BAY e = b →
  (c, k, i) ∈ [(Instr.bfRetrip e, hRetrip, 4), (.bfBackup e, hBackup, 5)] → s.brings b k e r → s.steady b r → ((s.bankAt r.n).elems b).count e.val = 1 →
  GoesTo (exec c s) fun t =>
    (t.rd ELM_OUT.BITS e.val).testBit i = true ∧ (t.rd ELM_OUT.BITS e.val).testBit 7 = true ∧ (s.elmNow e.val).testBit i = false
    ∧ s.Evaluated t b r

/-- AR_CLOSE (R337): the autoreclose is CLOSING. -/
def Claim.recloserCloses : Prop := ∀ (s : State) (e : Fin 2048) (b : Nat) (r : TickRec), s.up = true → s.bank.fld ELM_CFG.BAY e = b →
  s.brings b hArClose e r → s.steady b r → ((s.bankAt r.n).elems b).count e.val = 1 →
  GoesTo (exec (.arClose e) s) fun t =>
    t.rd ELM_AR_STATE.STATE e.val = 4 ∧ (t.rd ELM_OUT.BITS e.val).testBit 2 = true ∧ t.rd ELM_AR_TM.VALUE e.val = 0 ∧ s.Evaluated t b r

/-- AR_LOCKOUT (R337): LOCKOUT, with its reason, counted, and the shots start over. -/
def Claim.recloserLocksOut : Prop := ∀ (s : State) (e : Fin 2048) (b : Nat) (r : TickRec), s.up = true → s.bank.fld ELM_CFG.BAY e = b →
  s.brings b hArLockout e r → s.steady b r → ((s.bankAt r.n).elems b).count e.val = 1 →
  GoesTo (exec (.arLockout e) s) fun t =>
    t.rd ELM_AR_STATE.STATE e.val = 7 ∧ t.rd ELM_AR_STATE.SHOT e.val = 0 ∧ 1 ≤ t.rd ELM_AR_STATE.REASON e.val ∧ t.rd ELM_AR_STATE.REASON e.val ≤ 6
    ∧ (t.rd ELM_OUT.BITS e.val).testBit 3 = true
    ∧ t.rd ELM_AR_CNT.LOCK e.val = min (s.rd ELM_AR_CNT.LOCK e.val + 1) (2 ^ ELM_AR_CNT.LOCK.width - 1) ∧ s.Evaluated t b r

/-- AR_SUCCESS (R337): READY with no shots, and a sequence of at least one shot is counted as a success. -/
def Claim.recloserSucceeds : Prop := ∀ (s : State) (e : Fin 2048) (b : Nat) (r : TickRec), s.up = true → s.bank.fld ELM_CFG.BAY e = b →
  s.brings b hArSuccess e r → s.steady b r → ((s.bankAt r.n).elems b).count e.val = 1 →
  GoesTo (exec (.arSuccess e) s) fun t =>
    t.rd ELM_AR_STATE.STATE e.val = 0 ∧ t.rd ELM_AR_STATE.SHOT e.val = 0
    ∧ (∀ st sh tm rs o, tfind s.eval.elm e.val = some ⟨.ar st sh tm rs, o⟩ → t.rd ELM_AR_CNT.OK e.val =
        (if 0 < sh then min (s.rd ELM_AR_CNT.OK e.val + 1) (2 ^ ELM_AR_CNT.OK.width - 1) else s.rd ELM_AR_CNT.OK e.val)) ∧ s.Evaluated t b r

/-- CLP_ARMED and CLP_END (R331): cold-load pickup is ARMED, or is ACTIVE no longer. -/
def Claim.coldLoadMoves : Prop := ∀ (s : State) (e : Fin 2048) (b k : Nat) (c : Instr) (r : TickRec), s.up = true → s.bank.fld ELM_CFG.BAY e = b →
  (c, k) ∈ [(Instr.clpArmed e, hClpArmed), (.clpEnd e, hClpEnd)] → s.brings b k e r → s.steady b r → ((s.bankAt r.n).elems b).count e.val = 1 →
  GoesTo (exec c s) fun t =>
    (k = hClpArmed → t.rd ELM_CLP_STATE.STATE e.val = 2 ∧ (t.rd ELM_OUT.BITS e.val).testBit 1 = true)
    ∧ (k = hClpEnd → t.rd ELM_CLP_STATE.STATE e.val ≠ 3 ∧ (t.rd ELM_OUT.BITS e.val).testBit 7 = false
        ∧ ∃ tm f o, tfind s.eval.elm e.val = some ⟨.clp 3 tm f, o⟩) ∧ s.Evaluated t b r

/-- TMAX_REL (R328): a phase is forced off. -/
def Claim.blockForcedOff : Prop := ∀ (s : State) (e : Fin 2048) (b : Nat) (r : TickRec), s.up = true → s.bank.fld ELM_CFG.BAY e = b →
  s.brings b hTmax e r → s.steady b r → ((s.bankAt r.n).elems b).count e.val = 1 →
  GoesTo (exec (.tmaxRel e) s) fun t =>
    (t.rd ELM_OUT.BITS e.val).testBit 8 = true
    ∧ (∃ x i, tfind t.eval.elm e.val = some x ∧ match x.st with
      | .hr blk _ _ _ rel => rel.getD i false = true ∧ blk.getD i false = false | _ => False)
    ∧ s.Evaluated t b r

/-- GROUP_CHANGE (R343): another settings group is in force in the bay, and its registers say so. -/
def Claim.groupChanges : Prop := ∀ (s : State) (b : Fin 64) (r : TickRec), s.up = true → s.brings b hGroup b r → s.steady b r →
  GoesTo (exec (.groupChange b) s) fun t =>
    t.rd SET_GRP_ST.ACTIVE b.val = groupOf (Trace.now (tget {} t.eval.bay b.val).grp) 0 % 4
    ∧ groupOf (Trace.now (tget {} t.eval.bay b.val).grp) 0 ≠
        groupOf (Trace.now (tget {} s.eval.bay b.val).grp) ((s.bankAt r.n).fld SET_GRP.FIX b.val)
    ∧ s.Evaluated t b r

/-- KNOT_TIMER_EXPIRY (R358): the output of a knot that its bank lists once changes. -/
def Claim.knotExpires : Prop := ∀ (s : State) (k : Fin 16384) (b : Nat) (r : TickRec), s.up = true → knotBay (s.bank.knot k) = b →
  s.brings b hKnot k r → s.steady b r → (((s.bankAt r.n).knotsOf b).map (·.1)).count k.val = 1 →
  GoesTo (exec (.knotTimerExpiry k) s) fun t =>
    (tget {} t.eval.knot k.val).q = !(((tfind s.eval.knot k.val).getD (knotInit ((s.bankAt r.n).knot k))).q)
    ∧ (t.rd KNOT_OUT.VALUE (k.val / 32)).testBit (k.val % 32) = (tget {} t.eval.knot k.val).q ∧ s.Evaluated t b r

/-- TM_MINP_EXPIRY (R363): the row's command falls, with nothing that drives it and no latch. -/
def Claim.rowFalls : Prop := ∀ (s : State) (d : Fin 32) (b : Nat) (r : TickRec), s.up = true → s.bank.fld KNOT_TM_CFG.BAY d = b →
  s.brings b hMinp d r → s.steady b r →
  GoesTo (exec (.tmMinpExpiry d) s) fun t =>
    (t.row d.val).cmd = false ∧ (t.row d.val).drv = false ∧ (t.row d.val).lat = false ∧ t.rd KNOT_TM_STATE.CMD d.val = 0 ∧ s.Evaluated t b r

/-- The row of R363: a command that stands falls only with no drive, no latch and its minimum time over; a latch falls only on a reset without
drive; a drive raises the command at once. -/
def Claim.rowRule : Prop := ∀ (x : Row) (kn fb rk latch : Bool) (minp dt : Nat),
  (x.cmd = true → (x.step kn fb rk latch minp dt).1.cmd = false →
    kn = false ∧ fb = false ∧ (x.step kn fb rk latch minp dt).1.lat = false ∧ minp * 250 ≤ (if x.counting then x.pt + dt else x.pt))
  ∧ (x.lat = true → (x.step kn fb rk latch minp dt).1.lat = false → (rk = true ∨ x.hr = true) ∧ kn = false ∧ fb = false)
  ∧ ((kn = true ∨ fb = true) → (x.step kn fb rk latch minp dt).1.cmd = true)

/-- The table of R337: only a host or knot reset with the breaker closed leaves LOCKOUT; a block takes every state of a running sequence there;
a reclaim that ends in success forgets the shots. -/
def Claim.recloserRule : Prop := ∀ (st n tm : Nat) (i : ArIn) (dt : Nat → Nat) (a b c d e f : Nat),
  (arNext 7 n tm i dt a b c d e f = (if i.reset && i.cbcl then some (6, n, .reset) else none))
  ∧ (1 ≤ st → st ≤ 4 → i.block = true → arNext st n tm i dt a b c d e f = some (7, 0, .lockout 5))
  ∧ (i.start = false → i.block = false → e ≤ tm → arNext 5 n tm i dt a b c d e f = some (0, 0, .success))

/-- E² of R372 for the samples `l` of a fast detector, newest first. -/
def State.fastE2 (s : State) (f : Nat) (l : List BaseSmp) : Rat :=
  let m := s.bank.fld KNOT_FP_CFG.M f
  let v := fun i => ((l[i]?).map (·.v)).getD 0
  let d := fmul ((v 0 - v (2 * m) : Int) : Rat) (s.fp f).c
  fadd (fmul ((v m : Int) : Rat) ((v m : Int) : Rat)) (fmul d d)

/-- The samples of a fast detector's channel up to the oldest that it has not seen, newest first. -/
def State.fastNext (s : State) (f : Nat) : List BaseSmp :=
  let base := (s.chan (s.bank.fld KNOT_FP_CFG.CH f)).base
  base.drop ((base.takeWhile fun b => decide ((s.fp f).seen < b.s)).length - 1)

/-- The oldest unseen sample of a running fast detector counts: there is one, it belongs to the settings in force, no restart is due, no knot
blocks the detector, and its span is whole and clean. -/
def State.fastCounts (s : State) (f : Nat) (b : BaseSmp) : Prop :=
  s.fpRuns f b.s = true ∧ (s.asAtStrobe b.s).bank = s.bank
  ∧ (∀ k n, s.prev = some (k, n) → k.fld KNOT_FP_CFG.CH f = s.bank.fld KNOT_FP_CFG.CH f) ∧ (∃ l, s.fastNext f = b :: l) ∧ (s.fp f).seen < b.s ∧ (s.fp f).restart = none ∧ s.bank.fld KNOT_FP_CFG.KEN f = 0
  ∧ 2 * s.bank.fld KNOT_FP_CFG.M f + 1 ≤ (s.fastNext f).length
  ∧ ∀ x ∈ (s.fastNext f).take (2 * s.bank.fld KNOT_FP_CFG.M f + 1), hasBit x.flags (bSETTLING + bSELFTEST) = false

/-- FAST_PICKUP (R364, R372, R373): the Q-th hit in a row picks the detector up, counts it, and sets the commands of its enabled rows in
running bays at once. -/
def Claim.fastPicksUp : Prop := ∀ (s : State) (f : Fin 64) (b : BaseSmp), s.up = true → s.fastCounts f.val b → (s.fp f.val).up = false →
  fmul (s.bank.fld KNOT_FP_TH.VALUE f.val : Nat) (s.bank.fld KNOT_FP_TH.VALUE f.val : Nat) ≤ s.fastE2 f.val (s.fastNext f.val) →
  s.bank.fld KNOT_FP_CFG.Q f.val ≤ (s.fp f.val).count + 1 →
  GoesTo (exec (.fastPickup f) s) fun t =>
    (t.fp f.val).up = true ∧ (t.fp f.val).count = 0 ∧ (t.fp f.val).seen = b.s
    ∧ t.rd KNOT_FP_E.VALUE f.val = sat32u (isqrt (s.fastE2 f.val (s.fastNext f.val)).floor.toNat)
    ∧ t.rd KNOT_FP_PUCNT.VALUE f.val = min (s.rd KNOT_FP_PUCNT.VALUE f.val + 1) (2 ^ KNOT_FP_PUCNT.VALUE.width - 1)
    ∧ (t.rd (if f.val < 32 then KNOT_FP_PU_LO.MASK else KNOT_FP_PU_HI.MASK)).testBit (f.val % 32) = true
    ∧ (s.evaluates = true → ∀ d < 32, s.bank.fld KNOT_TM_CFG.EN d = 1 → (s.bank.rowFast d).testBit f.val = true →
        (tget {} s.eval.bay (s.bank.fld KNOT_TM_CFG.BAY d)).run = true → (t.row d).cmd = true ∧ (t.row d).fh = true ∧ t.rd KNOT_TM_STATE.CMD d = 1)
    ∧ t.grid.now = max s.grid.now (b.s / 2 ^ 32) ∧ t.nv = s.nv ∧ s.Stays t

/-- FAST_DROPOUT (R373): the Q-th sample in a row below the dropout level drops the detector out; its rows keep their commands. -/
def Claim.fastDropsOut : Prop := ∀ (s : State) (f : Fin 64) (b : BaseSmp) (lo : Rat), s.up = true → s.fastCounts f.val b → (s.fp f.val).up = true →
  lo = (s.bank.fld KNOT_FP_TH.VALUE f.val : Nat) * (s.bank.fld KNOT_FP_CFG.DO f.val : Nat) / 256 →
  s.fastE2 f.val (s.fastNext f.val) < fmul lo lo → s.bank.fld KNOT_FP_CFG.Q f.val ≤ (s.fp f.val).count + 1 →
  GoesTo (exec (.fastDropout f) s) fun t =>
    (t.fp f.val).up = false ∧ (t.fp f.val).count = 0 ∧ (t.fp f.val).seen = b.s
    ∧ (t.rd (if f.val < 32 then KNOT_FP_PU_LO.MASK else KNOT_FP_PU_HI.MASK)).testBit (f.val % 32) = false
    ∧ t.eval.row = s.eval.row ∧ t.grid.now = max s.grid.now (b.s / 2 ^ 32) ∧ t.log = s.log ∧ t.nv = s.nv ∧ s.Stays t

/-- TD_PICKUP and TD_DROPOUT (R190 to R193): the Q-th qualifying tick in a row, when it is the first that the detector has not seen, changes
its state, on the settings of that tick; a pickup is counted, and EVT logs the change with the measure. -/
def Claim.detectorFires : Prop := ∀ (s u : State) (d : Fin 128) (c : Instr) (code : Nat) (r : TickRec) (rest : List TickRec) (q w m : Nat), s.up = true →
  (c, s.rd FLT_TD_STATUS.STATE d.val, code) ∈ [(Instr.tdPickup d, 0, 0x2010), (.tdDropout d, 1, 0x2011)] → u = s.asAt r.n →
  (∀ n, (s.tdSt d.val).restart = some n → r.n < n) → u.rd FLT_TD_CFG.EN d.val = 1 →
  s.tdReady d.val = r :: rest → u.tdMeasure d.val r ((s.tdSt d.val).since + 1) = some (q, w, m) → u.tdHit d.val q w = true →
  u.rd FLT_TD_CFG.Q d.val ≤ s.rd FLT_TD_STATUS.COUNT d.val + 1 →
  GoesTo (exec c s) fun t =>
    t.rd FLT_TD_STATUS.STATE d.val = 1 - s.rd FLT_TD_STATUS.STATE d.val ∧ t.rd FLT_TD_STATUS.COUNT d.val = 0 ∧ t.rd FLT_TD_STATUS.FROZEN d.val = 0
    ∧ t.rd FLT_TD_MAG.VALUE d.val = min m (2 ^ 32 - 1) ∧ (t.tdSt d.val).next = r.n + 1
    ∧ (code = 0x2010 → t.rd FLT_TD_PICKUP_CNT.VALUE d.val = min (s.rd FLT_TD_PICKUP_CNT.VALUE d.val + 1) (2 ^ FLT_TD_PICKUP_CNT.VALUE.width - 1))
    ∧ (u.rd FLT_TD_CFG.EVT d.val = 1 → s.Logs t (r.t / 2 ^ 24) code d.val (min m (2 ^ 32 - 1))) ∧ (u.rd FLT_TD_CFG.EVT d.val = 0 → t.log = s.log)
    ∧ (∀ i, i ≠ d.val → t.tdSt i = s.tdSt i)
    ∧ s.Keeps t [.td, .log] ([FLT_TD_STATUS.STATE.key d.val 0, FLT_TD_STATUS.COUNT.key d.val 0, FLT_TD_STATUS.FROZEN.key d.val 0,
        FLT_TD_MAG.VALUE.key d.val 0, FLT_TD_PICKUP_CNT.VALUE.key d.val 0] ++ logKeys)

/-! ### Self-test, repair and spares (R524, R606 to R637) -/

/-- The keys of the registers of placement and of engine tests. -/
def engKeys : List Nat :=
  ((List.range 64).flatMap fun b => [BAY_STATUS.ENG.key b 0, BAY_STATUS.SHED.key b 0, BAY_STATUS.RUN.key b 0])
    ++ ((List.range 9).flatMap fun k => [BIST_ENG_STATUS.HEALTHY.key k 0, BIST_ENG_STATUS.CARRYING.key k 0, BIST_ENG_STATUS.TESTING.key k 0, BIST_ENG_STATUS.LAST.key k 0, BIST_ENG_STATUS.CAUSE.key k 0, BIST_ENG_PASS_CNT.VALUE.key k 0, BIST_ENG_INC_CNT.VALUE.key k 0])
    ++ [BIST_SPARE.ENG.key 0 0, BIST_STATUS.ROT_SUSP.key 0 0, BIST_STATUS.BUSY.key 0 0, BIST_STATUS.LAST.key 0 0, BIST_ROT_CNT.VALUE.key 0 0, BIST_MISR_LO.VALUE.key 0 0, BIST_MISR_HI.VALUE.key 0 0, BIST_PATCNT.VALUE.key 0 0, PAIR_STATUS.PROOF.key 0 0]

/-- ENGINE_FAIL of a healthy engine (R611, R258): out of service with its cause, not tested; its bays keep the state committed before the tick in
hand (R260), and the bays are placed again at the next tick boundary. No other engine's test changes, but where the proof cycle was at this
engine. -/
def Claim.engineFails : Prop := ∀ (s : State) (k : Fin 9) (late : Bool), s.up = true → s.rd BIST_ENG_STATUS.HEALTHY k.val = 1 →
  GoesTo (exec (.engineFail k late) s) fun t =>
    t.rd BIST_ENG_STATUS.HEALTHY k.val = 0 ∧ t.rd BIST_ENG_STATUS.CAUSE k.val = (if late then 2 else 1) ∧ tfind t.bist.eng k.val = none
    ∧ ((∀ x, tfind s.bist.eng k.val = some x → x.kind ≠ 2) → ∀ i, i ≠ k.val → tfind t.bist.eng i = tfind s.bist.eng i) ∧ t.bist.placeDue = true ∧ t.bist.sets = s.bist.sets
    ∧ s.Keeps t [.bist, .log] (engKeys ++ logKeys)

/-- The placement that a failed engine made necessary (R258, R259), as the next tick boundary performs it: no bay stands on an engine that is
not healthy, and the spare is a healthy engine or none. -/
def Claim.failedCarriesNothing : Prop := ∀ (s : State) (n t : Nat), s.bist.placeDue = true →
  (s.placeNow n t).bist.placeDue = false
  ∧ (∀ x ∈ (s.placeNow n t).bist.sets, (s.placeNow n t).rd BIST_ENG_STATUS.HEALTHY x.2 = 1)
  ∧ (∀ k < 9, s.rd BIST_ENG_STATUS.HEALTHY k = 0 →
      (s.placeNow n t).rd BIST_ENG_STATUS.CARRYING k = 0 ∧ (s.placeNow n t).rd BIST_SPARE.ENG ≠ k)

/-- ENGINE_FAIL of an engine that is out of service already: nothing happens (R611). -/
def Claim.engineFailedAlready : Prop := ∀ (s : State) (k : Fin 9) (late : Bool), s.up = true → s.rd BIST_ENG_STATUS.HEALTHY k.val = 0 →
  GoesTo (exec (.engineFail k late) s) fun t => s.Keeps t [] []

/-- SPARE_ROTATION that takes place (R613, R614): the spare carries the source engine's bays, the source tests itself, and no engine is
spare. -/
def Claim.spareRotates : Prop := ∀ (s : State) (m k : Nat), s.up = true → s.rotDue = some m → s.rotFrom = some k →
  GoesTo (exec .spareRotation s) fun t =>
    t.bist.rotAt = m / 2 ^ 24 ∧ t.bist.sets = s.bist.sets.map (fun x => (x.1, if x.2 = k then s.rd BIST_SPARE.ENG else x.2))
    ∧ t.rd BIST_SPARE.ENG = 15 ∧ t.rd BIST_ENG_STATUS.TESTING k = 1 ∧ t.rd BIST_ENG_STATUS.CARRYING k = 0
    ∧ t.rd BIST_ENG_STATUS.CARRYING (s.rd BIST_SPARE.ENG) = 1
    ∧ tfind t.bist.eng k = some { kind := 0, pat := s.rd BIST_CFG.PAT, start := s.grid.now, again := false } ∧ s.Keeps t [.bist] engKeys

/-- SPARE_ROTATION that is skipped (R613): its period is served. -/
def Claim.rotationSkipped : Prop := ∀ (s : State) (m : Nat), s.up = true → s.rotDue = some m → s.rotFrom = none →
  GoesTo (exec .spareRotation s) fun t => t.bist = { s.bist with rotAt := m / 2 ^ 24 } ∧ s.Keeps t [.bist] []

/-- What an engine's ended logic BIST shows (R607). -/
def State.BistShown (s t : State) (k misr count res t0 : Nat) : Prop :=
  t.rd BIST_ENG_STATUS.LAST k = res + 1 ∧ t.rd64 BIST_MISR_LO.VALUE BIST_MISR_HI.VALUE = misr ∧ t.rd BIST_PATCNT.VALUE = count % 2 ^ 32
  ∧ t.grid.now = max s.grid.now t0
  ∧ t.rd BIST_ENG_PASS_CNT.VALUE k = (if res = 0 then (s.rd BIST_ENG_PASS_CNT.VALUE k + 1) % 2 ^ 32 else s.rd BIST_ENG_PASS_CNT.VALUE k)
  ∧ t.rd BIST_ENG_INC_CNT.VALUE k = (if res = 2 then min (s.rd BIST_ENG_INC_CNT.VALUE k + 1) (2 ^ 32 - 1) else s.rd BIST_ENG_INC_CNT.VALUE k)

/-- ENGINE_BIST_DONE of a rotation's engine that passed (R607, R614): it is the spare. -/
def Claim.engineTestPasses : Prop := ∀ (s : State) (k : Fin 9) (misr : BitVec 64) (x : EngTest), s.up = true → tfind s.bist.eng k.val = some x →
  x.kind = 0 →
  GoesTo (exec (.engineBistDone k misr true (patterns x.pat)) s) fun t =>
    s.BistShown t k.val misr.toNat (patterns x.pat) 0 (x.start + bistTime x.pat) ∧ t.rd BIST_SPARE.ENG = k.val ∧ t.rd BIST_ENG_STATUS.TESTING k.val = 0
    ∧ t.rd BIST_ROT_CNT.VALUE = (s.rd BIST_ROT_CNT.VALUE + 1) % 2 ^ 32 ∧ tget 0 t.bist.passAt k.val = t.grid.now
    ∧ (∀ i, i ≠ k.val → tget 0 t.bist.passAt i = tget 0 s.bist.passAt i) ∧ s.Keeps t [.grid, .bist, .log] (engKeys ++ logKeys)

/-- ENGINE_BIST_DONE of a rotation's engine that failed (R607, R611): the engine is out of service with cause 3. -/
def Claim.engineTestFails : Prop := ∀ (s : State) (k : Fin 9) (misr : BitVec 64) (x : EngTest), s.up = true → tfind s.bist.eng k.val = some x →
  x.kind = 0 → s.rd BIST_ENG_STATUS.HEALTHY k.val = 1 →
  GoesTo (exec (.engineBistDone k misr false (patterns x.pat)) s) fun t =>
    s.BistShown t k.val misr.toNat (patterns x.pat) 1 (x.start + bistTime x.pat) ∧ t.rd BIST_ENG_STATUS.HEALTHY k.val = 0
    ∧ t.rd BIST_ENG_STATUS.CAUSE k.val = 3 ∧ t.bist.placeDue = true ∧ t.rd BIST_ENG_STATUS.TESTING k.val = 0
    ∧ s.Keeps t [.grid, .bist, .log] (engKeys ++ logKeys)

/-- ENGINE_BIST_DONE without the full count of patterns, the first time (R607, R609): counted, and the test is repeated. -/
def Claim.engineTestRepeats : Prop := ∀ (s : State) (k : Fin 9) (misr : BitVec 64) (ok : Bool) (count : Nat) (x : EngTest), s.up = true →
  tfind s.bist.eng k.val = some x → count ≠ patterns x.pat → x.again = false →
  GoesTo (exec (.engineBistDone k misr ok count) s) fun t =>
    s.BistShown t k.val misr.toNat count 2 (x.start + bistTime x.pat) ∧ t.rd BIST_ENG_STATUS.TESTING k.val = 1
    ∧ tfind t.bist.eng k.val = some { kind := x.kind, pat := x.pat, start := t.grid.now, again := true } ∧ s.Keeps t [.grid, .bist] engKeys

/-- ENGINE_BIST_DONE of a host's test that passed (R633): BIST_RUN is over, and the event carries the engine and the result. -/
def Claim.hostTestPasses : Prop := ∀ (s : State) (k : Fin 9) (misr : BitVec 64) (x : EngTest), s.up = true → tfind s.bist.eng k.val = some x →
  x.kind = 1 →
  GoesTo (exec (.engineBistDone k misr true (patterns x.pat)) s) fun t =>
    s.BistShown t k.val misr.toNat (patterns x.pat) 0 (x.start + bistTime x.pat) ∧ t.rd BIST_STATUS.BUSY = 0 ∧ t.rd BIST_STATUS.LAST = 0
    ∧ (s.atTime (x.start + bistTime x.pat)).Logs t t.grid.now 0xA001 k.val 0 ∧ t.rd BIST_SPARE.ENG = s.rd BIST_SPARE.ENG
    ∧ s.Keeps t [.grid, .bist, .log] (engKeys ++ logKeys)

/-- PROOF_CYCLE of a standby (R524): it starts with engine 0, ten minutes after the one before. -/
def Claim.proofBegins : Prop := ∀ s : State, s.up = true → s.role = 2 → s.bist.proof = none →
  GoesTo (exec .proofCycle s) fun t =>
    t.bist.proof = some (0, false, false) ∧ t.bist.proofAt = some t.grid.now ∧ t.rd BIST_ENG_STATUS.TESTING 0 = 1
    ∧ tfind t.bist.eng 0 = some { kind := 2, pat := 2, start := t.grid.now, again := false }
    ∧ t.grid.now = (match s.bist.proofAt with | some t0 => max s.grid.now (t0 + 600 * 250000000) | none => s.grid.now)
    ∧ s.Keeps t [.grid, .bist] engKeys

/-- BLOCK_BIST_DONE of a modulator group (R632, R634, R636): BIST_RUN is over with its result, the event carries target, result and detail,
and the group is no longer in test: its words carry SELFTEST no longer, its splices start again in WIDE and their checks wait for settling. -/
def Claim.groupTestEnds : Prop := ∀ (s : State) (fail : Bool) (detail : BitVec 8) (h : HostTest) (g : Nat), s.up = true → s.bist.host = some h →
  bistGroup h.tgt = some g →
  GoesTo (exec (.blockBistDone fail detail) s) fun t =>
    t.bist = { s.bist with host := none } ∧ t.rd BIST_STATUS.BUSY = 0 ∧ t.rd BIST_STATUS.LAST = b2n fail
    ∧ (t.rd AFE_STATUS.GRP_BIST).testBit g = false ∧ (s.atTime (h.start + 4000000)).Logs t t.grid.now 0xA001 h.tgt (if fail then 1 + 256 * detail.toNat else 0)
    ∧ (∀ c < 64, c / 16 = g → (∀ x ∈ (t.chan c).spans, x.flag = bSELFTEST → x.hi ≠ none)
      ∧ (t.chan c).valFrom = t.grid.now * 2 ^ 32 + s.settleSpan c)
    ∧ (∀ c, c / 16 ≠ g → t.chan c = s.chan c)
    ∧ t.grid.now = max s.grid.now (h.start + 4000000)
    ∧ s.Keeps t [.grid, .bist, .log, .afe] ([BIST_STATUS.BUSY.key 0 0, BIST_STATUS.LAST.key 0 0, AFE_STATUS.GRP_BIST.key 0 0]
        ++ ((List.range 16).map fun i => AFE_CH_STATUS.TWIN_MM.key (16 * g + i) 0) ++ logKeys)

/-- BLOCK_BIST_DONE without a test of a block (R634): nothing happens. -/
def Claim.noBlockTest : Prop := ∀ (s : State) (fail : Bool) (detail : BitVec 8), s.up = true → s.bist.host = none →
  GoesTo (exec (.blockBistDone fail detail) s) fun t => s.Keeps t [] []

/-- SRAM_CORRECTED_ERROR (R620): counted, and remembered for a day; the third error of a row within a day makes the row a repair candidate, kept
in MRAM. -/
def Claim.correctedErrorCounts : Prop := ∀ (s : State) (m : Fin 32) (row t0 : Nat), s.up = true →
  GoesTo (exec (.sramCorrectedError m row t0) s) fun t =>
    t.rd BIST_SRAM_CE_CNT.VALUE m.val = min (s.rd BIST_SRAM_CE_CNT.VALUE m.val + 1) (2 ^ 32 - 1) ∧ t.grid.now = max s.grid.now t0
    ∧ (2 ≤ ((tget [] s.bist.ce m.val).filter fun x => x.1 == row && decide (t.grid.now ≤ x.2 + 86400 * 250000000)).length →
        row ∈ tget [] t.nv.bist.cand m.val)
    ∧ (((tget [] s.bist.ce m.val).filter fun x => x.1 == row && decide (t.grid.now ≤ x.2 + 86400 * 250000000)).length < 2 → t.nv = s.nv)
    ∧ t.nv = { s.nv with bist := { s.nv.bist with cand := t.nv.bist.cand } } ∧ (∀ i, i ≠ m.val → tget [] t.nv.bist.cand i = tget [] s.nv.bist.cand i)
    ∧ (∀ x ∈ tget [] s.bist.ce m.val, x ∈ tget [] t.bist.ce m.val ↔ t.grid.now ≤ x.2 + 86400 * 250000000 ∨ x = (row, t.grid.now))
    ∧ (row, t.grid.now) ∈ tget [] t.bist.ce m.val ∧ (∀ i, i ≠ m.val → tget [] t.bist.ce i = tget [] s.bist.ce i)
    ∧ t.bist = { s.bist with ce := t.bist.ce }
    ∧ s.Keeps t [.grid, .bist, .nv] [BIST_SRAM_CE_CNT.VALUE.key m.val 0, BIST_SRAM_REP.FUSED.key m.val 0, BIST_SRAM_REP.CAND.key m.val 0]

/-- SRAM_UNCORRECTABLE and LOCKSTEP_MISMATCH (R617, R621, R652): the internal fault is logged with its value, every entry of the log's queue
becomes durable where MRAM takes writes, and the logic side is held in reset with cause 8 or 7; the custody memory and the settings stay. -/
def Claim.faultRestarts : Prop := ∀ (s : State) (m : Fin 32) (c : Instr) (k v : Nat), s.up = true →
  (c, k, v) ∈ [(Instr.sramUncorrectable m, 8, 0x0A40 + m.val), (.lockstepMismatch, 7, 0x0A01)] →
  GoesTo (exec c s) fun t =>
    (s.rd EVT_STATUS.READY = 1 → s.writesHeld = false → s.log.queue.length ≤ 20480 →
      ∀ e ∈ (s.logEv 0x0006 0 v).log.queue, ∃ d ∈ t.nv.log.entries, { d with seq := e.1.seq, flags := e.1.flags } = e.1) ∧
    t.pwr = { phase := .held, rstN := s.pwr.rstN, step2 := decide (k = 7) } ∧ t.rd PWR_RST_CAUSE.CAUSE = k
    ∧ t.rd PWR_RST_CAUSE.PREV = s.rd PWR_RST_CAUSE.CAUSE % 16 ∧ t.rd PWR_RST_CNT.VALUE = min (s.rd PWR_RST_CNT.VALUE + 1) (2 ^ 32 - 1)
    ∧ t.grid = { now := s.grid.now, bound := s.grid.bound } ∧ t.tap = s.tap ∧ t.log = {} ∧ t.host = {} ∧ t.cust = {} ∧ t.rec' = {} ∧ t.pair = {}
    ∧ t.nv.cust = s.nv.cust ∧ t.nv.afe = s.nv.afe ∧ t.nv.lat = s.nv.lat ∧ t.nv.epoch = s.nv.epoch ∧ t.nv.nor = s.nv.nor
    ∧ (∀ x, x ∉ lifeKeys → x ∉ rstKeys → tfind t.regs x = tfind State.reset.regs x) ∧ t.settings = s.settings ∧ t.pending = s.pending ∧ t.OutputsOk

/-- The keys of the registers that show spares. -/
def spareKeys : List Nat :=
  [BIST_NAND_SPARE.VALUE.key 0 0, BIST_NAND_RETIRED.VALUE.key 0 0, BIST_NAND_PE_AVG.VALUE.key 0 0, BIST_NAND_PE_MAX.VALUE.key 0 0, BIST_NAND_LIFE.VALUE.key 0 0, BIST_MRAM_SPARE.VALUE.key 0 0, BIST_MRAM_SPARED_CNT.VALUE.key 0 0]

/-- NAND_BLOCK_RETIRED with a spare left (R625): the block is replaced and marked bad, and the event carries it with the spares left. -/
def Claim.nandBlockReplaced : Prop := ∀ (s : State) (blk : Fin 16384), s.up = true → 0 < s.nv.bist.nandSpare → blk.val ∉ s.nv.bist.nandBad →
  GoesTo (exec (.nandBlockRetired blk) s) fun t =>
    t.nv = { s.nv with bist := { s.nv.bist with nandSpare := s.nv.bist.nandSpare - 1, nandRetired := s.nv.bist.nandRetired + 1, nandBad := blk.val :: s.nv.bist.nandBad } }
    ∧ t.rd BIST_NAND_SPARE.VALUE = (s.nv.bist.nandSpare - 1) % 2 ^ 11 ∧ t.rd BIST_NAND_RETIRED.VALUE = (s.nv.bist.nandRetired + 1) % 2 ^ 32
    ∧ s.Logs t s.grid.now 0xA005 blk.val (s.nv.bist.nandSpare - 1) ∧ s.Keeps t [.log, .nv] (spareKeys ++ logKeys)

/-- NAND_BLOCK_RETIRED with no spare (R627): a record block is lost, and the event says so; where no block is free the oldest unprotected record
is deleted for it. -/
def Claim.nandBlockLost : Prop := ∀ (s : State) (blk : Fin 16384), s.up = true → s.nv.bist.nandSpare = 0 → blk.val ∉ s.nv.bist.nandBad →
  GoesTo (exec (.nandBlockRetired blk) s) fun t =>
    t.nv.bist = { s.nv.bist with nandRetired := s.nv.bist.nandRetired + 1, nandLost := s.nv.bist.nandLost + 1, nandBad := blk.val :: s.nv.bist.nandBad }
    ∧ (262144 ≤ s.storeFree → t.nv.rec' = s.nv.rec' ∧ s.Logs t s.grid.now 0xA005 blk.val 65536
        ∧ s.Keeps t [.log, .nv] (spareKeys ++ [REC_STORE_FREE.VALUE.key 0 0, REC_STORE_RECS.VALUE.key 0 0, REC_STATUS.STORE_FULL.key 0 0,
            REC_NEXT_ID.VALUE.key 0 0] ++ logKeys))
    ∧ (s.storeFree < 262144 → ∀ r, (s.nv.rec'.recs.reverse.find? fun r => !r.flags.testBit 12) = some r →
        t.nv.rec' = { s.nv.rec' with recs := s.nv.rec'.recs.filter fun x => x.id != r.id })
    ∧ t.rd REC_STORE_FREE.VALUE = t.storeFree / 2 ^ 20 % 2 ^ 32 ∧ t.rd BIST_NAND_SPARE.VALUE = 0
    ∧ t.rd BIST_NAND_RETIRED.VALUE = (s.nv.bist.nandRetired + 1) % 2 ^ 32 ∧ s.Stays t

/-- NAND_BLOCK_RETIRED of a block that is marked bad already (R625): it holds nothing, and nothing happens. -/
def Claim.nandBlockBad : Prop := ∀ (s : State) (blk : Fin 16384), s.up = true → blk.val ∈ s.nv.bist.nandBad →
  GoesTo (exec (.nandBlockRetired blk) s) fun t => s.Keeps t [] []

/-- MRAM_SECTOR_SPARED with a spare sector left (R629): remapped to it, with the event. -/
def Claim.sectorRemapped : Prop := ∀ (s : State) (x : MramFail), s.up = true → 0 < s.nv.bist.mramSpare →
  GoesTo (exec (.mramSectorSpared x) s) fun t =>
    t.nv = { s.nv with bist := { s.nv.bist with mramSpare := s.nv.bist.mramSpare - 1, mramSpared := s.nv.bist.mramSpared + 1 } }
    ∧ t.rd BIST_MRAM_SPARE.VALUE = (s.nv.bist.mramSpare - 1) % 2 ^ 7
    ∧ t.rd BIST_MRAM_SPARED_CNT.VALUE = (s.nv.bist.mramSpared + 1) % 2 ^ BIST_MRAM_SPARED_CNT.VALUE.width ∧ s.Logs t s.grid.now 0xA006 x.sec.val (s.nv.bist.mramSpare - 1)
    ∧ s.Keeps t [.log, .nv] (spareKeys ++ logKeys)

/-- MRAM_SECTOR_SPARED with none left (R631): every failed verify is an internal fault; an object in two copies whose write failed three times
goes on with its older copy, and with fewer failures what the memory holds stays. -/
def Claim.sectorNotRemapped : Prop := ∀ (s : State) (x : MramFail), s.up = true → s.nv.bist.mramSpare = 0 →
  GoesTo (exec (.mramSectorSpared x) s) fun t =>
    t.pwr.fault = true ∧ (x.obj = none ∨ x.tries < 3 → t.nv = s.nv ∧ t.grid = s.grid ∧ s.Keeps t [.log, .pwr, .host] (causeKeys ++ logKeys))
    ∧ (3 ≤ x.tries →
        (x.obj = some .bound → t.grid = { s.grid with bound := s.grid.bound.keepOlder } ∧ t.nv = s.nv)
        ∧ (x.obj = some .custody → t.nv = { s.nv with cust := if s.nv.cust.old.isSome then s.nv.cust.found 1 else s.nv.cust })
        ∧ (x.obj = some .epoch → t.nv = { s.nv with epoch := s.nv.epoch.keepOlder })
        ∧ (x.obj = some .skew → t.nv = { s.nv with afe := { s.nv.afe with skew := s.nv.afe.skew.keepOlder } })
        ∧ (x.obj = some .filters → t.nv = { s.nv with afe := { s.nv.afe with store := s.nv.afe.store.keepOlder } })
        ∧ (∀ r, x.obj = some (.latch r) → t.nv = { s.nv with lat := tmod {} s.nv.lat r.val fun y => y.keepOlder }))
    ∧ s.Keeps t [.log, .pwr, .host, .nv, .grid] (causeKeys ++ logKeys)

/-- FUSE_BURN_DONE (R622): the macro's rows are in its fuses and no longer candidates; the event carries how many. -/
def Claim.fusesBurned : Prop := ∀ (s : State) (m : Nat) (b : Burn), s.up = true → firstBurn s.bist.burns = some (m, b) →
  GoesTo (exec .fuseBurnDone s) fun t =>
    t.bist = { s.bist with burns := terase s.bist.burns m } ∧ tget 0 t.nv.bist.fused m = tget 0 s.nv.bist.fused m + b.rows.length
    ∧ (∀ r, r ∈ tget [] t.nv.bist.cand m ↔ r ∈ tget [] s.nv.bist.cand m ∧ r ∉ b.rows)
    ∧ (∀ i, i ≠ m → tget 0 t.nv.bist.fused i = tget 0 s.nv.bist.fused i ∧ tget [] t.nv.bist.cand i = tget [] s.nv.bist.cand i)
    ∧ t.nv.bist = { s.nv.bist with fused := t.nv.bist.fused, used := t.nv.bist.used, cand := t.nv.bist.cand } ∧ t.rd BIST_SRAM_REP.FUSED m = (tget 0 s.nv.bist.fused m + b.rows.length) % 32
    ∧ (s.atTime b.done).Logs t t.grid.now 0xA004 m (65536 + b.rows.length) ∧ t.grid.now = max s.grid.now b.done
    ∧ t.nv = { s.nv with bist := t.nv.bist } ∧ s.Keeps t [.grid, .bist, .nv, .log] ([BIST_SRAM_REP.FUSED.key m 0, BIST_SRAM_REP.CAND.key m 0] ++ logKeys)

/-! ### The recorders (R427 to R466) -/

/-- The keys of the registers that show a recorder instance's state. -/
def recKeys : List Nat :=
  REC_STATUS.DRAIN_BEHIND.key 0 0 :: (List.range 4).flatMap fun i =>
    [REC_STATE.STATE.key i 0, REC_STATE.LATCHED.key i 0, REC_CUR_ID.VALUE.key i 0, REC_HIST.VALUE.key i 0, REC_FREE_BLK.VALUE.key i 0]

/-- The trigger that an edge at device time `t` gives an instance, `lat` nanoseconds earlier. -/
def edgeTrig (t lat src : Nat) : RecTrig := { t := ((t : Int) * 2 ^ 24 - lat * 2 ^ 22).toNat, src := 2 ^ src }

/-- TRIG_IN_EDGE of the polarity selected (R440): each armed instance that listens has the trigger, LAT before the edge. -/
def Claim.trigInTriggers : Prop := ∀ (s : State) (t0 : Nat) (rising : Bool), s.up = true → s.rd REC_EXT_CFG.POL = b2n (!rising) →
  GoesTo (exec (.trigInEdge t0 rising) s) fun t =>
    (∀ i < 4, (t.recInst i).trig = if s.rd REC_CFG.TRIGIN i = 1 ∧ 2 ≤ (s.recInst i).st then
        (s.recInst i).trig ++ [edgeTrig t0 (s.rd REC_EXT_CFG.LAT) 16] else (s.recInst i).trig)
    ∧ (∀ i < 4, (t.recInst i).st = (s.recInst i).st) ∧ t.grid.now = max s.grid.now t0 ∧ s.Keeps t [.grid, .recd] recKeys

/-- TRIG_BUS_EDGE, a fall that the 1 µs filter passes while the part does not drive the line (R440, R443): counted, and each armed instance that
listens has the trigger. -/
def Claim.trigBusTriggers : Prop := ∀ (s : State) (e : LineEdge) (t0 : Nat), s.up = true → s.rd REC_TB_CFG.IN_EN = 1 → s.rec'.busOut = none →
  e.t = t0 → e.lvl = false → 250 ≤ e.held → s.rec'.busLow + 250 ≤ t0 →
  GoesTo (exec (.trigBusEdge e) s) fun t =>
    (∀ i < 4, (t.recInst i).trig = if s.rd REC_CFG.TRIGBUS i = 1 ∧ 2 ≤ (s.recInst i).st then
        (s.recInst i).trig ++ [edgeTrig t0 (s.rd REC_TB_CFG.DLY) 17] else (s.recInst i).trig)
    ∧ t.rd REC_TB_CNT.VALUE = min (s.rd REC_TB_CNT.VALUE + 1) (2 ^ REC_TB_CNT.VALUE.width - 1) ∧ t.grid.now = max s.grid.now (t0 + 250)
    ∧ s.Keeps t [.grid, .recd] (REC_TB_CNT.VALUE.key 0 0 :: recKeys)

/-- TRIG_BUS_EDGE of the part's own pulse (R443): no trigger. -/
def Claim.ownPulseIgnored : Prop := ∀ (s : State) (x : LineEdge) (e : Nat), s.up = true → s.rec'.busOut = some e →
  GoesTo (exec (.trigBusEdge x) s) fun t => t.rec' = { s.rec' with busLow := t.rec'.busLow } ∧ s.Keeps t [.grid, .recd] []

/-- TRIG_BUS_EDGE of a rise, of a fall that lasts less than 1 µs, or of one after a high shorter than that (R440): the filter takes it out. -/
def Claim.busGlitchIgnored : Prop := ∀ (s : State) (x : LineEdge), s.up = true →
  (x.lvl = true ∨ x.held < 250 ∨ (s.rec'.busLow ≠ 0 ∧ x.t < s.rec'.busLow + 250)) →
  GoesTo (exec (.trigBusEdge x) s) fun t => t.rec' = { s.rec' with busLow := t.rec'.busLow } ∧ t.grid = s.grid ∧ s.Keeps t [.recd] []

/-- TRIG_BUS_PULSE_END (R443): at the pulse's end the line is released. -/
def Claim.busReleased : Prop := ∀ (s : State) (e : Nat), s.up = true → s.rec'.busOut = some e →
  GoesTo (exec .trigBusPulseEnd s) fun t =>
    t.rec' = { s.rec' with busOut := none } ∧ t.pads.trigLow = false ∧ t.grid.now = max s.grid.now e ∧ s.Keeps t [.grid, .recd] []

/-- REC_SAMPLE_CAPTURE of an armed instance whose next sample is available (R437, R447): the sample, or its gap, heads the history. -/
def Claim.sampleCaptured : Prop := ∀ (s : State) (x : Fin 4) (h : RecSmp), s.up = true → 2 ≤ (s.recInst x.val).st →
  s.detectors.recSample x.val (s.recInst x.val).next = some h →
  GoesTo (exec (.recSampleCapture x) s) fun t =>
    (t.recInst x.val).next = h.j + 1 ∧ (∃ y, (t.recInst x.val).hist.head? = some y ∧ y.j = h.j ∧ y.t = h.t ∧ (y.gap = false → y = h))
    ∧ t.nv = { s.nv with rec' := t.nv.rec' } ∧ s.Stays t

/-- REC_SAMPLE_CAPTURE of a sample that is not available, or by an instance that is not armed (R437): nothing happens. -/
def Claim.sampleWaits : Prop := ∀ (s : State) (x : Fin 4), s.up = true →
  ((s.recInst x.val).st < 2 ∨ s.detectors.recSample x.val (s.recInst x.val).next = none) →
  GoesTo (exec (.recSampleCapture x) s) fun t => s.Keeps t [] []

/-- The sample of the one trigger that waits starts a record (R441, R442, R444, R450, R464): the instance records with the next record ID, its
trigger instant and its last sample, and the trigger is counted. -/
def Claim.recordBegins : Prop := ∀ (s : State) (x : Fin 4) (h : RecSmp) (tr : RecTrig), s.up = true → (s.recInst x.val).st = 2 →
  (s.recInst x.val).cur = none → (s.recInst x.val).rearm = none → (s.recInst x.val).trig = [tr] → (s.recInst x.val).skip = 0 → s.recIdleRole = false →
  s.detectors.recSample x.val (s.recInst x.val).next = some h → (∀ y ∈ (s.recInst x.val).hist, y.t < tr.t) → tr.t ≤ h.t →
  (∀ k < 16, s.rd REC_TRG_CTL.EN x.val k = 0) → s.storeFull ((s.recCfg x.val).need * (s.recCfg x.val).blkBytes) = false →
  2 ≤ (s.recCfg x.val).postS →
  GoesTo (exec (.recSampleCapture x) s) fun t =>
    t.rd REC_STATE.STATE x.val = 3 ∧ (t.recInst x.val).trig = []
    ∧ (∃ r, (t.recInst x.val).cur = some r ∧ r.id = s.nv.rec'.seq % 2 ^ 31 + 2 ^ 31 * s.rd PAIR_CFG.RANK ∧ r.t = tr.t ∧ r.src = tr.src ∧ r.j0 = h.j
        ∧ r.last = h.j + (s.recCfg x.val).postS - 1 ∧ t.rd REC_CUR_ID.VALUE x.val = r.id % 2 ^ 32)
    ∧ t.nv = { s.nv with rec' := { s.nv.rec' with seq := s.nv.rec'.seq + 1 } }
    ∧ t.rd REC_TRIG_CNT.VALUE x.val = min (s.rd REC_TRIG_CNT.VALUE x.val + 1) (2 ^ REC_TRIG_CNT.VALUE.width - 1) ∧ s.Stays t

/-- REARM_END with no trigger latched (R446): the instance is ARMED again. -/
def Claim.rearmEnds : Prop := ∀ (s : State) (x : Fin 4) (a e : Nat), s.up = true → (s.recInst x.val).st = 4 → (s.recInst x.val).rearm = some (a, e) →
  (s.recInst x.val).trig = [] →
  GoesTo (exec (.rearmEnd x) s) fun t =>
    t.recInst x.val = { s.recInst x.val with st := 2 } ∧ t.rd REC_STATE.STATE x.val = 2 ∧ t.rd REC_STATE.LATCHED x.val = 0
    ∧ t.grid.now = max s.grid.now (e / 2 ^ 24) ∧ s.Keeps t [.grid, .recd] recKeys

/-- REC_BLOCK_DRAINED of the instance served, with the oldest complete block that a record holds (R448): its bytes are in the store, and the
instances after it come first from now on. -/
def Claim.blockDrains : Prop := ∀ (s : State) (x : Fin 4) (b : RecBlk), s.up = true → s.writesHeld = false → s.rec'.draining = some x.val →
  ((s.recInst x.val).blk.reverse.find? fun b => b.closed && !b.drained && b.used (s.recsOf x.val)) = some b →
  GoesTo (exec (.recBlockDrained x) s) fun t =>
    t.nv.rec'.bytes = s.nv.rec'.bytes + (s.recCfg x.val).blkBytes ∧ (∀ y ∈ (t.recInst x.val).blk, y.first = b.first → y.drained = true)
    ∧ t.nv.bist.erases = s.nv.bist.erases + ((s.nv.rec'.bytes + (s.recCfg x.val).blkBytes) / 262144 - s.nv.rec'.bytes / 262144)
    ∧ t.nv.rec'.seq = s.nv.rec'.seq ∧ t.grid = s.grid ∧ t.rec'.served = x.val ∧ s.Stays t

/-- With no block draining, the next instance that has one begins, in rotation after the one served last (R448). -/
def Claim.drainsRotate : Prop := ∀ (s : State), s.rec'.draining = none →
  (∀ i, s.drainNext.rec'.draining = some i → (s.drainable i).isSome = true ∧ ∃ k < 4, i = (s.rec'.served + 1 + k) % 4
      ∧ ∀ j < k, s.drainable ((s.rec'.served + 1 + j) % 4) = none)
  ∧ (s.drainNext.rec'.draining = none → ∀ i < 4, s.drainable i = none)

/-- REC_BLOCK_DRAINED while nothing is written to NAND, or of an instance that is not served (R448, R643): nothing happens. -/
def Claim.drainWaits : Prop := ∀ (s : State) (x : Fin 4), s.up = true → s.writesHeld = true ∨ s.rec'.draining ≠ some x.val →
  GoesTo (exec (.recBlockDrained x) s) fun t => s.Keeps t [] []

/-! ### The register window (R3 to R6, R15, R539, R563 to R568) -/

/-- The memory after the host's bytes, each at its address of the berth window. -/
def hostBytes (m : List Host.Cell) (l : List (Nat × Byte)) : List Host.Cell :=
  l.foldl (fun m x => if x.1 < 131072 then memWrite m x.1 x.2 else m) m

/-- The keys of the fields of a register that one access code covers. -/
def accKeys (a : Nat) (c : Access) : List Nat := ((fieldsAt plainFields a).filter fun x => x.1.acc == c).map fun x => x.1.key x.2.1 x.2.2

/-- The addresses at which a host write does more than write its fields, or at which no plain register lies. -/
def ownWrite (a : Nat) : Bool :=
  (decide (0x1000 ≤ a) && decide (a < 0x3000)) || inMsix a || inElm a
  || [HOST_CTRL.RESET.addr, AFE_TDAC_CTRL.DEST.addr, AFE_TDAC_DATA.CODE.addr, AFE_TESTMARK_LO.MASK.addr, AFE_TESTMARK_HI.MASK.addr,
      KNOT_TM_RESET.MASK.addr, KNOT_TM_FORCE_EN.MASK.addr, KNOT_TM_FORCE_VAL.MASK.addr, PBUS_LEAP.DIR.addr, PBUS_MDIO.VALUE.addr,
      PBUS_TOD_LO.VALUE.addr, PBUS_TOD_HI.VALUE.addr, AUX_XCHK_CFG.EN.addr].contains a
  || (AUX_INJ_REQ.VALUE.indexAt a).isSome || (AUX_TRG_CFG.SRC.indexAt a).isSome || (BAY_PSTREAM.EN.indexAt a).isSome

/-- The fields that a write of `w` to a register changes hold what R4 says. -/
def State.Written (s t : State) (a w : Nat) : Prop :=
  ∀ x ∈ fieldsAt plainFields a, (x.1.acc = .RW → t.rd x.1 x.2.1 x.2.2 = x.1.get w)
    ∧ (x.1.acc = .W1C → t.rd x.1 x.2.1 x.2.2 = andNot (s.rd x.1 x.2.1 x.2.2) (x.1.get w) % 2 ^ x.1.width)

/-- The register map (R3, R4): no two fields of a register share a bit, so what an access does to one it does to that one alone. -/
def Claim.fieldsLieApart : Prop := ∀ (a : Nat) (i j : Nat) (x y : Field × Nat × Nat), (fieldsAt plainFields a)[i]? = some x →
  (fieldsAt plainFields a)[j]? = some y → i ≠ j → x.1.lsb + x.1.width ≤ y.1.lsb ∨ y.1.lsb + y.1.width ≤ x.1.lsb

/-- REGISTER_WRITE of a word, all byte enables set, to a register without settings fields and without a meaning of its own (R4, R564): the
RW fields hold what was written, the W1C fields lose the bits written as 1, nothing else changes. -/
def Claim.registerWritten : Prop := ∀ (s : State) (q : Bool) (a w : Word), s.up = true → a.toNat < berthBit → a.toNat % 4 = 0 → ownWrite a.toNat = false →
  s.spMaskAt a.toNat = 0 → (sessionOnly a.toNat = true → s.foreign q = false) →
  GoesTo (exec (.registerWrite q a 15 w) s) fun t =>
    s.Written t a.toNat w.toNat ∧ s.Keeps t [] (accKeys a.toNat .RW ++ accKeys a.toNat .W1C)

/-- REGISTER_WRITE of the berth window (R565; which access is one is the model's choice, log entry 116): the bytes enabled that lie in B0 are
taken, the others ignored. -/
def Claim.berthWindowWritten : Prop := ∀ (s : State) (q : Bool) (a w : Word) (be : BitVec 4), s.up = true → berthBit ≤ a.toNat →
  GoesTo (exec (.registerWrite q a be w) s) fun t =>
    t.host.mem = hostBytes s.host.mem (((List.range 4).filter fun i => be.toNat.testBit i).map fun i =>
      (a.toNat - berthBit + i, BitVec.ofNat 8 (w.toNat / 256 ^ i)))
    ∧ s.Keeps t [.mem] []

/-- A read of the berth window (R565): the host has the bytes that enabled berths hold there, and 0 where none lies. -/
def Claim.berthWindowRead : Prop := ∀ (s : State) (q : Bool) (a : Word), s.up = true → berthBit ≤ a.toNat →
  GoesTo (exec (.rcRead q a) s) fun t =>
    t.host = { s.host with rdata := ofLe ((List.range 4).map fun i =>
      if ∃ b < 256, s.rd HOST_BERTH_CFG.EN b = 1 ∧ s.berthBase b ≤ a.toNat - berthBit + i ∧ a.toNat - berthBit + i < s.berthBase b + s.berthSize b
      then memRead s.host.mem (a.toNat - berthBit + i) else 0) }
    ∧ s.Keeps t [.host] []

/-- REGISTER_WRITE with a byte enable missing, or of an address that is no word's (R564): ignored. -/
def Claim.partialWriteIgnored : Prop := ∀ (s : State) (q : Bool) (a w : Word) (be : BitVec 4), a.toNat < berthBit → be ≠ 15 ∨ a.toNat % 4 ≠ 0 →
  GoesTo (exec (.registerWrite q a be w) s) fun t => s.Keeps t [] []

/-- REGISTER_WRITE of the interrupt registers from the interface that has not the session (R568): ignored and counted. -/
def Claim.foreignWriteCounted : Prop := ∀ (s : State) (q : Bool) (a w : Word), s.up = true → a.toNat % 4 = 0 → sessionOnly a.toNat = true →
  s.foreign q = true →
  GoesTo (exec (.registerWrite q a 15 w) s) fun t =>
    t.rd HOST_BADPTR_CNT.VALUE = min (s.rd HOST_BADPTR_CNT.VALUE + 1) (2 ^ 32 - 1) ∧ s.Keeps t [] [HOST_BADPTR_CNT.VALUE.key 0 0]

/-- REGISTER_WRITE of an MSI-X table word (R5, R603, R604): the word is held, but for the reserved bits of Vector Control, and unmasking a vector
held pending delivers it. -/
def Claim.msixWritten : Prop := ∀ (s : State) (q : Bool) (a w : Word), s.up = true → a.toNat % 4 = 0 → 0x8000 ≤ a.toNat → a.toNat < 0x8200 →
  GoesTo (exec (.registerWrite q a 15 w) s) fun t =>
    let k := (a.toNat - 0x8000) / 4
    tget 0 t.host.msix k = (if k % 4 = 3 then w.toNat % 2 else w.toNat)
    ∧ (k % 4 = 3 → w.toNat % 2 = 0 → s.host.msixPba.testBit (k / 4) = true →
        t.host.msixPba.testBit (k / 4) = false ∧ t.host.sent = some (k / 4))
    ∧ (k % 4 ≠ 3 ∨ w.toNat % 2 = 1 ∨ s.host.msixPba.testBit (k / 4) = false → t.host.msixPba = s.host.msixPba ∧ t.host.sent = s.host.sent)
    ∧ (∀ i ≠ k, tfind t.host.msix i = tfind s.host.msix i)
    ∧ t.host = { s.host with msix := t.host.msix, msixPba := t.host.msixPba, sent := t.host.sent } ∧ s.Keeps t [.host] []

/-- SP_WRITE that differs from the settings in force (R539): the settings bits are ignored, the write is counted and logged, the other
fields take it. -/
def Claim.settingsWriteIgnored : Prop := ∀ (s : State) (q : Bool) (a w : Word), s.up = true → s.spMaskAt a.toNat ≠ 0 →
  (inElm a.toNat = true ∨ ownWrite a.toNat = false) → sessionOnly a.toNat = false →
  s.readWord a.toNat &&& s.spMaskAt a.toNat ≠ w.toNat &&& s.spMaskAt a.toNat →
  GoesTo (exec (.spWrite q a w) s) fun t =>
    t.settings = s.settings ∧ t.rd SET_SPW_CNT.VALUE = min (s.rd SET_SPW_CNT.VALUE + 1) (2 ^ 32 - 1)
    ∧ s.Logs t s.grid.now 0x9007 0 a.toNat
    ∧ (inElm a.toNat = false → ∀ x ∈ fieldsAt plainFields a.toNat, x.1.acc = .RW → t.rd x.1 x.2.1 x.2.2 = x.1.get w.toNat)
    ∧ s.Keeps t [.log] (SET_SPW_CNT.VALUE.key 0 0 :: (if inElm a.toNat then [] else accKeys a.toNat .RW ++ accKeys a.toNat .W1C) ++ logKeys)

/-- SP_WRITE of the settings in force (R539): not counted; the other fields take it. -/
def Claim.sameSettingsWrite : Prop := ∀ (s : State) (q : Bool) (a w : Word), s.up = true → s.spMaskAt a.toNat ≠ 0 →
  (inElm a.toNat = true ∨ ownWrite a.toNat = false) → sessionOnly a.toNat = false →
  s.readWord a.toNat &&& s.spMaskAt a.toNat = w.toNat &&& s.spMaskAt a.toNat →
  GoesTo (exec (.spWrite q a w) s) fun t =>
    (inElm a.toNat = false → ∀ x ∈ fieldsAt plainFields a.toNat, x.1.acc = .RW → t.rd x.1 x.2.1 x.2.2 = x.1.get w.toNat)
    ∧ s.Keeps t [] (if inElm a.toNat then [] else accKeys a.toNat .RW ++ accKeys a.toNat .W1C)

/-- The addresses at which a host read does more than return the word and clear what a read clears. -/
def ownRead (a : Nat) : Bool :=
  loRegs.contains a || (AUX_RESULT.DATA.indexAt a).isSome || (AUX_INJ_RESULT.DATA.indexAt a).isSome || (BAY_TICK_LO.VALUE.indexAt a).isSome
  || (PBUS_SV_DLY_MAX.VALUE.indexAt a).isSome

/-- RC_READ (R4, R564): the host has the word, and the fields that a read clears stand at their reset values. -/
def Claim.readClears : Prop := ∀ (s : State) (q : Bool) (a : Word), s.up = true → a.toNat < berthBit → ownRead a.toNat = false → inElm a.toNat = false →
  tfind s.host.hiLatch a.toNat = none →
  GoesTo (exec (.rcRead q a) s) fun t =>
    (∀ x ∈ fieldsAt plainFields a.toNat, x.1.acc = .RC → t.rd x.1 x.2.1 x.2.2 = x.1.reset)
    ∧ t.host = { s.host with rdata := s.readWord a.toNat } ∧ s.Keeps t [.host] (accKeys a.toNat .RC)

/-- W1C_WRITE (R4, R568): the bits written as 1 are cleared. -/
def Claim.onesClear : Prop := ∀ (s : State) (q : Bool) (a w : Word), s.up = true → (sessionOnly a.toNat = true → s.foreign q = false) →
  GoesTo (exec (.w1cWrite q a w) s) fun t =>
    (∀ x ∈ fieldsAt plainFields a.toNat, x.1.acc = .W1C → t.rd x.1 x.2.1 x.2.2 = andNot (s.rd x.1 x.2.1 x.2.2) (x.1.get w.toNat) % 2 ^ x.1.width)
    ∧ s.Keeps t [] (accKeys a.toNat .W1C)

/-- LO_READ_LATCH (R15): the host has the LO word, and the HI word behind it is latched as it stands now. -/
def Claim.lowReadLatchesHigh : Prop := ∀ (s : State) (a : Word), s.up = true → a.toNat ∈ loRegs → tfind s.host.hiLatch a.toNat = none →
  GoesTo (exec (.loReadLatch a) s) fun t =>
    t.host.rdata = s.readWord a.toNat ∧ tfind t.host.hiLatch (a.toNat + 4) = some (s.readWord (a.toNat + 4))
    ∧ (∀ x ≠ a.toNat + 4, tfind t.host.hiLatch x = tfind s.host.hiLatch x)
    ∧ t.host = { s.host with rdata := t.host.rdata, hiLatch := t.host.hiLatch } ∧ s.Keeps t [.host] []

/-- A read of a latched HI register (R15): the host has the word that the LO read latched. -/
def Claim.latchedHighRead : Prop := ∀ (s : State) (q : Bool) (a : Word) (v : Nat), s.up = true → a.toNat < berthBit → ownRead a.toNat = false →
  tfind s.host.hiLatch a.toNat = some v →
  GoesTo (exec (.rcRead q a) s) fun t =>
    t.host = { s.host with rdata := v, hiLatch := terase s.host.hiLatch a.toNat } ∧ s.Keeps t [.host] []

/-- AUX_RESULT_READ (R137): the word with VALID, its complement, OVR, XQ and SLOT; VALID and OVR are cleared, DUP is set. -/
def Claim.auxResultIsRead : Prop := ∀ (s : State) (m : Fin 2) (k : Fin 24), s.up = true →
  GoesTo (exec (.auxResultRead m k) s) fun t =>
    t.host.rdata = s.rd AUX_RESULT.DATA m k + 2 ^ 16 * s.rd AUX_RESULT.VALID m k + 2 ^ 17 * (1 - s.rd AUX_RESULT.VALID m k)
        + 2 ^ 18 * s.rd AUX_RESULT.OVR m k + 2 ^ 19 * s.rd AUX_RESULT.XQ m k + 2 ^ 24 * s.rd AUX_RESULT.SLOT m k
    ∧ t.rd AUX_RESULT.VALID m k = 0 ∧ t.rd AUX_RESULT.OVR m k = 0 ∧ t.rd AUX_RESULT.DUP m k = 1
    ∧ t.host = { s.host with rdata := t.host.rdata }
    ∧ s.Keeps t [.host] [AUX_RESULT.VALID.key m k, AUX_RESULT.OVR.key m k, AUX_RESULT.DUP.key m k]

/-- AUX_INJ_REQ_WRITE of an input that exists, with REQ (R132): the latch takes the request, or it is counted as dropped with its reason. -/
def Claim.injectionRequested : Prop := ∀ (s : State) (m : Fin 2) (w : Word), s.up = true → w.toNat.testBit 31 = true → w.toNat % 32 ≤ 23 →
  GoesTo (exec (.auxInjReqWrite m w) s) fun t =>
    (s.injReason m = 0 → (t.conv m).inj = some (w.toNat % 32, s.grid.now)
        ∧ { t.conv m with inj := (s.injCatch m |>.conv m).inj } = (s.injCatch m).conv m
        ∧ t.rd AUX_SCAN_STATUS.INJ_FULL m = 1 ∧ s.Keeps t [.aux] (convKeys m))
    ∧ (s.injReason m ≠ 0 → t.rd AUX_INJ_DROP.VALUE m = min (s.rd AUX_INJ_DROP.VALUE m + 1) (2 ^ AUX_INJ_DROP.VALUE.width - 1)
        ∧ s.Keeps t [] [AUX_INJ_DROP.VALUE.key m 0, AUX_INJ_DROP_FULL.VALUE.key m 0, AUX_INJ_DROP_CAL.VALUE.key m 0, AUX_INJ_DROP_BIST.VALUE.key m 0])

/-- AUX_INJ_REQ_WRITE without REQ, or of an input that does not exist (R132): nothing happens. -/
def Claim.noInjectionRequested : Prop := ∀ (s : State) (m : Fin 2) (w : Word), s.up = true → w.toNat.testBit 31 = false ∨ 23 < w.toNat % 32 →
  GoesTo (exec (.auxInjReqWrite m w) s) fun t => s.Keeps t [] []

/-- AUX_TRG_CFG_WRITE (R128): the source and the polarity are written, a trigger in its delay is discarded, the timer starts anew. -/
def Claim.auxTriggerConfigured : Prop := ∀ (s : State) (m : Fin 2) (w : Word), s.up = true →
  GoesTo (exec (.auxTrgCfgWrite m w) s) fun t =>
    t.rd AUX_TRG_CFG.SRC m = AUX_TRG_CFG.SRC.get w.toNat ∧ t.rd AUX_TRG_CFG.POL m = AUX_TRG_CFG.POL.get w.toNat
    ∧ t.conv m = { s.conv m with wait := none, timer := s.grid.now } ∧ t.rd AUX_SCAN_STATUS.PEND m = 0
    ∧ s.Keeps t [.aux] ([AUX_TRG_CFG.SRC.key m 0, AUX_TRG_CFG.POL.key m 0] ++ convKeys m)

/-- AFE_TDAC_CTRL_WRITE (R106): ignored while a procedure owns the test DAC, and else the fields are written and the table starts from its first
point; a RATE of 0 is not. -/
def Claim.testDacControlled : Prop := ∀ (s : State) (w : Word), s.up = true →
  GoesTo (exec (.afeTdacCtrlWrite w) s) fun t =>
    (s.tdacOwned = true → s.Keeps t [] [])
    ∧ (s.tdacOwned = false →
        t.rd AFE_TDAC_CTRL.DEST = AFE_TDAC_CTRL.DEST.get w.toNat ∧ t.rd AFE_TDAC_CTRL.WAVE = AFE_TDAC_CTRL.WAVE.get w.toNat
        ∧ t.rd AFE_TDAC_CTRL.RUN = AFE_TDAC_CTRL.RUN.get w.toNat ∧ t.rd AFE_TDAC_CTRL.ATT = AFE_TDAC_CTRL.ATT.get w.toNat
        ∧ t.rd AFE_TDAC_CTRL.LEN = AFE_TDAC_CTRL.LEN.get w.toNat
        ∧ (AFE_TDAC_CTRL.RATE.get w.toNat ≠ 0 → t.rd AFE_TDAC_CTRL.RATE = AFE_TDAC_CTRL.RATE.get w.toNat)
        ∧ (AFE_TDAC_CTRL.RATE.get w.toNat = 0 → t.rd AFE_TDAC_CTRL.RATE = s.rd AFE_TDAC_CTRL.RATE)
        ∧ { t.afe with dacAt := s.afe.dacAt } = s.afe ∧ t.afe.dacAt = s.grid.now
        ∧ s.Keeps t [.afe] [AFE_TDAC_CTRL.DEST.key 0 0, AFE_TDAC_CTRL.WAVE.key 0 0, AFE_TDAC_CTRL.RUN.key 0 0, AFE_TDAC_CTRL.ATT.key 0 0,
            AFE_TDAC_CTRL.LEN.key 0 0, AFE_TDAC_CTRL.RATE.key 0 0])

/-- AFE_TESTMARK_WRITE (R109): the marks are written in maintenance mode, and ignored out of it. -/
def Claim.testMarksWritten : Prop := ∀ (s : State) (hi : Bool) (w : Word), s.up = true →
  GoesTo (exec (.afeTestmarkWrite hi w) s) fun t =>
    (s.maint = false → s.Keeps t [] [])
    ∧ (s.maint = true → t.rd AFE_TESTMARK_LO.MASK = (if hi then s.rd AFE_TESTMARK_LO.MASK else w.toNat)
        ∧ t.rd AFE_TESTMARK_HI.MASK = (if hi then w.toNat else s.rd AFE_TESTMARK_HI.MASK)
        ∧ s.Keeps t [] [if hi then AFE_TESTMARK_HI.MASK.key 0 0 else AFE_TESTMARK_LO.MASK.key 0 0])

/-- The keys that a bay's latched measurement registers have. -/
def bayLatchKeys (b : Nat) : List Nat :=
  [BAY_FREQ.VALUE.key b 0, BAY_SYNCFREQ.VALUE.key b 0, BAY_TICK_LO.VALUE.key b 0, BAY_TICK_HI.VALUE.key b 0, BAY_PQ_STATUS.VALID.key b 0,
    BAY_H_PSW.PSW.key b 0]
  ++ ((List.range 16).flatMap fun i => [BAY_M_RE.VALUE.key b i, BAY_M_IM.VALUE.key b i, BAY_M_RMS.VALUE.key b i, BAY_M_PSW.PSW.key b i])
  ++ ((List.range 6).flatMap fun i => [BAY_SEQ_RE.VALUE.key b i, BAY_SEQ_IM.VALUE.key b i, BAY_SEQ_PSW.PSW.key b i])
  ++ ((List.range 16).flatMap fun i => [BAY_PQ.VALUE.key b i, BAY_H_RE.VALUE.key b i, BAY_H_IM.VALUE.key b i])

/-- BAY_TICK_LO_READ (R272): the registers of the bay show its latest completed tick, one and the same, and the host has its low word. -/
def Claim.bayRegistersLatched : Prop := ∀ (s : State) (b : Fin 64) (r : TickRec), s.up = true → s.lastDone b = some r →
  GoesTo (exec (.bayTickLoRead b) s) fun t =>
    t.host.rdata = r.n % 2 ^ 32 ∧ t.rd BAY_TICK_LO.VALUE b = r.n % 2 ^ 32 ∧ t.rd BAY_TICK_HI.VALUE b = r.n / 2 ^ 32 % 2 ^ 32
    ∧ (∀ i < 16, t.rd BAY_M_RE.VALUE b i = toBits 32 (s.slotPh b i r.n).re ∧ t.rd BAY_M_IM.VALUE b i = toBits 32 (s.slotPh b i r.n).im
        ∧ t.rd BAY_M_PSW.PSW b i = (s.slotPh b i r.n).psw % 2 ^ BAY_M_PSW.PSW.width)
    ∧ t.host = { s.host with rdata := t.host.rdata } ∧ s.Keeps t [.host] (bayLatchKeys b)

/-- BAY_TICK_LO_READ of a bay without a completed tick (R272): the word that stands there. -/
def Claim.noTickToLatch : Prop := ∀ (s : State) (b : Fin 64), s.up = true → s.lastDone b = none →
  GoesTo (exec (.bayTickLoRead b) s) fun t =>
    t.host = { s.host with rdata := s.readWord (BAY_TICK_LO.VALUE.at' b 0) } ∧ s.Keeps t [.host] []

/-- The keys of the registers that show the rows of the trip matrix. -/
def rowKeys : List Nat :=
  KNOT_TM_CMD.MASK.key 0 0 :: (List.range 32).flatMap fun d =>
    [KNOT_TM_STATE.CMD.key d 0, KNOT_TM_STATE.LAT.key d 0, KNOT_TM_STATE.FH.key d 0, KNOT_TM_STATE.DRV.key d 0, KNOT_TM_STATE.FORCED.key d 0]

/-- KNOT_TM_RESET_WRITE (R365): the rows in the mask have a reset requested, the others are as they were. -/
def Claim.latchResetRequested : Prop := ∀ (s : State) (w : Word), s.up = true →
  GoesTo (exec (.knotTmResetWrite w) s) fun t =>
    (∀ d < 32, t.row d = { s.row d with hr := (s.row d).hr || w.toNat.testBit d }) ∧ { t.eval with row := s.eval.row } = s.eval
    ∧ s.Keeps t [.eval] rowKeys

/-- KNOT_TM_FORCE_WRITE (R368, R382): in maintenance mode the mask is written and each row is forced as the masks say, none in replay; out of it
nothing happens. -/
def Claim.rowsForced : Prop := ∀ (s : State) (val : Bool) (w : Word), s.up = true →
  GoesTo (exec (.knotTmForceWrite val w) s) fun t =>
    (s.maint = false → s.Keeps t [] [])
    ∧ (s.maint = true → t.rd KNOT_TM_FORCE_EN.MASK = (if val then s.rd KNOT_TM_FORCE_EN.MASK else w.toNat)
        ∧ t.rd KNOT_TM_FORCE_VAL.MASK = (if val then w.toNat else s.rd KNOT_TM_FORCE_VAL.MASK)
        ∧ (∀ d < 32, t.row d = { s.row d with force := if s.role ≠ 3 ∧ (t.rd KNOT_TM_FORCE_EN.MASK).testBit d = true then some ((t.rd KNOT_TM_FORCE_VAL.MASK).testBit d) else none })
        ∧ { t.eval with row := s.eval.row } = s.eval
        ∧ s.Keeps t [.eval] ((if val then KNOT_TM_FORCE_VAL.MASK.key 0 0 else KNOT_TM_FORCE_EN.MASK.key 0 0) :: rowKeys))

/-- PBUS_LEAP_WRITE of an announcement (R235): DIR is written and LEAP_PENDING follows; the reserved one is ignored. -/
def Claim.leapAnnounced : Prop := ∀ (s : State) (w : Word), s.up = true →
  GoesTo (exec (.pbusLeapWrite w) s) fun t =>
    (w.toNat % 4 = 3 → s.Keeps t [] [])
    ∧ (w.toNat % 4 ≠ 3 → t.rd PBUS_LEAP.DIR = w.toNat % 4 ∧ t.pbus.time.leap = w.toNat % 4 ∧ t.rd GRID_TQ.LEAP_PENDING = b2n (w.toNat % 4 != 0)
        ∧ t.pbus = { s.pbus with time := { s.pbus.time with leap := w.toNat % 4 } }
        ∧ s.Keeps t [.pbus] [PBUS_LEAP.DIR.key 0 0, GRID_TQ.LEAP_PENDING.key 0 0])

/-- PBUS_MDIO_WRITE with BUSY set (R203): a transaction starts unless one runs. -/
def Claim.mdioStarts : Prop := ∀ (s : State) (w : Word), s.up = true →
  GoesTo (exec (.pbusMdioWrite w) s) fun t =>
    (s.mdioBusy = true ∨ w.toNat.testBit 31 = false → s.Keeps t [] [])
    ∧ (s.mdioBusy = false → w.toNat.testBit 31 = true → t.rd PBUS_MDIO.VALUE = w.toNat ∧ t.mdioBusy = true ∧ s.Keeps t [] [PBUS_MDIO.VALUE.key 0 0])

/-- The addresses whose writes are rows of their own, each with its command. -/
def writeRow (q : Bool) (w : Word) (a : Nat) (c : Instr) : Prop :=
  (a, c) ∈ [(HOST_CTRL.RESET.addr, Instr.hostCtrlResetWrite w), (AFE_TDAC_CTRL.DEST.addr, .afeTdacCtrlWrite w),
    (AFE_TESTMARK_LO.MASK.addr, .afeTestmarkWrite false w), (AFE_TESTMARK_HI.MASK.addr, .afeTestmarkWrite true w),
    (KNOT_TM_RESET.MASK.addr, .knotTmResetWrite w), (KNOT_TM_FORCE_EN.MASK.addr, .knotTmForceWrite false w),
    (KNOT_TM_FORCE_VAL.MASK.addr, .knotTmForceWrite true w), (PBUS_LEAP.DIR.addr, .pbusLeapWrite w), (PBUS_MDIO.VALUE.addr, .pbusMdioWrite w),
    (HOST_BERTH_HEAD.VALUE.addr, .b0HeadWrite q [] w)]
  ∨ (∃ m : Fin 2, (a, c) ∈ [(AUX_INJ_REQ.VALUE.at' m 0, Instr.auxInjReqWrite m w), (AUX_TRG_CFG.SRC.at' m 0, .auxTrgCfgWrite m w)])
  ∨ ∃ b : Fin 256, (a, c) ∈ [(HOST_BERTH_CFG.EN.at' b 0, Instr.hostBerthCfgWrite q b w), (HOST_BERTH_TAIL.VALUE.at' b 0, .berthTailWrite q b w)]

/-- REGISTER_WRITE of a register whose write is a row of its own is that row's command (R564). -/
def Claim.rowOfItsOwn : Prop := ∀ (s : State) (q : Bool) (a w : Word) (c : Instr), s.up = true → writeRow q w a.toNat c →
  ∃ t, Goes (exec (.registerWrite q a 15 w) s) t ∧ Goes (exec c s) t

/-- REGISTER_WRITE of AFE_TDAC_DATA (R106): ignored while a procedure owns the test DAC. -/
def Claim.testDacFed : Prop := ∀ (s : State) (q : Bool) (w : Word), s.up = true →
  GoesTo (exec (.registerWrite q (BitVec.ofNat 32 AFE_TDAC_DATA.CODE.addr) 15 w) s) fun t =>
    (s.tdacOwned = true → s.Keeps t [] [])
    ∧ (s.tdacOwned = false → t.rd AFE_TDAC_DATA.CODE = AFE_TDAC_DATA.CODE.get w.toNat ∧ s.Keeps t [] [AFE_TDAC_DATA.CODE.key 0 0])

/-- REGISTER_WRITE of PBUS_TOD_LO or PBUS_TOD_HI (R240): the time of day has been written. -/
def Claim.timeOfDayWritten : Prop := ∀ (s : State) (q hi : Bool) (w : Word), s.up = true →
  GoesTo (exec (.registerWrite q (BitVec.ofNat 32 (if hi then PBUS_TOD_HI.VALUE.addr else PBUS_TOD_LO.VALUE.addr)) 15 w) s) fun t =>
    t.rd PBUS_TOD_LO.VALUE = (if hi then s.rd PBUS_TOD_LO.VALUE else w.toNat) ∧ t.rd PBUS_TOD_HI.VALUE = (if hi then w.toNat else s.rd PBUS_TOD_HI.VALUE)
    ∧ t.pbus = { s.pbus with time := { s.pbus.time with todSet := true } }
    ∧ s.Keeps t [.pbus] [if hi then PBUS_TOD_HI.VALUE.key 0 0 else PBUS_TOD_LO.VALUE.key 0 0]

/-- REGISTER_WRITE of BAY_PSTREAM (R273): EN = 1 is ignored while PHASOR_STREAM is not negotiated; reports of a bay
that nothing measured before begin with the ticks completed from then on, and no other bay changes. -/
def Claim.phasorStreamSet : Prop := ∀ (s : State) (q : Bool) (b : Fin 64) (w : Word), s.up = true →
  GoesTo (exec (.registerWrite q (BitVec.ofNat 32 (BAY_PSTREAM.EN.at' b 0)) 15 w) s) fun t =>
    t.rd BAY_PSTREAM.EN b = (if s.hasFeat 10 then BAY_PSTREAM.EN.get w.toNat else 0) ∧ (s.measures s.bank b = true → t.eval = s.eval)
    ∧ (∀ d, d ≠ b.val → tget {} t.eval.bay d = tget {} s.eval.bay d)
    ∧ s.Keeps t [.eval] (accKeys (BAY_PSTREAM.EN.at' b 0) .RW)

/-- REGISTER_WRITE of a berth's interrupt register (R568, R601); that of B0 keeps THRESH and HOLDOFF at 0. -/
def Claim.berthIrqSet : Prop := ∀ (s : State) (q : Bool) (b : Fin 256) (w : Word), s.up = true → s.foreign q = false →
  GoesTo (exec (.registerWrite q (BitVec.ofNat 32 (HOST_BERTH_IRQ.VEC.at' b 0)) 15 w) s) fun t =>
    t.rd HOST_BERTH_IRQ.VEC b = HOST_BERTH_IRQ.VEC.get w.toNat
    ∧ t.rd HOST_BERTH_IRQ.THRESH b = (if b.val = 0 then 0 else HOST_BERTH_IRQ.THRESH.get w.toNat)
    ∧ t.rd HOST_BERTH_IRQ.HOLDOFF b = (if b.val = 0 then 0 else HOST_BERTH_IRQ.HOLDOFF.get w.toNat)
    ∧ s.Keeps t [] (accKeys (HOST_BERTH_IRQ.VEC.at' b 0) .RW)

/-- A read that is a row of its own is that row's command (R15, R137, R272). -/
def Claim.readRowOfItsOwn : Prop := ∀ (s : State) (q : Bool) (a : Word) (c : Instr), s.up = true →
  ((∃ (m : Fin 2) (k : Fin 24), a.toNat = AUX_RESULT.DATA.at' m k ∧ c = .auxResultRead m k)
    ∨ (∃ b : Fin 64, a.toNat = BAY_TICK_LO.VALUE.at' b 0 ∧ c = .bayTickLoRead b) ∨ (a.toNat ∈ loRegs ∧ c = .loReadLatch a)) →
  ∃ t, Goes (exec (.rcRead q a) s) t ∧ Goes (exec c s) t

/-- A read of AUX_INJ_RESULT (R137): as one of AUX_RESULT. -/
def Claim.injectedResultIsRead : Prop := ∀ (s : State) (q : Bool) (m : Fin 2), s.up = true →
  GoesTo (exec (.rcRead q (BitVec.ofNat 32 (AUX_INJ_RESULT.DATA.at' m 0))) s) fun t =>
    t.host.rdata = s.rd AUX_INJ_RESULT.DATA m + 2 ^ 16 * s.rd AUX_INJ_RESULT.VALID m + 2 ^ 17 * (1 - s.rd AUX_INJ_RESULT.VALID m)
        + 2 ^ 18 * s.rd AUX_INJ_RESULT.OVR m + 2 ^ 19 * s.rd AUX_INJ_RESULT.XQ m + 2 ^ 24 * s.rd AUX_INJ_RESULT.SLOT m
    ∧ t.rd AUX_INJ_RESULT.VALID m = 0 ∧ t.rd AUX_INJ_RESULT.OVR m = 0 ∧ t.rd AUX_INJ_RESULT.DUP m = 1
    ∧ s.Keeps t [.host] [AUX_INJ_RESULT.VALID.key m 0, AUX_INJ_RESULT.OVR.key m 0, AUX_INJ_RESULT.DUP.key m 0]

/-! ### Berths and interrupts (R569 to R579, R583, R584, R601) -/

/-- B0_HEAD_WRITE that R575 does not accept, with nothing waiting: the pointer stays, the write is counted, PTR_ERR is set. -/
def Claim.headRejected : Prop := ∀ (s : State) (q : Bool) (l : List (Nat × Byte)) (v : Word), s.up = true → s.foreign q = false →
  s.host.waiting = [] → s.host.resync = none → s.host.partialAt = none →
  s.berthSize 0 < (v.toNat + 2 ^ 32 - s.rd HOST_BERTH_TAIL.VALUE 0) % 2 ^ 32 →
  GoesTo (exec (.b0HeadWrite q l v) s) fun t =>
    t.rd HOST_STATUS.PTR_ERR = 1 ∧ t.rd HOST_BADPTR_CNT.VALUE = min (s.rd HOST_BADPTR_CNT.VALUE + 1) (2 ^ 32 - 1)
    ∧ t.host.mem = hostBytes s.host.mem l
    ∧ s.Keeps t [.mem] [HOST_STATUS.PTR_ERR.key 0 0, HOST_BADPTR_CNT.VALUE.key 0 0]

/-- B0_HEAD_WRITE from the interface that has not the session, with nothing waiting (R568): counted; the pointer stays. -/
def Claim.foreignHeadCounted : Prop := ∀ (s : State) (q : Bool) (l : List (Nat × Byte)) (v : Word), s.up = true → s.foreign q = true →
  s.host.waiting = [] → s.host.resync = none → s.host.partialAt = none →
  GoesTo (exec (.b0HeadWrite q l v) s) fun t =>
    t.rd HOST_BADPTR_CNT.VALUE = min (s.rd HOST_BADPTR_CNT.VALUE + 1) (2 ^ 32 - 1) ∧ t.host.mem = hostBytes s.host.mem l
    ∧ s.Keeps t [.mem] [HOST_BADPTR_CNT.VALUE.key 0 0]

/-- B0_HEAD_WRITE that makes less than a header visible, with nothing waiting (R575, R584): the pointer moves, no packet is taken. -/
def Claim.headMoves : Prop := ∀ (s : State) (q : Bool) (l : List (Nat × Byte)) (v : Word), s.up = true → s.foreign q = false →
  s.host.waiting = [] → s.host.resync = none → s.rd HOST_BERTH_TAIL.VALUE 0 < 2 ^ 32 → 16 ≤ s.berthSize 0 →
  (v.toNat + 2 ^ 32 - s.rd HOST_BERTH_TAIL.VALUE 0) % 2 ^ 32 < 16 →
  GoesTo (exec (.b0HeadWrite q l v) s) fun t =>
    t.rd HOST_BERTH_HEAD.VALUE 0 = v.toNat ∧ t.rd HOST_STATUS.PTR_ERR = 0 ∧ t.host.waiting = [] ∧ t.host.partialAt = none
    ∧ t.host.mem = hostBytes s.host.mem l ∧ t.rd HOST_BERTH_CNT.VALUE 0 = 0
    ∧ s.Keeps t [.mem, .host] [HOST_BERTH_HEAD.VALUE.key 0 0, HOST_STATUS.PTR_ERR.key 0 0, HOST_CMD_CREDIT.VALUE.key 0 0,
        HOST_BERTH_CNT.VALUE.key 0 0, HOST_STATUS.CREDIT_OVR.key 0 0]

/-- B0_HEAD_WRITE that makes a whole packet visible while B1 cannot take a reply (R575, R583, R584): the packet waits and uses a credit. -/
def Claim.packetWaits : Prop := ∀ (s : State) (q : Bool) (l : List (Nat × Byte)) (v : Word), s.up = true → s.foreign q = false →
  s.host.waiting = [] → s.host.resync = none → s.rd HOST_BERTH_TAIL.VALUE 0 < 2 ^ 32 → s.canReply = false →
  (let s1 := s.modHost fun h => { h with mem := hostBytes h.mem l }
   let r := s1.packetAt (s.rd HOST_BERTH_TAIL.VALUE 0)
   let n := (v.toNat + 2 ^ 32 - s.rd HOST_BERTH_TAIL.VALUE 0) % 2 ^ 32
   16 ≤ n ∧ n ≤ s.berthSize 0 ∧ n = pad8 (16 + ofLe (s1.b0Read (s.rd HOST_BERTH_TAIL.VALUE 0 + 6) 2)) ∧ r.2.len ≤ 65532) →
  GoesTo (exec (.b0HeadWrite q l v) s) fun t =>
    let r := (s.modHost fun h => { h with mem := hostBytes h.mem l }).packetAt (s.rd HOST_BERTH_TAIL.VALUE 0)
    t.host.waiting = [⟨r.1, q, r.2⟩] ∧ t.host.partialAt = none ∧ t.rd HOST_BERTH_HEAD.VALUE 0 = v.toNat ∧ t.rd HOST_BERTH_CNT.VALUE 0 = 1
    ∧ t.rd HOST_CMD_CREDIT.VALUE = 32 - (1 + (s.msgs 1).length)
    ∧ s.Keeps t [.mem, .host] [HOST_BERTH_HEAD.VALUE.key 0 0, HOST_STATUS.PTR_ERR.key 0 0, HOST_CMD_CREDIT.VALUE.key 0 0,
        HOST_BERTH_CNT.VALUE.key 0 0, HOST_STATUS.CREDIT_OVR.key 0 0]

/-- B0_HEAD_WRITE that makes a header visible without its whole packet (R584): the wait for the rest is timed. -/
def Claim.headerTimed : Prop := ∀ (s : State) (q : Bool) (l : List (Nat × Byte)) (v : Word), s.up = true → s.foreign q = false →
  s.host.waiting = [] → s.host.resync = none → s.host.partialAt = none → s.rd HOST_BERTH_TAIL.VALUE 0 < 2 ^ 32 →
  (let s1 := s.modHost fun h => { h with mem := hostBytes h.mem l }
   let n := (v.toNat + 2 ^ 32 - s.rd HOST_BERTH_TAIL.VALUE 0) % 2 ^ 32
   let len := ofLe (s1.b0Read (s.rd HOST_BERTH_TAIL.VALUE 0 + 6) 2)
   16 ≤ n ∧ n ≤ s.berthSize 0 ∧ n < pad8 (16 + len) ∧ len ≤ 65532) →
  GoesTo (exec (.b0HeadWrite q l v) s) fun t =>
    t.host.partialAt = some s.grid.now ∧ t.host.waiting = [] ∧ t.rd HOST_BERTH_HEAD.VALUE 0 = v.toNat
    ∧ s.Keeps t [.mem, .host] [HOST_BERTH_HEAD.VALUE.key 0 0, HOST_STATUS.PTR_ERR.key 0 0, HOST_CMD_CREDIT.VALUE.key 0 0,
        HOST_BERTH_CNT.VALUE.key 0 0, HOST_STATUS.CREDIT_OVR.key 0 0]

/-- Every byte of the berth SRAM reads as before but those of the ring stretches listed: berth, first count, length. -/
def State.BytesKept (s t : State) (l : List (Nat × Nat × Nat)) : Prop :=
  ∀ a, (∀ r ∈ l, ∀ i < r.2.2, a ≠ s.berthBase r.1 + (r.2.1 + i) % s.berthSize r.1) → memRead t.host.mem a = memRead s.host.mem a

/-- The header words 0 to 2 of a reply (R582). -/
def replyHead (op tag v flags credits st n : Nat) : List Byte :=
  leBytes 4 (st + 65536 * (op ||| 0x8000)) ++ leBytes 4 (flags + 256 * v + 65536 * n) ++ leBytes 4 (tag + 65536 * credits)

/-- `t` holds, behind the replies that `s` holds, one more (R573, R574, R581 to R583): OPCODE, TAG, IFVER `v`, FLAGS, the status, the credits left
once it is unread, the CRC-32C, the data words; HEAD of B1 has moved past it and the host sees one reply more. -/
def State.RepliesAt (s t : State) (op tag v flags st : Nat) (data : List Nat) : Prop :=
  let hd := s.rd HOST_BERTH_HEAD.VALUE 1
  let d := data.flatMap (leBytes 4 ·)
  let h := replyHead op tag v flags (if v = 2 then 32 - ((s.msgs 1).length + 1) else 0) st (4 * data.length)
  ringRead t.host.mem (s.berthBase 1) (s.berthSize 1) hd (16 + 4 * data.length) = h ++ leBytes 4 (crc32c (h ++ d)) ++ d
  ∧ t.rd HOST_BERTH_HEAD.VALUE 1 = (hd + pad8 (16 + 4 * data.length)) % 2 ^ 32
  ∧ t.msgs 1 = s.msgs 1 ++ [{ pos := hd, len := pad8 (16 + 4 * data.length), at' := t.grid.now }]
  ∧ t.rd HOST_BERTH_CNT.VALUE 1 = ((s.msgs 1).length + 1) % 2 ^ HOST_BERTH_CNT.VALUE.width
  ∧ t.rd HOST_CMD_CREDIT.VALUE = 32 - ((s.msgs 1).length + 1)

/-- RESYNC of a packet that is not complete within 100 ms of its header (R584): what B0 holds is discarded, the resync is counted and logged,
and the reply is BAD_LENGTH with RESYNC. -/
def Claim.resyncAnswered : Prop := ∀ (s : State) (t0 : Nat), s.up = true → s.host.partialAt = some t0 → s.host.waiting = [] → s.canReply = true →
  Memory.wf s.host.mem = true →
  GoesTo (exec .resync s) fun t =>
    let r := s.packetAt (s.rd HOST_BERTH_TAIL.VALUE 0)
    t.rd HOST_BERTH_TAIL.VALUE 0 = s.rd HOST_BERTH_HEAD.VALUE 0 % 2 ^ 32 ∧ t.host.partialAt = none ∧ t.host.resync = none ∧ t.host.waiting = []
    ∧ t.rd HOST_RESYNC_CNT.VALUE = min (s.rd HOST_RESYNC_CNT.VALUE + 1) (2 ^ 32 - 1)
    ∧ t.rd HOST_BADPKT_CNT.VALUE = min (s.rd HOST_BADPKT_CNT.VALUE + 1) (2 ^ 32 - 1)
    ∧ (s.atTime (t0 + 25000000)).Logs t t.grid.now 0xB003 0 (0x0102 + 65536) ∧ t.grid.now = max s.grid.now (t0 + 25000000)
    ∧ s.RepliesAt t r.1 r.2.tag.toNat (s.replyIfver 0) 1 0x0102 []
    ∧ s.BytesKept t [(1, s.rd HOST_BERTH_HEAD.VALUE 1, 16)]
    ∧ s.Keeps t [.grid, .log, .host, .mem] ([HOST_BERTH_TAIL.VALUE.key 0 0, HOST_BERTH_CNT.VALUE.key 0 0, HOST_RESYNC_CNT.VALUE.key 0 0,
        HOST_BADPKT_CNT.VALUE.key 0 0, HOST_BERTH_HEAD.VALUE.key 1 0, HOST_BERTH_CNT.VALUE.key 1 0, HOST_CMD_CREDIT.VALUE.key 0 0,
        HOST_STATUS.CREDIT_OVR.key 0 0, HOST_IRQ_PEND.MASK.key 0 0] ++ logKeys)

/-- BERTH_TAIL_WRITE of a producer's berth on a message boundary (R575, R601): the messages before it are consumed and the berth is armed. -/
def Claim.tailMoves : Prop := ∀ (s : State) (q : Bool) (b : Fin 256) (v : Word) (l : List Msg), s.up = true → 2 ≤ b.val → s.foreign q = false →
  tailAt (s.rd HOST_BERTH_TAIL.VALUE b) v.toNat (s.msgs b) = some l →
  GoesTo (exec (.berthTailWrite q b v) s) fun t =>
    t.msgs b = l ∧ t.rd HOST_BERTH_TAIL.VALUE b = v.toNat ∧ t.rd HOST_BERTH_CNT.VALUE b = l.length % 2 ^ HOST_BERTH_CNT.VALUE.width
    ∧ t.rd HOST_STATUS.PTR_ERR = 0 ∧ t.host.mem = s.host.mem
    ∧ (s.rd HOST_BERTH_IRQ.VEC b < 32 → tget false t.host.armed b = false → (t.rd HOST_IRQ_PEND.MASK).testBit (s.rd HOST_BERTH_IRQ.VEC b) = true)
    ∧ s.Keeps t [.host] [HOST_BERTH_TAIL.VALUE.key b 0, HOST_BERTH_CNT.VALUE.key b 0, HOST_STATUS.PTR_ERR.key 0 0, HOST_IRQ_PEND.MASK.key 0 0]

/-- BERTH_TAIL_WRITE of B1 with no packet waiting (R575, R583): the replies before it are consumed and their credits come back. -/
def Claim.repliesConsumed : Prop := ∀ (s : State) (q : Bool) (v : Word) (l : List Msg), s.up = true → s.foreign q = false →
  s.host.waiting = [] → s.host.resync = none → s.host.partialAt = none →
  tailAt (s.rd HOST_BERTH_TAIL.VALUE 1) v.toNat (s.msgs 1) = some l →
  GoesTo (exec (.berthTailWrite q 1 v) s) fun t =>
    t.msgs 1 = l ∧ t.rd HOST_BERTH_TAIL.VALUE 1 = v.toNat ∧ t.rd HOST_CMD_CREDIT.VALUE = (32 - l.length) % 64 ∧ t.rd HOST_STATUS.PTR_ERR = 0
    ∧ s.Keeps t [.host] [HOST_BERTH_TAIL.VALUE.key 1 0, HOST_BERTH_CNT.VALUE.key 1 0, HOST_BERTH_CNT.VALUE.key 0 0, HOST_STATUS.PTR_ERR.key 0 0,
        HOST_IRQ_PEND.MASK.key 0 0, HOST_CMD_CREDIT.VALUE.key 0 0, HOST_STATUS.CREDIT_OVR.key 0 0]

/-- BERTH_TAIL_WRITE off a message boundary (R575): ignored, counted, and PTR_ERR is set. -/
def Claim.tailRejected : Prop := ∀ (s : State) (q : Bool) (b : Fin 256) (v : Word), s.up = true → b.val ≠ 0 → s.foreign q = false →
  tailAt (s.rd HOST_BERTH_TAIL.VALUE b) v.toNat (s.msgs b) = none →
  GoesTo (exec (.berthTailWrite q b v) s) fun t =>
    t.rd HOST_STATUS.PTR_ERR = 1 ∧ t.rd HOST_BADPTR_CNT.VALUE = min (s.rd HOST_BADPTR_CNT.VALUE + 1) (2 ^ 32 - 1)
    ∧ s.Keeps t [] [HOST_STATUS.PTR_ERR.key 0 0, HOST_BADPTR_CNT.VALUE.key 0 0]

/-- BERTH_TAIL_WRITE and HOST_BERTH_CFG_WRITE from the interface that has not the session (R568): ignored and counted. -/
def Claim.foreignBerthWrite : Prop := ∀ (s : State) (q : Bool) (b : Fin 256) (w : Word) (c : Instr), s.up = true → s.foreign q = true →
  (c = .berthTailWrite q b w ∧ b.val ≠ 0 ∨ c = .hostBerthCfgWrite q b w) →
  GoesTo (exec c s) fun t =>
    t.rd HOST_BADPTR_CNT.VALUE = min (s.rd HOST_BADPTR_CNT.VALUE + 1) (2 ^ 32 - 1) ∧ s.Keeps t [] [HOST_BADPTR_CNT.VALUE.key 0 0]

/-- The registers of B0, and the configuration of B0 and B1, are not written this way (R571): nothing happens. -/
def Claim.fixedBerths : Prop := ∀ (s : State) (q : Bool) (b : Fin 256) (w : Word) (c : Instr), s.up = true → s.foreign q = false →
  (c = .berthTailWrite q 0 w ∨ c = .hostBerthCfgWrite q b w ∧ b.val < 2) →
  GoesTo (exec c s) fun t => s.Keeps t [] []

/-- The keys of the configuration register of a berth. -/
def berthCfgKeys (b : Nat) : List Nat :=
  [HOST_BERTH_CFG.EN.key b 0, HOST_BERTH_CFG.POLICY.key b 0, HOST_BERTH_CFG.SIZE.key b 0, HOST_BERTH_CFG.BASE.key b 0, HOST_BERTH_CFG.CFG_ERR.key b 0]

/-- HOST_BERTH_CFG_WRITE that enables a berth whose configuration R572 allows: it is enabled, empty, its counts at 0, armed. -/
def Claim.berthEnabled : Prop := ∀ (s : State) (q : Bool) (b : Fin 256) (w : Word), s.up = true → 2 ≤ b.val → s.foreign q = false →
  s.rd HOST_BERTH_CFG.EN b = 0 → HOST_BERTH_CFG.EN.get w.toNat = 1 →
  s.berthFits b (HOST_BERTH_CFG.POLICY.get w.toNat) (HOST_BERTH_CFG.SIZE.get w.toNat) (HOST_BERTH_CFG.BASE.get w.toNat) = true →
  GoesTo (exec (.hostBerthCfgWrite q b w) s) fun t =>
    t.rd HOST_BERTH_CFG.EN b = 1 ∧ t.rd HOST_BERTH_CFG.POLICY b = HOST_BERTH_CFG.POLICY.get w.toNat
    ∧ t.rd HOST_BERTH_CFG.SIZE b = HOST_BERTH_CFG.SIZE.get w.toNat ∧ t.rd HOST_BERTH_CFG.BASE b = HOST_BERTH_CFG.BASE.get w.toNat
    ∧ t.rd HOST_BERTH_CFG.CFG_ERR b = 0 ∧ t.msgs b = [] ∧ t.rd HOST_BERTH_HEAD.VALUE b = 0 ∧ t.rd HOST_BERTH_TAIL.VALUE b = 0
    ∧ t.rd HOST_BERTH_SEQ.VALUE b = 0 ∧ tget false t.host.armed b = true
    ∧ s.Keeps t [.host] (berthCfgKeys b ++ [HOST_BERTH_HEAD.VALUE.key b 0, HOST_BERTH_TAIL.VALUE.key b 0, HOST_BERTH_SEQ.VALUE.key b 0, HOST_BERTH_CNT.VALUE.key b 0])

/-- HOST_BERTH_CFG_WRITE of EN = 1 with a configuration that R572 does not allow: CFG_ERR is set, the berth stays off. -/
def Claim.berthRefused : Prop := ∀ (s : State) (q : Bool) (b : Fin 256) (w : Word), s.up = true → 2 ≤ b.val → s.foreign q = false →
  s.rd HOST_BERTH_CFG.EN b = 0 → HOST_BERTH_CFG.EN.get w.toNat = 1 →
  s.berthFits b (HOST_BERTH_CFG.POLICY.get w.toNat) (HOST_BERTH_CFG.SIZE.get w.toNat) (HOST_BERTH_CFG.BASE.get w.toNat) = false →
  GoesTo (exec (.hostBerthCfgWrite q b w) s) fun t =>
    t.rd HOST_BERTH_CFG.EN b = 0 ∧ t.rd HOST_BERTH_CFG.CFG_ERR b = 1 ∧ s.Keeps t [] (berthCfgKeys b)

/-- HOST_BERTH_CFG_WRITE of EN = 1 on an enabled berth (R572): nothing changes; of EN = 0: the berth is off and empty. -/
def Claim.berthDisabled : Prop := ∀ (s : State) (q : Bool) (b : Fin 256) (w : Word), s.up = true → 2 ≤ b.val → s.foreign q = false →
  s.rd HOST_BERTH_CFG.EN b = 1 →
  GoesTo (exec (.hostBerthCfgWrite q b w) s) fun t =>
    (HOST_BERTH_CFG.EN.get w.toNat = 1 → s.Keeps t [] [])
    ∧ (HOST_BERTH_CFG.EN.get w.toNat = 0 → t.rd HOST_BERTH_CFG.EN b = 0 ∧ t.msgs b = []
        ∧ t.rd HOST_BERTH_TAIL.VALUE b = s.rd HOST_BERTH_HEAD.VALUE b % 2 ^ 32
        ∧ s.Keeps t [.host] (berthCfgKeys b ++ [HOST_BERTH_TAIL.VALUE.key b 0, HOST_BERTH_CNT.VALUE.key b 0]))

/-- What a host-interface reset leaves (R569): no session, no features, every berth but B0 and B1 off, all of them empty, no tap, no export;
the settings, the log and the part's other state as they were. -/
def State.HostReset (s t : State) : Prop :=
  t.rd HOST_STATUS.NEG = 0 ∧ t.feat = 0 ∧ (∀ b < 256, t.rd HOST_BERTH_CFG.EN b = if b < 2 then s.rd HOST_BERTH_CFG.EN b else 0)
  ∧ (∀ b < 2, t.rd HOST_BERTH_HEAD.VALUE b = 0 ∧ t.rd HOST_BERTH_TAIL.VALUE b = 0) ∧ t.host.msgs = [] ∧ t.host.waiting = []
  ∧ t.host.partialAt = none ∧ t.host.resync = none ∧ t.host.taps = [] ∧ t.rd HOST_CMD_CREDIT.VALUE = 32 ∧ t.rd HOST_IRQ_PEND.MASK = 0
  ∧ t.rec' = { s.rec' with exporting := none } ∧ t.rd REC_STATUS.EXPORT_BUSY = 0 ∧ t.rd EVT_BERTH.EN = 0
  ∧ (∀ b < 64, t.rd BAY_PSTREAM.EN b = 0) ∧ t.rd HOST_RESET_CNT.VALUE = min (s.rd HOST_RESET_CNT.VALUE + 1) (2 ^ 32 - 1)
  ∧ t.rd HOST_STATUS.MAINT = s.rd HOST_STATUS.MAINT ∧ t.host.maintEnd = s.host.maintEnd

/-- The keys that a host-interface reset may write beside those of the berths. -/
def hostResetKeys : List Nat :=
  [HOST_STATUS.NEG.key 0 0, HOST_STATUS.IF.key 0 0, HOST_STATUS.IFVER.key 0 0, HOST_FEAT_LO.VALUE.key 0 0, HOST_FEAT_HI.VALUE.key 0 0,
    REC_STATUS.EXPORT_BUSY.key 0 0, EVT_BERTH.EN.key 0 0, HOST_IRQ_PEND.MASK.key 0 0, HOST_CMD_CREDIT.VALUE.key 0 0, HOST_STATUS.CREDIT_OVR.key 0 0,
    HOST_RESET_CNT.VALUE.key 0 0]
  ++ ([0, 1].flatMap fun b => [HOST_BERTH_HEAD.VALUE.key b 0, HOST_BERTH_TAIL.VALUE.key b 0, HOST_BERTH_CNT.VALUE.key b 0])
  ++ (List.range 64).map fun b => BAY_PSTREAM.EN.key b 0

/-- HOST_CTRL_RESET_WRITE of 1 (R569): the host-interface reset; of 0: nothing. -/
def Claim.hostInterfaceResets : Prop := ∀ (s : State) (w : Word), s.up = true →
  GoesTo (exec (.hostCtrlResetWrite w) s) fun t =>
    (w.toNat % 2 = 0 → s.Keeps t [] [])
    ∧ (w.toNat % 2 = 1 → s.HostReset t ∧ (∀ p, p ∉ [Part.host, .recd] → p.same s t)
        ∧ (∀ k, berthKey k = false → k ∉ lifeKeys → k ∉ hostResetKeys → tfind t.regs k = tfind s.regs k) ∧ t.pending = s.pending ∧ t.OutputsOk)

/-- PCIE_RESET (R569): a host-interface reset unless the session is on QSPI; a link that went down shows it. -/
def Claim.pcieResets : Prop := ∀ (s : State) (down : Bool), s.up = true →
  GoesTo (exec (.pcieReset down) s) fun t =>
    (down = true → t.rd HOST_STATUS.LINK = 0 ∧ t.rd HOST_STATUS.LINKSPD = 0)
    ∧ (s.rd HOST_STATUS.NEG = 1 → s.rd HOST_STATUS.IF = 1 →
        t.host = { s.host with msix := [], msixPba := 0 } ∧ s.Keeps t [.host] [HOST_STATUS.LINK.key 0 0, HOST_STATUS.LINKSPD.key 0 0])
    ∧ (s.rd HOST_STATUS.NEG = 0 ∨ s.rd HOST_STATUS.IF = 0 → s.HostReset t ∧ t.settings = s.settings ∧ t.nv = s.nv ∧ t.pending = s.pending ∧ t.OutputsOk)

/-- PCIE_LINK_UP (R563): LINK and LINKSPD. -/
def Claim.pcieTrains : Prop := ∀ (s : State) (gen2 : Bool), s.up = true →
  GoesTo (exec (.pcieLinkUp gen2) s) fun t =>
    t.rd HOST_STATUS.LINK = 1 ∧ t.rd HOST_STATUS.LINKSPD = (if gen2 then 2 else 1)
    ∧ s.Keeps t [] [HOST_STATUS.LINK.key 0 0, HOST_STATUS.LINKSPD.key 0 0]

/-- BERTH_IRQ_HOLDOFF of an armed berth (R601): its oldest message has aged past HOLDOFF, its vector is raised and it is disarmed. -/
def Claim.holdoffRaises : Prop := ∀ (s : State) (b : Fin 256) (m : Msg) (l : List Msg), s.up = true → s.msgs b = m :: l →
  s.rd HOST_BERTH_IRQ.VEC b < 32 → s.rd HOST_BERTH_IRQ.HOLDOFF b ≠ 0 → tget false s.host.armed b = true →
  GoesTo (exec (.berthIrqHoldoff b) s) fun t =>
    (t.rd HOST_IRQ_PEND.MASK).testBit (s.rd HOST_BERTH_IRQ.VEC b) = true ∧ tget false t.host.armed b = false
    ∧ t.grid.now = max s.grid.now (m.at' + s.rd HOST_BERTH_IRQ.HOLDOFF b * 250) ∧ t.host.msgs = s.host.msgs
    ∧ s.Keeps t [.grid, .host] [HOST_IRQ_PEND.MASK.key 0 0]

/-- BERTH_IRQ_HOLDOFF with no message, with HOLDOFF off, or on a berth that is not armed (R601): no vector is raised. -/
def Claim.holdoffSilent : Prop := ∀ (s : State) (b : Fin 256), s.up = true →
  (s.msgs b = [] ∨ s.rd HOST_BERTH_IRQ.HOLDOFF b = 0 ∨ tget false s.host.armed b = false) →
  GoesTo (exec (.berthIrqHoldoff b) s) fun t => s.Keeps t [.grid] []

/-- HOST_BERTH_OVERFLOW (R579): at the second boundary each berth whose drops rose is logged with its drops of that second, and the count of the
second starts anew. -/
def Claim.dropsLogged : Prop := ∀ s : State, s.up = true →
  GoesTo (exec .hostBerthOverflow s) fun t =>
    let k := s.nextSecond s.host.sec
    t.log = ((s.host.secDrops.filter fun x => x.2 != 0).foldl (fun u x => u.logAt (k * second) 0xB002 x.1 x.2) (s.atTime (k * second))).log
    ∧ t.host = { s.host with sec := k, secDrops := [] } ∧ t.grid.now = max s.grid.now (k * second) ∧ s.Keeps t [.grid, .log, .host] logKeys

/-- EXPORT_CHUNK with room in its berth (R461, R574): the chunk is a message of TYPE 3 at HEAD; after the last the export ends. -/
def Claim.chunkExported : Prop := ∀ (s : State) (e : RecExport) (c : List Byte) (l : List (List Byte)), s.up = true → s.rec'.exporting = some e →
  e.chunks = c :: l → s.berthOk e.berth 2 8192 = true → s.content e.berth + pad8 (8 + c.length) ≤ s.berthSize e.berth →
  c.length + 16 ≤ s.berthSize e.berth → c.length < 65536 → Memory.wf s.host.mem = true → s.rd HOST_BERTH_SEQ.VALUE e.berth < 2 ^ 32 →
  GoesTo (exec .exportChunk s) fun t =>
    let hd := s.rd HOST_BERTH_HEAD.VALUE e.berth
    ringRead t.host.mem (s.berthBase e.berth) (s.berthSize e.berth) hd (8 + c.length)
        = leBytes 4 (c.length + 65536 * 3) ++ leBytes 4 (s.rd HOST_BERTH_SEQ.VALUE e.berth) ++ c
    ∧ t.rd HOST_BERTH_HEAD.VALUE e.berth = (hd + pad8 (8 + c.length)) % 2 ^ 32
    ∧ t.rd HOST_BERTH_SEQ.VALUE e.berth = (s.rd HOST_BERTH_SEQ.VALUE e.berth + 1) % 2 ^ 32
    ∧ t.msgs e.berth = s.msgs e.berth ++ [{ pos := hd, len := pad8 (8 + c.length), at' := s.grid.now }]
    ∧ t.rec' = { s.rec' with exporting := if l = [] then none else some { e with chunks := l } }
    ∧ (l = [] → t.rd REC_STATUS.EXPORT_BUSY = 0) ∧ s.BytesKept t [(e.berth, hd, pad8 (8 + c.length))]
    ∧ s.Keeps t [.host, .mem, .recd] [HOST_BERTH_HEAD.VALUE.key e.berth 0, HOST_BERTH_SEQ.VALUE.key e.berth 0, HOST_BERTH_CNT.VALUE.key e.berth 0,
        HOST_IRQ_PEND.MASK.key 0 0, REC_STATUS.EXPORT_BUSY.key 0 0]

/-- EXPORT_CHUNK without room, or without an export (R461, R576): it waits. -/
def Claim.chunkWaits : Prop := ∀ s : State, s.up = true →
  (s.rec'.exporting = none ∨ ∃ e c l, s.rec'.exporting = some e ∧ e.chunks = c :: l ∧ s.berthSize e.berth < s.content e.berth + pad8 (8 + c.length)) →
  GoesTo (exec .exportChunk s) fun t => s.Keeps t [] []

/-- The force of a row (R368, R382): each evaluation of the row takes it from the masks, and there is none out of maintenance mode or in replay,
so a force left standing ends at the row's next evaluation. -/
def Claim.forceFollowsMasks : Prop := ∀ (s : State) (c : Ctx) (live : Bool) (d : Nat),
  ((s.evalRow c live d).row d).force = s.rowForce d ∧ (s.maint = false ∨ s.role = 3 → s.rowForce d = none)
  ∧ (s.maint = true → s.role ≠ 3 → s.rowForce d
      = if (s.rd KNOT_TM_FORCE_EN.MASK).testBit d then some ((s.rd KNOT_TM_FORCE_VAL.MASK).testBit d) else none)

/-- MAINT_LEASE_EXPIRY (R368, R595, R596): maintenance mode ends with reason 1; the force masks and the TEST marks are gone, cause 2 is shown. A
row that is forced stays so until it is evaluated next. -/
def Claim.leaseExpires : Prop := ∀ s : State, s.up = true → s.maint = true →
  GoesTo (exec .maintLeaseExpiry s) fun t =>
    t.rd HOST_STATUS.MAINT = 0 ∧ t.host.maintEnd = 0 ∧ t.rd KNOT_TM_FORCE_EN.MASK = 0 ∧ t.rd KNOT_TM_FORCE_VAL.MASK = 0
    ∧ t.rd AFE_TESTMARK_LO.MASK = 0 ∧ t.rd AFE_TESTMARK_HI.MASK = 0
    ∧ (t.rd HOST_CAUSE.BITS).testBit 2 = true ∧ t.grid.now = max s.grid.now s.host.maintEnd
    ∧ ((s.atTime s.host.maintEnd).wr HOST_STATUS.MAINT 0).Logs t t.grid.now 0x0005 0 1
    ∧ s.Keeps t [.grid, .log, .host] ([HOST_STATUS.MAINT.key 0 0, KNOT_TM_FORCE_EN.MASK.key 0 0, KNOT_TM_FORCE_VAL.MASK.key 0 0,
        AFE_TESTMARK_LO.MASK.key 0 0, AFE_TESTMARK_HI.MASK.key 0 0] ++ causeKeys ++ logKeys)

/-- AUTH_LOCKOUT_END (R546): endorsements are taken again. -/
def Claim.lockoutEnds : Prop := ∀ (s : State) (e : Nat), s.up = true → s.cust.lockEnd = some e →
  GoesTo (exec .authLockoutEnd s) fun t =>
    t.locked = false ∧ t.cust = { s.cust with lockEnd := none } ∧ t.rd SET_CHAMBER.LOCKOUT = 0 ∧ t.grid.now = max s.grid.now e
    ∧ s.Keeps t [.grid, .cust] [SET_CHAMBER.LOCKOUT.key 0 0]

/-- SETTINGS_SWAP at the swap tick (R556 to R558): the committed bank is in force, the one before it is kept with the first tick of the new one,
the chamber is EMPTY, and the registers show the bank's digests, the tick and the count. -/
def Claim.bankComesIntoForce : Prop := ∀ (s : State) (p : PendRec), s.up = true → s.swapNext = some p →
  GoesTo (exec .settingsSwap s) fun t =>
    t.settings = p.bank ∧ t.prev = some (s.settings, s.grid.nextN) ∧ t.nv.cust.bank = p.bank ∧ t.nv.cust.pend = none
    ∧ t.nv.cust.commits = satInc s.nv.cust.commits ∧ t.nv.cust.ctr = s.nv.cust.ctr ∧ t.nv.cust.slots = s.nv.cust.slots
    ∧ t.nv.cust.old = some s.nv.cust.copy ∧ t.rd SET_CHAMBER.STATE = 0 ∧ t.rd SET_COMMIT_CNT.VALUE = satInc s.nv.cust.commits
    ∧ t.rd64 SET_BDIG_LO.VALUE SET_BDIG_HI.VALUE = p.bdig % 2 ^ 64 ∧ t.rd64 SET_DIG_LO.VALUE SET_DIG_HI.VALUE = p.sdig % 2 ^ 64
    ∧ t.rd64 SET_SWAP_TICK_LO.VALUE SET_SWAP_TICK_HI.VALUE = s.grid.nextN % 2 ^ 64
    ∧ t.grid.now = max s.grid.now (s.grid.nextT / 2 ^ 24) ∧ (t.rd HOST_CAUSE.BITS).testBit 5 = true ∧ t.pending = s.pending ∧ t.OutputsOk

/-- SETTINGS_SWAP with no commit due (R556): nothing happens. -/
def Claim.noSwapDue : Prop := ∀ s : State, s.up = true → s.swapNext = none → GoesTo (exec .settingsSwap s) fun t => s.Keeps t [] []

/-- EVT_APPEND (R467 to R469, R479, R482): the oldest queued entry is durable with the next sequence number, the first 4,096 of them in the
permanent area too. -/
def Claim.entryDurable : Prop := ∀ (s : State) (e : LogEntry) (t0 : Nat) (l : List (LogEntry × Nat)), s.up = true → s.writesHeld = false →
  s.rd EVT_STATUS.READY = 1 → s.log.queue = (e, t0) :: l →
  GoesTo (exec .evtAppend s) fun t =>
    t.nv.log.nextSeq = s.nv.log.nextSeq + 1 ∧ t.rd EVT_NEXT_SEQ.VALUE = (s.nv.log.nextSeq + 1) % 2 ^ 32
    ∧ t.nv.log.entries.head? = some { e with seq := s.nv.log.nextSeq, flags := e.flags + if s.nv.log.nextSeq ≤ 4096 then 4 else 0 }
    ∧ (∀ x ∈ s.nv.log.entries, x.seq ≤ 4096 ∨ s.nv.log.nextSeq < x.seq + 131072 → x ∈ t.nv.log.entries)
    ∧ (s.nv.log.nextSeq ≠ 4096 → t.log.queue = l)
    ∧ (s.nv.log.nextSeq = 4096 → ∃ y, t.log.queue = y :: l ∧ y.1.code = 0x0013)
    ∧ (e.code ≠ 0x0011 → t.nv.log.clearMark = s.nv.log.clearMark ∧ t.nv.log.clears = s.nv.log.clears)
    ∧ (e.code = 0x0011 → t.nv.log.clearMark = e.val ∧ t.nv.log.clears = satInc s.nv.log.clears)
    ∧ t.nv = { s.nv with log := t.nv.log } ∧ t.log.buckets = s.log.buckets ∧ s.Stays t

/-- EVT_APPEND with an event berth configured and room in it (R485, R578): the entry is a message of TYPE 1 in the berth. -/
def Claim.entryOffered : Prop := ∀ (s : State) (e : LogEntry) (t0 : Nat) (l : List (LogEntry × Nat)), s.up = true → s.writesHeld = false →
  s.rd EVT_STATUS.READY = 1 → s.log.queue = (e, t0) :: l → s.rd EVT_BERTH.EN = 1 → s.berthOk (s.rd EVT_BERTH.BERTH) 1 1024 = true →
  s.content (s.rd EVT_BERTH.BERTH) + 40 ≤ s.berthSize (s.rd EVT_BERTH.BERTH) → Memory.wf s.host.mem = true →
  GoesTo (exec .evtAppend s) fun t =>
    let b := s.rd EVT_BERTH.BERTH
    t.msgs b = s.msgs b ++ [{ pos := s.rd HOST_BERTH_HEAD.VALUE b, len := 40, at' := s.grid.now }]
    ∧ t.rd HOST_BERTH_HEAD.VALUE b = (s.rd HOST_BERTH_HEAD.VALUE b + 40) % 2 ^ 32
    ∧ (∃ y, t.nv.log.entries.head? = some y ∧ ringRead t.host.mem (s.berthBase b) (s.berthSize b) (s.rd HOST_BERTH_HEAD.VALUE b + 8) 32 = y.bytes)
    ∧ s.BytesKept t [(b, s.rd HOST_BERTH_HEAD.VALUE b, 40)]

/-- EVT_APPEND with nothing queued, with MRAM writes withheld (R643), or before the log is ready: nothing happens. -/
def Claim.appendWaits : Prop := ∀ s : State, s.up = true → (s.log.queue = [] ∨ s.writesHeld = true ∨ s.rd EVT_STATUS.READY = 0) →
  GoesTo (exec .evtAppend s) fun t => s.Keeps t [] []

/-- EVT_SUPPRESSED (R477), with room in the queue: at the second boundary one entry per code with suppressed occurrences, in the buckets' order,
with the count, and the counts start anew. -/
def Claim.suppressedLogged : Prop := ∀ s : State, s.up = true →
  s.log.queue.length + (s.log.buckets.filter fun x => x.2.supp != 0).length ≤ 4096 →
  GoesTo (exec .evtSuppressed s) fun t =>
    let l := s.log.buckets.filter fun x => x.2.supp != 0
    let k := s.nextSecond s.log.sec
    t.log.sec = k ∧ t.grid.now = max s.grid.now (k * second)
    ∧ t.log.queue.map (fun y => (y.1.code, y.1.src, y.1.val)) = s.log.queue.map (fun y => (y.1.code, y.1.src, y.1.val))
        ++ l.map (fun x => (0x0010, x.1 % 65536, x.2.supp % 2 ^ 32))
    ∧ (∀ x ∈ l, (tget {} t.log.buckets x.1).supp = 0) ∧ s.Keeps t [.grid, .log] logKeys

/-! ### Command packets (R573 to R600) -/

/-- The interface, opcode and packet of a host command's row. -/
def hostRow : Instr → Option (Bool × Nat × Packet)
  | .negotiate q p => some (q, 0x0101, p) | .identify q p => some (q, 0x0102, p) | .restart q p => some (q, 0x0103, p)
  | .maintMode q p => some (q, 0x0104, p) | .selfcal q p => some (q, 0x0201, p) | .auxInject q p => some (q, 0x0202, p)
  | .afeDiag q p => some (q, 0x0203, p) | .afeSkewcal q p => some (q, 0x0204, p) | .fltBankLoad q p => some (q, 0x0301, p)
  | .fltBankSwap q p => some (q, 0x0302, p) | .fltSync q p => some (q, 0x0303, p) | .timeSet q p => some (q, 0x0401, p)
  | .pbusSubscribe q p => some (q, 0x0501, p)
  | .setStageOpen q p => if p.subop ≠ 2 ∧ p.subop ≠ 3 then some (q, 0x0601, p) else none
  | .setStageWrite q p => if p.subop = 2 then some (q, 0x0601, p) else none
  | .setStageSeal q p => if p.subop = 3 then some (q, 0x0601, p) else none
  | .setEndorse q p => some (q, 0x0602, p) | .setCommit q p => some (q, 0x0603, p) | .setAbort q p => some (q, 0x0604, p)
  | .keyEnrol q p => some (q, 0x0605, p) | .recArm q p => some (q, 0x0701, p) | .recFetch q p => some (q, 0x0702, p)
  | .recExport q p => some (q, 0x0703, p) | .recTrigger q p => some (q, 0x0704, p) | .recDisarm q p => some (q, 0x0705, p)
  | .recManage q p => some (q, 0x0706, p) | .evtRead q p => some (q, 0x0801, p) | .evtClear q p => some (q, 0x0802, p)
  | .pairJoin q p => some (q, 0x0901, p) | .pairYield q p => some (q, 0x0902, p) | .pairStatus q p => some (q, 0x0903, p)
  | .bistRun q p => some (q, 0x0A01, p) | .repairFuse q p => some (q, 0x0A02, p)
  | .badOpcode q op p => if opcodes.contains op.toNat then none else some (q, op.toNat, p)
  | _ => none

/-- The packet is taken from an empty B0 (R575, R584): the logic side runs, the interface may write, B0 holds nothing else and has room for the
packet, B1 has room for a reply. -/
def State.Offers (s : State) (q : Bool) (p : Packet) : Prop :=
  s.up = true ∧ s.foreign q = false ∧ s.idleBerth = true ∧ s.content 0 + p.size ≤ s.berthSize 0 ∧ p.len ≤ 65532 ∧ Memory.wf s.host.mem = true

/-- The packet is interpreted at once: it is taken from an empty B0, and its command need not wait for MRAM (R643). -/
def State.Takes (s : State) (q : Bool) (op : Nat) (p : Packet) : Prop := s.Offers q p ∧ s.mramWait op = false

/-- The packet is interpreted at once and passes the checks common to all commands (R585). -/
def State.Ready (s : State) (q : Bool) (op : Nat) (p : Packet) : Prop := s.Takes q op p ∧ s.commonCheck op p = none

/-- The keys that taking a packet and answering it write. -/
def packetKeys : List Nat :=
  [HOST_BERTH_HEAD.VALUE.key 0 0, HOST_BERTH_TAIL.VALUE.key 0 0, HOST_BERTH_CNT.VALUE.key 0 0, HOST_STATUS.PTR_ERR.key 0 0,
    HOST_BERTH_HEAD.VALUE.key 1 0, HOST_BERTH_CNT.VALUE.key 1 0, HOST_CMD_CREDIT.VALUE.key 0 0, HOST_STATUS.CREDIT_OVR.key 0 0,
    HOST_IRQ_PEND.MASK.key 0 0]

/-- The packet has been taken and answered: HEAD and TAIL of B0 stand past it, and the reply is in B1. -/
def State.Replied (s t : State) (op : Nat) (p : Packet) (v st : Nat) (data : List Nat) : Prop :=
  s.RepliesAt t op p.tag.toNat v 0 st data ∧ t.rd HOST_BERTH_HEAD.VALUE 0 = (s.rd HOST_BERTH_HEAD.VALUE 0 + p.size) % 2 ^ 32
  ∧ t.rd HOST_BERTH_TAIL.VALUE 0 = (s.rd HOST_BERTH_TAIL.VALUE 0 + p.size) % 2 ^ 32 ∧ t.rd HOST_STATUS.PTR_ERR = 0
  ∧ t.host.waiting = [] ∧ t.host.resync = none ∧ t.host.partialAt = none

/-- The packet has been answered and the command's effect is on the parts and keys listed alone; `h` is the host interface but for the
reply, and no byte of the berth SRAM has changed but the packet's and the reply's. -/
def State.AnsweredBy (s t : State) (op : Nat) (p : Packet) (v st : Nat) (data : List Nat) (h : HostSt) (parts : List Part) (keys : List Nat) :
    Prop :=
  s.Replied t op p v st data
  ∧ t.host = { h with mem := t.host.mem, msgs := t.host.msgs, armed := t.host.armed, msixPba := t.host.msixPba, sent := t.host.sent }
  ∧ (∀ b ≠ 1, tfind t.host.msgs b = tfind s.host.msgs b)
  ∧ s.BytesKept t [(0, s.rd HOST_BERTH_HEAD.VALUE 0, p.size), (1, s.rd HOST_BERTH_HEAD.VALUE 1, pad8 (16 + 4 * data.length))]
  ∧ s.Keeps t (parts ++ [.host, .mem]) (keys ++ packetKeys)

/-- As `AnsweredBy`, with the packet's own IFVER and the rest of the host interface as it was. -/
def State.Answered (s t : State) (op : Nat) (p : Packet) (st : Nat) (data : List Nat) (parts : List Part) (keys : List Nat) : Prop :=
  s.AnsweredBy t op p p.ifver.toNat st data s.host parts keys

/-- A command packet that a common check turns away (R585, R587): it is answered with that check's status, LENGTH, CRC and IFVER faults are
counted and logged, nothing else happens. -/
def Claim.packetRejected : Prop := ∀ (s : State) (c : Instr) (q : Bool) (op : Nat) (p : Packet) (st : Status) (d : List Nat),
  hostRow c = some (q, op, p) → s.Takes q op p → s.commonCheck op p = some (st, d) →
  GoesTo (exec c s) fun t =>
    let bad := st = .badLength ∨ st = .badCrc ∨ st = .ifverUnsupported
    s.AnsweredBy t op p (s.replyIfver p.ifver.toNat) st.code d s.host (if bad then [.log] else [])
      (if bad then HOST_BADPKT_CNT.VALUE.key 0 0 :: logKeys else [])
    ∧ (bad → t.rd HOST_BADPKT_CNT.VALUE = min (s.rd HOST_BADPKT_CNT.VALUE + 1) (2 ^ 32 - 1) ∧ s.Logs t s.grid.now 0xB003 0 st.code)

/-- While VMAIN is in the warn state (R643) a command that MRAM is written for waits in B0 (log entry 117, a choice of the model): its packet
stands there, and nothing else happens. -/
def Claim.commandWaitsForMram : Prop := ∀ (s : State) (c : Instr) (q : Bool) (op : Nat) (p : Packet), hostRow c = some (q, op, p) →
  s.Offers q p → s.rd HOST_BERTH_HEAD.VALUE 0 = s.rd HOST_BERTH_TAIL.VALUE 0 → s.mramWait op = true →
  GoesTo (exec c s) fun t =>
    t.host.waiting = [⟨op, q, p⟩] ∧ t.rd HOST_BERTH_HEAD.VALUE 0 = (s.rd HOST_BERTH_HEAD.VALUE 0 + p.size) % 2 ^ 32
    ∧ s.Keeps t [.host, .mem] packetKeys

/-- BAD_OPCODE (R585, R598): an opcode that no row defines, in a packet that is sound, is answered BAD_OPCODE and changes nothing. -/
def Claim.badOpcodeAnswered : Prop := ∀ (s : State) (q : Bool) (op : BitVec 16) (p : Packet), s.Takes q op.toNat p → opcodes.contains op.toNat = false →
  p.len % 4 = 0 → p.len ≤ (if s.rd HOST_STATUS.NEG = 1 then ifverLimit (s.rd HOST_STATUS.IFVER) else ifverLimit p.ifver.toNat) →
  p.crc.toNat = p.crcOf op.toNat → (if s.rd HOST_STATUS.NEG = 1 then p.ifver.toNat = s.rd HOST_STATUS.IFVER else p.ifver = 1 ∨ p.ifver = 2) →
  p.flags = 0 → p.ifver = 1 ∨ p.ifver = 2 →
  GoesTo (exec (.badOpcode q op p) s) fun t => s.Answered t op.toNat p 0x0101 [] [] []

/-- A command packet from the interface that has not the session (R568): ignored and counted. -/
def Claim.foreignPacketCounted : Prop := ∀ (s : State) (c : Instr) (q : Bool) (op : Nat) (p : Packet), s.up = true →
  hostRow c = some (q, op, p) → s.foreign q = true →
  GoesTo (exec c s) fun t =>
    t.rd HOST_BADPTR_CNT.VALUE = min (s.rd HOST_BADPTR_CNT.VALUE + 1) (2 ^ 32 - 1) ∧ s.Keeps t [] [HOST_BADPTR_CNT.VALUE.key 0 0]

/-- A command packet for which B0 has no room (R575): the write of HEAD is ignored and counted, PTR_ERR is set. -/
def Claim.packetWithoutRoom : Prop := ∀ (s : State) (c : Instr) (q : Bool) (op : Nat) (p : Packet), s.up = true →
  hostRow c = some (q, op, p) → s.foreign q = false → s.berthSize 0 < s.content 0 + p.size →
  GoesTo (exec c s) fun t =>
    t.rd HOST_BADPTR_CNT.VALUE = min (s.rd HOST_BADPTR_CNT.VALUE + 1) (2 ^ 32 - 1) ∧ t.rd HOST_STATUS.PTR_ERR = 1
    ∧ s.Keeps t [] [HOST_BADPTR_CNT.VALUE.key 0 0, HOST_STATUS.PTR_ERR.key 0 0]

/-- The row of a packet that is another row's, or one that arrives while the logic side does not run (R548, R659): nothing happens. -/
def Claim.noPacketTaken : Prop := ∀ (s : State) (c : Instr) (q : Bool) (op : Nat) (p : Packet),
  (s.up = false ∧ hostRow c = some (q, op, p)) ∨ (c = .setStageOpen q p ∧ (p.subop = 2 ∨ p.subop = 3)) ∨ (c = .setStageWrite q p ∧ p.subop ≠ 2)
    ∨ (c = .setStageSeal q p ∧ p.subop ≠ 3) →
  GoesTo (exec c s) fun t => s.Keeps t [] []

/-- The LENGTH of the commands that have only one (R94 to R110, R171, R241, R461, R481, R484, R531 to R533, R550, R588 to R597, R622, R632). -/
def fixedLength (op : Nat) : Option Nat :=
  match op with
  | 0x0101 => some 12 | 0x0102 => some 0 | 0x0103 => some 4 | 0x0104 => some 8 | 0x0201 => some 4 | 0x0202 => some 4 | 0x0203 => some 0
  | 0x0204 => some 8 | 0x0303 => some 8 | 0x0401 => some 16 | 0x0501 => some 4 | 0x0602 => some 84 | 0x0701 => some 0 | 0x0702 => some 4
  | 0x0703 => some 4 | 0x0704 => some 4 | 0x0705 => some 0 | 0x0706 => some 4 | 0x0801 => some 8 | 0x0802 => some 88 | 0x0901 => some 0
  | 0x0902 => some 0 | 0x0903 => some 0 | 0x0A01 => some 4 | 0x0A02 => some 4 | _ => none

/-- A command of another LENGTH than its own (R585, R587): answered BAD_LENGTH, counted and logged, without effect. -/
def Claim.wrongLength : Prop := ∀ (s : State) (c : Instr) (q : Bool) (op n : Nat) (p : Packet), hostRow c = some (q, op, p) → s.Ready q op p →
  fixedLength op = some n → p.len ≠ n →
  GoesTo (exec c s) fun t =>
    s.Answered t op p 0x0102 [] [.log] (HOST_BADPKT_CNT.VALUE.key 0 0 :: logKeys)
    ∧ t.rd HOST_BADPKT_CNT.VALUE = min (s.rd HOST_BADPKT_CNT.VALUE + 1) (2 ^ 32 - 1) ∧ s.Logs t s.grid.now 0xB003 0 0x0102

/-- The largest TARGET of the commands whose TARGET is a small number. -/
def lastTarget (op : Nat) : Option Nat :=
  match op with
  | 0x0101 | 0x0102 | 0x0103 | 0x0104 | 0x0201 | 0x0204 | 0x0303 | 0x0401 | 0x0602 | 0x0704 | 0x0802 | 0x0901 | 0x0902 => some 0
  | 0x0202 | 0x0801 | 0x0903 => some 1
  | 0x0203 => some 63
  | 0x0701 | 0x0705 => some 3
  | _ => none

/-- A command with a TARGET it does not have (R587, R600): answered BAD_TARGET with REASON 0, without effect. -/
def Claim.wrongTarget : Prop := ∀ (s : State) (c : Instr) (q : Bool) (op m : Nat) (p : Packet), hostRow c = some (q, op, p) → s.Ready q op p →
  fixedLength op = some p.len → lastTarget op = some m → m < p.target.toNat →
  GoesTo (exec c s) fun t => s.Answered t op p 0x0103 [0] [] []

/-! ### The session and the unit (R588 to R596) -/

/-- The keys of the registers that show the session. -/
def sessionKeys : List Nat :=
  [HOST_STATUS.NEG.key 0 0, HOST_STATUS.IF.key 0 0, HOST_STATUS.IFVER.key 0 0, HOST_FEAT_LO.VALUE.key 0 0, HOST_FEAT_HI.VALUE.key 0 0]

/-- NEGOTIATE of a version in common with an interface that the host names (R588 to R592): the session stands on this interface with the version
and the features that both have, streams and taps without their feature end, the event tells of it. With both versions offered the higher is
taken (log entry 64, a choice of the model). -/
def Claim.sessionOpened : Prop := ∀ (s : State) (q : Bool) (p : Packet) (v w : Nat), s.Ready q 0x0101 p → p.len = 12 → p.target = 0 →
  p.word 2 % 4 ≠ 0 → (p.word 0 + 2 ^ 32 * p.word 1).testBit (b2n q) = true → v = (if 2 ≤ p.word 2 % 4 then 2 else 1) →
  w = ((p.word 0 + 2 ^ 32 * p.word 1) &&& s.devFeat q) ||| 2 ^ 13 →
  GoesTo (exec (.negotiate q p) s) fun t =>
    t.rd HOST_STATUS.NEG = 1 ∧ t.rd HOST_STATUS.IF = b2n q ∧ t.rd HOST_STATUS.IFVER = v ∧ t.feat = w % 2 ^ 64
    ∧ (w.testBit 10 = false → ∀ b < 64, t.rd BAY_PSTREAM.EN b = 0)
    ∧ s.Logs t s.grid.now 0xB001 (b2n q) (v + 65536 * (w % 65536))
    ∧ s.AnsweredBy t 0x0101 p p.ifver.toNat 0 [w % 2 ^ 32, w / 2 ^ 32, v + 256 * 32 + 65536 * ifverLimit v, if q then 16 else 256]
        { s.host with taps := s.host.taps.filter fun t => w.testBit (if t.goose then 3 else 2) } [.log]
        (sessionKeys ++ logKeys ++ (if w.testBit 10 then [] else (List.range 64).map fun b => BAY_PSTREAM.EN.key b 0))

/-- IDENTIFY (R593): serial, part, firmware and ROM version, features, roles, settings digest, device time; nothing changes. -/
def Claim.unitIdentified : Prop := ∀ (s : State) (q : Bool) (p : Packet), s.Ready q 0x0102 p → p.len = 0 → p.target = 0 →
  GoesTo (exec (.identify q p) s) fun t =>
    s.Answered t 0x0102 p 0 [s.rd ID_SERIAL_LO.VALUE, s.rd ID_SERIAL_HI.VALUE, s.rd ID_PART.PART + 65536 * s.rd ID_PART.REV, s.rd ID_FW_VER.VALUE,
      Config.otp (ID_ROM_VER.VALUE.key 0 0) % 2 ^ 32, s.rd ID_DEV_FEAT_LO.VALUE, s.rd ID_DEV_FEAT_HI.VALUE,
      3 + 256 * s.rd PAIR_CFG.LKV + 65536 * s.role + 2 ^ 24 * s.rd HOST_STATUS.MAINT + 2 ^ 25 * b2n s.pwr.prot,
      s.rd SET_DIG_LO.VALUE, s.rd SET_DIG_HI.VALUE, s.grid.now % 2 ^ 32, s.grid.now / 2 ^ 32 % 2 ^ 32] [] []

/-- RESTART with its key, in maintenance mode or out of service (R594), with the log idle: OK, and the restart is to begin. -/
def Claim.restartAccepted : Prop := ∀ (s : State) (q : Bool) (p : Packet), s.Ready q 0x0103 p → p.len = 4 → p.target = 0 → p.word 0 = 0x54534552 →
  (s.maint = true ∨ (s.role ≠ 4 ∧ (s.role ≠ 0 ∨ s.pwr.prot = false))) → s.rd EVT_BERTH.EN = 0 →
  GoesTo (exec (.restart q p) s) fun t =>
    t.host.restartReq = true ∧ t.nv = { s.nv with log := t.nv.log } ∧ s.Replied t 0x0103 p p.ifver.toNat 0 [] ∧ s.Stays t

/-- RESTART of a unit in service, out of maintenance mode (R594): BUSY NOT_MAINT, without effect. -/
def Claim.restartRefused : Prop := ∀ (s : State) (q : Bool) (p : Packet), s.Ready q 0x0103 p → p.len = 4 → p.target = 0 → p.word 0 = 0x54534552 →
  s.maint = false → s.role = 4 ∨ (s.role = 0 ∧ s.pwr.prot = true) →
  GoesTo (exec (.restart q p) s) fun t => s.Answered t 0x0103 p 0x0201 [14] [] []

/-- MAINT_MODE with EN and a lease of 60 to 86,400 s (R595): maintenance mode with its lease, and the event. -/
def Claim.maintenanceEntered : Prop := ∀ (s : State) (q : Bool) (p : Packet), s.Ready q 0x0104 p → p.len = 8 → p.target = 0 → s.role ≠ 3 →
  p.word 0 % 2 = 1 → 60 ≤ p.word 1 → p.word 1 ≤ 86400 →
  GoesTo (exec (.maintMode q p) s) fun t =>
    t.maint = true ∧ (s.wr HOST_STATUS.MAINT 1).Logs t s.grid.now 0x0004 0 (p.word 1)
    ∧ s.AnsweredBy t 0x0104 p p.ifver.toNat 0 [] { s.host with maintEnd := s.grid.now + p.word 1 * 250000000 } [.log]
        (HOST_STATUS.MAINT.key 0 0 :: logKeys)

/-- MAINT_MODE with another lease (R595), or in role 3: refused with its REASON. -/
def Claim.maintenanceRefused : Prop := ∀ (s : State) (q : Bool) (p : Packet), s.Ready q 0x0104 p → p.len = 8 → p.target = 0 →
  GoesTo (exec (.maintMode q p) s) fun t =>
    (s.role = 3 → s.Answered t 0x0104 p 0x0201 [21] [] [])
    ∧ (s.role ≠ 3 → p.word 0 % 2 = 1 → p.word 1 < 60 ∨ 86400 < p.word 1 → s.Answered t 0x0104 p 0x0103 [29] [] [])

/-- MAINT_MODE without EN (R595, R596): maintenance mode ends; the force masks and the TEST marks are gone. -/
def Claim.maintenanceLeft : Prop := ∀ (s : State) (q : Bool) (p : Packet), s.Ready q 0x0104 p → p.len = 8 → p.target = 0 → s.role ≠ 3 →
  p.word 0 % 2 = 0 → s.maint = true →
  GoesTo (exec (.maintMode q p) s) fun t =>
    t.maint = false ∧ t.rd KNOT_TM_FORCE_EN.MASK = 0 ∧ t.rd KNOT_TM_FORCE_VAL.MASK = 0
    ∧ t.rd AFE_TESTMARK_LO.MASK = 0 ∧ t.rd AFE_TESTMARK_HI.MASK = 0 ∧ (s.wr HOST_STATUS.MAINT 0).Logs t s.grid.now 0x0005 0 0
    ∧ s.AnsweredBy t 0x0104 p p.ifver.toNat 0 [] { s.host with maintEnd := 0 } [.log]
        ([HOST_STATUS.MAINT.key 0 0, KNOT_TM_FORCE_EN.MASK.key 0 0, KNOT_TM_FORCE_VAL.MASK.key 0 0, AFE_TESTMARK_LO.MASK.key 0 0,
          AFE_TESTMARK_HI.MASK.key 0 0] ++ logKeys)

/-! ### The front end and the filters (R94 to R112, R132 to R135, R171 to R187) -/

/-- SELFCAL of groups or converters that are out of service and idle (R94, R95): accepted, and the run begins with what was selected. -/
def Claim.selfCalibrationBegins : Prop := ∀ (s : State) (q : Bool) (p : Packet), s.Ready q 0x0201 p → p.len = 4 → p.target = 0 → p.word 0 < 64 →
  p.word 0 ≠ 0 → s.inService (groupChans (p.word 0 % 16)) = false → s.afe.cal = none → s.afe.diag = none → s.afe.skew = none →
  s.rd AFE_STATUS.GRP_BIST &&& (p.word 0 % 16) = 0 → s.rd AUX_STATUS.BIST &&& (p.word 0 / 16 % 4) = 0 →
  GoesTo (exec (.selfcal q p) s) fun t =>
    (∃ r, t.afe.cal = some r ∧ t.afe = { s.afe with cal := some r } ∧ r.groups = maskIdx 4 (p.word 0 % 16) ∧ r.aux = p.word 0 / 16 % 4 ∧ r.cur = none
      ∧ r.ready = s.grid.now ∧ r.pass = 0 ∧ r.fail = 0)
    ∧ t.rd AFE_STATUS.CAL_BUSY = 1 ∧ t.pwr = { s.pwr with selfcalSeen := true } ∧ s.Answered t 0x0201 p 1 [] [.afe, .pwr] [AFE_STATUS.CAL_BUSY.key 0 0]

/-- SELFCAL while a group in it is in service, or while a calibration runs (R94): BUSY with its REASON, without effect. -/
def Claim.selfCalibrationRefused : Prop := ∀ (s : State) (q : Bool) (p : Packet), s.Ready q 0x0201 p → p.len = 4 → p.target = 0 → p.word 0 < 64 →
  p.word 0 ≠ 0 →
  GoesTo (exec (.selfcal q p) s) fun t =>
    (s.inService (groupChans (p.word 0 % 16)) = true → s.Answered t 0x0201 p 0x0201 [1] [] [])
    ∧ (s.inService (groupChans (p.word 0 % 16)) = false → s.afe.cal.isSome = true → s.Answered t 0x0201 p 0x0201 [2] [] [])

/-- AUX_INJECT of an input that exists (R132, R135): OK; the latch has the request, or the reply says why it was dropped. -/
def Claim.injectionAnswered : Prop := ∀ (s : State) (q : Bool) (p : Packet) (m : Fin 2), s.Ready q 0x0202 p → p.len = 4 → p.target.toNat = m.val →
  p.word 0 ≤ 23 →
  GoesTo (exec (.auxInject q p) s) fun t =>
    (s.injReason m = 0 → (t.conv m).inj = some (p.word 0, s.grid.now) ∧ s.Answered t 0x0202 p 0 [1] [.aux] (convKeys m))
    ∧ (s.injReason m ≠ 0 → s.Answered t 0x0202 p 0 [16 * s.injReason m] []
        [AUX_INJ_DROP.VALUE.key m 0, AUX_INJ_DROP_FULL.VALUE.key m 0, AUX_INJ_DROP_CAL.VALUE.key m 0, AUX_INJ_DROP_BIST.VALUE.key m 0])

/-- No procedure uses the front end, and the channels are out of service and not under test (R106, R110, R112). -/
def State.frontFree (s : State) (chs : List Nat) : Prop :=
  s.inService chs = false ∧ s.afe.cal = none ∧ s.afe.diag = none ∧ s.afe.skew = none
  ∧ ∀ c ∈ chs, (s.rd AFE_STATUS.GRP_BIST).testBit (c / 16) = false

/-- Channel `c` is in a procedure of `len` units from now on (R103, R108): its words carry SELFTEST meanwhile, its splice starts again in WIDE at
both ends, and its checks wait for the settling after it. -/
def State.InProcedure (s t : State) (c len : Nat) : Prop :=
  ({ flag := bSELFTEST, lo := s.grid.now * 2 ^ 32, hi := some ((s.grid.now + len) * 2 ^ 32) } : FlagSpan) ∈ (t.chan c).spans
  ∧ (t.chan c).valFrom = (s.grid.now + len) * 2 ^ 32 + s.settleSpan c
  ∧ ((s.chan c).tm < s.grid.now * 2 ^ 32 →
      s.grid.now * 2 ^ 32 ∈ (t.chan c).restarts ∧ (s.grid.now + len) * 2 ^ 32 ∈ (t.chan c).restarts)

/-- AFE_DIAG of a free channel (R110): accepted; the diagnosis runs from now on and owns the test DAC. -/
def Claim.diagnosisBegins : Prop := ∀ (s : State) (q : Bool) (p : Packet), s.Ready q 0x0203 p → p.len = 0 → p.target.toNat < 64 →
  s.frontFree [p.target.toNat] →
  GoesTo (exec (.afeDiag q p) s) fun t =>
    t.afe = { s.afe with diag := some (p.target.toNat, s.grid.now), ch := t.afe.ch } ∧ s.InProcedure t p.target.toNat 2500000
    ∧ (∀ d, d ≠ p.target.toNat → t.chan d = s.chan d) ∧ t.rd AFE_STATUS.DIAG_BUSY = 1 ∧ t.rd AFE_TDAC_CTRL.RUN = 0 ∧ t.tdacOwned = true
    ∧ s.Answered t 0x0203 p 1 [] [.afe] [AFE_STATUS.DIAG_BUSY.key 0 0, AFE_TDAC_CTRL.RUN.key 0 0, AFE_CH_STATUS.TWIN_MM.key p.target.toNat 0]

/-- AFE_SKEWCAL of free channels (R112): accepted; the calibration runs from now on and owns the test DAC. -/
def Claim.skewCalibrationBegins : Prop := ∀ (s : State) (q : Bool) (p : Packet) (m : Nat), s.Ready q 0x0204 p → p.len = 8 → p.target = 0 →
  m = p.word 0 + 2 ^ 32 * p.word 1 → m ≠ 0 → s.frontFree (maskIdx 64 m) →
  GoesTo (exec (.afeSkewcal q p) s) fun t =>
    t.afe = { s.afe with skew := some (m, s.grid.now), ch := t.afe.ch } ∧ (∀ c ∈ maskIdx 64 m, s.InProcedure t c 6000000)
    ∧ (∀ d, d ∉ maskIdx 64 m → t.chan d = s.chan d) ∧ t.rd AFE_STATUS.SKEW_BUSY = 1 ∧ t.rd AFE_TDAC_CTRL.RUN = 0 ∧ t.tdacOwned = true
    ∧ s.Answered t 0x0204 p 1 [] [.afe] ([AFE_STATUS.SKEW_BUSY.key 0 0, AFE_TDAC_CTRL.RUN.key 0 0]
        ++ (maskIdx 64 m).map fun c => AFE_CH_STATUS.TWIN_MM.key c 0)

/-- The keys of a channel's registers that a bank load or a queued swap may write. -/
def bankKeys (c : Nat) : List Nat :=
  [FLT_CH_DIGA_LO.VALUE, FLT_CH_DIGA_HI.VALUE, FLT_CH_DIGB_LO.VALUE, FLT_CH_DIGB_HI.VALUE, FLT_CH_STATUS.STATE, FLT_CH_STATUS.QUEUED,
    FLT_CH_STATUS.TYPE, FLT_CH_STATUS.A_LOADED, FLT_CH_STATUS.B_LOADED, FLT_CH_FADE.POS, FLT_CH_FADE.LOG2F].map (·.key c 0)

/-- FLT_BANK_LOAD of a sound bank for channels without a swap pending (R175 to R179, R643): the idle bank of each is the new one, stored too, or
owed to MRAM while its writes are withheld; the reply gives its digest. -/
def Claim.bankLoaded : Prop := ∀ (s : State) (q : Bool) (p : Packet), s.Ready q 0x0301 p →
  p.len = (if (p.word 2).testBit 4 then 12 else if (p.word 2).testBit 0 then 568 else 440) → p.target = 0 →
  maskIdx 64 p.mask64 ≠ [] → (∀ c ∈ maskIdx 64 p.mask64, (s.chan c).swap = none ∧ s.rd FLT_CH_CFG.RCODE c = (bankOf p).rcode) →
  ((bankOf p).rom = true ∨ (((bankOf p).minPhase = true ∨ ((bankOf p).h = (bankOf p).h.reverse ∧ (bankOf p).g = (bankOf p).g.reverse))
    ∧ dcOk (bankOf p).h = true ∧ dcOk (bankOf p).g = true)) →
  GoesTo (exec (.fltBankLoad q p) s) fun t =>
    (∀ c ∈ maskIdx 64 p.mask64, t.chan c = (if s.rd FLT_CH_STATUS.ACTIVE c = 0 then { s.chan c with bankB := some (bankOf p) }
      else { s.chan c with bankA := some (bankOf p) }))
    ∧ (∀ c < 64, c ∉ maskIdx 64 p.mask64 → t.chan c = s.chan c)
    ∧ (s.writesHeld = false → t.pwr = s.pwr ∧ ∀ c ∈ maskIdx 64 p.mask64,
        tfind (t.nv.afe.store.good.getD []) c = some ((t.chan c).bankA, (t.chan c).bankB, s.rd FLT_CH_STATUS.ACTIVE c))
    ∧ (s.writesHeld = true → t.nv = s.nv ∧ t.pwr = { s.pwr with owedBanks := t.pwr.owedBanks } ∧ ∀ c ∈ maskIdx 64 p.mask64, c ∈ t.pwr.owedBanks)
    ∧ { t.nv with afe := { t.nv.afe with store := s.nv.afe.store } } = s.nv
    ∧ s.Answered t 0x0301 p 0 [(bankOf p).digest % 2 ^ 32, (bankOf p).digest / 2 ^ 32] [.afe, .nv, .pwr] ((maskIdx 64 p.mask64).flatMap bankKeys)

/-- FLT_BANK_SWAP at once, for channels out of service whose idle bank is loaded and that have no swap (R180 to R182): the swap of each is queued
with the fade length, and the reply says that it is accepted. -/
def Claim.swapQueued : Prop := ∀ (s : State) (q : Bool) (p : Packet), s.Ready q 0x0302 p → p.len = 12 → p.target = 0 → p.mask64 ≠ 0 →
  (p.word 2).testBit 8 = false → p.word 2 % 16 ≤ 12 →
  (∀ c ∈ maskIdx 64 p.mask64, (s.chan c).swap = none ∧ (s.chan c).queued = none ∧ (s.idleBank c).isSome = true ∧ s.inService [c] = false) →
  GoesTo (exec (.fltBankSwap q p) s) fun t =>
    (∀ c ∈ maskIdx 64 p.mask64, t.chan c = { s.chan c with swap := some { tag := p.tag.toNat, id := s.afe.swapNo, fade := p.word 2 % 16, start := s.grid.now * 2 ^ 32, tick := none } })
    ∧ (∀ c < 64, c ∉ maskIdx 64 p.mask64 → t.chan c = s.chan c) ∧ t.afe.swaps = s.afe.swaps ++ [(s.afe.swapNo, p.tag.toNat, maskIdx 64 p.mask64)]
    ∧ s.Answered t 0x0302 p 1 [p.mask64 % 2 ^ 32, p.mask64 / 2 ^ 32, 0] [.afe] ((maskIdx 64 p.mask64).flatMap bankKeys)

/-- FLT_BANK_SWAP of a channel with no idle bank, or with a swap queued behind one that runs (R180, R181): refused. -/
def Claim.swapRefused : Prop := ∀ (s : State) (q : Bool) (p : Packet), s.Ready q 0x0302 p → p.len = 12 → p.target = 0 → p.mask64 ≠ 0 →
  (p.word 2).testBit 8 = false → p.word 2 % 16 ≤ 12 →
  GoesTo (exec (.fltBankSwap q p) s) fun t =>
    ((∃ c ∈ maskIdx 64 p.mask64, (s.chan c).swap = none ∧ s.idleBank c = none) → s.Answered t 0x0302 p 0x0103 [5] [] [])
    ∧ ((∀ c ∈ maskIdx 64 p.mask64, (s.chan c).swap.isSome = true ∨ (s.idleBank c).isSome = true) →
        (∃ c ∈ maskIdx 64 p.mask64, (s.chan c).queued.isSome = true) →
        t.rd FLT_XFADE_BUSY_CNT.VALUE = min (s.rd FLT_XFADE_BUSY_CNT.VALUE + 1) (2 ^ FLT_XFADE_BUSY_CNT.VALUE.width - 1)
        ∧ s.Answered t 0x0302 p 0x020B [] [] [FLT_XFADE_BUSY_CNT.VALUE.key 0 0])

/-- FLT_SYNC of channels out of service (R171, R172): each resets at the first multiple of 2,000 units that is at least 500 away. -/
def Claim.syncScheduled : Prop := ∀ (s : State) (q : Bool) (p : Packet), s.Ready q 0x0303 p → p.len = 8 → p.target = 0 → p.mask64 ≠ 0 →
  s.inService (maskIdx 64 p.mask64) = false →
  GoesTo (exec (.fltSync q p) s) fun t =>
    (∀ c ∈ maskIdx 64 p.mask64, t.chan c = { s.chan c with sync := (s.chan c).sync ++ [(s.grid.now + 2499) / 2000 * 2000 * 2 ^ 32] })
    ∧ (∀ c < 64, c ∉ maskIdx 64 p.mask64 → t.chan c = s.chan c) ∧ t.rd FLT_STATUS.SYNC_PEND = 1
    ∧ s.Answered t 0x0303 p 0 [] [.afe] [FLT_STATUS.SYNC_PEND.key 0 0]

/-! ### Time and the process bus (R241, R597) -/

/-- TIME_SET of a recent device time, with no better source in use (R231, R241): the pair is a measurement; within 1 µs the rate is adjusted for
one second, beyond it TAI steps. -/
def Claim.timeIsSet : Prop := ∀ (s : State) (q : Bool) (p : Packet) (d : Nat) (theta : Int), s.Ready q 0x0401 p → p.len = 16 → p.target = 0 →
  s.rd GRID_TQ.SOURCE ≠ 1 → s.rd GRID_TQ.SOURCE ≠ 2 → s.rd GRID_TQ.SOURCE ≠ 3 → d = p.word 2 + 2 ^ 32 * p.word 3 → d ≤ s.grid.now →
  s.grid.now ≤ d + 2500000000 → theta = s.taiOf d - sx 64 (p.word 0 + 2 ^ 32 * p.word 1) →
  GoesTo (exec (.timeSet q p) s) fun t =>
    t.rdI PBUS_TIME_OFS.VALUE = satI 32 theta ∧ t.pbus.time.hostSet = true ∧ t.pbus.time.taiSet = true
    ∧ (theta.natAbs ≤ 1000 → t.grid = { s.grid with delta := deltaOf theta, deltaEnd := some (s.grid.now + 250000000) } ∧ t.log = s.log)
    ∧ (1000 < theta.natAbs → s.StepsTime t theta) ∧ s.Answered t 0x0401 p 0 [] [.grid, .pbus, .log] (timeKeys ++ causeKeys ++ logKeys)

/-- TIME_SET while PTP, IRIG-B or 1PPS is in use, or of a device time that is not recent (R241): refused with its REASON. -/
def Claim.timeSetRefused : Prop := ∀ (s : State) (q : Bool) (p : Packet), s.Ready q 0x0401 p → p.len = 16 → p.target = 0 →
  GoesTo (exec (.timeSet q p) s) fun t =>
    (s.rd GRID_TQ.SOURCE ∈ [1, 2, 3] → s.Answered t 0x0401 p 0x0201 [10] [] [])
    ∧ (s.rd GRID_TQ.SOURCE ∉ [1, 2, 3] → s.grid.now < p.word 2 + 2 ^ 32 * p.word 3 ∨ p.word 2 + 2 ^ 32 * p.word 3 + 2500000000 < s.grid.now →
        s.Answered t 0x0401 p 0x0103 [11] [] [])

/-- PBUS_SUBSCRIBE (R597): a tap begins in a MEASUREMENT berth of at least 4 KB, at most four stand, and it ends on request. -/
def Claim.tapManaged : Prop := ∀ (s : State) (q : Bool) (p : Packet) (x : Tap), s.Ready q 0x0501 p → p.len = 4 →
  x = { goose := (p.word 0).testBit 8, sub := p.target.toNat, berth := p.word 0 % 256 } → x.sub ≤ (if x.goose then 1023 else 255) →
  GoesTo (exec (.pbusSubscribe q p) s) fun t =>
    ((p.word 0).testBit 9 = false → s.AnsweredBy t 0x0501 p p.ifver.toNat 0 [] { s.host with taps := s.host.taps.filter fun y => y != x } [] [])
    ∧ ((p.word 0).testBit 9 = true → s.berthOk x.berth 0 4096 = true → x ∉ s.host.taps → s.host.taps.length < 4 →
        s.AnsweredBy t 0x0501 p p.ifver.toNat 0 [] { s.host with taps := s.host.taps ++ [x] } [] [])
    ∧ ((p.word 0).testBit 9 = true → s.berthOk x.berth 0 4096 = true → x ∈ s.host.taps → s.Answered t 0x0501 p 0 [] [] [])
    ∧ ((p.word 0).testBit 9 = true → s.berthOk x.berth 0 4096 = true → x ∉ s.host.taps → 4 ≤ s.host.taps.length → s.Answered t 0x0501 p 0x0201 [28] [] [])
    ∧ ((p.word 0).testBit 9 = true → s.berthOk x.berth 0 4096 = false → s.Answered t 0x0501 p 0x0103 [25] [] [])

/-! ### Custody (R539 to R555, R481) -/

/-- The keys of the registers that show custody's state. -/
def custKeys : List Nat :=
  [SET_CHAMBER.STATE, SET_CHAMBER.G1_SLOT, SET_CHAMBER.G1_ROLE, SET_CHAMBER.G2_SLOT, SET_CHAMBER.G2_ROLE, SET_CHAMBER.OPEN, SET_CHAMBER.LOCKOUT,
    SET_CHAMBER.AT, SET_CTR_LO.VALUE, SET_CTR_HI.VALUE, SET_SDIG_LO.VALUE, SET_SDIG_HI.VALUE, SET_PEND_TAI_LO.VALUE, SET_PEND_TAI_HI.VALUE,
    SET_COMMIT_CNT.VALUE].map (·.key 0 0)
  ++ (List.range 8).flatMap fun k => [SET_KEY_CFG.ROLE, SET_KEY_USE_CNT.VALUE, SET_KEY_FP_LO.VALUE, SET_KEY_FP_HI.VALUE].map (·.key k 0)

/-- SET_STAGE OPEN in an empty chamber (R548): STAGING, with a copy of the bank in force. -/
def Claim.stagingOpened : Prop := ∀ (s : State) (q : Bool) (p : Packet), s.Ready q 0x0601 p → p.len = 4 → p.target = 0 → p.word 0 % 256 = 1 →
  s.chamber = 0 →
  GoesTo (exec (.setStageOpen q p) s) fun t =>
    t.cust = { s.cust with shadow := some s.settings, g1 := none, g2 := none } ∧ t.chamber = 1 ∧ t.nv = { s.nv with cust := { s.nv.cust with work := true } }
    ∧ s.Answered t 0x0601 p 0 [] [.cust, .nv] custKeys

/-- SET_STAGE while the chamber is in another state than the operation needs (R548, R555): BUSY CHAMBER with the state. -/
def Claim.stagingBusy : Prop := ∀ (s : State) (q : Bool) (p : Packet) (c : Instr), s.Ready q 0x0601 p → p.target = 0 →
  (c = .setStageOpen q p ∧ p.word 0 % 256 = 1 ∧ p.len = 4 ∧ s.chamber ≠ 0)
    ∨ (c = .setStageWrite q p ∧ p.word 0 % 256 = 2 ∧ 12 ≤ p.len ∧ p.len = 12 + 4 * p.word 2 ∧ s.chamber ≠ 1)
    ∨ (c = .setStageSeal q p ∧ p.word 0 % 256 = 3 ∧ p.len = 4 ∧ s.chamber ≠ 1) →
  GoesTo (exec c s) fun t => s.Answered t 0x0601 p 0x0201 [34, s.chamber] [] []

/-- SET_STAGE WRITE in STAGING (R549): the shadow bank takes the words, or the reply gives the REASON and it stays as it was. -/
def Claim.stagedWordsTaken : Prop := ∀ (s : State) (q : Bool) (p : Packet) (k : Bank) (r : Option Nat), s.Ready q 0x0601 p → 12 ≤ p.len →
  p.len = 12 + 4 * p.word 2 → p.target = 0 → p.word 0 % 256 = 2 → s.chamber = 1 →
  (s.cust.shadow.getD s.settings).stageWrite (p.word 0 / 256 % 256) (p.word 1) (p.wordsFrom 3) = (k, r) →
  GoesTo (exec (.setStageWrite q p) s) fun t =>
    (r = none → t.cust = { s.cust with shadow := some k } ∧ s.Answered t 0x0601 p 0 [] [.cust] [])
    ∧ (∀ x, r = some x → s.Answered t 0x0601 p 0x0103 [x] [] [])

/-- SET_STAGE WRITE of one settings register of the shadow bank (R549, R698): that word is replaced, every other is as it was. -/
def Claim.stagedRegister : Prop := ∀ (k : Bank) (a w : Nat), a % 4 = 0 → inElm a = false → andNot w (fieldMask (spAt a)) = 0 → fieldMask (spAt a) ≠ 0 →
  (k.stageWrite 1 a [w]).2 = none ∧ (k.stageWrite 1 a [w]).1.word a = some w ∧ (∀ b ≠ a, (k.stageWrite 1 a [w]).1.word b = k.word b)
  ∧ { (k.stageWrite 1 a [w]).1 with words := k.words } = k

/-- SET_STAGE SEAL of a bank that passes every check (R548): SEALED; the reply gives the digests and SET_CTR; the event carries the digest. -/
def Claim.bankSealed : Prop := ∀ (s : State) (q : Bool) (p : Packet) (k : Bank), s.Ready q 0x0601 p → p.len = 4 → p.target = 0 → p.word 0 % 256 = 3 →
  s.chamber = 1 → k = s.cust.shadow.getD s.settings → k.firstFailure (s.hasFeat 14) = none →
  GoesTo (exec (.setStageSeal q p) s) fun t =>
    t.cust = { s.cust with sdig := k.bankDigest, g1 := none, g2 := none } ∧ t.chamber = 2 ∧ s.Logs t s.grid.now 0x9001 0 (k.bankDigest % 2 ^ 32)
    ∧ t.nv = { s.nv with cust := { s.nv.cust with work := true } }
    ∧ s.Answered t 0x0601 p 0 [k.bankDigest % 2 ^ 32, k.bankDigest / 2 ^ 32, k.setDigest % 2 ^ 32, k.setDigest / 2 ^ 32, s.nv.cust.ctr % 2 ^ 32,
        s.nv.cust.ctr / 2 ^ 32] [.cust, .nv, .log] (custKeys ++ logKeys)

/-- SET_STAGE SEAL of a bank that fails a check (R548): BAD_TARGET with the first failure, which SET_STAGE_ERR keeps; STAGING goes on. -/
def Claim.sealRefused : Prop := ∀ (s : State) (q : Bool) (p : Packet) (x : Nat), s.Ready q 0x0601 p → p.len = 4 → p.target = 0 → p.word 0 % 256 = 3 →
  s.chamber = 1 → (s.cust.shadow.getD s.settings).firstFailure (s.hasFeat 14) = some x →
  GoesTo (exec (.setStageSeal q p) s) fun t =>
    t.rd SET_STAGE_ERR.VALUE = x % 2 ^ 32 ∧ t.chamber = 1 ∧ s.Answered t 0x0601 p 0x0103 [32, x] [] [SET_STAGE_ERR.VALUE.key 0 0]

/-- SET_ENDORSE of a sealed bank by a signature that R550 accepts and a role that has no gate yet: the gate opens, ENDORSED_1 after the first and
ENDORSED after the second; the slot's use is counted. -/
def Claim.gateOpens : Prop := ∀ (s : State) (q : Bool) (p : Packet) (e : Endorse), s.Ready q 0x0602 p → p.len = 84 → p.target = 0 → e = p.endorse 0 →
  s.chamber = 2 ∨ s.chamber = 3 → s.locked = false → s.endorseCheck e 1 s.cust.sdig = none →
  (∀ g, s.cust.g1 = some g → g.role ≠ (s.slot e.slot).role) →
  GoesTo (exec (.setEndorse q p) s) fun t =>
    (s.cust.g1 = none → t.cust = { s.cust with g1 := some ⟨e.slot, (s.slot e.slot).role, e.ctr⟩ } ∧ t.chamber = 3)
    ∧ (s.cust.g1.isSome = true → t.cust = { s.cust with g2 := some ⟨e.slot, (s.slot e.slot).role, e.ctr⟩ } ∧ t.chamber = 4)
    ∧ t.slot e.slot = { s.slot e.slot with uses := satInc (s.slot e.slot).uses } ∧ (∀ k ≠ e.slot, t.slot k = s.slot k)
    ∧ s.Logs t s.grid.now 0x9002 e.slot (s.slot e.slot).role
    ∧ t.nv = { s.nv with cust := { s.nv.cust with slots := t.nv.cust.slots, work := true } }
    ∧ s.Answered t 0x0602 p 0 [] [.cust, .nv, .log] (custKeys ++ logKeys)

/-- SET_ENDORSE of a sealed bank with a signature that is not valid (R544, R546): AUTH_FAIL, counted and logged; the fifth within 60 s locks
endorsements out; no gate opens. -/
def Claim.endorsementRefused : Prop := ∀ (s : State) (q : Bool) (p : Packet) (e : Endorse) (l : List Nat), s.Ready q 0x0602 p → p.len = 84 →
  p.target = 0 → e = p.endorse 0 → s.chamber = 2 ∨ s.chamber = 3 → s.locked = false → e.op = 1 → s.signed e = false →
  l = (s.cust.fails.filter fun t => decide (s.grid.now ≤ t + 15000000000)) ++ [s.grid.now] →
  GoesTo (exec (.setEndorse q p) s) fun t =>
    t.rd SET_AUTHFAIL_CNT.VALUE = min (s.rd SET_AUTHFAIL_CNT.VALUE + 1) (2 ^ 32 - 1) ∧ s.Logs t s.grid.now 0x9005 e.slot 0
    ∧ (l.length < 5 → t.cust = { s.cust with fails := l })
    ∧ (5 ≤ l.length → t.cust = { s.cust with fails := [], lockEnd := some (s.grid.now + 15000000000) } ∧ t.rd SET_CHAMBER.LOCKOUT = 1)
    ∧ s.Answered t 0x0602 p 0x0208 [] [.cust, .log] ([SET_AUTHFAIL_CNT.VALUE.key 0 0, SET_CHAMBER.LOCKOUT.key 0 0] ++ logKeys)

/-- SET_ENDORSE with another OP, a stale counter or another subject (R550), each after the checks before it: refused, nothing opens. -/
def Claim.endorsementChecks : Prop := ∀ (s : State) (q : Bool) (p : Packet) (e : Endorse), s.Ready q 0x0602 p → p.len = 84 → p.target = 0 →
  e = p.endorse 0 → s.chamber = 2 ∨ s.chamber = 3 →
  GoesTo (exec (.setEndorse q p) s) fun t =>
    (s.locked = true → s.Answered t 0x0602 p 0x0201 [36] [] [])
    ∧ (s.locked = false → e.op ≠ 1 → s.Answered t 0x0602 p 0x0103 [37] [] [])
    ∧ (s.locked = false → e.op = 1 → s.signed e = true → e.ctr ≠ s.nv.cust.ctr → s.Answered t 0x0602 p 0x020A [] [] [])
    ∧ (s.locked = false → e.op = 1 → s.signed e = true → e.ctr = s.nv.cust.ctr → e.subject ≠ s.cust.sdig → s.Answered t 0x0602 p 0x0103 [35] [] [])

/-- SET_COMMIT at once of a bank whose two gates carry SET_CTR (R551, R552): SET_CTR counts up, the pending record is durable, COMMITTED; the
reply is the first of two and gives SET_CTR. -/
def Claim.commitAccepted : Prop := ∀ (s : State) (q : Bool) (p : Packet) (g1 g2 : Gate), s.Ready q 0x0603 p → p.len = 4 → p.target = 0 →
  (p.word 0).testBit 0 = false → s.chamber = 4 → s.cust.g1 = some g1 → s.cust.g2 = some g2 → g1.ctr = s.nv.cust.ctr → g2.ctr = s.nv.cust.ctr →
  GoesTo (exec (.setCommit q p) s) fun t =>
    t.nv.cust.pend = some { bank := s.cust.shadow.getD s.settings, bdig := s.cust.sdig, sdig := (s.cust.shadow.getD s.settings).setDigest, at' := none, ctr := s.nv.cust.ctr + 1, accepted := s.grid.now }
    ∧ t.nv = { s.nv with cust := { s.nv.cust with pend := t.nv.cust.pend, ctr := s.nv.cust.ctr + 1, work := true, old := some s.nv.cust.copy } }
    ∧ t.cust = { s.cust with g1 := none, g2 := none, shadow := none } ∧ t.chamber = 5 ∧ t.settings = s.settings
    ∧ s.Answered t 0x0603 p 1 [(s.nv.cust.ctr + 1) % 2 ^ 32, (s.nv.cust.ctr + 1) / 2 ^ 32] [.cust, .nv] custKeys

/-- SET_COMMIT with a gate whose counter is not SET_CTR (R551): STALE_COUNTER; both gates close and the bank is SEALED again. -/
def Claim.commitStale : Prop := ∀ (s : State) (q : Bool) (p : Packet) (g1 g2 : Gate), s.Ready q 0x0603 p → p.len = 4 → p.target = 0 →
  (p.word 0).testBit 0 = false → s.chamber = 4 → s.cust.g1 = some g1 → s.cust.g2 = some g2 → g1.ctr ≠ s.nv.cust.ctr ∨ g2.ctr ≠ s.nv.cust.ctr →
  GoesTo (exec (.setCommit q p) s) fun t =>
    t.cust = { s.cust with g1 := none, g2 := none } ∧ t.chamber = 2 ∧ t.nv = { s.nv with cust := { s.nv.cust with work := true } }
    ∧ s.Answered t 0x0603 p 0x020A [] [.cust, .nv] custKeys

/-- SET_ABORT without an endorsement (R553): a shadow bank is discarded, from EMPTY nothing happens, a pending commit is not touched. -/
def Claim.shadowDiscarded : Prop := ∀ (s : State) (q : Bool) (p : Packet), s.Ready q 0x0604 p → p.len = 0 → p.target = 0 →
  GoesTo (exec (.setAbort q p) s) fun t =>
    (s.chamber ≠ 0 → s.chamber ≠ 5 →
      t.cust = { s.cust with shadow := none, g1 := none, g2 := none } ∧ t.chamber = 0 ∧ s.Logs t s.grid.now 0x9004 0 0
      ∧ t.nv = { s.nv with cust := { s.nv.cust with work := false } } ∧ s.Answered t 0x0604 p 0 [] [.cust, .nv, .log] (custKeys ++ logKeys))
    ∧ (s.chamber = 0 → s.Answered t 0x0604 p 0 [] [] []) ∧ (s.chamber = 5 → s.Answered t 0x0604 p 0x0201 [34, 5] [] [])

/-- SET_ABORT with an endorsement that R553 accepts, before the swap tick: the pending commit is cancelled, SET_CTR counts up. -/
def Claim.commitCancelled : Prop := ∀ (s : State) (q : Bool) (p : Packet) (e : Endorse) (r : PendRec), s.Ready q 0x0604 p → p.len = 84 →
  p.target = 0 → e = p.endorse 0 → s.chamber = 5 → s.locked = false → s.nv.cust.pend = some r → s.endorseCheck e 4 r.bdig = none →
  s.swapReached = false →
  GoesTo (exec (.setAbort q p) s) fun t =>
    t.nv.cust.pend = none ∧ t.nv.cust.ctr = s.nv.cust.ctr + 1 ∧ t.slot e.slot = { s.slot e.slot with uses := satInc (s.slot e.slot).uses }
    ∧ t.nv = { s.nv with cust := { s.nv.cust with pend := none, ctr := s.nv.cust.ctr + 1, slots := t.nv.cust.slots, work := false, old := t.nv.cust.old } }
    ∧ t.nv.cust.old = some { s.nv.cust.copy with slots := t.nv.cust.slots }
    ∧ t.chamber = 0 ∧ t.settings = s.settings ∧ s.Logs t s.grid.now 0x9004 0 1 ∧ s.Answered t 0x0604 p 0 [] [.nv, .log] (custKeys ++ logKeys)

/-- KEY_ENROL in maintenance mode while custody is open (R542, R554), of a key on the curve: the slot has the key and the role, SET_CTR counts up,
and custody closes once two roles are enrolled. -/
def Claim.keyEnrolled : Prop := ∀ (s : State) (q : Bool) (p : Packet) (k role : Nat) (key : List Byte), s.Ready q 0x0605 p → s.nv.cust.closed = false →
  p.len = 68 → k = p.target.toNat → k < 8 → role = p.word 0 % 4 → role ≠ 0 → key = (p.params.drop 4).take 64 → s.maint = true → s.locked = false →
  onCurve (ofBe (key.take 32)) (ofBe (key.drop 32)) = true →
  GoesTo (exec (.keyEnrol q p) s) fun t =>
    t.slot k = { s.slot k with role := role, key := key } ∧ (∀ i ≠ k, t.slot i = s.slot i) ∧ t.nv.cust.ctr = s.nv.cust.ctr + 1
    ∧ t.nv.cust.closed = twoRoles (s.rolesWith k role)
    ∧ t.nv = { s.nv with cust := { s.nv.cust with slots := t.nv.cust.slots, ctr := t.nv.cust.ctr, closed := t.nv.cust.closed, old := some s.nv.cust.copy } }
    ∧ s.Logs t s.grid.now 0x9006 k role ∧ s.Answered t 0x0605 p 0 [] [.nv, .log] (custKeys ++ logKeys)

/-- KEY_ENROL once custody is closed (R542, R554): it takes two endorsements, of two roles and of other slots than the one enrolled. -/
def Claim.keyEnrolledByTwo : Prop := ∀ (s : State) (q : Bool) (p : Packet) (k role subj : Nat) (key : List Byte), s.Ready q 0x0605 p →
  s.nv.cust.closed = true → p.len = 236 → k = p.target.toNat → k < 8 → role = p.word 0 % 4 → key = (p.params.drop 4).take 64 → s.maint = true →
  s.locked = false → (if role = 0 then key.all (· == 0) else onCurve (ofBe (key.take 32)) (ofBe (key.drop 32))) = true →
  twoRoles (s.rolesWith k role) = true → subj = digest64 (ascii "KENR" ++ leBytes 1 k ++ leBytes 1 role ++ key) →
  s.endorseCheck (p.endorse 68) 3 subj (some k) = none → s.endorseCheck (p.endorse 152) 3 subj (some k) = none →
  (s.slot (p.endorse 68).slot).role ≠ (s.slot (p.endorse 152).slot).role →
  GoesTo (exec (.keyEnrol q p) s) fun t =>
    (t.slot k).role = role ∧ (t.slot k).key = (if role = 0 then [] else key) ∧ t.nv.cust.ctr = s.nv.cust.ctr + 1 ∧ t.nv.cust.closed = true
    ∧ (t.slot (p.endorse 68).slot).uses = satInc (s.slot (p.endorse 68).slot).uses
    ∧ (t.slot (p.endorse 152).slot).uses = satInc (s.slot (p.endorse 152).slot).uses
    ∧ s.Logs t s.grid.now 0x9006 k role ∧ s.Answered t 0x0605 p 0 [] [.nv, .log] (custKeys ++ logKeys)

/-- KEY_ENROL out of maintenance mode (R554): BUSY NOT_MAINT, without effect. -/
def Claim.enrolmentRefused : Prop := ∀ (s : State) (q : Bool) (p : Packet), s.Ready q 0x0605 p → p.len = (if s.nv.cust.closed then 236 else 68) →
  p.target.toNat < 8 → s.maint = false → GoesTo (exec (.keyEnrol q p) s) fun t => s.Answered t 0x0605 p 0x0201 [14] [] []

/-- EVT_CLEAR in maintenance mode with an endorsement that R481 accepts (R482, R545): OK; SET_CTR and the slot's uses count up, the clear is
logged with the slot as its source, and no entry is removed by the command itself. -/
def Claim.logCleared : Prop := ∀ (s : State) (q : Bool) (p : Packet) (e : Endorse), s.Ready q 0x0802 p → p.len = 88 → p.target = 0 → e = p.endorse 4 →
  s.maint = true → s.nv.log.clearMark < p.word 0 → p.word 0 < s.nv.log.nextSeq → s.locked = false →
  s.endorseCheck e 2 (digest64 (ascii "ECLR" ++ leBytes 4 (p.word 0))) = none → s.rd EVT_STATUS.READY = 1 → s.writesHeld = false →
  s.log.queue = [] → s.nv.log.nextSeq + 1 < 4096 →
  GoesTo (exec (.evtClear q p) s) fun t =>
    t.nv.cust.ctr = s.nv.cust.ctr + 1 ∧ t.slot e.slot = { s.slot e.slot with uses := satInc (s.slot e.slot).uses } ∧ t.nv.log.clearMark = p.word 0
    ∧ t.nv.log.clears = satInc s.nv.log.clears ∧ t.nv.log.entries.tail = s.nv.log.entries
    ∧ (∃ y, t.nv.log.entries.head? = some y ∧ y.code = 0x0011 ∧ y.src = e.slot % 65536 ∧ y.val = p.word 0 % 2 ^ 32 ∧ y.seq = s.nv.log.nextSeq)
    ∧ s.Replied t 0x0802 p p.ifver.toNat 0 [] ∧ t.settings = s.settings ∧ t.pending = s.pending ∧ t.OutputsOk

/-- EVT_READ of 1 to 127 entries (R484): those held from the first asked for on, oldest first, with GAP and END; nothing changes. -/
def Claim.entriesRead : Prop := ∀ (s : State) (q : Bool) (p : Packet) (a last n : Nat) (l : List LogEntry), s.Ready q 0x0801 p → p.len = 8 →
  p.target = 0 → p.word 1 ≠ 0 → p.word 1 ≤ 127 → a = max (p.word 0) s.oldestSeq → last = min (s.nv.log.nextSeq - 1) (a + p.word 1 - 1) →
  n = last + 1 - a → l = (s.nv.log.entries.filter fun e => decide (a ≤ e.seq) && decide (e.seq ≤ last)).reverse → l.length ≤ 127 →
  GoesTo (exec (.evtRead q p) s) fun t =>
    s.Answered t 0x0801 p 0 ((n + 256 * b2n (decide (p.word 0 < s.oldestSeq)) + 512 * b2n (decide (s.nv.log.nextSeq - 1 ≤ last) || decide (n = 0)))
      :: l.flatMap fun e => (List.range 8).map fun i => ofLe ((e.bytes.drop (4 * i)).take 4)) [] []

/-- EVT_READ of none or of more than 127 (R484): BAD_TARGET COUNT_RANGE. -/
def Claim.readRefused : Prop := ∀ (s : State) (q : Bool) (p : Packet), s.Ready q 0x0801 p → p.len = 8 → p.target.toNat ≤ 1 →
  p.word 1 = 0 ∨ 127 < p.word 1 → GoesTo (exec (.evtRead q p) s) fun t => s.Answered t 0x0801 p 0x0103 [19] [] []

/-! ### Recorder commands (R461) -/

/-- REC_ARM of an idle instance whose buffer holds what a record needs (R435, R438, R461): ARMED, its history empty. -/
def Claim.recorderArmed : Prop := ∀ (s : State) (q : Bool) (p : Packet) (i : Nat), s.Ready q 0x0701 p → p.len = 0 → i = p.target.toNat → i < 4 →
  (s.recInst i).st = 1 → (s.recCfg i).need ≤ s.recBlocks i → (s.recInst i).gap = none →
  GoesTo (exec (.recArm q p) s) fun t =>
    (t.recInst i).st = 2 ∧ (t.recInst i).hist = [] ∧ (t.recInst i).trig = [] ∧ (t.recInst i).rearm = none ∧ t.rd REC_STATE.STATE i = 2
    ∧ t.rd REC_ARM_NEED.VALUE i = (s.recCfg i).need % 2 ^ REC_ARM_NEED.VALUE.width ∧ (∀ k < 4, k ≠ i → t.recInst k = s.recInst k)
    ∧ t.nv = s.nv ∧ s.Answered t 0x0701 p 0 [] [.recd] (REC_ARM_NEED.VALUE.key i 0 :: recKeys)

/-- REC_ARM of an instance whose buffer is too short (R435): ARM_LENGTH with what is needed and what is held; of one that is disabled:
BAD_TARGET; of one that is armed: OK, and nothing happens. -/
def Claim.armingAnswered : Prop := ∀ (s : State) (q : Bool) (p : Packet) (i : Nat), s.Ready q 0x0701 p → p.len = 0 → i = p.target.toNat → i < 4 →
  GoesTo (exec (.recArm q p) s) fun t =>
    ((s.recInst i).st = 1 → s.recBlocks i < (s.recCfg i).need →
      s.Answered t 0x0701 p 0x020C [(s.recCfg i).need, s.recBlocks i] [] [REC_ARM_NEED.VALUE.key i 0])
    ∧ ((s.recInst i).st = 0 → s.Answered t 0x0701 p 0x0103 [16] [] []) ∧ (2 ≤ (s.recInst i).st → s.Answered t 0x0701 p 0 [] [] [])

/-- REC_FETCH of a directory page (R461): the count and the IDs of at most 32 records from the first asked for on; nothing changes. -/
def Claim.directoryRead : Prop := ∀ (s : State) (q : Bool) (p : Packet), s.Ready q 0x0702 p → p.len = 4 → p.word 0 = 0 →
  GoesTo (exec (.recFetch q p) s) fun t =>
    let l := ((s.nv.rec'.recs.drop p.target.toNat).take 32).map (·.id)
    s.Answered t 0x0702 p 0 (l.length :: l) [] []

/-- REC_FETCH of a record that is not stored (R461): BAD_TARGET NO_RECORD. -/
def Claim.noSuchRecord : Prop := ∀ (s : State) (q : Bool) (p : Packet), s.Ready q 0x0702 p → p.len = 4 → p.word 0 = 1 ∨ p.word 0 = 2 →
  s.stored p.target.toNat = none → GoesTo (exec (.recFetch q p) s) fun t => s.Answered t 0x0702 p 0x0103 [12] [] []

/-- REC_FETCH of a stored record's measurements (R452, R461): its channels' words; nothing changes. -/
def Claim.measurementsRead : Prop := ∀ (s : State) (q : Bool) (p : Packet) (r : Record), s.Ready q 0x0702 p → p.len = 4 → p.word 0 = 2 →
  s.stored p.target.toNat = some r → (r.meas.ch.flatMap fun x => x).length ≤ 1020 →
  GoesTo (exec (.recFetch q p) s) fun t => s.Answered t 0x0702 p 0 (r.meas.ch.flatMap fun x => x) [] []

/-- REC_EXPORT of a stored record into a RECORD berth of at least 8 KB (R461): accepted, and the export runs. -/
def Claim.exportBegins : Prop := ∀ (s : State) (q : Bool) (p : Packet) (r : Record), s.Ready q 0x0703 p → p.len = 4 →
  s.stored p.target.toNat = some r → s.rec'.exporting = none → s.berthOk (p.word 0 % 256) 2 8192 = true →
  GoesTo (exec (.recExport q p) s) fun t =>
    (∃ e, t.rec'.exporting = some e ∧ t.rec' = { s.rec' with exporting := some e } ∧ e.id = r.id ∧ e.berth = p.word 0 % 256 ∧ e.chunks = s.exportChunks r (p.word 0))
    ∧ t.rd REC_STATUS.EXPORT_BUSY = 1 ∧ s.Answered t 0x0703 p 1 [] [.recd] [REC_STATUS.EXPORT_BUSY.key 0 0]

/-- REC_EXPORT of no record, while one runs, or into a berth that does not suit (R461, R578): refused with its REASON. -/
def Claim.exportRefused : Prop := ∀ (s : State) (q : Bool) (p : Packet), s.Ready q 0x0703 p → p.len = 4 →
  GoesTo (exec (.recExport q p) s) fun t =>
    (s.stored p.target.toNat = none → s.Answered t 0x0703 p 0x0103 [12] [] [])
    ∧ ((s.stored p.target.toNat).isSome = true → s.rec'.exporting.isSome = true → s.Answered t 0x0703 p 0x0201 [15] [] [])
    ∧ ((s.stored p.target.toNat).isSome = true → s.rec'.exporting = none → s.berthOk (p.word 0 % 256) 2 8192 = false →
        s.Answered t 0x0703 p 0x0103 [25] [] [])

/-- REC_TRIGGER (R439, R461): each armed instance in the mask has a trigger of source 18 at this moment. -/
def Claim.recordersTriggered : Prop := ∀ (s : State) (q : Bool) (p : Packet), s.Ready q 0x0704 p → p.len = 4 → p.target = 0 → p.word 0 < 16 →
  GoesTo (exec (.recTrigger q p) s) fun t =>
    (∀ i < 4, (t.recInst i).trig = (if (p.word 0).testBit i = true ∧ 2 ≤ (s.recInst i).st then (s.recInst i).trig ++ [⟨s.grid.now * 2 ^ 24, 2 ^ 18, none⟩]
      else (s.recInst i).trig) ∧ (t.recInst i).st = (s.recInst i).st)
    ∧ s.Answered t 0x0704 p 0 [] [.recd] recKeys

/-- REC_DISARM of an armed instance without a record (R461): IDLE, its history and triggers gone; of one that is not armed: OK. -/
def Claim.recorderDisarmed : Prop := ∀ (s : State) (q : Bool) (p : Packet) (i : Nat), s.Ready q 0x0705 p → p.len = 0 → i = p.target.toNat → i < 4 →
  (s.recInst i).cur = none → (s.recInst i).gap = none →
  GoesTo (exec (.recDisarm q p) s) fun t =>
    (2 ≤ (s.recInst i).st → (t.recInst i).st = 1 ∧ (t.recInst i).hist = [] ∧ (t.recInst i).trig = [] ∧ t.rd REC_STATE.STATE i = 1
      ∧ (∀ k < 4, k ≠ i → t.recInst k = s.recInst k) ∧ s.Answered t 0x0705 p 0 [] [.recd] recKeys)
    ∧ ((s.recInst i).st < 2 → s.Answered t 0x0705 p 0 [] [] [])

/-- REC_DISARM of a recording instance (R444, R461): the record closes with the reason STOPPED, and the instance is IDLE. -/
def Claim.recordStopped : Prop := ∀ (s : State) (q : Bool) (p : Packet) (i : Nat) (r : Record), s.Ready q 0x0705 p → p.len = 0 → i = p.target.toNat →
  i < 4 → 2 ≤ (s.recInst i).st → (s.recInst i).cur = some r →
  GoesTo (exec (.recDisarm q p) s) fun t =>
    (t.recInst i).st = 1 ∧ (t.recInst i).cur = none ∧ t.rd REC_STATE.STATE i = 1
    ∧ (∃ y ∈ t.rec'.closing, y.id = r.id ∧ y.stop = 1 ∧ y.closed = true) ∧ s.Replied t 0x0705 p p.ifver.toNat 0 [] ∧ s.Stays t

/-- REC_MANAGE (R461): protection is set and taken away; a stored record that is not protected is deleted in maintenance mode. -/
def Claim.recordManaged : Prop := ∀ (s : State) (q : Bool) (p : Packet) (r : Record), s.Ready q 0x0706 p → p.len = 4 →
  s.stored p.target.toNat = some r →
  GoesTo (exec (.recManage q p) s) fun t =>
    (p.word 0 ≤ 1 → (∀ y, t.stored p.target.toNat = some y → y.flags.testBit 12 = decide (p.word 0 = 0)) ∧ t.nv.rec'.recs.length = s.nv.rec'.recs.length
      ∧ s.Answered t 0x0706 p 0 [] [.nv, .recd] [])
    ∧ (p.word 0 = 2 → s.maint = true → (∀ e, s.rec'.exporting = some e → e.id ≠ p.target.toNat) → r.flags.testBit 12 = false →
        t.stored p.target.toNat = none ∧ t.nv.rec'.recs = s.nv.rec'.recs.filter (fun x => x.id != p.target.toNat)
        ∧ s.Answered t 0x0706 p 0 [] [.nv]
            [REC_STORE_FREE.VALUE.key 0 0, REC_STORE_RECS.VALUE.key 0 0, REC_STATUS.STORE_FULL.key 0 0, REC_NEXT_ID.VALUE.key 0 0])
    ∧ (p.word 0 = 2 → s.maint = false → s.Answered t 0x0706 p 0x0201 [14] [] [])
    ∧ (p.word 0 = 2 → s.maint = true → (∀ e, s.rec'.exporting = some e → e.id ≠ p.target.toNat) → r.flags.testBit 12 = true →
        s.Answered t 0x0706 p 0x0103 [13] [] [])

/-! ### The pair, the self-test and repair (R531 to R533, R622, R632) -/

/-- PAIR_JOIN of a unit that joins or stands by (R531): accepted; detection is armed again and joining starts anew. -/
def Claim.joiningRestarts : Prop := ∀ (s : State) (q : Bool) (p : Packet), s.Ready q 0x0901 p → p.len = 0 → p.target = 0 → s.role = 1 ∨ s.role = 2 →
  GoesTo (exec (.pairJoin q p) s) fun t =>
    t.role = 1 ∧ t.rd PAIR_STATUS.DETECT = 1 ∧ t.pair.joinAt = s.grid.now ∧ t.pair.heardAt = s.grid.now ∧ t.pair.helloAt = s.grid.now
    ∧ s.Replied t 0x0901 p p.ifver.toNat 1 [] ∧ t.nv = s.nv ∧ s.Stays t

/-- PAIR_JOIN of a unit that is alone, or active or silent (R531): refused with its REASON. -/
def Claim.joinRefused : Prop := ∀ (s : State) (q : Bool) (p : Packet), s.Ready q 0x0901 p → p.len = 0 → p.target = 0 →
  GoesTo (exec (.pairJoin q p) s) fun t =>
    (s.role = 0 → s.Answered t 0x0901 p 0x0103 [22] [] []) ∧ (s.role = 3 ∨ s.role = 4 → s.Answered t 0x0901 p 0x0201 [21] [] [])

/-- PAIR_YIELD of an active unit whose partner is ready (R532): accepted; the handover is under way and offered to the partner. -/
def Claim.handoverOffered : Prop := ∀ (s : State) (q : Bool) (p : Packet), s.Ready q 0x0902 p → p.len = 0 → p.target = 0 → s.role = 4 →
  s.rd PAIR_STATUS.HO = 0 → s.rd PAIR_STATUS.PREADY = 1 →
  GoesTo (exec (.pairYield q p) s) fun t =>
    t.rd PAIR_STATUS.HO = 1 ∧ t.role = 4 ∧ t.pair.hoTick = some s.pair.doneN
    ∧ (s.pair.ver = 1 → t.pair = { s.pair with hoTick := some s.pair.doneN, code := 2 })
    ∧ (s.pair.ver ≠ 1 → t.pair = { s.pair with hoTick := some s.pair.doneN, code := 0, sentHo := some 2, sent := some (5, s.outFrame [2]), txSeq := s.pair.txSeq + 1 })
    ∧ s.Answered t 0x0902 p 1 [] [.pair] [PAIR_STATUS.HO.key 0 0]

/-- PAIR_YIELD of a unit that is not active, or that hands over already (R532): BUSY with its REASON; of one whose partner is not ready:
NOT_READY. -/
def Claim.yieldRefused : Prop := ∀ (s : State) (q : Bool) (p : Packet), s.Ready q 0x0902 p → p.len = 0 → p.target = 0 →
  GoesTo (exec (.pairYield q p) s) fun t =>
    (s.role ≠ 4 → s.Answered t 0x0902 p 0x0201 [21] [] []) ∧ (s.role = 4 → s.rd PAIR_STATUS.HO = 1 → s.Answered t 0x0902 p 0x0201 [23] [] [])
    ∧ (s.role = 4 → s.rd PAIR_STATUS.HO = 0 → s.rd PAIR_STATUS.PREADY = 0 → s.Answered t 0x0902 p 0x020D [((s.pair.hb.map (·.1.nr)).getD 0)] [] [])

/-- PAIR_STATUS (R533): the eight words of the unit, or of its partner as the latest heartbeat tells it; nothing changes. -/
def Claim.pairTold : Prop := ∀ (s : State) (q : Bool) (p : Packet), s.Ready q 0x0903 p → p.len = 0 → p.target.toNat ≤ 1 →
  GoesTo (exec (.pairStatus q p) s) fun t =>
    (p.target.toNat = 1 → s.Answered t 0x0903 p 0 s.partnerWords [] [])
    ∧ (p.target.toNat = 0 → s.Answered t 0x0903 p 0 [s.wordOf pairStatusFields, s.wordOf [PAIR_CLAIM.OWN, PAIR_CLAIM.PSEEN, PAIR_CLAIM.ASSERT],
        s.rd PAIR_SNAP_TICK_LO.VALUE, s.rd PAIR_SNAP_TICK_HI.VALUE, s.snapAgeReg, s.rd PAIR_TO_TIME.VALUE,
        s.wordOf [PAIR_DEG_MASK.COND, PAIR_DEG_MASK.CLASS], s.rd PAIR_STATUS.PROOF] [] [])

/-- BIST_RUN of an engine that carries no set (R632): accepted; the test of the pattern set begins. -/
def Claim.engineTestBegins : Prop := ∀ (s : State) (q : Bool) (p : Packet) (k : Nat), s.Ready q 0x0A01 p → p.len = 4 → k = p.target.toNat → k ≤ 8 →
  p.word 0 ≤ 2 → s.rd BIST_STATUS.BUSY ≠ 1 → s.carrying.contains k = false → tfind s.bist.eng k = none →
  GoesTo (exec (.bistRun q p) s) fun t =>
    tfind t.bist.eng k = some { kind := 1, pat := p.word 0, start := s.grid.now, again := false } ∧ t.rd BIST_STATUS.BUSY = 1
    ∧ t.rd BIST_STATUS.TGT = k ∧ t.rd BIST_ENG_STATUS.TESTING k = 1 ∧ t.bist = { s.bist with eng := t.bist.eng }
    ∧ s.Answered t 0x0A01 p 1 [] [.bist] [BIST_STATUS.BUSY.key 0 0, BIST_STATUS.TGT.key 0 0, BIST_ENG_STATUS.TESTING.key k 0]

/-- BIST_RUN of a modulator group out of service (R632): accepted; the group is under test, and its words carry SELFTEST from now on. -/
def Claim.groupTestBegins : Prop := ∀ (s : State) (q : Bool) (p : Packet) (g : Nat), s.Ready q 0x0A01 p → p.len = 4 → p.target.toNat = 0x100 + g →
  g < 4 → p.word 0 = 0 → s.rd BIST_STATUS.BUSY ≠ 1 → s.afe.cal = none → s.afe.diag = none → s.afe.skew = none →
  s.inService (groupChans (2 ^ g)) = false →
  GoesTo (exec (.bistRun q p) s) fun t =>
    t.bist = { s.bist with host := some { tgt := 0x100 + g, start := s.grid.now } } ∧ (t.rd AFE_STATUS.GRP_BIST).testBit g = true
    ∧ t.rd BIST_STATUS.BUSY = 1 ∧ t.rd BIST_STATUS.TGT = (0x100 + g) % 2 ^ BIST_STATUS.TGT.width
    ∧ (∀ c, c / 16 = g → ({ flag := bSELFTEST, lo := s.grid.now * 2 ^ 32, hi := none } : FlagSpan) ∈ (t.chan c).spans)
    ∧ (∀ c, c / 16 ≠ g → t.chan c = s.chan c) ∧ { t.afe with ch := s.afe.ch } = s.afe
    ∧ s.Answered t 0x0A01 p 1 [] [.bist, .afe] ([BIST_STATUS.BUSY.key 0 0, BIST_STATUS.TGT.key 0 0, AFE_STATUS.GRP_BIST.key 0 0]
        ++ (List.range 16).map fun i => AFE_CH_STATUS.TWIN_MM.key (16 * g + i) 0)

/-- BIST_RUN while a test runs, or of an engine that carries a set (R632): BUSY with its REASON. -/
def Claim.testRefused : Prop := ∀ (s : State) (q : Bool) (p : Packet) (k : Nat), s.Ready q 0x0A01 p → p.len = 4 → k = p.target.toNat → k ≤ 8 →
  p.word 0 ≤ 2 →
  GoesTo (exec (.bistRun q p) s) fun t =>
    (s.rd BIST_STATUS.BUSY = 1 → s.Answered t 0x0A01 p 0x0201 [49] [] [])
    ∧ (s.rd BIST_STATUS.BUSY ≠ 1 → s.carrying.contains k = true → s.Answered t 0x0A01 p 0x0201 [48] [] [])

/-- REPAIR_FUSE of one macro with soft repairs, in maintenance mode, with VMAIN in its window (R622): accepted while its fuses have room, and its
rows are to be burned, one every 20 ms; refused with REASON 51 when they have not. -/
def Claim.repairBegins : Prop := ∀ (s : State) (q : Bool) (p : Packet) (m : Nat) (l : List Nat), s.Ready q 0x0A02 p → p.len = 4 → m = p.target.toNat →
  m < 32 → p.word 0 = 0x45535546 → s.maint = true → 2064384 ≤ 50 * s.rd AUX_RESULT.DATA 0 16 → 50 * s.rd AUX_RESULT.DATA 0 16 ≤ 2260992 →
  l = tget [] s.bist.soft m → l ≠ [] → s.bist.burns = [] →
  GoesTo (exec (.repairFuse q p) s) fun t =>
    (tget 0 s.nv.bist.used m + l.length ≤ Config.fuseEntries →
      t.bist = { s.bist with soft := terase s.bist.soft m, burns := [(m, { rows := l, start := s.grid.now, done := s.grid.now + l.length * 5000000 })] }
      ∧ s.Answered t 0x0A02 p 1 [] [.bist] [])
    ∧ (Config.fuseEntries < tget 0 s.nv.bist.used m + l.length → s.Answered t 0x0A02 p 0x0103 [51] [] [])

/-- REPAIR_FUSE out of maintenance mode, without VMAIN in its window, or with nothing to burn (R622): refused with its REASON. -/
def Claim.repairRefused : Prop := ∀ (s : State) (q : Bool) (p : Packet), s.Ready q 0x0A02 p → p.len = 4 → p.target.toNat < 32 →
  p.word 0 = 0x45535546 →
  GoesTo (exec (.repairFuse q p) s) fun t =>
    (s.maint = false → s.Answered t 0x0A02 p 0x0201 [14] [] [])
    ∧ (s.maint = true → 50 * s.rd AUX_RESULT.DATA 0 16 < 2064384 ∨ 2260992 < 50 * s.rd AUX_RESULT.DATA 0 16 → s.Answered t 0x0A02 p 0x0201 [52] [] [])
    ∧ (s.maint = true → 2064384 ≤ 50 * s.rd AUX_RESULT.DATA 0 16 → 50 * s.rd AUX_RESULT.DATA 0 16 ≤ 2260992 → tget [] s.bist.soft p.target.toNat = [] →
        s.Answered t 0x0A02 p 0x0103 [50] [] [])

/-! ### The block as a whole: the queue, the clock, reset, what every command keeps -/

/-- A step executes the command at the front of the queue, with the rest of the queue waiting. -/
def Claim.stepRunsFrontCommand : Prop := ∀ (s : State) (c : Instr) (rest : List Instr), s.pending = c :: rest →
  step s = exec c { s with pending := rest }

/-- With nothing waiting and the logic side running, one cycle of CORE_CK passes (R8, R10; log entry 2): device time moves on by 1 + δ, in units of
2^-32, the bound that MRAM holds stays ahead of it, and nothing else changes. -/
def Claim.idleCycle : Prop := ∀ s : State, s.pending = [] → s.up = true → 0 ≤ (s.grid.frac : Int) + s.grid.delta + 2 ^ 32 →
  GoesTo (step s) fun t =>
    (t.grid.now : Int) * 2 ^ 32 + t.grid.frac = (s.grid.now : Int) * 2 ^ 32 + s.grid.frac + 2 ^ 32 + s.grid.delta
    ∧ t.grid.frac < 2 ^ 32 ∧ s.grid.now ≤ t.grid.now
    ∧ t.grid = { s.grid with now := t.grid.now, frac := t.grid.frac, delta := t.grid.delta, deltaEnd := t.grid.deltaEnd, bound := t.grid.bound }
    ∧ (s.grid.now + 2 ^ 28 ≤ s.grid.boundV → t.grid.now + 2 ^ 28 ≤ t.grid.boundV)
    ∧ (s.grid.deltaEnd = none → t.grid.delta = s.grid.delta ∧ t.grid.deltaEnd = none)
    ∧ (∀ e, s.grid.deltaEnd = some e → e ≤ t.grid.now → t.grid.delta = 0 ∧ t.grid.deltaEnd = none)
    ∧ (∀ e, s.grid.deltaEnd = some e → t.grid.now < e → t.grid.delta = s.grid.delta ∧ t.grid.deltaEnd = some e)
    ∧ s.Keeps t [.grid] []

/-- With nothing waiting while the logic side is not running, nothing changes (log entry 2). -/
def Claim.idleHeld : Prop := ∀ s : State, s.pending = [] → s.up = false → GoesTo (step s) fun t => s.Keeps t [] []

/-- The commands that act on the part although its logic side is not running: the supplies and resets, start-up, the NOR and the field die. -/
def actsWhileHeld (c : Instr) : Bool :=
  dieCommand c || (resetCause c).isSome || (match c with
  | .powerOnResetRelease | .startUp .. | .norAccess .. | .norOpDone | .fieldLinkLost => true
  | _ => false)

/-- While the logic side is off or held in reset every other command finds nothing to act on (R651, R652). -/
def Claim.logicSideHeld : Prop := ∀ (s : State) (c : Instr), s.up = false → s.pwr.phase ≠ .bootFail → actsWhileHeld c = false →
  GoesTo (exec c s) fun t => s.Keeps t [] []

/-- A start-up that found no valid firmware slot (R655): a read outside CLK_, PWR_ and ID_ returns 0, a write there does nothing. -/
def Claim.bootWindow : Prop := ∀ (s : State) (q : Bool) (a w : Word) (be : BitVec 4), s.pwr.phase = .bootFail → bootBlock a.toNat = false →
  GoesTo (exec (.rcRead q a) s) (fun t => t.host = { s.host with rdata := 0 } ∧ s.Keeps t [.host] [])
  ∧ GoesTo (exec (.registerWrite q a be w) s) (fun t => s.Keeps t [] [])
  ∧ GoesTo (exec (.w1cWrite q a w) s) (fun t => s.Keeps t [] [])

/-- The part right after reset: no supply yet, every memory and buffer empty, nothing driven, nothing waiting. -/
def Claim.resetState : Prop :=
  State.reset.pwr = { phase := .unpowered } ∧ State.reset.up = false ∧ State.reset.host = {} ∧ State.reset.log = {} ∧ State.reset.grid = {}
  ∧ State.reset.nv = {} ∧ State.reset.bank = {} ∧ State.reset.prev = none ∧ State.reset.cust = {} ∧ State.reset.afe = {} ∧ State.reset.td = []
  ∧ State.reset.aux = {} ∧ State.reset.pbus = {} ∧ State.reset.eval = {} ∧ State.reset.dio = {} ∧ State.reset.bist = {} ∧ State.reset.rec' = {}
  ∧ State.reset.pair = {} ∧ State.reset.tap = {} ∧ State.reset.pads = {} ∧ State.reset.pending = []
  ∧ State.reset.OutputsOk

/-- Every register field reads its reset value after reset (R4): the one of its table, and for GRID_CH_SSW of the channels 0 to 63, for the
configuration of B0 and B1 and for BIST_STATUS.LAST the one given there for those. -/
def Claim.resetValues : Prop :=
  (∀ (f : Field) (i j : Nat), f.key i j ∉ resetRegs.map (·.1) → State.reset.rd f i j = f.reset)
  ∧ (∀ g < 64, State.reset.rd GRID_CH_SSW.SSW g = 2) ∧ State.reset.rd BIST_STATUS.LAST = 3
  ∧ (∀ b < 2, State.reset.rd HOST_BERTH_CFG.EN b = 1 ∧ State.reset.rd HOST_BERTH_CFG.SIZE b = 7)
  ∧ State.reset.rd HOST_BERTH_CFG.BASE 0 = 0 ∧ State.reset.rd HOST_BERTH_CFG.BASE 1 = 128

/-- After every step the output pads and the life contact agree with the state (R400, R412, R414, R443, R603), and the queue has lost its front
command and nothing else. -/
def Claim.everyStepShows : Prop := ∀ s : State, GoesTo (step s) fun t => t.OutputsOk ∧ t.pending = s.pending.tail

/-- The queue of well-formed commands stays one. -/
def Claim.queueStaysOk : Prop := ∀ s : State, s.QueueOk → GoesTo (step s) fun t => t.QueueOk

/-- The queue after reset is one. -/
def Claim.queueOkAtReset : Prop := State.reset.QueueOk

/-- The berth SRAM keeps its canonical form over every step. -/
def Claim.memoryStaysCanonical : Prop := ∀ s : State, Memory.wf s.host.mem = true → GoesTo (step s) fun t => Memory.wf t.host.mem = true

/-- The berth SRAM has its canonical form after reset. -/
def Claim.memoryCanonicalAtReset : Prop := Memory.wf State.reset.host.mem = true

/-- The commands that may change the settings in force. -/
def bringsSettings : Instr → Bool
  | .gridTick _ | .settingsSwap | .startUp _ | .startUpSettings => true
  | _ => false

/-- No other command changes the settings in force (R539, R555): not a register write, not a host packet, not a frame, not a reset. -/
def Claim.settingsStay : Prop := ∀ (s : State) (c : Instr) (rest : List Instr), s.pending = c :: rest → bringsSettings c = false →
  GoesTo (step s) fun t => t.settings = s.settings

/-- The swap's tick brings the bank that custody holds pending, and no other (R557). -/
def Claim.swapBringsPendingBank : Prop := ∀ (s : State) (c : Instr) (rest : List Instr), s.pending = c :: rest →
  (c = .settingsSwap ∨ ∃ codes, c = .gridTick codes) →
  GoesTo (step s) fun t => t.settings = s.settings ∨ ∃ p, s.nv.cust.pend = some p ∧ t.settings = p.bank

/-- START_UP brings the structure fields of the bank that custody holds, of the one it holds pending, of those of its older copy, or of none where
the bank is lost (R554, R559, R560, R658); START_UP_SETTINGS brings the bank that custody holds (R661). -/
def Claim.startUpBringsCustodyBank : Prop := ∀ (s : State) (c : Instr) (rest : List Instr), s.pending = c :: rest →
  (∀ v, c = .startUp v → GoesTo (step s) fun t => t.settings = s.settings
    ∨ ∃ k : Bank, (k = s.nv.cust.bank ∨ k = {} ∨ (∃ p, s.nv.cust.pend = some p ∧ k = p.bank)
        ∨ ∃ o, s.nv.cust.old = some o ∧ (k = o.bank ∨ ∃ p, o.pend = some p ∧ k = p.bank)) ∧ t.settings = k.structure')
  ∧ (c = .startUpSettings → GoesTo (step s) fun t => t.settings = s.settings ∨ t.settings = s.nv.cust.bank)

/-! ### Raising an event (R471 to R480) -/

/-- The entry of an event that a state would log: its stamp, its code, source and value (R470, R471). -/
def State.entryOf (s : State) (dev code src val : Nat) : LogEntry := s.entryWith dev (s.taiOf dev) s.tqByte code src val

/-- An exempt code finds the append queue with a place for it: its entry is queued, and no bucket is asked (R473, R479). -/
def Claim.exemptEventQueued : Prop := ∀ (s : State) (dev code src val : Nat), exempt code = true → s.queueTakes code = true →
  (s.logAt dev code src val).log = { s.log with queue := s.log.queue ++ [(s.entryOf dev code src val, s.grid.now)] }
  ∧ (s.logAt dev code src val).rd EVT_SUPP_CNT.VALUE = s.rd EVT_SUPP_CNT.VALUE

/-- The buckets are full when the log comes up: none has a level of its own yet (R475). -/
def Claim.bucketsStartFull : Prop := ∀ (s : State) (torn : Bool), (s.logStart torn).log.buckets = []

/-- Any other code takes a token of its one bucket, whatever its source (R475): with one there the entry goes to the queue (which has a place
for it), without one it is counted as suppressed and has no other effect on the log (R476). The level, BURST × 10^6 where the bucket has none of
its own yet, rises with the time since the code's last occurrence, up to BURST × 10^6; an equal or earlier stamp adds nothing and leaves the
later one. -/
def Claim.bucketGovernsEvent : Prop := ∀ (s : State) (dev code src val : Nat), exempt code = false →
  let b := tget {} s.log.buckets code
  let burst := s.rd EVT_RATE.BURST (code / 4096) (code % 4096) * 1000000
  let old := b.lvl.getD burst
  let lvl := if b.last < dev then min burst (old + s.rd EVT_RATE.RATE (code / 4096) (code % 4096) * ((dev - b.last) / 250)) else old
  let t := s.logAt dev code src val
  (1000000 ≤ lvl → s.queueTakes code = true →
    t.log = { s.log with buckets := tset s.log.buckets code { b with lvl := some (lvl - 1000000), last := max b.last dev }, queue := s.log.queue ++ [(s.entryOf dev code src val, s.grid.now)] }
    ∧ t.rd EVT_SUPP_CNT.VALUE = s.rd EVT_SUPP_CNT.VALUE)
  ∧ (lvl < 1000000 →
    t.log = { s.log with buckets := tset s.log.buckets code { lvl := some lvl, last := max b.last dev, supp := b.supp + 1 } }
    ∧ t.rd EVT_SUPP_CNT.VALUE = min (s.rd EVT_SUPP_CNT.VALUE + 1) (2 ^ 32 - 1))

/-- An exempt event that finds no place in either part of the queue is counted as suppressed, and QFULL is set (R480). -/
def Claim.fullQueueDrops : Prop := ∀ (s : State) (dev code src val : Nat), exempt code = true → s.queueTakes code = false →
  let t := s.logAt dev code src val
  t.log.queue = s.log.queue ∧ (tget {} t.log.buckets code).supp = (tget {} s.log.buckets code).supp + 1
  ∧ t.rd EVT_SUPP_CNT.VALUE = min (s.rd EVT_SUPP_CNT.VALUE + 1) (2 ^ 32 - 1) ∧ t.rd EVT_STATUS.QFULL = 1

/-- Every event leaves the settings in force, the berth SRAM, what custody holds and the queue of commands alone, and a device fault is the one
event that is also a device condition (R471, R480). -/
def Claim.eventChangesLogOnly : Prop := ∀ (s : State) (dev code src val : Nat), code ≠ 0x0006 →
  let t := s.logAt dev code src val
  (∀ p, p ≠ Part.log → p.same s t) ∧ (∀ k, k ∉ logKeys → tfind t.regs k = tfind s.regs k) ∧ t.pending = s.pending ∧ t.pads = s.pads

end Sys2Proof.Machine
/-! ### The obligations: each gathers the claims of one family -/

/-- A step executes the command at the front of the queue, with the rest of the queue waiting. Where a clause goes beyond the rules' words
it is the model's choice: log entries 1, 86. -/
def Obligations.StepRunsFrontCommand : Prop :=
  Sys2Proof.Machine.Claim.stepRunsFrontCommand

/-- The part right after reset: every field at its reset value, nothing held, nothing waiting, outputs and memory in order. Where a clause
goes beyond the rules' words it is the model's choice: log entries 5, 6. -/
def Obligations.ResetState : Prop :=
  Sys2Proof.Machine.Claim.resetState ∧ Sys2Proof.Machine.Claim.resetValues ∧ Sys2Proof.Machine.Claim.queueOkAtReset ∧
  Sys2Proof.Machine.Claim.memoryCanonicalAtReset

/-- With nothing waiting one clock cycle passes, or nothing while the logic side is held (log entry 2). Where a clause goes beyond the
rules' words it is the model's choice: log entry 2. -/
def Obligations.IdleStep : Prop :=
  Sys2Proof.Machine.Claim.idleCycle ∧ Sys2Proof.Machine.Claim.idleHeld

/-- After every step the outputs agree with the state, and the queue has lost its front command alone. Where a clause goes beyond the rules'
words it is the model's choice: log entry 9. -/
def Obligations.EveryStepShowsOutputs : Prop :=
  Sys2Proof.Machine.Claim.everyStepShows ∧ Sys2Proof.Machine.Claim.queueStaysOk

/-- The settings in force change by a committed swap or by start-up alone, and then to a bank that custody holds. Where a clause goes beyond
the rules' words it is the model's choice: log entries 71, 80. -/
def Obligations.SettingsInForce : Prop :=
  Sys2Proof.Machine.Claim.settingsStay ∧ Sys2Proof.Machine.Claim.swapBringsPendingBank ∧
  Sys2Proof.Machine.Claim.startUpBringsCustodyBank

/-- Every step keeps the berth SRAM in its canonical form. Where a clause goes beyond the rules' words it is the model's choice: log entry
10. -/
def Obligations.MemoryStaysCanonical : Prop :=
  Sys2Proof.Machine.Claim.memoryStaysCanonical

/-- With the logic side held, supplies, resets, start-up, the NOR and the field die act alone; a failed boot answers CLK_, PWR_ and ID_.
Where a clause goes beyond the rules' words it is the model's choice: log entry 9. -/
def Obligations.HeldPart : Prop :=
  Sys2Proof.Machine.Claim.logicSideHeld ∧ Sys2Proof.Machine.Claim.dieAlone ∧ Sys2Proof.Machine.Claim.bootWindow

/-- Each non-exempt event code has one token bucket, shared by its sources, full at start-up (R475). -/
def Obligations.TokenBuckets : Prop :=
  Sys2Proof.Machine.Claim.bucketsStartFull ∧ Sys2Proof.Machine.Claim.bucketGovernsEvent

/-- Raising an event: exempt codes, a full queue, and what an event leaves alone. -/
def Obligations.EventQueue : Prop :=
  Sys2Proof.Machine.Claim.exemptEventQueued ∧ Sys2Proof.Machine.Claim.fullQueueDrops ∧ Sys2Proof.Machine.Claim.eventChangesLogOnly

/-- EVT_APPEND and EVT_SUPPRESSED: entries become durable and are offered; suppressed ones are told each second. Where a clause goes beyond
the rules' words it is the model's choice: log entries 3, 7, 99, 124. -/
def Obligations.EventLog : Prop :=
  Sys2Proof.Machine.Claim.entryDurable ∧ Sys2Proof.Machine.Claim.entryOffered ∧ Sys2Proof.Machine.Claim.appendWaits ∧
  Sys2Proof.Machine.Claim.suppressedLogged

/-- POWER_ON_RESET_RELEASE, RST_N_LOW, VMAIN_BROWN_OUT, VIO_LOW, REGULATOR_OUT_OF_RANGE, REFCLK_LOST, OVER_TEMPERATURE. Where a clause goes
beyond the rules' words it is the model's choice: log entries 6, 70, 71, 81. -/
def Obligations.Resets : Prop :=
  Sys2Proof.Machine.Claim.powerOnReleases ∧ Sys2Proof.Machine.Claim.resetHolds ∧ Sys2Proof.Machine.Claim.resetUnpowered

/-- VMAIN_WARN, VMAIN_WARN_CLEAR, VAFE_LOW, VAFE_LOW_CLEAR, VAFE_LOST, VAFE_RETURN. Where a clause goes beyond the rules' words it is the
model's choice: log entries 3, 68, 81, 117. -/
def Obligations.SupplySupervision : Prop :=
  Sys2Proof.Machine.Claim.vmainWarnEnters ∧ Sys2Proof.Machine.Claim.vmainWarnLeaves ∧ Sys2Proof.Machine.Claim.vafeLowEnters ∧
  Sys2Proof.Machine.Claim.vafeLowLeaves ∧ Sys2Proof.Machine.Claim.vafeLostEnters ∧ Sys2Proof.Machine.Claim.vafeReturns ∧
  Sys2Proof.Machine.Claim.withheldClaimMade ∧ Sys2Proof.Machine.Claim.groupsShown

/-- START_UP and AUTOCAL: to a failed boot or to calibration. Where a clause goes beyond the rules' words it is the model's choice: log
entries 3, 80, 83, 89, 106, 124. -/
def Obligations.StartUp : Prop :=
  Sys2Proof.Machine.Claim.bootFails ∧ Sys2Proof.Machine.Claim.startUpReachesCalibration ∧ Sys2Proof.Machine.Claim.autocalRuns

/-- START_UP_SETTINGS and SETTINGS_SWAP bring a bank into force. Where a clause goes beyond the rules' words it is the model's choice: log
entries 3, 77, 80. -/
def Obligations.SettingsBankComesIntoForce : Prop :=
  Sys2Proof.Machine.Claim.settingsComeIntoForceAtStartUp ∧ Sys2Proof.Machine.Claim.bankComesIntoForce ∧
  Sys2Proof.Machine.Claim.noSwapDue

/-- NOR_ACCESS and NOR_OP_DONE: the NOR through the TAP, and the TAP itself. Where a clause goes beyond the rules' words it is the model's
choice: log entries 81, 88, 118. -/
def Obligations.NorPort : Prop :=
  Sys2Proof.Machine.Claim.norStarts ∧ Sys2Proof.Machine.Claim.norRefused ∧ Sys2Proof.Machine.Claim.norCompletes ∧
  Sys2Proof.Machine.Claim.tapAlone ∧ Sys2Proof.Machine.Claim.tapIdentifies ∧ Sys2Proof.Machine.Claim.tapBypasses

/-- COMMAND_FRAME, READBACK_FRAME, FIELD_LINK_LOST, LINKHOLD_EXPIRY. Where a clause goes beyond the rules' words it is the model's choice:
log entries 3, 7, 50, 114. -/
def Obligations.FieldLink : Prop :=
  Sys2Proof.Machine.Claim.commandFrameTaken ∧ Sys2Proof.Machine.Claim.readbackSeen ∧ Sys2Proof.Machine.Claim.linkLostHolds ∧
  Sys2Proof.Machine.Claim.linkholdSwitchesOff ∧ Sys2Proof.Machine.Claim.linkLossSeen

/-- FIELD_DIE_RESET and the field supply: FIELD_UV_WARN, _INVAL, _CLEAR, _INVALID_EXIT, _DROP, _RECOVER. Where a clause goes beyond the
rules' words it is the model's choice: log entries 3, 50, 52. -/
def Obligations.FieldSupply : Prop :=
  Sys2Proof.Machine.Claim.dieResets ∧ Sys2Proof.Machine.Claim.dieSupplied ∧ Sys2Proof.Machine.Claim.uvCrosses ∧
  Sys2Proof.Machine.Claim.uvInvalidLeft ∧ Sys2Proof.Machine.Claim.uvDrops ∧ Sys2Proof.Machine.Claim.uvRecovers

/-- DIN_CHANGE, WIRE_BREAK, WIRE_OK, ALIVE_REFRESH_TIMEOUT, ALIVE_OUT_OVERLOAD, ALIVE_OVERLOAD_RETRY, TOW_IN_EDGE. Where a clause goes
beyond the rules' words it is the model's choice: log entries 3, 9, 51, 61. -/
def Obligations.InputsAndLifeContact : Prop :=
  Sys2Proof.Machine.Claim.inputDebounces ∧ Sys2Proof.Machine.Claim.wireBreaks ∧ Sys2Proof.Machine.Claim.wireRestored ∧
  Sys2Proof.Machine.Claim.aliveRefreshMissed ∧ Sys2Proof.Machine.Claim.aliveOverloads ∧ Sys2Proof.Machine.Claim.aliveRetries ∧
  Sys2Proof.Machine.Claim.towEdgeStamped ∧ Sys2Proof.Machine.Claim.inputThresholds ∧ Sys2Proof.Machine.Claim.inputUnmoved ∧
  Sys2Proof.Machine.Claim.towEdgeIgnored

/-- OUT_OVERLOAD, OUT_OVERLOAD_RETRY, OUT_STUCK_HIGH, OUT_CONFLICT, OUT_OPEN_LOAD, OUT_PAR_IMBALANCE, OUT_DIAG_CLEAR, SOFT_START_SLOT. Where
a clause goes beyond the rules' words it is the model's choice: log entries 3, 50, 52, 120. -/
def Obligations.Outputs : Prop :=
  Sys2Proof.Machine.Claim.outputOverloads ∧ Sys2Proof.Machine.Claim.overloadRetries ∧ Sys2Proof.Machine.Claim.outputSticksHigh ∧
  Sys2Proof.Machine.Claim.outputConflicts ∧ Sys2Proof.Machine.Claim.outputOpens ∧ Sys2Proof.Machine.Claim.pairImbalanced ∧
  Sys2Proof.Machine.Claim.diagnosticClears ∧ Sys2Proof.Machine.Claim.softStartSwitches ∧ Sys2Proof.Machine.Claim.openLoadPauses ∧
  Sys2Proof.Machine.Claim.overloadEnds ∧ Sys2Proof.Machine.Claim.overloadStays

/-- CLAIM_FRAME_TX, CLAIM_FRAME_RX, CLAIM_PARTNER_TIMEOUT, CLAIM_LINE_FAIL, CLAIM_LINE_OK. Where a clause goes beyond the rules' words it is
the model's choice: log entries 3, 7, 50. -/
def Obligations.ClaimLine : Prop :=
  Sys2Proof.Machine.Claim.claimFrameSent ∧ Sys2Proof.Machine.Claim.claimFrameTaken ∧ Sys2Proof.Machine.Claim.claimPartnerGone ∧
  Sys2Proof.Machine.Claim.claimLineFails ∧ Sys2Proof.Machine.Claim.claimLineSilent ∧ Sys2Proof.Machine.Claim.claimLineRestored ∧
  Sys2Proof.Machine.Claim.claimFrameAwaits ∧ Sys2Proof.Machine.Claim.claimFramesInStep ∧ Sys2Proof.Machine.Claim.claimLineUnused

/-- Which of two claim words is higher (R501). -/
def Obligations.ClaimOrder : Prop :=
  Sys2Proof.Machine.Claim.claimOrder

/-- HELLO_SEND, HELLO_RX, HEARTBEAT_SEND, HEARTBEAT_RX, and frames whose CRC fails. Where a clause goes beyond the rules' words it is the
model's choice: log entries 3, 7, 66, 67, 74, 125, 126. -/
def Obligations.PairFrames : Prop :=
  Sys2Proof.Machine.Claim.helloIsSent ∧ Sys2Proof.Machine.Claim.helloIsTaken ∧ Sys2Proof.Machine.Claim.badFrameDiscarded ∧
  Sys2Proof.Machine.Claim.heartbeatIsSent ∧ Sys2Proof.Machine.Claim.heartbeatWithheld ∧ Sys2Proof.Machine.Claim.heartbeatIsTaken ∧
  Sys2Proof.Machine.Claim.joinsBehindActive ∧ Sys2Proof.Machine.Claim.linkPayloads ∧ Sys2Proof.Machine.Claim.helloStops ∧
  Sys2Proof.Machine.Claim.rankConflictHolds

/-- HB_MISS: the count, the alarm, the takeover and the new claim. Where a clause goes beyond the rules' words it is the model's choice: log
entries 3, 128. -/
def Obligations.MissedHeartbeats : Prop :=
  Sys2Proof.Machine.Claim.missCounts ∧ Sys2Proof.Machine.Claim.missAlarms ∧ Sys2Proof.Machine.Claim.missTakesOver ∧
  Sys2Proof.Machine.Claim.missClaimsAgain ∧ Sys2Proof.Machine.Claim.epochOfClaim

/-- SNAPSHOT, SNAP_DATA_RX, SNAP_END_RX, HANDOVER_RX, HANDOVER_REQUEST, HANDOVER_ABORT. Where a clause goes beyond the rules' words it is
the model's choice: log entries 3, 7, 72, 73, 125, 127. -/
def Obligations.SnapshotsAndHandover : Prop :=
  Sys2Proof.Machine.Claim.snapshotTaken ∧ Sys2Proof.Machine.Claim.snapDataJoins ∧ Sys2Proof.Machine.Claim.snapEnds ∧
  Sys2Proof.Machine.Claim.handoverFrameActs ∧ Sys2Proof.Machine.Claim.failbackRequested ∧ Sys2Proof.Machine.Claim.handoverAborts ∧
  Sys2Proof.Machine.Claim.snapshotSize ∧ Sys2Proof.Machine.Claim.zeroRunsShrink ∧ Sys2Proof.Machine.Claim.goodSnapshotIsWhole

/-- REPLAY_TICK, REPLAY_CATCH_UP, JOINING_TIMEOUT, LUMKO_LOCK_LOST, LUMKO_LOCK_GAINED. Where a clause goes beyond the rules' words it is the
model's choice: log entries 3, 66, 73, 74, 113. -/
def Obligations.ReplayAndJoining : Prop :=
  Sys2Proof.Machine.Claim.replayAdvances ∧ Sys2Proof.Machine.Claim.replayCatchesUp ∧ Sys2Proof.Machine.Claim.joiningTimesOut ∧
  Sys2Proof.Machine.Claim.lumkoGoesDown ∧ Sys2Proof.Machine.Claim.lumkoComesUp

/-- GRID_TICK, TRACKER_CYCLE, TRK_RAMP_ENTER, DEVICE_TIME_BOUND. Where a clause goes beyond the rules' words it is the model's choice: log
entries 3, 7, 19, 20, 93, 104, 105, 106. -/
def Obligations.GridAndTracker : Prop :=
  Sys2Proof.Machine.Claim.tickArrives ∧ Sys2Proof.Machine.Claim.trackerTracks ∧ Sys2Proof.Machine.Claim.trackerHolds ∧
  Sys2Proof.Machine.Claim.trackerRamps ∧ Sys2Proof.Machine.Claim.boundIsWritten ∧ Sys2Proof.Machine.Claim.boundStaysAhead ∧
  Sys2Proof.Machine.Claim.lateDecisionWaits

/-- SELFCAL_GROUP_START, SELFCAL_GROUP_DONE, AUX_CAL_DONE, AFE_DIAG_DONE, SKEWCAL_DONE. Where a clause goes beyond the rules' words it is
the model's choice: log entries 3, 83, 92, 97. -/
def Obligations.Calibration : Prop :=
  Sys2Proof.Machine.Claim.groupCalibrationBegins ∧ Sys2Proof.Machine.Claim.groupCalibrationPasses ∧
  Sys2Proof.Machine.Claim.groupCalibrationFails ∧ Sys2Proof.Machine.Claim.converterCalibrated ∧
  Sys2Proof.Machine.Claim.diagnosisEnds ∧ Sys2Proof.Machine.Claim.skewCalibrationEnds

/-- SPLICE_FADE_UP, SPLICE_FADE_DOWN, SPLICE_FADE_END, SPLICE_VAL_WINDOW_END, TWIN_MISMATCH, TWIN_WINDOW_END. Where a clause goes beyond the
rules' words it is the model's choice: log entries 1, 3, 17, 18, 24, 94. -/
def Obligations.Splice : Prop :=
  Sys2Proof.Machine.Claim.spliceFadesUp ∧ Sys2Proof.Machine.Claim.spliceFadesDown ∧ Sys2Proof.Machine.Claim.spliceSettles ∧
  Sys2Proof.Machine.Claim.validationWindowEnds ∧ Sys2Proof.Machine.Claim.twinsMismatch ∧ Sys2Proof.Machine.Claim.twinWindowEnds

/-- MOD_RESET, CLIPPED_ONSET, FLT_SYNC_RESET, FLT_SWAP_START, FLT_SWAP_DONE. Where a clause goes beyond the rules' words it is the model's
choice: log entries 1, 3, 18, 22, 95, 96. -/
def Obligations.ModulatorsAndFilters : Prop :=
  Sys2Proof.Machine.Claim.modulatorResets ∧ Sys2Proof.Machine.Claim.clippingBegins ∧ Sys2Proof.Machine.Claim.syncResets ∧
  Sys2Proof.Machine.Claim.swapFadeBegins ∧ Sys2Proof.Machine.Claim.swapCompletes

/-- AUX_TIMER_TRIGGER, _TICK_TRIGGER, _PULSE_TRIGGER, _SCAN_START, _CONVERSION, _INJ_CONVERSION, _XCHK. Where a clause goes beyond the
rules' words it is the model's choice: log entries 3, 27, 37. -/
def Obligations.AuxConverters : Prop :=
  Sys2Proof.Machine.Claim.timerFires ∧ Sys2Proof.Machine.Claim.tickFires ∧ Sys2Proof.Machine.Claim.pulseFires ∧
  Sys2Proof.Machine.Claim.scanStarts ∧ Sys2Proof.Machine.Claim.scanConverts ∧ Sys2Proof.Machine.Claim.injectedConverts ∧
  Sys2Proof.Machine.Claim.crossCheckRuns ∧ Sys2Proof.Machine.Claim.crossCheckSkips ∧ Sys2Proof.Machine.Claim.cutScanEnds

/-- SV_FRAME, SV_STREAM_LOST, SV_ALIGN_EXPIRY; bad frames and duplicates. Where a clause goes beyond the rules' words it is the model's
choice: log entries 3, 7, 28, 29, 38, 100, 101, 102. -/
def Obligations.SampledValues : Prop :=
  Sys2Proof.Machine.Claim.svFrameAccepted ∧ Sys2Proof.Machine.Claim.svFrameRejected ∧ Sys2Proof.Machine.Claim.badFrameCounted ∧
  Sys2Proof.Machine.Claim.duplicateDiscarded ∧ Sys2Proof.Machine.Claim.streamLost ∧ Sys2Proof.Machine.Claim.alignmentExpires

/-- GOOSE_FRAME, GOOSE_TAL_EXPIRED, GOOSE_PUBLISH, GOOSE_REPEAT. Where a clause goes beyond the rules' words it is the model's choice: log
entries 3, 7, 41, 107, 108. -/
def Obligations.Goose : Prop :=
  Sys2Proof.Machine.Claim.gooseTaken ∧ Sys2Proof.Machine.Claim.gooseIgnored ∧ Sys2Proof.Machine.Claim.gooseStale ∧
  Sys2Proof.Machine.Claim.goosePublished ∧ Sys2Proof.Machine.Claim.gooseRepeated

/-- HSR_FORWARD, PRP_SUPERVISION_SEND, PRP_SUPERVISION_RX, NODE_FORGET_TIME, PHY_POLL, MDIO_DONE, SGMII_AUTONEG. Where a clause goes beyond
the rules' words it is the model's choice: log entries 3, 38. -/
def Obligations.ProcessBusPorts : Prop :=
  Sys2Proof.Machine.Claim.ringForwards ∧ Sys2Proof.Machine.Claim.supervisionSent ∧ Sys2Proof.Machine.Claim.supervisionTaken ∧
  Sys2Proof.Machine.Claim.nodeForgotten ∧ Sys2Proof.Machine.Claim.phyPolled ∧ Sys2Proof.Machine.Claim.phyPollPauses ∧
  Sys2Proof.Machine.Claim.mdioCompletes ∧ Sys2Proof.Machine.Claim.speedNegotiated ∧ Sys2Proof.Machine.Claim.ownFrameRemoved ∧
  Sys2Proof.Machine.Claim.slavePortStandsIn

/-- PTP_SYNC, PTP_ANNOUNCE, PTP_PDELAY_RX, PTP_MESSAGE_SEND. Where a clause goes beyond the rules' words it is the model's choice: log
entries 3, 7, 31, 32, 110, 119. -/
def Obligations.PrecisionTime : Prop :=
  Sys2Proof.Machine.Claim.syncMeasures ∧ Sys2Proof.Machine.Claim.syncOfUnused ∧ Sys2Proof.Machine.Claim.announceMakesSlave ∧
  Sys2Proof.Machine.Claim.announceElsewhere ∧ Sys2Proof.Machine.Claim.peerDelayMeasured ∧ Sys2Proof.Machine.Claim.ptpMessagesSent ∧
  Sys2Proof.Machine.Claim.otherDomainIgnored ∧ Sys2Proof.Machine.Claim.peerDelayAnswered ∧ Sys2Proof.Machine.Claim.portFollows

/-- IRIG_FRAME and PPS_EDGE. Where a clause goes beyond the rules' words it is the model's choice: log entries 3, 7, 33, 40, 111. -/
def Obligations.IrigAndPps : Prop :=
  Sys2Proof.Machine.Claim.irigUndecoded ∧ Sys2Proof.Machine.Claim.irigDecoded ∧ Sys2Proof.Machine.Claim.irigMeasures ∧
  Sys2Proof.Machine.Claim.ppsAccepted ∧ Sys2Proof.Machine.Claim.ppsRejected ∧ Sys2Proof.Machine.Claim.irigWidths ∧
  Sys2Proof.Machine.Claim.ppsAfterLoss

/-- TIME_SOURCE_LOST, HOLDOVER_ACC_DEGRADE, TIME_SRC_SELECT, UTC_OFS_CHANGE. Where a clause goes beyond the rules' words it is the model's
choice: log entries 3, 35, 40, 109. -/
def Obligations.TimeSources : Prop :=
  Sys2Proof.Machine.Claim.sourceIntoHoldover ∧ Sys2Proof.Machine.Claim.sourceIntoFreeRun ∧
  Sys2Proof.Machine.Claim.holdoverDegrades ∧ Sys2Proof.Machine.Claim.sourceChosen ∧ Sys2Proof.Machine.Claim.sourceStays ∧
  Sys2Proof.Machine.Claim.leapSecondTaken ∧ Sys2Proof.Machine.Claim.noLeapSecond ∧ Sys2Proof.Machine.Claim.slavePortFailsOver

/-- BAY_EVALUATION, GROUP_CHANGE, and happenings that the next tick does not bring (log entries 1 and 4). Where a clause goes beyond the
rules' words it is the model's choice: log entries 1, 4, 46. -/
def Obligations.BayEvaluation : Prop :=
  Sys2Proof.Machine.Claim.bayEvaluates ∧ Sys2Proof.Machine.Claim.bayWaits ∧ Sys2Proof.Machine.Claim.happeningWaits ∧
  Sys2Proof.Machine.Claim.groupChanges

/-- ELM_OPERATE, ELM_RESET_TIMEOUT, ELM_MEMORY_EXPIRY, BF_RETRIP, BF_BACKUP, CLP_ARMED, CLP_END, TMAX_REL. Where a clause goes beyond the
rules' words it is the model's choice: log entries 4, 43, 44, 45, 112. -/
def Obligations.Elements : Prop :=
  Sys2Proof.Machine.Claim.elementOperates ∧ Sys2Proof.Machine.Claim.elementResets ∧ Sys2Proof.Machine.Claim.memoryExpires ∧
  Sys2Proof.Machine.Claim.breakerFails ∧ Sys2Proof.Machine.Claim.coldLoadMoves ∧ Sys2Proof.Machine.Claim.blockForcedOff

/-- AR_CLOSE, AR_LOCKOUT, AR_SUCCESS and the autoreclose table. Where a clause goes beyond the rules' words it is the model's choice: log
entries 4, 45. -/
def Obligations.Autoreclose : Prop :=
  Sys2Proof.Machine.Claim.recloserCloses ∧ Sys2Proof.Machine.Claim.recloserLocksOut ∧ Sys2Proof.Machine.Claim.recloserSucceeds ∧
  Sys2Proof.Machine.Claim.recloserRule

/-- KNOT_TIMER_EXPIRY, TM_MINP_EXPIRY, FAST_PICKUP, FAST_DROPOUT, TD_PICKUP, TD_DROPOUT. Where a clause goes beyond the rules' words it is
the model's choice: log entries 4, 47, 48, 61, 103. -/
def Obligations.KnotsAndDetectors : Prop :=
  Sys2Proof.Machine.Claim.knotExpires ∧ Sys2Proof.Machine.Claim.rowFalls ∧ Sys2Proof.Machine.Claim.rowRule ∧
  Sys2Proof.Machine.Claim.fastPicksUp ∧ Sys2Proof.Machine.Claim.fastDropsOut ∧ Sys2Proof.Machine.Claim.detectorFires

/-- ENGINE_FAIL, SPARE_ROTATION, ENGINE_BIST_DONE, PROOF_CYCLE, BLOCK_BIST_DONE. Where a clause goes beyond the rules' words it is the
model's choice: log entries 3, 49, 53, 56. -/
def Obligations.Engines : Prop :=
  Sys2Proof.Machine.Claim.engineFails ∧ Sys2Proof.Machine.Claim.engineFailedAlready ∧ Sys2Proof.Machine.Claim.spareRotates ∧
  Sys2Proof.Machine.Claim.rotationSkipped ∧ Sys2Proof.Machine.Claim.engineTestPasses ∧ Sys2Proof.Machine.Claim.engineTestFails ∧
  Sys2Proof.Machine.Claim.engineTestRepeats ∧ Sys2Proof.Machine.Claim.hostTestPasses ∧ Sys2Proof.Machine.Claim.proofBegins ∧
  Sys2Proof.Machine.Claim.groupTestEnds ∧ Sys2Proof.Machine.Claim.noBlockTest ∧ Sys2Proof.Machine.Claim.failedCarriesNothing

/-- SRAM_CORRECTED_ERROR, SRAM_UNCORRECTABLE, LOCKSTEP_MISMATCH, NAND_BLOCK_RETIRED, MRAM_SECTOR_SPARED, FUSE_BURN_DONE. Where a clause goes
beyond the rules' words it is the model's choice: log entries 55, 57, 60. -/
def Obligations.MemoryErrors : Prop :=
  Sys2Proof.Machine.Claim.correctedErrorCounts ∧ Sys2Proof.Machine.Claim.faultRestarts ∧ Sys2Proof.Machine.Claim.nandBlockReplaced ∧
  Sys2Proof.Machine.Claim.nandBlockLost ∧ Sys2Proof.Machine.Claim.sectorRemapped ∧ Sys2Proof.Machine.Claim.fusesBurned ∧
  Sys2Proof.Machine.Claim.nandBlockBad ∧ Sys2Proof.Machine.Claim.sectorNotRemapped

/-- TRIG_IN_EDGE, TRIG_BUS_EDGE, TRIG_BUS_PULSE_END, REC_SAMPLE_CAPTURE, REARM_END, REC_BLOCK_DRAINED. Where a clause goes beyond the rules'
words it is the model's choice: log entries 3, 58, 59, 70, 115, 121, 122, 123. -/
def Obligations.Recorder : Prop :=
  Sys2Proof.Machine.Claim.trigInTriggers ∧ Sys2Proof.Machine.Claim.trigBusTriggers ∧ Sys2Proof.Machine.Claim.ownPulseIgnored ∧
  Sys2Proof.Machine.Claim.busReleased ∧ Sys2Proof.Machine.Claim.sampleCaptured ∧ Sys2Proof.Machine.Claim.sampleWaits ∧
  Sys2Proof.Machine.Claim.recordBegins ∧ Sys2Proof.Machine.Claim.rearmEnds ∧ Sys2Proof.Machine.Claim.blockDrains ∧
  Sys2Proof.Machine.Claim.drainWaits ∧ Sys2Proof.Machine.Claim.drainsRotate ∧ Sys2Proof.Machine.Claim.busGlitchIgnored

/-- REGISTER_WRITE, RC_READ, W1C_WRITE: what an access does to the fields of a register. Where a clause goes beyond the rules' words it is
the model's choice: log entries 65, 85, 116. -/
def Obligations.RegisterWindow : Prop :=
  Sys2Proof.Machine.Claim.fieldsLieApart ∧ Sys2Proof.Machine.Claim.registerWritten ∧ Sys2Proof.Machine.Claim.partialWriteIgnored ∧
  Sys2Proof.Machine.Claim.foreignWriteCounted ∧ Sys2Proof.Machine.Claim.msixWritten ∧ Sys2Proof.Machine.Claim.readClears ∧
  Sys2Proof.Machine.Claim.onesClear ∧ Sys2Proof.Machine.Claim.rowOfItsOwn ∧ Sys2Proof.Machine.Claim.readRowOfItsOwn ∧
  Sys2Proof.Machine.Claim.berthWindowWritten ∧ Sys2Proof.Machine.Claim.berthWindowRead

/-- SP_WRITE: a direct write to a settings field is ignored (R539). -/
def Obligations.SettingsWrites : Prop :=
  Sys2Proof.Machine.Claim.settingsWriteIgnored ∧ Sys2Proof.Machine.Claim.sameSettingsWrite

/-- LO_READ_LATCH: a read of a LO register latches its HI register (R15). -/
def Obligations.LatchedReads : Prop :=
  Sys2Proof.Machine.Claim.lowReadLatchesHigh ∧ Sys2Proof.Machine.Claim.latchedHighRead

/-- AUX_RESULT_READ, AUX_INJ_REQ_WRITE, reads of AUX_INJ_RESULT. Where a clause goes beyond the rules' words it is the model's choice: log
entry 25. -/
def Obligations.AuxRegisters : Prop :=
  Sys2Proof.Machine.Claim.auxResultIsRead ∧ Sys2Proof.Machine.Claim.injectedResultIsRead ∧
  Sys2Proof.Machine.Claim.injectionRequested ∧ Sys2Proof.Machine.Claim.noInjectionRequested

/-- AUX_TRG_CFG_WRITE discards a trigger that waits out its delay (R128). -/
def Obligations.AuxTriggerWrite : Prop :=
  Sys2Proof.Machine.Claim.auxTriggerConfigured

/-- AFE_TDAC_CTRL_WRITE, AFE_TESTMARK_WRITE, BAY_TICK_LO_READ, KNOT_TM_RESET_WRITE, KNOT_TM_FORCE_WRITE, PBUS_LEAP_WRITE, PBUS_MDIO_WRITE.
Where a clause goes beyond the rules' words it is the model's choice: log entries 23, 26, 34, 47, 79, 98. -/
def Obligations.SpecialRegisters : Prop :=
  Sys2Proof.Machine.Claim.testDacControlled ∧ Sys2Proof.Machine.Claim.testDacFed ∧ Sys2Proof.Machine.Claim.testMarksWritten ∧
  Sys2Proof.Machine.Claim.bayRegistersLatched ∧ Sys2Proof.Machine.Claim.noTickToLatch ∧
  Sys2Proof.Machine.Claim.latchResetRequested ∧ Sys2Proof.Machine.Claim.rowsForced ∧ Sys2Proof.Machine.Claim.leapAnnounced ∧
  Sys2Proof.Machine.Claim.mdioStarts ∧ Sys2Proof.Machine.Claim.timeOfDayWritten ∧ Sys2Proof.Machine.Claim.phasorStreamSet ∧
  Sys2Proof.Machine.Claim.berthIrqSet ∧ Sys2Proof.Machine.Claim.forceFollowsMasks

/-- B0_HEAD_WRITE and RESYNC. Where a clause goes beyond the rules' words it is the model's choice: log entries 3, 78. -/
def Obligations.CommandBerthHead : Prop :=
  Sys2Proof.Machine.Claim.headRejected ∧ Sys2Proof.Machine.Claim.foreignHeadCounted ∧ Sys2Proof.Machine.Claim.headMoves ∧
  Sys2Proof.Machine.Claim.packetWaits ∧ Sys2Proof.Machine.Claim.headerTimed ∧ Sys2Proof.Machine.Claim.resyncAnswered

/-- BERTH_TAIL_WRITE, HOST_BERTH_CFG_WRITE, BERTH_IRQ_HOLDOFF, EXPORT_CHUNK. Where a clause goes beyond the rules' words it is the model's
choice: log entries 3, 78, 79. -/
def Obligations.Berths : Prop :=
  Sys2Proof.Machine.Claim.tailMoves ∧ Sys2Proof.Machine.Claim.repliesConsumed ∧ Sys2Proof.Machine.Claim.tailRejected ∧
  Sys2Proof.Machine.Claim.foreignBerthWrite ∧ Sys2Proof.Machine.Claim.fixedBerths ∧ Sys2Proof.Machine.Claim.berthEnabled ∧
  Sys2Proof.Machine.Claim.berthRefused ∧ Sys2Proof.Machine.Claim.berthDisabled ∧ Sys2Proof.Machine.Claim.holdoffRaises ∧
  Sys2Proof.Machine.Claim.holdoffSilent ∧ Sys2Proof.Machine.Claim.chunkExported ∧ Sys2Proof.Machine.Claim.chunkWaits

/-- HOST_CTRL_RESET_WRITE, PCIE_RESET, PCIE_LINK_UP, MAINT_LEASE_EXPIRY, AUTH_LOCKOUT_END. Where a clause goes beyond the rules' words it is
the model's choice: log entries 3, 65. -/
def Obligations.HostInterface : Prop :=
  Sys2Proof.Machine.Claim.hostInterfaceResets ∧ Sys2Proof.Machine.Claim.pcieResets ∧ Sys2Proof.Machine.Claim.pcieTrains ∧
  Sys2Proof.Machine.Claim.leaseExpires ∧ Sys2Proof.Machine.Claim.lockoutEnds

/-- HOST_BERTH_OVERFLOW: drops of each berth are logged each second (R579). Where a clause goes beyond the rules' words it is the model's
choice: log entry 3. -/
def Obligations.BerthDropsLogged : Prop :=
  Sys2Proof.Machine.Claim.dropsLogged

/-- Every host command: the common checks, BAD_OPCODE, foreign packets, packets without room, wrong LENGTH, wrong TARGET. Where a clause
goes beyond the rules' words it is the model's choice: log entries 36, 78, 90, 117. -/
def Obligations.CommandPackets : Prop :=
  Sys2Proof.Machine.Claim.packetRejected ∧ Sys2Proof.Machine.Claim.badOpcodeAnswered ∧
  Sys2Proof.Machine.Claim.foreignPacketCounted ∧ Sys2Proof.Machine.Claim.packetWithoutRoom ∧ Sys2Proof.Machine.Claim.noPacketTaken ∧
  Sys2Proof.Machine.Claim.wrongLength ∧ Sys2Proof.Machine.Claim.wrongTarget ∧ Sys2Proof.Machine.Claim.commandWaitsForMram

/-- NEGOTIATE, IDENTIFY, RESTART, MAINT_MODE, TIME_SET, PBUS_SUBSCRIBE. Where a clause goes beyond the rules' words it is the model's
choice: log entries 36, 64. -/
def Obligations.SessionCommands : Prop :=
  Sys2Proof.Machine.Claim.timeIsSet ∧ Sys2Proof.Machine.Claim.timeSetRefused ∧ Sys2Proof.Machine.Claim.tapManaged ∧
  Sys2Proof.Machine.Claim.sessionOpened ∧ Sys2Proof.Machine.Claim.unitIdentified ∧ Sys2Proof.Machine.Claim.restartAccepted ∧
  Sys2Proof.Machine.Claim.restartRefused ∧ Sys2Proof.Machine.Claim.maintenanceEntered ∧ Sys2Proof.Machine.Claim.maintenanceRefused ∧
  Sys2Proof.Machine.Claim.maintenanceLeft

/-- SELFCAL, AUX_INJECT, AFE_DIAG, AFE_SKEWCAL, FLT_BANK_LOAD, FLT_BANK_SWAP, FLT_SYNC. Where a clause goes beyond the rules' words it is
the model's choice: log entries 3, 36, 42, 83, 97. -/
def Obligations.AnalogCommands : Prop :=
  Sys2Proof.Machine.Claim.selfCalibrationBegins ∧ Sys2Proof.Machine.Claim.selfCalibrationRefused ∧
  Sys2Proof.Machine.Claim.injectionAnswered ∧ Sys2Proof.Machine.Claim.diagnosisBegins ∧
  Sys2Proof.Machine.Claim.skewCalibrationBegins ∧ Sys2Proof.Machine.Claim.bankLoaded ∧ Sys2Proof.Machine.Claim.swapQueued ∧
  Sys2Proof.Machine.Claim.swapRefused ∧ Sys2Proof.Machine.Claim.syncScheduled

/-- SET_STAGE_OPEN, SET_STAGE_WRITE, SET_STAGE_SEAL. Where a clause goes beyond the rules' words it is the model's choice: log entries 36,
75, 90. -/
def Obligations.StagingCommands : Prop :=
  Sys2Proof.Machine.Claim.stagingOpened ∧ Sys2Proof.Machine.Claim.stagingBusy ∧ Sys2Proof.Machine.Claim.stagedWordsTaken ∧
  Sys2Proof.Machine.Claim.stagedRegister ∧ Sys2Proof.Machine.Claim.bankSealed ∧ Sys2Proof.Machine.Claim.sealRefused

/-- SET_ENDORSE, SET_COMMIT, SET_ABORT, KEY_ENROL. Where a clause goes beyond the rules' words it is the model's choice: log entries 36, 76,
77. -/
def Obligations.CustodyCommands : Prop :=
  Sys2Proof.Machine.Claim.gateOpens ∧ Sys2Proof.Machine.Claim.endorsementRefused ∧ Sys2Proof.Machine.Claim.endorsementChecks ∧
  Sys2Proof.Machine.Claim.commitAccepted ∧ Sys2Proof.Machine.Claim.commitStale ∧ Sys2Proof.Machine.Claim.shadowDiscarded ∧
  Sys2Proof.Machine.Claim.commitCancelled ∧ Sys2Proof.Machine.Claim.keyEnrolled ∧ Sys2Proof.Machine.Claim.keyEnrolledByTwo ∧
  Sys2Proof.Machine.Claim.enrolmentRefused

/-- REC_ARM, REC_FETCH, REC_EXPORT, REC_TRIGGER, REC_DISARM, REC_MANAGE. Where a clause goes beyond the rules' words it is the model's
choice: log entries 59, 69, 121. -/
def Obligations.RecorderCommands : Prop :=
  Sys2Proof.Machine.Claim.recorderArmed ∧ Sys2Proof.Machine.Claim.armingAnswered ∧ Sys2Proof.Machine.Claim.directoryRead ∧
  Sys2Proof.Machine.Claim.noSuchRecord ∧ Sys2Proof.Machine.Claim.measurementsRead ∧ Sys2Proof.Machine.Claim.exportBegins ∧
  Sys2Proof.Machine.Claim.exportRefused ∧ Sys2Proof.Machine.Claim.recordersTriggered ∧ Sys2Proof.Machine.Claim.recorderDisarmed ∧
  Sys2Proof.Machine.Claim.recordStopped ∧ Sys2Proof.Machine.Claim.recordManaged

/-- EVT_READ, EVT_CLEAR, PAIR_JOIN, PAIR_YIELD, PAIR_STATUS, BIST_RUN, REPAIR_FUSE. Where a clause goes beyond the rules' words it is the
model's choice: log entries 36, 53, 54, 60, 77. -/
def Obligations.UnitCommands : Prop :=
  Sys2Proof.Machine.Claim.logCleared ∧ Sys2Proof.Machine.Claim.entriesRead ∧ Sys2Proof.Machine.Claim.readRefused ∧
  Sys2Proof.Machine.Claim.joiningRestarts ∧ Sys2Proof.Machine.Claim.joinRefused ∧ Sys2Proof.Machine.Claim.handoverOffered ∧
  Sys2Proof.Machine.Claim.yieldRefused ∧ Sys2Proof.Machine.Claim.pairTold ∧ Sys2Proof.Machine.Claim.engineTestBegins ∧
  Sys2Proof.Machine.Claim.groupTestBegins ∧ Sys2Proof.Machine.Claim.testRefused ∧ Sys2Proof.Machine.Claim.repairBegins ∧
  Sys2Proof.Machine.Claim.repairRefused
end

