-- ==== Sys2Proof/Laws/State.lean ====
section
/-! SUPPORT. One lemma per field per update of State, and what a register reads after a write. -/
namespace Sys2Proof.Machine
open Reg

/-! ### Tables -/

theorem tfind_tset_same {α : Type} (t : Tab α) (i : Nat) (v : α) : tfind (tset t i v) i = some v := by
  induction t with
  | nil => simp [tset, tfind]
  | cons x r ih =>
    obtain ⟨k, w⟩ := x
    simp only [tset]
    split
    · simp [tfind]
    · split
      · simp [tfind]
      · simp [tfind, *]

theorem tfind_tset_other {α : Type} (t : Tab α) (i j : Nat) (v : α) (h : j ≠ i) : tfind (tset t i v) j = tfind t j := by
  induction t with
  | nil => simp [tset, tfind, h]
  | cons x r ih =>
    obtain ⟨k, w⟩ := x
    simp only [tset]
    split
    · subst_vars; simp [tfind, h]
    · split
      · by_cases hj : j < i
        · have : j < k := by omega
          simp [tfind, h, hj, this, Nat.ne_of_lt this]
        · simp [tfind, h, hj]
      · simp [tfind, ih]

@[simp] theorem tget_tset_same {α : Type} (d : α) (t : Tab α) (i : Nat) (v : α) : tget d (tset t i v) i = v := by
  simp [tget, tfind_tset_same]

theorem tget_tset_other {α : Type} (d : α) (t : Tab α) (i j : Nat) (v : α) (h : j ≠ i) : tget d (tset t i v) j = tget d t j := by
  simp [tget, tfind_tset_other t i j v h]

/-! ### Keys -/

/-- Fields at different bit places have different keys. -/
theorem Field.key_ne_of_lsb (f g : Field) (i j k l : Nat) (hf : f.lsb < 32) (hg : g.lsb < 32) (h : f.lsb ≠ g.lsb) :
    f.key i j ≠ g.key k l := by unfold Field.key; omega

/-- An array lies below a register. -/
theorem Field.key_ne_of_below (f g : Field) (i j k l : Nat) (hi : i < f.n1) (hj : j < f.n2) (hf : f.lsb < 32)
    (h : f.at' (f.n1 - 1) (f.n2 - 1) < g.addr) : f.key i j ≠ g.key k l := by
  have h1 : f.st1 * i ≤ f.st1 * (f.n1 - 1) := Nat.mul_le_mul_left _ (by omega)
  have h2 : f.st2 * j ≤ f.st2 * (f.n2 - 1) := Nat.mul_le_mul_left _ (by omega)
  unfold Field.key; unfold Field.at' at *
  have h3 : f.addr + f.st1 * i + f.st2 * j + 1 ≤ g.addr + g.st1 * k + g.st2 * l := by omega
  have := Nat.mul_le_mul_right 32 h3
  omega

/-- A register lies below an array. -/
theorem Field.key_ne_of_above (f g : Field) (i j k l : Nat) (hk : k < g.n1) (hl : l < g.n2) (hg : g.lsb < 32)
    (h : g.at' (g.n1 - 1) (g.n2 - 1) < f.addr) : f.key i j ≠ g.key k l := (Field.key_ne_of_below g f k l i j hk hl hg h).symm

/-- Arrays that interleave have no key in common. -/
theorem Field.key_ne_of_residue (f g : Field) (i j k l : Nat) (h1 : f.st1 = g.st1) (h2 : f.st2 = 0) (h3 : g.st2 = 0) (hf : f.lsb < 32)
    (hg : g.lsb < 32) (h : f.addr % g.st1 ≠ g.addr % g.st1) : f.key i j ≠ g.key k l := by
  unfold Field.key Field.at'; rw [h1, h2, h3]
  intro e
  have : f.addr + g.st1 * i = g.addr + g.st1 * k := by omega
  have := congrArg (· % g.st1) this
  simp at this; exact h this

/-- Two members of an array have different keys. -/
theorem Field.key_ne_of_index (f : Field) (i j k : Nat) (hs : 0 < f.st1) (h : i ≠ k) : f.key i j ≠ f.key k j := by
  unfold Field.key Field.at'
  have : f.st1 * i ≠ f.st1 * k := fun e => h (Nat.eq_of_mul_eq_mul_left hs e)
  omega

/-! ### Registers -/

/-- A register reads what was last written to it, in its width. -/
theorem State.rd_wr_same (s : State) (f : Field) (v i j : Nat) (hs : f.acc ≠ .SP) (ho : f.acc ≠ .OTP) :
    (s.wr f v i j).rd f i j = v % 2 ^ f.width := by
  cases hf : f.acc <;> simp_all [State.rd, State.wr]

/-- A write of one register leaves every register of another key as it was. -/
theorem State.rd_wr_other (s : State) (f g : Field) (v i j k l : Nat) (h : f.key i j ≠ g.key k l) :
    (s.wr g v k l).rd f i j = s.rd f i j := by
  cases hf : f.acc <;> simp [State.rd, State.wr, hf, tget_tset_other _ _ _ _ _ h]

/-- What a register reads depends on the register store and the settings in force alone. -/
theorem State.rd_congr {s t : State} (hr : s.regs = t.regs) (hb : s.bank = t.bank) (f : Field) (i j : Nat) : s.rd f i j = t.rd f i j := by
  simp [State.rd, hr, hb]

/-- A settings field reads the settings in force and nothing else. -/
theorem State.rd_setting {s t : State} (f : Field) (h : f.acc = .SP) (hb : s.bank = t.bank) (i j : Nat) : s.rd f i j = t.rd f i j := by
  simp [State.rd, h, hb]

/-! ### The register store against the rest of the state -/

@[simp] theorem State.wr_bank (s : State) (f : Field) (v i j : Nat) : (s.wr f v i j).bank = s.bank := rfl
@[simp] theorem State.wr_prev (s : State) (f : Field) (v i j : Nat) : (s.wr f v i j).prev = s.prev := rfl
@[simp] theorem State.wr_nv (s : State) (f : Field) (v i j : Nat) : (s.wr f v i j).nv = s.nv := rfl
@[simp] theorem State.wr_grid (s : State) (f : Field) (v i j : Nat) : (s.wr f v i j).grid = s.grid := rfl
@[simp] theorem State.wr_log (s : State) (f : Field) (v i j : Nat) : (s.wr f v i j).log = s.log := rfl
@[simp] theorem State.wr_host (s : State) (f : Field) (v i j : Nat) : (s.wr f v i j).host = s.host := rfl
@[simp] theorem State.wr_cust (s : State) (f : Field) (v i j : Nat) : (s.wr f v i j).cust = s.cust := rfl
@[simp] theorem State.wr_afe (s : State) (f : Field) (v i j : Nat) : (s.wr f v i j).afe = s.afe := rfl
@[simp] theorem State.wr_td (s : State) (f : Field) (v i j : Nat) : (s.wr f v i j).td = s.td := rfl
@[simp] theorem State.wr_aux (s : State) (f : Field) (v i j : Nat) : (s.wr f v i j).aux = s.aux := rfl
@[simp] theorem State.wr_pbus (s : State) (f : Field) (v i j : Nat) : (s.wr f v i j).pbus = s.pbus := rfl
@[simp] theorem State.wr_eval (s : State) (f : Field) (v i j : Nat) : (s.wr f v i j).eval = s.eval := rfl
@[simp] theorem State.wr_dio (s : State) (f : Field) (v i j : Nat) : (s.wr f v i j).dio = s.dio := rfl
@[simp] theorem State.wr_bist (s : State) (f : Field) (v i j : Nat) : (s.wr f v i j).bist = s.bist := rfl
@[simp] theorem State.wr_rec (s : State) (f : Field) (v i j : Nat) : (s.wr f v i j).rec' = s.rec' := rfl
@[simp] theorem State.wr_pair (s : State) (f : Field) (v i j : Nat) : (s.wr f v i j).pair = s.pair := rfl
@[simp] theorem State.wr_pwr (s : State) (f : Field) (v i j : Nat) : (s.wr f v i j).pwr = s.pwr := rfl
@[simp] theorem State.wr_tap (s : State) (f : Field) (v i j : Nat) : (s.wr f v i j).tap = s.tap := rfl
@[simp] theorem State.wr_pads (s : State) (f : Field) (v i j : Nat) : (s.wr f v i j).pads = s.pads := rfl
@[simp] theorem State.wr_free (s : State) (f : Field) (v i j : Nat) : (s.wr f v i j).free = s.free := rfl
@[simp] theorem State.wr_pending (s : State) (f : Field) (v i j : Nat) : (s.wr f v i j).pending = s.pending := rfl

/-! ### The updates of one block -/

@[simp] theorem State.modGrid_regs (s : State) (f : GridSt → GridSt) : (s.modGrid f).regs = s.regs := rfl
@[simp] theorem State.modGrid_bank (s : State) (f : GridSt → GridSt) : (s.modGrid f).bank = s.bank := rfl
@[simp] theorem State.modGrid_prev (s : State) (f : GridSt → GridSt) : (s.modGrid f).prev = s.prev := rfl
@[simp] theorem State.modGrid_nv (s : State) (f : GridSt → GridSt) : (s.modGrid f).nv = s.nv := rfl
@[simp] theorem State.modGrid_grid (s : State) (f : GridSt → GridSt) : (s.modGrid f).grid = f s.grid := rfl
@[simp] theorem State.modGrid_log (s : State) (f : GridSt → GridSt) : (s.modGrid f).log = s.log := rfl
@[simp] theorem State.modGrid_host (s : State) (f : GridSt → GridSt) : (s.modGrid f).host = s.host := rfl
@[simp] theorem State.modGrid_cust (s : State) (f : GridSt → GridSt) : (s.modGrid f).cust = s.cust := rfl
@[simp] theorem State.modGrid_afe (s : State) (f : GridSt → GridSt) : (s.modGrid f).afe = s.afe := rfl
@[simp] theorem State.modGrid_td (s : State) (f : GridSt → GridSt) : (s.modGrid f).td = s.td := rfl
@[simp] theorem State.modGrid_aux (s : State) (f : GridSt → GridSt) : (s.modGrid f).aux = s.aux := rfl
@[simp] theorem State.modGrid_pbus (s : State) (f : GridSt → GridSt) : (s.modGrid f).pbus = s.pbus := rfl
@[simp] theorem State.modGrid_eval (s : State) (f : GridSt → GridSt) : (s.modGrid f).eval = s.eval := rfl
@[simp] theorem State.modGrid_dio (s : State) (f : GridSt → GridSt) : (s.modGrid f).dio = s.dio := rfl
@[simp] theorem State.modGrid_bist (s : State) (f : GridSt → GridSt) : (s.modGrid f).bist = s.bist := rfl
@[simp] theorem State.modGrid_rec (s : State) (f : GridSt → GridSt) : (s.modGrid f).rec' = s.rec' := rfl
@[simp] theorem State.modGrid_pair (s : State) (f : GridSt → GridSt) : (s.modGrid f).pair = s.pair := rfl
@[simp] theorem State.modGrid_pwr (s : State) (f : GridSt → GridSt) : (s.modGrid f).pwr = s.pwr := rfl
@[simp] theorem State.modGrid_tap (s : State) (f : GridSt → GridSt) : (s.modGrid f).tap = s.tap := rfl
@[simp] theorem State.modGrid_pads (s : State) (f : GridSt → GridSt) : (s.modGrid f).pads = s.pads := rfl
@[simp] theorem State.modGrid_free (s : State) (f : GridSt → GridSt) : (s.modGrid f).free = s.free := rfl
@[simp] theorem State.modGrid_pending (s : State) (f : GridSt → GridSt) : (s.modGrid f).pending = s.pending := rfl
@[simp] theorem State.modGrid_rd (s : State) (f : GridSt → GridSt) (g : Field) (i j : Nat) : (s.modGrid f).rd g i j = s.rd g i j := State.rd_congr rfl rfl g i j
@[simp] theorem State.modLog_regs (s : State) (f : LogSt → LogSt) : (s.modLog f).regs = s.regs := rfl
@[simp] theorem State.modLog_bank (s : State) (f : LogSt → LogSt) : (s.modLog f).bank = s.bank := rfl
@[simp] theorem State.modLog_prev (s : State) (f : LogSt → LogSt) : (s.modLog f).prev = s.prev := rfl
@[simp] theorem State.modLog_nv (s : State) (f : LogSt → LogSt) : (s.modLog f).nv = s.nv := rfl
@[simp] theorem State.modLog_grid (s : State) (f : LogSt → LogSt) : (s.modLog f).grid = s.grid := rfl
@[simp] theorem State.modLog_log (s : State) (f : LogSt → LogSt) : (s.modLog f).log = f s.log := rfl
@[simp] theorem State.modLog_host (s : State) (f : LogSt → LogSt) : (s.modLog f).host = s.host := rfl
@[simp] theorem State.modLog_cust (s : State) (f : LogSt → LogSt) : (s.modLog f).cust = s.cust := rfl
@[simp] theorem State.modLog_afe (s : State) (f : LogSt → LogSt) : (s.modLog f).afe = s.afe := rfl
@[simp] theorem State.modLog_td (s : State) (f : LogSt → LogSt) : (s.modLog f).td = s.td := rfl
@[simp] theorem State.modLog_aux (s : State) (f : LogSt → LogSt) : (s.modLog f).aux = s.aux := rfl
@[simp] theorem State.modLog_pbus (s : State) (f : LogSt → LogSt) : (s.modLog f).pbus = s.pbus := rfl
@[simp] theorem State.modLog_eval (s : State) (f : LogSt → LogSt) : (s.modLog f).eval = s.eval := rfl
@[simp] theorem State.modLog_dio (s : State) (f : LogSt → LogSt) : (s.modLog f).dio = s.dio := rfl
@[simp] theorem State.modLog_bist (s : State) (f : LogSt → LogSt) : (s.modLog f).bist = s.bist := rfl
@[simp] theorem State.modLog_rec (s : State) (f : LogSt → LogSt) : (s.modLog f).rec' = s.rec' := rfl
@[simp] theorem State.modLog_pair (s : State) (f : LogSt → LogSt) : (s.modLog f).pair = s.pair := rfl
@[simp] theorem State.modLog_pwr (s : State) (f : LogSt → LogSt) : (s.modLog f).pwr = s.pwr := rfl
@[simp] theorem State.modLog_tap (s : State) (f : LogSt → LogSt) : (s.modLog f).tap = s.tap := rfl
@[simp] theorem State.modLog_pads (s : State) (f : LogSt → LogSt) : (s.modLog f).pads = s.pads := rfl
@[simp] theorem State.modLog_free (s : State) (f : LogSt → LogSt) : (s.modLog f).free = s.free := rfl
@[simp] theorem State.modLog_pending (s : State) (f : LogSt → LogSt) : (s.modLog f).pending = s.pending := rfl
@[simp] theorem State.modLog_rd (s : State) (f : LogSt → LogSt) (g : Field) (i j : Nat) : (s.modLog f).rd g i j = s.rd g i j := State.rd_congr rfl rfl g i j
@[simp] theorem State.modHost_regs (s : State) (f : HostSt → HostSt) : (s.modHost f).regs = s.regs := rfl
@[simp] theorem State.modHost_bank (s : State) (f : HostSt → HostSt) : (s.modHost f).bank = s.bank := rfl
@[simp] theorem State.modHost_prev (s : State) (f : HostSt → HostSt) : (s.modHost f).prev = s.prev := rfl
@[simp] theorem State.modHost_nv (s : State) (f : HostSt → HostSt) : (s.modHost f).nv = s.nv := rfl
@[simp] theorem State.modHost_grid (s : State) (f : HostSt → HostSt) : (s.modHost f).grid = s.grid := rfl
@[simp] theorem State.modHost_log (s : State) (f : HostSt → HostSt) : (s.modHost f).log = s.log := rfl
@[simp] theorem State.modHost_host (s : State) (f : HostSt → HostSt) : (s.modHost f).host = f s.host := rfl
@[simp] theorem State.modHost_cust (s : State) (f : HostSt → HostSt) : (s.modHost f).cust = s.cust := rfl
@[simp] theorem State.modHost_afe (s : State) (f : HostSt → HostSt) : (s.modHost f).afe = s.afe := rfl
@[simp] theorem State.modHost_td (s : State) (f : HostSt → HostSt) : (s.modHost f).td = s.td := rfl
@[simp] theorem State.modHost_aux (s : State) (f : HostSt → HostSt) : (s.modHost f).aux = s.aux := rfl
@[simp] theorem State.modHost_pbus (s : State) (f : HostSt → HostSt) : (s.modHost f).pbus = s.pbus := rfl
@[simp] theorem State.modHost_eval (s : State) (f : HostSt → HostSt) : (s.modHost f).eval = s.eval := rfl
@[simp] theorem State.modHost_dio (s : State) (f : HostSt → HostSt) : (s.modHost f).dio = s.dio := rfl
@[simp] theorem State.modHost_bist (s : State) (f : HostSt → HostSt) : (s.modHost f).bist = s.bist := rfl
@[simp] theorem State.modHost_rec (s : State) (f : HostSt → HostSt) : (s.modHost f).rec' = s.rec' := rfl
@[simp] theorem State.modHost_pair (s : State) (f : HostSt → HostSt) : (s.modHost f).pair = s.pair := rfl
@[simp] theorem State.modHost_pwr (s : State) (f : HostSt → HostSt) : (s.modHost f).pwr = s.pwr := rfl
@[simp] theorem State.modHost_tap (s : State) (f : HostSt → HostSt) : (s.modHost f).tap = s.tap := rfl
@[simp] theorem State.modHost_pads (s : State) (f : HostSt → HostSt) : (s.modHost f).pads = s.pads := rfl
@[simp] theorem State.modHost_free (s : State) (f : HostSt → HostSt) : (s.modHost f).free = s.free := rfl
@[simp] theorem State.modHost_pending (s : State) (f : HostSt → HostSt) : (s.modHost f).pending = s.pending := rfl
@[simp] theorem State.modHost_rd (s : State) (f : HostSt → HostSt) (g : Field) (i j : Nat) : (s.modHost f).rd g i j = s.rd g i j := State.rd_congr rfl rfl g i j
@[simp] theorem State.modCust_regs (s : State) (f : CustSt → CustSt) : (s.modCust f).regs = s.regs := rfl
@[simp] theorem State.modCust_bank (s : State) (f : CustSt → CustSt) : (s.modCust f).bank = s.bank := rfl
@[simp] theorem State.modCust_prev (s : State) (f : CustSt → CustSt) : (s.modCust f).prev = s.prev := rfl
@[simp] theorem State.modCust_nv (s : State) (f : CustSt → CustSt) : (s.modCust f).nv = s.nv := rfl
@[simp] theorem State.modCust_grid (s : State) (f : CustSt → CustSt) : (s.modCust f).grid = s.grid := rfl
@[simp] theorem State.modCust_log (s : State) (f : CustSt → CustSt) : (s.modCust f).log = s.log := rfl
@[simp] theorem State.modCust_host (s : State) (f : CustSt → CustSt) : (s.modCust f).host = s.host := rfl
@[simp] theorem State.modCust_cust (s : State) (f : CustSt → CustSt) : (s.modCust f).cust = f s.cust := rfl
@[simp] theorem State.modCust_afe (s : State) (f : CustSt → CustSt) : (s.modCust f).afe = s.afe := rfl
@[simp] theorem State.modCust_td (s : State) (f : CustSt → CustSt) : (s.modCust f).td = s.td := rfl
@[simp] theorem State.modCust_aux (s : State) (f : CustSt → CustSt) : (s.modCust f).aux = s.aux := rfl
@[simp] theorem State.modCust_pbus (s : State) (f : CustSt → CustSt) : (s.modCust f).pbus = s.pbus := rfl
@[simp] theorem State.modCust_eval (s : State) (f : CustSt → CustSt) : (s.modCust f).eval = s.eval := rfl
@[simp] theorem State.modCust_dio (s : State) (f : CustSt → CustSt) : (s.modCust f).dio = s.dio := rfl
@[simp] theorem State.modCust_bist (s : State) (f : CustSt → CustSt) : (s.modCust f).bist = s.bist := rfl
@[simp] theorem State.modCust_rec (s : State) (f : CustSt → CustSt) : (s.modCust f).rec' = s.rec' := rfl
@[simp] theorem State.modCust_pair (s : State) (f : CustSt → CustSt) : (s.modCust f).pair = s.pair := rfl
@[simp] theorem State.modCust_pwr (s : State) (f : CustSt → CustSt) : (s.modCust f).pwr = s.pwr := rfl
@[simp] theorem State.modCust_tap (s : State) (f : CustSt → CustSt) : (s.modCust f).tap = s.tap := rfl
@[simp] theorem State.modCust_pads (s : State) (f : CustSt → CustSt) : (s.modCust f).pads = s.pads := rfl
@[simp] theorem State.modCust_free (s : State) (f : CustSt → CustSt) : (s.modCust f).free = s.free := rfl
@[simp] theorem State.modCust_pending (s : State) (f : CustSt → CustSt) : (s.modCust f).pending = s.pending := rfl
@[simp] theorem State.modCust_rd (s : State) (f : CustSt → CustSt) (g : Field) (i j : Nat) : (s.modCust f).rd g i j = s.rd g i j := State.rd_congr rfl rfl g i j
@[simp] theorem State.modAfe_regs (s : State) (f : AfeSt → AfeSt) : (s.modAfe f).regs = s.regs := rfl
@[simp] theorem State.modAfe_bank (s : State) (f : AfeSt → AfeSt) : (s.modAfe f).bank = s.bank := rfl
@[simp] theorem State.modAfe_prev (s : State) (f : AfeSt → AfeSt) : (s.modAfe f).prev = s.prev := rfl
@[simp] theorem State.modAfe_nv (s : State) (f : AfeSt → AfeSt) : (s.modAfe f).nv = s.nv := rfl
@[simp] theorem State.modAfe_grid (s : State) (f : AfeSt → AfeSt) : (s.modAfe f).grid = s.grid := rfl
@[simp] theorem State.modAfe_log (s : State) (f : AfeSt → AfeSt) : (s.modAfe f).log = s.log := rfl
@[simp] theorem State.modAfe_host (s : State) (f : AfeSt → AfeSt) : (s.modAfe f).host = s.host := rfl
@[simp] theorem State.modAfe_cust (s : State) (f : AfeSt → AfeSt) : (s.modAfe f).cust = s.cust := rfl
@[simp] theorem State.modAfe_afe (s : State) (f : AfeSt → AfeSt) : (s.modAfe f).afe = f s.afe := rfl
@[simp] theorem State.modAfe_td (s : State) (f : AfeSt → AfeSt) : (s.modAfe f).td = s.td := rfl
@[simp] theorem State.modAfe_aux (s : State) (f : AfeSt → AfeSt) : (s.modAfe f).aux = s.aux := rfl
@[simp] theorem State.modAfe_pbus (s : State) (f : AfeSt → AfeSt) : (s.modAfe f).pbus = s.pbus := rfl
@[simp] theorem State.modAfe_eval (s : State) (f : AfeSt → AfeSt) : (s.modAfe f).eval = s.eval := rfl
@[simp] theorem State.modAfe_dio (s : State) (f : AfeSt → AfeSt) : (s.modAfe f).dio = s.dio := rfl
@[simp] theorem State.modAfe_bist (s : State) (f : AfeSt → AfeSt) : (s.modAfe f).bist = s.bist := rfl
@[simp] theorem State.modAfe_rec (s : State) (f : AfeSt → AfeSt) : (s.modAfe f).rec' = s.rec' := rfl
@[simp] theorem State.modAfe_pair (s : State) (f : AfeSt → AfeSt) : (s.modAfe f).pair = s.pair := rfl
@[simp] theorem State.modAfe_pwr (s : State) (f : AfeSt → AfeSt) : (s.modAfe f).pwr = s.pwr := rfl
@[simp] theorem State.modAfe_tap (s : State) (f : AfeSt → AfeSt) : (s.modAfe f).tap = s.tap := rfl
@[simp] theorem State.modAfe_pads (s : State) (f : AfeSt → AfeSt) : (s.modAfe f).pads = s.pads := rfl
@[simp] theorem State.modAfe_free (s : State) (f : AfeSt → AfeSt) : (s.modAfe f).free = s.free := rfl
@[simp] theorem State.modAfe_pending (s : State) (f : AfeSt → AfeSt) : (s.modAfe f).pending = s.pending := rfl
@[simp] theorem State.modAfe_rd (s : State) (f : AfeSt → AfeSt) (g : Field) (i j : Nat) : (s.modAfe f).rd g i j = s.rd g i j := State.rd_congr rfl rfl g i j
@[simp] theorem State.modAux_regs (s : State) (f : AuxSt → AuxSt) : (s.modAux f).regs = s.regs := rfl
@[simp] theorem State.modAux_bank (s : State) (f : AuxSt → AuxSt) : (s.modAux f).bank = s.bank := rfl
@[simp] theorem State.modAux_prev (s : State) (f : AuxSt → AuxSt) : (s.modAux f).prev = s.prev := rfl
@[simp] theorem State.modAux_nv (s : State) (f : AuxSt → AuxSt) : (s.modAux f).nv = s.nv := rfl
@[simp] theorem State.modAux_grid (s : State) (f : AuxSt → AuxSt) : (s.modAux f).grid = s.grid := rfl
@[simp] theorem State.modAux_log (s : State) (f : AuxSt → AuxSt) : (s.modAux f).log = s.log := rfl
@[simp] theorem State.modAux_host (s : State) (f : AuxSt → AuxSt) : (s.modAux f).host = s.host := rfl
@[simp] theorem State.modAux_cust (s : State) (f : AuxSt → AuxSt) : (s.modAux f).cust = s.cust := rfl
@[simp] theorem State.modAux_afe (s : State) (f : AuxSt → AuxSt) : (s.modAux f).afe = s.afe := rfl
@[simp] theorem State.modAux_td (s : State) (f : AuxSt → AuxSt) : (s.modAux f).td = s.td := rfl
@[simp] theorem State.modAux_aux (s : State) (f : AuxSt → AuxSt) : (s.modAux f).aux = f s.aux := rfl
@[simp] theorem State.modAux_pbus (s : State) (f : AuxSt → AuxSt) : (s.modAux f).pbus = s.pbus := rfl
@[simp] theorem State.modAux_eval (s : State) (f : AuxSt → AuxSt) : (s.modAux f).eval = s.eval := rfl
@[simp] theorem State.modAux_dio (s : State) (f : AuxSt → AuxSt) : (s.modAux f).dio = s.dio := rfl
@[simp] theorem State.modAux_bist (s : State) (f : AuxSt → AuxSt) : (s.modAux f).bist = s.bist := rfl
@[simp] theorem State.modAux_rec (s : State) (f : AuxSt → AuxSt) : (s.modAux f).rec' = s.rec' := rfl
@[simp] theorem State.modAux_pair (s : State) (f : AuxSt → AuxSt) : (s.modAux f).pair = s.pair := rfl
@[simp] theorem State.modAux_pwr (s : State) (f : AuxSt → AuxSt) : (s.modAux f).pwr = s.pwr := rfl
@[simp] theorem State.modAux_tap (s : State) (f : AuxSt → AuxSt) : (s.modAux f).tap = s.tap := rfl
@[simp] theorem State.modAux_pads (s : State) (f : AuxSt → AuxSt) : (s.modAux f).pads = s.pads := rfl
@[simp] theorem State.modAux_free (s : State) (f : AuxSt → AuxSt) : (s.modAux f).free = s.free := rfl
@[simp] theorem State.modAux_pending (s : State) (f : AuxSt → AuxSt) : (s.modAux f).pending = s.pending := rfl
@[simp] theorem State.modAux_rd (s : State) (f : AuxSt → AuxSt) (g : Field) (i j : Nat) : (s.modAux f).rd g i j = s.rd g i j := State.rd_congr rfl rfl g i j
@[simp] theorem State.modPbus_regs (s : State) (f : PbusSt → PbusSt) : (s.modPbus f).regs = s.regs := rfl
@[simp] theorem State.modPbus_bank (s : State) (f : PbusSt → PbusSt) : (s.modPbus f).bank = s.bank := rfl
@[simp] theorem State.modPbus_prev (s : State) (f : PbusSt → PbusSt) : (s.modPbus f).prev = s.prev := rfl
@[simp] theorem State.modPbus_nv (s : State) (f : PbusSt → PbusSt) : (s.modPbus f).nv = s.nv := rfl
@[simp] theorem State.modPbus_grid (s : State) (f : PbusSt → PbusSt) : (s.modPbus f).grid = s.grid := rfl
@[simp] theorem State.modPbus_log (s : State) (f : PbusSt → PbusSt) : (s.modPbus f).log = s.log := rfl
@[simp] theorem State.modPbus_host (s : State) (f : PbusSt → PbusSt) : (s.modPbus f).host = s.host := rfl
@[simp] theorem State.modPbus_cust (s : State) (f : PbusSt → PbusSt) : (s.modPbus f).cust = s.cust := rfl
@[simp] theorem State.modPbus_afe (s : State) (f : PbusSt → PbusSt) : (s.modPbus f).afe = s.afe := rfl
@[simp] theorem State.modPbus_td (s : State) (f : PbusSt → PbusSt) : (s.modPbus f).td = s.td := rfl
@[simp] theorem State.modPbus_aux (s : State) (f : PbusSt → PbusSt) : (s.modPbus f).aux = s.aux := rfl
@[simp] theorem State.modPbus_pbus (s : State) (f : PbusSt → PbusSt) : (s.modPbus f).pbus = f s.pbus := rfl
@[simp] theorem State.modPbus_eval (s : State) (f : PbusSt → PbusSt) : (s.modPbus f).eval = s.eval := rfl
@[simp] theorem State.modPbus_dio (s : State) (f : PbusSt → PbusSt) : (s.modPbus f).dio = s.dio := rfl
@[simp] theorem State.modPbus_bist (s : State) (f : PbusSt → PbusSt) : (s.modPbus f).bist = s.bist := rfl
@[simp] theorem State.modPbus_rec (s : State) (f : PbusSt → PbusSt) : (s.modPbus f).rec' = s.rec' := rfl
@[simp] theorem State.modPbus_pair (s : State) (f : PbusSt → PbusSt) : (s.modPbus f).pair = s.pair := rfl
@[simp] theorem State.modPbus_pwr (s : State) (f : PbusSt → PbusSt) : (s.modPbus f).pwr = s.pwr := rfl
@[simp] theorem State.modPbus_tap (s : State) (f : PbusSt → PbusSt) : (s.modPbus f).tap = s.tap := rfl
@[simp] theorem State.modPbus_pads (s : State) (f : PbusSt → PbusSt) : (s.modPbus f).pads = s.pads := rfl
@[simp] theorem State.modPbus_free (s : State) (f : PbusSt → PbusSt) : (s.modPbus f).free = s.free := rfl
@[simp] theorem State.modPbus_pending (s : State) (f : PbusSt → PbusSt) : (s.modPbus f).pending = s.pending := rfl
@[simp] theorem State.modPbus_rd (s : State) (f : PbusSt → PbusSt) (g : Field) (i j : Nat) : (s.modPbus f).rd g i j = s.rd g i j := State.rd_congr rfl rfl g i j
@[simp] theorem State.modEval_regs (s : State) (f : EvalSt → EvalSt) : (s.modEval f).regs = s.regs := rfl
@[simp] theorem State.modEval_bank (s : State) (f : EvalSt → EvalSt) : (s.modEval f).bank = s.bank := rfl
@[simp] theorem State.modEval_prev (s : State) (f : EvalSt → EvalSt) : (s.modEval f).prev = s.prev := rfl
@[simp] theorem State.modEval_nv (s : State) (f : EvalSt → EvalSt) : (s.modEval f).nv = s.nv := rfl
@[simp] theorem State.modEval_grid (s : State) (f : EvalSt → EvalSt) : (s.modEval f).grid = s.grid := rfl
@[simp] theorem State.modEval_log (s : State) (f : EvalSt → EvalSt) : (s.modEval f).log = s.log := rfl
@[simp] theorem State.modEval_host (s : State) (f : EvalSt → EvalSt) : (s.modEval f).host = s.host := rfl
@[simp] theorem State.modEval_cust (s : State) (f : EvalSt → EvalSt) : (s.modEval f).cust = s.cust := rfl
@[simp] theorem State.modEval_afe (s : State) (f : EvalSt → EvalSt) : (s.modEval f).afe = s.afe := rfl
@[simp] theorem State.modEval_td (s : State) (f : EvalSt → EvalSt) : (s.modEval f).td = s.td := rfl
@[simp] theorem State.modEval_aux (s : State) (f : EvalSt → EvalSt) : (s.modEval f).aux = s.aux := rfl
@[simp] theorem State.modEval_pbus (s : State) (f : EvalSt → EvalSt) : (s.modEval f).pbus = s.pbus := rfl
@[simp] theorem State.modEval_eval (s : State) (f : EvalSt → EvalSt) : (s.modEval f).eval = f s.eval := rfl
@[simp] theorem State.modEval_dio (s : State) (f : EvalSt → EvalSt) : (s.modEval f).dio = s.dio := rfl
@[simp] theorem State.modEval_bist (s : State) (f : EvalSt → EvalSt) : (s.modEval f).bist = s.bist := rfl
@[simp] theorem State.modEval_rec (s : State) (f : EvalSt → EvalSt) : (s.modEval f).rec' = s.rec' := rfl
@[simp] theorem State.modEval_pair (s : State) (f : EvalSt → EvalSt) : (s.modEval f).pair = s.pair := rfl
@[simp] theorem State.modEval_pwr (s : State) (f : EvalSt → EvalSt) : (s.modEval f).pwr = s.pwr := rfl
@[simp] theorem State.modEval_tap (s : State) (f : EvalSt → EvalSt) : (s.modEval f).tap = s.tap := rfl
@[simp] theorem State.modEval_pads (s : State) (f : EvalSt → EvalSt) : (s.modEval f).pads = s.pads := rfl
@[simp] theorem State.modEval_free (s : State) (f : EvalSt → EvalSt) : (s.modEval f).free = s.free := rfl
@[simp] theorem State.modEval_pending (s : State) (f : EvalSt → EvalSt) : (s.modEval f).pending = s.pending := rfl
@[simp] theorem State.modEval_rd (s : State) (f : EvalSt → EvalSt) (g : Field) (i j : Nat) : (s.modEval f).rd g i j = s.rd g i j := State.rd_congr rfl rfl g i j
@[simp] theorem State.modDio_regs (s : State) (f : DioSt → DioSt) : (s.modDio f).regs = s.regs := rfl
@[simp] theorem State.modDio_bank (s : State) (f : DioSt → DioSt) : (s.modDio f).bank = s.bank := rfl
@[simp] theorem State.modDio_prev (s : State) (f : DioSt → DioSt) : (s.modDio f).prev = s.prev := rfl
@[simp] theorem State.modDio_nv (s : State) (f : DioSt → DioSt) : (s.modDio f).nv = s.nv := rfl
@[simp] theorem State.modDio_grid (s : State) (f : DioSt → DioSt) : (s.modDio f).grid = s.grid := rfl
@[simp] theorem State.modDio_log (s : State) (f : DioSt → DioSt) : (s.modDio f).log = s.log := rfl
@[simp] theorem State.modDio_host (s : State) (f : DioSt → DioSt) : (s.modDio f).host = s.host := rfl
@[simp] theorem State.modDio_cust (s : State) (f : DioSt → DioSt) : (s.modDio f).cust = s.cust := rfl
@[simp] theorem State.modDio_afe (s : State) (f : DioSt → DioSt) : (s.modDio f).afe = s.afe := rfl
@[simp] theorem State.modDio_td (s : State) (f : DioSt → DioSt) : (s.modDio f).td = s.td := rfl
@[simp] theorem State.modDio_aux (s : State) (f : DioSt → DioSt) : (s.modDio f).aux = s.aux := rfl
@[simp] theorem State.modDio_pbus (s : State) (f : DioSt → DioSt) : (s.modDio f).pbus = s.pbus := rfl
@[simp] theorem State.modDio_eval (s : State) (f : DioSt → DioSt) : (s.modDio f).eval = s.eval := rfl
@[simp] theorem State.modDio_dio (s : State) (f : DioSt → DioSt) : (s.modDio f).dio = f s.dio := rfl
@[simp] theorem State.modDio_bist (s : State) (f : DioSt → DioSt) : (s.modDio f).bist = s.bist := rfl
@[simp] theorem State.modDio_rec (s : State) (f : DioSt → DioSt) : (s.modDio f).rec' = s.rec' := rfl
@[simp] theorem State.modDio_pair (s : State) (f : DioSt → DioSt) : (s.modDio f).pair = s.pair := rfl
@[simp] theorem State.modDio_pwr (s : State) (f : DioSt → DioSt) : (s.modDio f).pwr = s.pwr := rfl
@[simp] theorem State.modDio_tap (s : State) (f : DioSt → DioSt) : (s.modDio f).tap = s.tap := rfl
@[simp] theorem State.modDio_pads (s : State) (f : DioSt → DioSt) : (s.modDio f).pads = s.pads := rfl
@[simp] theorem State.modDio_free (s : State) (f : DioSt → DioSt) : (s.modDio f).free = s.free := rfl
@[simp] theorem State.modDio_pending (s : State) (f : DioSt → DioSt) : (s.modDio f).pending = s.pending := rfl
@[simp] theorem State.modDio_rd (s : State) (f : DioSt → DioSt) (g : Field) (i j : Nat) : (s.modDio f).rd g i j = s.rd g i j := State.rd_congr rfl rfl g i j
@[simp] theorem State.modBist_regs (s : State) (f : BistSt → BistSt) : (s.modBist f).regs = s.regs := rfl
@[simp] theorem State.modBist_bank (s : State) (f : BistSt → BistSt) : (s.modBist f).bank = s.bank := rfl
@[simp] theorem State.modBist_prev (s : State) (f : BistSt → BistSt) : (s.modBist f).prev = s.prev := rfl
@[simp] theorem State.modBist_nv (s : State) (f : BistSt → BistSt) : (s.modBist f).nv = s.nv := rfl
@[simp] theorem State.modBist_grid (s : State) (f : BistSt → BistSt) : (s.modBist f).grid = s.grid := rfl
@[simp] theorem State.modBist_log (s : State) (f : BistSt → BistSt) : (s.modBist f).log = s.log := rfl
@[simp] theorem State.modBist_host (s : State) (f : BistSt → BistSt) : (s.modBist f).host = s.host := rfl
@[simp] theorem State.modBist_cust (s : State) (f : BistSt → BistSt) : (s.modBist f).cust = s.cust := rfl
@[simp] theorem State.modBist_afe (s : State) (f : BistSt → BistSt) : (s.modBist f).afe = s.afe := rfl
@[simp] theorem State.modBist_td (s : State) (f : BistSt → BistSt) : (s.modBist f).td = s.td := rfl
@[simp] theorem State.modBist_aux (s : State) (f : BistSt → BistSt) : (s.modBist f).aux = s.aux := rfl
@[simp] theorem State.modBist_pbus (s : State) (f : BistSt → BistSt) : (s.modBist f).pbus = s.pbus := rfl
@[simp] theorem State.modBist_eval (s : State) (f : BistSt → BistSt) : (s.modBist f).eval = s.eval := rfl
@[simp] theorem State.modBist_dio (s : State) (f : BistSt → BistSt) : (s.modBist f).dio = s.dio := rfl
@[simp] theorem State.modBist_bist (s : State) (f : BistSt → BistSt) : (s.modBist f).bist = f s.bist := rfl
@[simp] theorem State.modBist_rec (s : State) (f : BistSt → BistSt) : (s.modBist f).rec' = s.rec' := rfl
@[simp] theorem State.modBist_pair (s : State) (f : BistSt → BistSt) : (s.modBist f).pair = s.pair := rfl
@[simp] theorem State.modBist_pwr (s : State) (f : BistSt → BistSt) : (s.modBist f).pwr = s.pwr := rfl
@[simp] theorem State.modBist_tap (s : State) (f : BistSt → BistSt) : (s.modBist f).tap = s.tap := rfl
@[simp] theorem State.modBist_pads (s : State) (f : BistSt → BistSt) : (s.modBist f).pads = s.pads := rfl
@[simp] theorem State.modBist_free (s : State) (f : BistSt → BistSt) : (s.modBist f).free = s.free := rfl
@[simp] theorem State.modBist_pending (s : State) (f : BistSt → BistSt) : (s.modBist f).pending = s.pending := rfl
@[simp] theorem State.modBist_rd (s : State) (f : BistSt → BistSt) (g : Field) (i j : Nat) : (s.modBist f).rd g i j = s.rd g i j := State.rd_congr rfl rfl g i j
@[simp] theorem State.modPair_regs (s : State) (f : PairSt → PairSt) : (s.modPair f).regs = s.regs := rfl
@[simp] theorem State.modPair_bank (s : State) (f : PairSt → PairSt) : (s.modPair f).bank = s.bank := rfl
@[simp] theorem State.modPair_prev (s : State) (f : PairSt → PairSt) : (s.modPair f).prev = s.prev := rfl
@[simp] theorem State.modPair_nv (s : State) (f : PairSt → PairSt) : (s.modPair f).nv = s.nv := rfl
@[simp] theorem State.modPair_grid (s : State) (f : PairSt → PairSt) : (s.modPair f).grid = s.grid := rfl
@[simp] theorem State.modPair_log (s : State) (f : PairSt → PairSt) : (s.modPair f).log = s.log := rfl
@[simp] theorem State.modPair_host (s : State) (f : PairSt → PairSt) : (s.modPair f).host = s.host := rfl
@[simp] theorem State.modPair_cust (s : State) (f : PairSt → PairSt) : (s.modPair f).cust = s.cust := rfl
@[simp] theorem State.modPair_afe (s : State) (f : PairSt → PairSt) : (s.modPair f).afe = s.afe := rfl
@[simp] theorem State.modPair_td (s : State) (f : PairSt → PairSt) : (s.modPair f).td = s.td := rfl
@[simp] theorem State.modPair_aux (s : State) (f : PairSt → PairSt) : (s.modPair f).aux = s.aux := rfl
@[simp] theorem State.modPair_pbus (s : State) (f : PairSt → PairSt) : (s.modPair f).pbus = s.pbus := rfl
@[simp] theorem State.modPair_eval (s : State) (f : PairSt → PairSt) : (s.modPair f).eval = s.eval := rfl
@[simp] theorem State.modPair_dio (s : State) (f : PairSt → PairSt) : (s.modPair f).dio = s.dio := rfl
@[simp] theorem State.modPair_bist (s : State) (f : PairSt → PairSt) : (s.modPair f).bist = s.bist := rfl
@[simp] theorem State.modPair_rec (s : State) (f : PairSt → PairSt) : (s.modPair f).rec' = s.rec' := rfl
@[simp] theorem State.modPair_pair (s : State) (f : PairSt → PairSt) : (s.modPair f).pair = f s.pair := rfl
@[simp] theorem State.modPair_pwr (s : State) (f : PairSt → PairSt) : (s.modPair f).pwr = s.pwr := rfl
@[simp] theorem State.modPair_tap (s : State) (f : PairSt → PairSt) : (s.modPair f).tap = s.tap := rfl
@[simp] theorem State.modPair_pads (s : State) (f : PairSt → PairSt) : (s.modPair f).pads = s.pads := rfl
@[simp] theorem State.modPair_free (s : State) (f : PairSt → PairSt) : (s.modPair f).free = s.free := rfl
@[simp] theorem State.modPair_pending (s : State) (f : PairSt → PairSt) : (s.modPair f).pending = s.pending := rfl
@[simp] theorem State.modPair_rd (s : State) (f : PairSt → PairSt) (g : Field) (i j : Nat) : (s.modPair f).rd g i j = s.rd g i j := State.rd_congr rfl rfl g i j
@[simp] theorem State.modRec_regs (s : State) (f : RecSt → RecSt) : (s.modRec f).regs = s.regs := rfl
@[simp] theorem State.modRec_bank (s : State) (f : RecSt → RecSt) : (s.modRec f).bank = s.bank := rfl
@[simp] theorem State.modRec_prev (s : State) (f : RecSt → RecSt) : (s.modRec f).prev = s.prev := rfl
@[simp] theorem State.modRec_nv (s : State) (f : RecSt → RecSt) : (s.modRec f).nv = s.nv := rfl
@[simp] theorem State.modRec_grid (s : State) (f : RecSt → RecSt) : (s.modRec f).grid = s.grid := rfl
@[simp] theorem State.modRec_log (s : State) (f : RecSt → RecSt) : (s.modRec f).log = s.log := rfl
@[simp] theorem State.modRec_host (s : State) (f : RecSt → RecSt) : (s.modRec f).host = s.host := rfl
@[simp] theorem State.modRec_cust (s : State) (f : RecSt → RecSt) : (s.modRec f).cust = s.cust := rfl
@[simp] theorem State.modRec_afe (s : State) (f : RecSt → RecSt) : (s.modRec f).afe = s.afe := rfl
@[simp] theorem State.modRec_td (s : State) (f : RecSt → RecSt) : (s.modRec f).td = s.td := rfl
@[simp] theorem State.modRec_aux (s : State) (f : RecSt → RecSt) : (s.modRec f).aux = s.aux := rfl
@[simp] theorem State.modRec_pbus (s : State) (f : RecSt → RecSt) : (s.modRec f).pbus = s.pbus := rfl
@[simp] theorem State.modRec_eval (s : State) (f : RecSt → RecSt) : (s.modRec f).eval = s.eval := rfl
@[simp] theorem State.modRec_dio (s : State) (f : RecSt → RecSt) : (s.modRec f).dio = s.dio := rfl
@[simp] theorem State.modRec_bist (s : State) (f : RecSt → RecSt) : (s.modRec f).bist = s.bist := rfl
@[simp] theorem State.modRec_rec (s : State) (f : RecSt → RecSt) : (s.modRec f).rec' = f s.rec' := rfl
@[simp] theorem State.modRec_pair (s : State) (f : RecSt → RecSt) : (s.modRec f).pair = s.pair := rfl
@[simp] theorem State.modRec_pwr (s : State) (f : RecSt → RecSt) : (s.modRec f).pwr = s.pwr := rfl
@[simp] theorem State.modRec_tap (s : State) (f : RecSt → RecSt) : (s.modRec f).tap = s.tap := rfl
@[simp] theorem State.modRec_pads (s : State) (f : RecSt → RecSt) : (s.modRec f).pads = s.pads := rfl
@[simp] theorem State.modRec_free (s : State) (f : RecSt → RecSt) : (s.modRec f).free = s.free := rfl
@[simp] theorem State.modRec_pending (s : State) (f : RecSt → RecSt) : (s.modRec f).pending = s.pending := rfl
@[simp] theorem State.modRec_rd (s : State) (f : RecSt → RecSt) (g : Field) (i j : Nat) : (s.modRec f).rd g i j = s.rd g i j := State.rd_congr rfl rfl g i j
@[simp] theorem State.modPwr_regs (s : State) (f : PwrSt → PwrSt) : (s.modPwr f).regs = s.regs := rfl
@[simp] theorem State.modPwr_bank (s : State) (f : PwrSt → PwrSt) : (s.modPwr f).bank = s.bank := rfl
@[simp] theorem State.modPwr_prev (s : State) (f : PwrSt → PwrSt) : (s.modPwr f).prev = s.prev := rfl
@[simp] theorem State.modPwr_nv (s : State) (f : PwrSt → PwrSt) : (s.modPwr f).nv = s.nv := rfl
@[simp] theorem State.modPwr_grid (s : State) (f : PwrSt → PwrSt) : (s.modPwr f).grid = s.grid := rfl
@[simp] theorem State.modPwr_log (s : State) (f : PwrSt → PwrSt) : (s.modPwr f).log = s.log := rfl
@[simp] theorem State.modPwr_host (s : State) (f : PwrSt → PwrSt) : (s.modPwr f).host = s.host := rfl
@[simp] theorem State.modPwr_cust (s : State) (f : PwrSt → PwrSt) : (s.modPwr f).cust = s.cust := rfl
@[simp] theorem State.modPwr_afe (s : State) (f : PwrSt → PwrSt) : (s.modPwr f).afe = s.afe := rfl
@[simp] theorem State.modPwr_td (s : State) (f : PwrSt → PwrSt) : (s.modPwr f).td = s.td := rfl
@[simp] theorem State.modPwr_aux (s : State) (f : PwrSt → PwrSt) : (s.modPwr f).aux = s.aux := rfl
@[simp] theorem State.modPwr_pbus (s : State) (f : PwrSt → PwrSt) : (s.modPwr f).pbus = s.pbus := rfl
@[simp] theorem State.modPwr_eval (s : State) (f : PwrSt → PwrSt) : (s.modPwr f).eval = s.eval := rfl
@[simp] theorem State.modPwr_dio (s : State) (f : PwrSt → PwrSt) : (s.modPwr f).dio = s.dio := rfl
@[simp] theorem State.modPwr_bist (s : State) (f : PwrSt → PwrSt) : (s.modPwr f).bist = s.bist := rfl
@[simp] theorem State.modPwr_rec (s : State) (f : PwrSt → PwrSt) : (s.modPwr f).rec' = s.rec' := rfl
@[simp] theorem State.modPwr_pair (s : State) (f : PwrSt → PwrSt) : (s.modPwr f).pair = s.pair := rfl
@[simp] theorem State.modPwr_pwr (s : State) (f : PwrSt → PwrSt) : (s.modPwr f).pwr = f s.pwr := rfl
@[simp] theorem State.modPwr_pads (s : State) (f : PwrSt → PwrSt) : (s.modPwr f).pads = s.pads := rfl
@[simp] theorem State.modPwr_free (s : State) (f : PwrSt → PwrSt) : (s.modPwr f).free = s.free := rfl
@[simp] theorem State.modPwr_pending (s : State) (f : PwrSt → PwrSt) : (s.modPwr f).pending = s.pending := rfl
@[simp] theorem State.modPwr_rd (s : State) (f : PwrSt → PwrSt) (g : Field) (i j : Nat) : (s.modPwr f).rd g i j = s.rd g i j := State.rd_congr rfl rfl g i j
@[simp] theorem State.modNv_regs (s : State) (f : Nv → Nv) : (s.modNv f).regs = s.regs := rfl
@[simp] theorem State.modNv_bank (s : State) (f : Nv → Nv) : (s.modNv f).bank = s.bank := rfl
@[simp] theorem State.modNv_prev (s : State) (f : Nv → Nv) : (s.modNv f).prev = s.prev := rfl
@[simp] theorem State.modNv_nv (s : State) (f : Nv → Nv) : (s.modNv f).nv = f s.nv := rfl
@[simp] theorem State.modNv_grid (s : State) (f : Nv → Nv) : (s.modNv f).grid = s.grid := rfl
@[simp] theorem State.modNv_log (s : State) (f : Nv → Nv) : (s.modNv f).log = s.log := rfl
@[simp] theorem State.modNv_host (s : State) (f : Nv → Nv) : (s.modNv f).host = s.host := rfl
@[simp] theorem State.modNv_cust (s : State) (f : Nv → Nv) : (s.modNv f).cust = s.cust := rfl
@[simp] theorem State.modNv_afe (s : State) (f : Nv → Nv) : (s.modNv f).afe = s.afe := rfl
@[simp] theorem State.modNv_td (s : State) (f : Nv → Nv) : (s.modNv f).td = s.td := rfl
@[simp] theorem State.modNv_aux (s : State) (f : Nv → Nv) : (s.modNv f).aux = s.aux := rfl
@[simp] theorem State.modNv_pbus (s : State) (f : Nv → Nv) : (s.modNv f).pbus = s.pbus := rfl
@[simp] theorem State.modNv_eval (s : State) (f : Nv → Nv) : (s.modNv f).eval = s.eval := rfl
@[simp] theorem State.modNv_dio (s : State) (f : Nv → Nv) : (s.modNv f).dio = s.dio := rfl
@[simp] theorem State.modNv_bist (s : State) (f : Nv → Nv) : (s.modNv f).bist = s.bist := rfl
@[simp] theorem State.modNv_rec (s : State) (f : Nv → Nv) : (s.modNv f).rec' = s.rec' := rfl
@[simp] theorem State.modNv_pair (s : State) (f : Nv → Nv) : (s.modNv f).pair = s.pair := rfl
@[simp] theorem State.modNv_pwr (s : State) (f : Nv → Nv) : (s.modNv f).pwr = s.pwr := rfl
@[simp] theorem State.modNv_tap (s : State) (f : Nv → Nv) : (s.modNv f).tap = s.tap := rfl
@[simp] theorem State.modNv_pads (s : State) (f : Nv → Nv) : (s.modNv f).pads = s.pads := rfl
@[simp] theorem State.modNv_free (s : State) (f : Nv → Nv) : (s.modNv f).free = s.free := rfl
@[simp] theorem State.modNv_pending (s : State) (f : Nv → Nv) : (s.modNv f).pending = s.pending := rfl
@[simp] theorem State.modNv_rd (s : State) (f : Nv → Nv) (g : Field) (i j : Nat) : (s.modNv f).rd g i j = s.rd g i j := State.rd_congr rfl rfl g i j

/-! ### Time -/

theorem State.atTime_of_le {s : State} {t : Nat} (h : t ≤ s.grid.now) : s.atTime t = s := by
  simp [State.atTime, Nat.not_lt.mpr h]

@[simp] theorem State.atTime_regs (s : State) (t : Nat) : (s.atTime t).regs = s.regs := by unfold State.atTime; split <;> rfl
@[simp] theorem State.atTime_bank (s : State) (t : Nat) : (s.atTime t).bank = s.bank := by unfold State.atTime; split <;> rfl
@[simp] theorem State.atTime_prev (s : State) (t : Nat) : (s.atTime t).prev = s.prev := by unfold State.atTime; split <;> rfl
@[simp] theorem State.atTime_nv (s : State) (t : Nat) : (s.atTime t).nv = s.nv := by unfold State.atTime; split <;> rfl
@[simp] theorem State.atTime_log (s : State) (t : Nat) : (s.atTime t).log = s.log := by unfold State.atTime; split <;> rfl
@[simp] theorem State.atTime_host (s : State) (t : Nat) : (s.atTime t).host = s.host := by unfold State.atTime; split <;> rfl
@[simp] theorem State.atTime_cust (s : State) (t : Nat) : (s.atTime t).cust = s.cust := by unfold State.atTime; split <;> rfl
@[simp] theorem State.atTime_afe (s : State) (t : Nat) : (s.atTime t).afe = s.afe := by unfold State.atTime; split <;> rfl
@[simp] theorem State.atTime_td (s : State) (t : Nat) : (s.atTime t).td = s.td := by unfold State.atTime; split <;> rfl
@[simp] theorem State.atTime_aux (s : State) (t : Nat) : (s.atTime t).aux = s.aux := by unfold State.atTime; split <;> rfl
@[simp] theorem State.atTime_pbus (s : State) (t : Nat) : (s.atTime t).pbus = s.pbus := by unfold State.atTime; split <;> rfl
@[simp] theorem State.atTime_eval (s : State) (t : Nat) : (s.atTime t).eval = s.eval := by unfold State.atTime; split <;> rfl
@[simp] theorem State.atTime_dio (s : State) (t : Nat) : (s.atTime t).dio = s.dio := by unfold State.atTime; split <;> rfl
@[simp] theorem State.atTime_bist (s : State) (t : Nat) : (s.atTime t).bist = s.bist := by unfold State.atTime; split <;> rfl
@[simp] theorem State.atTime_rec (s : State) (t : Nat) : (s.atTime t).rec' = s.rec' := by unfold State.atTime; split <;> rfl
@[simp] theorem State.atTime_pair (s : State) (t : Nat) : (s.atTime t).pair = s.pair := by unfold State.atTime; split <;> rfl
@[simp] theorem State.atTime_pwr (s : State) (t : Nat) : (s.atTime t).pwr = s.pwr := by unfold State.atTime; split <;> rfl
@[simp] theorem State.atTime_tap (s : State) (t : Nat) : (s.atTime t).tap = s.tap := by unfold State.atTime; split <;> rfl
@[simp] theorem State.atTime_pads (s : State) (t : Nat) : (s.atTime t).pads = s.pads := by unfold State.atTime; split <;> rfl
@[simp] theorem State.atTime_free (s : State) (t : Nat) : (s.atTime t).free = s.free := by unfold State.atTime; split <;> rfl
@[simp] theorem State.atTime_pending (s : State) (t : Nat) : (s.atTime t).pending = s.pending := by unfold State.atTime; split <;> rfl
@[simp] theorem State.atTime_rd (s : State) (t : Nat) (g : Field) (i j : Nat) : (s.atTime t).rd g i j = s.rd g i j :=
  State.rd_congr (by simp) (by simp) g i j

theorem GridSt.bounded_now (g : GridSt) : g.bounded.now = g.now := by unfold GridSt.bounded; split <;> rfl

theorem GridSt.deltaDue_now (g : GridSt) : g.deltaDue.now = g.now := by
  unfold GridSt.deltaDue; split
  · split <;> rfl
  · rfl

/-- Device time after a command's instant is the later of the two (R8). -/
@[simp] theorem State.atTime_now (s : State) (t : Nat) : (s.atTime t).grid.now = max s.grid.now t := by
  unfold State.atTime; split
  · rw [GridSt.bounded_now, GridSt.deltaDue_now]; simp only; omega
  · omega

@[simp] theorem State.atTime_up (s : State) (t : Nat) : (s.atTime t).up = s.up := by simp [State.up]
@[simp] theorem State.wr_up (s : State) (f : Field) (v i j : Nat) : (s.wr f v i j).up = s.up := rfl

/-! ### What a command leaves -/

@[simp] theorem State.left_bank (s t : State) : (s.left t).bank = t.bank := rfl
@[simp] theorem State.left_prev (s t : State) : (s.left t).prev = t.prev := rfl
@[simp] theorem State.left_nv (s t : State) : (s.left t).nv = t.nv := rfl
@[simp] theorem State.left_grid (s t : State) : (s.left t).grid = t.grid := rfl
@[simp] theorem State.left_log (s t : State) : (s.left t).log = t.log := rfl
@[simp] theorem State.left_host (s t : State) : (s.left t).host = t.host := rfl
@[simp] theorem State.left_cust (s t : State) : (s.left t).cust = t.cust := rfl
@[simp] theorem State.left_afe (s t : State) : (s.left t).afe = t.afe := rfl
@[simp] theorem State.left_td (s t : State) : (s.left t).td = t.td := rfl
@[simp] theorem State.left_aux (s t : State) : (s.left t).aux = t.aux := rfl
@[simp] theorem State.left_pbus (s t : State) : (s.left t).pbus = t.pbus := rfl
@[simp] theorem State.left_eval (s t : State) : (s.left t).eval = t.eval := rfl
@[simp] theorem State.left_dio (s t : State) : (s.left t).dio = t.dio := rfl
@[simp] theorem State.left_bist (s t : State) : (s.left t).bist = t.bist := rfl
@[simp] theorem State.left_rec (s t : State) : (s.left t).rec' = t.rec' := rfl
@[simp] theorem State.left_pair (s t : State) : (s.left t).pair = t.pair := rfl
@[simp] theorem State.left_pwr (s t : State) : (s.left t).pwr = t.pwr := rfl
@[simp] theorem State.left_tap (s t : State) : (s.left t).tap = t.tap := rfl
@[simp] theorem State.left_free (s t : State) : (s.left t).free = t.free := rfl
@[simp] theorem State.left_pending (s t : State) : (s.left t).pending = s.pending := rfl
@[simp] theorem State.live_of_up {s : State} (h : s.up = true) (f : State → State) : s.live f = f s := by simp [State.live, h]
@[simp] theorem State.live_of_down {s : State} (h : s.up = false) (f : State → State) : s.live f = s := by simp [State.live, h]

/-- Bringing GRP_PWR up to date changes no other register (R104). -/
theorem State.grpShown_rd (s : State) (f : Field) (i j : Nat) (h : f.key i j ≠ AFE_STATUS.GRP_PWR.key 0 0) :
    s.grpShown.rd f i j = s.rd f i j := by
  have hr : s.grpShown.regs = s.grpRegs := rfl
  unfold State.grpRegs at hr
  split at hr
  · exact State.rd_congr hr rfl f i j
  · exact (State.rd_congr hr rfl f i j).trans (State.rd_wr_other _ _ _ _ _ _ _ _ h)

/-- A register other than those that follow every command reads after a command as its effect left it. -/
theorem State.left_rd (s t : State) (f : Field) (i j : Nat) (h1 : f.key i j ≠ DIO_ALIVE.STATE.key 0 0)
    (h2 : f.key i j ≠ DIO_ALIVE.CAUSE.key 0 0) (h3 : f.key i j ≠ AFE_STATUS.GRP_PWR.key 0 0) : (s.left t).rd f i j = t.rd f i j := by
  have : (s.left t).rd f i j = (t.alive).grpShown.rd f i j := State.rd_congr rfl rfl f i j
  rw [this, State.grpShown_rd _ _ _ _ h3]; unfold State.alive
  rw [State.rd_wr_other _ _ _ _ _ _ _ _ h2, State.rd_wr_other _ _ _ _ _ _ _ _ h1]

end Sys2Proof.Machine
end

