-- ==== Sys2Proof/Laws/Ops.lean ====
section
/-! SUPPORT. What the shared operations leave alone: counters, 64-bit registers, interrupts, the log. -/
namespace Sys2Proof.Machine
open Reg

/-! ### Updates of a part of a block -/

@[simp] theorem State.modBistNv_bank (s : State) (f : BistNv → BistNv) : (s.modBistNv f).bank = s.bank := rfl
@[simp] theorem State.modBistNv_prev (s : State) (f : BistNv → BistNv) : (s.modBistNv f).prev = s.prev := rfl
@[simp] theorem State.modBistNv_grid (s : State) (f : BistNv → BistNv) : (s.modBistNv f).grid = s.grid := rfl
@[simp] theorem State.modBistNv_log (s : State) (f : BistNv → BistNv) : (s.modBistNv f).log = s.log := rfl
@[simp] theorem State.modBistNv_host (s : State) (f : BistNv → BistNv) : (s.modBistNv f).host = s.host := rfl
@[simp] theorem State.modBistNv_cust (s : State) (f : BistNv → BistNv) : (s.modBistNv f).cust = s.cust := rfl
@[simp] theorem State.modBistNv_afe (s : State) (f : BistNv → BistNv) : (s.modBistNv f).afe = s.afe := rfl
@[simp] theorem State.modBistNv_td (s : State) (f : BistNv → BistNv) : (s.modBistNv f).td = s.td := rfl
@[simp] theorem State.modBistNv_aux (s : State) (f : BistNv → BistNv) : (s.modBistNv f).aux = s.aux := rfl
@[simp] theorem State.modBistNv_pbus (s : State) (f : BistNv → BistNv) : (s.modBistNv f).pbus = s.pbus := rfl
@[simp] theorem State.modBistNv_eval (s : State) (f : BistNv → BistNv) : (s.modBistNv f).eval = s.eval := rfl
@[simp] theorem State.modBistNv_dio (s : State) (f : BistNv → BistNv) : (s.modBistNv f).dio = s.dio := rfl
@[simp] theorem State.modBistNv_bist (s : State) (f : BistNv → BistNv) : (s.modBistNv f).bist = s.bist := rfl
@[simp] theorem State.modBistNv_rec (s : State) (f : BistNv → BistNv) : (s.modBistNv f).rec' = s.rec' := rfl
@[simp] theorem State.modBistNv_pair (s : State) (f : BistNv → BistNv) : (s.modBistNv f).pair = s.pair := rfl
@[simp] theorem State.modBistNv_pwr (s : State) (f : BistNv → BistNv) : (s.modBistNv f).pwr = s.pwr := rfl
@[simp] theorem State.modBistNv_pads (s : State) (f : BistNv → BistNv) : (s.modBistNv f).pads = s.pads := rfl
@[simp] theorem State.modBistNv_free (s : State) (f : BistNv → BistNv) : (s.modBistNv f).free = s.free := rfl
@[simp] theorem State.modBistNv_pending (s : State) (f : BistNv → BistNv) : (s.modBistNv f).pending = s.pending := rfl
@[simp] theorem State.modBistNv_nv (s : State) (f : BistNv → BistNv) : (s.modBistNv f).nv = { s.nv with bist := f s.nv.bist } := rfl
@[simp] theorem State.modBistNv_regs (s : State) (f : BistNv → BistNv) : (s.modBistNv f).regs = s.regs := rfl
@[simp] theorem State.modBistNv_rd (s : State) (f : BistNv → BistNv) (g : Field) (i j : Nat) : (s.modBistNv f).rd g i j = s.rd g i j := State.rd_congr rfl rfl g i j
@[simp] theorem State.modRecNv_bank (s : State) (f : RecNv → RecNv) : (s.modRecNv f).bank = s.bank := rfl
@[simp] theorem State.modRecNv_prev (s : State) (f : RecNv → RecNv) : (s.modRecNv f).prev = s.prev := rfl
@[simp] theorem State.modRecNv_grid (s : State) (f : RecNv → RecNv) : (s.modRecNv f).grid = s.grid := rfl
@[simp] theorem State.modRecNv_log (s : State) (f : RecNv → RecNv) : (s.modRecNv f).log = s.log := rfl
@[simp] theorem State.modRecNv_host (s : State) (f : RecNv → RecNv) : (s.modRecNv f).host = s.host := rfl
@[simp] theorem State.modRecNv_cust (s : State) (f : RecNv → RecNv) : (s.modRecNv f).cust = s.cust := rfl
@[simp] theorem State.modRecNv_afe (s : State) (f : RecNv → RecNv) : (s.modRecNv f).afe = s.afe := rfl
@[simp] theorem State.modRecNv_td (s : State) (f : RecNv → RecNv) : (s.modRecNv f).td = s.td := rfl
@[simp] theorem State.modRecNv_aux (s : State) (f : RecNv → RecNv) : (s.modRecNv f).aux = s.aux := rfl
@[simp] theorem State.modRecNv_pbus (s : State) (f : RecNv → RecNv) : (s.modRecNv f).pbus = s.pbus := rfl
@[simp] theorem State.modRecNv_eval (s : State) (f : RecNv → RecNv) : (s.modRecNv f).eval = s.eval := rfl
@[simp] theorem State.modRecNv_dio (s : State) (f : RecNv → RecNv) : (s.modRecNv f).dio = s.dio := rfl
@[simp] theorem State.modRecNv_bist (s : State) (f : RecNv → RecNv) : (s.modRecNv f).bist = s.bist := rfl
@[simp] theorem State.modRecNv_rec (s : State) (f : RecNv → RecNv) : (s.modRecNv f).rec' = s.rec' := rfl
@[simp] theorem State.modRecNv_pair (s : State) (f : RecNv → RecNv) : (s.modRecNv f).pair = s.pair := rfl
@[simp] theorem State.modRecNv_pwr (s : State) (f : RecNv → RecNv) : (s.modRecNv f).pwr = s.pwr := rfl
@[simp] theorem State.modRecNv_pads (s : State) (f : RecNv → RecNv) : (s.modRecNv f).pads = s.pads := rfl
@[simp] theorem State.modRecNv_free (s : State) (f : RecNv → RecNv) : (s.modRecNv f).free = s.free := rfl
@[simp] theorem State.modRecNv_pending (s : State) (f : RecNv → RecNv) : (s.modRecNv f).pending = s.pending := rfl
@[simp] theorem State.modRecNv_nv (s : State) (f : RecNv → RecNv) : (s.modRecNv f).nv = { s.nv with rec' := f s.nv.rec' } := rfl
@[simp] theorem State.modRecNv_regs (s : State) (f : RecNv → RecNv) : (s.modRecNv f).regs = s.regs := rfl
@[simp] theorem State.modRecNv_rd (s : State) (f : RecNv → RecNv) (g : Field) (i j : Nat) : (s.modRecNv f).rd g i j = s.rd g i j := State.rd_congr rfl rfl g i j
@[simp] theorem State.modCustNv_bank (s : State) (f : CustNv → CustNv) : (s.modCustNv f).bank = s.bank := rfl
@[simp] theorem State.modCustNv_prev (s : State) (f : CustNv → CustNv) : (s.modCustNv f).prev = s.prev := rfl
@[simp] theorem State.modCustNv_grid (s : State) (f : CustNv → CustNv) : (s.modCustNv f).grid = s.grid := rfl
@[simp] theorem State.modCustNv_log (s : State) (f : CustNv → CustNv) : (s.modCustNv f).log = s.log := rfl
@[simp] theorem State.modCustNv_host (s : State) (f : CustNv → CustNv) : (s.modCustNv f).host = s.host := rfl
@[simp] theorem State.modCustNv_cust (s : State) (f : CustNv → CustNv) : (s.modCustNv f).cust = s.cust := rfl
@[simp] theorem State.modCustNv_afe (s : State) (f : CustNv → CustNv) : (s.modCustNv f).afe = s.afe := rfl
@[simp] theorem State.modCustNv_td (s : State) (f : CustNv → CustNv) : (s.modCustNv f).td = s.td := rfl
@[simp] theorem State.modCustNv_aux (s : State) (f : CustNv → CustNv) : (s.modCustNv f).aux = s.aux := rfl
@[simp] theorem State.modCustNv_pbus (s : State) (f : CustNv → CustNv) : (s.modCustNv f).pbus = s.pbus := rfl
@[simp] theorem State.modCustNv_eval (s : State) (f : CustNv → CustNv) : (s.modCustNv f).eval = s.eval := rfl
@[simp] theorem State.modCustNv_dio (s : State) (f : CustNv → CustNv) : (s.modCustNv f).dio = s.dio := rfl
@[simp] theorem State.modCustNv_bist (s : State) (f : CustNv → CustNv) : (s.modCustNv f).bist = s.bist := rfl
@[simp] theorem State.modCustNv_rec (s : State) (f : CustNv → CustNv) : (s.modCustNv f).rec' = s.rec' := rfl
@[simp] theorem State.modCustNv_pair (s : State) (f : CustNv → CustNv) : (s.modCustNv f).pair = s.pair := rfl
@[simp] theorem State.modCustNv_pwr (s : State) (f : CustNv → CustNv) : (s.modCustNv f).pwr = s.pwr := rfl
@[simp] theorem State.modCustNv_pads (s : State) (f : CustNv → CustNv) : (s.modCustNv f).pads = s.pads := rfl
@[simp] theorem State.modCustNv_free (s : State) (f : CustNv → CustNv) : (s.modCustNv f).free = s.free := rfl
@[simp] theorem State.modCustNv_pending (s : State) (f : CustNv → CustNv) : (s.modCustNv f).pending = s.pending := rfl
@[simp] theorem State.modCustNv_nv (s : State) (f : CustNv → CustNv) : (s.modCustNv f).nv = { s.nv with cust := f s.nv.cust } := rfl
@[simp] theorem State.modCustNv_regs (s : State) (f : CustNv → CustNv) : (s.modCustNv f).regs = s.regs := rfl
@[simp] theorem State.modCustNv_rd (s : State) (f : CustNv → CustNv) (g : Field) (i j : Nat) : (s.modCustNv f).rd g i j = s.rd g i j := State.rd_congr rfl rfl g i j
@[simp] theorem State.modLogNv_bank (s : State) (f : LogNv → LogNv) : (s.modLogNv f).bank = s.bank := rfl
@[simp] theorem State.modLogNv_prev (s : State) (f : LogNv → LogNv) : (s.modLogNv f).prev = s.prev := rfl
@[simp] theorem State.modLogNv_grid (s : State) (f : LogNv → LogNv) : (s.modLogNv f).grid = s.grid := rfl
@[simp] theorem State.modLogNv_log (s : State) (f : LogNv → LogNv) : (s.modLogNv f).log = s.log := rfl
@[simp] theorem State.modLogNv_host (s : State) (f : LogNv → LogNv) : (s.modLogNv f).host = s.host := rfl
@[simp] theorem State.modLogNv_cust (s : State) (f : LogNv → LogNv) : (s.modLogNv f).cust = s.cust := rfl
@[simp] theorem State.modLogNv_afe (s : State) (f : LogNv → LogNv) : (s.modLogNv f).afe = s.afe := rfl
@[simp] theorem State.modLogNv_td (s : State) (f : LogNv → LogNv) : (s.modLogNv f).td = s.td := rfl
@[simp] theorem State.modLogNv_aux (s : State) (f : LogNv → LogNv) : (s.modLogNv f).aux = s.aux := rfl
@[simp] theorem State.modLogNv_pbus (s : State) (f : LogNv → LogNv) : (s.modLogNv f).pbus = s.pbus := rfl
@[simp] theorem State.modLogNv_eval (s : State) (f : LogNv → LogNv) : (s.modLogNv f).eval = s.eval := rfl
@[simp] theorem State.modLogNv_dio (s : State) (f : LogNv → LogNv) : (s.modLogNv f).dio = s.dio := rfl
@[simp] theorem State.modLogNv_bist (s : State) (f : LogNv → LogNv) : (s.modLogNv f).bist = s.bist := rfl
@[simp] theorem State.modLogNv_rec (s : State) (f : LogNv → LogNv) : (s.modLogNv f).rec' = s.rec' := rfl
@[simp] theorem State.modLogNv_pair (s : State) (f : LogNv → LogNv) : (s.modLogNv f).pair = s.pair := rfl
@[simp] theorem State.modLogNv_pwr (s : State) (f : LogNv → LogNv) : (s.modLogNv f).pwr = s.pwr := rfl
@[simp] theorem State.modLogNv_pads (s : State) (f : LogNv → LogNv) : (s.modLogNv f).pads = s.pads := rfl
@[simp] theorem State.modLogNv_free (s : State) (f : LogNv → LogNv) : (s.modLogNv f).free = s.free := rfl
@[simp] theorem State.modLogNv_pending (s : State) (f : LogNv → LogNv) : (s.modLogNv f).pending = s.pending := rfl
@[simp] theorem State.modLogNv_nv (s : State) (f : LogNv → LogNv) : (s.modLogNv f).nv = { s.nv with log := f s.nv.log } := rfl
@[simp] theorem State.modLogNv_regs (s : State) (f : LogNv → LogNv) : (s.modLogNv f).regs = s.regs := rfl
@[simp] theorem State.modLogNv_rd (s : State) (f : LogNv → LogNv) (g : Field) (i j : Nat) : (s.modLogNv f).rd g i j = s.rd g i j := State.rd_congr rfl rfl g i j
@[simp] theorem State.modAfeNv_bank (s : State) (f : AfeNv → AfeNv) : (s.modAfeNv f).bank = s.bank := rfl
@[simp] theorem State.modAfeNv_prev (s : State) (f : AfeNv → AfeNv) : (s.modAfeNv f).prev = s.prev := rfl
@[simp] theorem State.modAfeNv_grid (s : State) (f : AfeNv → AfeNv) : (s.modAfeNv f).grid = s.grid := rfl
@[simp] theorem State.modAfeNv_log (s : State) (f : AfeNv → AfeNv) : (s.modAfeNv f).log = s.log := rfl
@[simp] theorem State.modAfeNv_host (s : State) (f : AfeNv → AfeNv) : (s.modAfeNv f).host = s.host := rfl
@[simp] theorem State.modAfeNv_cust (s : State) (f : AfeNv → AfeNv) : (s.modAfeNv f).cust = s.cust := rfl
@[simp] theorem State.modAfeNv_afe (s : State) (f : AfeNv → AfeNv) : (s.modAfeNv f).afe = s.afe := rfl
@[simp] theorem State.modAfeNv_td (s : State) (f : AfeNv → AfeNv) : (s.modAfeNv f).td = s.td := rfl
@[simp] theorem State.modAfeNv_aux (s : State) (f : AfeNv → AfeNv) : (s.modAfeNv f).aux = s.aux := rfl
@[simp] theorem State.modAfeNv_pbus (s : State) (f : AfeNv → AfeNv) : (s.modAfeNv f).pbus = s.pbus := rfl
@[simp] theorem State.modAfeNv_eval (s : State) (f : AfeNv → AfeNv) : (s.modAfeNv f).eval = s.eval := rfl
@[simp] theorem State.modAfeNv_dio (s : State) (f : AfeNv → AfeNv) : (s.modAfeNv f).dio = s.dio := rfl
@[simp] theorem State.modAfeNv_bist (s : State) (f : AfeNv → AfeNv) : (s.modAfeNv f).bist = s.bist := rfl
@[simp] theorem State.modAfeNv_rec (s : State) (f : AfeNv → AfeNv) : (s.modAfeNv f).rec' = s.rec' := rfl
@[simp] theorem State.modAfeNv_pair (s : State) (f : AfeNv → AfeNv) : (s.modAfeNv f).pair = s.pair := rfl
@[simp] theorem State.modAfeNv_pwr (s : State) (f : AfeNv → AfeNv) : (s.modAfeNv f).pwr = s.pwr := rfl
@[simp] theorem State.modAfeNv_pads (s : State) (f : AfeNv → AfeNv) : (s.modAfeNv f).pads = s.pads := rfl
@[simp] theorem State.modAfeNv_free (s : State) (f : AfeNv → AfeNv) : (s.modAfeNv f).free = s.free := rfl
@[simp] theorem State.modAfeNv_pending (s : State) (f : AfeNv → AfeNv) : (s.modAfeNv f).pending = s.pending := rfl
@[simp] theorem State.modAfeNv_nv (s : State) (f : AfeNv → AfeNv) : (s.modAfeNv f).nv = { s.nv with afe := f s.nv.afe } := rfl
@[simp] theorem State.modAfeNv_regs (s : State) (f : AfeNv → AfeNv) : (s.modAfeNv f).regs = s.regs := rfl
@[simp] theorem State.modAfeNv_rd (s : State) (f : AfeNv → AfeNv) (g : Field) (i j : Nat) : (s.modAfeNv f).rd g i j = s.rd g i j := State.rd_congr rfl rfl g i j
@[simp] theorem State.modNet_bank (s : State) (f : NetSt → NetSt) : (s.modNet f).bank = s.bank := rfl
@[simp] theorem State.modNet_prev (s : State) (f : NetSt → NetSt) : (s.modNet f).prev = s.prev := rfl
@[simp] theorem State.modNet_nv (s : State) (f : NetSt → NetSt) : (s.modNet f).nv = s.nv := rfl
@[simp] theorem State.modNet_grid (s : State) (f : NetSt → NetSt) : (s.modNet f).grid = s.grid := rfl
@[simp] theorem State.modNet_log (s : State) (f : NetSt → NetSt) : (s.modNet f).log = s.log := rfl
@[simp] theorem State.modNet_host (s : State) (f : NetSt → NetSt) : (s.modNet f).host = s.host := rfl
@[simp] theorem State.modNet_cust (s : State) (f : NetSt → NetSt) : (s.modNet f).cust = s.cust := rfl
@[simp] theorem State.modNet_afe (s : State) (f : NetSt → NetSt) : (s.modNet f).afe = s.afe := rfl
@[simp] theorem State.modNet_td (s : State) (f : NetSt → NetSt) : (s.modNet f).td = s.td := rfl
@[simp] theorem State.modNet_aux (s : State) (f : NetSt → NetSt) : (s.modNet f).aux = s.aux := rfl
@[simp] theorem State.modNet_eval (s : State) (f : NetSt → NetSt) : (s.modNet f).eval = s.eval := rfl
@[simp] theorem State.modNet_dio (s : State) (f : NetSt → NetSt) : (s.modNet f).dio = s.dio := rfl
@[simp] theorem State.modNet_bist (s : State) (f : NetSt → NetSt) : (s.modNet f).bist = s.bist := rfl
@[simp] theorem State.modNet_rec (s : State) (f : NetSt → NetSt) : (s.modNet f).rec' = s.rec' := rfl
@[simp] theorem State.modNet_pair (s : State) (f : NetSt → NetSt) : (s.modNet f).pair = s.pair := rfl
@[simp] theorem State.modNet_pwr (s : State) (f : NetSt → NetSt) : (s.modNet f).pwr = s.pwr := rfl
@[simp] theorem State.modNet_pads (s : State) (f : NetSt → NetSt) : (s.modNet f).pads = s.pads := rfl
@[simp] theorem State.modNet_free (s : State) (f : NetSt → NetSt) : (s.modNet f).free = s.free := rfl
@[simp] theorem State.modNet_pending (s : State) (f : NetSt → NetSt) : (s.modNet f).pending = s.pending := rfl
@[simp] theorem State.modNet_pbus (s : State) (f : NetSt → NetSt) : (s.modNet f).pbus = { s.pbus with net := f s.pbus.net } := rfl
@[simp] theorem State.modNet_regs (s : State) (f : NetSt → NetSt) : (s.modNet f).regs = s.regs := rfl
@[simp] theorem State.modNet_rd (s : State) (f : NetSt → NetSt) (g : Field) (i j : Nat) : (s.modNet f).rd g i j = s.rd g i j := State.rd_congr rfl rfl g i j
@[simp] theorem State.modPtp_bank (s : State) (f : PtpSt → PtpSt) : (s.modPtp f).bank = s.bank := rfl
@[simp] theorem State.modPtp_prev (s : State) (f : PtpSt → PtpSt) : (s.modPtp f).prev = s.prev := rfl
@[simp] theorem State.modPtp_nv (s : State) (f : PtpSt → PtpSt) : (s.modPtp f).nv = s.nv := rfl
@[simp] theorem State.modPtp_grid (s : State) (f : PtpSt → PtpSt) : (s.modPtp f).grid = s.grid := rfl
@[simp] theorem State.modPtp_log (s : State) (f : PtpSt → PtpSt) : (s.modPtp f).log = s.log := rfl
@[simp] theorem State.modPtp_host (s : State) (f : PtpSt → PtpSt) : (s.modPtp f).host = s.host := rfl
@[simp] theorem State.modPtp_cust (s : State) (f : PtpSt → PtpSt) : (s.modPtp f).cust = s.cust := rfl
@[simp] theorem State.modPtp_afe (s : State) (f : PtpSt → PtpSt) : (s.modPtp f).afe = s.afe := rfl
@[simp] theorem State.modPtp_td (s : State) (f : PtpSt → PtpSt) : (s.modPtp f).td = s.td := rfl
@[simp] theorem State.modPtp_aux (s : State) (f : PtpSt → PtpSt) : (s.modPtp f).aux = s.aux := rfl
@[simp] theorem State.modPtp_eval (s : State) (f : PtpSt → PtpSt) : (s.modPtp f).eval = s.eval := rfl
@[simp] theorem State.modPtp_dio (s : State) (f : PtpSt → PtpSt) : (s.modPtp f).dio = s.dio := rfl
@[simp] theorem State.modPtp_bist (s : State) (f : PtpSt → PtpSt) : (s.modPtp f).bist = s.bist := rfl
@[simp] theorem State.modPtp_rec (s : State) (f : PtpSt → PtpSt) : (s.modPtp f).rec' = s.rec' := rfl
@[simp] theorem State.modPtp_pair (s : State) (f : PtpSt → PtpSt) : (s.modPtp f).pair = s.pair := rfl
@[simp] theorem State.modPtp_pwr (s : State) (f : PtpSt → PtpSt) : (s.modPtp f).pwr = s.pwr := rfl
@[simp] theorem State.modPtp_pads (s : State) (f : PtpSt → PtpSt) : (s.modPtp f).pads = s.pads := rfl
@[simp] theorem State.modPtp_free (s : State) (f : PtpSt → PtpSt) : (s.modPtp f).free = s.free := rfl
@[simp] theorem State.modPtp_pending (s : State) (f : PtpSt → PtpSt) : (s.modPtp f).pending = s.pending := rfl
@[simp] theorem State.modPtp_pbus (s : State) (f : PtpSt → PtpSt) : (s.modPtp f).pbus = { s.pbus with ptp := f s.pbus.ptp } := rfl
@[simp] theorem State.modPtp_regs (s : State) (f : PtpSt → PtpSt) : (s.modPtp f).regs = s.regs := rfl
@[simp] theorem State.modPtp_rd (s : State) (f : PtpSt → PtpSt) (g : Field) (i j : Nat) : (s.modPtp f).rd g i j = s.rd g i j := State.rd_congr rfl rfl g i j
@[simp] theorem State.modTime_bank (s : State) (f : TimeSt → TimeSt) : (s.modTime f).bank = s.bank := rfl
@[simp] theorem State.modTime_prev (s : State) (f : TimeSt → TimeSt) : (s.modTime f).prev = s.prev := rfl
@[simp] theorem State.modTime_nv (s : State) (f : TimeSt → TimeSt) : (s.modTime f).nv = s.nv := rfl
@[simp] theorem State.modTime_grid (s : State) (f : TimeSt → TimeSt) : (s.modTime f).grid = s.grid := rfl
@[simp] theorem State.modTime_log (s : State) (f : TimeSt → TimeSt) : (s.modTime f).log = s.log := rfl
@[simp] theorem State.modTime_host (s : State) (f : TimeSt → TimeSt) : (s.modTime f).host = s.host := rfl
@[simp] theorem State.modTime_cust (s : State) (f : TimeSt → TimeSt) : (s.modTime f).cust = s.cust := rfl
@[simp] theorem State.modTime_afe (s : State) (f : TimeSt → TimeSt) : (s.modTime f).afe = s.afe := rfl
@[simp] theorem State.modTime_td (s : State) (f : TimeSt → TimeSt) : (s.modTime f).td = s.td := rfl
@[simp] theorem State.modTime_aux (s : State) (f : TimeSt → TimeSt) : (s.modTime f).aux = s.aux := rfl
@[simp] theorem State.modTime_eval (s : State) (f : TimeSt → TimeSt) : (s.modTime f).eval = s.eval := rfl
@[simp] theorem State.modTime_dio (s : State) (f : TimeSt → TimeSt) : (s.modTime f).dio = s.dio := rfl
@[simp] theorem State.modTime_bist (s : State) (f : TimeSt → TimeSt) : (s.modTime f).bist = s.bist := rfl
@[simp] theorem State.modTime_rec (s : State) (f : TimeSt → TimeSt) : (s.modTime f).rec' = s.rec' := rfl
@[simp] theorem State.modTime_pair (s : State) (f : TimeSt → TimeSt) : (s.modTime f).pair = s.pair := rfl
@[simp] theorem State.modTime_pwr (s : State) (f : TimeSt → TimeSt) : (s.modTime f).pwr = s.pwr := rfl
@[simp] theorem State.modTime_pads (s : State) (f : TimeSt → TimeSt) : (s.modTime f).pads = s.pads := rfl
@[simp] theorem State.modTime_free (s : State) (f : TimeSt → TimeSt) : (s.modTime f).free = s.free := rfl
@[simp] theorem State.modTime_pending (s : State) (f : TimeSt → TimeSt) : (s.modTime f).pending = s.pending := rfl
@[simp] theorem State.modTime_pbus (s : State) (f : TimeSt → TimeSt) : (s.modTime f).pbus = { s.pbus with time := f s.pbus.time } := rfl
@[simp] theorem State.modTime_regs (s : State) (f : TimeSt → TimeSt) : (s.modTime f).regs = s.regs := rfl
@[simp] theorem State.modTime_rd (s : State) (f : TimeSt → TimeSt) (g : Field) (i j : Nat) : (s.modTime f).rd g i j = s.rd g i j := State.rd_congr rfl rfl g i j
@[simp] theorem State.modClaim_bank (s : State) (f : ClaimSt → ClaimSt) : (s.modClaim f).bank = s.bank := rfl
@[simp] theorem State.modClaim_prev (s : State) (f : ClaimSt → ClaimSt) : (s.modClaim f).prev = s.prev := rfl
@[simp] theorem State.modClaim_nv (s : State) (f : ClaimSt → ClaimSt) : (s.modClaim f).nv = s.nv := rfl
@[simp] theorem State.modClaim_grid (s : State) (f : ClaimSt → ClaimSt) : (s.modClaim f).grid = s.grid := rfl
@[simp] theorem State.modClaim_log (s : State) (f : ClaimSt → ClaimSt) : (s.modClaim f).log = s.log := rfl
@[simp] theorem State.modClaim_host (s : State) (f : ClaimSt → ClaimSt) : (s.modClaim f).host = s.host := rfl
@[simp] theorem State.modClaim_cust (s : State) (f : ClaimSt → ClaimSt) : (s.modClaim f).cust = s.cust := rfl
@[simp] theorem State.modClaim_afe (s : State) (f : ClaimSt → ClaimSt) : (s.modClaim f).afe = s.afe := rfl
@[simp] theorem State.modClaim_td (s : State) (f : ClaimSt → ClaimSt) : (s.modClaim f).td = s.td := rfl
@[simp] theorem State.modClaim_aux (s : State) (f : ClaimSt → ClaimSt) : (s.modClaim f).aux = s.aux := rfl
@[simp] theorem State.modClaim_pbus (s : State) (f : ClaimSt → ClaimSt) : (s.modClaim f).pbus = s.pbus := rfl
@[simp] theorem State.modClaim_eval (s : State) (f : ClaimSt → ClaimSt) : (s.modClaim f).eval = s.eval := rfl
@[simp] theorem State.modClaim_bist (s : State) (f : ClaimSt → ClaimSt) : (s.modClaim f).bist = s.bist := rfl
@[simp] theorem State.modClaim_rec (s : State) (f : ClaimSt → ClaimSt) : (s.modClaim f).rec' = s.rec' := rfl
@[simp] theorem State.modClaim_pair (s : State) (f : ClaimSt → ClaimSt) : (s.modClaim f).pair = s.pair := rfl
@[simp] theorem State.modClaim_pwr (s : State) (f : ClaimSt → ClaimSt) : (s.modClaim f).pwr = s.pwr := rfl
@[simp] theorem State.modClaim_pads (s : State) (f : ClaimSt → ClaimSt) : (s.modClaim f).pads = s.pads := rfl
@[simp] theorem State.modClaim_free (s : State) (f : ClaimSt → ClaimSt) : (s.modClaim f).free = s.free := rfl
@[simp] theorem State.modClaim_pending (s : State) (f : ClaimSt → ClaimSt) : (s.modClaim f).pending = s.pending := rfl
@[simp] theorem State.modClaim_dio (s : State) (f : ClaimSt → ClaimSt) : (s.modClaim f).dio = { s.dio with claim := f s.dio.claim } := rfl
@[simp] theorem State.modClaim_regs (s : State) (f : ClaimSt → ClaimSt) : (s.modClaim f).regs = s.regs := rfl
@[simp] theorem State.modClaim_rd (s : State) (f : ClaimSt → ClaimSt) (g : Field) (i j : Nat) : (s.modClaim f).rd g i j = s.rd g i j := State.rd_congr rfl rfl g i j
/-! ### Register operations -/

@[simp] theorem State.bump_bank (s : State) (f : Field) (i j k : Nat) : (s.bump f i j k).bank = s.bank := rfl
@[simp] theorem State.bump_prev (s : State) (f : Field) (i j k : Nat) : (s.bump f i j k).prev = s.prev := rfl
@[simp] theorem State.bump_nv (s : State) (f : Field) (i j k : Nat) : (s.bump f i j k).nv = s.nv := rfl
@[simp] theorem State.bump_grid (s : State) (f : Field) (i j k : Nat) : (s.bump f i j k).grid = s.grid := rfl
@[simp] theorem State.bump_log (s : State) (f : Field) (i j k : Nat) : (s.bump f i j k).log = s.log := rfl
@[simp] theorem State.bump_host (s : State) (f : Field) (i j k : Nat) : (s.bump f i j k).host = s.host := rfl
@[simp] theorem State.bump_cust (s : State) (f : Field) (i j k : Nat) : (s.bump f i j k).cust = s.cust := rfl
@[simp] theorem State.bump_afe (s : State) (f : Field) (i j k : Nat) : (s.bump f i j k).afe = s.afe := rfl
@[simp] theorem State.bump_td (s : State) (f : Field) (i j k : Nat) : (s.bump f i j k).td = s.td := rfl
@[simp] theorem State.bump_aux (s : State) (f : Field) (i j k : Nat) : (s.bump f i j k).aux = s.aux := rfl
@[simp] theorem State.bump_pbus (s : State) (f : Field) (i j k : Nat) : (s.bump f i j k).pbus = s.pbus := rfl
@[simp] theorem State.bump_eval (s : State) (f : Field) (i j k : Nat) : (s.bump f i j k).eval = s.eval := rfl
@[simp] theorem State.bump_dio (s : State) (f : Field) (i j k : Nat) : (s.bump f i j k).dio = s.dio := rfl
@[simp] theorem State.bump_bist (s : State) (f : Field) (i j k : Nat) : (s.bump f i j k).bist = s.bist := rfl
@[simp] theorem State.bump_rec (s : State) (f : Field) (i j k : Nat) : (s.bump f i j k).rec' = s.rec' := rfl
@[simp] theorem State.bump_pair (s : State) (f : Field) (i j k : Nat) : (s.bump f i j k).pair = s.pair := rfl
@[simp] theorem State.bump_pwr (s : State) (f : Field) (i j k : Nat) : (s.bump f i j k).pwr = s.pwr := rfl
@[simp] theorem State.bump_pads (s : State) (f : Field) (i j k : Nat) : (s.bump f i j k).pads = s.pads := rfl
@[simp] theorem State.bump_free (s : State) (f : Field) (i j k : Nat) : (s.bump f i j k).free = s.free := rfl
@[simp] theorem State.bump_pending (s : State) (f : Field) (i j k : Nat) : (s.bump f i j k).pending = s.pending := rfl
@[simp] theorem State.raiseTo_bank (s : State) (f : Field) (v i j : Nat) : (s.raiseTo f v i j).bank = s.bank := rfl
@[simp] theorem State.raiseTo_prev (s : State) (f : Field) (v i j : Nat) : (s.raiseTo f v i j).prev = s.prev := rfl
@[simp] theorem State.raiseTo_nv (s : State) (f : Field) (v i j : Nat) : (s.raiseTo f v i j).nv = s.nv := rfl
@[simp] theorem State.raiseTo_grid (s : State) (f : Field) (v i j : Nat) : (s.raiseTo f v i j).grid = s.grid := rfl
@[simp] theorem State.raiseTo_log (s : State) (f : Field) (v i j : Nat) : (s.raiseTo f v i j).log = s.log := rfl
@[simp] theorem State.raiseTo_host (s : State) (f : Field) (v i j : Nat) : (s.raiseTo f v i j).host = s.host := rfl
@[simp] theorem State.raiseTo_cust (s : State) (f : Field) (v i j : Nat) : (s.raiseTo f v i j).cust = s.cust := rfl
@[simp] theorem State.raiseTo_afe (s : State) (f : Field) (v i j : Nat) : (s.raiseTo f v i j).afe = s.afe := rfl
@[simp] theorem State.raiseTo_td (s : State) (f : Field) (v i j : Nat) : (s.raiseTo f v i j).td = s.td := rfl
@[simp] theorem State.raiseTo_aux (s : State) (f : Field) (v i j : Nat) : (s.raiseTo f v i j).aux = s.aux := rfl
@[simp] theorem State.raiseTo_pbus (s : State) (f : Field) (v i j : Nat) : (s.raiseTo f v i j).pbus = s.pbus := rfl
@[simp] theorem State.raiseTo_eval (s : State) (f : Field) (v i j : Nat) : (s.raiseTo f v i j).eval = s.eval := rfl
@[simp] theorem State.raiseTo_dio (s : State) (f : Field) (v i j : Nat) : (s.raiseTo f v i j).dio = s.dio := rfl
@[simp] theorem State.raiseTo_bist (s : State) (f : Field) (v i j : Nat) : (s.raiseTo f v i j).bist = s.bist := rfl
@[simp] theorem State.raiseTo_rec (s : State) (f : Field) (v i j : Nat) : (s.raiseTo f v i j).rec' = s.rec' := rfl
@[simp] theorem State.raiseTo_pair (s : State) (f : Field) (v i j : Nat) : (s.raiseTo f v i j).pair = s.pair := rfl
@[simp] theorem State.raiseTo_pwr (s : State) (f : Field) (v i j : Nat) : (s.raiseTo f v i j).pwr = s.pwr := rfl
@[simp] theorem State.raiseTo_pads (s : State) (f : Field) (v i j : Nat) : (s.raiseTo f v i j).pads = s.pads := rfl
@[simp] theorem State.raiseTo_free (s : State) (f : Field) (v i j : Nat) : (s.raiseTo f v i j).free = s.free := rfl
@[simp] theorem State.raiseTo_pending (s : State) (f : Field) (v i j : Nat) : (s.raiseTo f v i j).pending = s.pending := rfl
@[simp] theorem State.wr64_bank (s : State) (lo hi : Field) (v i : Nat) : (s.wr64 lo hi v i).bank = s.bank := rfl
@[simp] theorem State.wr64_prev (s : State) (lo hi : Field) (v i : Nat) : (s.wr64 lo hi v i).prev = s.prev := rfl
@[simp] theorem State.wr64_nv (s : State) (lo hi : Field) (v i : Nat) : (s.wr64 lo hi v i).nv = s.nv := rfl
@[simp] theorem State.wr64_grid (s : State) (lo hi : Field) (v i : Nat) : (s.wr64 lo hi v i).grid = s.grid := rfl
@[simp] theorem State.wr64_log (s : State) (lo hi : Field) (v i : Nat) : (s.wr64 lo hi v i).log = s.log := rfl
@[simp] theorem State.wr64_host (s : State) (lo hi : Field) (v i : Nat) : (s.wr64 lo hi v i).host = s.host := rfl
@[simp] theorem State.wr64_cust (s : State) (lo hi : Field) (v i : Nat) : (s.wr64 lo hi v i).cust = s.cust := rfl
@[simp] theorem State.wr64_afe (s : State) (lo hi : Field) (v i : Nat) : (s.wr64 lo hi v i).afe = s.afe := rfl
@[simp] theorem State.wr64_td (s : State) (lo hi : Field) (v i : Nat) : (s.wr64 lo hi v i).td = s.td := rfl
@[simp] theorem State.wr64_aux (s : State) (lo hi : Field) (v i : Nat) : (s.wr64 lo hi v i).aux = s.aux := rfl
@[simp] theorem State.wr64_pbus (s : State) (lo hi : Field) (v i : Nat) : (s.wr64 lo hi v i).pbus = s.pbus := rfl
@[simp] theorem State.wr64_eval (s : State) (lo hi : Field) (v i : Nat) : (s.wr64 lo hi v i).eval = s.eval := rfl
@[simp] theorem State.wr64_dio (s : State) (lo hi : Field) (v i : Nat) : (s.wr64 lo hi v i).dio = s.dio := rfl
@[simp] theorem State.wr64_bist (s : State) (lo hi : Field) (v i : Nat) : (s.wr64 lo hi v i).bist = s.bist := rfl
@[simp] theorem State.wr64_rec (s : State) (lo hi : Field) (v i : Nat) : (s.wr64 lo hi v i).rec' = s.rec' := rfl
@[simp] theorem State.wr64_pair (s : State) (lo hi : Field) (v i : Nat) : (s.wr64 lo hi v i).pair = s.pair := rfl
@[simp] theorem State.wr64_pwr (s : State) (lo hi : Field) (v i : Nat) : (s.wr64 lo hi v i).pwr = s.pwr := rfl
@[simp] theorem State.wr64_pads (s : State) (lo hi : Field) (v i : Nat) : (s.wr64 lo hi v i).pads = s.pads := rfl
@[simp] theorem State.wr64_free (s : State) (lo hi : Field) (v i : Nat) : (s.wr64 lo hi v i).free = s.free := rfl
@[simp] theorem State.wr64_pending (s : State) (lo hi : Field) (v i : Nat) : (s.wr64 lo hi v i).pending = s.pending := rfl
@[simp] theorem State.wrI_bank (s : State) (f : Field) (v : Int) (i j : Nat) : (s.wrI f v i j).bank = s.bank := rfl
@[simp] theorem State.wrI_prev (s : State) (f : Field) (v : Int) (i j : Nat) : (s.wrI f v i j).prev = s.prev := rfl
@[simp] theorem State.wrI_nv (s : State) (f : Field) (v : Int) (i j : Nat) : (s.wrI f v i j).nv = s.nv := rfl
@[simp] theorem State.wrI_grid (s : State) (f : Field) (v : Int) (i j : Nat) : (s.wrI f v i j).grid = s.grid := rfl
@[simp] theorem State.wrI_log (s : State) (f : Field) (v : Int) (i j : Nat) : (s.wrI f v i j).log = s.log := rfl
@[simp] theorem State.wrI_host (s : State) (f : Field) (v : Int) (i j : Nat) : (s.wrI f v i j).host = s.host := rfl
@[simp] theorem State.wrI_cust (s : State) (f : Field) (v : Int) (i j : Nat) : (s.wrI f v i j).cust = s.cust := rfl
@[simp] theorem State.wrI_afe (s : State) (f : Field) (v : Int) (i j : Nat) : (s.wrI f v i j).afe = s.afe := rfl
@[simp] theorem State.wrI_td (s : State) (f : Field) (v : Int) (i j : Nat) : (s.wrI f v i j).td = s.td := rfl
@[simp] theorem State.wrI_aux (s : State) (f : Field) (v : Int) (i j : Nat) : (s.wrI f v i j).aux = s.aux := rfl
@[simp] theorem State.wrI_pbus (s : State) (f : Field) (v : Int) (i j : Nat) : (s.wrI f v i j).pbus = s.pbus := rfl
@[simp] theorem State.wrI_eval (s : State) (f : Field) (v : Int) (i j : Nat) : (s.wrI f v i j).eval = s.eval := rfl
@[simp] theorem State.wrI_dio (s : State) (f : Field) (v : Int) (i j : Nat) : (s.wrI f v i j).dio = s.dio := rfl
@[simp] theorem State.wrI_bist (s : State) (f : Field) (v : Int) (i j : Nat) : (s.wrI f v i j).bist = s.bist := rfl
@[simp] theorem State.wrI_rec (s : State) (f : Field) (v : Int) (i j : Nat) : (s.wrI f v i j).rec' = s.rec' := rfl
@[simp] theorem State.wrI_pair (s : State) (f : Field) (v : Int) (i j : Nat) : (s.wrI f v i j).pair = s.pair := rfl
@[simp] theorem State.wrI_pwr (s : State) (f : Field) (v : Int) (i j : Nat) : (s.wrI f v i j).pwr = s.pwr := rfl
@[simp] theorem State.wrI_pads (s : State) (f : Field) (v : Int) (i j : Nat) : (s.wrI f v i j).pads = s.pads := rfl
@[simp] theorem State.wrI_free (s : State) (f : Field) (v : Int) (i j : Nat) : (s.wrI f v i j).free = s.free := rfl
@[simp] theorem State.wrI_pending (s : State) (f : Field) (v : Int) (i j : Nat) : (s.wrI f v i j).pending = s.pending := rfl

/-- A counter counts up by one and stays at its greatest value (R6). -/
theorem State.rd_bump_same (s : State) (f : Field) (i j k : Nat) (hs : f.acc ≠ .SP) (ho : f.acc ≠ .OTP) :
    (s.bump f i j k).rd f i j = min (s.rd f i j + k) (2 ^ f.width - 1) := by
  have h : 0 < 2 ^ f.width := Nat.two_pow_pos _
  rw [State.bump, State.rd_wr_same _ _ _ _ _ hs ho]; exact Nat.mod_eq_of_lt (by omega)

theorem State.rd_bump_other (s : State) (f g : Field) (i j a b k : Nat) (h : f.key i j ≠ g.key a b) :
    (s.bump g a b k).rd f i j = s.rd f i j := State.rd_wr_other _ _ _ _ _ _ _ _ h

/-- A register of 64 bits reads what was written to it. -/
theorem State.rd_wr64_other (s : State) (f lo hi : Field) (v i a b : Nat) (h1 : f.key a b ≠ lo.key i 0) (h2 : f.key a b ≠ hi.key i 0) :
    (s.wr64 lo hi v i).rd f a b = s.rd f a b := by
  rw [State.wr64, State.rd_wr_other _ _ _ _ _ _ _ _ h2, State.rd_wr_other _ _ _ _ _ _ _ _ h1]

/-! ### Interrupts -/

@[simp] theorem State.raiseVec_bank (s : State) (v : Nat) : (s.raiseVec v).bank = s.bank := by unfold State.raiseVec; dsimp only; split <;> (try split) <;> rfl
@[simp] theorem State.raiseVec_prev (s : State) (v : Nat) : (s.raiseVec v).prev = s.prev := by unfold State.raiseVec; dsimp only; split <;> (try split) <;> rfl
@[simp] theorem State.raiseVec_nv (s : State) (v : Nat) : (s.raiseVec v).nv = s.nv := by unfold State.raiseVec; dsimp only; split <;> (try split) <;> rfl
@[simp] theorem State.raiseVec_grid (s : State) (v : Nat) : (s.raiseVec v).grid = s.grid := by unfold State.raiseVec; dsimp only; split <;> (try split) <;> rfl
@[simp] theorem State.raiseVec_log (s : State) (v : Nat) : (s.raiseVec v).log = s.log := by unfold State.raiseVec; dsimp only; split <;> (try split) <;> rfl
@[simp] theorem State.raiseVec_cust (s : State) (v : Nat) : (s.raiseVec v).cust = s.cust := by unfold State.raiseVec; dsimp only; split <;> (try split) <;> rfl
@[simp] theorem State.raiseVec_afe (s : State) (v : Nat) : (s.raiseVec v).afe = s.afe := by unfold State.raiseVec; dsimp only; split <;> (try split) <;> rfl
@[simp] theorem State.raiseVec_td (s : State) (v : Nat) : (s.raiseVec v).td = s.td := by unfold State.raiseVec; dsimp only; split <;> (try split) <;> rfl
@[simp] theorem State.raiseVec_aux (s : State) (v : Nat) : (s.raiseVec v).aux = s.aux := by unfold State.raiseVec; dsimp only; split <;> (try split) <;> rfl
@[simp] theorem State.raiseVec_pbus (s : State) (v : Nat) : (s.raiseVec v).pbus = s.pbus := by unfold State.raiseVec; dsimp only; split <;> (try split) <;> rfl
@[simp] theorem State.raiseVec_eval (s : State) (v : Nat) : (s.raiseVec v).eval = s.eval := by unfold State.raiseVec; dsimp only; split <;> (try split) <;> rfl
@[simp] theorem State.raiseVec_dio (s : State) (v : Nat) : (s.raiseVec v).dio = s.dio := by unfold State.raiseVec; dsimp only; split <;> (try split) <;> rfl
@[simp] theorem State.raiseVec_bist (s : State) (v : Nat) : (s.raiseVec v).bist = s.bist := by unfold State.raiseVec; dsimp only; split <;> (try split) <;> rfl
@[simp] theorem State.raiseVec_rec (s : State) (v : Nat) : (s.raiseVec v).rec' = s.rec' := by unfold State.raiseVec; dsimp only; split <;> (try split) <;> rfl
@[simp] theorem State.raiseVec_pair (s : State) (v : Nat) : (s.raiseVec v).pair = s.pair := by unfold State.raiseVec; dsimp only; split <;> (try split) <;> rfl
@[simp] theorem State.raiseVec_pwr (s : State) (v : Nat) : (s.raiseVec v).pwr = s.pwr := by unfold State.raiseVec; dsimp only; split <;> (try split) <;> rfl
@[simp] theorem State.raiseVec_pads (s : State) (v : Nat) : (s.raiseVec v).pads = s.pads := by unfold State.raiseVec; dsimp only; split <;> (try split) <;> rfl
@[simp] theorem State.raiseVec_free (s : State) (v : Nat) : (s.raiseVec v).free = s.free := by unfold State.raiseVec; dsimp only; split <;> (try split) <;> rfl
@[simp] theorem State.raiseVec_pending (s : State) (v : Nat) : (s.raiseVec v).pending = s.pending := by unfold State.raiseVec; dsimp only; split <;> (try split) <;> rfl
@[simp] theorem State.cause_bank (s : State) (i : Nat) : (s.cause i).bank = s.bank := by unfold State.cause; dsimp only; split <;> simp
@[simp] theorem State.cause_prev (s : State) (i : Nat) : (s.cause i).prev = s.prev := by unfold State.cause; dsimp only; split <;> simp
@[simp] theorem State.cause_nv (s : State) (i : Nat) : (s.cause i).nv = s.nv := by unfold State.cause; dsimp only; split <;> simp
@[simp] theorem State.cause_grid (s : State) (i : Nat) : (s.cause i).grid = s.grid := by unfold State.cause; dsimp only; split <;> simp
@[simp] theorem State.cause_log (s : State) (i : Nat) : (s.cause i).log = s.log := by unfold State.cause; dsimp only; split <;> simp
@[simp] theorem State.cause_cust (s : State) (i : Nat) : (s.cause i).cust = s.cust := by unfold State.cause; dsimp only; split <;> simp
@[simp] theorem State.cause_afe (s : State) (i : Nat) : (s.cause i).afe = s.afe := by unfold State.cause; dsimp only; split <;> simp
@[simp] theorem State.cause_td (s : State) (i : Nat) : (s.cause i).td = s.td := by unfold State.cause; dsimp only; split <;> simp
@[simp] theorem State.cause_aux (s : State) (i : Nat) : (s.cause i).aux = s.aux := by unfold State.cause; dsimp only; split <;> simp
@[simp] theorem State.cause_pbus (s : State) (i : Nat) : (s.cause i).pbus = s.pbus := by unfold State.cause; dsimp only; split <;> simp
@[simp] theorem State.cause_eval (s : State) (i : Nat) : (s.cause i).eval = s.eval := by unfold State.cause; dsimp only; split <;> simp
@[simp] theorem State.cause_dio (s : State) (i : Nat) : (s.cause i).dio = s.dio := by unfold State.cause; dsimp only; split <;> simp
@[simp] theorem State.cause_bist (s : State) (i : Nat) : (s.cause i).bist = s.bist := by unfold State.cause; dsimp only; split <;> simp
@[simp] theorem State.cause_rec (s : State) (i : Nat) : (s.cause i).rec' = s.rec' := by unfold State.cause; dsimp only; split <;> simp
@[simp] theorem State.cause_pair (s : State) (i : Nat) : (s.cause i).pair = s.pair := by unfold State.cause; dsimp only; split <;> simp
@[simp] theorem State.cause_pwr (s : State) (i : Nat) : (s.cause i).pwr = s.pwr := by unfold State.cause; dsimp only; split <;> simp
@[simp] theorem State.cause_pads (s : State) (i : Nat) : (s.cause i).pads = s.pads := by unfold State.cause; dsimp only; split <;> simp
@[simp] theorem State.cause_free (s : State) (i : Nat) : (s.cause i).free = s.free := by unfold State.cause; dsimp only; split <;> simp
@[simp] theorem State.cause_pending (s : State) (i : Nat) : (s.cause i).pending = s.pending := by unfold State.cause; dsimp only; split <;> simp
@[simp] theorem State.wrCause_bank (s : State) (f : Field) (v i : Nat) : (s.wrCause f v i).bank = s.bank := by unfold State.wrCause; split <;> simp
@[simp] theorem State.wrCause_prev (s : State) (f : Field) (v i : Nat) : (s.wrCause f v i).prev = s.prev := by unfold State.wrCause; split <;> simp
@[simp] theorem State.wrCause_nv (s : State) (f : Field) (v i : Nat) : (s.wrCause f v i).nv = s.nv := by unfold State.wrCause; split <;> simp
@[simp] theorem State.wrCause_grid (s : State) (f : Field) (v i : Nat) : (s.wrCause f v i).grid = s.grid := by unfold State.wrCause; split <;> simp
@[simp] theorem State.wrCause_log (s : State) (f : Field) (v i : Nat) : (s.wrCause f v i).log = s.log := by unfold State.wrCause; split <;> simp
@[simp] theorem State.wrCause_cust (s : State) (f : Field) (v i : Nat) : (s.wrCause f v i).cust = s.cust := by unfold State.wrCause; split <;> simp
@[simp] theorem State.wrCause_afe (s : State) (f : Field) (v i : Nat) : (s.wrCause f v i).afe = s.afe := by unfold State.wrCause; split <;> simp
@[simp] theorem State.wrCause_td (s : State) (f : Field) (v i : Nat) : (s.wrCause f v i).td = s.td := by unfold State.wrCause; split <;> simp
@[simp] theorem State.wrCause_aux (s : State) (f : Field) (v i : Nat) : (s.wrCause f v i).aux = s.aux := by unfold State.wrCause; split <;> simp
@[simp] theorem State.wrCause_pbus (s : State) (f : Field) (v i : Nat) : (s.wrCause f v i).pbus = s.pbus := by unfold State.wrCause; split <;> simp
@[simp] theorem State.wrCause_eval (s : State) (f : Field) (v i : Nat) : (s.wrCause f v i).eval = s.eval := by unfold State.wrCause; split <;> simp
@[simp] theorem State.wrCause_dio (s : State) (f : Field) (v i : Nat) : (s.wrCause f v i).dio = s.dio := by unfold State.wrCause; split <;> simp
@[simp] theorem State.wrCause_bist (s : State) (f : Field) (v i : Nat) : (s.wrCause f v i).bist = s.bist := by unfold State.wrCause; split <;> simp
@[simp] theorem State.wrCause_rec (s : State) (f : Field) (v i : Nat) : (s.wrCause f v i).rec' = s.rec' := by unfold State.wrCause; split <;> simp
@[simp] theorem State.wrCause_pair (s : State) (f : Field) (v i : Nat) : (s.wrCause f v i).pair = s.pair := by unfold State.wrCause; split <;> simp
@[simp] theorem State.wrCause_pwr (s : State) (f : Field) (v i : Nat) : (s.wrCause f v i).pwr = s.pwr := by unfold State.wrCause; split <;> simp
@[simp] theorem State.wrCause_pads (s : State) (f : Field) (v i : Nat) : (s.wrCause f v i).pads = s.pads := by unfold State.wrCause; split <;> simp
@[simp] theorem State.wrCause_free (s : State) (f : Field) (v i : Nat) : (s.wrCause f v i).free = s.free := by unfold State.wrCause; split <;> simp
@[simp] theorem State.wrCause_pending (s : State) (f : Field) (v i : Nat) : (s.wrCause f v i).pending = s.pending := by unfold State.wrCause; split <;> simp
@[simp] theorem State.setRole_bank (s : State) (v : Nat) : (s.setRole v).bank = s.bank := by unfold State.setRole; simp
@[simp] theorem State.setRole_prev (s : State) (v : Nat) : (s.setRole v).prev = s.prev := by unfold State.setRole; simp
@[simp] theorem State.setRole_nv (s : State) (v : Nat) : (s.setRole v).nv = s.nv := by unfold State.setRole; simp
@[simp] theorem State.setRole_grid (s : State) (v : Nat) : (s.setRole v).grid = s.grid := by unfold State.setRole; simp
@[simp] theorem State.setRole_log (s : State) (v : Nat) : (s.setRole v).log = s.log := by unfold State.setRole; simp
@[simp] theorem State.setRole_cust (s : State) (v : Nat) : (s.setRole v).cust = s.cust := by unfold State.setRole; simp
@[simp] theorem State.setRole_afe (s : State) (v : Nat) : (s.setRole v).afe = s.afe := by unfold State.setRole; simp
@[simp] theorem State.setRole_td (s : State) (v : Nat) : (s.setRole v).td = s.td := by unfold State.setRole; simp
@[simp] theorem State.setRole_aux (s : State) (v : Nat) : (s.setRole v).aux = s.aux := by unfold State.setRole; simp
@[simp] theorem State.setRole_pbus (s : State) (v : Nat) : (s.setRole v).pbus = s.pbus := by unfold State.setRole; simp
@[simp] theorem State.setRole_eval (s : State) (v : Nat) : (s.setRole v).eval = s.eval := by unfold State.setRole; simp
@[simp] theorem State.setRole_dio (s : State) (v : Nat) : (s.setRole v).dio = s.dio := by unfold State.setRole; simp
@[simp] theorem State.setRole_bist (s : State) (v : Nat) : (s.setRole v).bist = s.bist := by unfold State.setRole; simp
@[simp] theorem State.setRole_rec (s : State) (v : Nat) : (s.setRole v).rec' = s.rec' := by unfold State.setRole; simp
@[simp] theorem State.setRole_pair (s : State) (v : Nat) : (s.setRole v).pair = s.pair := by unfold State.setRole; simp
@[simp] theorem State.setRole_pwr (s : State) (v : Nat) : (s.setRole v).pwr = s.pwr := by unfold State.setRole; simp
@[simp] theorem State.setRole_pads (s : State) (v : Nat) : (s.setRole v).pads = s.pads := by unfold State.setRole; simp
@[simp] theorem State.setRole_free (s : State) (v : Nat) : (s.setRole v).free = s.free := by unfold State.setRole; simp
@[simp] theorem State.setRole_pending (s : State) (v : Nat) : (s.setRole v).pending = s.pending := by unfold State.setRole; simp

theorem State.raiseVec_rd (s : State) (v : Nat) (f : Field) (i j : Nat) (h : f.key i j ≠ HOST_IRQ_PEND.MASK.key 0 0) :
    (s.raiseVec v).rd f i j = s.rd f i j := by
  rw [← State.rd_wr_other s f HOST_IRQ_PEND.MASK (s.rd HOST_IRQ_PEND.MASK ||| 2 ^ v) i j 0 0 h]
  unfold State.raiseVec; dsimp only; split <;> (try split) <;> exact State.rd_congr rfl rfl f i j

theorem State.cause_rd (s : State) (c : Nat) (f : Field) (i j : Nat) (h : f.key i j ≠ HOST_IRQ_PEND.MASK.key 0 0)
    (h2 : f.key i j ≠ HOST_CAUSE.BITS.key 0 0) : (s.cause c).rd f i j = s.rd f i j := by
  unfold State.cause; dsimp only; split
  · rw [State.raiseVec_rd _ _ _ _ _ h, State.rd_wr_other _ _ _ _ _ _ _ _ h2]
  · rw [State.rd_wr_other _ _ _ _ _ _ _ _ h2]

/-! ### The log -/

@[simp] theorem State.enqueue_bank (s : State) (e : LogEntry) : (s.enqueue e).bank = s.bank := by unfold State.enqueue; dsimp only; (repeat' split) <;> rfl
@[simp] theorem State.enqueue_prev (s : State) (e : LogEntry) : (s.enqueue e).prev = s.prev := by unfold State.enqueue; dsimp only; (repeat' split) <;> rfl
@[simp] theorem State.enqueue_nv (s : State) (e : LogEntry) : (s.enqueue e).nv = s.nv := by unfold State.enqueue; dsimp only; (repeat' split) <;> rfl
@[simp] theorem State.enqueue_grid (s : State) (e : LogEntry) : (s.enqueue e).grid = s.grid := by unfold State.enqueue; dsimp only; (repeat' split) <;> rfl
@[simp] theorem State.enqueue_host (s : State) (e : LogEntry) : (s.enqueue e).host = s.host := by unfold State.enqueue; dsimp only; (repeat' split) <;> rfl
@[simp] theorem State.enqueue_cust (s : State) (e : LogEntry) : (s.enqueue e).cust = s.cust := by unfold State.enqueue; dsimp only; (repeat' split) <;> rfl
@[simp] theorem State.enqueue_afe (s : State) (e : LogEntry) : (s.enqueue e).afe = s.afe := by unfold State.enqueue; dsimp only; (repeat' split) <;> rfl
@[simp] theorem State.enqueue_td (s : State) (e : LogEntry) : (s.enqueue e).td = s.td := by unfold State.enqueue; dsimp only; (repeat' split) <;> rfl
@[simp] theorem State.enqueue_aux (s : State) (e : LogEntry) : (s.enqueue e).aux = s.aux := by unfold State.enqueue; dsimp only; (repeat' split) <;> rfl
@[simp] theorem State.enqueue_pbus (s : State) (e : LogEntry) : (s.enqueue e).pbus = s.pbus := by unfold State.enqueue; dsimp only; (repeat' split) <;> rfl
@[simp] theorem State.enqueue_eval (s : State) (e : LogEntry) : (s.enqueue e).eval = s.eval := by unfold State.enqueue; dsimp only; (repeat' split) <;> rfl
@[simp] theorem State.enqueue_dio (s : State) (e : LogEntry) : (s.enqueue e).dio = s.dio := by unfold State.enqueue; dsimp only; (repeat' split) <;> rfl
@[simp] theorem State.enqueue_bist (s : State) (e : LogEntry) : (s.enqueue e).bist = s.bist := by unfold State.enqueue; dsimp only; (repeat' split) <;> rfl
@[simp] theorem State.enqueue_rec (s : State) (e : LogEntry) : (s.enqueue e).rec' = s.rec' := by unfold State.enqueue; dsimp only; (repeat' split) <;> rfl
@[simp] theorem State.enqueue_pair (s : State) (e : LogEntry) : (s.enqueue e).pair = s.pair := by unfold State.enqueue; dsimp only; (repeat' split) <;> rfl
@[simp] theorem State.enqueue_pwr (s : State) (e : LogEntry) : (s.enqueue e).pwr = s.pwr := by unfold State.enqueue; dsimp only; (repeat' split) <;> rfl
@[simp] theorem State.enqueue_pads (s : State) (e : LogEntry) : (s.enqueue e).pads = s.pads := by unfold State.enqueue; dsimp only; (repeat' split) <;> rfl
@[simp] theorem State.enqueue_free (s : State) (e : LogEntry) : (s.enqueue e).free = s.free := by unfold State.enqueue; dsimp only; (repeat' split) <;> rfl
@[simp] theorem State.enqueue_pending (s : State) (e : LogEntry) : (s.enqueue e).pending = s.pending := by unfold State.enqueue; dsimp only; (repeat' split) <;> rfl
@[simp] theorem State.raiseEntry_bank (s : State) (e : LogEntry) : (s.raiseEntry e).bank = s.bank := by simp only [State.raiseEntry]; (repeat' split) <;> simp
@[simp] theorem State.raiseEntry_prev (s : State) (e : LogEntry) : (s.raiseEntry e).prev = s.prev := by simp only [State.raiseEntry]; (repeat' split) <;> simp
@[simp] theorem State.raiseEntry_nv (s : State) (e : LogEntry) : (s.raiseEntry e).nv = s.nv := by simp only [State.raiseEntry]; (repeat' split) <;> simp
@[simp] theorem State.raiseEntry_grid (s : State) (e : LogEntry) : (s.raiseEntry e).grid = s.grid := by simp only [State.raiseEntry]; (repeat' split) <;> simp
@[simp] theorem State.raiseEntry_host (s : State) (e : LogEntry) : (s.raiseEntry e).host = s.host := by simp only [State.raiseEntry]; (repeat' split) <;> simp
@[simp] theorem State.raiseEntry_cust (s : State) (e : LogEntry) : (s.raiseEntry e).cust = s.cust := by simp only [State.raiseEntry]; (repeat' split) <;> simp
@[simp] theorem State.raiseEntry_afe (s : State) (e : LogEntry) : (s.raiseEntry e).afe = s.afe := by simp only [State.raiseEntry]; (repeat' split) <;> simp
@[simp] theorem State.raiseEntry_td (s : State) (e : LogEntry) : (s.raiseEntry e).td = s.td := by simp only [State.raiseEntry]; (repeat' split) <;> simp
@[simp] theorem State.raiseEntry_aux (s : State) (e : LogEntry) : (s.raiseEntry e).aux = s.aux := by simp only [State.raiseEntry]; (repeat' split) <;> simp
@[simp] theorem State.raiseEntry_pbus (s : State) (e : LogEntry) : (s.raiseEntry e).pbus = s.pbus := by simp only [State.raiseEntry]; (repeat' split) <;> simp
@[simp] theorem State.raiseEntry_eval (s : State) (e : LogEntry) : (s.raiseEntry e).eval = s.eval := by simp only [State.raiseEntry]; (repeat' split) <;> simp
@[simp] theorem State.raiseEntry_dio (s : State) (e : LogEntry) : (s.raiseEntry e).dio = s.dio := by simp only [State.raiseEntry]; (repeat' split) <;> simp
@[simp] theorem State.raiseEntry_bist (s : State) (e : LogEntry) : (s.raiseEntry e).bist = s.bist := by simp only [State.raiseEntry]; (repeat' split) <;> simp
@[simp] theorem State.raiseEntry_rec (s : State) (e : LogEntry) : (s.raiseEntry e).rec' = s.rec' := by simp only [State.raiseEntry]; (repeat' split) <;> simp
@[simp] theorem State.raiseEntry_pair (s : State) (e : LogEntry) : (s.raiseEntry e).pair = s.pair := by simp only [State.raiseEntry]; (repeat' split) <;> simp
@[simp] theorem State.raiseEntry_pwr (s : State) (e : LogEntry) : (s.raiseEntry e).pwr = s.pwr := by simp only [State.raiseEntry]; (repeat' split) <;> simp
@[simp] theorem State.raiseEntry_pads (s : State) (e : LogEntry) : (s.raiseEntry e).pads = s.pads := by simp only [State.raiseEntry]; (repeat' split) <;> simp
@[simp] theorem State.raiseEntry_free (s : State) (e : LogEntry) : (s.raiseEntry e).free = s.free := by simp only [State.raiseEntry]; (repeat' split) <;> simp
@[simp] theorem State.raiseEntry_pending (s : State) (e : LogEntry) : (s.raiseEntry e).pending = s.pending := by simp only [State.raiseEntry]; (repeat' split) <;> simp

theorem State.raiseTo_rd (s : State) (f g : Field) (v i j a b : Nat) (h : f.key i j ≠ g.key a b) :
    (s.raiseTo g v a b).rd f i j = s.rd f i j := State.rd_wr_other _ _ _ _ _ _ _ _ h

/-- A register that the append queue does not count in. -/
def logFree (k : Nat) : Bool :=
  k != EVT_QUEUE_MAX.VALUE.key 0 0 && k != EVT_SUPP_CNT.VALUE.key 0 0 && k != EVT_STATUS.QFULL.key 0 0

theorem logFree_intro (k : Nat) (h1 : k ≠ EVT_QUEUE_MAX.VALUE.key 0 0) (h2 : k ≠ EVT_SUPP_CNT.VALUE.key 0 0)
    (h3 : k ≠ EVT_STATUS.QFULL.key 0 0) : logFree k = true := by simp [logFree, h1, h2, h3]

theorem State.enqueue_rd (s : State) (e : LogEntry) (f : Field) (i j : Nat) (h : logFree (f.key i j) = true) :
    (s.enqueue e).rd f i j = s.rd f i j := by
  simp only [logFree, Bool.and_eq_true, bne_iff_ne, ne_eq] at h
  have hq : (if s.partFull e.code then s.wr EVT_STATUS.QFULL 1 else s).rd f i j = s.rd f i j := by
    split
    · exact State.rd_wr_other _ _ _ _ _ _ _ _ h.2
    · rfl
  unfold State.enqueue; dsimp only; split
  · rw [State.raiseTo_rd _ _ _ _ _ _ _ _ h.1.1, ← hq]; exact State.rd_congr rfl (by dsimp only) f i j
  · rw [State.rd_bump_other _ _ _ _ _ _ _ _ h.1.2, ← hq]; exact State.rd_congr rfl (by dsimp only) f i j

theorem State.raiseEntry_rd (s : State) (e : LogEntry) (f : Field) (i j : Nat) (h : logFree (f.key i j) = true) :
    (s.raiseEntry e).rd f i j = s.rd f i j := by
  have h' := h
  simp only [logFree, Bool.and_eq_true, bne_iff_ne, ne_eq] at h'
  simp only [State.raiseEntry]; repeat' split
  · exact State.enqueue_rd _ _ _ _ _ h
  · rw [State.enqueue_rd _ _ _ _ _ h]; exact State.rd_congr rfl rfl f i j
  · rw [State.rd_bump_other _ _ _ _ _ _ _ _ h'.1.2]; exact State.rd_congr rfl rfl f i j

@[simp] theorem State.logAt_bank (s : State) (dev code src val : Nat) : (s.logAt dev code src val).bank = s.bank := by unfold State.logAt; dsimp only; split <;> simp
@[simp] theorem State.logAt_prev (s : State) (dev code src val : Nat) : (s.logAt dev code src val).prev = s.prev := by unfold State.logAt; dsimp only; split <;> simp
@[simp] theorem State.logAt_nv (s : State) (dev code src val : Nat) : (s.logAt dev code src val).nv = s.nv := by unfold State.logAt; dsimp only; split <;> simp
@[simp] theorem State.logAt_grid (s : State) (dev code src val : Nat) : (s.logAt dev code src val).grid = s.grid := by unfold State.logAt; dsimp only; split <;> simp
@[simp] theorem State.logAt_cust (s : State) (dev code src val : Nat) : (s.logAt dev code src val).cust = s.cust := by unfold State.logAt; dsimp only; split <;> simp
@[simp] theorem State.logAt_afe (s : State) (dev code src val : Nat) : (s.logAt dev code src val).afe = s.afe := by unfold State.logAt; dsimp only; split <;> simp
@[simp] theorem State.logAt_td (s : State) (dev code src val : Nat) : (s.logAt dev code src val).td = s.td := by unfold State.logAt; dsimp only; split <;> simp
@[simp] theorem State.logAt_aux (s : State) (dev code src val : Nat) : (s.logAt dev code src val).aux = s.aux := by unfold State.logAt; dsimp only; split <;> simp
@[simp] theorem State.logAt_pbus (s : State) (dev code src val : Nat) : (s.logAt dev code src val).pbus = s.pbus := by unfold State.logAt; dsimp only; split <;> simp
@[simp] theorem State.logAt_eval (s : State) (dev code src val : Nat) : (s.logAt dev code src val).eval = s.eval := by unfold State.logAt; dsimp only; split <;> simp
@[simp] theorem State.logAt_dio (s : State) (dev code src val : Nat) : (s.logAt dev code src val).dio = s.dio := by unfold State.logAt; dsimp only; split <;> simp
@[simp] theorem State.logAt_bist (s : State) (dev code src val : Nat) : (s.logAt dev code src val).bist = s.bist := by unfold State.logAt; dsimp only; split <;> simp
@[simp] theorem State.logAt_rec (s : State) (dev code src val : Nat) : (s.logAt dev code src val).rec' = s.rec' := by unfold State.logAt; dsimp only; split <;> simp
@[simp] theorem State.logAt_pair (s : State) (dev code src val : Nat) : (s.logAt dev code src val).pair = s.pair := by unfold State.logAt; dsimp only; split <;> simp
@[simp] theorem State.logAt_pads (s : State) (dev code src val : Nat) : (s.logAt dev code src val).pads = s.pads := by unfold State.logAt; dsimp only; split <;> simp
@[simp] theorem State.logAt_free (s : State) (dev code src val : Nat) : (s.logAt dev code src val).free = s.free := by unfold State.logAt; dsimp only; split <;> simp
@[simp] theorem State.logAt_pending (s : State) (dev code src val : Nat) : (s.logAt dev code src val).pending = s.pending := by unfold State.logAt; dsimp only; split <;> simp
@[simp] theorem State.logEv_bank (s : State) (code src val : Nat) : (s.logEv code src val).bank = s.bank := by unfold State.logEv; simp
@[simp] theorem State.logEv_prev (s : State) (code src val : Nat) : (s.logEv code src val).prev = s.prev := by unfold State.logEv; simp
@[simp] theorem State.logEv_nv (s : State) (code src val : Nat) : (s.logEv code src val).nv = s.nv := by unfold State.logEv; simp
@[simp] theorem State.logEv_grid (s : State) (code src val : Nat) : (s.logEv code src val).grid = s.grid := by unfold State.logEv; simp
@[simp] theorem State.logEv_cust (s : State) (code src val : Nat) : (s.logEv code src val).cust = s.cust := by unfold State.logEv; simp
@[simp] theorem State.logEv_afe (s : State) (code src val : Nat) : (s.logEv code src val).afe = s.afe := by unfold State.logEv; simp
@[simp] theorem State.logEv_td (s : State) (code src val : Nat) : (s.logEv code src val).td = s.td := by unfold State.logEv; simp
@[simp] theorem State.logEv_aux (s : State) (code src val : Nat) : (s.logEv code src val).aux = s.aux := by unfold State.logEv; simp
@[simp] theorem State.logEv_pbus (s : State) (code src val : Nat) : (s.logEv code src val).pbus = s.pbus := by unfold State.logEv; simp
@[simp] theorem State.logEv_eval (s : State) (code src val : Nat) : (s.logEv code src val).eval = s.eval := by unfold State.logEv; simp
@[simp] theorem State.logEv_dio (s : State) (code src val : Nat) : (s.logEv code src val).dio = s.dio := by unfold State.logEv; simp
@[simp] theorem State.logEv_bist (s : State) (code src val : Nat) : (s.logEv code src val).bist = s.bist := by unfold State.logEv; simp
@[simp] theorem State.logEv_rec (s : State) (code src val : Nat) : (s.logEv code src val).rec' = s.rec' := by unfold State.logEv; simp
@[simp] theorem State.logEv_pair (s : State) (code src val : Nat) : (s.logEv code src val).pair = s.pair := by unfold State.logEv; simp
@[simp] theorem State.logEv_pads (s : State) (code src val : Nat) : (s.logEv code src val).pads = s.pads := by unfold State.logEv; simp
@[simp] theorem State.logEv_free (s : State) (code src val : Nat) : (s.logEv code src val).free = s.free := by unfold State.logEv; simp
@[simp] theorem State.logEv_pending (s : State) (code src val : Nat) : (s.logEv code src val).pending = s.pending := by unfold State.logEv; simp

/-- Logging anything but INTERNAL_FAULT raises the entry and does nothing else. -/
theorem State.logAt_eq (s : State) (dev code src val : Nat) (h : code ≠ 0x0006) :
    s.logAt dev code src val = s.raiseEntry (s.entryWith dev (s.taiOf dev) s.tqByte code src val) := by simp [State.logAt, h]

theorem State.logAt_host (s : State) (dev code src val : Nat) (h : code ≠ 0x0006) : (s.logAt dev code src val).host = s.host := by
  simp [State.logAt_eq _ _ _ _ _ h]
theorem State.logAt_pwr (s : State) (dev code src val : Nat) (h : code ≠ 0x0006) : (s.logAt dev code src val).pwr = s.pwr := by
  simp [State.logAt_eq _ _ _ _ _ h]
theorem State.logEv_host (s : State) (code src val : Nat) (h : code ≠ 0x0006) : (s.logEv code src val).host = s.host :=
  State.logAt_host _ _ _ _ _ h
theorem State.logEv_pwr (s : State) (code src val : Nat) (h : code ≠ 0x0006) : (s.logEv code src val).pwr = s.pwr :=
  State.logAt_pwr _ _ _ _ _ h

/-- Logging an event changes only the registers in which the queue counts, and, for INTERNAL_FAULT, those of the interrupts. -/
theorem State.logAt_rd (s : State) (dev code src val : Nat) (f : Field) (i j : Nat) (h : logFree (f.key i j) = true)
    (hc : code ≠ 0x0006) : (s.logAt dev code src val).rd f i j = s.rd f i j := by
  rw [State.logAt_eq _ _ _ _ _ hc, State.raiseEntry_rd _ _ _ _ _ h]
theorem State.logEv_rd (s : State) (code src val : Nat) (f : Field) (i j : Nat) (h : logFree (f.key i j) = true)
    (hc : code ≠ 0x0006) : (s.logEv code src val).rd f i j = s.rd f i j := State.logAt_rd _ _ _ _ _ _ _ _ h hc

@[simp] theorem State.logAt_phase (s : State) (dev code src val : Nat) : (s.logAt dev code src val).pwr.phase = s.pwr.phase := by
  unfold State.logAt; dsimp only; split <;> simp
@[simp] theorem State.logEv_phase (s : State) (code src val : Nat) : (s.logEv code src val).pwr.phase = s.pwr.phase := State.logAt_phase _ _ _ _ _
@[simp] theorem State.logAt_up (s : State) (dev code src val : Nat) : (s.logAt dev code src val).up = s.up := by simp [State.up]
@[simp] theorem State.logEv_up (s : State) (code src val : Nat) : (s.logEv code src val).up = s.up := by simp [State.up]
@[simp] theorem State.bump_up (s : State) (f : Field) (i j k : Nat) : (s.bump f i j k).up = s.up := rfl
@[simp] theorem State.cause_up (s : State) (i : Nat) : (s.cause i).up = s.up := by simp [State.up]

end Sys2Proof.Machine
end

