-- ==== Sys2Proof/Laws/Frames.lean ====
section
/-! SUPPORT. What loops, the field die's side and the life contact leave alone. -/
namespace Sys2Proof.Machine
open Reg

theorem State.wrCause_rd_same (s : State) (f : Field) (v i : Nat) (h : f.acc ≠ .SP) (ho : f.acc ≠ .OTP) (hv : v < 2 ^ f.width)
    (h1 : f.key 0 0 ≠ HOST_IRQ_PEND.MASK.key 0 0) (h2 : f.key 0 0 ≠ HOST_CAUSE.BITS.key 0 0) : (s.wrCause f v i).rd f = v := by
  unfold State.wrCause
  split
  · assumption
  · rw [State.cause_rd _ _ _ _ _ h1 h2, State.rd_wr_same _ _ _ _ _ h ho, Nat.mod_eq_of_lt hv]

theorem State.wrCause_rd_other (s : State) (f : Field) (v i : Nat) (g : Field) (k l : Nat) (h : g.key k l ≠ f.key 0 0)
    (h1 : g.key k l ≠ HOST_IRQ_PEND.MASK.key 0 0) (h2 : g.key k l ≠ HOST_CAUSE.BITS.key 0 0) : (s.wrCause f v i).rd g k l = s.rd g k l := by
  unfold State.wrCause
  split
  · rfl
  · rw [State.cause_rd _ _ _ _ _ h1 h2, State.rd_wr_other _ _ _ _ _ _ _ _ h]

/-- While the logic side runs, what happens on the die happens to the whole state. -/
theorem State.viaDie_of_up {s : State} (h : s.up = true) (f : State → State) : s.viaDie f = f s := by simp [State.viaDie, h]

/-- STATE shows whether no condition of the life contact fails (R412). -/
theorem State.alive_state (s : State) : s.alive.rd DIO_ALIVE.STATE = b2n (s.aliveCause == 0) := by
  unfold State.alive
  rw [State.rd_wr_other _ _ _ _ _ _ _ _ (by decide), State.rd_wr_same _ _ _ _ _ (by decide) (by decide)]
  cases (s.aliveCause == 0) <;> rfl

/-- The life contact writes only its own two fields. -/
theorem State.alive_rd (s : State) (f : Field) (i j : Nat) (h1 : f.key i j ≠ DIO_ALIVE.STATE.key 0 0)
    (h2 : f.key i j ≠ DIO_ALIVE.CAUSE.key 0 0) : s.alive.rd f i j = s.rd f i j := by
  unfold State.alive
  rw [State.rd_wr_other _ _ _ _ _ _ _ _ h2, State.rd_wr_other _ _ _ _ _ _ _ _ h1]

@[simp] theorem State.alive_grid (s : State) : s.alive.grid = s.grid := rfl
@[simp] theorem State.alive_log (s : State) : s.alive.log = s.log := rfl
@[simp] theorem State.alive_host (s : State) : s.alive.host = s.host := rfl
@[simp] theorem State.alive_cust (s : State) : s.alive.cust = s.cust := rfl
@[simp] theorem State.alive_afe (s : State) : s.alive.afe = s.afe := rfl
@[simp] theorem State.alive_td (s : State) : s.alive.td = s.td := rfl
@[simp] theorem State.alive_aux (s : State) : s.alive.aux = s.aux := rfl
@[simp] theorem State.alive_pbus (s : State) : s.alive.pbus = s.pbus := rfl
@[simp] theorem State.alive_eval (s : State) : s.alive.eval = s.eval := rfl
@[simp] theorem State.alive_dio (s : State) : s.alive.dio = s.dio := rfl
@[simp] theorem State.alive_bist (s : State) : s.alive.bist = s.bist := rfl
@[simp] theorem State.alive_rec (s : State) : s.alive.rec' = s.rec' := rfl
@[simp] theorem State.alive_pair (s : State) : s.alive.pair = s.pair := rfl
@[simp] theorem State.alive_pwr (s : State) : s.alive.pwr = s.pwr := rfl
@[simp] theorem State.alive_free (s : State) : s.alive.free = s.free := rfl
@[simp] theorem State.alive_pending (s : State) : s.alive.pending = s.pending := rfl
@[simp] theorem State.alive_bank (s : State) : s.alive.bank = s.bank := rfl
@[simp] theorem State.alive_prev (s : State) : s.alive.prev = s.prev := rfl
@[simp] theorem State.alive_nv (s : State) : s.alive.nv = s.nv := rfl

/-- The conditions of the life contact do not depend on what it shows. -/
theorem State.alive_aliveCause (s : State) : s.alive.aliveCause = s.aliveCause := by
  have h : ∀ (f : Field), f.key 0 0 ≠ DIO_ALIVE.STATE.key 0 0 → f.key 0 0 ≠ DIO_ALIVE.CAUSE.key 0 0 → s.alive.rd f = s.rd f := by
    intro f h1 h2; unfold State.alive
    rw [State.rd_wr_other _ _ _ _ _ _ _ _ h2, State.rd_wr_other _ _ _ _ _ _ _ _ h1]
  have hp : s.alive.pwr = s.pwr := rfl
  have hd : s.alive.dio = s.dio := rfl
  have a1 := h DIO_ALIVE.EN (by decide) (by decide)
  have a2 := h DIO_ALIVE.HOSTOFF (by decide) (by decide)
  have a3 := h PWR_START.STEP (by decide) (by decide)
  have a4 := h DIO_STATUS.LINK (by decide) (by decide)
  have a5 := h DIO_ALIVE.MAINT_OFF (by decide) (by decide)
  have a6 : s.alive.role = s.role := h PAIR_STATUS.ROLE (by decide) (by decide)
  have a7 : s.alive.maint = s.maint := by unfold State.maint; rw [h HOST_STATUS.MAINT (by decide) (by decide)]
  unfold State.aliveCause
  rw [a1,a2,a3,a4,a5,a6,a7,hp,hd]

/-- CAUSE fits its field. -/
theorem State.aliveCause_lt (s : State) : s.aliveCause < 16 := by
  unfold State.aliveCause; repeat' (first | omega | split)

/-- A part of the state that no pass of a loop changes stays over the loop. -/
theorem forL_frame {σ α β : Type} (p : σ → α) (f : β → σ → σ) (h : ∀ i s, p (f i s) = p s) (l : List β) (s : σ) :
    p (forL l f s) = p s := by
  induction l generalizing s with
  | nil => rfl
  | cons a l ih => exact (ih _).trans (h a s)

/-- The same over a loop of indices. -/
theorem forN_frame {σ α : Type} (p : σ → α) (f : Nat → σ → σ) (h : ∀ i s, p (f i s) = p s) (n : Nat) (s : σ) :
    p (forN n f s) = p s := forL_frame p f h _ s

end Sys2Proof.Machine
end

