-- ==== Sys2Proof/Laws/Link.lean ====
section
/-! SUPPORT. Bytes and checks of the Lumko frames: numbers in little-endian bytes, the range of a CRC-32C. -/
namespace Sys2Proof.Machine

@[simp] theorem leBytes_length (n v : Nat) : (leBytes n v).length = n := by
  induction n generalizing v with
  | zero => rfl
  | succ n ih => simp [leBytes, ih]

/-- A number read back from its little-endian bytes, as far as they hold it. -/
theorem ofLe_leBytes (n v : Nat) : ofLe (leBytes n v) = v % 256 ^ n := by
  induction n generalizing v with
  | zero => simp [leBytes, ofLe, Nat.mod_one]
  | succ n ih =>
    have h : v % 256 ^ (n + 1) = v % 256 + 256 * (v / 256 % 256 ^ n) := by rw [Nat.pow_succ', Nat.mod_mul]
    rw [h, leBytes, ofLe, ih, BitVec.toNat_ofNat]

theorem crc32cByte_lt {crc : Nat} (b : BitVec 8) (h : crc < 2 ^ 32) : crc32cByte crc b < 2 ^ 32 := by
  have step : ∀ c < 2 ^ 32, (if c % 2 = 1 then c / 2 ^^^ 0x82F63B78 else c / 2) < 2 ^ 32 := fun c hc => by
    split
    · exact Nat.xor_lt_two_pow (by omega) (by decide)
    · omega
  have fold : ∀ (l : List Nat) (c : Nat), c < 2 ^ 32 →
      l.foldl (fun c _ => if c % 2 = 1 then c / 2 ^^^ 0x82F63B78 else c / 2) c < 2 ^ 32 := fun l => by
    induction l with
    | nil => exact fun _ hc => hc
    | cons a l ih => exact fun c hc => ih _ (step c hc)
  exact fold _ _ (Nat.xor_lt_two_pow h (by have := b.isLt; omega))

theorem crc32c_lt (l : List (BitVec 8)) : crc32c l < 2 ^ 32 := by
  have fold : ∀ (l : List (BitVec 8)) (c : Nat), c < 2 ^ 32 → l.foldl crc32cByte c < 2 ^ 32 := fun l => by
    induction l with
    | nil => exact fun _ hc => hc
    | cons b l ih => exact fun c hc => ih _ (crc32cByte_lt b hc)
  exact Nat.xor_lt_two_pow (fold l _ (by decide)) (by decide)

@[simp] theorem Snap.endPay_length (x : Snap) : x.endPay.length = 12 := by simp [Snap.endPay]

end Sys2Proof.Machine
end

