-- ==== Sys2Proof/Laws/Mem.lean ====
section
/-! SUPPORT. What the operations on the berth SRAM keep: every one of them leaves a memory in canonical form. -/
namespace Sys2Proof.Machine

/-- A memory above an address is one above any lower bound. -/
theorem Memory.wfAbove_mono (m : List Host.Cell) (a b : Option Nat) (h : ∀ x, a = some x → ∃ y, b = some y ∧ x ≤ y) (w : Memory.wfAbove b m = true) :
    Memory.wfAbove a m = true := by
  cases m with
  | nil => rfl
  | cons p r =>
    obtain ⟨k, v⟩ := p
    cases a with
    | none => cases b <;> simp_all [Memory.wfAbove]
    | some x =>
      obtain ⟨y, hb, hy⟩ := h x rfl
      subst hb
      simp only [Memory.wfAbove, Bool.and_eq_true, decide_eq_true_eq] at w ⊢
      exact ⟨⟨by omega, w.1.2⟩, w.2⟩

/-- Putting a byte before a memory above its address. -/
theorem memCons_above (lo : Option Nat) (a : Nat) (v : BitVec 8) (r : List Host.Cell) (hl : ∀ x, lo = some x → x < a)
    (w : Memory.wfAbove (some a) r = true) : Memory.wfAbove lo (memCons a v r) = true := by
  unfold memCons
  split
  · exact Memory.wfAbove_mono r lo (some a) (fun x e => ⟨a, rfl, Nat.le_of_lt (hl x e)⟩) w
  · simp only [Memory.wfAbove, Bool.and_eq_true]
    refine ⟨⟨?_, by simpa using ‹_›⟩, w⟩
    cases lo with
    | none => rfl
    | some x => simpa using hl x rfl

/-- Writing a byte above a bound. -/
theorem memWrite_above (m : List Host.Cell) (lo : Option Nat) (a : Nat) (v : BitVec 8) (hl : ∀ x, lo = some x → x < a)
    (w : Memory.wfAbove lo m = true) : Memory.wfAbove lo (memWrite m a v) = true := by
  induction m generalizing lo with
  | nil => exact memCons_above lo a v [] hl rfl
  | cons p r ih =>
    obtain ⟨k, u⟩ := p
    simp only [Memory.wfAbove, Bool.and_eq_true] at w
    unfold memWrite
    split
    · subst_vars; exact memCons_above lo _ v r hl w.2
    · split
      · refine memCons_above lo a v _ hl ?_
        simp only [Memory.wfAbove, Bool.and_eq_true, decide_eq_true_eq]
        exact ⟨⟨by assumption, by simpa using w.1.2⟩, w.2⟩
      · simp only [Memory.wfAbove, Bool.and_eq_true]
        refine ⟨w.1, ih (some k) (fun x e => ?_) w.2⟩
        cases e; omega

/-- A byte written keeps the canonical form. -/
theorem memWrite_wf (m : List Host.Cell) (a : Nat) (v : BitVec 8) (w : Memory.wf m = true) : Memory.wf (memWrite m a v) = true :=
  memWrite_above m none a v (fun _ e => by cases e) w

/-- A ring's bytes keep it. -/
theorem ringWrite_wf (m : List Host.Cell) (base size x : Nat) (l : List Byte) (w : Memory.wf m = true) : Memory.wf (ringWrite m base size x l) = true := by
  induction l generalizing m x with
  | nil => exact w
  | cons b l ih => exact ih _ _ (memWrite_wf m _ b w)

/-- Bytes written one by one, as the host writes B0, keep it. -/
theorem memWrites_wf (m : List Host.Cell) (l : List (Nat × Byte)) (w : Memory.wf m = true) :
    Memory.wf (l.foldl (fun m x => if x.1 < 131072 then memWrite m x.1 x.2 else m) m) = true := by
  induction l generalizing m with
  | nil => exact w
  | cons x l ih =>
    refine ih _ ?_
    dsimp only
    split
    · exact memWrite_wf m _ _ w
    · exact w

/-- Memory after reset lists nothing. -/
theorem reset_mem_wf : Memory.wf State.reset.host.mem = true := by decide

end Sys2Proof.Machine
end

