-- ==== Sys2Proof/Laws/Settings.lean ====
section
/-! SUPPORT. What leaves the settings in force alone: every operation but the swap, the grid's tick that carries it out and start-up. -/
namespace Sys2Proof.Machine
open Reg
@[simp] theorem State.settings_mk (regs bank prev nv grid log host cust afe td aux pbus eval dio bist rec' pair pwr tap pads free pending) :
    State.settings { regs, bank, prev, nv, grid, log, host, cust, afe, td, aux, pbus, eval, dio, bist, rec', pair, pwr, tap, pads, free, pending }
      = bank := rfl
theorem bank_settings (s : State) : s.bank = s.settings := rfl
@[simp] theorem forL_settings {α : Type} (l : List α) (f : α → State → State) (s : State) (h : ∀ a s, (f a s).settings = s.settings) :
    (forL l f s).settings = s.settings := by
  unfold forL; induction l generalizing s with
  | nil => rfl
  | cons a r ih => simp [List.foldl_cons, ih, h]
@[simp] theorem forN_settings (n : Nat) (f : Nat → State → State) (s : State) (h : ∀ a s, (f a s).settings = s.settings) :
    (forN n f s).settings = s.settings := forL_settings _ _ _ h
@[simp] theorem ite_settings (c : Prop) [Decidable c] (a b : State) : (if c then a else b).settings = if c then a.settings else b.settings := by
  split <;> rfl
theorem State.settings_ite {c : Prop} [Decidable c] {a b : State} {x : Bank} (ha : a.settings = x) (hb : b.settings = x) :
    (if c then a else b).settings = x := by
  split <;> assumption
@[simp] theorem State.wr_settings (s : State) (a1) (a2) (a3) (a4) : (State.wr s a1 a2 a3 a4).settings = s.settings := by
  unfold State.wr; simp [bank_settings]
@[simp] theorem State.wrI_settings (s : State) (a1) (a2) (a3) (a4) : (State.wrI s a1 a2 a3 a4).settings = s.settings := by unfold State.wrI; simp
@[simp] theorem State.bump_settings (s : State) (a1) (a2) (a3) (a4) : (State.bump s a1 a2 a3 a4).settings = s.settings := by unfold State.bump; simp
@[simp] theorem State.raiseTo_settings (s : State) (a1) (a2) (a3) (a4) : (State.raiseTo s a1 a2 a3 a4).settings = s.settings := by
  unfold State.raiseTo; simp
@[simp] theorem State.wr64_settings (s : State) (a1) (a2) (a3) (a4) : (State.wr64 s a1 a2 a3 a4).settings = s.settings := by unfold State.wr64; simp
@[simp] theorem State.atTime_settings (s : State) (a1) : (State.atTime s a1).settings = s.settings := by
  unfold State.atTime; split
  · exact State.settings_mk ..
  · rfl
@[simp] theorem State.fresh_settings (s : State) (a1) : (State.fresh s a1).2.settings = s.settings := by unfold State.fresh; simp [bank_settings]
@[simp] theorem State.modGrid_settings (s : State) (a1) : (State.modGrid s a1).settings = s.settings := by unfold State.modGrid; simp [bank_settings]
@[simp] theorem State.modLog_settings (s : State) (a1) : (State.modLog s a1).settings = s.settings := by unfold State.modLog; simp [bank_settings]
@[simp] theorem State.modHost_settings (s : State) (a1) : (State.modHost s a1).settings = s.settings := by unfold State.modHost; simp [bank_settings]
@[simp] theorem State.modCust_settings (s : State) (a1) : (State.modCust s a1).settings = s.settings := by unfold State.modCust; simp [bank_settings]
@[simp] theorem State.modAfe_settings (s : State) (a1) : (State.modAfe s a1).settings = s.settings := by unfold State.modAfe; simp [bank_settings]
@[simp] theorem State.modAux_settings (s : State) (a1) : (State.modAux s a1).settings = s.settings := by unfold State.modAux; simp [bank_settings]
@[simp] theorem State.modPbus_settings (s : State) (a1) : (State.modPbus s a1).settings = s.settings := by unfold State.modPbus; simp [bank_settings]
@[simp] theorem State.modNet_settings (s : State) (a1) : (State.modNet s a1).settings = s.settings := by unfold State.modNet; simp
@[simp] theorem State.modPtp_settings (s : State) (a1) : (State.modPtp s a1).settings = s.settings := by unfold State.modPtp; simp
@[simp] theorem State.modTime_settings (s : State) (a1) : (State.modTime s a1).settings = s.settings := by unfold State.modTime; simp
@[simp] theorem State.modEval_settings (s : State) (a1) : (State.modEval s a1).settings = s.settings := by unfold State.modEval; simp [bank_settings]
@[simp] theorem State.modDio_settings (s : State) (a1) : (State.modDio s a1).settings = s.settings := by unfold State.modDio; simp [bank_settings]
@[simp] theorem State.modClaim_settings (s : State) (a1) : (State.modClaim s a1).settings = s.settings := by unfold State.modClaim; simp
@[simp] theorem State.modBist_settings (s : State) (a1) : (State.modBist s a1).settings = s.settings := by unfold State.modBist; simp [bank_settings]
@[simp] theorem State.modBistNv_settings (s : State) (a1) : (State.modBistNv s a1).settings = s.settings := by
  unfold State.modBistNv; simp [bank_settings]
@[simp] theorem State.modPair_settings (s : State) (a1) : (State.modPair s a1).settings = s.settings := by unfold State.modPair; simp [bank_settings]
@[simp] theorem State.modRec_settings (s : State) (a1) : (State.modRec s a1).settings = s.settings := by unfold State.modRec; simp [bank_settings]
@[simp] theorem State.modRecNv_settings (s : State) (a1) : (State.modRecNv s a1).settings = s.settings := by
  unfold State.modRecNv; simp [bank_settings]
@[simp] theorem State.modPwr_settings (s : State) (a1) : (State.modPwr s a1).settings = s.settings := by unfold State.modPwr; simp [bank_settings]
@[simp] theorem State.modNv_settings (s : State) (a1) : (State.modNv s a1).settings = s.settings := by unfold State.modNv; simp [bank_settings]
@[simp] theorem State.modCustNv_settings (s : State) (a1) : (State.modCustNv s a1).settings = s.settings := by
  unfold State.modCustNv; simp [bank_settings]
@[simp] theorem State.modLogNv_settings (s : State) (a1) : (State.modLogNv s a1).settings = s.settings := by
  unfold State.modLogNv; simp [bank_settings]
@[simp] theorem State.modAfeNv_settings (s : State) (a1) : (State.modAfeNv s a1).settings = s.settings := by
  unfold State.modAfeNv; simp [bank_settings]
@[simp] theorem State.raiseVec_settings (s : State) (a1) : (State.raiseVec s a1).settings = s.settings := by
  unfold State.raiseVec; simp [bank_settings]
@[simp] theorem State.cause_settings (s : State) (a1) : (State.cause s a1).settings = s.settings := by unfold State.cause; simp
@[simp] theorem State.wrCause_settings (s : State) (a1) (a2) (a3) : (State.wrCause s a1 a2 a3).settings = s.settings := by unfold State.wrCause; simp
@[simp] theorem State.setRole_settings (s : State) (a1) : (State.setRole s a1).settings = s.settings := by unfold State.setRole; simp
@[simp] theorem State.enqueue_settings (s : State) (a1) : (State.enqueue s a1).settings = s.settings := by unfold State.enqueue; simp [bank_settings]
@[simp] theorem State.raiseEntry_settings (s : State) (a1) : (State.raiseEntry s a1).settings = s.settings := by
  unfold State.raiseEntry; simp [bank_settings]
@[simp] theorem State.logAt_settings (s : State) (a1) (a2) (a3) (a4) : (State.logAt s a1 a2 a3 a4).settings = s.settings := by
  unfold State.logAt; simp [bank_settings]
@[simp] theorem State.logEv_settings (s : State) (a1) (a2) (a3) : (State.logEv s a1 a2 a3).settings = s.settings := by unfold State.logEv; simp
@[simp] theorem State.setMsgs_settings (s : State) (a1) (a2) : (State.setMsgs s a1 a2).settings = s.settings := by
  unfold State.setMsgs; simp [bank_settings]
@[simp] theorem State.berthIrq_settings (s : State) (a1) : (State.berthIrq s a1).settings = s.settings := by
  unfold State.berthIrq; dsimp only; (repeat' split) <;> simp [bank_settings]
@[simp] theorem State.append_settings (s : State) (a1) (a2) : (State.append s a1 a2).settings = s.settings := by
  unfold State.append; simp [bank_settings]
@[simp] theorem State.dropOne_settings (s : State) (a1) : (State.dropOne s a1).settings = s.settings := by unfold State.dropOne; simp [bank_settings]
@[simp] theorem State.makeRoom_settings (s : State) (a1) (a2) (a3) : (State.makeRoom s a1 a2 a3).settings = s.settings := by
  induction a3 generalizing s with
  | zero => simp [State.makeRoom]
  | succ _ ih => simp only [State.makeRoom]; (repeat' split) <;> simp [ih]
@[simp] theorem State.putMsg_settings (s : State) (a1) (a2) (a3) : (State.putMsg s a1 a2 a3).1.settings = s.settings := by
  unfold State.putMsg; dsimp only; (repeat' split) <;> simp
@[simp] theorem State.ok_settings (s : State) (a1) : (State.ok s a1).st.settings = s.settings := by unfold State.ok; simp
@[simp] theorem State.accepted_settings (s : State) (a1) : (State.accepted s a1).st.settings = s.settings := by unfold State.accepted; simp
@[simp] theorem State.badTarget_settings (s : State) (a1) (a2) : (State.badTarget s a1 a2).st.settings = s.settings := by unfold State.badTarget; simp
@[simp] theorem State.busy_settings (s : State) (a1) (a2) : (State.busy s a1 a2).st.settings = s.settings := by unfold State.busy; simp
@[simp] theorem State.badLength_settings (s : State) : (State.badLength s).st.settings = s.settings := by unfold State.badLength; simp
@[simp] theorem State.answer_settings (s : State) (a1) (a2) : (State.answer s a1 a2).st.settings = s.settings := by unfold State.answer; simp
@[simp] theorem State.setCredits_settings (s : State) : (State.setCredits s).settings = s.settings := by unfold State.setCredits; simp
@[simp] theorem State.reply_settings (s : State) (a1) (a2) (a3) (a4) (a5) (a6) : (State.reply s a1 a2 a3 a4 a5 a6).settings = s.settings := by
  unfold State.reply; simp
@[simp] theorem State.onTick_settings (s : State) (n : Nat) (f : State → State) : (s.onTick n f).settings = s.settings := rfl
@[simp] theorem State.clockCycle_settings (s : State) : (State.clockCycle s).settings = s.settings := by
  unfold State.clockCycle; exact State.settings_mk ..
@[simp] theorem State.timeBound_settings (s : State) : (State.timeBound s).settings = s.settings := by unfold State.timeBound; simp
@[simp] theorem State.modTick_settings (s : State) (a1) (a2) : (State.modTick s a1 a2).settings = s.settings := by unfold State.modTick; simp
@[simp] theorem State.showSsw_settings (s : State) (a1) : (State.showSsw s a1).settings = s.settings := by
  unfold State.showSsw; split <;> simp [bank_settings]
@[simp] theorem State.setSample_settings (s : State) (a1) (a2) (a3) : (State.setSample s a1 a2 a3).settings = s.settings := by
  unfold State.setSample; dsimp only; (repeat' split) <;> simp
@[simp] theorem State.applyTau_settings (s : State) (a1) (a2) (a3) : (State.applyTau s a1 a2 a3).settings = s.settings := by
  unfold State.applyTau; simp
@[simp] theorem State.setFreq_settings (s : State) (a1) : (State.setFreq s a1).settings = s.settings := by unfold State.setFreq; simp [bank_settings]
@[simp] theorem State.restamp_settings (s : State) (a1) : (State.restamp s a1).settings = s.settings := by
  unfold State.restamp; dsimp only; (repeat' split) <;> simp
@[simp] theorem State.takeFreq_settings (s : State) (a1) : (State.takeFreq s a1).settings = s.settings := by unfold State.takeFreq; simp
@[simp] theorem State.trackDecide_settings (s : State) (a1) (a2) (a3) : (State.trackDecide s a1 a2 a3).settings = s.settings := by
  unfold State.trackDecide; simp [bank_settings]
@[simp] theorem State.trackSet_settings (s : State) (a1) : (State.trackSet s a1).settings = s.settings := by unfold State.trackSet; simp [bank_settings]
@[simp] theorem State.trackCycle_settings (s : State) : (State.trackCycle s).settings = s.settings := by
  unfold State.trackCycle; split <;> simp [bank_settings]
@[simp] theorem State.setChan_settings (s : State) (a1) (a2) : (State.setChan s a1 a2).settings = s.settings := by
  unfold State.setChan; simp [bank_settings]
@[simp] theorem State.happen_settings (s : State) (a1) (a2) : (State.happen s a1 a2).settings = s.settings := by unfold State.happen; simp
@[simp] theorem State.chanLog_settings (s : State) (a1) (a2) (a3) (a4) : (State.chanLog s a1 a2 a3 a4).settings = s.settings := by
  unfold State.chanLog; simp
@[simp] theorem State.valWindowEnd_settings (s : State) (a1) (a2) : (State.valWindowEnd s a1 a2).settings = s.settings := by
  unfold State.valWindowEnd; simp
@[simp] theorem State.twinOnset_settings (s : State) (a1) : (State.twinOnset s a1).settings = s.settings := by unfold State.twinOnset; simp
@[simp] theorem State.twinWindowEnd_settings (s : State) (a1) (a2) : (State.twinWindowEnd s a1 a2).settings = s.settings := by
  unfold State.twinWindowEnd; simp
@[simp] theorem State.valSample_settings (s : State) (a1) (a2) (a3) (a4) : (State.valSample s a1 a2 a3 a4).settings = s.settings := by
  unfold State.valSample; simp
@[simp] theorem State.flagFrom_settings (s : State) (a1) (a2) (a3) (a4) : (State.flagFrom s a1 a2 a3 a4).settings = s.settings := by
  unfold State.flagFrom; simp
@[simp] theorem State.flagUntil_settings (s : State) (a1) (a2) (a3) : (State.flagUntil s a1 a2 a3).settings = s.settings := by
  unfold State.flagUntil; simp
@[simp] theorem State.modReset_settings (s : State) (a1) : (State.modReset s a1).settings = s.settings := by unfold State.modReset; simp
@[simp] theorem State.overload_settings (s : State) (a1) (a2) (a3) (a4) : (State.overload s a1 a2 a3 a4).settings = s.settings := by
  unfold State.overload; simp
@[simp] theorem State.splicePeriod_settings (s : State) (a1) (a2) (a3) : (State.splicePeriod s a1 a2 a3).1.settings = s.settings := by
  unfold State.splicePeriod; simp
@[simp] theorem State.spliceRestart_settings (s : State) (a1) : (State.spliceRestart s a1).settings = s.settings := by
  unfold State.spliceRestart; simp
@[simp] theorem State.holdRegs_settings (s : State) (a1) (a2) (a3) (a4) (a5) : (State.holdRegs s a1 a2 a3 a4 a5).settings = s.settings := by unfold State.holdRegs; simp
@[simp] theorem State.heldDone_settings (s : State) (a1) : (State.heldDone s a1).settings = s.settings := by
  unfold State.heldDone; dsimp only; split <;> simp
@[simp] theorem State.holdFrom_settings (s : State) (a1) (a2) (a3) (a4) (a5) : (State.holdFrom s a1 a2 a3 a4 a5).settings = s.settings := by unfold State.holdFrom; simp
@[simp] theorem State.spliceRestartAt_settings (s : State) (a1) (a2) (a3) : (State.spliceRestartAt s a1 a2 a3).settings = s.settings := by unfold State.spliceRestartAt; simp
@[simp] theorem State.chainReset_settings (s : State) (a1) : (State.chainReset s a1).settings = s.settings := by unfold State.chainReset; simp
@[simp] theorem State.storeBanks_settings (s : State) (a1) : (State.storeBanks s a1).settings = s.settings := by
  unfold State.storeBanks; simp
@[simp] theorem State.fltStatus_settings (s : State) (a1) : (State.fltStatus s a1).settings = s.settings := by unfold State.fltStatus; simp
@[simp] theorem State.swapFinished_settings (s : State) (a1) (a2) : (State.swapFinished s a1 a2).settings = s.settings := by
  unfold State.swapFinished; simp [bank_settings]
@[simp] theorem State.swapDropped_settings (s : State) (a1) (a2) : (State.swapDropped s a1 a2).settings = s.settings := by
  unfold State.swapDropped; simp
@[simp] theorem State.swapStart_settings (s : State) (a1) (a2) : (State.swapStart s a1 a2).settings = s.settings := by
  unfold State.swapStart; dsimp only; (repeat' split) <;> simp
@[simp] theorem State.swapDone_settings (s : State) (a1) (a2) : (State.swapDone s a1 a2).settings = s.settings := by
  unfold State.swapDone; dsimp only; (repeat' split) <;> simp
@[simp] theorem State.fadeStep_settings (s : State) (a1) (a2) : (State.fadeStep s a1 a2).settings = s.settings := by unfold State.fadeStep; simp
@[simp] theorem State.baseOut_settings (s : State) (a1) (a2) (a3) (a4) (a5) : (State.baseOut s a1 a2 a3 a4 a5).settings = s.settings := by
  unfold State.baseOut; simp
@[simp] theorem State.secondOut_settings (s : State) (a1) (a2) : (State.secondOut s a1 a2).settings = s.settings := by unfold State.secondOut; simp
@[simp] theorem State.basePend_settings (s : State) (a1) (a2) : (State.basePend s a1 a2).settings = s.settings := by unfold State.basePend; simp
@[simp] theorem State.strobesTo_settings (s : State) (c t n : Nat) : (s.strobesTo c t n).settings = s.settings := by
  induction n generalizing s with
  | zero => rfl
  | succ n ih => simp only [State.strobesTo]; (repeat' split) <;> simp [ih]
@[simp] theorem State.strobes_settings (s : State) (a1) (a2) : (State.strobes s a1 a2).settings = s.settings := by unfold State.strobes; simp
@[simp] theorem State.firStages_settings (s : State) (a1) (a2) : (State.firStages s a1 a2).settings = s.settings := by
  unfold State.firStages; dsimp only; (repeat' split) <;> simp [bank_settings]
@[simp] theorem State.chainWord_settings (s : State) (a1) (a2) (a3) : (State.chainWord s a1 a2 a3).settings = s.settings := by
  unfold State.chainWord; simp
@[simp] theorem State.syncReset_settings (s : State) (a1) : (State.syncReset s a1).settings = s.settings := by
  unfold State.syncReset; dsimp only; (repeat' split) <;> simp
@[simp] theorem State.cancelSwaps_settings (s : State) (a1) : (State.cancelSwaps s a1).settings = s.settings := by unfold State.cancelSwaps; simp
@[simp] theorem State.normReg_settings (s : State) (a1) : (State.normReg s a1).settings = s.settings := by unfold State.normReg; simp
@[simp] theorem State.digRegs_settings (s : State) (a1) : (State.digRegs s a1).settings = s.settings := by unfold State.digRegs; simp
@[simp] theorem State.changeR_settings (s : State) (a1) (a2) (a3) : (State.changeR s a1 a2 a3).settings = s.settings := by unfold State.changeR; simp
@[simp] theorem State.chanShow_settings (s : State) (a1) (a2) : (State.chanShow s a1 a2).settings = s.settings := by unfold State.chanShow; simp
@[simp] theorem State.chanSwap_settings (s : State) (a1) : (State.chanSwap s a1).settings = s.settings := by
  unfold State.chanSwap; dsimp only; (repeat' split) <;> simp
@[simp] theorem State.chanDue_settings (s : State) (a1) : (State.chanDue s a1).settings = s.settings := by unfold State.chanDue; simp
@[simp] theorem State.onFront_settings (s : State) (c : Nat) (f : State → State) : (s.onFront c f).settings = s.settings := by
  unfold State.onFront; dsimp only; split <;> rfl
@[simp] theorem State.period_settings (s : State) (a1) (a2) (a3) : (State.period s a1 a2 a3).settings = s.settings := by unfold State.period; simp
@[simp] theorem State.runFor_settings (s : State) (a0) (a1) (a2) (a3) (a4) : (State.runFor s a0 a1 a2 a3 a4).settings = s.settings := by
  induction a3 generalizing s a4 with
  | zero => rfl
  | succ n ih => simp only [State.runFor]; (repeat' split) <;> simp [ih]
@[simp] theorem State.syncPend_settings (s : State) : (State.syncPend s).settings = s.settings := by unfold State.syncPend; simp
@[simp] theorem State.runChan_settings (s : State) (a1) (a2) (a3) (a4) : (State.runChan s a1 a2 a3 a4).settings = s.settings := by
  unfold State.runChan; simp
@[simp] theorem State.badPacket_settings (s : State) (a1) (a2) : (State.badPacket s a1 a2).settings = s.settings := by unfold State.badPacket; simp
theorem State.interpretWith_settings (s : State) (f : State → Bool → Packet → CmdRes) (w : Waiting) (h : ∀ s q p, (f s q p).st.settings = s.settings) :
    (s.interpretWith f w).settings = s.settings := by
  unfold State.interpretWith; extract_lets; split <;> simp +zetaDelta [h]
@[simp] theorem State.b0Write_settings (s : State) (a1) (a2) : (State.b0Write s a1 a2).settings = s.settings := by unfold State.b0Write; simp
@[simp] theorem State.takeUp_settings (s : State) (a1) (a2) (a3) : (State.takeUp s a1 a2 a3).settings = s.settings := by
  induction a3 generalizing s a2 with
  | zero => simp [State.takeUp]
  | succ _ ih => simp only [State.takeUp]; (repeat' split) <;> simp [ih]
@[simp] theorem State.headWrite_settings (s : State) (a1) (a2) : (State.headWrite s a1 a2).settings = s.settings := by unfold State.headWrite; simp
@[simp] theorem State.payResync_settings (s : State) : (State.payResync s).settings = s.settings := by unfold State.payResync; split <;> simp
@[simp] theorem State.resyncNow_settings (s : State) : (State.resyncNow s).settings = s.settings := by unfold State.resyncNow; simp
@[simp] theorem State.resyncDue_settings (s : State) : (State.resyncDue s).settings = s.settings := by unfold State.resyncDue; split <;> simp
@[simp] theorem State.latency_settings (s : State) : (State.latency s).settings = s.settings := by unfold State.latency; simp
theorem State.interpretAll_settings (s : State) (cmds : Nat → State → Bool → Packet → CmdRes) (n : Nat)
    (h : ∀ o s q p, (cmds o s q p).st.settings = s.settings) : (s.interpretAll cmds n).settings = s.settings := by
  induction n generalizing s with
  | zero => rfl
  | succ n ih =>
    simp only [State.interpretAll]; split
    · rfl
    · split
      · split
        · rfl
        · rw [ih, State.interpretWith_settings _ _ _ (h _)]; simp
      · split <;> simp
@[simp] theorem State.startCal_settings (s : State) (a1) (a2) : (State.startCal s a1 a2).settings = s.settings := by unfold State.startCal; simp
@[simp] theorem cmdSelfcal_settings (s : State) (a1) (a2) : (cmdSelfcal s a1 a2).st.settings = s.settings := by
  unfold cmdSelfcal; dsimp only; (repeat' split) <;> simp [bank_settings]
@[simp] theorem State.procedure_settings (s : State) (a1) (a2) (a3) : (State.procedure s a1 a2 a3).settings = s.settings := by
  unfold State.procedure; simp
@[simp] theorem State.flagBetween_settings (s : State) (a1) (a2) (a3) (a4) : (State.flagBetween s a1 a2 a3 a4).settings = s.settings := by
  unfold State.flagBetween; simp
@[simp] theorem State.calChan_settings (s : State) (a1) (a2) : (State.calChan s a1 a2).settings = s.settings := by unfold State.calChan; simp
@[simp] theorem State.calGroupStart_settings (s : State) : (State.calGroupStart s).settings = s.settings := by
  unfold State.calGroupStart; (repeat' split) <;> simp
@[simp] theorem State.calCommit_settings (s : State) (a1) (a2) (a3) : (State.calCommit s a1 a2 a3).settings = s.settings := by
  unfold State.calCommit; simp
@[simp] theorem State.stepEnd_settings (s : State) (a1) : (State.stepEnd s a1).settings = s.settings := by unfold State.stepEnd; simp
@[simp] theorem State.calStepEnd_settings (s : State) : (State.calStepEnd s).settings = s.settings := by unfold State.calStepEnd; simp
@[simp] theorem State.calFinish_settings (s : State) : (State.calFinish s).settings = s.settings := by unfold State.calFinish; split <;> simp
@[simp] theorem State.unforce_settings (s : State) (a1) (a2) : (State.unforce s a1 a2).settings = s.settings := by unfold State.unforce; simp
@[simp] theorem State.calGroupDone_settings (s : State) (a1) : (State.calGroupDone s a1).settings = s.settings := by
  unfold State.calGroupDone; (repeat' split) <;> simp
theorem State.procBusy_settings (s : State) (l : List Nat) (f : State → CmdRes) (h : s.procBusy l = some f) : (f s).st.settings = s.settings := by
  unfold State.procBusy at h; repeat' split at h
  all_goals (cases h; try rfl)
@[simp] theorem cmdAfeDiag_settings (s : State) (a1) (a2) : (cmdAfeDiag s a1 a2).st.settings = s.settings := by
  unfold cmdAfeDiag; dsimp only; split
  · simp
  · split
    · simp
    · split
      · rename_i f hf; exact State.procBusy_settings s _ f hf
      · simp
@[simp] theorem State.diagDone_settings (s : State) (a1) : (State.diagDone s a1).settings = s.settings := by
  unfold State.diagDone; split
  · rfl
  · extract_lets s1 a b v s2 s3 s4 s5 k s6
    have h5 : s5.settings = s.settings := by simp [s5, s4, s3, s2, s1]
    have h6 : s6.settings = s.settings := by
      simp only [s6]; (repeat' split) <;> simp [h5]
    rw [State.logEv_settings, h6]
@[simp] theorem cmdAfeSkewcal_settings (s : State) (a1) (a2) : (cmdAfeSkewcal s a1 a2).st.settings = s.settings := by
  unfold cmdAfeSkewcal; dsimp only; split
  · simp
  · split
    · simp
    · split
      · rename_i f hf; exact State.procBusy_settings s _ f hf
      · simp
@[simp] theorem State.storeSkew_settings (s : State) : (State.storeSkew s).settings = s.settings := by unfold State.storeSkew; simp
@[simp] theorem State.skewDone_settings (s : State) (a1) : (State.skewDone s a1).settings = s.settings := by unfold State.skewDone; split <;> simp
@[simp] theorem State.tdacCtrl_settings (s : State) (a1) : (State.tdacCtrl s a1).settings = s.settings := by unfold State.tdacCtrl; simp
@[simp] theorem State.testmarkWrite_settings (s : State) (a1) (a2) : (State.testmarkWrite s a1 a2).settings = s.settings := by
  unfold State.testmarkWrite; simp
@[simp] theorem State.modConv_settings (s : State) (a1) (a2) : (State.modConv s a1 a2).settings = s.settings := by unfold State.modConv; simp
@[simp] theorem State.auxFire_settings (s : State) (a1) (a2) : (State.auxFire s a1 a2).settings = s.settings := by unfold State.auxFire; simp
@[simp] theorem State.auxTimer_settings (s : State) (a1) : (State.auxTimer s a1).settings = s.settings := by unfold State.auxTimer; simp
@[simp] theorem State.auxTick_settings (s : State) (a1) : (State.auxTick s a1).settings = s.settings := by
  unfold State.auxTick; split
  · exact State.settings_ite ((State.auxFire_settings ..).trans (State.modConv_settings ..)) rfl
  · rfl
@[simp] theorem State.auxPulse_settings (s : State) (a1) (a2) (a3) (a4) : (State.auxPulse s a1 a2 a3 a4).settings = s.settings := by
  unfold State.auxPulse; simp
@[simp] theorem State.auxTrgCfg_settings (s : State) (a1) (a2) : (State.auxTrgCfg s a1 a2).settings = s.settings := by unfold State.auxTrgCfg; simp
@[simp] theorem State.auxScanStart_settings (s : State) (a1) : (State.auxScanStart s a1).settings = s.settings := by
  unfold State.auxScanStart; dsimp only; (repeat' split) <;> simp
@[simp] theorem State.takeSlot_settings (s : State) (a1) (a2) : (State.takeSlot s a1 a2).settings = s.settings := by unfold State.takeSlot; simp
@[simp] theorem State.insertDue_settings (s : State) (a1) (a2) : (State.insertDue s a1 a2).settings = s.settings := by
  unfold State.insertDue; dsimp only; (repeat' split) <;> simp
@[simp] theorem State.scanSlot_settings (s : State) (a1) : (State.scanSlot s a1).1.settings = s.settings := by unfold State.scanSlot; simp
@[simp] theorem State.auxLimit_settings (s : State) (a1) (a2) (a3) : (State.auxLimit s a1 a2 a3).settings = s.settings := by
  unfold State.auxLimit; simp
@[simp] theorem State.auxConversion_settings (s : State) (a1) (a2) : (State.auxConversion s a1 a2).settings = s.settings := by
  unfold State.auxConversion; (repeat' split) <;> simp
@[simp] theorem State.injDrop_settings (s : State) (a1) (a2) : (State.injDrop s a1 a2).settings = s.settings := by
  unfold State.injDrop; split <;> simp
@[simp] theorem State.injCatch_settings (s : State) (a1) : (State.injCatch s a1).settings = s.settings := by unfold State.injCatch; split <;> simp
@[simp] theorem State.injRequest_settings (s : State) (a1) (a2) : (State.injRequest s a1 a2).settings = s.settings := by
  unfold State.injRequest; split <;> simp
@[simp] theorem cmdAuxInject_settings (s : State) (a1) (a2) : (cmdAuxInject s a1 a2).st.settings = s.settings := by
  unfold cmdAuxInject; dsimp only; (repeat' split) <;> simp
@[simp] theorem State.injWrite_settings (s : State) (a1) (a2) : (State.injWrite s a1 a2).settings = s.settings := by unfold State.injWrite; simp
@[simp] theorem State.auxInjConversion_settings (s : State) (a1) (a2) : (State.auxInjConversion s a1 a2).settings = s.settings := by
  unfold State.auxInjConversion; dsimp only; (repeat' split) <;> simp
@[simp] theorem State.xApply_settings (s : State) (a1) (a2) : (State.xApply s a1 a2).settings = s.settings := by unfold State.xApply; simp
@[simp] theorem State.xFrom_settings (s : State) : (State.xFrom s).settings = s.settings := by unfold State.xFrom; simp
@[simp] theorem State.xchkWrite_settings (s : State) (a1) : (State.xchkWrite s a1).settings = s.settings := by unfold State.xchkWrite; simp
@[simp] theorem State.auxXchk_settings (s : State) (a1) (a2) : (State.auxXchk s a1 a2).settings = s.settings := by unfold State.auxXchk; simp
@[simp] theorem State.scanCut_settings (s : State) (a1) : (State.scanCut s a1).settings = s.settings := by unfold State.scanCut; split <;> simp
@[simp] theorem State.auxBlock_settings (s : State) (a1) (a2) : (State.auxBlock s a1 a2).settings = s.settings := by unfold State.auxBlock; simp
@[simp] theorem State.auxCalStart_settings (s : State) : (State.auxCalStart s).settings = s.settings := by unfold State.auxCalStart; split <;> simp
@[simp] theorem State.auxCalDone_settings (s : State) (a1) (a2) : (State.auxCalDone s a1 a2).settings = s.settings := by
  unfold State.auxCalDone; (repeat' split) <;> simp
@[simp] theorem State.resultRead_settings (s : State) (a1) (a2) (a3) (a4) (a5) (a6) (a7) (a8) : (State.resultRead s a1 a2 a3 a4 a5 a6 a7 a8).1.settings = s.settings := by
  unfold State.resultRead; simp
@[simp] theorem State.auxRead_settings (s : State) (a1) (a2) : (State.auxRead s a1 a2).1.settings = s.settings := by unfold State.auxRead; simp
@[simp] theorem State.injRead_settings (s : State) (a1) : (State.injRead s a1).1.settings = s.settings := by unfold State.injRead; simp
@[simp] theorem State.logRegs_settings (s : State) : (State.logRegs s).settings = s.settings := by unfold State.logRegs; simp
@[simp] theorem State.offerEntry_settings (s : State) (a1) : (State.offerEntry s a1).settings = s.settings := by unfold State.offerEntry; simp
@[simp] theorem State.appendEntry_settings (s : State) (a1) : (State.appendEntry s a1).settings = s.settings := by unfold State.appendEntry; simp
@[simp] theorem State.evtAppend_settings (s : State) : (State.evtAppend s).settings = s.settings := by
  unfold State.evtAppend; (repeat' split) <;> simp
@[simp] theorem State.drainLog_settings (s : State) (a1) : (State.drainLog s a1).settings = s.settings := by
  induction a1 generalizing s with
  | zero => simp [State.drainLog]
  | succ _ ih => simp only [State.drainLog]; (repeat' split) <;> simp [ih]
@[simp] theorem State.drainAll_settings (s : State) : (State.drainAll s).settings = s.settings := by unfold State.drainAll; simp
@[simp] theorem State.evtSuppressed_settings (s : State) : (State.evtSuppressed s).settings = s.settings := by unfold State.evtSuppressed; simp
@[simp] theorem cmdEvtRead_settings (s : State) (a1) (a2) : (cmdEvtRead s a1 a2).st.settings = s.settings := by
  unfold cmdEvtRead; dsimp only; (repeat' split) <;> simp
@[simp] theorem State.logStart_settings (s : State) (a1) : (State.logStart s a1).settings = s.settings := by unfold State.logStart; simp
@[simp] theorem State.transmit_settings (s : State) : (State.transmit s).1.settings = s.settings := by unfold State.transmit; split <;> simp
@[simp] theorem State.netRx_settings (s : State) (a1) : (State.netRx s a1).1.settings = s.settings := by
  unfold State.netRx; dsimp only; (repeat' split) <;> simp
@[simp] theorem State.frameCopy_settings (s : State) (a1) (a2) (a3) (a4) : (State.frameCopy s a1 a2 a3 a4).settings = s.settings := by
  unfold State.frameCopy; simp
@[simp] theorem cmdPbusSubscribe_settings (s : State) (a1) (a2) : (cmdPbusSubscribe s a1 a2).st.settings = s.settings := by
  unfold cmdPbusSubscribe; dsimp only; (repeat' split) <;> simp
@[simp] theorem State.autoneg_settings (s : State) (a1) (a2) : (State.autoneg s a1 a2).settings = s.settings := by
  unfold State.autoneg; dsimp only; (repeat' split) <;> simp
@[simp] theorem State.phyPoll_settings (s : State) (a1) (a2) : (State.phyPoll s a1 a2).settings = s.settings := by unfold State.phyPoll; simp
@[simp] theorem State.mdioWrite_settings (s : State) (a1) : (State.mdioWrite s a1).settings = s.settings := by unfold State.mdioWrite; simp
@[simp] theorem State.mdioDone_settings (s : State) (a1) : (State.mdioDone s a1).settings = s.settings := by unfold State.mdioDone; simp
@[simp] theorem State.hsrForward_settings (s : State) (a1) (a2) (a3) : (State.hsrForward s a1 a2 a3).settings = s.settings := by
  unfold State.hsrForward; simp
@[simp] theorem State.supSend_settings (s : State) : (State.supSend s).settings = s.settings := by unfold State.supSend; simp
@[simp] theorem State.supRx_settings (s : State) (a1) : (State.supRx s a1).settings = s.settings := by unfold State.supRx; simp
@[simp] theorem State.nodeForget_settings (s : State) : (State.nodeForget s).settings = s.settings := by unfold State.nodeForget; split <;> simp
@[simp] theorem State.setSv_settings (s : State) (a1) (a2) : (State.setSv s a1 a2).settings = s.settings := by unfold State.setSv; simp
@[simp] theorem State.svLate_settings (s : State) (a1) (a2) : (State.svLate s a1 a2).settings = s.settings := by unfold State.svLate; simp
@[simp] theorem State.svSample_settings (s : State) (a1) (a2) (a3) : (State.svSample s a1 a2 a3).settings = s.settings := by
  unfold State.svSample; dsimp only; (repeat' split) <;> simp
@[simp] theorem State.svDeliver_settings (s : State) (a1) (a2) : (State.svDeliver s a1 a2).settings = s.settings := by
  induction a2 generalizing s with
  | nil => simp [State.svDeliver]
  | cons _ _ ih => simp only [State.svDeliver]; (repeat' split) <;> simp [ih]
@[simp] theorem State.svExpire_settings (s : State) (a1) : (State.svExpire s a1).settings = s.settings := by unfold State.svExpire; split <;> simp
@[simp] theorem State.svExpireTo_settings (s : State) (a1) (a2) (a3) : (State.svExpireTo s a1 a2 a3).settings = s.settings := by
  induction a3 generalizing s with
  | zero => simp [State.svExpireTo]
  | succ _ ih => simp only [State.svExpireTo]; (repeat' split) <;> simp [ih]
@[simp] theorem State.svLost_settings (s : State) (a1) : (State.svLost s a1).settings = s.settings := by unfold State.svLost; split <;> simp
@[simp] theorem State.svLimits_settings (s : State) (a1) (a2) : (State.svLimits s a1 a2).settings = s.settings := by unfold State.svLimits; simp
@[simp] theorem State.svAsdu_settings (s : State) (a1) (a2) (a3) : (State.svAsdu s a1 a2 a3).settings = s.settings := by
  unfold State.svAsdu; dsimp only; (repeat' split) <;> simp
@[simp] theorem State.svAccept_settings (s : State) (a1) (a2) : (State.svAccept s a1 a2).settings = s.settings := by
  unfold State.svAccept; dsimp only; (repeat' split) <;> simp
@[simp] theorem State.svFrame_settings (s : State) (a1) : (State.svFrame s a1).settings = s.settings := by unfold State.svFrame; simp
@[simp] theorem State.busWait_settings (s : State) : (State.busWait s).settings = s.settings := by unfold State.busWait; simp
@[simp] theorem State.svDiscard_settings (s : State) : (State.svDiscard s).settings = s.settings := by unfold State.svDiscard; simp
@[simp] theorem State.setGs_settings (s : State) (a1) (a2) : (State.setGs s a1 a2).settings = s.settings := by unfold State.setGs; simp
@[simp] theorem State.wrBit_settings (s : State) (a1) (a2) (a3) : (State.wrBit s a1 a2 a3).settings = s.settings := by unfold State.wrBit; simp
@[simp] theorem State.ginUpdate_settings (s : State) (a1) : (State.ginUpdate s a1).settings = s.settings := by unfold State.ginUpdate; split <;> simp
@[simp] theorem State.ginsOf_settings (s : State) (a1) : (State.ginsOf s a1).settings = s.settings := by unfold State.ginsOf; simp
@[simp] theorem State.ginsAll_settings (s : State) : (State.ginsAll s).settings = s.settings := by unfold State.ginsAll; simp
@[simp] theorem State.gooseTal_settings (s : State) (a1) : (State.gooseTal s a1).settings = s.settings := by unfold State.gooseTal; simp
@[simp] theorem State.gsTake_settings (s : State) (a1) (a2) (a3) : (State.gsTake s a1 a2 a3).settings = s.settings := by unfold State.gsTake; simp
@[simp] theorem State.gooseFrame_settings (s : State) (a1) : (State.gooseFrame s a1).settings = s.settings := by unfold State.gooseFrame; simp
@[simp] theorem State.setGp_settings (s : State) (a1) (a2) : (State.setGp s a1 a2).settings = s.settings := by unfold State.setGp; simp
@[simp] theorem State.gpSend_settings (s : State) (a1) (a2) (a3) (a4) (a5) (a6) : (State.gpSend s a1 a2 a3 a4 a5 a6).settings = s.settings := by
  unfold State.gpSend; simp
@[simp] theorem State.gpChange_settings (s : State) (a1) (a2) (a3) : (State.gpChange s a1 a2 a3).settings = s.settings := by
  unfold State.gpChange; simp
@[simp] theorem State.gpRepeat_settings (s : State) (a1) : (State.gpRepeat s a1).settings = s.settings := by
  unfold State.gpRepeat; dsimp only; (repeat' split) <;> simp
@[simp] theorem State.setLocked_settings (s : State) (a1) : (State.setLocked s a1).settings = s.settings := by unfold State.setLocked; simp
@[simp] theorem State.accUpdate_settings (s : State) : (State.accUpdate s).settings = s.settings := by unfold State.accUpdate; simp
@[simp] theorem State.taiStep_settings (s : State) (a1) : (State.taiStep s a1).settings = s.settings := by unfold State.taiStep; simp
@[simp] theorem State.measure_settings (s : State) (a1) (a2) : (State.measure s a1 a2).settings = s.settings := by unfold State.measure; simp
@[simp] theorem State.useSource_settings (s : State) (a1) : (State.useSource s a1).settings = s.settings := by unfold State.useSource; simp
@[simp] theorem State.loseSource_settings (s : State) : (State.loseSource s).settings = s.settings := by unfold State.loseSource; simp
@[simp] theorem State.dropUtc_settings (s : State) : (State.dropUtc s).settings = s.settings := by unfold State.dropUtc; simp
@[simp] theorem State.setLeap_settings (s : State) (a1) : (State.setLeap s a1).settings = s.settings := by unfold State.setLeap; simp
@[simp] theorem State.ptpRegs_settings (s : State) : (State.ptpRegs s).settings = s.settings := by unfold State.ptpRegs; split <;> simp
@[simp] theorem State.ptpSlave_settings (s : State) (a1) (a2) (a3) (a4) : (State.ptpSlave s a1 a2 a3 a4).settings = s.settings := by
  unfold State.ptpSlave; split <;> simp
theorem State.ptpTakeOver_settings (s u : State) (p : Nat) (h : s.ptpTakeOver p = some u) : u.settings = s.settings := by
  unfold State.ptpTakeOver at h; rw [Option.map_eq_some_iff] at h; obtain ⟨x, -, rfl⟩ := h; simp
@[simp] theorem State.ptpPort_settings (s : State) (a1) : (State.ptpPort s a1).settings = s.settings := by
  unfold State.ptpPort; dsimp only; split
  · split <;> simp
  · split
    · simp
    · split
      · rfl
      · split
        · next u h => exact State.ptpTakeOver_settings s u _ h
        · split <;> simp
@[simp] theorem State.ptpPorts_settings (s : State) : (State.ptpPorts s).settings = s.settings := by unfold State.ptpPorts; simp
@[simp] theorem State.ptpLinkLost_settings (s : State) (a1) : (State.ptpLinkLost s a1).settings = s.settings := by
  unfold State.ptpLinkLost; split
  · rfl
  · cases h : s.ptpTakeOver a1 with
    | none => rfl
    | some u => exact State.ptpTakeOver_settings s u a1 h
@[simp] theorem State.sourceLost_settings (s : State) : (State.sourceLost s).settings = s.settings := by
  unfold State.sourceLost; split
  · extract_lets u nxt
    have hv : ∀ v, nxt = some v → v.settings = s.settings := by
      intro v h
      simp only [nxt] at h; split at h
      · rw [State.ptpTakeOver_settings u v _ h]; simp [u]
      · cases h
    clear_value nxt
    cases nxt with
    | some v => exact hv v rfl
    | none => simp +zetaDelta
  · rfl
@[simp] theorem State.hoDegrade_settings (s : State) : (State.hoDegrade s).settings = s.settings := by
  unfold State.hoDegrade; (repeat' split) <;> simp
@[simp] theorem State.srcSelect_settings (s : State) : (State.srcSelect s).settings = s.settings := by
  unfold State.srcSelect; dsimp only; (repeat' split) <;> simp
@[simp] theorem State.steer_settings (s : State) (a1) (a2) : (State.steer s a1 a2).settings = s.settings := by unfold State.steer; simp
@[simp] theorem State.ptpSync_settings (s : State) (a1) (a2) (a3) : (State.ptpSync s a1 a2 a3).settings = s.settings := by unfold State.ptpSync; simp
@[simp] theorem State.ptpAnnounce_settings (s : State) (a1) (a2) (a3) : (State.ptpAnnounce s a1 a2 a3).settings = s.settings := by
  unfold State.ptpAnnounce; (repeat' split) <;> simp
@[simp] theorem State.pdelayRx_settings (s : State) (a1) (a2) (a3) : (State.pdelayRx s a1 a2 a3).settings = s.settings := by
  unfold State.pdelayRx; dsimp only; (repeat' split) <;> simp [bank_settings]
@[simp] theorem State.ptpSend_settings (s : State) : (State.ptpSend s).settings = s.settings := by unfold State.ptpSend; simp
@[simp] theorem State.irigFrame_settings (s : State) (a1) (a2) : (State.irigFrame s a1 a2).settings = s.settings := by
  unfold State.irigFrame; split <;> simp
@[simp] theorem State.todWrite_settings (s : State) (a1) (a2) : (State.todWrite s a1 a2).settings = s.settings := by unfold State.todWrite; simp
@[simp] theorem State.ppsEdge_settings (s : State) (a1) (a2) (a3) : (State.ppsEdge s a1 a2 a3).settings = s.settings := by unfold State.ppsEdge; simp
@[simp] theorem cmdTimeSet_settings (s : State) (a1) (a2) : (cmdTimeSet s a1 a2).st.settings = s.settings := by
  unfold cmdTimeSet; dsimp only; (repeat' split) <;> simp
@[simp] theorem State.leapWrite_settings (s : State) (a1) : (State.leapWrite s a1).settings = s.settings := by unfold State.leapWrite; simp
@[simp] theorem State.utcChange_settings (s : State) : (State.utcChange s).settings = s.settings := by unfold State.utcChange; simp
@[simp] theorem cmdFltSync_settings (s : State) (a1) (a2) : (cmdFltSync s a1 a2).st.settings = s.settings := by
  unfold cmdFltSync; dsimp only; (repeat' split) <;> simp
@[simp] theorem State.loadBank_settings (s : State) (a1) (a2) : (State.loadBank s a1 a2).settings = s.settings := by unfold State.loadBank; simp
@[simp] theorem cmdFltBankLoad_settings (s : State) (a1) (a2) : (cmdFltBankLoad s a1 a2).st.settings = s.settings := by
  unfold cmdFltBankLoad; dsimp only; (repeat' split) <;> simp
@[simp] theorem cmdFltBankSwap_settings (s : State) (a1) (a2) : (cmdFltBankSwap s a1 a2).st.settings = s.settings := by
  unfold cmdFltBankSwap; dsimp only; (repeat' split) <;> simp
@[simp] theorem State.cycleBank_settings (s : State) (a1) : (State.cycleBank s a1).settings = s.settings := by unfold State.cycleBank; simp
@[simp] theorem State.chainRegs_settings (s : State) (a1) : (State.chainRegs s a1).settings = s.settings := by unfold State.chainRegs; simp
@[simp] theorem State.restoreBanks_settings (s : State) (a1) : (State.restoreBanks s a1).settings = s.settings := by
  unfold State.restoreBanks; dsimp only; (repeat' split) <;> simp
@[simp] theorem State.tdTick_settings (s : State) (a1) (a2) : (State.tdTick s a1 a2).settings = s.settings := by
  unfold State.tdTick; dsimp only; (repeat' split) <;> simp [bank_settings]
@[simp] theorem State.tdRestart_settings (s : State) (a1) (a2) : (State.tdRestart s a1 a2).settings = s.settings := by
  unfold State.tdRestart; simp [bank_settings]
@[simp] theorem State.tdRestartAt_settings (s : State) (a1) (a2) : (State.tdRestartAt s a1 a2).settings = s.settings := by
  unfold State.tdRestartAt; simp [bank_settings]
@[simp] theorem State.tdStep_settings (s : State) (a1) (a2) : (State.tdStep s a1 a2).settings = s.settings := by unfold State.tdStep; simp
@[simp] theorem State.tdRun_settings (s : State) (a1) (a2) (a3) : (State.tdRun s a1 a2 a3).settings = s.settings := by
  induction a3 generalizing s with
  | nil => simp [State.tdRun]
  | cons _ _ ih => simp only [State.tdRun]; (repeat' split) <;> simp [ih]
@[simp] theorem State.tdAll_settings (s : State) : (State.tdAll s).settings = s.settings := by unfold State.tdAll; simp
@[simp] theorem State.tdEvent_settings (s : State) (a1) (a2) : (State.tdEvent s a1 a2).settings = s.settings := by unfold State.tdEvent; simp
@[simp] theorem State.chanEvent_settings (s : State) (a1) (a2) (a3) : (State.chanEvent s a1 a2 a3).settings = s.settings := by
  unfold State.chanEvent; simp
@[simp] theorem State.chanUntil_settings (s : State) (a1) (a2) (a3) : (State.chanUntil s a1 a2 a3).settings = s.settings := by
  unfold State.chanUntil; simp
@[simp] theorem State.putElm_settings (s : State) (a1) (a2) (a3) (a4) : (State.putElm s a1 a2 a3 a4).settings = s.settings := by
  unfold State.putElm; simp
@[simp] theorem State.noteEv_settings (s : State) (a1) (a2) : (State.noteEv s a1 a2).settings = s.settings := by unfold State.noteEv; simp
@[simp] theorem State.elmEvents_settings (s : State) (a1) (a2) (a3) (a4) (a5) (a6) (a7) (a8) : (State.elmEvents s a1 a2 a3 a4 a5 a6 a7 a8).settings = s.settings := by
  unfold State.elmEvents; simp
@[simp] theorem State.evalOc_settings (s : State) (a1) (a2) : (State.evalOc s a1 a2).settings = s.settings := by unfold State.evalOc; split <;> simp
@[simp] theorem State.evalLevel_settings (s : State) (a1) (a2) : (State.evalLevel s a1 a2).settings = s.settings := by
  unfold State.evalLevel
  extract_lets type old inp sup sn qblk twin bad frozen kb held under0 qs best s2 all3
  have h2 : s2.settings = s.settings := by simp only [s2]; clear_value best; cases best <;> simp
  split
  · extract_lets conds st on tm1 run h1 expire tm2 hz op ph out us s3 s4 s5
    split
    · rw [State.putElm_settings, h2]
    · simp only [State.putElm_settings, State.wr_settings, s5, s4, s3]
      split <;> (try simp only [State.noteEv_settings]) <;> split <;> simp only [State.wr_settings, State.elmEvents_settings, h2]
  · rfl
@[simp] theorem State.evalTherm_settings (s : State) (a1) (a2) : (State.evalTherm s a1 a2).settings = s.settings := by
  unfold State.evalTherm; split <;> simp
@[simp] theorem State.evalHarm_settings (s : State) (a1) (a2) (a3) : (State.evalHarm s a1 a2 a3).settings = s.settings := by
  unfold State.evalHarm; split <;> simp
@[simp] theorem State.evalClp_settings (s : State) (a1) (a2) : (State.evalClp s a1 a2).settings = s.settings := by
  unfold State.evalClp; split <;> simp
@[simp] theorem State.evalBf_settings (s : State) (a1) (a2) : (State.evalBf s a1 a2).settings = s.settings := by unfold State.evalBf; split <;> simp
@[simp] theorem State.evalAr_settings (s : State) (a1) (a2) : (State.evalAr s a1 a2).settings = s.settings := by
  unfold State.evalAr; dsimp only; (repeat' split) <;> simp
@[simp] theorem State.evalSync_settings (s : State) (a1) (a2) : (State.evalSync s a1 a2).settings = s.settings := by
  unfold State.evalSync; split <;> simp
@[simp] theorem State.evalElm_settings (s : State) (a1) (a2) : (State.evalElm s a1 a2).settings = s.settings := by
  unfold State.evalElm; split <;> simp
@[simp] theorem State.evalElms_settings (s : State) (a1) : (State.evalElms s a1).settings = s.settings := by unfold State.evalElms; simp
@[simp] theorem State.evalKnot_settings (s : State) (a1) (a2) (a3) : (State.evalKnot s a1 a2 a3).settings = s.settings := by
  unfold State.evalKnot; simp
@[simp] theorem State.evalKnots_settings (s : State) (a1) : (State.evalKnots s a1).settings = s.settings := by unfold State.evalKnots; simp
@[simp] theorem State.knotStop_settings (s : State) (a1) (a2) (a3) : (State.knotStop s a1 a2 a3).settings = s.settings := by
  unfold State.knotStop; simp
@[simp] theorem State.putRow_settings (s : State) (a1) (a2) : (State.putRow s a1 a2).settings = s.settings := by unfold State.putRow; simp
@[simp] theorem State.storeLatches_settings (s : State) : (State.storeLatches s).settings = s.settings := by unfold State.storeLatches; simp
@[simp] theorem State.evalRow_settings (s : State) (a1) (a2) (a3) : (State.evalRow s a1 a2 a3).settings = s.settings := by unfold State.evalRow; simp
@[simp] theorem State.evalRows_settings (s : State) (a1) (a2) : (State.evalRows s a1 a2).settings = s.settings := by unfold State.evalRows; simp
@[simp] theorem State.tmReset_settings (s : State) (a1) : (State.tmReset s a1).settings = s.settings := by unfold State.tmReset; simp
@[simp] theorem State.tmForce_settings (s : State) (a1) (a2) : (State.tmForce s a1 a2).settings = s.settings := by unfold State.tmForce; simp
@[simp] theorem State.evalGroup_settings (s : State) (a1) (a2) (a3) : (State.evalGroup s a1 a2 a3).settings = s.settings := by
  unfold State.evalGroup; dsimp only; (repeat' split) <;> simp
@[simp] theorem State.evalBay_settings (s : State) (a1) (a2) (a3) : (State.evalBay s a1 a2 a3).settings = s.settings := by unfold State.evalBay; simp
@[simp] theorem State.keepSec_settings (s : State) (a1) (a2) : (State.keepSec s a1 a2).settings = s.settings := by unfold State.keepSec; simp
@[simp] theorem State.idleBay_settings (s : State) (a1) (a2) : (State.idleBay s a1 a2).settings = s.settings := by unfold State.idleBay; simp
@[simp] theorem State.idleRowsAt_settings (s : State) (a1) : (State.idleRowsAt s a1).settings = s.settings := by unfold State.idleRowsAt; simp
@[simp] theorem State.idleSince_settings (s : State) (a1) (a2) : (State.idleSince s a1 a2).settings = s.settings := by unfold State.idleSince; simp
@[simp] theorem State.setFp_settings (s : State) (a1) (a2) : (State.setFp s a1 a2).settings = s.settings := by unfold State.setFp; simp
@[simp] theorem State.fastSetC_settings (s : State) (a1) : (State.fastSetC s a1).settings = s.settings := by unfold State.fastSetC; simp
@[simp] theorem State.fastCoef_settings (s : State) : (State.fastCoef s).settings = s.settings := by unfold State.fastCoef; simp
@[simp] theorem State.fastTargets_settings (s : State) (a1) (a2) : (State.fastTargets s a1 a2).settings = s.settings := by
  unfold State.fastTargets; dsimp only; (repeat' split) <;> simp
@[simp] theorem State.fpShow_settings (s : State) (a1) (a2) : (State.fpShow s a1 a2).settings = s.settings := by unfold State.fpShow; simp
@[simp] theorem State.fastRows_settings (s : State) (a1) (a2) : (State.fastRows s a1 a2).settings = s.settings := by unfold State.fastRows; simp
@[simp] theorem State.fastEval_settings (s : State) (a1) (a2) (a3) : (State.fastEval s a1 a2 a3).settings = s.settings := by
  unfold State.fastEval; simp
@[simp] theorem State.fastDrop_settings (s : State) (a1) : (State.fastDrop s a1).settings = s.settings := by unfold State.fastDrop; simp
@[simp] theorem State.fastSample_settings (s : State) (a1) (a2) : (State.fastSample s a1 a2).settings = s.settings := by
  induction a2 generalizing s with
  | nil => simp [State.fastSample]
  | cons _ _ ih => simp only [State.fastSample]; (repeat' split) <;> simp [bank_settings, ih]
@[simp] theorem State.fastRun_settings (s : State) (a1) (a2) (a3) (a4) : (State.fastRun s a1 a2 a3 a4).settings = s.settings := by
  induction a4 generalizing s with
  | zero => simp [State.fastRun]
  | succ _ ih => simp only [State.fastRun]; (repeat' split) <;> simp [ih]
@[simp] theorem State.fastTo_settings (s : State) (a1) (a2) : (State.fastTo s a1 a2).settings = s.settings := by unfold State.fastTo; simp
@[simp] theorem State.fastAll_settings (s : State) : (State.fastAll s).settings = s.settings := by unfold State.fastAll; simp
@[simp] theorem State.fastEvent_settings (s : State) (a1) (a2) : (State.fastEvent s a1 a2).settings = s.settings := by unfold State.fastEvent; simp
@[simp] theorem State.fastRestart_settings (s : State) (a1) (a2) : (State.fastRestart s a1 a2).settings = s.settings := by
  unfold State.fastRestart; simp
@[simp] theorem State.detectors_settings (s : State) : (State.detectors s).settings = s.settings := by unfold State.detectors; simp
@[simp] theorem State.gpForm_settings (s : State) (a1) (a2) : (State.gpForm s a1 a2).settings = s.settings := by
  induction a2 generalizing s with
  | zero => simp [State.gpForm]
  | succ _ ih => simp only [State.gpForm]; (repeat' split) <;> simp [ih]
@[simp] theorem State.goosePublish_settings (s : State) (a1) : (State.goosePublish s a1).settings = s.settings := by unfold State.goosePublish; simp
@[simp] theorem State.dioRegs_settings (s : State) : (State.dioRegs s).settings = s.settings := by unfold State.dioRegs; simp
@[simp] theorem State.drvOn_settings (s : State) (a1) : (State.drvOn s a1).settings = s.settings := by unfold State.drvOn; simp
@[simp] theorem State.drvOff_settings (s : State) (a1) : (State.drvOff s a1).settings = s.settings := by unfold State.drvOff; simp
@[simp] theorem State.settle_settings (s : State) : (State.settle s).settings = s.settings := by unfold State.settle; simp
@[simp] theorem State.diagSet_settings (s : State) (a1) (a2) (a3) : (State.diagSet s a1 a2 a3).settings = s.settings := by
  unfold State.diagSet; split <;> simp
@[simp] theorem State.diagClear_settings (s : State) (a1) (a2) : (State.diagClear s a1 a2).settings = s.settings := by
  unfold State.diagClear; split <;> simp
@[simp] theorem State.takeCommands_settings (s : State) (a1) (a2) : (State.takeCommands s a1 a2).settings = s.settings := by
  unfold State.takeCommands; simp
@[simp] theorem State.claimRegs_settings (s : State) : (State.claimRegs s).settings = s.settings := by unfold State.claimRegs; simp
@[simp] theorem State.gateEval_settings (s : State) : (State.gateEval s).settings = s.settings := by unfold State.gateEval; simp
@[simp] theorem State.inputFlags_settings (s : State) : (State.inputFlags s).settings = s.settings := by unfold State.inputFlags; simp
@[simp] theorem State.inputShow_settings (s : State) (a1) : (State.inputShow s a1).settings = s.settings := by unfold State.inputShow; simp
@[simp] theorem State.dinChange_settings (s : State) (a1) (a2) (a3) : (State.dinChange s a1 a2 a3).settings = s.settings := by
  unfold State.dinChange; simp
@[simp] theorem State.wireBreak_settings (s : State) (a1) (a2) : (State.wireBreak s a1 a2).settings = s.settings := by unfold State.wireBreak; simp
@[simp] theorem State.wireOk_settings (s : State) (a1) (a2) : (State.wireOk s a1 a2).settings = s.settings := by unfold State.wireOk; simp
@[simp] theorem State.alive_settings (s : State) : (State.alive s).settings = s.settings := by unfold State.alive; simp
@[simp] theorem State.dieReady_settings (s : State) : (State.dieReady s).settings = s.settings := by unfold State.dieReady; simp
@[simp] theorem State.dieConfigure_settings (s : State) : (State.dieConfigure s).settings = s.settings := by unfold State.dieConfigure; simp
@[simp] theorem State.dieSend_settings (s : State) (a1) : (State.dieSend s a1).settings = s.settings := by unfold State.dieSend; simp
@[simp] theorem State.swapInputs_settings (s : State) (a1) (a2) : (State.swapInputs s a1 a2).settings = s.settings := by unfold State.swapInputs; simp
@[simp] theorem State.takeConf_settings (s : State) (a1) (a2) (a3) : (State.takeConf s a1 a2 a3).settings = s.settings := by
  unfold State.takeConf; simp
@[simp] theorem State.commandRx_settings (s : State) (a1) (a2) : (State.commandRx s a1 a2).settings = s.settings := by unfold State.commandRx; simp
@[simp] theorem State.frameShow_settings (s : State) (a1) : (State.frameShow s a1).settings = s.settings := by unfold State.frameShow; simp
@[simp] theorem State.vfieldShow_settings (s : State) (a1) : (State.vfieldShow s a1).settings = s.settings := by unfold State.vfieldShow; simp
@[simp] theorem State.readbackRx_settings (s : State) (a1) (a2) (a3) : (State.readbackRx s a1 a2 a3).1.settings = s.settings := by
  unfold State.readbackRx; extract_lets s1 f s2 bk m lost s3 s4 s5 s6 s7 s8
  split
  · simp [s1]
  · split
    · simp [s2, s1]
    · have h6 : s6.settings = s.settings := by simp [s6, s5, s4, s3, s2, s1]
      have h7 : s7.settings = s.settings := by simp only [s7]; (repeat' split) <;> simp [h6]
      have h8 : s8.settings = s.settings := by simp only [s8]; (repeat' split) <;> simp [h7]
      simp [h8]
@[simp] theorem State.dieLost_settings (s : State) (a1) : (State.dieLost s a1).settings = s.settings := by unfold State.dieLost; simp
@[simp] theorem State.logicLost_settings (s : State) : (State.logicLost s).settings = s.settings := by unfold State.logicLost; simp
@[simp] theorem State.linkLost_settings (s : State) : (State.linkLost s).settings = s.settings := by
  unfold State.linkLost; dsimp only; (repeat' split) <;> simp
@[simp] theorem State.linkHold_settings (s : State) : (State.linkHold s).settings = s.settings := by unfold State.linkHold; split <;> simp
@[simp] theorem State.setUv_settings (s : State) (a1) (a2) (a3) : (State.setUv s a1 a2 a3).settings = s.settings := by unfold State.setUv; simp
@[simp] theorem State.dieReset_settings (s : State) (a1) (a2) : (State.dieReset s a1 a2).settings = s.settings := by unfold State.dieReset; simp
@[simp] theorem State.uvWarn_settings (s : State) (a1) (a2) : (State.uvWarn s a1 a2).settings = s.settings := by unfold State.uvWarn; simp
@[simp] theorem State.uvInval_settings (s : State) (a1) (a2) : (State.uvInval s a1 a2).settings = s.settings := by unfold State.uvInval; simp
@[simp] theorem State.uvDrop_settings (s : State) (a1) (a2) : (State.uvDrop s a1 a2).settings = s.settings := by unfold State.uvDrop; simp
@[simp] theorem State.uvRecover_settings (s : State) (a1) (a2) : (State.uvRecover s a1 a2).settings = s.settings := by unfold State.uvRecover; simp
@[simp] theorem State.uvInvalExit_settings (s : State) (a1) (a2) : (State.uvInvalExit s a1 a2).settings = s.settings := by
  unfold State.uvInvalExit; simp
@[simp] theorem State.uvClear_settings (s : State) (a1) (a2) : (State.uvClear s a1 a2).settings = s.settings := by unfold State.uvClear; simp
@[simp] theorem State.outOverload_settings (s : State) (a1) (a2) (a3) : (State.outOverload s a1 a2 a3).settings = s.settings := by
  unfold State.outOverload; simp
@[simp] theorem State.overloadRetry_settings (s : State) (a1) : (State.overloadRetry s a1).settings = s.settings := by
  unfold State.overloadRetry; split <;> simp
@[simp] theorem State.stuckHigh_settings (s : State) (a1) (a2) : (State.stuckHigh s a1 a2).settings = s.settings := by unfold State.stuckHigh; simp
@[simp] theorem State.conflict_settings (s : State) (a1) (a2) (a3) : (State.conflict s a1 a2 a3).settings = s.settings := by
  unfold State.conflict; simp
@[simp] theorem State.openLoad_settings (s : State) (a1) (a2) : (State.openLoad s a1 a2).settings = s.settings := by unfold State.openLoad; simp
@[simp] theorem State.parImbalance_settings (s : State) (a1) (a2) : (State.parImbalance s a1 a2).settings = s.settings := by
  unfold State.parImbalance; simp
@[simp] theorem State.outDiagClear_settings (s : State) (a1) (a2) (a3) : (State.outDiagClear s a1 a2 a3).settings = s.settings := by
  unfold State.outDiagClear; split <;> simp
@[simp] theorem State.slotGo_settings (s : State) (a0) (a1) (a2) : (State.slotGo s a0 a1 a2).settings = s.settings := by
  induction a1 generalizing s a2 with
  | nil => rfl
  | cons _ _ ih => simp only [State.slotGo]; (repeat' split) <;> simp [ih]
@[simp] theorem State.softSlot_settings (s : State) : (State.softSlot s).settings = s.settings := by
  unfold State.softSlot; extract_lets; split <;> simp +zetaDelta
@[simp] theorem State.aliveTimeout_settings (s : State) : (State.aliveTimeout s).settings = s.settings := by unfold State.aliveTimeout; simp
@[simp] theorem State.aliveOverload_settings (s : State) (a1) : (State.aliveOverload s a1).settings = s.settings := by
  unfold State.aliveOverload; simp
@[simp] theorem State.aliveRetry_settings (s : State) : (State.aliveRetry s).settings = s.settings := by unfold State.aliveRetry; split <;> simp
@[simp] theorem State.towEdge_settings (s : State) (a1) : (State.towEdge s a1).settings = s.settings := by unfold State.towEdge; simp
@[simp] theorem State.claimTx_settings (s : State) (a1) (a2) : (State.claimTx s a1 a2).settings = s.settings := by unfold State.claimTx; simp
@[simp] theorem State.claimRx_settings (s : State) (a1) (a2) : (State.claimRx s a1 a2).settings = s.settings := by unfold State.claimRx; simp
@[simp] theorem State.claimTimeout_settings (s : State) : (State.claimTimeout s).settings = s.settings := by unfold State.claimTimeout; split <;> simp
@[simp] theorem State.claimLineFail_settings (s : State) : (State.claimLineFail s).settings = s.settings := by
  have h : ∀ (b : Bool) (t : Nat), (if b then ((s.atTime t).wr DIO_CLAIM_STATUS.LINE_OK 0).logEv 0x6033 else s).settings = s.settings := by
    intro b t; cases b
    · rw [if_neg (by decide)]
    · rw [if_pos rfl]; exact (State.logEv_settings _ _ _ _).trans ((State.wr_settings _ _ _ _ _).trans (State.atTime_settings _ _))
  unfold State.claimLineFail
  refine apply_ite (fun x : State => x.settings) _ _ _ |>.trans (ite_eq_left_iff.mpr fun _ => ?_)
  refine apply_ite (fun x : State => x.settings) _ _ _ |>.trans ?_
  rw [State.logEv_settings, State.wr_settings, State.wr_settings]
  refine ite_eq_left_iff.mpr fun _ => ?_
  refine apply_ite (fun x : State => x.settings) _ _ _ |>.trans (ite_eq_left_iff.mpr fun _ => ?_)
  exact h _ _
@[simp] theorem State.claimLineOk_settings (s : State) : (State.claimLineOk s).settings = s.settings := by unfold State.claimLineOk; simp
@[simp] theorem State.cfgPend_settings (s : State) : (State.cfgPend s).settings = s.settings := by unfold State.cfgPend; simp
@[simp] theorem State.elmClear_settings (s : State) (a1) (a2) : (State.elmClear s a1 a2).settings = s.settings := by
  unfold State.elmClear; simp [bank_settings]
@[simp] theorem State.elmStop_settings (s : State) (a1) (a2) (a3) (a4) : (State.elmStop s a1 a2 a3 a4).settings = s.settings := by
  unfold State.elmStop; (repeat' split) <;> simp
@[simp] theorem State.bayStop_settings (s : State) (a1) (a2) (a3) (a4) : (State.bayStop s a1 a2 a3 a4).settings = s.settings := by
  unfold State.bayStop; simp
@[simp] theorem State.elmInit_settings (s : State) (a1) (a2) : (State.elmInit s a1 a2).settings = s.settings := by unfold State.elmInit; simp
@[simp] theorem State.bayStart_settings (s : State) (a1) (a2) : (State.bayStart s a1 a2).settings = s.settings := by unfold State.bayStart; simp
@[simp] theorem State.bayDone_settings (s : State) (a1) : (State.bayDone s a1).settings = s.settings := by
  unfold State.bayDone; dsimp only; (repeat' split) <;> simp
@[simp] theorem State.shedTo_settings (s : State) (a1) (a2) (a3) (a4) : (State.shedTo s a1 a2 a3 a4).settings = s.settings := by
  induction a4 generalizing s with
  | zero => simp [State.shedTo]
  | succ _ ih => simp only [State.shedTo]; (repeat' split) <;> simp [ih]
@[simp] theorem State.engStart_settings (s : State) (a1) (a2) (a3) (a4) : (State.engStart s a1 a2 a3 a4).settings = s.settings := by
  unfold State.engStart; simp
@[simp] theorem State.proofNext_settings (s : State) (a1) (a2) (a3) : (State.proofNext s a1 a2 a3).settings = s.settings := by
  unfold State.proofNext; simp
@[simp] theorem State.engStop_settings (s : State) (a1) : (State.engStop s a1).settings = s.settings := by unfold State.engStop; split <;> simp
@[simp] theorem State.place_settings (s : State) (a1) (a2) (a3) : (State.place s a1 a2 a3).settings = s.settings := by unfold State.place; simp
@[simp] theorem State.engineFail_settings (s : State) (a1) (a2) : (State.engineFail s a1 a2).settings = s.settings := by unfold State.engineFail; simp
@[simp] theorem State.placeNow_settings (s : State) (a1) (a2) : (State.placeNow s a1 a2).settings = s.settings := by unfold State.placeNow; simp
@[simp] theorem State.swapElm_settings (s : State) (a1) (a2) (a3) (a4) (a5) : (State.swapElm s a1 a2 a3 a4 a5).settings = s.settings := by
  unfold State.swapElm; simp
@[simp] theorem State.swapRow_settings (s : State) (a1) (a2) (a3) (a4) : (State.swapRow s a1 a2 a3 a4).settings = s.settings := by
  unfold State.swapRow; simp
@[simp] theorem State.swapGroup_settings (s : State) (a1) (a2) (a3) (a4) (a5) : (State.swapGroup s a1 a2 a3 a4 a5).settings = s.settings := by
  unfold State.swapGroup; simp
@[simp] theorem State.turnBay_settings (s : State) (a1) (a2) (a3) (a4) (a5) : (State.turnBay s a1 a2 a3 a4 a5).settings = s.settings := by
  unfold State.turnBay; simp
@[simp] theorem State.turnBays_settings (s : State) : (State.turnBays s).settings = s.settings := by unfold State.turnBays; split <;> simp
@[simp] theorem State.evalNow_settings (s : State) (a1) (a2) (a3) : (State.evalNow s a1 a2 a3).settings = s.settings := by unfold State.evalNow; simp
@[simp] theorem State.bayEvaluation_settings (s : State) (a1) (a2) (a3) : (State.bayEvaluation s a1 a2 a3).settings = s.settings := by
  unfold State.bayEvaluation; dsimp only; (repeat' split) <;> simp
@[simp] theorem State.bayCatch_settings (s : State) (a1) (a2) : (State.bayCatch s a1 a2).settings = s.settings := by
  induction a2 generalizing s with
  | zero => simp [State.bayCatch]
  | succ _ ih => simp only [State.bayCatch]; (repeat' split) <;> simp [ih]
@[simp] theorem State.evalEvent_settings (s : State) (a1) (a2) (a3) : (State.evalEvent s a1 a2 a3).settings = s.settings := by
  unfold State.evalEvent; simp
@[simp] theorem State.elmEvent_settings (s : State) (a1) (a2) : (State.elmEvent s a1 a2).settings = s.settings := by unfold State.elmEvent; simp
@[simp] theorem State.measureBay_settings (s : State) (a1) (a2) : (State.measureBay s a1 a2).settings = s.settings := by
  unfold State.measureBay; split <;> simp
@[simp] theorem State.report_settings (s : State) (a1) (a2) : (State.report s a1 a2).settings = s.settings := by unfold State.report; simp
@[simp] theorem State.measureTo_settings (s : State) (a1) (a2) : (State.measureTo s a1 a2).settings = s.settings := by
  induction a2 generalizing s with
  | nil => simp [State.measureTo]
  | cons _ _ ih => simp only [State.measureTo]; (repeat' split) <;> simp [ih]
@[simp] theorem State.measureAll_settings (s : State) : (State.measureAll s).settings = s.settings := by unfold State.measureAll; simp
@[simp] theorem State.measFrom_settings (s : State) (a1) (a2) : (State.measFrom s a1 a2).settings = s.settings := by unfold State.measFrom; simp
@[simp] theorem State.pstreamWrite_settings (s : State) (a1) (a2) : (State.pstreamWrite s a1 a2).settings = s.settings := by
  unfold State.pstreamWrite; simp
@[simp] theorem State.bayLatch_settings (s : State) (a1) : (State.bayLatch s a1).settings = s.settings := by unfold State.bayLatch; split <;> simp
@[simp] theorem State.modInst_settings (s : State) (a1) (a2) : (State.modInst s a1 a2).settings = s.settings := by unfold State.modInst; simp
@[simp] theorem State.storeRegs_settings (s : State) : (State.storeRegs s).settings = s.settings := by unfold State.storeRegs; simp
theorem State.deleteOldest_settings (s u : State) (h : s.deleteOldest = some u) : u.settings = s.settings := by
  unfold State.deleteOldest at h; split at h
  · cases h
  · cases h; simp [bank_settings, State.modRecNv]
@[simp] theorem State.recRoom_settings (s : State) (a0) (a1) : (State.recRoom s a0 a1).1.settings = s.settings := by
  induction a1 generalizing s with
  | zero => rfl
  | succ k ih =>
    simp only [State.recRoom]; split
    · rfl
    · split
      · rename_i u h; rw [ih]; exact State.deleteOldest_settings s u h
      · rfl
@[simp] theorem State.drainNext_settings (s : State) : (State.drainNext s).settings = s.settings := by unfold State.drainNext; simp
@[simp] theorem State.recRegs_settings (s : State) (a1) : (State.recRegs s a1).settings = s.settings := by unfold State.recRegs; simp
@[simp] theorem State.recAhead_settings (s : State) (a0) (a1) (a2) : (State.recAhead s a0 a1 a2).settings = s.settings := by
  induction a2 generalizing s a1 with
  | zero => rfl
  | succ _ ih => simp only [State.recAhead]; split <;> simp [ih]
@[simp] theorem State.recAheadAll_settings (s : State) : (State.recAheadAll s).settings = s.settings := by
  unfold State.recAheadAll; exact forN_settings _ _ _ fun _ _ => rfl
@[simp] theorem State.recTrim_settings (s : State) (a1) (a2) : (State.recTrim s a1 a2).settings = s.settings := by unfold State.recTrim; simp
@[simp] theorem State.gapEnd_settings (s : State) (a1) : (State.gapEnd s a1).settings = s.settings := by unfold State.gapEnd; split <;> simp
@[simp] theorem State.recAdd_settings (s : State) (a1) (a2) : (State.recAdd s a1 a2).settings = s.settings := by unfold State.recAdd; simp
@[simp] theorem State.recSkip_settings (s : State) (a1) (a2) : (State.recSkip s a1 a2).settings = s.settings := by unfold State.recSkip; simp
@[simp] theorem State.recStore_settings (s : State) (a1) (a2) : (State.recStore s a1 a2).settings = s.settings := by unfold State.recStore; simp
@[simp] theorem State.recClear_settings (s : State) (a1) : (State.recClear s a1).settings = s.settings := by unfold State.recClear; simp
@[simp] theorem State.recCommit_settings (s : State) (a1) : (State.recCommit s a1).settings = s.settings := by unfold State.recCommit; simp
@[simp] theorem State.recClose_settings (s : State) (a1) (a2) (a3) : (State.recClose s a1 a2 a3).settings = s.settings := by
  unfold State.recClose; split <;> simp
@[simp] theorem State.recStop_settings (s : State) (a1) (a2) (a3) : (State.recStop s a1 a2 a3).settings = s.settings := by unfold State.recStop; simp
@[simp] theorem State.busPulse_settings (s : State) (a1) (a2) : (State.busPulse s a1 a2).settings = s.settings := by unfold State.busPulse; simp
@[simp] theorem State.recBegin_settings (s : State) (a1) (a2) (a3) (a4) : (State.recBegin s a1 a2 a3 a4).settings = s.settings := by
  unfold State.recBegin; extract_lets c room
  have h : room.1.settings = s.settings := by
    simp only [room]; split
    · exact State.recRoom_settings s _ _
    · rfl
  clear_value room
  split
  · simp [h]
  · simp +zetaDelta [h]
@[simp] theorem State.recAgain_settings (s : State) (a1) (a2) (a3) (a4) : (State.recAgain s a1 a2 a3 a4).settings = s.settings := by
  unfold State.recAgain; dsimp only; (repeat' split) <;> simp
@[simp] theorem State.recNote_settings (s : State) (a1) (a2) : (State.recNote s a1 a2).settings = s.settings := by unfold State.recNote; simp
@[simp] theorem State.recTrigger_settings (s : State) (a1) (a2) (a3) : (State.recTrigger s a1 a2 a3).settings = s.settings := by
  unfold State.recTrigger; dsimp only; (repeat' split) <;> simp
@[simp] theorem State.recOne_settings (s : State) (a1) (a2) : (State.recOne s a1 a2).settings = s.settings := by unfold State.recOne; simp
@[simp] theorem State.recProcess_settings (s : State) (a1) : (State.recProcess s a1).settings = s.settings := by unfold State.recProcess; simp
@[simp] theorem State.recSettle_settings (s : State) (a1) (a2) : (State.recSettle s a1 a2).settings = s.settings := by
  unfold State.recSettle; dsimp only; split <;> simp [bank_settings]
@[simp] theorem State.rearmEnd_settings (s : State) (a1) : (State.rearmEnd s a1).settings = s.settings := by
  unfold State.rearmEnd; dsimp only; (repeat' split) <;> simp
@[simp] theorem State.recPend_settings (s : State) (a1) (a2) (a3) : (State.recPend s a1 a2 a3).settings = s.settings := by unfold State.recPend; simp
@[simp] theorem State.recEdges_settings (s : State) (a1) (a2) : (State.recEdges s a1 a2).settings = s.settings := by unfold State.recEdges; simp
@[simp] theorem State.recTicks_settings (s : State) (a1) (a2) (a3) : (State.recTicks s a1 a2 a3).settings = s.settings := by
  induction a3 generalizing s with
  | zero => simp [State.recTicks]
  | succ _ ih => simp only [State.recTicks]; (repeat' split) <;> simp [ih]
@[simp] theorem State.trigIn_settings (s : State) (a1) (a2) : (State.trigIn s a1 a2).settings = s.settings := by unfold State.trigIn; simp
@[simp] theorem State.trigBus_settings (s : State) (a1) : (State.trigBus s a1).settings = s.settings := by unfold State.trigBus; simp
@[simp] theorem State.busRelease_settings (s : State) : (State.busRelease s).settings = s.settings := by unfold State.busRelease; split <;> simp
@[simp] theorem State.recTake_settings (s : State) (a1) (a2) : (State.recTake s a1 a2).settings = s.settings := by
  unfold State.recTake; dsimp only; (repeat' split) <;> simp
@[simp] theorem State.recDrain_settings (s : State) (a1) : (State.recDrain s a1).settings = s.settings := by
  unfold State.recDrain; dsimp only; (repeat' split) <;> simp
@[simp] theorem State.recArmAt_settings (s : State) (a1) (a2) (a3) : (State.recArmAt s a1 a2 a3).settings = s.settings := by unfold State.recArmAt; simp
@[simp] theorem State.recArm_settings (s : State) (a1) : (State.recArm s a1).settings = s.settings := by unfold State.recArm; simp
@[simp] theorem State.recStart_settings (s : State) (a1) : (State.recStart s a1).settings = s.settings := by unfold State.recStart; simp
@[simp] theorem State.recChanged_settings (s : State) (a1) (a2) : (State.recChanged s a1 a2).settings = s.settings := by unfold State.recChanged; simp
@[simp] theorem State.recTurn_settings (s : State) (a1) : (State.recTurn s a1).settings = s.settings := by
  unfold State.recTurn; dsimp only; split <;> simp [bank_settings]
@[simp] theorem State.recCapture_settings (s : State) (a1) : (State.recCapture s a1).settings = s.settings := by
  unfold State.recCapture; dsimp only; (repeat' split) <;> simp
@[simp] theorem State.recSwap_settings (s : State) (a1) (a2) : (State.recSwap s a1 a2).settings = s.settings := by unfold State.recSwap; simp
@[simp] theorem State.logicReset_settings (s : State) (a1) (a2) : (State.logicReset s a1 a2).settings = s.settings := by
  unfold State.logicReset; simp [bank_settings]
@[simp] theorem State.hostBistDone_settings (s : State) (a1) (a2) (a3) : (State.hostBistDone s a1 a2 a3).settings = s.settings := by
  unfold State.hostBistDone; simp
@[simp] theorem State.bistShown_settings (s : State) (a1) (a2) (a3) (a4) : (State.bistShown s a1 a2 a3 a4).settings = s.settings := by
  unfold State.bistShown; dsimp only; (repeat' split) <;> simp
@[simp] theorem State.rotated_settings (s : State) (a1) : (State.rotated s a1).settings = s.settings := by unfold State.rotated; simp
@[simp] theorem State.bistVerdict_settings (s : State) (a1) (a2) (a3) : (State.bistVerdict s a1 a2 a3).settings = s.settings := by
  have h1 : ∀ u : State, (if a2 = 1 then u.hostBistDone a1 a3 0 else u).settings = u.settings := by intro u; split <;> simp
  have h2 : ∀ u : State, (if a3 ≠ 0 then u.engineFail a1 (a3 + 2) else if a2 = 0 then u.rotated a1 else u).settings = u.settings := by
    intro u; unfold State.rotated; (repeat' split) <;> first | rfl | simp
  unfold State.bistVerdict; dsimp only; split
  · rw [State.proofNext_settings, h2, h1]
  · rw [h2, h1]
@[simp] theorem State.engineBistDone_settings (s : State) (a1) (a2) (a3) (a4) : (State.engineBistDone s a1 a2 a3 a4).settings = s.settings := by
  unfold State.engineBistDone; split
  · rfl
  · dsimp only; split
    · rw [State.engStart_settings, State.bistShown_settings, State.atTime_settings]
    · rw [State.bistVerdict_settings, State.bistShown_settings, State.atTime_settings]
@[simp] theorem State.rotate_settings (s : State) (a1) : (State.rotate s a1).settings = s.settings := by
  unfold State.rotate; dsimp only; rw [State.engStart_settings]; simp
@[simp] theorem State.spareRotation_settings (s : State) : (State.spareRotation s).settings = s.settings := by
  unfold State.spareRotation; split
  · rfl
  · dsimp only; split
    · rfl
    · rw [State.rotate_settings]; rfl
@[simp] theorem State.proofCycle_settings (s : State) : (State.proofCycle s).settings = s.settings := by
  unfold State.proofCycle; (repeat' split) <;> simp
@[simp] theorem State.blockFree_settings (s : State) (a1) : (State.blockFree s a1).settings = s.settings := by unfold State.blockFree; split <;> simp
@[simp] theorem State.blockEnd_settings (s : State) (a1) (a2) : (State.blockEnd s a1 a2).settings = s.settings := by
  unfold State.blockEnd; split <;> simp
@[simp] theorem State.tripTest_settings (s : State) : (State.tripTest s).settings = s.settings := by unfold State.tripTest; (repeat' split) <;> simp
@[simp] theorem State.blockStart_settings (s : State) (a1) : (State.blockStart s a1).settings = s.settings := by
  unfold State.blockStart; split <;> simp
@[simp] theorem State.blockBistDone_settings (s : State) (a1) (a2) : (State.blockBistDone s a1 a2).settings = s.settings := by
  unfold State.blockBistDone; split <;> simp
@[simp] theorem cmdBistRun_settings (s : State) (a1) (a2) : (cmdBistRun s a1 a2).st.settings = s.settings := by
  unfold cmdBistRun; dsimp only; (repeat' split) <;> simp
@[simp] theorem State.repRegs_settings (s : State) (a1) : (State.repRegs s a1).settings = s.settings := by unfold State.repRegs; simp
@[simp] theorem State.sramCorrected_settings (s : State) (a1) (a2) (a3) : (State.sramCorrected s a1 a2 a3).settings = s.settings := by
  unfold State.sramCorrected; simp
@[simp] theorem State.sramUncorrectable_settings (s : State) (a1) : (State.sramUncorrectable s a1).settings = s.settings := by
  unfold State.sramUncorrectable; simp
@[simp] theorem State.lockstep_settings (s : State) : (State.lockstep s).settings = s.settings := by unfold State.lockstep; simp
@[simp] theorem cmdRepairFuse_settings (s : State) (a1) (a2) : (cmdRepairFuse s a1 a2).st.settings = s.settings := by
  unfold cmdRepairFuse; dsimp only; (repeat' split) <;> simp
@[simp] theorem State.fuseBurnDone_settings (s : State) : (State.fuseBurnDone s).settings = s.settings := by unfold State.fuseBurnDone; split <;> simp
@[simp] theorem State.olderStands_settings (s : State) (a1) : (State.olderStands s a1).settings = s.settings := by
  unfold State.olderStands; split <;> simp
@[simp] theorem State.verifyFails_settings (s : State) (a1) : (State.verifyFails s a1).settings = s.settings := by unfold State.verifyFails; simp
@[simp] theorem State.sectorSpared_settings (s : State) (a1) : (State.sectorSpared s a1).settings = s.settings := by
  unfold State.sectorSpared; (repeat' split) <;> simp
@[simp] theorem State.spareRegs_settings (s : State) : (State.spareRegs s).settings = s.settings := by unfold State.spareRegs; simp
@[simp] theorem State.nandRetired_settings (s : State) (a1) : (State.nandRetired s a1).settings = s.settings := by
  have h : ∀ t : State, (t.deleteOldest.getD t).settings = t.settings := by
    intro t; cases hd : t.deleteOldest with
    | none => rfl
    | some u => simp [State.deleteOldest_settings t u hd]
  unfold State.nandRetired; dsimp only; (repeat' split) <;> simp [h]
@[simp] theorem State.erased_settings (s : State) (a1) : (State.erased s a1).settings = s.settings := by unfold State.erased; simp
@[simp] theorem State.blockDrained_settings (s : State) (a1) : (State.blockDrained s a1).settings = s.settings := by unfold State.blockDrained; simp
@[simp] theorem State.maintExit_settings (s : State) (a1) : (State.maintExit s a1).settings = s.settings := by unfold State.maintExit; simp
@[simp] theorem State.maintLease_settings (s : State) : (State.maintLease s).settings = s.settings := by unfold State.maintLease; simp
@[simp] theorem cmdMaintMode_settings (s : State) (a1) (a2) : (cmdMaintMode s a1 a2).st.settings = s.settings := by
  unfold cmdMaintMode; dsimp only; (repeat' split) <;> simp
@[simp] theorem State.sendFrame_settings (s : State) (a1) (a2) : (State.sendFrame s a1 a2).settings = s.settings := by unfold State.sendFrame; simp
@[simp] theorem State.tellHandover_settings (s : State) (a1) : (State.tellHandover s a1).settings = s.settings := by unfold State.tellHandover; simp
@[simp] theorem State.pairDone_settings (s : State) : (State.pairDone s).settings = s.settings := by unfold State.pairDone; split <;> simp
@[simp] theorem State.nrUpdate_settings (s : State) : (State.nrUpdate s).settings = s.settings := by unfold State.nrUpdate; simp
@[simp] theorem State.setEpoch_settings (s : State) (a1) : (State.setEpoch s a1).settings = s.settings := by unfold State.setEpoch; simp
@[simp] theorem State.claim_settings (s : State) : (State.claim s).settings = s.settings := by unfold State.claim; simp
@[simp] theorem State.claimGate_settings (s : State) : (State.claimGate s).settings = s.settings := by unfold State.claimGate; simp
@[simp] theorem State.stopBays_settings (s : State) : (State.stopBays s).settings = s.settings := by unfold State.stopBays; simp
@[simp] theorem State.enterStandby_settings (s : State) : (State.enterStandby s).settings = s.settings := by unfold State.enterStandby; simp
@[simp] theorem State.restoreLatches_settings (s : State) : (State.restoreLatches s).settings = s.settings := by
  refine forN_settings _ _ _ fun d s => ?_
  dsimp only; (repeat' split) <;> simp
@[simp] theorem State.startActive_settings (s : State) : (State.startActive s).settings = s.settings := by unfold State.startActive; simp
@[simp] theorem State.recsLost_settings (s : State) (a1) : (State.recsLost s a1).settings = s.settings := by
  unfold State.recsLost; apply forN_settings; intro i s; dsimp only; split <;> simp
@[simp] theorem State.claimLost_settings (s : State) : (State.claimLost s).settings = s.settings := by unfold State.claimLost; simp
@[simp] theorem State.compareInputs_settings (s : State) (a1) (a2) (a3) : (State.compareInputs s a1 a2 a3).settings = s.settings := by
  unfold State.compareInputs; dsimp only; (repeat' split) <;> simp [bank_settings]
@[simp] theorem State.loadElm_settings (s : State) (a0) (a1) : (State.loadElm s a0 a1).1.settings = s.settings := by
  unfold State.loadElm; simp
theorem loadElms_settings {α : Type} (l : List α) (f : State → α → State × Bool) (h : ∀ s e, (f s e).1.settings = s.settings) (r : State × Bool) :
    (l.foldl (fun (r : State × Bool) e => ((f r.1 e).1, r.2 || (f r.1 e).2)) r).1.settings = r.1.settings := by
  induction l generalizing r with
  | nil => rfl
  | cons a l ih => rw [List.foldl_cons, ih]; exact h r.1 a
@[simp] theorem State.loadKnot_settings (s : State) (a1) (a2) : (State.loadKnot s a1 a2).settings = s.settings := by unfold State.loadKnot; simp
@[simp] theorem State.loadRow_settings (s : State) (a1) (a2) : (State.loadRow s a1 a2).settings = s.settings := by unfold State.loadRow; simp
@[simp] theorem State.loadBay_settings (s : State) (a1) (a2) : (State.loadBay s a1 a2).settings = s.settings := by unfold State.loadBay; simp
@[simp] theorem State.loadRec_settings (s : State) (a1) : (State.loadRec s a1).settings = s.settings := by
  unfold State.loadRec; dsimp only; (repeat' split) <;> simp
@[simp] theorem State.loadReset_settings (s : State) (a1) : (State.loadReset s a1).settings = s.settings := by unfold State.loadReset; simp
@[simp] theorem State.loadSnap_settings (s : State) (a1) (a2) : (State.loadSnap s a1 a2).1.settings = s.settings := by
  unfold State.loadSnap
  simp only [forL_settings, State.loadRow_settings, State.loadKnot_settings, State.wr_settings, State.modPbus_settings, State.loadBay_settings, implies_true,
    loadElms_settings _ _ (fun s e => State.loadElm_settings s a1 e)]
@[simp] theorem State.pairWatch_settings (s : State) : (State.pairWatch s).settings = s.settings := by unfold State.pairWatch; split <;> simp
@[simp] theorem State.startReplay_settings (s : State) (a1) (a2) : (State.startReplay s a1 a2).settings = s.settings := by
  unfold State.startReplay
  extract_lets snap deg s1 s2 s3 s4 s5
  have h3 : s3.settings = s.settings := by
    simp only [s3, s2]; split <;> simp [s1]
  have h5 : s5.settings = s.settings := by simp [s5, s4, h3]
  clear_value s5 snap
  split
  · simp [h5]
  · cases snap <;> simp [h5]
@[simp] theorem State.markReplayed_settings (s : State) (a1) (a2) : (State.markReplayed s a1 a2).settings = s.settings := by
  unfold State.markReplayed; simp
@[simp] theorem State.recReplay_settings (s : State) (a1) : (State.recReplay s a1).settings = s.settings := by
  unfold State.recReplay; extract_lets; split
  · simp +zetaDelta
  · rw [forN_settings]
    · simp +zetaDelta
    · intro i s; split
      · rfl
      · extract_lets; (repeat' split) <;> simp +zetaDelta
@[simp] theorem State.recResume_settings (s : State) (a1) : (State.recResume s a1).settings = s.settings := by
  unfold State.recResume; rw [forN_settings]
  · simp
  · intro i s; (repeat' split) <;> simp
@[simp] theorem State.dropReplay_settings (s : State) : (State.dropReplay s).settings = s.settings := by unfold State.dropReplay; simp
@[simp] theorem State.abortHandover_settings (s : State) : (State.abortHandover s).settings = s.settings := by unfold State.abortHandover; simp
@[simp] theorem State.replayTick_settings (s : State) : (State.replayTick s).settings = s.settings := by
  unfold State.replayTick; dsimp only; (repeat' split) <;> simp
@[simp] theorem State.keepTrips_settings (s : State) (a1) (a2) : (State.keepTrips s a1 a2).settings = s.settings := by unfold State.keepTrips; simp
@[simp] theorem State.startGoose_settings (s : State) (a1) : (State.startGoose s a1).settings = s.settings := by unfold State.startGoose; simp
@[simp] theorem State.replayCatchUp_settings (s : State) (a1) : (State.replayCatchUp s a1).settings = s.settings := by
  unfold State.replayCatchUp; split <;> simp
@[simp] theorem State.linkRegs_settings (s : State) : (State.linkRegs s).settings = s.settings := by unfold State.linkRegs; simp
@[simp] theorem State.lumkoLost_settings (s : State) (a1) : (State.lumkoLost s a1).settings = s.settings := by unfold State.lumkoLost; simp
@[simp] theorem State.lumkoGained_settings (s : State) (a1) : (State.lumkoGained s a1).settings = s.settings := by unfold State.lumkoGained; simp
@[simp] theorem State.helloSend_settings (s : State) : (State.helloSend s).settings = s.settings := by unfold State.helloSend; simp
@[simp] theorem State.rankSeen_settings (s : State) (a1) : (State.rankSeen s a1).settings = s.settings := by unfold State.rankSeen; simp
@[simp] theorem State.joinHeard_settings (s : State) : (State.joinHeard s).settings = s.settings := by unfold State.joinHeard; simp
@[simp] theorem State.helloRx_settings (s : State) (a1) (a2) (a3) : (State.helloRx s a1 a2 a3).settings = s.settings := by unfold State.helloRx; simp
@[simp] theorem State.handoverCode_settings (s : State) (a1) : (State.handoverCode s a1).settings = s.settings := by
  unfold State.handoverCode; split <;> simp
@[simp] theorem State.handoverRx_settings (s : State) (a1) (a2) (a3) : (State.handoverRx s a1 a2 a3).settings = s.settings := by
  unfold State.handoverRx; simp
@[simp] theorem State.handoverRequest_settings (s : State) : (State.handoverRequest s).settings = s.settings := by
  unfold State.handoverRequest; split
  · rfl
  · split
    · exact (State.tellHandover_settings ..).trans ((State.modPair_settings ..).trans ((State.wr_settings ..).trans (State.atTime_settings ..)))
    · rfl
@[simp] theorem State.handoverAbort_settings (s : State) : (State.handoverAbort s).settings = s.settings := by
  unfold State.handoverAbort; split <;> simp
@[simp] theorem State.enterJoining_settings (s : State) : (State.enterJoining s).settings = s.settings := by unfold State.enterJoining; simp
@[simp] theorem State.joinHeartbeat_settings (s : State) (a1) : (State.joinHeartbeat s a1).settings = s.settings := by
  unfold State.joinHeartbeat; simp
@[simp] theorem State.joiningTimeout_settings (s : State) : (State.joiningTimeout s).settings = s.settings := by unfold State.joiningTimeout; simp
@[simp] theorem State.claimHeard_settings (s : State) : (State.claimHeard s).settings = s.settings := by unfold State.claimHeard; simp
@[simp] theorem State.setPath_settings (s : State) (a1) (a2) : (State.setPath s a1 a2).settings = s.settings := by unfold State.setPath; simp
@[simp] theorem State.pathHear_settings (s : State) (a1) : (State.pathHear s a1).settings = s.settings := by unfold State.pathHear; simp
@[simp] theorem State.partnerFailed_settings (s : State) : (State.partnerFailed s).settings = s.settings := by
  unfold State.partnerFailed; simp
@[simp] theorem State.hbMiss_settings (s : State) (a1) : (State.hbMiss s a1).settings = s.settings := by
  unfold State.hbMiss; dsimp only; (repeat' split) <;> simp
@[simp] theorem State.snapSettle_settings (s : State) : (State.snapSettle s).settings = s.settings := by unfold State.snapSettle; split <;> simp
@[simp] theorem State.heartbeatSend_settings (s : State) : (State.heartbeatSend s).settings = s.settings := by unfold State.heartbeatSend; simp
@[simp] theorem State.measureTheta_settings (s : State) (a1) : (State.measureTheta s a1).settings = s.settings := by unfold State.measureTheta; simp
@[simp] theorem State.heartbeatRx_settings (s : State) (a1) (a2) (a3) : (State.heartbeatRx s a1 a2 a3).settings = s.settings := by
  unfold State.heartbeatRx; simp
@[simp] theorem State.towHeartbeat_settings (s : State) (a1) : (State.towHeartbeat s a1).settings = s.settings := by unfold State.towHeartbeat; simp
@[simp] theorem State.snapshot_settings (s : State) : (State.snapshot s).settings = s.settings := by
  unfold State.snapshot; dsimp only; (repeat' split) <;> simp
@[simp] theorem State.snapData_settings (s : State) (a1) (a2) (a3) : (State.snapData s a1 a2 a3).settings = s.settings := by
  unfold State.snapData; dsimp only; (repeat' split) <;> simp
@[simp] theorem State.snapEnd_settings (s : State) (a1) (a2) (a3) (a4) : (State.snapEnd s a1 a2 a3 a4).settings = s.settings := by
  unfold State.snapEnd; dsimp only; (repeat' split) <;> simp
@[simp] theorem cmdPairJoin_settings (s : State) (a1) (a2) : (cmdPairJoin s a1 a2).st.settings = s.settings := by
  unfold cmdPairJoin; (repeat' split) <;> simp
@[simp] theorem cmdPairYield_settings (s : State) (a1) (a2) : (cmdPairYield s a1 a2).st.settings = s.settings := by
  unfold cmdPairYield; (repeat' split) <;> simp
@[simp] theorem cmdPairStatus_settings (s : State) (a1) (a2) : (cmdPairStatus s a1 a2).st.settings = s.settings := by
  unfold cmdPairStatus; (repeat' split) <;> simp
@[simp] theorem State.exportChunk_settings (s : State) : (State.exportChunk s).settings = s.settings := by
  unfold State.exportChunk; (repeat' split) <;> simp
@[simp] theorem cmdRecArm_settings (s : State) (a1) (a2) : (cmdRecArm s a1 a2).st.settings = s.settings := by
  unfold cmdRecArm; dsimp only; (repeat' split) <;> simp
@[simp] theorem cmdRecFetch_settings (s : State) (a1) (a2) : (cmdRecFetch s a1 a2).st.settings = s.settings := by
  unfold cmdRecFetch; dsimp only; (repeat' split) <;> simp
@[simp] theorem cmdRecExport_settings (s : State) (a1) (a2) : (cmdRecExport s a1 a2).st.settings = s.settings := by
  unfold cmdRecExport; dsimp only; (repeat' split) <;> simp
@[simp] theorem cmdRecTrigger_settings (s : State) (a1) (a2) : (cmdRecTrigger s a1 a2).st.settings = s.settings := by
  unfold cmdRecTrigger; dsimp only; (repeat' split) <;> simp
@[simp] theorem cmdRecDisarm_settings (s : State) (a1) (a2) : (cmdRecDisarm s a1 a2).st.settings = s.settings := by
  unfold cmdRecDisarm; dsimp only; (repeat' split) <;> simp
@[simp] theorem State.recProtect_settings (s : State) (a1) (a2) : (State.recProtect s a1 a2).settings = s.settings := by unfold State.recProtect; simp
@[simp] theorem cmdRecManage_settings (s : State) (a1) (a2) : (cmdRecManage s a1 a2).st.settings = s.settings := by
  unfold cmdRecManage; dsimp only; (repeat' split) <;> simp
@[simp] theorem State.custRegs_settings (s : State) : (State.custRegs s).settings = s.settings := by unfold State.custRegs; simp
@[simp] theorem State.setChamber_settings (s : State) (a1) : (State.setChamber s a1).settings = s.settings := by unfold State.setChamber; simp
@[simp] theorem State.busyChamber_settings (s : State) : (State.busyChamber s).st.settings = s.settings := by unfold State.busyChamber; simp
@[simp] theorem State.authFail_settings (s : State) (a1) : (State.authFail s a1).settings = s.settings := by unfold State.authFail; simp
@[simp] theorem State.endorseRefused_settings (s : State) (a1) (a2) : (State.endorseRefused s a1 a2).st.settings = s.settings := by
  unfold State.endorseRefused; simp
@[simp] theorem State.authLockoutEnd_settings (s : State) : (State.authLockoutEnd s).settings = s.settings := by
  unfold State.authLockoutEnd; split <;> simp
@[simp] theorem State.useSlot_settings (s : State) (a1) : (State.useSlot s a1).settings = s.settings := by unfold State.useSlot; simp
@[simp] theorem State.custWrite_settings (s : State) (a1) : (State.custWrite s a1).settings = s.settings := by unfold State.custWrite; simp
@[simp] theorem State.stageOpen_settings (s : State) (a1) : (State.stageOpen s a1).st.settings = s.settings := by
  unfold State.stageOpen; (repeat' split) <;> simp
@[simp] theorem State.stageWrite_settings (s : State) (a1) : (State.stageWrite s a1).st.settings = s.settings := by
  unfold State.stageWrite; dsimp only; (repeat' split) <;> simp
@[simp] theorem State.stageSeal_settings (s : State) (a1) : (State.stageSeal s a1).st.settings = s.settings := by
  unfold State.stageSeal; dsimp only; (repeat' split) <;> simp
@[simp] theorem cmdSetStage_settings (s : State) (a1) (a2) : (cmdSetStage s a1 a2).st.settings = s.settings := by
  unfold cmdSetStage; (repeat' split) <;> simp
@[simp] theorem cmdSetEndorse_settings (s : State) (a1) (a2) : (cmdSetEndorse s a1 a2).st.settings = s.settings := by
  unfold cmdSetEndorse; dsimp only; (repeat' split) <;> simp
@[simp] theorem cmdSetCommit_settings (s : State) (a1) (a2) : (cmdSetCommit s a1 a2).st.settings = s.settings := by
  unfold cmdSetCommit; dsimp only; (repeat' split) <;> simp
@[simp] theorem cmdSetAbort_settings (s : State) (a1) (a2) : (cmdSetAbort s a1 a2).st.settings = s.settings := by
  unfold cmdSetAbort; dsimp only; (repeat' split) <;> simp
@[simp] theorem cmdKeyEnrol_settings (s : State) (a1) (a2) : (cmdKeyEnrol s a1 a2).st.settings = s.settings := by
  unfold cmdKeyEnrol; dsimp only; (repeat' split) <;> simp
@[simp] theorem cmdEvtClear_settings (s : State) (a1) (a2) : (cmdEvtClear s a1 a2).st.settings = s.settings := by
  unfold cmdEvtClear; dsimp only; (repeat' split) <;> simp
@[simp] theorem State.spWrite_settings (s : State) (a1) (a2) (a3) : (State.spWrite s a1 a2 a3).settings = s.settings := by unfold State.spWrite; simp
@[simp] theorem State.swapGrid_settings (s : State) (a1) (a2) (a3) : (State.swapGrid s a1 a2 a3).settings = s.settings := by
  unfold State.swapGrid; simp
@[simp] theorem State.swapUtc_settings (s : State) (a1) (a2) (a3) : (State.swapUtc s a1 a2 a3).settings = s.settings := by
  unfold State.swapUtc; dsimp only; (repeat' split) <;> simp
@[simp] theorem State.swapChannels_settings (s : State) (a1) (a2) (a3) (a4) : (State.swapChannels s a1 a2 a3 a4).settings = s.settings := by
  unfold State.swapChannels; simp
@[simp] theorem State.swapBays_settings (s : State) (a1) (a2) (a3) : (State.swapBays s a1 a2 a3).settings = s.settings := by
  unfold State.swapBays; simp
@[simp] theorem State.swapRows_settings (s : State) (a1) (a2) : (State.swapRows s a1 a2).settings = s.settings := by unfold State.swapRows; simp
@[simp] theorem State.swapLog_settings (s : State) (a1) (a2) : (State.swapLog s a1 a2).settings = s.settings := by unfold State.swapLog; simp
@[simp] theorem State.showBank_settings (s : State) (a1) (a2) : (State.showBank s a1 a2).settings = s.settings := by unfold State.showBank; simp
@[simp] theorem State.chanTau_settings (s : State) (a1) (a2) (a3) : (State.chanTau s a1 a2 a3).settings = s.settings := by unfold State.chanTau; simp
@[simp] theorem State.tickTaus_settings (s : State) (a1) (a2) (a3) : (State.tickTaus s a1 a2 a3).settings = s.settings := by
  unfold State.tickTaus; simp
@[simp] theorem State.retau_settings (s : State) (a1) : (State.retau s a1).settings = s.settings := by unfold State.retau; simp
@[simp] theorem State.freqFollow_settings (s : State) (a1) : (State.freqFollow s a1).settings = s.settings := by
  unfold State.freqFollow; exact (State.fastCoef_settings _).trans (forN_settings _ _ _ fun _ _ => rfl)
@[simp] theorem State.trackFull_settings (s : State) : (State.trackFull s).settings = s.settings := by unfold State.trackFull; split <;> simp
@[simp] theorem State.trackNow_settings (s : State) : (State.trackNow s).settings = s.settings := by unfold State.trackNow; split <;> simp
@[simp] theorem State.trackRamp_settings (s : State) : (State.trackRamp s).settings = s.settings := by unfold State.trackRamp; simp
@[simp] theorem State.localDeliver_settings (s : State) (a1) : (State.localDeliver s a1).settings = s.settings := by
  induction a1 generalizing s with
  | nil => simp [State.localDeliver]
  | cons _ _ ih => simp only [State.localDeliver]; (repeat' split) <;> simp [ih]
@[simp] theorem State.deliver_settings (s : State) : (State.deliver s).settings = s.settings := by unfold State.deliver; simp
@[simp] theorem State.gridCatch_settings (s : State) : (State.gridCatch s).settings = s.settings := by unfold State.gridCatch; simp
@[simp] theorem State.idleRows_settings (s : State) (a1) : (State.idleRows s a1).settings = s.settings := by
  unfold State.idleRows; (repeat' split) <;> simp
@[simp] theorem State.beforeTick_settings (s : State) (a1) (a2) : (State.beforeTick s a1 a2).settings = s.settings := by unfold State.beforeTick; simp
@[simp] theorem State.tickFreq_settings (s : State) (a1) : (State.tickFreq s a1).settings = s.settings := by
  unfold State.tickFreq; (repeat' split) <;> simp
@[simp] theorem State.noStreams_settings (s : State) : (State.noStreams s).settings = s.settings := by unfold State.noStreams; simp
@[simp] theorem cmdNegotiate_settings (s : State) (a1) (a2) : (cmdNegotiate s a1 a2).st.settings = s.settings := by
  unfold cmdNegotiate; dsimp only; (repeat' split) <;> simp
@[simp] theorem cmdIdentify_settings (s : State) (a1) (a2) : (cmdIdentify s a1 a2).st.settings = s.settings := by
  unfold cmdIdentify; (repeat' split) <;> simp
@[simp] theorem cmdRestart_settings (s : State) (a1) (a2) : (cmdRestart s a1 a2).st.settings = s.settings := by
  unfold cmdRestart; (repeat' split) <;> simp
@[simp] theorem hostCmd_settings (a0) (s : State) (a2) (a3) : (hostCmd a0 s a2 a3).st.settings = s.settings := by unfold hostCmd; split <;> simp
@[simp] theorem State.serve_settings (s : State) : (s.serve hostCmd).settings = s.settings := by
  unfold State.serve; rw [State.interpretAll_settings _ _ _ hostCmd_settings]; simp
theorem State.submit_settings (s : State) (q : Bool) (o : Nat) (p : Packet) (f : State → Bool → Packet → CmdRes)
    (h : ∀ s q p, (f s q p).st.settings = s.settings) : (s.submit q o p f).settings = s.settings := by
  unfold State.submit; split
  · rfl
  · split
    · simp
    · extract_lets; split
      · simp
      · split
        · rw [State.interpretWith_settings _ _ _ h]; simp +zetaDelta
        · rw [State.serve_settings]; simp +zetaDelta
@[simp] theorem State.undefinedOpcode_settings (s : State) (a1) (a2) (a3) : (State.undefinedOpcode s a1 a2 a3).settings = s.settings := by
  unfold State.undefinedOpcode; split
  · rfl
  · exact State.submit_settings _ _ _ _ _ (hostCmd_settings _)
@[simp] theorem State.b0Head_settings (s : State) (a1) (a2) (a3) : (State.b0Head s a1 a2 a3).settings = s.settings := by unfold State.b0Head; simp
@[simp] theorem State.tailWrite_settings (s : State) (a1) (a2) (a3) : (State.tailWrite s a1 a2 a3).settings = s.settings := by
  unfold State.tailWrite; (repeat' split) <;> simp
@[simp] theorem State.berthCfg_settings (s : State) (a1) (a2) (a3) : (State.berthCfg s a1 a2 a3).settings = s.settings := by
  unfold State.berthCfg; simp
@[simp] theorem State.berthHoldoff_settings (s : State) (a1) : (State.berthHoldoff s a1).settings = s.settings := by
  unfold State.berthHoldoff; split <;> simp
@[simp] theorem State.berthOverflow_settings (s : State) : (State.berthOverflow s).settings = s.settings := by unfold State.berthOverflow; simp
@[simp] theorem State.hostReset_settings (s : State) : (State.hostReset s).settings = s.settings := by unfold State.hostReset; simp [bank_settings]
@[simp] theorem State.hostCtrl_settings (s : State) (a1) : (State.hostCtrl s a1).settings = s.settings := by unfold State.hostCtrl; simp
@[simp] theorem State.pcieReset_settings (s : State) (a1) : (State.pcieReset s a1).settings = s.settings := by unfold State.pcieReset; simp
@[simp] theorem State.pcieUp_settings (s : State) (a1) : (State.pcieUp s a1).settings = s.settings := by unfold State.pcieUp; simp
@[simp] theorem State.windowWrite_settings (s : State) (a1) (a2) (a3) : (State.windowWrite s a1 a2 a3).settings = s.settings := by
  unfold State.windowWrite; simp
@[simp] theorem State.returns_settings (s : State) (a1) : (State.returns s a1).settings = s.settings := by unfold State.returns; simp
@[simp] theorem State.clearRc_settings (s : State) (a1) : (State.clearRc s a1).settings = s.settings := by
  unfold State.clearRc; (repeat' split) <;> simp
@[simp] theorem State.hostRead_settings (s : State) (a1) : (State.hostRead s a1).settings = s.settings := by
  unfold State.hostRead; (repeat' split) <;> simp
@[simp] theorem State.writeRw_settings (s : State) (a1) (a2) : (State.writeRw s a1 a2).settings = s.settings := by unfold State.writeRw; simp
@[simp] theorem State.writeW1c_settings (s : State) (a1) (a2) : (State.writeW1c s a1 a2).settings = s.settings := by unfold State.writeW1c; simp
@[simp] theorem State.msixWrite_settings (s : State) (a1) (a2) : (State.msixWrite s a1 a2).settings = s.settings := by unfold State.msixWrite; simp
@[simp] theorem State.berthWrite_settings (s : State) (a1) (a2) (a3) : (State.berthWrite s a1 a2 a3).settings = s.settings := by
  unfold State.berthWrite; split <;> simp
@[simp] theorem State.hostWrite_settings (s : State) (a1) (a2) (a3) : (State.hostWrite s a1 a2 a3).settings = s.settings := by
  unfold State.hostWrite
  refine State.settings_ite rfl ?_
  refine State.settings_ite (State.bump_settings ..) ?_
  refine State.settings_ite (State.berthWrite_settings ..) ?_
  refine State.settings_ite (State.msixWrite_settings ..) ?_
  refine State.settings_ite (State.spWrite_settings ..) ?_
  refine State.settings_ite (State.hostCtrl_settings ..) ?_
  refine State.settings_ite (State.tdacCtrl_settings ..) ?_
  refine State.settings_ite (State.settings_ite rfl (State.writeRw_settings ..)) ?_
  refine State.settings_ite (State.testmarkWrite_settings ..) ?_
  refine State.settings_ite (State.testmarkWrite_settings ..) ?_
  refine State.settings_ite (State.tmReset_settings ..) ?_
  refine State.settings_ite (State.tmForce_settings ..) ?_
  refine State.settings_ite (State.tmForce_settings ..) ?_
  refine State.settings_ite (State.xchkWrite_settings ..) ?_
  refine State.settings_ite (State.leapWrite_settings ..) ?_
  refine State.settings_ite (State.mdioWrite_settings ..) ?_
  refine State.settings_ite (State.todWrite_settings ..) ?_
  refine State.settings_ite (State.todWrite_settings ..) ?_
  split
  · exact State.injWrite_settings ..
  · exact State.auxTrgCfg_settings ..
  · exact State.pstreamWrite_settings ..
  · extract_lets s1 s2
    have h1 : s1.settings = s.settings := State.settings_ite rfl (State.spWrite_settings ..)
    have h2 : s2.settings = s.settings := by simp only [s2, State.writeW1c_settings, State.writeRw_settings, h1]
    exact State.settings_ite (by rw [State.alive_settings, h2]) h2
@[simp] theorem State.registerWrite_settings (s : State) (a1) (a2) (a3) (a4) : (State.registerWrite s a1 a2 a3 a4).settings = s.settings := by
  unfold State.registerWrite; simp
@[simp] theorem State.supplyReset_settings (s : State) (a1) : (State.supplyReset s a1).settings = s.settings := by unfold State.supplyReset; simp
@[simp] theorem State.rstLow_settings (s : State) : (State.rstLow s).settings = s.settings := by unfold State.rstLow; simp
@[simp] theorem State.uvEnter_settings (s : State) (a1) : (State.uvEnter s a1).settings = s.settings := by unfold State.uvEnter; simp
@[simp] theorem State.vafeSpoils_settings (s : State) : (State.vafeSpoils s).settings = s.settings := by unfold State.vafeSpoils; simp
@[simp] theorem State.vmainWarn_settings (s : State) : (State.vmainWarn s).settings = s.settings := by unfold State.vmainWarn; simp
@[simp] theorem State.vmainClear_settings (s : State) : (State.vmainClear s).settings = s.settings := by unfold State.vmainClear; simp
@[simp] theorem State.vafeLow_settings (s : State) : (State.vafeLow s).settings = s.settings := by unfold State.vafeLow; simp
@[simp] theorem State.vafeClear_settings (s : State) : (State.vafeClear s).settings = s.settings := by unfold State.vafeClear; simp
@[simp] theorem State.vafeLost_settings (s : State) : (State.vafeLost s).settings = s.settings := by unfold State.vafeLost; split <;> simp
@[simp] theorem State.vafeReturn_settings (s : State) (a1) : (State.vafeReturn s a1).settings = s.settings := by unfold State.vafeReturn; simp
@[simp] theorem State.startEngines_settings (s : State) (a1) : (State.startEngines s a1).settings = s.settings := by
  unfold State.startEngines; apply forN_settings; intro i s; dsimp only; split <;> simp
@[simp] theorem State.startMacro_settings (s : State) (a1) (a2) : (State.startMacro s a1 a2).settings = s.settings := by unfold State.startMacro; simp
@[simp] theorem State.findLatches_settings (s : State) (a1) : (State.findLatches s a1).settings = s.settings := by unfold State.findLatches; simp
@[simp] theorem State.startTime_settings (s : State) (a1) : (State.startTime s a1).settings = s.settings := by unfold State.startTime; simp
@[simp] theorem State.startGrid_settings (s : State) (a1) (a2) : (State.startGrid s a1 a2).settings = s.settings := by unfold State.startGrid; simp
@[simp] theorem State.autocal_settings (s : State) : (State.autocal s).settings = s.settings := by unfold State.autocal; simp
@[simp] theorem State.protect_settings (s : State) : (State.protect s).settings = s.settings := by unfold State.protect; simp
@[simp] theorem State.norApply_settings (s : State) (a1) : (State.norApply s a1).settings = s.settings := by unfold State.norApply; simp
@[simp] theorem State.norAccess_settings (s : State) (a1) : (State.norAccess s a1).settings = s.settings := by unfold State.norAccess; simp
@[simp] theorem State.norDone_settings (s : State) : (State.norDone s).settings = s.settings := by unfold State.norDone; split <;> simp
@[simp] theorem State.norCut_settings (s : State) : (State.norCut s).settings = s.settings := by unfold State.norCut; split <;> simp [bank_settings]
@[simp] theorem State.powerOn_settings (s : State) : (State.powerOn s).settings = s.settings := by unfold State.powerOn; simp
@[simp] theorem State.live_settings (s : State) (f : State → State) (h : ∀ s : State, (f s).settings = s.settings) : (s.live f).settings = s.settings := by
  unfold State.live; split
  · exact h s
  · rfl
@[simp] theorem State.viaDie_settings (s : State) (f : State → State) (h : ∀ s : State, (f s).settings = s.settings) :
    (s.viaDie f).settings = s.settings := by
  unfold State.viaDie; split
  · exact h s
  · rfl
@[simp] theorem State.linkDown_settings (s : State) : (State.linkDown s).settings = s.settings := by unfold State.linkDown; simp [bank_settings]
@[simp] theorem State.readbackSeen_settings (s : State) (a1) (a2) (a3) : (State.readbackSeen s a1 a2 a3).settings = s.settings := by
  unfold State.readbackSeen; simp
@[simp] theorem State.claimSeen_settings (s : State) (a1) (a2) : (State.claimSeen s a1 a2).settings = s.settings := by unfold State.claimSeen; simp
@[simp] theorem State.w1cRow_settings (s : State) (a1) (a2) (a3) : (State.w1cRow s a1 a2 a3).settings = s.settings := by unfold State.w1cRow; simp
@[simp] theorem State.auxResultRead_settings (s : State) (a1) (a2) : (State.auxResultRead s a1 a2).settings = s.settings := by
  unfold State.auxResultRead; simp
@[simp] theorem State.bayTickRead_settings (s : State) (a1) : (State.bayTickRead s a1).settings = s.settings := by unfold State.bayTickRead; simp
@[simp] theorem State.tapCapture_settings (s : State) : (State.tapCapture s).settings = s.settings := by unfold State.tapCapture; simp [bank_settings]
@[simp] theorem State.tapUpdate_settings (s : State) : (State.tapUpdate s).settings = s.settings := by unfold State.tapUpdate; simp [bank_settings]
@[simp] theorem State.tapRise_settings (s : State) (a1) : (State.tapRise s a1).settings = s.settings := by
  unfold State.tapRise; split <;> simp [bank_settings]
@[simp] theorem State.tapFall_settings (s : State) : (State.tapFall s).settings = s.settings := by
  unfold State.tapFall; split <;> simp [bank_settings]
@[simp] theorem State.tapClock_settings (s : State) (a1) : (State.tapClock s a1).settings = s.settings := by
  unfold State.tapClock; simp [bank_settings]
@[simp] theorem State.tapClocks_settings (s : State) (a1) : (State.tapClocks s a1).settings = s.settings := by unfold State.tapClocks; simp
@[simp] theorem State.grpShown_settings (s : State) : (State.grpShown s).settings = s.settings := by unfold State.grpShown; simp [bank_settings]
@[simp] theorem State.shown_settings (s : State) : (State.shown s).settings = s.settings := by unfold State.shown; simp [bank_settings]
@[simp] theorem State.left_settings (a0 s : State) : (State.left a0 s).settings = s.settings := rfl
@[simp] theorem State.withFetchWord_settings (s : State) (a1) (a2) : (State.withFetchWord s a1 a2).settings = s.settings := by
  unfold State.withFetchWord; split <;> simp [bank_settings]
end Sys2Proof.Machine
end

