-- ==== Sys2Proof/Laws/StdSets.lean ====
section
/-! SUPPORT. Every standard set of the model has what the spec states of it (R160, R162, R165, R167). -/
namespace Sys2Proof.Machine

theorem designedSet_ok_0 : stdSetOk 0 0 (designedSet 0).1 (designedSet 0).2 = true := by decide +kernel
theorem designedSet_ok_1 : stdSetOk 0 1 (designedSet 1).1 (designedSet 1).2 = true := by decide +kernel
theorem designedSet_ok_2 : stdSetOk 0 2 (designedSet 2).1 (designedSet 2).2 = true := by decide +kernel
theorem designedSet_ok_3 : stdSetOk 0 3 (designedSet 3).1 (designedSet 3).2 = true := by decide +kernel
theorem designedSet_ok_4 : stdSetOk 0 4 (designedSet 4).1 (designedSet 4).2 = true := by decide +kernel

/-- A symmetric list meets what is asked of either type. -/
theorem stdCoefOk_of_linear {l : List Int} (type : Nat) (h : stdCoefOk 0 l = true) : stdCoefOk type l = true := by
  simp only [stdCoefOk, Bool.and_eq_true, Bool.or_eq_true] at h ⊢
  exact ⟨h.1, .inr (h.2.resolve_left (by decide))⟩

theorem stdSetOk_of_linear {rcode : Nat} {h g : List Int} (type : Nat) (k : stdSetOk 0 rcode h g = true) :
    stdSetOk type rcode h g = true := by
  simp only [stdSetOk, Bool.and_eq_true] at k ⊢
  exact ⟨⟨⟨stdCoefOk_of_linear type k.1.1.1, stdCoefOk_of_linear type k.1.1.2⟩, k.1.2⟩, k.2⟩

/-- R167: the coefficients of every standard set have its passband, its attenuation and what R160, R162 and R165 ask. -/
theorem stdSet_ok (type rcode : Nat) (hr : rcode < 5) :
    stdSetOk type rcode (stdSet type rcode).1 (stdSet type rcode).2 = true := by
  unfold stdSet
  dsimp only
  split
  · assumption
  · refine stdSetOk_of_linear type ?_
    match rcode, hr with
    | 0, _ => exact designedSet_ok_0
    | 1, _ => exact designedSet_ok_1
    | 2, _ => exact designedSet_ok_2
    | 3, _ => exact designedSet_ok_3
    | 4, _ => exact designedSet_ok_4

end Sys2Proof.Machine
end

