-- ==== Sys2Proof/Tests/Slice0.lean ====
section
/-! SUPPORT. Tests: an ill-formed term for each check of well-formedness, and for every statement a state and operands that meet its
hypotheses. -/
set_option Elab.async false
namespace Sys2Proof.Tests
open Sys2Proof.Machine Reg

def base : State := { State.reset with pwr := { phase := .running, prot := true, applied := true }, grid := { State.reset.grid with now := 1000000 } }
def setSp (f : Field) (v : Nat) (i : Nat := 0) (s : State) : State :=
  let a := f.at' i 0
  { s with bank := { s.bank with words := tset s.bank.words a (f.put ((s.bank.word a).getD 0) v) } }
def up (s : State) : State := s.modPwr fun p => { p with phase := .running }
def die (s : State) : State := (up s).modDio fun d => { d with reset := false, cfg := true }
def dbase : State := die base
def prd (r : Nat) (s : State) : State := ((up s).wr PAIR_STATUS.ROLE r).wr PAIR_STATUS.LINK 1 |>.modPair fun p => { p with ver := 2, locks := 15 }
def pbase : State := prd 2 base
def mkOut (d : Nat) (s : State) : State := setSp DIO_CH_CFG.DIR 2 d (die s |>.modDio fun x => { x with bind := none })
def chm (m : Nat) (f : ChanSt → ChanSt) (s : State) : State := let s := (setSp AFE_CH_CFG.MODE m 3 (up s)).modAfe fun a => { a with cal := none, diag := none, skew := none }; ((s.wr AFE_STATUS.GRP_BIST 0).setChan 3 (f { (s.chan 3) with tm := 999000 * 2 ^ 32, sync := [], powerUp := none }))
def hb0 (n : Nat) : List Int := (List.range 200).map fun i => ((i * 37 + n) % 2000 : Nat)
def trk0 (s : State) : State := (up s).modGrid fun g => { g with trkDone := false, nextN := 161, nextT := 990000 * 2 ^ 24 + 62500 * 2 ^ 24, hist := [{ n := 160, t := 990000 * 2 ^ 24, per := 62500 * 2 ^ 24, freq := 50000000 }], freq := 48000000 + s.grid.now % 1000000, holdCyc := s.grid.now % 5 }
def svb (k : Nat) (s : State) : State := let s := setSp PBUS_SV_CFG.EN 1 k (setSp PBUS_SV_CFG.PORT 1 k (setSp PBUS_SV_CFG.NMEM 1 k (setSp PBUS_SV_CFG.SIM 0 k (setSp PBUS_SV_CFG.VLAN_EN 0 k (setSp PBUS_SV_CFG.ASDU 1 k (setSp PBUS_SV_CONFREV_A.VALUE 1 k (setSp PBUS_SV_APPID.APPID 16384 k (setSp PBUS_SV_MAC_LO.VALUE 0 k (setSp PBUS_SV_MAC_HI.VALUE 0 k (up s))))))))))
  let s := setSp PBUS_SV_IDDIG_LO.VALUE (digest64 [65] % 2^32) k (setSp PBUS_SV_IDDIG_HI.VALUE (digest64 [65] / 2^32) k s)
  let s := setSp PBUS_MAP.EN 1 6 (setSp PBUS_MAP.SUB k 6 (setSp PBUS_MAP.MEMBER 0 6 s))
  s.modNet fun n => { n with mode := 0, ports := 3, down := [], bind := none }
def hd0 (t : Nat) : NetHead := { port := 0, sfd := t, src := 77, dst := 0, appid := 16384 }
def sva (c : Nat) : SvAsdu := { svId := [65], smpCnt := c, confRev := 1, smpSynch := c % 3, mem := [(5000, {})] }
def gsb (i : Nat) (s : State) : State := let s := setSp PBUS_GS_CFG.EN 1 i (setSp PBUS_GS_CFG.PORT 1 i (setSp PBUS_GS_APPID.APPID 5 i (up s)))
  let s := setSp PBUS_GS_REFDIG_LO.VALUE (digest64 [] % 2^32) i (setSp PBUS_GS_REFDIG_HI.VALUE (digest64 [] / 2^32) i s)
  let s := setSp PBUS_GIN_MAP.EN 1 6 (setSp PBUS_GIN_MAP.SUB i 6 (setSp PBUS_GIN_MAP.MEMBER 0 6 s))
  let s := setSp PBUS_GIN_MAP.EN 1 37 (setSp PBUS_GIN_MAP.SUB i 37 (setSp PBUS_GIN_MAP.MEMBER 1 37 s))
  s.modNet fun n => { n with mode := 0, ports := 3, down := [], bind := none }
def gsf (t st sq : Nat) : GooseFrame := { hd := { port := 0, sfd := t, src := 77, dst := gooseMac 5, appid := 5 }, ref := [], confRev := 1, stNum := st, sqNum := sq, tal := 1000, mem := [.bool (st % 2 = 0), .bool true] }
def ptb (src : Nat) (s : State) : State := ((((up s).modNet fun n => { n with ports := 3, down := [] }).modPtp fun p => { p with st := [(0,3),(1,1)] }).wr GRID_TQ.SOURCE src).wr GRID_TQ.HOLDOVER 0
def setG (f : Field) (v : Nat) (i : Nat := 0) (g : Nat := 0) (s : State) : State :=
  let a := f.at' i 0 + (g + 1) * 2 ^ 24
  { s with bank := { s.bank with words := tset s.bank.words a (f.put ((s.bank.word a).getD 0) v) } }
def recs (v : Int) (ssw : Nat) : List TickRec := (List.range 100).map fun i => { n := 199 - i, t := (990000 * 2 ^ 24 - 62500 * 2 ^ 24 * i), per := 62500 * 2 ^ 24, freq := 50000000, smp := [(0, ⟨v * (if i % 4 < 2 then 1 else -1), ssw, false, false⟩)] }
def bay0 (el : List (Nat × ElmSt × Nat)) (v : Int) (s : State) : State :=
  let s := (((up s).wr PAIR_STATUS.ROLE 0).modPwr fun p => { p with prot := true })
  let s := { s with prev := none, bank := { s.bank with words := s.bank.words.filter fun x => decide (x.1 < 0x90000) } }
  let s := s.modGrid fun g => { g with now := 995000 + g.now % 5, nextN := 200, trkDone := true, hist := recs v 1 }
  let s := setSp BAY_CFG.EN 1 3 s
  let s := setSp BAY_SLOT.CH 0 3 (setSp BAY_SLOT.ROLE 1 3 s)
  el.foldl (fun s x => setSp ELM_CFG.EN 1 x.1 (setSp ELM_CFG.BAY 3 x.1 (setSp ELM_CFG.TYPE x.2.2 x.1 s))) s |>.modEval fun v => { v with bay := [(3, { run := true, next := 199, grp := [(100, 0)] })], elm := el.map fun x => (x.1, ⟨x.2.1, [(100, 0)]⟩) }
def knot1 (q v : Nat) (s : State) : State := s.modEval fun x => { x with knot := tset x.knot q { (tget {} x.knot q) with out := [(100, v)] } }
def outs (e v : Nat) (s : State) : State := s.modEval fun x => { x with elm := x.elm.map fun y => if y.1 = e then (y.1, { y.2 with out := [(100, v)] }) else y }
def phs3 (s : State) : State := [(0,1),(1,2),(2,3)].foldl (fun s x => let s := { s with bank := { s.bank with words := tset s.bank.words (BAY_SLOT.ROLE.at' 3 x.1) (BAY_SLOT.ROLE.put 0 x.2) } }; s) s
def recOf (s : State) : TickRec := (s.grid.hist.head?).getD { n := 0, t := 0, per := 0, freq := 0 }
def engb (s : State) : State := let s := (up s).modPwr fun p => { p with prot := true }
  let s := (List.range 9).foldl (fun s k => s.wr BIST_ENG_STATUS.HEALTHY 1 k) s
  let s := (List.range 20).foldl (fun s b => setSp BAY_CFG.EN (s.grid.now % 2) b s) s
  let s := s.wr PAIR_STATUS.ROLE (s.grid.now % 3)
  (s.modBist fun v => { v with sets := [(0,1),(1,1),(2,3),(3,4)], host := none, eng := [], burns := [], proof := none }).wr BIST_SPARE.ENG 0
def recb (i st : Nat) (f : RecInst → RecInst) (s : State) : State :=
  let s := bay0 [] 500 s
  let s := setSp REC_CFG.EN 1 i (setSp REC_CFG.RATE 0 i (setSp REC_CFG.NA 1 i (setSp REC_CFG.NB 2 i (setSp REC_ALLOC.VALUE 10 i s))))
  let s := { s with bank := { s.bank with words := s.bank.words.filter fun x => decide (x.1 < 0xE1000) } }
  let s := { s with td := [], eval := { s.eval with fp := [], bay := [] } }
  let s := (List.range 128).foldl (fun s t => s.wr FLT_TD_CFG.EN 0 t) s
  s.modRec fun r => { r with inst := tset [] i (f { st := st, next := 199, tick := 199, hist := [⟨198, 985000 * 2^24, 198, [], 0, false, 0, 0⟩, ⟨197, 984000 * 2^24, 197, [], 0, false, 0, 0⟩], blk := [{ first := 100, cnt := 99 }] }), busOut := none, closing := [] }
def mkP (op tgt : Nat) (l : List Byte) : Packet := let p : Packet := ⟨77, 2, 0, BitVec.ofNat 32 tgt, l, 0⟩; { p with crc := BitVec.ofNat 32 (p.crcOf op) }
def wds (l : List Nat) : List Byte := l.flatMap (leBytes 4 ·)
def rdy (s : State) : State :=
  let s := up s
  let h := s.grid.now % 7 * 8
  let s := (((s.wr HOST_BERTH_HEAD.VALUE h 0).wr HOST_BERTH_TAIL.VALUE h 0).wr HOST_BERTH_CFG.SIZE 7 0).wr HOST_BERTH_CFG.BASE 0 0
  let s := (((s.wr HOST_BERTH_HEAD.VALUE (131072 - 24) 1).wr HOST_BERTH_TAIL.VALUE (131072 - 72) 1).wr HOST_BERTH_CFG.SIZE 7 1).wr HOST_BERTH_CFG.BASE 128 1
  let s := ((s.wr HOST_STATUS.NEG 1).wr HOST_STATUS.IF 1).wr HOST_STATUS.IFVER 2
  let s := (s.wr HOST_FEAT_LO.VALUE 0xFFFFFFFF).setMsgs 1 [⟨131072-72,16,5⟩,⟨131072-56,16,5⟩,⟨131072-40,16,5⟩]
  s.modHost fun h => { h with waiting := [], resync := none, partialAt := none, mem := [(3, 4)] }
def be32 (n : Nat) : List Byte := (leBytes 32 n).reverse
def irigEnc (f : IrigTime) : List Nat :=
  let b := fun (v i n : Nat) => (List.range n).map fun k => (i + k, v / 2 ^ k % 2)
  let l := b (f.sec % 10) 1 4 ++ b (f.sec / 10) 6 3 ++ b (f.min % 10) 10 4 ++ b (f.min / 10) 15 3 ++ b (f.hour % 10) 20 4 ++ b (f.hour / 10) 25 2 ++ b (f.doy % 10) 30 4 ++ b (f.doy / 10 % 10) 35 4 ++ b (f.doy / 100) 40 2 ++ b (f.year % 10) 50 4 ++ b (f.year / 10) 55 4 ++ b (b2n f.lsp) 60 1 ++ b (b2n f.del) 61 1
  (List.range 100).map fun i => if i = 0 ∨ i % 10 = 9 then 2000000 else if tget 0 l i = 1 then 1250000 else 500000
/-- The state some cycles later. -/
def at' (k : Nat) (s : State) : State := { s with grid := { s.grid with now := s.grid.now + k } }
def st0 : State :=
  let s := base
  s.modPwr fun p => { p with phase := .unpowered }
def st1 : State :=
  let s := base
  s
def st2 : State :=
  let s := base
  (up s).wr PWR_STATUS.VMAIN_WARN 0
def st3 : State :=
  let s := base
  (setSp KNOT_TM_CFG.NVL 1 3 (up s)).wr PWR_STATUS.VMAIN_WARN 1
def st4 : State :=
  let s := base
  ((setSp KNOT_TM_CFG.NVL 1 3 (up s)).wr PWR_STATUS.VMAIN_WARN 1)|>.modPwr fun p => { p with owedSkew := true }
def st5 : State :=
  let s := base
  (rdy s).wr PWR_STATUS.VMAIN_WARN 1 |>.modPwr fun p => { p with owedClaim := true, owedBanks := [3] }
def st6 : State :=
  let s := base
  (up s).wr PWR_STATUS.VAFE_LOW 0
def st7 : State :=
  let s := base
  ((up s).wr PWR_STATUS.VAFE_LOW 1).wr PWR_STATUS.VAFE_LOST 0
def st8 : State :=
  let s := base
  (up s).wr PWR_STATUS.VAFE_LOST 0
def st9 : State :=
  let s := base
  ((up s).wr PWR_STATUS.VAFE_LOST 0)|>.wr PWR_STATUS.VAFE_LOW 1
def st10 : State :=
  let s := base
  (up s).wr PWR_STATUS.VAFE_LOST 1
def st11 : State :=
  let s := base
  s.modPwr fun p => { p with phase := .released }
def st12 : State :=
  let s := base
  s.modPwr fun p => { p with phase := .calibrating, selfcalSeen := false }
def st13 : State :=
  let s := base
  s.modPwr fun p => { p with phase := .settings, applied := false, halt := false }
def st14 : State :=
  let s := base
  s.modPwr fun p => { p with rstN := true }
def st15 : State :=
  let s := base
  { s with tap := { s.tap with state := [.reset,.idle,.selectDr,.captureDr,.shiftDr,.exit1Dr,.pauseDr,.exit2Dr,.updateDr,.selectIr,.captureIr,.shiftIr,.exit1Ir,.pauseIr,.exit2Ir,.updateIr].getD (s.grid.now % 16) .reset } }
def st16 : State :=
  let s := base
  s.modNv fun v => { v with nor := { v.nor with words := [(3,8),(70000,5)], sect := [(0,none)], busy := some ⟨1 + s.grid.now % 3,5,7⟩ } }
def st17 : State :=
  let s := at' 2 (base)
  s.modNv fun v => { v with nor := { v.nor with words := [(3,8),(70000,5)], sect := [(0,none)], busy := some ⟨1 + s.grid.now % 3,5,7⟩ } }
def st18 : State :=
  let s := dbase
  die s
def st19 : State :=
  let s := dbase
  ((die s).wr DIO_STATUS.LINK 1).modClaim fun c => { c with lost := false }
def st20 : State :=
  let s := dbase
  ((die s).wr DIO_STATUS.LINK 1)|>.modDio fun d => { d with readAt := s.grid.now % 7 * 1000 + 300000, frameAt := 302000 }
def st21 : State :=
  let s := dbase
  ((die s).wr DIO_STATUS.LINK 1)|>.modDio fun d => { d with link := true }
def st22 : State :=
  let s := dbase
  ((die s).wr DIO_STATUS.LINK 1)|>.modDio fun d => { d with link := true, readAt := d.frameAt + 2001 }
def st23 : State :=
  let s := dbase
  mkOut 3 (die s)|>.modDio fun d => { d with link := false, lostAt := some 500, holdOff := false }
def st24 : State :=
  let s := dbase
  (up s).modDio fun d => { d with reset := true }
def st25 : State :=
  let s := dbase
  let u := s.grid.now % 2; ((die s).wr DIO_STATUS.UV u).modDio fun d => { d with uv := u }
def st26 : State :=
  let s := at' 1 (dbase)
  let u := s.grid.now % 2; ((die s).wr DIO_STATUS.UV u).modDio fun d => { d with uv := u }
def st27 : State :=
  let s := dbase
  (die s).modDio fun d => { d with uv := 2 }
def st28 : State :=
  let s := dbase
  (mkOut 4 (mkOut 3 s)).modDio fun d => { d with uv := 2 }
def st29 : State :=
  let s := dbase
  ((mkOut 4 (mkOut 3 s)).modDio fun d => { d with uv := 3, cmd := d.cmd ||| 24}).modClaim fun c => { c with gate := true}
def st30 : State :=
  let s := dbase
  (setSp DIO_CH_CFG.WB 1 3 (setSp DIO_CH_CFG.DIR 1 3 (die s)))|>.modDio fun d => { d with deb := [(3, 2000000 * (s.grid.now % 2))] }
def st31 : State :=
  let s := dbase
  ((setSp DIO_CH_CFG.WB 1 3 (setSp DIO_CH_CFG.DIR 1 3 (die s))).modDio fun d => { d with wb := 8 })|>.modDio fun d => { d with deb := [(3, 2000000 * (s.grid.now % 2))] }
def st32 : State :=
  let s := dbase
  ((mkOut 2 (mkOut 3 s)).modDio fun d => { d with drv := d.drv ||| 8 }).wr DIO_CH_STATUS.OVERLOAD 0 3
def st33 : State :=
  let s := dbase
  ((mkOut 3 s).modDio fun d => { d with shut := [(3,⟨300⟩)], cmd := d.cmd ||| 8 })
def st34 : State :=
  let s := dbase
  (((mkOut 3 s).modDio fun d => { d with shut := [(3,⟨300⟩)], cmd := d.cmd ||| 8 }))|>.modDio fun d => { d with cls := [(3,0)], uv := 0, reset := false, claim := { d.claim with gate := true } }
def st35 : State :=
  let s := dbase
  (mkOut 3 s).modDio fun d => { d with cmd := 0, drv := 0 }
def st36 : State :=
  let s := dbase
  setSp DIO_CH_CFG.ONOL 1 3 (setSp DIO_CH_CFG.OFFOL 1 3 (mkOut 3 s))
def st37 : State :=
  let s := dbase
  (mkOut 3 s).modDio fun d => { d with drv := 0, pad := 8 }
def st38 : State :=
  let s := dbase
  setSp DIO_CH_CFG.PAR 1 2 (setSp DIO_CH_CFG.DIR 2 2 (mkOut 3 s))|>.modDio fun d => { d with drv := d.drv ||| 12}
def st39 : State :=
  let s := dbase
  let q := (((mkOut 3 s).wr DIO_CH_STATUS.OVERLOAD 1 3).wr DIO_CH_STATUS.STUCK_HIGH 1 3).wr DIO_CH_STATUS.OPEN_LOAD 1 3|>.wr DIO_CH_STATUS.CONFLICT 1 3; q.modDio fun d => [7,8,9].foldl (fun d b => d.setDiag 3 b true) d
def st40 : State :=
  let s := dbase
  (mkOut 3 s).modDio fun d => { d with drv := 8, ovl := 8, lim := d.lim ||| 8, shut := [], ovlAt := if s.grid.now % 2 = 0 then [] else [(3,900000)] }
def st41 : State :=
  let s := dbase
  (mkOut 3 s).modDio fun d => { d with drv := if s.grid.now % 2 = 0 then 0 else 8, ovl := 8, shut := if s.grid.now % 2 = 0 then [] else [(3,⟨900000⟩)] }
def st42 : State :=
  let s := dbase
  ((mkOut 3 s).modDio fun d => { d with cls := [(3,1)], cmd := d.cmd ||| 8, uv := 0, queue := [(3,5)], inrush := [] }).modClaim fun c => { c with gate := true}
def st43 : State :=
  let s := dbase
  up s
def st44 : State :=
  let s := dbase
  ((((setSp DIO_ALIVE.EN 1 0 (die s) |>.wr PWR_START.STEP 10|>.wr DIO_STATUS.LINK 1).wr DIO_ALIVE.STATE 1).modDio fun d => { d with health := true, link := true, uv := 0, alOvl := none, aliveReq := true }).modPwr fun p => { p with prot := true, fault := false }).wr DIO_ALIVE.HOSTOFF 0
def st45 : State :=
  let s := dbase
  (up s).modDio fun d => { d with alOvl := some 500 }
def st46 : State :=
  let s := dbase
  (setSp PAIR_CFG.EN 1 0 ((setSp PAIR_CFG.EN 1 0 (setSp DIO_PAIR_CFG.TOW_EN 1 0 (die s))).wr PAIR_STATUS.ROLE 0))|>.modPwr fun p => { p with phase := .calibrating }
def st47 : State :=
  let s := dbase
  (setSp PAIR_CFG.EN 1 0 ((setSp DIO_PAIR_CFG.CLAIM_EN 1 0 (die s))))|>.modPwr fun p => { p with phase := .calibrating }
def st48 : State :=
  let s := dbase
  ((setSp PAIR_CFG.EN 1 0 ((setSp DIO_PAIR_CFG.CLAIM_EN 1 0 (die s)))|>.modPwr fun p => { p with phase := .calibrating }))|>.modClaim fun x => { x with bad := 2 }
def st49 : State :=
  let s := dbase
  let q := (die s).modClaim fun c => { c with own := 4, seen := true, answered := true }; setSp PAIR_CFG.EN 1 0 (q.modClaim fun c => { c with own := 4, stepAt := some q.grid.now })
def st50 : State :=
  let s := dbase
  (setSp PAIR_CFG.EN 1 0 (((setSp DIO_PAIR_CFG.CLAIM_EN 1 0 (mkOut 3 (die s))).modClaim fun c => { c with own := s.grid.now % 200 }).wr PAIR_STATUS.ROLE 0))|>.modPwr fun p => { p with phase := .calibrating }
def st51 : State :=
  let s := dbase
  (setSp PAIR_CFG.EN 1 0 ((setSp DIO_PAIR_CFG.CLAIM_EN 1 0 (mkOut 3 (die s))).wr PAIR_STATUS.ROLE 0))|>.modPwr fun p => { p with phase := .calibrating }
def st52 : State :=
  let s := dbase
  (up s).modClaim fun c => { c with pAt := some 500, seen := true }
def st53 : State :=
  let s := dbase
  ((die s).wr DIO_CLAIM_STATUS.LINE_OK 1).modClaim fun c => { c with bad := 4 }
def st54 : State :=
  let s := dbase
  (((die s).wr DIO_CLAIM_STATUS.LINE_OK 1).modClaim fun c => { c with bad := 0, seen := false, pAt := some 500 }).modDio fun d => { d with towAt := some 100000000 }
def st55 : State :=
  let s := dbase
  ((setSp PAIR_CFG.EN 1 0 (die s)).wr DIO_CLAIM_STATUS.LINE_OK 0).modClaim fun c => { c with run := 8 + c.own % 2 }
def st56 : State :=
  let s := pbase
  (prd 2 s).modPair fun p => { p with hello := false }
def st57 : State :=
  let s := pbase
  (prd 2 s).modPair fun p => { p with hello := true }
def st58 : State :=
  let s := pbase
  prd 2 s
def st59 : State :=
  let s := pbase
  (prd 1 s)
def st60 : State :=
  let s := pbase
  prd (2 + s.grid.now % 3) s
def st61 : State :=
  let s := pbase
  (prd 4 s).modDio fun d => { d with health := false }
def st62 : State :=
  let s := pbase
  prd (2 + s.grid.now % 2 * 2) s
def st63 : State :=
  let s := pbase
  prd 1 s
def st64 : State :=
  let s := pbase
  (prd 4 s).modPair fun p => { p with lk := { p.lk with at' := some 500 }, tow := { p.tow with at' := some 500 } }
def st65 : State :=
  let s := pbase
  (prd 2 s).modPair fun p => { p with lk := { p.lk with at' := some 500, miss := 3 }, tow := { p.tow with at' := some 500, miss := 3 } }
def st66 : State :=
  let s := pbase
  ((prd 2 s).modPair fun p => { p with lk := { p.lk with at' := some 500, miss := 3 }, tow := { p.tow with at' := some 500, miss := 5 } }).wr PAIR_STATUS.DETECT 1
def st67 : State :=
  let s := pbase
  ((prd 4 s).modPair fun p => { p with lk := { p.lk with at' := some 500, miss := 3 }, tow := { p.tow with at' := some 500, miss := 5 } }).wr PAIR_STATUS.DETECT 1
def st68 : State :=
  let s := pbase
  ((fun s : State => (s.modEval fun e => { e with bay := [(2,{run := true, next := 8, meas := 8}),(5,{run := true, next := 8, meas := 8})] }).modGrid fun g => { g with nextN := 9, nextT := 900000*2^24, hist := [{n := 8, t := 990000 * 2^24, per := 62500*2^24, freq := 50000000},{n := 7, t := 980000 * 2^24, per := 62500*2^24, freq := 50000000},{n := 6, t := 970000 * 2^24, per := 62500*2^24, freq := 50000000}] }) (prd 4 s)).modPair fun p => { p with doneN := 7, doneAt := 26000000, snapAt := 3, sending := if p.hello then none else some 40000000 }
def st69 : State :=
  let s := pbase
  (((fun s : State => (s.modEval fun e => { e with bay := [(2,{run := true, next := 8, meas := 8}),(5,{run := true, next := 8, meas := 8})] }).modGrid fun g => { g with nextN := 9, nextT := 900000*2^24, hist := [{n := 8, t := 990000 * 2^24, per := 62500*2^24, freq := 50000000},{n := 7, t := 980000 * 2^24, per := 62500*2^24, freq := 50000000},{n := 6, t := 970000 * 2^24, per := 62500*2^24, freq := 50000000}] }) (prd 4 s)).modPair fun p => { p with doneN := 7, doneAt := 26000000, snapAt := 3, sending := if p.hello then none else some 40000000 })|>.modPair fun p => { p with sending := none }
def st70 : State :=
  let s := pbase
  (prd 2 s).modPair fun p => { p with asm := if p.hello then none else some (3,[(0,[9,9,9,9,9,9,9,9])]) }
def st71 : State :=
  let s := pbase
  ((prd 2 s).modPair fun p => { p with asm := if p.hello then none else some (3,[(0,[9,9,9,9,9,9,9,9])]) })|>.modPair fun p => { p with asm := none }
def st72 : State :=
  let s := pbase
  (((fun s : State => (s.modEval fun e => { e with bay := [(2,{run := true, next := 8, meas := 8}),(5,{run := true, next := 8, meas := 8})] }).modGrid fun g => { g with nextN := 9, nextT := 900000*2^24, hist := [{n := 8, t := 990000 * 2^24, per := 62500*2^24, freq := 50000000},{n := 7, t := 980000 * 2^24, per := 62500*2^24, freq := 50000000},{n := 6, t := 970000 * 2^24, per := 62500*2^24, freq := 50000000}] }) (prd 2 s)).modPair fun p => { p with ho := none, asm := if p.hello then none else some (3,[(0,({seq := 3, n := 7, d := 980000, ver := 2, dig := 0} : Snap).encoded)]) })
def st73 : State :=
  let s := pbase
  ((((fun s : State => (s.modEval fun e => { e with bay := [(2,{run := true, next := 8, meas := 8}),(5,{run := true, next := 8, meas := 8})] }).modGrid fun g => { g with nextN := 9, nextT := 900000*2^24, hist := [{n := 8, t := 990000 * 2^24, per := 62500*2^24, freq := 50000000},{n := 7, t := 980000 * 2^24, per := 62500*2^24, freq := 50000000},{n := 6, t := 970000 * 2^24, per := 62500*2^24, freq := 50000000}] }) (prd 2 s)).modPair fun p => { p with ho := none, asm := if p.hello then none else some (3,[(0,({seq := 3, n := 7, d := 980000, ver := 2, dig := 0} : Snap).encoded)]) })|>.modPair fun p => { p with asm := none })
def st74 : State :=
  let s := pbase
  ((((setSp PAIR_CFG.RANK 1 0 (setSp PAIR_CFG.FAILBACK 1 0 (prd 2 s)))).wr PAIR_STATUS.HO 0).modPair fun p => { p with readyAt := some 500, passedAt := some (if p.hello then 700 else 200) })
def st75 : State :=
  let s := pbase
  ((prd 2 s).wr PAIR_STATUS.READY (s.grid.now % 2)).modPair fun p => { p with ho := some (1 + s.grid.now / 2 % 2, 500) }
def st76 : State :=
  let s := pbase
  ((fun s : State => (s.modEval fun e => { e with bay := [(2,{run := true, next := 8, meas := 8}),(5,{run := true, next := 8, meas := 8})] }).modGrid fun g => { g with nextN := 9, nextT := 900000*2^24, hist := [{n := 8, t := 990000 * 2^24, per := 62500*2^24, freq := 50000000},{n := 7, t := 980000 * 2^24, per := 62500*2^24, freq := 50000000},{n := 6, t := 970000 * 2^24, per := 62500*2^24, freq := 50000000}] }) (prd 3 s)).modPair fun p => { p with replay := some { m := 6, dt0 := none, src := 0, count := 4 } }
def st77 : State :=
  let s := pbase
  ((fun s : State => (s.modEval fun e => { e with bay := [(2,{run := true, next := 8, meas := 8}),(5,{run := true, next := 8, meas := 8})] }).modGrid fun g => { g with nextN := 9, nextT := 900000*2^24, hist := [{n := 8, t := 990000 * 2^24, per := 62500*2^24, freq := 50000000},{n := 7, t := 980000 * 2^24, per := 62500*2^24, freq := 50000000},{n := 6, t := 970000 * 2^24, per := 62500*2^24, freq := 50000000}] }) (prd 3 s)).modGrid (fun g => {g with hist := []})|>.modPair fun p => { p with replay := some { m := 6, dt0 := none, src := 0, count := 4 } }
def st78 : State :=
  let s := pbase
  (prd 2 s).modPair fun p => { p with asm := if p.hello then none else some (3,[]) }
def st79 : State :=
  let s := pbase
  (prd 2 s).modPair fun p => { p with locks := if p.hello then 3 else 8 }
def st80 : State :=
  let s := base
  setSp GRID_TRK_CFG.QUAL 0 0 (((trk0 s).wr GRID_STATUS.NP_IF 3).wr GRID_STATUS.TRK_STATE (s.grid.now % 4))
def st81 : State :=
  let s := base
  (setSp GRID_TRK_CFG.QUAL 0 0 (((trk0 s).wr GRID_STATUS.NP_IF 3).wr GRID_STATUS.TRK_STATE (s.grid.now % 4))) |>.modGrid fun g => { g with fixed := true }
def st82 : State :=
  let s := base
  ((trk0 s).wr GRID_STATUS.NP_IF 3).wr GRID_STATUS.TRK_STATE (s.grid.now % 3)
def st83 : State :=
  let s := at' 2 (base)
  ((trk0 s).wr GRID_STATUS.NP_IF 3).wr GRID_STATUS.TRK_STATE (s.grid.now % 3)
def st84 : State :=
  let s := at' 1 (base)
  ((trk0 s).wr GRID_STATUS.NP_IF 3).wr GRID_STATUS.TRK_STATE (s.grid.now % 3)
def st85 : State :=
  let s := at' 2 (base)
  setSp GRID_TRK_HOLDMAX.VALUE 3 0 (((trk0 s).wr GRID_STATUS.NP_IF 3).wr GRID_STATUS.TRK_STATE 2)
def st86 : State :=
  let s := base
  (up s).modGrid fun v => { v with bound := if s.grid.now % 2 = 0 then { newer := some 0 } else { newer := none, older := some ((s.grid.now / 2^28 + 2)*2^28) } }
def st87 : State :=
  let s := base
  ((up s).modGrid fun v => { v with bound := { newer := none, older := some ((s.grid.now / 2^28 + 3)*2^28) } })
def st88 : State :=
  let s := base
  (up s).modAfe fun a => { a with cal := some { groups := [2,3], aux := 3, auxStart := none, auxRun := 0, cur := none, ready := 3000000, pass := s.grid.now % 2, fail := 0, badVafe := false } }
def st89 : State :=
  let s := base
  (up s).modAfe fun a => { a with cal := some { groups := [3], aux := 3, auxStart := none, auxRun := 3, cur := some (2,500), ready := 3000000, pass := s.grid.now % 2, fail := 0, badVafe := false } }
def st90 : State :=
  let s := base
  ((up s).modAfe fun a => { a with cal := some { groups := [3], aux := 3, auxStart := none, auxRun := 3, cur := some (2,500), ready := 3000000, pass := s.grid.now % 2, fail := 0, badVafe := false } })|>.modAfe fun a => { a with cal := a.cal.map fun r => { r with groups := [], auxRun := 0 } }
def st91 : State :=
  let s := base
  (up s).modAfe fun a => { a with cal := some { groups := [3], aux := 3, auxStart := some 700, auxRun := 3, cur := none, ready := 3000000, pass := s.grid.now % 2, fail := 0, badVafe := false } }
def st92 : State :=
  let s := base
  (up s).modAfe fun a => { a with diag := some (7,500) }
def st93 : State :=
  let s := base
  ((up s).modAfe fun a => { a with diag := some (7,500) })|>.wr AFE_CH_STATUS.FORCED_WIDE 1 7
def st94 : State :=
  let s := base
  (up s).modAfe fun a => { a with skew := some (5,500) }
def st95 : State :=
  let s := base
  (chm 2 (fun k => { k with vPh := 99, hA := hb0 5, win := {seen := 1249, scored := 624 + s.grid.now % 3, sumD := s.grid.now ^ 3, sumR := 5 } }) s).wr AFE_CH_STATUS.FORCED_WIDE 0 3
def st96 : State :=
  let s := at' 2 (base)
  (chm 2 (fun k => { k with vPh := 99, hA := hb0 5, win := {seen := 1249, scored := 624 + s.grid.now % 3, sumD := s.grid.now ^ 3, sumR := 5 } }) s).wr AFE_CH_STATUS.FORCED_WIDE 0 3
def st97 : State :=
  let s := base
  ((chm 2 (fun k => { k with vPh := 99, hA := hb0 5, win := {seen := 1249, scored := 626, sumD := 10 ^ 30, sumR := 5 } }) s).wr AFE_CH_STATUS.FORCED_WIDE 0 3)
def st98 : State :=
  let s := base
  setSp AFE_TWIN_TOL.TOL 1 0 ((chm 3 (fun k => { k with vPh := 99+s.grid.now%2, hA := hb0 5, vA := {i0 := 99999999, i1 := 7777777777, i2 := 555555555555}, win := {seen := 1248+ s.grid.now % 2, instRun := 4 } }) s).wr AFE_CH_STATUS.TWIN_MM 0 3)
def st99 : State :=
  let s := base
  setSp AFE_TWIN_TOL.CNT 3 0 (setSp AFE_TWIN_TOL.TOL 100 0 ((chm 3 (fun k => { k with vPh := 99, hA := hb0 5, win := {seen := 1249, instRun := 4, sumD := s.grid.now ^ 3, sumR := 5, failed := false } }) s)))
def st100 : State :=
  let s := base
  chm (1+s.grid.now %3) (fun k => { k with oA := { run := 64, act := 63 + s.grid.now % 4 }, hA := hb0 5, oB := {run := 3} }) s
def st101 : State :=
  let s := base
  chm (1+s.grid.now %3) (fun k => { k with oA := { run := 1 + s.grid.now % 66 }, hA := hb0 5, oB := {run := 3} }) s
def st102 : State :=
  let s := base
  (chm (1+s.grid.now %3) (fun k => { k with sync := [5], ph := 1000, hA := hb0 5, fading := false }) s)
def st103 : State :=
  let s := base
  (setSp FLT_CH_CFG.RCODE (s.grid.now % 3) 3 (chm (1+s.grid.now %3) (fun k => { k with ph := 1000, uPh := 0, zPh := 0, hA := hb0 5, swap := some {tag := 5, id := 7, fade := 1, start := 0}, fading := false }) s))
def st104 : State :=
  let s := base
  (setSp FLT_CH_CFG.RCODE (s.grid.now % 3) 3 (chm (1+s.grid.now %3) (fun k => { k with ph := 1000, uPh := 0, zPh := 0, hA := hb0 5, swap := some {tag := 5, id := 7, fade := 1, start := 0}, fading := true, pos := 1 }) s))|>.modAfe fun a => { a with swaps := [(7,5,[3])] }
def st105 : State :=
  let s := base
  ((up s).modAux fun a => { a with conv := [(0,{}),(1,{timer := 777, wait := if s.grid.now % 2 = 0 then none else some 5})] }).wr AUX_TRG_CFG.SRC 1 1
def st106 : State :=
  let s := base
  ((((up s).modAux fun a => { a with conv := [(0,{}),(1,{timer := 777, wait := if s.grid.now % 2 = 0 then none else some 5})] }).wr AUX_TRG_CFG.SRC 2 1).wr AUX_TRG_TICK.VALUE 7 1).wr AUX_TRG_TICK.VALUE (65536 * 6 + 7) 1|> trk0
def st107 : State :=
  let s := base
  ((((up s).modAux fun a => { a with conv := [(0,{}),(1,{timer := 777, wait := if s.grid.now % 2 = 0 then none else some 5})] }).wr AUX_TRG_CFG.SRC 3 1).wr AUX_TRG_CFG.POL 0 1)
def st108 : State :=
  let s := base
  ((up s).modAux fun a => { a with conv := [(0,{}),(1,{wait := some 777, free := s.grid.now + 77})] }).wr AUX_SCAN_MASK.MASK (s.grid.now % 2 * 5) 1
def st109 : State :=
  let s := at' 1 (base)
  ((up s).modAux fun a => { a with conv := [(0,{}),(1,{wait := some 777, free := s.grid.now + 77})] }).wr AUX_SCAN_MASK.MASK (s.grid.now % 2 * 5) 1
def st110 : State :=
  let s := base
  ((up s).modAux fun a => { a with conv := [(0,{}),(1,{scan := some (if s.grid.now % 2 = 0 then { left := [5,6], first := none } else { left := [5], first := some 5 }), free := s.grid.now / 250*250 + 250, inj := if s.grid.now % 3 = 0 then some (9,5) else none})] })
def st111 : State :=
  let s := at' 1 (base)
  ((up s).modAux fun a => { a with conv := [(0,{}),(1,{scan := some (if s.grid.now % 2 = 0 then { left := [5,6], first := none } else { left := [5], first := some 5 }), free := s.grid.now / 250*250 + 250, inj := if s.grid.now % 3 = 0 then some (9,5) else none})] })
def st112 : State :=
  let s := base
  ((up s).modAux fun a => { a with conv := [(0,{}),(1,{scan := some { left := [5], first := if s.grid.now % 2 = 0 then none else some 3, cut := true }, free := s.grid.now / 250*250 + 250, inj := if s.grid.now % 3 = 0 then some (9,5) else none})] })
def st113 : State :=
  let s := base
  ((up s).modAux fun a => { a with conv := [(0,{}),(1,{scan := none, free := 700, inj := some (9,5), injAt := if s.grid.now % 2 = 0 then none else some 750})] })
def st114 : State :=
  let s := base
  (((up s).modAux fun a => { a with conv := [(0,{}),(1,{scan := none, free := 700, inj := some (9,5), injAt := if s.grid.now % 2 = 0 then none else some 750})] }))|>.modAux fun a => { a with conv := [(1,{ (s.conv 1) with inj := some (1,2), injRun := some (3,9) })] }
def st115 : State :=
  let s := base
  ((up s).wr AUX_STATUS.CAL 2).wr AUX_XCHK_CFG.EN 1
def st116 : State :=
  let s := base
  setSp PBUS_SV_APPID.APPID 16384 3 (svb 3 s)
def st117 : State :=
  let s := base
  setSp PBUS_SV_CFG.SIM 1 3 (svb 3 s)
def st118 : State :=
  let s := base
  svb 3 s
def st119 : State :=
  let s := base
  ((svb 3 s).wr PBUS_SV_STATUS.STATE 2 3).setSv 3 { seenAt := some (if s.grid.now % 2 = 0 then 500 else 100000000) }
def st120 : State :=
  let s := base
  (svb 3 s).modGrid fun g => { g with hist := [{ n := 162, t := 995000 * 2 ^ 24, per := 62500 * 2 ^ 24, freq := 50000000, wait := [80] },{ n := 161, t := 990000 * 2 ^ 24, per := 62500 * 2 ^ 24, freq := 50000000, wait := [70, 80] }] }
def st121 : State :=
  let s := base
  ((svb 3 s).modGrid fun g => { g with hist := [{ n := 162, t := 995000 * 2 ^ 24, per := 62500 * 2 ^ 24, freq := 50000000, wait := [80] },{ n := 161, t := 990000 * 2 ^ 24, per := 62500 * 2 ^ 24, freq := 50000000, wait := [70, 80] }] })|>.modGrid fun g => { g with corr := [(70,0)] }
def st122 : State :=
  let s := base
  ((((gsb 5 s).wr PBUS_GS_STATUS.STATE (1 + s.grid.now % 3) 5).wr PBUS_GS_STNUM.VALUE (if s.grid.now % 4 = 0 then 2 else 7) 5).wr PBUS_GIN_VAL.VALUE 255 1).wr PBUS_GIN_OK.VALUE 25 1|>.setGs 5 { seenAt := 1000000, tal := 1000 }
def st123 : State :=
  let s := base
  ((((gsb 5 s).wr PBUS_GS_STATUS.STATE (2) 5).wr PBUS_GS_STNUM.VALUE 8 5).wr PBUS_GIN_VAL.VALUE 255 1).wr PBUS_GIN_OK.VALUE 25 1|>.setGs 5 { seenAt := 1000000, tal := 1000, sq := 4 }
def st124 : State :=
  let s := base
  ((((gsb 5 s).wr PBUS_GS_STATUS.STATE (2) 5).wr PBUS_GS_STNUM.VALUE 8 5).wr PBUS_GIN_VAL.VALUE 255 1).wr PBUS_GIN_OK.VALUE 255 1|>.setGs 5 { seenAt := 1000000, tal := 1000, sq := 4 }
def st125 : State :=
  let s := base
  let s := (setSp PBUS_GP_CFG.EN 1 5 (up s)).wr PAIR_STATUS.ROLE 0; (s.modPwr fun p => { p with prot := true }).modGrid (fun g => { g with nextN := 163, hist := [{ n := 162, t := 995000 * 2 ^ 24, per := 62500 * 2 ^ 24, freq := 50000000, wait := [80] },{ n := 161, t := 990000 * 2 ^ 24, per := 62500 * 2 ^ 24, freq := 50000000, wait := [70, 80] }] }) |>.setGp 5 (if s.grid.now % 2 = 0 then { tick := some 160, sent := none } else { tick := some 160, vals := 3, sent := some ⟨1,2,3,4,5,6,[],[]⟩ }) |>.wr PBUS_GP_STNUM.VALUE 7 5
def st126 : State :=
  let s := base
  let s := (setSp PBUS_GP_CFG.EN 1 5 (up s)).wr PAIR_STATUS.ROLE 0;s.setGp 5 { gap := if s.grid.now % 3 = 0 then 2 else 800, next := some (if s.grid.now % 2 = 0 then 500 else 50000000), vals := 3, sent := some ⟨1,2,3,4,5,6,[],[]⟩ }
def st127 : State :=
  let s := base
  (svb 3 s).modNet fun n => {n with mode := 2}
def st128 : State :=
  let s := base
  ((svb 3 s).modNet fun n => {n with mode := 2, nodes := [(77,8),(6,5)]})|>.modNet fun n => { n with mode := 1 }
def st129 : State :=
  let s := base
  (svb 3 s).modNet fun n => {n with mode := 2, nodes := [(77,8),(6,5)]}
def st130 : State :=
  let s := base
  (svb 3 s).wr PBUS_MDIO.VALUE 5
def st131 : State :=
  let s := base
  (((ptb 1 s).modNet fun n => { n with mode := 1, ports := 3, down := [] }).modPtp fun p => { p with st := [(0,1),(1,3)], ann := some 5000, sync := some 6000, heard := [(0, (if s.grid.now % 2 = 0 then s.grid.now + 20 else 700000000, { cls := 6, utc := some 37, leap61 := true, st := 3 }))] }).wr PBUS_MDIO.VALUE 5
def st132 : State :=
  let s := base
  (svb 3 s).wr PBUS_MDIO.VALUE 0x80000005
def st133 : State :=
  let s := base
  (svb 3 s).wr PBUS_MDIO.VALUE (0x80000005 + s.grid.now % 2 * 2^21)
def st134 : State :=
  let s := base
  (svb 3 s).modNet fun n => {n with mode := s.grid.now % 3, speed := if s.grid.now % 5 = 0 then [] else [(0,100)], down := [1]}
def st135 : State :=
  let s := at' 1 (base)
  (svb 3 s).modNet fun n => {n with mode := s.grid.now % 3, speed := if s.grid.now % 5 = 0 then [] else [(0,100)], down := [1]}
def st136 : State :=
  let s := base
  (ptb 1 s |>.modTime fun t => { t with lockCnt := s.grid.now % 5 })
def st137 : State :=
  let s := base
  ptb 2 s
def st138 : State :=
  let s := base
  ptb 1 s
def st139 : State :=
  let s := base
  ptb 2 s|>.modPtp fun p => { p with from' := [(0,5000),(1,s.grid.now)], heard := [(1,5000,{ cls := 7, st := 3, utc := some 33 })] }
def st140 : State :=
  let s := base
  ptb 2 s |>.modPtp fun p => { p with req := if s.grid.now % 2 = 0 then [] else [(0,100),(1,100)] }
def st141 : State :=
  let s := base
  ptb 2 s |>.modPtp fun p => { p with st := [(0,1),(1,4)] }
def st142 : State :=
  let s := base
  ptb (1 + s.grid.now % 2) s |>.modTime fun t => { t with irigBad := 2 }
def st143 : State :=
  let s := base
  (ptb (1 + s.grid.now % 2) s |>.modTime fun t => { t with irigBad := 2 })|>.modTime fun t => { t with irigBad := 1 }
def st144 : State :=
  let s := base
  (ptb 2 s |>.modTime fun t => { t with irigBad := 2 })|>.wr GRID_TQ.LOCKED 1
def st145 : State :=
  let s := base
  let s := (ptb 1 s |>.modTime fun t => { t with taiSet := true, irig := if s.grid.now % 2 = 0 then none else some (5, (s.atTime 5).irigTai { sec := 5, min := 6, hour := 7, doy := 100, year := 26, lsp := true } - 1) }); setSp PBUS_IRIG_CFG.YEAR 1 0 (setSp PBUS_IRIG_CFG.POL 1 0 s)
def st146 : State :=
  let s := base
  (let s := (ptb 1 s |>.modTime fun t => { t with taiSet := true, irig := if s.grid.now % 2 = 0 then none else some (5, (s.atTime 5).irigTai { sec := 5, min := 6, hour := 7, doy := 100, year := 26, lsp := true } - 1) }); setSp PBUS_IRIG_CFG.EXT 1 0 <| setSp PBUS_IRIG_CFG.YEAR 1 0 (setSp PBUS_IRIG_CFG.POL 1 0 s))
def st147 : State :=
  let s := base
  let s := (let s := setSp PBUS_IRIG_CFG.YEAR 1 0 (setSp PBUS_IRIG_CFG.EXT 0 0 (ptb 2 s)); s.modGrid fun g => { g with taiOfs := if s.grid.now % 2 = 0 then 5 else (irigSec { sec := 5, min := 6, hour := 7, doy := 100, year := 26, lsp := true } 2026 + s.rd GRID_UTC_OFS.VALUE) * 1000000000 - 20 + (s.grid.now % 900)}); setSp PBUS_IRIG_CFG.YEAR 1 0 (setSp PBUS_IRIG_CFG.POL 1 0 s)
def st148 : State :=
  let s := at' 1 (base)
  let s := (let s := setSp PBUS_IRIG_CFG.YEAR 1 0 (setSp PBUS_IRIG_CFG.EXT 0 0 (ptb 2 s)); s.modGrid fun g => { g with taiOfs := if s.grid.now % 2 = 0 then 5 else (irigSec { sec := 5, min := 6, hour := 7, doy := 100, year := 26, lsp := true } 2026 + s.rd GRID_UTC_OFS.VALUE) * 1000000000 - 20 + (s.grid.now % 900)}); setSp PBUS_IRIG_CFG.YEAR 1 0 (setSp PBUS_IRIG_CFG.POL 1 0 s)
def st149 : State :=
  let s := base
  setSp PBUS_PPS_CFG.POL 0 0 (ptb 1 s) |>.modTime fun t => { t with ppsAt := some 50000000, todSet := true, ppsQual := s.grid.now % 2 = 0 }
def st150 : State :=
  let s := base
  setSp PBUS_PPS_CFG.POL 1 0 (ptb 1 s) |>.modTime fun t => { t with ppsAt := some 5000, ppsQual := true }
def st151 : State :=
  let s := base
  setSp PBUS_PPS_CFG.POL 0 0 (ptb 3 s) |>.modTime fun t => { t with ppsAt := some 50000000, todSet := true, ppsQual := true }
def st152 : State :=
  let s := base
  (setSp PBUS_PPS_CFG.WIN 100 0 (ptb 3 s) |>.modTime fun t => { t with ppsAt := some 50000000, todSet := true, ppsQual := true }).wr GRID_TQ.LOCKED 1
def st153 : State :=
  let s := base
  (((ptb 1 s).modNet fun n => { n with mode := 1, ports := 3, down := [] }).modPtp fun p => { p with st := [(0,1),(1,3)], ann := some 5000, sync := some 6000, heard := [(0, (if s.grid.now % 2 = 0 then s.grid.now + 20 else 700000000, { cls := 6, utc := some 37, leap61 := true, st := 3 }))] }).wr PBUS_STATUS.PTP_PORT 1
def st154 : State :=
  let s := base
  (setSp PBUS_PPS_CFG.WIN 100 0 (ptb 3 s) |>.modTime fun t => { t with ppsAt := some 50000000, todSet := true, ppsQual := true }).wr GRID_TQ.LOCKED 0
def st155 : State :=
  let s := base
  ptb 3 s |>.modTime fun t => { t with hoAt := some 500, hoStep := s.grid.now % 3}
def st156 : State :=
  let s := base
  ptb 3 s |>.modTime fun t => { t with hostSet := true}
def st157 : State :=
  let s := base
  ptb 4 s |>.modTime fun t => { t with hostSet := true}
def st158 : State :=
  let s := base
  up s |>.modTime fun t => { t with leap := 1 + s.grid.now % 2}
def st159 : State :=
  let s := base
  up s |>.modTime fun t => { t with leap := 0}
def st160 : State :=
  let s := base
  bay0 [(5, .bf false 0, 14),(7, .lv [false,false,false] false 0 0, 8)] 5000 s
def st161 : State :=
  let s := base
  (bay0 [(5, .bf false 0, 14)] 5000 s).modGrid fun g => { g with hist := g.hist.map fun r => { r with wait := [0] } }
def st162 : State :=
  let s := at' 1 (base)
  if s.grid.now % 2 = 0 then phs3 (setSp BAY_SLOT.ROLE 9 3 (setSp ELM_LCFG.QSEL 0 7 (bay0 [(5, .lv [false,false,false] false 0 0, 9)] 5000 s))) else setG ELM_BF_T1.VALUE 0 5 0 (knot1 9 1 (setSp ELM_BF_KN.START 9 5 (bay0 [(5, .bf true 5, 14)] 5000 s)))
def st163 : State :=
  let s := base
  if s.grid.now % 2 = 0 then setG ELM_LV_TDO.VALUE 0 5 0 (setG ELM_LV_TH.VALUE 900000 5 0 (setSp BAY_SLOT.ROLE 9 3 (setSp ELM_LCFG.QSEL 0 5 (bay0 [(5, .lv [true,false,false] true 700 0, 9)] 5000 s)))) else setG ELM_OC_CURVE.RESET 1 5 0 (setG ELM_OC_PICKUP.VALUE 1000000 5 0 (setG ELM_OC_TR.VALUE 0 5 0 (setSp BAY_SLOT.ROLE 5 3 (bay0 [(5, .oc [{up := false, acc := 700, hold := 800}] none 65535, 3)] 5000 s))))
def st164 : State :=
  let s := base
  outs 5 65536 (setG ELM_OC_DIR.MEMT 1 5 0 (setG ELM_OC_DIR.POL 0 5 0 (bay0 [(5, .oc [{},{},{}] (some (5,5,1)) 5000, 1)] 5000 s)))
def st165 : State :=
  let s := base
  setG ELM_BF_T2.VALUE 0 5 0 (setG ELM_BF_T1.VALUE 0 5 0 (knot1 9 1 (setSp ELM_BF_KN.START 9 5 (bay0 [(5, .bf true 5, 14)] 5000 s))))
def st166 : State :=
  let s := base
  setG ELM_AR_DT1.VALUE 0 5 0 (setG ELM_AR_CFG.SYNCREQ 0 5 0 (knot1 9 0 (knot1 8 0 (setSp ELM_AR_KN1.START 9 5 (setSp ELM_AR_KN1.CBCL 8 5 (setSp ELM_BLK.KEN 0 5 (bay0 [(5, .ar 2 1 500 0, 15)] 5000 s)))))))
def st167 : State :=
  let s := base
  setG ELM_AR_TOPEN.VALUE 0 5 0 (knot1 9 1 (knot1 8 1 (setSp ELM_AR_KN1.START 9 5 (setSp ELM_AR_KN1.CBCL 8 5 (setSp ELM_BLK.KEN 0 5 (bay0 [(5, .ar (if s.grid.now % 2 = 0 then 6 else 1) 1 500 0, 15)] 5000 s))))))
def st168 : State :=
  let s := base
  setG ELM_AR_TRECLAIM.VALUE 0 5 0 (knot1 9 0 (knot1 8 1 (setSp ELM_AR_KN1.START 9 5 (setSp ELM_AR_KN1.CBCL 8 5 (setSp ELM_BLK.KEN 0 5 (bay0 [(5, .ar 5 (s.grid.now % 2) 500 0, 15)] 5000 s))))))
def st169 : State :=
  let s := base
  setG ELM_CLP_TCLP.VALUE 0 5 0 (setG ELM_CLP_TCOLD.VALUE 0 5 0 (setG ELM_CLP_ILOW.VALUE 100 5 0 (setSp ELM_LCFG.CBEN 0 5 (setSp ELM_BLK.KEN 0 5 (phs3 (bay0 [(5, .clp (1 + s.grid.now % 2 * 2) 5 5, 19)] 5 s))))))
def st170 : State :=
  let s := at' 1 (base)
  setG ELM_CLP_TCLP.VALUE 0 5 0 (setG ELM_CLP_TCOLD.VALUE 0 5 0 (setG ELM_CLP_ILOW.VALUE 100 5 0 (setSp ELM_LCFG.CBEN 0 5 (setSp ELM_BLK.KEN 0 5 (phs3 (bay0 [(5, .clp (1 + s.grid.now % 2 * 2) 5 5, 19)] 5 s))))))
def st171 : State :=
  let s := base
  setG ELM_HR_TMAX.VALUE 1 5 0 (setG ELM_HR_IMIN.VALUE 0 5 0 (setG ELM_HR_RATIO.VALUE 0 5 0 (setSp ELM_BLK.KEN 0 5 (phs3 (bay0 [(5, .hr [true,true,true] [true,true,true] [0,0,0] [500,500,500] [false,false,false], 17)] 5000 s)))))
def st172 : State :=
  let s := base
  (setSp SET_GRP.KEN 0 3 (setSp SET_GRP.FIX 2 3 (bay0 [(5, .bf false 0, 14)] 5000 s))).modEval fun v => { v with bay := [(3, { run := true, next := 199, grp := [(100, 1)] })] }
def st173 : State :=
  let s := base
  let s := { s with bank := { s.bank with knots := [(5, [2^31 + 3 * 2^22 + 1 * 2^16 + 2, 1, 0, 0, 0, 1, 5])] } }; (bay0 [] 5000 s).modEval fun v => { v with knot := [(5, { wv := true, ton := s.grid.now % 300, q := false })] }
def st174 : State :=
  let s := base
  (setSp KNOT_TM_CFG.BAY 3 5 (setSp KNOT_TM_CFG.EN 1 5 (setSp KNOT_TM_MINP.VALUE 100 5 (bay0 [] 5000 s)))).modEval fun v => { v with row := [(5, { cmd := true, counting := true, pt := 50000 })] }
def st175 : State :=
  let s := base
  (up (((setSp FLT_TD_CFG.EN 1 9 (s.wr FLT_TD_CFG.EN 1 9)).wr FLT_TD_CFG.CH 0 9).wr FLT_TD_CFG.MEAS 0 9 |>.wr FLT_TD_CFG.DIR 0 9|>.wr FLT_TD_CFG.Q 2 9 |>.wr FLT_TD_TH.VALUE 4000 9|>.wr FLT_TD_STATUS.STATE 0 9|>.wr FLT_TD_STATUS.COUNT 3 9)).modGrid (fun g => { g with hist := recs 5000 1 }) |> fun s => { s with td := [(9, { next := 198 })] } |>.wr FLT_TD_CFG.EVT (s.grid.now % 2) 9|>.modGrid fun g => { g with trkDone := true, nextN := 200 }
def st176 : State :=
  let s := base
  ((up (((setSp FLT_TD_CFG.EN 1 9 (s.wr FLT_TD_CFG.EN 1 9)).wr FLT_TD_CFG.CH 0 9).wr FLT_TD_CFG.MEAS 0 9 |>.wr FLT_TD_CFG.DIR 0 9|>.wr FLT_TD_CFG.Q 2 9 |>.wr FLT_TD_TH.VALUE 4000 9|>.wr FLT_TD_STATUS.STATE 0 9|>.wr FLT_TD_STATUS.COUNT 3 9)).modGrid (fun g => { g with hist := recs 5000 1 }) |> fun s => { s with td := [(9, { next := 198 })] } |>.wr FLT_TD_CFG.EVT (s.grid.now % 2) 9|>.modGrid fun g => { g with trkDone := true, nextN := 200 })|> setSp FLT_TD_CFG.EVT 1 9
def st177 : State :=
  let s := base
  (engb s).modBist fun v => { v with eng := [(3, ⟨s.grid.now % 3, 1, 5, false⟩)] }
def st178 : State :=
  let s := base
  (engb s).wr BIST_ENG_STATUS.HEALTHY 0 3
def st179 : State :=
  let s := base
  (((((setSp BIST_CFG.ROT_EN 1 0 (setSp BIST_CFG.PERIOD 10 0 (setSp BIST_CFG.PAT 1 0 (engb s)))).wr PAIR_STATUS.ROLE 0).wr BIST_STATUS.ROT_SUSP 0).modBist fun v => { v with rotAt := 5 }).modGrid fun g => { g with hist := [{ n := 7, t := 2500000100 * 2^24, per := 1, freq := 1 }, { n := 6, t := 2499999000 * 2^24, per := 1, freq := 1 }] })
def st180 : State :=
  let s := base
  (((((setSp BIST_CFG.ROT_EN 1 0 (setSp BIST_CFG.PERIOD 10 0 (setSp BIST_CFG.PAT 1 0 (engb s)))).wr PAIR_STATUS.ROLE 0).wr BIST_STATUS.ROT_SUSP 0).modBist fun v => { v with rotAt := 5 }).modGrid fun g => { g with hist := [{ n := 7, t := 2500000100 * 2^24, per := 1, freq := 1 }, { n := 6, t := 2499999000 * 2^24, per := 1, freq := 1 }] }).wr BIST_STATUS.ROT_SUSP 1
def st181 : State :=
  let s := base
  (engb s).modBist fun v => { v with eng := [(3, ⟨0, 1, s.grid.now % 2 * 5000000, false⟩)] }
def st182 : State :=
  let s := base
  (engb s).modBist fun v => { v with eng := [(3, ⟨2, 1, s.grid.now % 2 * 5000000, false⟩)] }
def st183 : State :=
  let s := base
  (engb s).modBist fun v => { v with eng := [(3, ⟨1, 1, s.grid.now % 2 * 5000000, false⟩)] }
def st184 : State :=
  let s := base
  ((engb s).wr PAIR_STATUS.ROLE 2).modBist fun v => { v with proofAt := if s.grid.now % 2 = 0 then none else some 500 }
def st185 : State :=
  let s := base
  ((engb s).wr AFE_STATUS.GRP_BIST 15).modBist fun v => { v with host := some ⟨0x102, 500⟩ }
def st186 : State :=
  let s := base
  engb s
def st187 : State :=
  let s := base
  (engb s).modBist fun v => { v with ce := [(3, [(7,5),(8,6),(7,6)].take (s.grid.now % 4))] }
def st188 : State :=
  let s := base
  ((up s).wr EVT_STATUS.READY 1).modLog fun l => { l with queue := (List.range (s.grid.now % 4)).map fun i => (s.entryWith 5 6 0 0x6001 i i, 5) }
def st189 : State :=
  let s := base
  (up s).modBistNv fun n => { n with nandSpare := 5 }
def st190 : State :=
  let s := base
  ((up s).modBistNv fun n => { n with nandSpare := 0, nandLost := if s.grid.now % 2 = 0 then 0 else 15103 }).modRecNv fun n => { n with recs := [{ id := 9, inst := 2, cfg := {}, first := 90, last := 195, flags := 4096 },{ id := 7, inst := 2, cfg := {}, first := 90, last := 195 },{ id := 8, inst := 2, cfg := {}, first := 90, last := 195 }] }
def st191 : State :=
  let s := base
  (up s).modBistNv fun n => { n with nandBad := [5,77] }
def st192 : State :=
  let s := at' 1 (base)
  (up s).modBistNv fun n => { n with mramSpare := s.grid.now % 2 * 5 }
def st193 : State :=
  let s := base
  (up s).modBistNv (fun n => { n with mramSpare := 0 }) |>.modNv fun n => { n with lat := [(3, {newer := some true, older := if s.grid.now % 2 = 0 then none else some false})], epoch := { newer := some 5, older := if s.grid.now % 2 = 0 then none else some 4 } }
def st194 : State :=
  let s := base
  (engb s).modBist (fun v => { v with burns := [(3,⟨[7,8],5,5000000⟩),(4,⟨[7,8],5,6000000⟩)] })|>.modBistNv fun n => { n with cand := [(3,[7,9])], fused := [(3,5)] }
def st195 : State :=
  let s := base
  setSp REC_CFG.TRIGIN 1 2 (setSp REC_EXT_CFG.LAT 700 0 (setSp REC_EXT_CFG.POL (s.grid.now % 2) 0 (recb 2 2 id s)))
def st196 : State :=
  let s := base
  setSp REC_CFG.TRIGBUS 1 2 (setSp REC_TB_CFG.IN_EN 1 0 (recb 2 3 id s)) |>.modRec fun r => { r with busLow := r.busLow % 2 * 250 }
def st197 : State :=
  let s := base
  (up s).modRec fun r => { r with busOut := some 5 }
def st198 : State :=
  let s := base
  (up s).modRec fun r => { r with busLow := 4999900, busOut := if s.grid.now % 2 = 0 then none else some 7 }
def st199 : State :=
  let s := base
  let s := recb 2 2 (fun k => k) s; { s with bank := { s.bank with words := tset s.bank.words (REC_BIN_SEL.VALUE.at' 2 1) 1 } }
def st200 : State :=
  let s := base
  let s := recb 2 (1 + s.grid.now % 2) (fun k => { k with next := 205 }) s; { s with bank := { s.bank with words := tset s.bank.words (REC_BIN_SEL.VALUE.at' 2 1) 1 } }
def st201 : State :=
  let s := base
  let s := recb 2 2 (fun k => { k with trig := [⟨988000*2^24,5,none⟩] }) s; { s with bank := { s.bank with words := tset s.bank.words (REC_BIN_SEL.VALUE.at' 2 1) 1 } }|>.modRecNv (fun n => { n with recs := [] })|>.modBistNv fun n => { n with nandLost := 0 }
def st202 : State :=
  let s := base
  let s := recb 2 4 (fun k => { k with rearm := some (50,5000000*2^24) }) s; { s with bank := { s.bank with words := tset s.bank.words (REC_BIN_SEL.VALUE.at' 2 1) 1 } }
def st203 : State :=
  let s := base
  (let s := let s := recb 2 2 (fun k => { k with blk := [{ first := 150, cnt := 50, closed := true },{ first := 100, cnt := 50, closed := true }] }) s; { s with bank := { s.bank with words := tset s.bank.words (REC_BIN_SEL.VALUE.at' 2 1) 1 } }; (s.modRec fun r => { r with closing := [{ id := 7, inst := 2, cfg := {}, first := 90, last := 195 + s.grid.now % 10}]}).wr PWR_STATUS.VMAIN_WARN 0 |>.modRecNv fun n => { n with bytes := 262000 }).modRec fun r => { r with draining := some 2 }
def st204 : State :=
  let s := base
  recb 2 2 id s|>.wr PWR_STATUS.VMAIN_WARN 1
def st205 : State :=
  let s := base
  up s
def st206 : State :=
  let s := base
  rdy s
def st207 : State :=
  let s := base
  ((up s).wr HOST_STATUS.NEG 1).wr HOST_STATUS.IF 0
def st208 : State :=
  let s := base
  (up s).modHost fun h => { h with msixPba := 32 * (s.grid.now / 2 % 2) + 2^31 + 7, msix := [(23,1)] }
def st209 : State :=
  let s := base
  (up s).modHost fun h => { h with hiLatch := [] }
def st210 : State :=
  let s := base
  ((up s).wr HOST_STATUS.NEG 1).wr HOST_STATUS.IF 1
def st211 : State :=
  let s := base
  (up s).modHost fun h => { h with hiLatch := [(5,5)] }
def st212 : State :=
  let s := base
  (up s).modHost fun h => { h with hiLatch := loRegs.foldl (fun t a => tset t (a+4) 99) [] }
def st213 : State :=
  let s := base
  (up s).modAux fun a => { a with conv := [(0,{ (s.conv 0) with inj := none })] }
def st214 : State :=
  let s := base
  ((up s).modAux fun a => { a with conv := [(0,{ (s.conv 0) with inj := none })] })|>.modAux fun a => { a with conv := [(1,{ (s.conv 1) with inj := some (1,2), injRun := some (3,9) })] }
def st215 : State :=
  let s := base
  (up s).modAfe fun a => { a with cal := if s.grid.now % 2 = 0 then none else a.cal, diag := none, skew := none }
def st216 : State :=
  let s := base
  ((up s).modAfe fun a => { a with cal := if s.grid.now % 2 = 0 then none else a.cal, diag := none, skew := none })|>.modAfe fun a => { a with diag := some (7,500) }
def st217 : State :=
  let s := base
  (up s).wr HOST_STATUS.MAINT (s.grid.now % 2)
def st218 : State :=
  let s := at' 1 (base)
  (up s).wr HOST_STATUS.MAINT (s.grid.now % 2)
def st219 : State :=
  let s := base
  (bay0 [] 500 s).modEval fun v => { v with bay := [(3, { run := true, next := 201, grp := [(100, 0)] })] }
def st220 : State :=
  let s := base
  (bay0 [] 500 s).modGrid fun v => { v with hist := [] }
def st221 : State :=
  let s := base
  (up s).wr PBUS_MDIO.VALUE (2^31*(s.grid.now % 2))
def st222 : State :=
  let s := base
  (up s).wr HOST_FEAT_LO.VALUE (1024*(s.grid.now % 2))
def st223 : State :=
  let s := base
  ((up s).wr HOST_FEAT_LO.VALUE (1024*(s.grid.now % 2)))|>.wr BAY_PSTREAM.EN 1 63
def st224 : State :=
  let s := base
  (up s).wr HOST_STATUS.NEG 0
def st225 : State :=
  let s := base
  (let s := (((up s).wr HOST_STATUS.NEG 0).modHost fun h => { h with waiting := [], resync := none, partialAt := none, msgs := [], mem := [] }); (((s.wr HOST_BERTH_TAIL.VALUE (s.grid.now % 4 * 64) 0).wr HOST_BERTH_CFG.SIZE 7 0).wr HOST_BERTH_CFG.BASE 0 0).wr HOST_BERTH_HEAD.VALUE (s.grid.now % 4 * 64) 0)
def st226 : State :=
  let s := base
  ((let s := (((up s).wr HOST_STATUS.NEG 0).modHost fun h => { h with waiting := [], resync := none, partialAt := none, msgs := [], mem := [] }); (((s.wr HOST_BERTH_TAIL.VALUE (s.grid.now % 4 * 64) 0).wr HOST_BERTH_CFG.SIZE 7 0).wr HOST_BERTH_CFG.BASE 0 0).wr HOST_BERTH_HEAD.VALUE (s.grid.now % 4 * 64) 0).wr HOST_STATUS.NEG 1).wr HOST_STATUS.IF 0
def st227 : State :=
  let s := base
  let s := (let s := (((up s).wr HOST_STATUS.NEG 0).modHost fun h => { h with waiting := [], resync := none, partialAt := none, msgs := [], mem := [] }); (((s.wr HOST_BERTH_TAIL.VALUE (s.grid.now % 4 * 64) 0).wr HOST_BERTH_CFG.SIZE 7 0).wr HOST_BERTH_CFG.BASE 0 0).wr HOST_BERTH_HEAD.VALUE (s.grid.now % 4 * 64) 0); s.setMsgs 1 ((List.range 32).map fun i => ⟨i*16,16,5⟩)
def st228 : State :=
  let s := base
  let s := (let s := (((up s).wr HOST_STATUS.NEG 0).modHost fun h => { h with waiting := [], resync := none, partialAt := none, msgs := [], mem := [] }); (((s.wr HOST_BERTH_TAIL.VALUE (s.grid.now % 4 * 64) 0).wr HOST_BERTH_CFG.SIZE 7 0).wr HOST_BERTH_CFG.BASE 0 0).wr HOST_BERTH_HEAD.VALUE (s.grid.now % 4 * 64) 0); let s := (((s.wr HOST_BERTH_TAIL.VALUE 40 1).wr HOST_BERTH_HEAD.VALUE 40 1).wr HOST_BERTH_CFG.SIZE 7 1).wr HOST_BERTH_CFG.BASE 128 1; (s.b0Write (s.rd HOST_BERTH_TAIL.VALUE 0) (Packet.bytes 0x0102 ⟨77,2,0,0,[1,2,3,4],5⟩)).modHost fun h => { h with partialAt := some (if s.grid.now % 2 = 0 then 5 else 7000000) }
def st229 : State :=
  let s := base
  let s := (up s).wr HOST_STATUS.NEG 0; (s.setMsgs 5 [⟨40,16,5⟩,⟨56,8,6⟩,⟨64,32,7⟩]).wr HOST_BERTH_TAIL.VALUE 40 5|>.wr HOST_BERTH_IRQ.THRESH (s.grid.now % 3) 5
def st230 : State :=
  let s := base
  let s := (((up s).wr HOST_STATUS.NEG 0).modHost fun h => { h with waiting := [], resync := none, partialAt := none, msgs := [], mem := [] });let s := (up s).wr HOST_STATUS.NEG 0; (s.setMsgs 1 [⟨40,16,5⟩,⟨56,8,6⟩,⟨64,32,7⟩]).wr HOST_BERTH_TAIL.VALUE 40 1|>.wr HOST_BERTH_IRQ.THRESH (s.grid.now % 3) 1
def st231 : State :=
  let s := base
  let s := (up s).wr HOST_STATUS.NEG 0; (s.setMsgs 5 [⟨40,16,5⟩,⟨56,8,6⟩,⟨64,32,7⟩]).wr HOST_BERTH_TAIL.VALUE 40 5
def st232 : State :=
  let s := base
  (List.range 256).foldl (fun s b => s.wr HOST_BERTH_CFG.EN 0 b) ((up s).wr HOST_STATUS.NEG 0)
def st233 : State :=
  let s := base
  ((up s).wr HOST_STATUS.NEG 0).wr HOST_BERTH_CFG.EN 0 9 |>.wr HOST_BERTH_CFG.EN 1 8|>.wr HOST_BERTH_CFG.BASE 256 8
def st234 : State :=
  let s := base
  ((up s).wr HOST_STATUS.NEG 0).wr HOST_BERTH_CFG.EN 1 9
def st235 : State :=
  let s := base
  (up s)|>.wr HOST_STATUS.NEG 1 |>.wr HOST_STATUS.IF 1
def st236 : State :=
  let s := base
  (((up s).setMsgs 5 [⟨40,16,(if s.grid.now % 2 = 0 then 5 else 900000000)⟩,⟨56,8,6⟩]).wr HOST_BERTH_IRQ.HOLDOFF 50 5).modHost fun h => { h with armed := [(5,true)] }
def st237 : State :=
  let s := base
  (((up s).setMsgs 5 [⟨40,16,(if s.grid.now % 2 = 0 then 5 else 900000000)⟩,⟨56,8,6⟩]).wr HOST_BERTH_IRQ.HOLDOFF (s.grid.now % 2) 5).modHost fun h => { h with armed := [(5,false)] }
def st238 : State :=
  let s := base
  ((up s).modHost fun h => { h with secDrops := [(5,6),(7,0),(9,1)], sec := s.grid.now / 250000000 + s.grid.now % 2 })
def st239 : State :=
  let s := base
  (((((up s).wr HOST_BERTH_CFG.EN 1 9).wr HOST_BERTH_CFG.POLICY 2 9).wr HOST_BERTH_CFG.SIZE 4 9).wr HOST_BERTH_CFG.BASE 256 9).wr HOST_BERTH_TAIL.VALUE 60 9|>.wr HOST_BERTH_HEAD.VALUE 100 9|>.modRec fun r => { r with exporting := some ⟨5,9,[[1,2,3,4,5],[6,7]]⟩ }
def st240 : State :=
  let s := base
  ((((((up s).wr HOST_BERTH_CFG.EN 1 9).wr HOST_BERTH_CFG.POLICY 2 9).wr HOST_BERTH_CFG.SIZE 4 9).wr HOST_BERTH_CFG.BASE 256 9).wr HOST_BERTH_TAIL.VALUE 60 9|>.wr HOST_BERTH_HEAD.VALUE 100 9|>.modRec fun r => { r with exporting := some ⟨5,9,[[1,2,3,4,5],[6,7]]⟩ })|>.modRec fun r => { r with exporting := some ⟨5,9,[[1,2,3,4,5]]⟩ }
def st241 : State :=
  let s := base
  let q := (((up s).wr HOST_STATUS.MAINT 1).modHost fun h => { h with maintEnd := 500 + 10000000 * (s.grid.now % 2) }); q.modEval fun v => { v with row := [(3, { force := some true, cmd := true })] }
def st242 : State :=
  let s := base
  (up s).modCust fun h => { h with lockEnd := some (if s.grid.now % 2 = 0 then 500 else 2000000000) }
def st243 : State :=
  let s := base
  let s := (let s := bay0 [] 500 s; (((s.wr SET_CHAMBER.STATE 5).modPwr fun p => { p with applied := true }).wr GRID_STATUS.RUN 1).modCustNv fun c => { c with pend := some { bank := { words := [(AFE_CH_CFG.MODE.at' 2 0, 1)] }, bdig := 77, sdig := 88, at' := none, ctr := 5, accepted := 0 } }); s.modGrid fun g => { g with nextT := 250000000 * 2^24 }
def st244 : State :=
  let s := base
  (up s).wr SET_CHAMBER.STATE (s.grid.now % 5)
def st245 : State :=
  let s := base
  ((up s).wr EVT_STATUS.READY 1).wr PWR_STATUS.VMAIN_WARN 0|>.modLog (fun l => { l with queue := [(⟨5,6,0,0x0010 + s.grid.now % 2,3,9,1,0⟩,500),(⟨5,6,0,1,3,9,1,0⟩,600)] })|>.modLogNv fun l => { l with nextSeq := 4095 + s.grid.now % 3, entries := [⟨5,6,4000,1,3,9,1,0⟩] }
def st246 : State :=
  let s := at' 1 (base)
  ((up s).wr EVT_STATUS.READY 1).wr PWR_STATUS.VMAIN_WARN 0|>.modLog (fun l => { l with queue := [(⟨5,6,0,0x0010 + s.grid.now % 2,3,9,1,0⟩,500),(⟨5,6,0,1,3,9,1,0⟩,600)] })|>.modLogNv fun l => { l with nextSeq := 4095 + s.grid.now % 3, entries := [⟨5,6,4000,1,3,9,1,0⟩] }
def st247 : State :=
  let s := base
  (((up s).wr EVT_STATUS.READY 1).wr PWR_STATUS.VMAIN_WARN 0|>.modLog (fun l => { l with queue := [(⟨5,6,0,0x0010 + s.grid.now % 2,3,9,1,0⟩,500),(⟨5,6,0,1,3,9,1,0⟩,600)] })|>.modLogNv fun l => { l with nextSeq := 4095 + s.grid.now % 3, entries := [⟨5,6,4000,1,3,9,1,0⟩] }).wr EVT_BERTH.EN 1|>.wr EVT_BERTH.BERTH 9|>.wr HOST_BERTH_CFG.EN 1 9|>.wr HOST_BERTH_CFG.POLICY 1 9|>.wr HOST_BERTH_CFG.BASE 256 9|>.wr HOST_BERTH_CFG.SIZE 0 9|>.wr HOST_BERTH_HEAD.VALUE 1000 9|>.wr HOST_BERTH_TAIL.VALUE 990 9
def st248 : State :=
  let s := base
  (up s).wr EVT_STATUS.READY 0
def st249 : State :=
  let s := base
  (up s).modLog fun l => { l with buckets := [(3,⟨none,5,7⟩),(4,⟨none,5,0⟩),(0x1001,⟨some 5,5,1⟩)], sec := s.grid.now / 250000000 + s.grid.now % 2, queue := [(⟨5,6,0,1,3,9,1,0⟩,600)] }
def st250 : State :=
  let s := base
  (rdy s).wr HOST_FEAT_LO.VALUE (if s.grid.now % 2 = 0 then 0 else 0xFFFFFFFF)
def st251 : State :=
  let s := base
  let q := (rdy s).wr PWR_STATUS.VMAIN_WARN 1; q.wr HOST_BERTH_TAIL.VALUE (q.rd HOST_BERTH_HEAD.VALUE 0) 0
def st252 : State :=
  let s := base
  (rdy s).wr HOST_STATUS.NEG (s.grid.now % 2)
def st253 : State :=
  let s := base
  let s := rdy s; s.wr HOST_BERTH_TAIL.VALUE (s.rd HOST_BERTH_HEAD.VALUE 0 + 2^32 - 131072 + 8) 0
def st254 : State :=
  let s := base
  (rdy s).modPwr fun p => { p with phase := .held }
def st255 : State :=
  let s := at' 1 (base)
  ((rdy s).wr HOST_STATUS.MAINT (s.grid.now % 2)).wr EVT_STATUS.READY 1
def st256 : State :=
  let s := base
  ((rdy s).wr HOST_STATUS.MAINT 0).wr PAIR_STATUS.ROLE 4
def st257 : State :=
  let s := base
  (rdy s).wr PAIR_STATUS.ROLE (s.grid.now % 3)
def st258 : State :=
  let s := base
  (rdy s).wr PAIR_STATUS.ROLE (s.grid.now % 5)
def st259 : State :=
  let s := at' 3 (base)
  (rdy s).wr PAIR_STATUS.ROLE (s.grid.now % 5)
def st260 : State :=
  let s := base
  let q := (((rdy s).wr PAIR_STATUS.ROLE (s.grid.now % 3)).wr HOST_STATUS.MAINT 1); q.modEval fun v => { v with row := [(3, { force := some true, cmd := true })] }
def st261 : State :=
  let s := base
  (((rdy s).wr PAIR_STATUS.ROLE 2).modAfe fun a => { a with cal := none, diag := none, skew := none }).wr AFE_STATUS.GRP_BIST 0|>.wr AUX_STATUS.BIST 0
def st262 : State :=
  let s := base
  let s := (((rdy s).wr PAIR_STATUS.ROLE 2).modAfe fun a => { a with cal := none, diag := none, skew := none }).wr AFE_STATUS.GRP_BIST 0|>.wr AUX_STATUS.BIST 0; (s.modAfe fun a => { a with cal := if s.grid.now % 2 = 0 then none else some ⟨[],0,none,0,0,0,none,0,0,0,false⟩ }).wr PAIR_STATUS.ROLE (2 + s.grid.now % 3 / 2)
def st263 : State :=
  let s := at' 1 (base)
  let s := (((rdy s).wr PAIR_STATUS.ROLE 2).modAfe fun a => { a with cal := none, diag := none, skew := none }).wr AFE_STATUS.GRP_BIST 0|>.wr AUX_STATUS.BIST 0; (s.modAfe fun a => { a with cal := if s.grid.now % 2 = 0 then none else some ⟨[],0,none,0,0,0,none,0,0,0,false⟩ }).wr PAIR_STATUS.ROLE (2 + s.grid.now % 3 / 2)
def st264 : State :=
  let s := at' 3 (base)
  let s := (((rdy s).wr PAIR_STATUS.ROLE 2).modAfe fun a => { a with cal := none, diag := none, skew := none }).wr AFE_STATUS.GRP_BIST 0|>.wr AUX_STATUS.BIST 0; (s.modAfe fun a => { a with cal := if s.grid.now % 2 = 0 then none else some ⟨[],0,none,0,0,0,none,0,0,0,false⟩ }).wr PAIR_STATUS.ROLE (2 + s.grid.now % 3 / 2)
def st265 : State :=
  let s := base
  (rdy s)|>.modAux fun a => { a with conv := [(1,{ (s.conv 1) with inj := some (1,2), injRun := some (3,9) })] }
def st266 : State :=
  let s := base
  let q := (((rdy s).wr FLT_CH_CFG.RCODE 1 0|>.modAfe fun a => { a with ch := [] })|> setSp FLT_CH_CFG.RCODE 1 0|>setSp FLT_CH_CFG.RCODE 1 2|>setSp FLT_CH_CFG.RCODE 1 35); q.wr PWR_STATUS.VMAIN_WARN (s.grid.now / 2 % 2)
def st267 : State :=
  let s := at' 2 (base)
  let q := (((rdy s).wr FLT_CH_CFG.RCODE 1 0|>.modAfe fun a => { a with ch := [] })|> setSp FLT_CH_CFG.RCODE 1 0|>setSp FLT_CH_CFG.RCODE 1 2|>setSp FLT_CH_CFG.RCODE 1 35); q.wr PWR_STATUS.VMAIN_WARN (s.grid.now / 2 % 2)
def st268 : State :=
  let s := base
  (((rdy s).wr PAIR_STATUS.ROLE 2).modAfe fun a => { a with ch := [(0,{ bankA := some (stdBank 0 1), bankB := some (stdBank 0 2) }),(2,{ bankA := some (stdBank 0 1), bankB := some (stdBank 0 2) }),(35,{ bankA := some (stdBank 0 1), bankB := some (stdBank 0 2) })] })
def st269 : State :=
  let s := base
  (((rdy s).wr PAIR_STATUS.ROLE 2).modAfe fun a => { a with ch := if s.grid.now % 2 = 0 then [] else [(0,{ queued := some ⟨1,2,3,4,none⟩, bankA := some (stdBank 0 1), bankB := some (stdBank 0 2) }),(2,{ bankA := some (stdBank 0 1), bankB := some (stdBank 0 2) })] })
def st270 : State :=
  let s := at' 1 (base)
  (((rdy s).wr PAIR_STATUS.ROLE 2).modAfe fun a => { a with ch := if s.grid.now % 2 = 0 then [] else [(0,{ queued := some ⟨1,2,3,4,none⟩, bankA := some (stdBank 0 1), bankB := some (stdBank 0 2) }),(2,{ bankA := some (stdBank 0 1), bankB := some (stdBank 0 2) })] })
def st271 : State :=
  let s := base
  (rdy s).wr PAIR_STATUS.ROLE 2
def st272 : State :=
  let s := base
  (rdy s).wr GRID_TQ.SOURCE 0
def st273 : State :=
  let s := base
  (rdy s).wr GRID_TQ.SOURCE (s.grid.now % 5)
def st274 : State :=
  let s := at' 1 (base)
  (rdy s).wr GRID_TQ.SOURCE (s.grid.now % 5)
def st275 : State :=
  let s := base
  (((rdy s).wr HOST_BERTH_CFG.EN (s.grid.now % 5 / 3 + 1) 9).wr HOST_BERTH_CFG.POLICY 0 9).wr HOST_BERTH_CFG.SIZE 4 9|>.modHost fun h => { h with taps := List.replicate (s.grid.now % 5) (if s.grid.now % 3 = 0 then ⟨true,5,9⟩ else ⟨true,6,9⟩) }
def st276 : State :=
  let s := at' 2 (base)
  (((rdy s).wr HOST_BERTH_CFG.EN (s.grid.now % 5 / 3 + 1) 9).wr HOST_BERTH_CFG.POLICY 0 9).wr HOST_BERTH_CFG.SIZE 4 9|>.modHost fun h => { h with taps := List.replicate (s.grid.now % 5) (if s.grid.now % 3 = 0 then ⟨true,5,9⟩ else ⟨true,6,9⟩) }
def st277 : State :=
  let s := base
  ((((rdy s).wr HOST_BERTH_CFG.EN (s.grid.now % 5 / 3 + 1) 9).wr HOST_BERTH_CFG.POLICY 0 9).wr HOST_BERTH_CFG.SIZE 4 9|>.modHost fun h => { h with taps := List.replicate (s.grid.now % 5) (if s.grid.now % 3 = 0 then ⟨true,5,9⟩ else ⟨true,6,9⟩) })|>.modHost fun h => { h with taps := [⟨true,1,9⟩,⟨true,2,9⟩,⟨true,3,9⟩,⟨false,1,9⟩] }
def st278 : State :=
  let s := at' 3 (base)
  (((rdy s).wr HOST_BERTH_CFG.EN (s.grid.now % 5 / 3 + 1) 9).wr HOST_BERTH_CFG.POLICY 0 9).wr HOST_BERTH_CFG.SIZE 4 9|>.modHost fun h => { h with taps := List.replicate (s.grid.now % 5) (if s.grid.now % 3 = 0 then ⟨true,5,9⟩ else ⟨true,6,9⟩) }
def st279 : State :=
  let s := base
  (rdy s).wr SET_CHAMBER.STATE (0)
def st280 : State :=
  let s := base
  (rdy s).wr SET_CHAMBER.STATE (s.grid.now % 6)
def st281 : State :=
  let s := base
  (rdy s).wr SET_CHAMBER.STATE (1)
def st282 : State :=
  let s := base
  ((rdy s).wr SET_CHAMBER.STATE (2 + s.grid.now % 2)).modCust fun c => { c with lockEnd := none, fails := List.replicate (s.grid.now % 6) 5 }
def st283 : State :=
  let s := at' 2 (base)
  ((rdy s).wr SET_CHAMBER.STATE (2 + s.grid.now % 2)).modCust fun c => { c with lockEnd := none, fails := List.replicate (s.grid.now % 6) 5 }
def st284 : State :=
  let s := base
  ((rdy s).wr SET_CHAMBER.STATE (2 + s.grid.now % 2)).modCust fun c => { c with lockEnd := if s.grid.now % 3 = 0 then some 4000000000 else none }
def st285 : State :=
  let s := at' 2 (base)
  ((rdy s).wr SET_CHAMBER.STATE (2 + s.grid.now % 2)).modCust fun c => { c with lockEnd := if s.grid.now % 3 = 0 then some 4000000000 else none }
def st286 : State :=
  let s := base
  (rdy s).wr SET_CHAMBER.STATE (4)|>.modCust (fun c => { c with g1 := some ⟨1,1,5⟩, g2 := some ⟨2,2,5⟩, shadow := some {}, sdig := 99 })|>.modCustNv fun c => { c with ctr := 5 }
def st287 : State :=
  let s := base
  (rdy s).wr SET_CHAMBER.STATE (4)|>.modCust (fun c => { c with g1 := some ⟨1,1,5⟩, g2 := some ⟨2,2,4⟩, shadow := some {}, sdig := 99 })|>.modCustNv fun c => { c with ctr := 5 }
def st288 : State :=
  let s := base
  (rdy s).wr SET_CHAMBER.STATE (s.grid.now % 6)|>.modCust (fun c => { c with g1 := some ⟨1,1,5⟩, g2 := some ⟨2,2,4⟩, shadow := some {}, sdig := 99 })|>.modCustNv fun c => { c with ctr := 5 }
def st289 : State :=
  let s := at' 2 (base)
  (rdy s).wr SET_CHAMBER.STATE (s.grid.now % 6)|>.modCust (fun c => { c with g1 := some ⟨1,1,5⟩, g2 := some ⟨2,2,4⟩, shadow := some {}, sdig := 99 })|>.modCustNv fun c => { c with ctr := 5 }
def st290 : State :=
  let s := at' 1 (base)
  (rdy s).wr SET_CHAMBER.STATE (s.grid.now % 6)|>.modCust (fun c => { c with g1 := some ⟨1,1,5⟩, g2 := some ⟨2,2,4⟩, shadow := some {}, sdig := 99 })|>.modCustNv fun c => { c with ctr := 5 }
def st291 : State :=
  let s := base
  ((rdy s).wr HOST_STATUS.MAINT 1).modCustNv (fun c => { c with closed := false, slots := [(1,{ role := 1 + s.grid.now % 2, key := [] })] })|>.modCust fun c => { c with lockEnd := none }
def st292 : State :=
  let s := base
  ((rdy s).wr HOST_STATUS.MAINT 0).modCustNv fun c => { c with closed := false }
def st293 : State :=
  let s := base
  (rdy s).modLogNv fun l => { l with nextSeq := 20, clearMark := 5, entries := (List.range 15).map fun i => ⟨5,6,19 - i,1,3,9,1,0⟩ }
def st294 : State :=
  let s := base
  rdy (setSp REC_ALLOC.VALUE 10 2 (recb 2 1 (fun k => k) s))
def st295 : State :=
  let s := base
  rdy (setSp REC_ALLOC.VALUE (10 * (s.grid.now / 4 % 2)) 2 (recb 2 (s.grid.now % 4) (fun k => k) s))
def st296 : State :=
  let s := at' 1 (base)
  rdy (setSp REC_ALLOC.VALUE (10 * (s.grid.now / 4 % 2)) 2 (recb 2 (s.grid.now % 4) (fun k => k) s))
def st297 : State :=
  let s := at' 2 (base)
  rdy (setSp REC_ALLOC.VALUE (10 * (s.grid.now / 4 % 2)) 2 (recb 2 (s.grid.now % 4) (fun k => k) s))
def st298 : State :=
  let s := base
  (rdy s).modRecNv fun n => { n with recs := [{ id := 7 + 0, inst := 2, cfg := {}, flags := 4096 * (s.grid.now % 2), meas := { ch := [[1,2,3,4,5],[6,7,8,9,10]] } },{ id := 7 + 1, inst := 2, cfg := {}, flags := 4096 * (s.grid.now % 2), meas := { ch := [[1,2,3,4,5],[6,7,8,9,10]] } }] }
def st299 : State :=
  let s := at' 1 (base)
  let s := (rdy s).modRecNv fun n => { n with recs := [{ id := 7 + 0, inst := 2, cfg := {}, flags := 4096 * (s.grid.now % 2), meas := { ch := [[1,2,3,4,5],[6,7,8,9,10]] } },{ id := 7 + 1, inst := 2, cfg := {}, flags := 4096 * (s.grid.now % 2), meas := { ch := [[1,2,3,4,5],[6,7,8,9,10]] } }] }; (((s.wr HOST_BERTH_CFG.EN (1 - s.grid.now % 7 / 5) 9).wr HOST_BERTH_CFG.POLICY 2 9).wr HOST_BERTH_CFG.SIZE 4 9)|>.modRec fun r => { r with exporting := if s.grid.now % 5 = 0 then some ⟨5,9,[]⟩ else none }
def st300 : State :=
  let s := base
  let s := (rdy s).modRecNv fun n => { n with recs := [{ id := 7 + 0, inst := 2, cfg := {}, flags := 4096 * (s.grid.now % 2), meas := { ch := [[1,2,3,4,5],[6,7,8,9,10]] } },{ id := 7 + 1, inst := 2, cfg := {}, flags := 4096 * (s.grid.now % 2), meas := { ch := [[1,2,3,4,5],[6,7,8,9,10]] } }] }; (((s.wr HOST_BERTH_CFG.EN (1 - s.grid.now % 7 / 5) 9).wr HOST_BERTH_CFG.POLICY 2 9).wr HOST_BERTH_CFG.SIZE 4 9)|>.modRec fun r => { r with exporting := if s.grid.now % 5 = 0 then some ⟨5,9,[]⟩ else none }
def st301 : State :=
  let s := at' 4 (base)
  let s := (rdy s).modRecNv fun n => { n with recs := [{ id := 7 + 0, inst := 2, cfg := {}, flags := 4096 * (s.grid.now % 2), meas := { ch := [[1,2,3,4,5],[6,7,8,9,10]] } },{ id := 7 + 1, inst := 2, cfg := {}, flags := 4096 * (s.grid.now % 2), meas := { ch := [[1,2,3,4,5],[6,7,8,9,10]] } }] }; (((s.wr HOST_BERTH_CFG.EN (1 - s.grid.now % 7 / 5) 9).wr HOST_BERTH_CFG.POLICY 2 9).wr HOST_BERTH_CFG.SIZE 4 9)|>.modRec fun r => { r with exporting := if s.grid.now % 5 = 0 then some ⟨5,9,[]⟩ else none }
def st302 : State :=
  let s := base
  rdy (recb 2 2 (fun k => k) s)
def st303 : State :=
  let s := base
  rdy (recb 2 (s.grid.now % 5) (fun k => k) s)
def st304 : State :=
  let s := at' 2 (base)
  rdy (recb 2 (s.grid.now % 5) (fun k => k) s)
def st305 : State :=
  let s := base
  rdy (recb 2 3 (fun k => { k with cur := some { id := 99, inst := 2, cfg := { n := 4, na := 0 }, first := 100 } }) s)
def st306 : State :=
  let s := base
  ((rdy s).modRecNv fun n => { n with recs := [{ id := 7 + 0, inst := 2, cfg := {}, flags := 4096 * (s.grid.now % 2), meas := { ch := [[1,2,3,4,5],[6,7,8,9,10]] } },{ id := 7 + 1, inst := 2, cfg := {}, flags := 4096 * (s.grid.now % 2), meas := { ch := [[1,2,3,4,5],[6,7,8,9,10]] } }] }).wr HOST_STATUS.MAINT (s.grid.now / 2 % 2)|>.modRec fun r => { r with exporting := none }
def st307 : State :=
  let s := at' 2 (base)
  ((rdy s).modRecNv fun n => { n with recs := [{ id := 7 + 0, inst := 2, cfg := {}, flags := 4096 * (s.grid.now % 2), meas := { ch := [[1,2,3,4,5],[6,7,8,9,10]] } },{ id := 7 + 1, inst := 2, cfg := {}, flags := 4096 * (s.grid.now % 2), meas := { ch := [[1,2,3,4,5],[6,7,8,9,10]] } }] }).wr HOST_STATUS.MAINT (s.grid.now / 2 % 2)|>.modRec fun r => { r with exporting := none }
def st308 : State :=
  let s := at' 3 (base)
  ((rdy s).modRecNv fun n => { n with recs := [{ id := 7 + 0, inst := 2, cfg := {}, flags := 4096 * (s.grid.now % 2), meas := { ch := [[1,2,3,4,5],[6,7,8,9,10]] } },{ id := 7 + 1, inst := 2, cfg := {}, flags := 4096 * (s.grid.now % 2), meas := { ch := [[1,2,3,4,5],[6,7,8,9,10]] } }] }).wr HOST_STATUS.MAINT (s.grid.now / 2 % 2)|>.modRec fun r => { r with exporting := none }
def st309 : State :=
  let s := base
  (rdy s).wr PAIR_STATUS.ROLE (1 + s.grid.now % 2)
def st310 : State :=
  let s := base
  (((rdy s).wr PAIR_STATUS.ROLE 4).wr PAIR_STATUS.HO 0).wr PAIR_STATUS.PREADY 1
def st311 : State :=
  let s := base
  ((((rdy s).wr PAIR_STATUS.ROLE 4).wr PAIR_STATUS.HO 0).wr PAIR_STATUS.PREADY 1)|>.modPair fun p => { p with ver := 1 }
def st312 : State :=
  let s := base
  (((rdy s).wr PAIR_STATUS.ROLE (3 + s.grid.now % 2)).wr PAIR_STATUS.HO (s.grid.now / 2 % 2)).wr PAIR_STATUS.PREADY 0
def st313 : State :=
  let s := at' 3 (base)
  (((rdy s).wr PAIR_STATUS.ROLE (3 + s.grid.now % 2)).wr PAIR_STATUS.HO (s.grid.now / 2 % 2)).wr PAIR_STATUS.PREADY 0
def st314 : State :=
  let s := at' 1 (base)
  (((rdy s).wr PAIR_STATUS.ROLE (3 + s.grid.now % 2)).wr PAIR_STATUS.HO (s.grid.now / 2 % 2)).wr PAIR_STATUS.PREADY 0
def st315 : State :=
  let s := base
  (rdy s).modPair fun p => { p with hb := p.hb }
def st316 : State :=
  let s := base
  rdy (engb s)|>.wr BIST_STATUS.BUSY 0
def st317 : State :=
  let s := base
  let s := rdy (engb s)|>.wr BIST_STATUS.BUSY 0; (((s).wr PAIR_STATUS.ROLE 2).modAfe fun a => { a with cal := none, diag := none, skew := none }).wr AFE_STATUS.GRP_BIST 0|>.wr AUX_STATUS.BIST 0
def st318 : State :=
  let s := base
  rdy (engb s)|>.wr BIST_STATUS.BUSY (s.grid.now / 2 % 2)
def st319 : State :=
  let s := at' 2 (base)
  rdy (engb s)|>.wr BIST_STATUS.BUSY (s.grid.now / 2 % 2)
def st320 : State :=
  let s := base
  ((rdy s).wr HOST_STATUS.MAINT 1).wr AUX_RESULT.DATA 43000 0 16|>.modBist fun b => { b with soft := [(3,[5,6])], burns := [] }
def st321 : State :=
  let s := base
  ((rdy s).wr HOST_STATUS.MAINT (s.grid.now % 2)).wr AUX_RESULT.DATA (41000 + 2000 * (s.grid.now % 3)) 0 16|>.modBist fun b => { b with soft := if s.grid.now % 5 = 0 then [] else [(4,[5])], burns := [] }
def st322 : State :=
  let s := at' 5 (base)
  ((rdy s).wr HOST_STATUS.MAINT (s.grid.now % 2)).wr AUX_RESULT.DATA (41000 + 2000 * (s.grid.now % 3)) 0 16|>.modBist fun b => { b with soft := if s.grid.now % 5 = 0 then [] else [(4,[5])], burns := [] }
def st323 : State :=
  let s := at' 1 (base)
  ((rdy s).wr HOST_STATUS.MAINT (s.grid.now % 2)).wr AUX_RESULT.DATA (41000 + 2000 * (s.grid.now % 3)) 0 16|>.modBist fun b => { b with soft := if s.grid.now % 5 = 0 then [] else [(4,[5])], burns := [] }
theorem steady_iff (s : State) (b : Nat) (r : TickRec) (h : s.eval.chg = []) :
    s.steady b r ↔ ∀ m ∈ (tget {} s.eval.bay b).stopAt, r.n + 1 < m := by simp [State.steady, h]

theorem test_powerOnReleases : ∃ (s : State),
    (s.pwr.phase = .unpowered ∨ s.pwr.phase = .held) :=
  ⟨st0, by decide +kernel⟩

theorem test_resetHolds : ∃ (s : State) (c : Instr) (k : Nat),
    (resetCause c = some k) ∧ (s.pwr.phase ≠ .unpowered) :=
  ⟨st1, .rstNLow, 1, by decide +kernel⟩

theorem test_resetUnpowered : ∃ (s : State) (c : Instr) (k : Nat),
    (resetCause c = some k) ∧ (s.pwr.phase = .unpowered) :=
  ⟨st0, .rstNLow, 1, by decide +kernel⟩

theorem test_vmainWarnEnters : ∃ (s : State),
    (s.up = true) ∧ (s.rd PWR_STATUS.VMAIN_WARN = 0) :=
  ⟨st2, by decide +kernel⟩

theorem test_vmainWarnLeaves : ∃ (s : State),
    (s.up = true) ∧ (s.rd PWR_STATUS.VMAIN_WARN = 1) ∧ (s.pwr.owedClaim = false) ∧ (s.NothingWaits) :=
  ⟨st3, by unfold State.NothingWaits; decide +kernel⟩

theorem test_vmainWarnLeaves_c1 : ∃ (s : State),
    (s.up = true) ∧ (s.rd PWR_STATUS.VMAIN_WARN = 1) ∧ (s.pwr.owedClaim = false) ∧ (s.NothingWaits) ∧ (s.pwr.owedSkew = true) :=
  ⟨st4, by unfold State.NothingWaits; decide +kernel⟩

theorem test_vmainWarnLeaves_c2 : ∃ (s : State),
    (s.up = true) ∧ (s.rd PWR_STATUS.VMAIN_WARN = 1) ∧ (s.pwr.owedClaim = false) ∧ (s.NothingWaits) ∧ (s.pwr.owedBanks = []) :=
  ⟨st3, by unfold State.NothingWaits; decide +kernel⟩

theorem test_vmainWarnLeaves_c3 : ∃ (s : State),
    (s.up = true) ∧ (s.rd PWR_STATUS.VMAIN_WARN = 1) ∧ (s.pwr.owedClaim = false) ∧ (s.NothingWaits) ∧ (s.pwr.owedSkew = false) :=
  ⟨st3, by unfold State.NothingWaits; decide +kernel⟩

theorem test_withheldClaimMade : ∃ (s : State),
    (s.up = true) ∧ (s.rd PWR_STATUS.VMAIN_WARN = 1) ∧ (s.pwr.owedClaim = true) ∧ (s.NothingWaits) :=
  ⟨st5, by unfold State.NothingWaits; decide +kernel⟩

theorem test_vafeLowEnters : ∃ (s : State),
    (s.up = true) ∧ (s.rd PWR_STATUS.VAFE_LOW = 0) :=
  ⟨st6, by decide +kernel⟩

theorem test_vafeLowLeaves : ∃ (s : State),
    (s.up = true) ∧ (s.rd PWR_STATUS.VAFE_LOW = 1) ∧ (s.rd PWR_STATUS.VAFE_LOST = 0) :=
  ⟨st7, by decide +kernel⟩

theorem test_vafeLostEnters : ∃ (s : State),
    (s.up = true) ∧ (s.rd PWR_STATUS.VAFE_LOST = 0) :=
  ⟨st8, by decide +kernel⟩

theorem test_vafeLostEnters_c1 : ∃ (s : State),
    (s.up = true) ∧ (s.rd PWR_STATUS.VAFE_LOST = 0) ∧ (s.rd PWR_STATUS.VAFE_LOW = 0) :=
  ⟨st8, by decide +kernel⟩

theorem test_vafeLostEnters_c2 : ∃ (s : State),
    (s.up = true) ∧ (s.rd PWR_STATUS.VAFE_LOST = 0) ∧ (s.rd PWR_STATUS.VAFE_LOW = 0) :=
  ⟨st8, by decide +kernel⟩

theorem test_vafeLostEnters_c3 : ∃ (s : State),
    (s.up = true) ∧ (s.rd PWR_STATUS.VAFE_LOST = 0) ∧ (s.rd PWR_STATUS.VAFE_LOW = 1) :=
  ⟨st9, by decide +kernel⟩

theorem test_vafeReturns : ∃ (s : State) (t0 : Nat),
    (s.up = true) ∧ (s.rd PWR_STATUS.VAFE_LOST = 1) ∧ (s.grid.now ≤ t0) :=
  ⟨st10, 1000000, by decide +kernel⟩

theorem test_bootFails : ∃ (s : State) (v : StartView),
    (s.pwr.phase = .released ∨ s.pwr.phase = .held) ∧ (v.slot (s.rd ID_FW_SLOT.RB_MIN) = none) :=
  ⟨st11, {}, by decide +kernel⟩

theorem test_autocalRuns : ∃ (s : State),
    (s.pwr.phase = .calibrating) ∧ (s.pwr.selfcalSeen = false) :=
  ⟨st12, by decide +kernel⟩

theorem test_settingsComeIntoForceAtStartUp : ∃ (s : State),
    (s.pwr.phase = .settings) ∧ (s.pwr.applied = false) ∧ (s.pwr.halt = false) :=
  ⟨st13, by decide +kernel⟩

theorem test_norStarts : ∃ (s : State) (w : BitVec 64),
    (s.pwr.rstN = true) ∧ (s.nv.nor.busy = none) ∧ (1 ≤ w.toNat / 2 ^ 56 % 256) ∧ (w.toNat / 2 ^ 56 % 256 ≤ 3) :=
  ⟨st14, (BitVec.ofNat 64 (1*2^56+5*2^32+77)), by decide +kernel⟩

theorem test_norRefused : ∃ (s : State) (w : BitVec 64),
    (s.pwr.rstN = false ∨ s.nv.nor.busy.isSome = true ∨ w.toNat / 2 ^ 56 % 256 = 0) :=
  ⟨st1, (BitVec.ofNat 64 (1*2^56+5*2^32+77)), by decide +kernel⟩

theorem test_norRefused_c1 : ∃ (s : State) (w : BitVec 64),
    (s.pwr.rstN = false ∨ s.nv.nor.busy.isSome = true ∨ w.toNat / 2 ^ 56 % 256 = 0) ∧ (1 ≤ w.toNat / 2 ^ 56 % 256) ∧ (w.toNat / 2 ^ 56 % 256 ≤ 3) :=
  ⟨st1, (BitVec.ofNat 64 (1*2^56+5*2^32+77)), by decide +kernel⟩

theorem test_norRefused_c2 : ∃ (s : State) (w : BitVec 64),
    (s.pwr.rstN = false ∨ s.nv.nor.busy.isSome = true ∨ w.toNat / 2 ^ 56 % 256 = 0) ∧ (w.toNat / 2 ^ 56 % 256 = 0) :=
  ⟨st1, (BitVec.ofNat 64 (5*2^32+77)), by decide +kernel⟩

theorem test_tapAlone : ∃ (s : State) (x : TapClk),
    (s.tap.ir ≠ 0x40) :=
  ⟨st15, ⟨true,true,true⟩, by decide +kernel⟩

theorem test_tapBypasses : ∃ (s : State) (ir : BitVec 8) (b : Bool),
    (ir ∉ [0x00, 0x01, 0x02, 0x06, 0x07, 0x40]) :=
  ⟨st1, 0x55, true, by decide +kernel⟩

theorem test_norCompletes : ∃ (s : State) (x : NorOp),
    (s.nv.nor.busy = some x) ∧ (x.addr < norSize) ∧ (1 ≤ x.op) ∧ (x.op ≤ 3) :=
  ⟨st16, ⟨2,5,7⟩, by decide +kernel⟩

theorem test_norCompletes_c1 : ∃ (s : State) (x : NorOp),
    (s.nv.nor.busy = some x) ∧ (x.addr < norSize) ∧ (1 ≤ x.op) ∧ (x.op ≤ 3) ∧ (x.op = 1) :=
  ⟨st17, ⟨1,5,7⟩, by decide +kernel⟩

theorem test_norCompletes_c2 : ∃ (s : State) (x : NorOp),
    (s.nv.nor.busy = some x) ∧ (x.addr < norSize) ∧ (1 ≤ x.op) ∧ (x.op ≤ 3) ∧ (x.op = 2) ∧ (s.nv.nor.read x.addr = 2 ^ 32 - 1) :=
  ⟨st16, ⟨2,5,7⟩, by decide +kernel⟩

theorem test_commandFrameTaken : ∃ (s : State) (t0 : Nat),
    (s.pwr.phase = .running) ∧ (s.dio.reset = false) ∧ (s.dio.cfg = true) ∧ (s.bist.host = none) :=
  ⟨st18, 5, by decide +kernel⟩

theorem test_readbackSeen : ∃ (s : State) (t0 : Nat) (p : PadView),
    (s.up = true) ∧ (s.dio.reset = false) ∧ (s.dio.cfg = true) ∧ (s.rd DIO_STATUS.LINK = 1) ∧ (s.dio.claim.lost = false) :=
  ⟨st19, 5, ⟨0xF0F0,3,16000,5,6⟩, by decide +kernel⟩

theorem test_linkLossSeen : ∃ (s : State) (u : Nat),
    (s.up = true) ∧ (s.rd DIO_STATUS.LINK = 1) ∧ (s.dio.link = false ∨ s.dio.readAt ≤ s.dio.frameAt + 2000) ∧ (u = (if s.dio.link = true ∧ s.dio.frameAt ≤ s.dio.readAt + 2000 then max s.dio.readAt s.dio.frameAt else s.dio.readAt) + 25000) :=
  ⟨st20, (if st20.dio.link = true ∧ st20.dio.frameAt ≤ st20.dio.readAt + 2000 then max st20.dio.readAt st20.dio.frameAt else st20.dio.readAt) + 25000, by decide +kernel⟩

theorem test_linkLostHolds : ∃ (s : State),
    (s.up = true) ∧ (s.dio.link = true) ∧ (s.rd DIO_STATUS.LINK = 0 ∨ s.dio.frameAt ≤ s.dio.readAt + 2000) :=
  ⟨st21, by decide +kernel⟩

theorem test_linkLostHolds_c1 : ∃ (s : State),
    (s.up = true) ∧ (s.dio.link = true) ∧ (s.rd DIO_STATUS.LINK = 0 ∨ s.dio.frameAt ≤ s.dio.readAt + 2000) ∧ (s.rd DIO_STATUS.LINK = 0 ∨ s.dio.frameAt + 2000 < s.dio.readAt) :=
  ⟨st22, by decide +kernel⟩

theorem test_linkholdSwitchesOff : ∃ (s : State) (t0 : Nat),
    (s.up = true) ∧ (s.dio.lostAt = some t0) ∧ (s.rd DIO_LINK_CFG.LINKHOLD ≠ 0) ∧ (s.dio.holdOff = false) :=
  ⟨st23, 500, by decide +kernel⟩

theorem test_dieResets : ∃ (s : State) (t0 : Nat) (mv : BitVec 16),
    (s.up = true) ∧ (mv.toNat < 7500) ∧ (s.dio.reset = false) :=
  ⟨st18, 5, 7000, by decide +kernel⟩

theorem test_dieSupplied : ∃ (s : State) (t0 : Nat) (mv : BitVec 16),
    (s.up = true) ∧ (8500 < mv.toNat) ∧ (s.dio.reset = true) :=
  ⟨st24, 5, 9000, by decide +kernel⟩

theorem test_uvCrosses : ∃ (s : State) (c : Instr) (u : Nat) (v : Nat) (code : Nat) (t0 : Nat) (mv : Nat),
    (uvCrossing c = some (u, v, true, code, t0, mv)) ∧ (s.up = true) ∧ (s.dio.reset = false) ∧ (s.dio.uv = u) ∧ (s.rd DIO_STATUS.UV = u) :=
  ⟨st25, .fieldUvWarn 5 15000, 0, 1, 0x6020, 5, 15000, by decide +kernel⟩

theorem test_uvCrosses_c1 : ∃ (s : State) (c : Instr) (u : Nat) (v : Nat) (code : Nat) (t0 : Nat) (mv : Nat),
    (uvCrossing c = some (u, v, true, code, t0, mv)) ∧ (s.up = true) ∧ (s.dio.reset = false) ∧ (s.dio.uv = u) ∧ (s.rd DIO_STATUS.UV = u) ∧ (v = 2) :=
  ⟨st26, .fieldUvInval 5 11000, 1, 2, 0x6022, 5, 11000, by decide +kernel⟩

theorem test_uvInvalidLeft : ∃ (s : State) (t0 : Nat) (mv : BitVec 16),
    (s.up = true) ∧ (s.dio.reset = false) ∧ (s.dio.uv = 2) ∧ (12500 < mv.toNat) :=
  ⟨st27, 5, 13000, by decide +kernel⟩

theorem test_uvDrops : ∃ (s : State) (t0 : Nat) (mv : BitVec 16),
    (s.up = true) ∧ (s.dio.reset = false) ∧ (s.dio.uv = 2) ∧ (mv.toNat < 9000) :=
  ⟨st28, 5, 8000, by decide +kernel⟩

theorem test_uvRecovers : ∃ (s : State) (t0 : Nat) (mv : BitVec 16),
    (s.up = true) ∧ (s.dio.reset = false) ∧ (s.dio.uv = 3) ∧ (10500 < mv.toNat) :=
  ⟨st29, 5, 11000, by decide +kernel⟩

theorem test_inputUnmoved : ∃ (s : State) (d : Fin 32) (t0 : Nat) (mv : BitVec 16),
    (s.up = true) ∧ ((s.rd DIO_IN_OK.MASK).testBit d = false ∨ padHigh d (s.rd DIO_CH_CFG.ITYPE d) (s.dio.ival.testBit d) mv.toNat = s.dio.ival.testBit d) :=
  ⟨st18, 3, 5, 20000, by decide +kernel⟩

theorem test_wireBreaks : ∃ (s : State) (d : Fin 32) (t0 : Nat) (u : Nat),
    (s.up = true) ∧ (s.dir d = 1) ∧ (s.rd DIO_CH_CFG.WB d = 1) ∧ (s.dio.wb.testBit d = false) ∧ (u = max t0 (tget 0 s.dio.deb d)) :=
  ⟨st30, 3, 5, max 5 (tget 0 st30.dio.deb 3), by decide +kernel⟩

theorem test_wireRestored : ∃ (s : State) (d : Fin 32) (t0 : Nat) (u : Nat),
    (s.up = true) ∧ (s.dio.wb.testBit d = true) ∧ (u = max t0 (tget 0 s.dio.deb d)) :=
  ⟨st31, 3, 5, max 5 (tget 0 st31.dio.deb 3), by decide +kernel⟩

theorem test_outputOverloads : ∃ (s : State) (d : Fin 32) (l : Nat) (t0 : Nat) (thermal : Bool),
    (s.up = true) ∧ (s.dir d = 2) ∧ (l = s.lead d) ∧ (s.dir l = 2) ∧ (s.dio.drv.testBit d = true) ∧ (s.dio.ovl.testBit d = false) :=
  ⟨st32, 3, st32.lead 3, 5, true, by decide +kernel⟩

theorem test_outputOverloads_c1 : ∃ (s : State) (d : Fin 32) (l : Nat) (t0 : Nat) (thermal : Bool),
    (s.up = true) ∧ (s.dir d = 2) ∧ (l = s.lead d) ∧ (s.dir l = 2) ∧ (s.dio.drv.testBit d = true) ∧ (s.dio.ovl.testBit d = false) ∧ (thermal = true ∨ s.par l = true) :=
  ⟨st32, 3, st32.lead 3, 5, true, by decide +kernel⟩

theorem test_outputOverloads_c2 : ∃ (s : State) (d : Fin 32) (l : Nat) (t0 : Nat) (thermal : Bool),
    (s.up = true) ∧ (s.dir d = 2) ∧ (l = s.lead d) ∧ (s.dir l = 2) ∧ (s.dio.drv.testBit d = true) ∧ (s.dio.ovl.testBit d = false) ∧ (thermal = false) ∧ (s.par l = false) :=
  ⟨st32, 3, st32.lead 3, 5, false, by decide +kernel⟩

theorem test_overloadRetries : ∃ (s : State) (d : Fin 32) (x : Shut),
    (s.up = true) ∧ (tfind s.dio.shut d = some x) ∧ (tfind (terase s.dio.shut d) d = none) ∧ (s.dio.cmd.testBit d = true) :=
  ⟨st33, 3, ⟨300⟩, by decide +kernel⟩

theorem test_overloadRetries_c1 : ∃ (s : State) (d : Fin 32) (x : Shut),
    (s.up = true) ∧ (tfind s.dio.shut d = some x) ∧ (tfind (terase s.dio.shut d) d = none) ∧ (s.dio.cmd.testBit d = true) ∧ (s.dir d = 2) ∧ (s.lead d = d.val) ∧ (s.cls d = 0) ∧ (s.dio.claim.gate = true) ∧ (s.dio.cfg = true) ∧ (s.dio.reset = false) ∧ (s.dio.uv < 3) ∧ (s.dio.test.testBit d = false) :=
  ⟨st34, 3, ⟨300⟩, by decide +kernel⟩

theorem test_outputSticksHigh : ∃ (s : State) (d : Fin 32) (t0 : Nat),
    (s.up = true) ∧ (s.offTest d = true) ∧ (s.dio.stuck.testBit d = false) :=
  ⟨st35, 3, 5, by decide +kernel⟩

theorem test_outputConflicts : ∃ (s : State) (d : Fin 32) (w : Nat) (t0 : Nat),
    (s.up = true) ∧ (s.offTest d = true) ∧ (w ≠ d.val) ∧ (s.dio.confl.testBit d = false) :=
  ⟨st35, 3, 4, 5, by decide +kernel⟩

theorem test_outputOpens : ∃ (s : State) (d : Fin 32) (t0 : Nat),
    (s.up = true) ∧ (s.dir d = 2) ∧ (s.dio.openL.testBit d = false) ∧ ((if s.dio.drv.testBit d then s.rd DIO_CH_CFG.ONOL d = 1 else s.rd DIO_CH_CFG.OFFOL d = 1 ∧ s.dio.pad.testBit d = false)) :=
  ⟨st36, 3, 5, by decide +kernel⟩

theorem test_openLoadPauses : ∃ (s : State) (d : Fin 32) (t0 : Nat),
    (s.up = true) ∧ (s.dio.drv.testBit d = false) ∧ (s.dio.pad.testBit d = true) :=
  ⟨st37, 3, 5, by decide +kernel⟩

theorem test_pairImbalanced : ∃ (s : State) (d : Fin 32) (t0 : Nat),
    (s.up = true) ∧ (s.par d = true) ∧ (s.dio.drv.testBit d = true) :=
  ⟨st38, 2, 5, by decide +kernel⟩

theorem test_diagnosticClears : ∃ (s : State) (d : Fin 32) (bit : Fin 16) (f : Field) (t0 : Nat),
    (s.up = true) ∧ (diagField bit = some f) ∧ (bit.val ≠ 10) ∧ ((s.dio.diag bit).testBit d = true) :=
  ⟨st39, 3, 7, DIO_CH_STATUS.STUCK_HIGH, 5, by decide +kernel⟩

theorem test_overloadEnds : ∃ (s : State) (d : Fin 32) (t0 : Nat) (u : Nat),
    (s.up = true) ∧ (s.dio.ovl.testBit d = true) ∧ (s.dio.drv.testBit d = true) ∧ (tfind s.dio.shut (s.lead d) = none) ∧ (u = max t0 (tget 0 s.dio.ovlAt d + second)) :=
  ⟨st40, 3, 5, max 5 (tget 0 st40.dio.ovlAt 3 + second), by decide +kernel⟩

theorem test_overloadStays : ∃ (s : State) (d : Fin 32) (t0 : Nat),
    (s.up = true) ∧ (s.dio.drv.testBit d = false ∨ (tfind s.dio.shut (s.lead d)).isSome = true) :=
  ⟨st41, 3, 5, by decide +kernel⟩

theorem test_softStartSwitches : ∃ (s : State) (d : Fin 32) (since : Nat),
    (s.up = true) ∧ (s.dio.uv < 3) ∧ (s.dio.claim.gate = true) ∧ (s.cls d = 1) ∧ (s.dio.queue.find? (·.1 == d.val) = some (d.val, since)) ∧ ((∀ e < d.val, s.cls e = 1 → s.dio.queue.find? (·.1 == e) = none)) ∧ ((s.dio.inrush.all fun x => decide (x.2 ≤ s.nextSlot)) = true) :=
  ⟨st42, 3, 5, by decide +kernel⟩

theorem test_aliveRefreshMissed : ∃ (s : State),
    (s.up = true) :=
  ⟨st43, by decide +kernel⟩

theorem test_aliveOverloads : ∃ (s : State) (t0 : Nat),
    (s.up = true) ∧ (s.rd DIO_ALIVE.STATE = 1) ∧ (s.aliveCause = 0) :=
  ⟨st44, 5, by decide +kernel⟩

theorem test_aliveRetries : ∃ (s : State) (t0 : Nat),
    (s.up = true) ∧ (s.dio.alOvl = some t0) :=
  ⟨st45, 500, by decide +kernel⟩

theorem test_towEdgeStamped : ∃ (s : State) (e : LineEdge),
    (s.up = true) ∧ (s.rd DIO_PAIR_CFG.TOW_EN = 1) ∧ (s.pairOn = true) ∧ (e.lvl ≠ s.dio.towIn) ∧ (4000 ≤ e.held) :=
  ⟨st46, { t := 5, lvl := true, held := 4000 }, by decide +kernel⟩

theorem test_towEdgeStamped_c1 : ∃ (s : State) (e : LineEdge),
    (s.up = true) ∧ (s.rd DIO_PAIR_CFG.TOW_EN = 1) ∧ (s.pairOn = true) ∧ (e.lvl ≠ s.dio.towIn) ∧ (4000 ≤ e.held) ∧ (s.paired = false) :=
  ⟨st46, { t := 5, lvl := true, held := 4000 }, by decide +kernel⟩

theorem test_towEdgeIgnored : ∃ (s : State) (e : LineEdge),
    (s.up = true) ∧ (e.held < 4000 ∨ e.lvl = s.dio.towIn ∨ s.rd DIO_PAIR_CFG.TOW_EN = 0 ∨ s.pairOn = false) :=
  ⟨st43, { t := 5000000, lvl := true, held := 300 }, by decide +kernel⟩

theorem test_claimFrameSent : ∃ (s : State) (t0 : Nat) (u : Nat) (bad : Bool),
    (s.up = true) ∧ (s.rd DIO_PAIR_CFG.CLAIM_EN = 1) ∧ (s.pairOn = true) ∧ (s.dio.reset = false) ∧ (¬ s.claimAnswered) ∧ (u = max (if s.dio.claim.own % 2 = 1 ∨ s.inStep = true then s.grid.now else max s.grid.now t0) s.dio.claim.next) :=
  ⟨st47, 5, max (max st47.grid.now 5) st47.dio.claim.next, true, by unfold State.claimAnswered; decide +kernel⟩

theorem test_claimFrameSent_c1 : ∃ (s : State) (t0 : Nat) (u : Nat) (bad : Bool),
    (s.up = true) ∧ (s.rd DIO_PAIR_CFG.CLAIM_EN = 1) ∧ (s.pairOn = true) ∧ (s.dio.reset = false) ∧ (¬ s.claimAnswered) ∧ (u = max (if s.dio.claim.own % 2 = 1 ∨ s.inStep = true then s.grid.now else max s.grid.now t0) s.dio.claim.next) ∧ (bad = true) ∧ (2 ≤ s.dio.claim.bad) :=
  ⟨st48, 5, max (max st48.grid.now 5) st48.dio.claim.next, true, by unfold State.claimAnswered; decide +kernel⟩

theorem test_claimFrameAwaits : ∃ (s : State) (t0 : Nat) (bad : Bool),
    (s.claimAnswered) :=
  ⟨st49, 5, true, by unfold State.claimAnswered; decide +kernel⟩

theorem test_claimFramesInStep : ∃ (s : State) (t0 : Nat) (bits : BitVec 16) (w : Nat) (a : Bool),
    (s.up = true) ∧ (s.rd DIO_PAIR_CFG.CLAIM_EN = 1) ∧ (s.pairOn = true) ∧ (s.dio.reset = false) ∧ (w < 256) ∧ ((bitsLsb 16 bits.toNat).reverse = claimFrame w a) :=
  ⟨st50, 5, BitVec.ofNat 16 (ofBits (claimFrame 77 true).reverse), 77, true, by decide +kernel⟩

theorem test_claimFramesInStep_c1 : ∃ (s : State) (t0 : Nat) (bits : BitVec 16) (w : Nat) (a : Bool),
    (s.up = true) ∧ (s.rd DIO_PAIR_CFG.CLAIM_EN = 1) ∧ (s.pairOn = true) ∧ (s.dio.reset = false) ∧ (w < 256) ∧ ((bitsLsb 16 bits.toNat).reverse = claimFrame w a) ∧ (w % 2 = 1) :=
  ⟨st50, 5, BitVec.ofNat 16 (ofBits (claimFrame 77 true).reverse), 77, true, by decide +kernel⟩

theorem test_claimFramesInStep_c2 : ∃ (s : State) (t0 : Nat) (bits : BitVec 16) (w : Nat) (a : Bool),
    (s.up = true) ∧ (s.rd DIO_PAIR_CFG.CLAIM_EN = 1) ∧ (s.pairOn = true) ∧ (s.dio.reset = false) ∧ (w < 256) ∧ ((bitsLsb 16 bits.toNat).reverse = claimFrame w a) ∧ (w % 2 = 0) :=
  ⟨st50, 5, BitVec.ofNat 16 (ofBits (claimFrame 200 true).reverse), 200, true, by decide +kernel⟩

theorem test_claimFrameTaken : ∃ (s : State) (t0 : Nat) (bits : BitVec 16) (w : Nat) (a : Bool),
    (s.up = true) ∧ (s.rd DIO_PAIR_CFG.CLAIM_EN = 1) ∧ (s.pairOn = true) ∧ (s.dio.reset = false) ∧ (w < 256) ∧ ((bitsLsb 16 bits.toNat).reverse = claimFrame w a) :=
  ⟨st51, 5, BitVec.ofNat 16 (ofBits (claimFrame 77 true).reverse), 77, true, by decide +kernel⟩

theorem test_claimFrameTaken_c1 : ∃ (s : State) (t0 : Nat) (bits : BitVec 16) (w : Nat) (a : Bool),
    (s.up = true) ∧ (s.rd DIO_PAIR_CFG.CLAIM_EN = 1) ∧ (s.pairOn = true) ∧ (s.dio.reset = false) ∧ (w < 256) ∧ ((bitsLsb 16 bits.toNat).reverse = claimFrame w a) ∧ (s.paired = false) :=
  ⟨st51, 5, BitVec.ofNat 16 (ofBits (claimFrame 77 true).reverse), 77, true, by decide +kernel⟩

theorem test_claimPartnerGone : ∃ (s : State) (t0 : Nat),
    (s.up = true) ∧ (s.dio.claim.pAt = some t0) ∧ (s.dio.claim.seen = true) :=
  ⟨st52, 500, by decide +kernel⟩

theorem test_claimLineFails : ∃ (s : State),
    (s.up = true) ∧ (s.rd DIO_CLAIM_STATUS.LINE_OK = 1) ∧ (3 ≤ s.dio.claim.bad) :=
  ⟨st53, by decide +kernel⟩

theorem test_claimLineSilent : ∃ (s : State) (t0 : Nat) (e : Nat),
    (s.up = true) ∧ (s.rd DIO_CLAIM_STATUS.LINE_OK = 1) ∧ (s.dio.claim.bad < 3) ∧ (s.dio.claim.seen = false) ∧ (s.dio.claim.pAt = some t0) ∧ (s.dio.towAt = some e) ∧ (max s.grid.now (t0 + 32000) ≤ e + 375000) :=
  ⟨st54, 500, 100000000, by decide +kernel⟩

theorem test_claimLineRestored : ∃ (s : State),
    (s.up = true) ∧ (s.rd DIO_CLAIM_STATUS.LINE_OK = 0) ∧ (8 ≤ s.dio.claim.run) :=
  ⟨st55, by decide +kernel⟩

theorem test_helloIsSent : ∃ (s : State),
    (s.up = true) ∧ (s.paired = true) ∧ (s.pair.hello = false) :=
  ⟨st56, by decide +kernel⟩

theorem test_helloStops : ∃ (s : State),
    (s.up = true) ∧ (s.pair.hello = true) :=
  ⟨st57, by decide +kernel⟩

theorem test_helloIsTaken : ∃ (s : State) (t0 : Nat) (f : LkFrame) (crc : BitVec 32) (h : Hello),
    (s.up = true) ∧ (s.paired = true) ∧ (s.Hears 1 f crc) ∧ (f.pay.length = 22) ∧ (h = Hello.ofBytes f.pay) :=
  ⟨st58, 5, ({ ver := 2, seq := 5, pay := ({ vers := 3, rank := 1, dig := 0x123456789AB } : Hello).bytes } : LkFrame), BitVec.ofNat 32 (crc32c (({ ver := 2, seq := 5, pay := ({ vers := 3, rank := 1, dig := 0x123456789AB } : Hello).bytes } : LkFrame).bytes 1)), Hello.ofBytes ({ vers := 3, rank := 1, dig := 0x123456789AB } : Hello).bytes, by unfold State.Hears; decide +kernel⟩

theorem test_helloIsTaken_c1 : ∃ (s : State) (t0 : Nat) (f : LkFrame) (crc : BitVec 32) (h : Hello),
    (s.up = true) ∧ (s.paired = true) ∧ (s.Hears 1 f crc) ∧ (f.pay.length = 22) ∧ (h = Hello.ofBytes f.pay) ∧ (s.role = 1) :=
  ⟨st59, 5, ({ ver := 2, seq := 5, pay := ({ vers := 3, rank := 1, dig := 0x123456789AB } : Hello).bytes } : LkFrame), BitVec.ofNat 32 (crc32c (({ ver := 2, seq := 5, pay := ({ vers := 3, rank := 1, dig := 0x123456789AB } : Hello).bytes } : LkFrame).bytes 1)), Hello.ofBytes ({ vers := 3, rank := 1, dig := 0x123456789AB } : Hello).bytes, by unfold State.Hears; decide +kernel⟩

theorem test_heartbeatIsSent : ∃ (s : State),
    (s.up = true) ∧ (s.paired = true) ∧ ((s.atTime s.nextHeartbeat).silent = false) :=
  ⟨st60, by decide +kernel⟩

theorem test_heartbeatWithheld : ∃ (s : State),
    (s.up = true) ∧ (s.paired = true) ∧ ((s.atTime s.nextHeartbeat).silent = true) :=
  ⟨st61, by decide +kernel⟩

theorem test_heartbeatIsTaken : ∃ (s : State) (t0 : Nat) (f : LkFrame) (crc : BitVec 32) (h : Heartbeat),
    (s.up = true) ∧ (s.role = 2 ∨ s.role = 4) ∧ (s.rd PAIR_STATUS.LINK = 1) ∧ (s.pair.ver = 2) ∧ (s.Hears 2 f crc) ∧ (f.pay.length = 64) ∧ (h = Heartbeat.ofBytes f.pay) :=
  ⟨st62, 5, ({ ver := 2, seq := 5, pay := ({ role := 4, rank := 1, ready := true, assert_ := true, ho := false, word := 77, nr := 0, s := 900000, e := 800000, w := 199800, tickN := 3, tickAt := 4, snap := 1, dig := 5000000000, inDig := 6, proof := 1, pSeen := 30, code := 0 } : Heartbeat).bytes } : LkFrame), BitVec.ofNat 32 (crc32c (({ ver := 2, seq := 5, pay := ({ role := 4, rank := 1, ready := true, assert_ := true, ho := false, word := 77, nr := 0, s := 900000, e := 800000, w := 199800, tickN := 3, tickAt := 4, snap := 1, dig := 5000000000, inDig := 6, proof := 1, pSeen := 30, code := 0 } : Heartbeat).bytes } : LkFrame).bytes 2)), Heartbeat.ofBytes ({ role := 4, rank := 1, ready := true, assert_ := true, ho := false, word := 77, nr := 0, s := 900000, e := 800000, w := 199800, tickN := 3, tickAt := 4, snap := 1, dig := 5000000000, inDig := 6, proof := 1, pSeen := 30, code := 0 } : Heartbeat).bytes, by unfold State.Hears; decide +kernel⟩

theorem test_joinsBehindActive : ∃ (s : State) (t0 : Nat) (f : LkFrame) (crc : BitVec 32) (h : Heartbeat),
    (s.up = true) ∧ (s.role = 1) ∧ (s.rd PAIR_STATUS.LINK = 1) ∧ (s.pair.ver = 2) ∧ (s.Hears 2 f crc) ∧ (f.pay.length = 64) ∧ (h = Heartbeat.ofBytes f.pay) ∧ (h.role = 4) ∧ (h.rank ≠ s.rank) :=
  ⟨st63, 5, ({ ver := 2, seq := 5, pay := ({ role := 4, rank := 1, ready := true, assert_ := true, ho := false, word := 77, nr := 0, s := 900000, e := 800000, w := 199800, tickN := 3, tickAt := 4, snap := 1, dig := 5000000000, inDig := 6, proof := 1, pSeen := 30, code := 0 } : Heartbeat).bytes } : LkFrame), BitVec.ofNat 32 (crc32c (({ ver := 2, seq := 5, pay := ({ role := 4, rank := 1, ready := true, assert_ := true, ho := false, word := 77, nr := 0, s := 900000, e := 800000, w := 199800, tickN := 3, tickAt := 4, snap := 1, dig := 5000000000, inDig := 6, proof := 1, pSeen := 30, code := 0 } : Heartbeat).bytes } : LkFrame).bytes 2)), Heartbeat.ofBytes ({ role := 4, rank := 1, ready := true, assert_ := true, ho := false, word := 77, nr := 0, s := 900000, e := 800000, w := 199800, tickN := 3, tickAt := 4, snap := 1, dig := 5000000000, inDig := 6, proof := 1, pSeen := 30, code := 0 } : Heartbeat).bytes, by unfold State.Hears; decide +kernel⟩

theorem test_rankConflictHolds : ∃ (s : State) (t0 : Nat) (f : LkFrame) (crc : BitVec 32) (h : Heartbeat),
    (s.up = true) ∧ (s.role = 1) ∧ (s.rd PAIR_STATUS.LINK = 1) ∧ (s.pair.ver = 2) ∧ (s.Hears 2 f crc) ∧ (f.pay.length = 64) ∧ (h = Heartbeat.ofBytes f.pay) ∧ (h.rank = s.rank) :=
  ⟨st63, 5, ({ ver := 2, seq := 5, pay := ({ role := 4, rank := 0, ready := true, assert_ := true, ho := false, word := 77, nr := 0, s := 900000, e := 800000, w := 199800, tickN := 3, tickAt := 4, snap := 1, dig := 5000000000, inDig := 6, proof := 1, pSeen := 30, code := 0 } : Heartbeat).bytes } : LkFrame), BitVec.ofNat 32 (crc32c (({ ver := 2, seq := 5, pay := ({ role := 4, rank := 0, ready := true, assert_ := true, ho := false, word := 77, nr := 0, s := 900000, e := 800000, w := 199800, tickN := 3, tickAt := 4, snap := 1, dig := 5000000000, inDig := 6, proof := 1, pSeen := 30, code := 0 } : Heartbeat).bytes } : LkFrame).bytes 2)), Heartbeat.ofBytes ({ role := 4, rank := 0, ready := true, assert_ := true, ho := false, word := 77, nr := 0, s := 900000, e := 800000, w := 199800, tickN := 3, tickAt := 4, snap := 1, dig := 5000000000, inDig := 6, proof := 1, pSeen := 30, code := 0 } : Heartbeat).bytes, by unfold State.Hears; decide +kernel⟩

theorem test_missCounts : ∃ (s : State) (tow : Bool) (t0 : Nat),
    (s.up = true) ∧ (s.paired = true) ∧ ((s.path tow).at' = some t0) ∧ ((s.path tow).miss ≠ 3) :=
  ⟨st64, true, 500, by decide +kernel⟩

theorem test_missAlarms : ∃ (s : State) (tow : Bool) (t0 : Nat),
    (s.up = true) ∧ (s.paired = true) ∧ ((s.path tow).at' = some t0) ∧ ((s.path tow).miss = 3) ∧ ((s.path (!tow)).miss < 4) :=
  ⟨st65, true, 500, by decide +kernel⟩

theorem test_missTakesOver : ∃ (s : State) (tow : Bool) (t0 : Nat),
    (s.up = true) ∧ (s.role = 2) ∧ ((s.path tow).at' = some t0) ∧ ((s.path tow).miss = 3) ∧ (4 ≤ (s.path (!tow)).miss) ∧ (s.rd PAIR_STATUS.DETECT = 1) :=
  ⟨st66, false, 500, by decide +kernel⟩

theorem test_missClaimsAgain : ∃ (s : State) (tow : Bool) (t0 : Nat),
    (s.up = true) ∧ (s.role = 4) ∧ ((s.path tow).at' = some t0) ∧ ((s.path tow).miss = 3) ∧ (4 ≤ (s.path (!tow)).miss) ∧ (s.rd PAIR_STATUS.DETECT = 1) ∧ (s.writesHeld = false) :=
  ⟨st67, false, 500, by decide +kernel⟩

theorem test_snapshotTaken : ∃ (s : State) (n : Nat) (r : TickRec),
    (s.up = true) ∧ (s.role = 4) ∧ (s.runBays ≠ []) ∧ (s.doneTick = some n) ∧ (s.pair.doneN = n) ∧ (s.tickRec n = some r) ∧ (s.pair.snapAt < s.pair.doneAt / 5000000) :=
  ⟨st68, 7, {n := 7, t := 980000 * 2^24, per := 62500*2^24, freq := 50000000}, by decide +kernel⟩

theorem test_snapshotTaken_c1 : ∃ (s : State) (n : Nat) (r : TickRec),
    (s.up = true) ∧ (s.role = 4) ∧ (s.runBays ≠ []) ∧ (s.doneTick = some n) ∧ (s.pair.doneN = n) ∧ (s.tickRec n = some r) ∧ (s.pair.snapAt < s.pair.doneAt / 5000000) ∧ (s.pair.sending = none) :=
  ⟨st69, 7, {n := 7, t := 980000 * 2^24, per := 62500*2^24, freq := 50000000}, by decide +kernel⟩

theorem test_snapDataJoins : ∃ (s : State) (t0 : Nat) (ver : Nat) (seq : Nat) (q : Nat) (off : Nat) (pay : List Byte) (crc : BitVec 32),
    (s.up = true) ∧ (s.role = 2) ∧ (s.rd PAIR_STATUS.LINK = 1) ∧ (s.Hears 3 { ver := ver, seq := seq, pay := pay } crc) ∧ (8 ≤ pay.length) ∧ (q = leAt pay 0 4) ∧ (off = leAt pay 4 4) :=
  ⟨st70, 5, 2, 5, 3, 8, (leBytes 4 3 ++ leBytes 4 8 ++ [1,2,3,4]), BitVec.ofNat 32 (crc32c (({ ver := 2, seq := 5, pay := (leBytes 4 3 ++ leBytes 4 8 ++ [1,2,3,4]) } : LkFrame).bytes 3)), by unfold State.Hears; decide +kernel⟩

theorem test_snapDataJoins_c1 : ∃ (s : State) (t0 : Nat) (ver : Nat) (seq : Nat) (q : Nat) (off : Nat) (pay : List Byte) (crc : BitVec 32),
    (s.up = true) ∧ (s.role = 2) ∧ (s.rd PAIR_STATUS.LINK = 1) ∧ (s.Hears 3 { ver := ver, seq := seq, pay := pay } crc) ∧ (8 ≤ pay.length) ∧ (q = leAt pay 0 4) ∧ (off = leAt pay 4 4) ∧ (s.pair.asm = none) :=
  ⟨st71, 5, 2, 5, 3, 8, (leBytes 4 3 ++ leBytes 4 8 ++ [1,2,3,4]), BitVec.ofNat 32 (crc32c (({ ver := 2, seq := 5, pay := (leBytes 4 3 ++ leBytes 4 8 ++ [1,2,3,4]) } : LkFrame).bytes 3)), by unfold State.Hears; decide +kernel⟩

theorem test_snapEnds : ∃ (s : State) (t0 : Nat) (h : LkHead) (pay : List Byte) (crc : BitVec 32) (x : Snap),
    (s.up = true) ∧ (s.role = 2) ∧ (s.rd PAIR_STATUS.LINK = 1) ∧ (s.pair.ho = none) ∧ (s.Hears 4 { toLkHead := h, pay := pay } crc) ∧ (pay.length = 12) :=
  ⟨st72, 5, { ver := 2, seq := 5 }, (leBytes 4 3 ++ leBytes 4 7 ++ leBytes 4 9), BitVec.ofNat 32 (crc32c (({ ver := 2, seq := 5, pay := (leBytes 4 3 ++ leBytes 4 7 ++ leBytes 4 9) } : LkFrame).bytes 4)), ({seq := 3, n := 7, d := 980000, ver := 2, dig := 0} : Snap), by unfold State.Hears; decide +kernel⟩

theorem test_snapEnds_c2 : ∃ (s : State) (t0 : Nat) (h : LkHead) (pay : List Byte) (crc : BitVec 32) (x : Snap),
    (s.up = true) ∧ (s.role = 2) ∧ (s.rd PAIR_STATUS.LINK = 1) ∧ (s.pair.ho = none) ∧ (s.Hears 4 { toLkHead := h, pay := pay } crc) ∧ (pay.length = 12) ∧ ((s.atTime t0).snapGood x pay = false) :=
  ⟨st73, 5, { ver := 2, seq := 5 }, (leBytes 4 3 ++ leBytes 4 7 ++ leBytes 4 9), BitVec.ofNat 32 (crc32c (({ ver := 2, seq := 5, pay := (leBytes 4 3 ++ leBytes 4 7 ++ leBytes 4 9) } : LkFrame).bytes 4)), ({seq := 3, n := 7, d := 980000, ver := 2, dig := 0} : Snap), by unfold State.Hears; decide +kernel⟩

theorem test_failbackRequested : ∃ (s : State) (t0 : Nat) (t1 : Nat),
    (s.up = true) ∧ (s.role = 2) ∧ (s.rank = 1) ∧ (s.rd PAIR_CFG.FAILBACK = 1) ∧ (s.rd PAIR_STATUS.HO = 0) ∧ (s.pair.readyAt = some t0) ∧ (s.pair.passedAt = some t1) ∧ (s.pair.ver = 2) :=
  ⟨st74, 500, 200, by decide +kernel⟩

theorem test_handoverAborts : ∃ (s : State) (k : Nat) (t0 : Nat),
    (s.up = true) ∧ (s.role = 2) ∧ (s.pair.ho = some (k, t0)) ∧ (s.pair.ver = 2) :=
  ⟨st75, 1, 500, by decide +kernel⟩

theorem test_replayAdvances : ∃ (s : State) (p : Replay) (r : TickRec),
    (s.up = true) ∧ (s.gridCatch.detectors.pair.replay = some p) ∧ (s.gridCatch.detectors.replayDue = some r) ∧ (s.gridCatch.detectors.divergent r = false ∨ p.src = 0) :=
  ⟨st76, { m := 6, dt0 := none, src := 0, count := 4 }, {n := 8, t := 990000 * 2^24, per := 62500*2^24, freq := 50000000}, by decide +kernel⟩

theorem test_replayCatchesUp : ∃ (s : State) (t0 : Nat) (p : Replay),
    (s.up = true) ∧ (s.role = 3) ∧ (s.pair.replay = some p) ∧ (p.src = 0) ∧ (s.replayDue = none) ∧ (s.writesHeld = false) :=
  ⟨st77, 5, { m := 6, dt0 := none, src := 0, count := 4 }, by decide +kernel⟩

theorem test_joiningTimesOut : ∃ (s : State),
    (s.up = true) ∧ (s.role = 1) ∧ (s.rankConflict = false) ∧ (s.writesHeld = false) :=
  ⟨st59, by decide +kernel⟩

theorem test_lumkoGoesDown : ∃ (s : State) (e : LaneEdge),
    (s.up = true) ∧ (s.paired = true) ∧ (s.pair.locks.getLsbD e.lane = true) :=
  ⟨st78, { t := 5, lane := 1 }, by decide +kernel⟩

theorem test_lumkoComesUp : ∃ (s : State) (t0 : Nat),
    (s.up = true) ∧ (s.paired = true) ∧ (s.pair.lock = false) :=
  ⟨st79, 5, by decide +kernel⟩

theorem test_trackerTracks : ∃ (s : State) (u : State) (v : State) (r : TickRec),
    (s.up = true) ∧ (u = s.deliver) ∧ (u.decides r) ∧ (v = u.asAt r.n) ∧ ((trackPick v r).1 ≠ 0) ∧ (u.tickRec? r.n = some r) ∧ (s.grid.fixed = false) :=
  ⟨st80, st80.deliver, st80.deliver.asAt 160, { n := 160, t := 990000 * 2 ^ 24, per := 62500 * 2 ^ 24, freq := 50000000 }, by unfold State.decides; decide +kernel⟩

theorem test_lateDecisionWaits : ∃ (s : State) (u : State) (v : State) (r : TickRec),
    (s.up = true) ∧ (u = s.deliver) ∧ (u.decides r) ∧ (v = u.asAt r.n) ∧ ((trackPick v r).1 ≠ 0) ∧ (s.grid.fixed = true) :=
  ⟨st81, st81.deliver, st81.deliver.asAt 160, { n := 160, t := 990000 * 2 ^ 24, per := 62500 * 2 ^ 24, freq := 50000000 }, by unfold State.decides; decide +kernel⟩

theorem test_trackerHolds : ∃ (s : State) (u : State) (v : State) (r : TickRec),
    (s.up = true) ∧ (u = s.deliver) ∧ (u.decides r) ∧ (v = u.asAt r.n) ∧ ((trackPick v r).1 = 0) ∧ (u.tickRec? r.n = some r) ∧ (s.grid.fixed = false) ∧ ((s.rd GRID_STATUS.TRK_STATE = 0 ∨ s.rd GRID_STATUS.TRK_STATE = 1 ∨ (s.rd GRID_STATUS.TRK_STATE = 2 ∧ (v.rd GRID_TRK_HOLDMAX.VALUE = 0 ∨ s.grid.holdCyc + 1 < v.rd GRID_TRK_HOLDMAX.VALUE)))) :=
  ⟨st82, st82.deliver, st82.deliver.asAt 160, { n := 160, t := 990000 * 2 ^ 24, per := 62500 * 2 ^ 24, freq := 50000000 }, by unfold State.decides; decide +kernel⟩

theorem test_trackerHolds_c1 : ∃ (s : State) (u : State) (v : State) (r : TickRec),
    (s.up = true) ∧ (u = s.deliver) ∧ (u.decides r) ∧ (v = u.asAt r.n) ∧ ((trackPick v r).1 = 0) ∧ (u.tickRec? r.n = some r) ∧ (s.grid.fixed = false) ∧ ((s.rd GRID_STATUS.TRK_STATE = 0 ∨ s.rd GRID_STATUS.TRK_STATE = 1 ∨ (s.rd GRID_STATUS.TRK_STATE = 2 ∧ (v.rd GRID_TRK_HOLDMAX.VALUE = 0 ∨ s.grid.holdCyc + 1 < v.rd GRID_TRK_HOLDMAX.VALUE)))) ∧ (s.rd GRID_STATUS.TRK_STATE = 0) :=
  ⟨st83, st83.deliver, st83.deliver.asAt 160, { n := 160, t := 990000 * 2 ^ 24, per := 62500 * 2 ^ 24, freq := 50000000 }, by unfold State.decides; decide +kernel⟩

theorem test_trackerHolds_c2 : ∃ (s : State) (u : State) (v : State) (r : TickRec),
    (s.up = true) ∧ (u = s.deliver) ∧ (u.decides r) ∧ (v = u.asAt r.n) ∧ ((trackPick v r).1 = 0) ∧ (u.tickRec? r.n = some r) ∧ (s.grid.fixed = false) ∧ ((s.rd GRID_STATUS.TRK_STATE = 0 ∨ s.rd GRID_STATUS.TRK_STATE = 1 ∨ (s.rd GRID_STATUS.TRK_STATE = 2 ∧ (v.rd GRID_TRK_HOLDMAX.VALUE = 0 ∨ s.grid.holdCyc + 1 < v.rd GRID_TRK_HOLDMAX.VALUE)))) ∧ (s.rd GRID_STATUS.TRK_STATE = 1) :=
  ⟨st82, st82.deliver, st82.deliver.asAt 160, { n := 160, t := 990000 * 2 ^ 24, per := 62500 * 2 ^ 24, freq := 50000000 }, by unfold State.decides; decide +kernel⟩

theorem test_trackerHolds_c3 : ∃ (s : State) (u : State) (v : State) (r : TickRec),
    (s.up = true) ∧ (u = s.deliver) ∧ (u.decides r) ∧ (v = u.asAt r.n) ∧ ((trackPick v r).1 = 0) ∧ (u.tickRec? r.n = some r) ∧ (s.grid.fixed = false) ∧ ((s.rd GRID_STATUS.TRK_STATE = 0 ∨ s.rd GRID_STATUS.TRK_STATE = 1 ∨ (s.rd GRID_STATUS.TRK_STATE = 2 ∧ (v.rd GRID_TRK_HOLDMAX.VALUE = 0 ∨ s.grid.holdCyc + 1 < v.rd GRID_TRK_HOLDMAX.VALUE)))) ∧ (s.rd GRID_STATUS.TRK_STATE = 2) :=
  ⟨st84, st84.deliver, st84.deliver.asAt 160, { n := 160, t := 990000 * 2 ^ 24, per := 62500 * 2 ^ 24, freq := 50000000 }, by unfold State.decides; decide +kernel⟩

theorem test_trackerRamps : ∃ (s : State) (v : State) (r : TickRec),
    (s.up = true) ∧ (s.decides r) ∧ (v = s.asAt r.n) ∧ ((trackPick v r).1 = 0) ∧ (s.tickRec? r.n = some r) ∧ (s.grid.fixed = false) ∧ (s.rd GRID_STATUS.TRK_STATE = 2) ∧ (v.rd GRID_TRK_HOLDMAX.VALUE ≠ 0) ∧ (v.rd GRID_TRK_HOLDMAX.VALUE ≤ s.grid.holdCyc + 1) :=
  ⟨st85, st85.asAt 160, { n := 160, t := 990000 * 2 ^ 24, per := 62500 * 2 ^ 24, freq := 50000000 }, by unfold State.decides; decide +kernel⟩

theorem test_boundIsWritten : ∃ (s : State) (k : Nat),
    (s.up = true) ∧ (k = s.grid.now / 2 ^ 28 + 1) :=
  ⟨st86, st86.grid.now / 2^28 + 1, by decide +kernel⟩

theorem test_boundIsWritten_c1 : ∃ (s : State) (k : Nat),
    (s.up = true) ∧ (k = s.grid.now / 2 ^ 28 + 1) ∧ (s.grid.boundV < (k + 2) * 2 ^ 28) :=
  ⟨st86, st86.grid.now / 2^28 + 1, by decide +kernel⟩

theorem test_boundIsWritten_c2 : ∃ (s : State) (k : Nat),
    (s.up = true) ∧ (k = s.grid.now / 2 ^ 28 + 1) ∧ ((k + 2) * 2 ^ 28 ≤ s.grid.boundV) :=
  ⟨st87, st87.grid.now / 2^28 + 1, by decide +kernel⟩

theorem test_groupCalibrationBegins : ∃ (s : State) (r : CalRun) (g : Nat) (t0 : Nat) (rest : List Nat),
    (s.up = true) ∧ (s.afe.cal = some r) ∧ (r.cur = none) ∧ (r.groups = g :: rest) ∧ (g < 4) ∧ (t0 = (if r.pass ≠ 0 ∨ r.fail ≠ 0 then r.ready else s.firstTickAfter r.ready)) :=
  ⟨st88, { groups := [2,3], aux := 3, auxStart := none, auxRun := 0, cur := none, ready := 3000000, pass := st88.grid.now % 2, fail := 0, badVafe := false }, 2, (if st88.grid.now % 2 ≠ 0 then 3000000 else st88.firstTickAfter 3000000), [3], by decide +kernel⟩

theorem test_groupCalibrationPasses : ∃ (s : State) (r : CalRun) (g : Nat) (t0 : Nat) (ms : List CalMeas),
    (s.up = true) ∧ (s.afe.cal = some r) ∧ (r.cur = some (g, t0)) ∧ (g < 4) ∧ (r.badVafe = false) ∧ ((∀ i < 16, calBad (ms.getD i {}) = false)) :=
  ⟨st89, { groups := [3], aux := 3, auxStart := none, auxRun := 3, cur := some (2,500), ready := 3000000, pass := st89.grid.now % 2, fail := 0, badVafe := false }, 2, 500, [{ofsA := -77, spanA := 5240000, fdly := -20, ofsB32 := 33, ofsB1 := -5},{ofsA := 10486}], by decide +kernel⟩

theorem test_groupCalibrationPasses_c1 : ∃ (s : State) (r : CalRun) (g : Nat) (t0 : Nat) (ms : List CalMeas),
    (s.up = true) ∧ (s.afe.cal = some r) ∧ (r.cur = some (g, t0)) ∧ (g < 4) ∧ (r.badVafe = false) ∧ ((∀ i < 16, calBad (ms.getD i {}) = false)) ∧ (r.groups ≠ [] ∨ r.auxRun ≠ 0) :=
  ⟨st89, { groups := [3], aux := 3, auxStart := none, auxRun := 3, cur := some (2,500), ready := 3000000, pass := st89.grid.now % 2, fail := 0, badVafe := false }, 2, 500, [{ofsA := -77, spanA := 5240000, fdly := -20, ofsB32 := 33, ofsB1 := -5},{ofsA := 10486}], by decide +kernel⟩

theorem test_groupCalibrationPasses_c2 : ∃ (s : State) (r : CalRun) (g : Nat) (t0 : Nat) (ms : List CalMeas),
    (s.up = true) ∧ (s.afe.cal = some r) ∧ (r.cur = some (g, t0)) ∧ (g < 4) ∧ (r.badVafe = false) ∧ ((∀ i < 16, calBad (ms.getD i {}) = false)) ∧ (r.groups = []) ∧ (r.auxRun = 0) :=
  ⟨st90, { ({ groups := [3], aux := 3, auxStart := none, auxRun := 3, cur := some (2,500), ready := 3000000, pass := st90.grid.now % 2, fail := 0, badVafe := false } : CalRun) with groups := [], auxRun := 0 }, 2, 500, [{ofsA := -77, spanA := 5240000, fdly := -20, ofsB32 := 33, ofsB1 := -5},{ofsA := 10486}], by decide +kernel⟩

theorem test_groupCalibrationFails : ∃ (s : State) (r : CalRun) (g : Nat) (t0 : Nat) (k : Nat) (ms : List CalMeas),
    (s.up = true) ∧ (s.afe.cal = some r) ∧ (r.cur = some (g, t0)) ∧ (g < 4) ∧ (k < 16) ∧ (r.badVafe = true ∨ calBad (ms.getD k {}) = true) :=
  ⟨st89, { groups := [3], aux := 3, auxStart := none, auxRun := 3, cur := some (2,500), ready := 3000000, pass := st89.grid.now % 2, fail := 0, badVafe := false }, 2, 500, 1, [{ofsA := -77, spanA := 5240000, fdly := -20},{ofsA := 10487}], by decide +kernel⟩

theorem test_groupCalibrationFails_c1 : ∃ (s : State) (r : CalRun) (g : Nat) (t0 : Nat) (k : Nat) (ms : List CalMeas),
    (s.up = true) ∧ (s.afe.cal = some r) ∧ (r.cur = some (g, t0)) ∧ (g < 4) ∧ (k < 16) ∧ (r.badVafe = true ∨ calBad (ms.getD k {}) = true) ∧ (r.groups ≠ []) :=
  ⟨st89, { groups := [3], aux := 3, auxStart := none, auxRun := 3, cur := some (2,500), ready := 3000000, pass := st89.grid.now % 2, fail := 0, badVafe := false }, 2, 500, 1, [{ofsA := -77, spanA := 5240000, fdly := -20},{ofsA := 10487}], by decide +kernel⟩

theorem test_converterCalibrated : ∃ (s : State) (r : CalRun) (m : Fin 2) (x : AuxCalMeas) (t0 : Nat),
    (s.up = true) ∧ (s.afe.cal = some r) ∧ (r.auxStart = some t0) ∧ (r.auxRun.testBit m = true) :=
  ⟨st91, { groups := [3], aux := 3, auxStart := some 700, auxRun := 3, cur := none, ready := 3000000, pass := st91.grid.now % 2, fail := 0, badVafe := false }, 1, {ofs := -9, gain := 4190000}, 700, by decide +kernel⟩

theorem test_converterCalibrated_c1 : ∃ (s : State) (r : CalRun) (m : Fin 2) (x : AuxCalMeas) (t0 : Nat),
    (s.up = true) ∧ (s.afe.cal = some r) ∧ (r.auxStart = some t0) ∧ (r.auxRun.testBit m = true) ∧ (auxCalBad x = false) :=
  ⟨st91, { groups := [3], aux := 3, auxStart := some 700, auxRun := 3, cur := none, ready := 3000000, pass := st91.grid.now % 2, fail := 0, badVafe := false }, 1, {ofs := -9, gain := 4190000}, 700, by decide +kernel⟩

theorem test_converterCalibrated_c2 : ∃ (s : State) (r : CalRun) (m : Fin 2) (x : AuxCalMeas) (t0 : Nat),
    (s.up = true) ∧ (s.afe.cal = some r) ∧ (r.auxStart = some t0) ∧ (r.auxRun.testBit m = true) ∧ (auxCalBad x = true) :=
  ⟨st91, { groups := [3], aux := 3, auxStart := some 700, auxRun := 3, cur := none, ready := 3000000, pass := st91.grid.now % 2, fail := 0, badVafe := false }, 0, {ofs := -109, gain := 4190000}, 700, by decide +kernel⟩

theorem test_diagnosisEnds : ∃ (s : State) (c : Nat) (t0 : Nat) (m : DiagMeas),
    (s.up = true) ∧ (s.afe.diag = some (c, t0)) ∧ (c < 64) :=
  ⟨st92, 7, 500, {gainA25 := -100, gainA1 := 300}, by decide +kernel⟩

theorem test_diagnosisEnds_c1 : ∃ (s : State) (c : Nat) (t0 : Nat) (m : DiagMeas),
    (s.up = true) ∧ (s.afe.diag = some (c, t0)) ∧ (c < 64) ∧ (s.rd AFE_CH_STATUS.FORCED_WIDE c = 1) ∧ (diagBadA m = false) ∧ (diagBadB m = false) :=
  ⟨st93, 7, 500, {}, by decide +kernel⟩

theorem test_diagnosisEnds_c2 : ∃ (s : State) (c : Nat) (t0 : Nat) (m : DiagMeas),
    (s.up = true) ∧ (s.afe.diag = some (c, t0)) ∧ (c < 64) ∧ (s.rd AFE_CH_STATUS.FORCED_WIDE c = 1) ∧ (diagBadA m = false) ∧ (diagBadB m = true) :=
  ⟨st93, 7, 500, {ofsB32 := 21}, by decide +kernel⟩

theorem test_skewCalibrationEnds : ∃ (s : State) (m : Nat) (t0 : Nat) (meas : List (Fin 64 × Int)),
    (s.up = true) ∧ (s.afe.skew = some (m, t0)) ∧ (s.writesHeld = false) :=
  ⟨st94, 5, 500, [(0,1234567),(2,-999999999)], by decide +kernel⟩

theorem test_validationWindowEnds : ∃ (s : State) (c : Fin 64) (x : Int × Int),
    (s.up = true) ∧ (s.rd AFE_CH_CFG.MODE c = 2) ∧ (s.plainPeriod c = true) ∧ (s.validates c = true) ∧ (99 ≤ (s.chan c).vPh) ∧ (1249 ≤ (s.chan c).win.seen) ∧ ((s.chan c).st ≠ .fine) ∧ (s.rd AFE_CH_STATUS.FORCED_WIDE c = 0) ∧ (((s.chan c).oA.step true (codeOf x.1)).2 = false) ∧ ((s.chan c).swap = none) :=
  ⟨st95, 3, (2,1), by decide +kernel⟩

theorem test_validationWindowEnds_c1 : ∃ (s : State) (c : Fin 64) (x : Int × Int),
    (s.up = true) ∧ (s.rd AFE_CH_CFG.MODE c = 2) ∧ (s.plainPeriod c = true) ∧ (s.validates c = true) ∧ (99 ≤ (s.chan c).vPh) ∧ (1249 ≤ (s.chan c).win.seen) ∧ ((s.chan c).st ≠ .fine) ∧ (s.rd AFE_CH_STATUS.FORCED_WIDE c = 0) ∧ (((s.chan c).oA.step true (codeOf x.1)).2 = false) ∧ ((s.chan c).swap = none) ∧ ((s.chan c).win.scored < 625) :=
  ⟨st96, 3, (2,1), by decide +kernel⟩

theorem test_validationWindowEnds_c2 : ∃ (s : State) (c : Fin 64) (x : Int × Int),
    (s.up = true) ∧ (s.rd AFE_CH_CFG.MODE c = 2) ∧ (s.plainPeriod c = true) ∧ (s.validates c = true) ∧ (99 ≤ (s.chan c).vPh) ∧ (1249 ≤ (s.chan c).win.seen) ∧ ((s.chan c).st ≠ .fine) ∧ (s.rd AFE_CH_STATUS.FORCED_WIDE c = 0) ∧ (((s.chan c).oA.step true (codeOf x.1)).2 = false) ∧ ((s.chan c).swap = none) ∧ (625 ≤ (s.chan c).win.scored) ∧ (winPass (s.rd AFE_VAL_CFG.ABS) (s.rd AFE_VAL_CFG.REL) (s.chan c).win.sumD (s.chan c).win.sumR (s.chan c).win.scored = true) :=
  ⟨st95, 3, (2,1), by decide +kernel⟩

theorem test_validationWindowEnds_c3 : ∃ (s : State) (c : Fin 64) (x : Int × Int),
    (s.up = true) ∧ (s.rd AFE_CH_CFG.MODE c = 2) ∧ (s.plainPeriod c = true) ∧ (s.validates c = true) ∧ (99 ≤ (s.chan c).vPh) ∧ (1249 ≤ (s.chan c).win.seen) ∧ ((s.chan c).st ≠ .fine) ∧ (s.rd AFE_CH_STATUS.FORCED_WIDE c = 0) ∧ (((s.chan c).oA.step true (codeOf x.1)).2 = false) ∧ ((s.chan c).swap = none) ∧ (625 ≤ (s.chan c).win.scored) ∧ (winPass (s.rd AFE_VAL_CFG.ABS) (s.rd AFE_VAL_CFG.REL) (s.chan c).win.sumD (s.chan c).win.sumR (s.chan c).win.scored = false) :=
  ⟨st97, 3, (2,1), by decide +kernel⟩

theorem test_twinsMismatch : ∃ (s : State) (c : Fin 64) (x : Int × Int),
    (s.up = true) ∧ (s.rd AFE_CH_CFG.MODE c = 3) ∧ (s.plainPeriod c = true) ∧ (s.validates c = true) ∧ (99 ≤ (s.chan c).vPh) ∧ (s.rd AFE_CH_STATUS.TWIN_MM c = 0) ∧ (s.rd AFE_TWIN_TOL.TOL * 2 ^ 21 < ((s.valWords c x).1 - (s.valWords c x).2).natAbs) ∧ (s.rd AFE_TWIN_TOL.CNT ≤ (s.chan c).win.instRun + 1) :=
  ⟨st98, 3, (2,1), by decide +kernel⟩

theorem test_twinWindowEnds : ∃ (s : State) (c : Fin 64) (x : Int × Int) (d : Nat) (v : Nat),
    (s.up = true) ∧ (s.rd AFE_CH_CFG.MODE c = 3) ∧ (s.plainPeriod c = true) ∧ (s.validates c = true) ∧ (99 ≤ (s.chan c).vPh) ∧ ((s.chan c).win.seen = 1249) ∧ ((s.chan c).win.failed = false) ∧ (d = ((s.valWords c x).1 - (s.valWords c x).2).natAbs) ∧ (v = (s.valWords c x).1.natAbs) ∧ (d ≤ s.rd AFE_TWIN_TOL.TOL * 2 ^ 21) ∧ (0 < s.rd AFE_TWIN_TOL.CNT) :=
  ⟨st99, 3, (2,1), ((st99.valWords 3 (2,1)).1 - (st99.valWords 3 (2,1)).2).natAbs, (st99.valWords 3 (2,1)).1.natAbs, by decide +kernel⟩

theorem test_modulatorResets : ∃ (s : State) (c : Fin 64) (x : Int × Int),
    (s.up = true) ∧ (s.rd AFE_CH_CFG.MODE c ≠ 0) ∧ (s.plainPeriod c = true) ∧ ((s.chan c).oA.rst = 0) ∧ (63 ≤ (s.chan c).oA.act) ∧ (1 ≤ (s.chan c).oA.run) ∧ (8 ≤ x.1.natAbs) ∧ (((s.chan c).oB.step (s.rd AFE_CH_CFG.MODE c == 3) (codeOf x.2)).2 = false) :=
  ⟨st100, 3, (8,1), by decide +kernel⟩

theorem test_clippingBegins : ∃ (s : State) (c : Fin 64) (x : Int × Int),
    (s.up = true) ∧ (s.rd AFE_CH_CFG.MODE c ≠ 0) ∧ (s.plainPeriod c = true) ∧ ((s.chan c).clip = false) ∧ (1 ≤ (s.chan c).oA.run) ∧ (8 ≤ x.1.natAbs) :=
  ⟨st101, 3, (8,1), by decide +kernel⟩

theorem test_syncResets : ∃ (s : State) (c : Fin 64) (x : Int × Int) (t0 : Nat),
    (s.up = true) ∧ (s.rd AFE_CH_CFG.MODE c ≠ 0) ∧ ((s.chan c).sync = [t0]) ∧ (t0 ≤ (s.chan c).tm) ∧ ((s.chan c).tm < s.runLimit c) ∧ (0 < s.modStep) ∧ ((s.chan c).fading = false) ∧ ((s.chan c).chg = none) ∧ ((s.chan c).powerUp = none) :=
  ⟨st102, 3, (8,1), 5, by decide +kernel⟩

theorem test_swapFadeBegins : ∃ (s : State) (c : Fin 64) (x : Int × Int) (r : SwapReq),
    (s.up = true) ∧ (s.rd AFE_CH_CFG.MODE c ≠ 0) ∧ (s.plainPeriod c = true) ∧ (s.baseDue c = true) ∧ ((s.chan c).swap = some r) ∧ ((s.chan c).fading = false) ∧ (r.fade ≠ 0) ∧ (s.swapAt r ≤ (s.chan c).tm + s.cycles 1910) :=
  ⟨st103, 3, (8,1), {tag := 5, id := 7, fade := 1, start := 0}, by decide +kernel⟩

theorem test_swapCompletes : ∃ (s : State) (c : Fin 64) (x : Int × Int) (r : SwapReq),
    (s.up = true) ∧ (s.rd AFE_CH_CFG.MODE c ≠ 0) ∧ (s.plainPeriod c = true) ∧ (s.baseDue c = true) ∧ ((s.chan c).swap = some r) ∧ ((s.chan c).fading = true) ∧ (2 ^ r.fade ≤ (s.chan c).pos + 1) ∧ (s.rd FLT_CH_STATUS.ACTIVE c ≤ 1) ∧ (s.writesHeld = false) :=
  ⟨st104, 3, (8,1), {tag := 5, id := 7, fade := 1, start := 0}, by decide +kernel⟩

theorem test_timerFires : ∃ (s : State) (m : Fin 2),
    (s.up = true) ∧ (s.rd AUX_TRG_CFG.SRC m = 1) ∧ (s.rd AUX_TRG_PERIOD.VALUE m ≠ 0) :=
  ⟨st105, 1, by decide +kernel⟩

theorem test_tickFires : ∃ (s : State) (m : Fin 2) (r : TickRec),
    (s.up = true) ∧ (s.newest = some r) ∧ (s.rd AUX_TRG_CFG.SRC m = 2) ∧ (s.rd AUX_TRG_TICK.VALUE m % 65536 ≠ 0) ∧ (r.n % (s.rd AUX_TRG_TICK.VALUE m % 65536) = s.rd AUX_TRG_TICK.VALUE m / 65536) ∧ ((s.conv m).tickDone ≠ some r.n) :=
  ⟨st106, 1, { n := 160, t := 990000 * 2 ^ 24, per := 62500 * 2 ^ 24, freq := 50000000 }, by decide +kernel⟩

theorem test_pulseFires : ∃ (s : State) (m : Fin 2) (t0 : Nat) (width : Nat) (low : Bool),
    (s.up = true) ∧ (s.rd AUX_TRG_CFG.SRC m = 3) ∧ (s.rd AUX_TRG_CFG.POL m = b2n low) :=
  ⟨st107, 1, 3000000, 777, false, by decide +kernel⟩

theorem test_pulseFires_c1 : ∃ (s : State) (m : Fin 2) (t0 : Nat) (width : Nat) (low : Bool),
    (s.up = true) ∧ (s.rd AUX_TRG_CFG.SRC m = 3) ∧ (s.rd AUX_TRG_CFG.POL m = b2n low) ∧ (s.rd AUX_TRG_PW.VALUE m % 65536 * 250 ≤ width) ∧ (width ≤ s.rd AUX_TRG_PW.VALUE m / 65536 * 250) :=
  ⟨st107, 1, 3000000, 777, false, by decide +kernel⟩

theorem test_pulseFires_c2 : ∃ (s : State) (m : Fin 2) (t0 : Nat) (width : Nat) (low : Bool),
    (s.up = true) ∧ (s.rd AUX_TRG_CFG.SRC m = 3) ∧ (s.rd AUX_TRG_CFG.POL m = b2n low) ∧ (width < s.rd AUX_TRG_PW.VALUE m % 65536 * 250 ∨ s.rd AUX_TRG_PW.VALUE m / 65536 * 250 < width) :=
  ⟨st107, 1, 5, 77777777, false, by decide +kernel⟩

theorem test_scanStarts : ∃ (s : State) (m : Fin 2) (t0 : Nat),
    (s.up = true) ∧ ((s.conv m).wait = some t0) :=
  ⟨st108, 1, 777, by decide +kernel⟩

theorem test_scanStarts_c1 : ∃ (s : State) (m : Fin 2) (t0 : Nat),
    (s.up = true) ∧ ((s.conv m).wait = some t0) ∧ (maskIdx 24 (s.rd AUX_SCAN_MASK.MASK m) ≠ []) :=
  ⟨st109, 1, 777, by decide +kernel⟩

theorem test_scanStarts_c2 : ∃ (s : State) (m : Fin 2) (t0 : Nat),
    (s.up = true) ∧ ((s.conv m).wait = some t0) ∧ (maskIdx 24 (s.rd AUX_SCAN_MASK.MASK m) = []) :=
  ⟨st108, 1, 777, by decide +kernel⟩

theorem test_scanConverts : ∃ (s : State) (m : Fin 2) (raw : BitVec 16) (k : Nat) (rest : List Nat) (first : Option Nat),
    (s.up = true) ∧ (s.auxBlocked m = false) ∧ ((s.conv m).scan = some { left := k :: rest, first := first }) ∧ (k < 24) :=
  ⟨st110, 1, 777, 5, [6], none, by decide +kernel⟩

theorem test_scanConverts_c1 : ∃ (s : State) (m : Fin 2) (raw : BitVec 16) (k : Nat) (rest : List Nat) (first : Option Nat),
    (s.up = true) ∧ (s.auxBlocked m = false) ∧ ((s.conv m).scan = some { left := k :: rest, first := first }) ∧ (k < 24) ∧ (rest ≠ []) :=
  ⟨st110, 1, 777, 5, [6], none, by decide +kernel⟩

theorem test_scanConverts_c2 : ∃ (s : State) (m : Fin 2) (raw : BitVec 16) (k : Nat) (rest : List Nat) (first : Option Nat),
    (s.up = true) ∧ (s.auxBlocked m = false) ∧ ((s.conv m).scan = some { left := k :: rest, first := first }) ∧ (k < 24) ∧ (rest = []) :=
  ⟨st111, 1, 65535, 5, [], some 5, by decide +kernel⟩

theorem test_cutScanEnds : ∃ (s : State) (m : Fin 2) (raw : BitVec 16) (k : Nat) (first : Option Nat),
    (s.up = true) ∧ ((s.conv m).scan = some { left := [k], first := first, cut := true }) ∧ (k < 24) :=
  ⟨st112, 1, 777, 5, none, by decide +kernel⟩

theorem test_injectedConverts : ∃ (s : State) (m : Fin 2) (raw : BitVec 16) (k : Nat) (t0 : Nat),
    (s.up = true) ∧ (s.injNext m = some (k, t0)) :=
  ⟨st113, 1, 777, (st113.injNext 1).elim 0 (·.1), (st113.injNext 1).elim 0 (·.2), by decide +kernel⟩

theorem test_injectedConverts_c1 : ∃ (s : State) (m : Fin 2) (raw : BitVec 16) (k : Nat) (t0 : Nat),
    (s.up = true) ∧ (s.injNext m = some (k, t0)) ∧ ((s.conv m).injRun = none) :=
  ⟨st113, 1, 777, (st113.injNext 1).elim 0 (·.1), (st113.injNext 1).elim 0 (·.2), by decide +kernel⟩

theorem test_injectedConverts_c2 : ∃ (s : State) (m : Fin 2) (raw : BitVec 16) (k : Nat) (t0 : Nat),
    (s.up = true) ∧ (s.injNext m = some (k, t0)) ∧ ((s.conv m).injRun ≠ none) :=
  ⟨st114, 1, 777, (st114.injNext 1).elim 0 (·.1), (st114.injNext 1).elim 0 (·.2), by decide +kernel⟩

theorem test_crossCheckSkips : ∃ (s : State) (r0 : BitVec 16) (r1 : BitVec 16),
    (s.up = true) ∧ (s.rd AUX_XCHK_CFG.EN ≠ 0) ∧ ((s.auxBlocked 0 || s.auxBlocked 1) = true) :=
  ⟨st115, 777, 5, by decide +kernel⟩

theorem test_svFrameAccepted : ∃ (s : State) (f : SvFrame) (k : Nat) (a : SvAsdu),
    (s.up = true) ∧ (s.netSeen f.hd) ∧ (k < 256) ∧ (s.svFor k f.hd) ∧ (f.asdu = [a]) ∧ (s.svAccepts k f = true) :=
  ⟨st116, { hd := hd0 (2000000), asdu := [sva 77] }, 3, sva 77, by unfold State.netSeen State.svFor; decide +kernel⟩

theorem test_svFrameRejected : ∃ (s : State) (f : SvFrame) (k : Nat),
    (s.up = true) ∧ (s.netSeen f.hd) ∧ (k < 256) ∧ (s.svFor k f.hd) ∧ (s.svAccepts k f = false) :=
  ⟨st117, { hd := hd0 (2000000), asdu := [sva 77] }, 3, by unfold State.netSeen State.svFor; decide +kernel⟩

theorem test_badFrameCounted : ∃ (s : State) (f : GooseFrame),
    (s.up = true) ∧ (s.portOn f.hd.port.val = true) ∧ (f.hd.bad = true) :=
  ⟨st118, { gsf 5 5 5 with hd := { (gsf 5 5 5).hd with bad := true } }, by decide +kernel⟩

theorem test_streamLost : ∃ (s : State) (k : Fin 256) (t0 : Nat),
    (s.up = true) ∧ ((s.svSub k.val).seenAt = some t0) ∧ (s.rd PBUS_SV_STATUS.STATE k.val = 2) :=
  ⟨st119, 3, 500, by decide +kernel⟩

theorem test_alignmentExpires : ∃ (s : State) (g : Fin 512) (r : TickRec) (x : Smp),
    (s.up = true) ∧ (64 ≤ g.val) ∧ (s.awaited g.val = [r]) ∧ (s.trackDue = none) ∧ (x = (s.asAt r.n).mkSample r g.val 0 (bLATE + bSUBST) false) :=
  ⟨st120, 70, { n := 161, t := 990000 * 2 ^ 24, per := 62500 * 2 ^ 24, freq := 50000000, wait := [70, 80] }, (st120.asAt 161).mkSample ({ n := 161, t := 990000 * 2 ^ 24, per := 62500 * 2 ^ 24, freq := 50000000, wait := [70, 80] }) 70 0 (bLATE + bSUBST) false, by decide +kernel⟩

theorem test_alignmentExpires_c1 : ∃ (s : State) (g : Fin 512) (r : TickRec) (x : Smp),
    (s.up = true) ∧ (64 ≤ g.val) ∧ (s.awaited g.val = [r]) ∧ (s.trackDue = none) ∧ (x = (s.asAt r.n).mkSample r g.val 0 (bLATE + bSUBST) false) ∧ (tfind s.grid.corr g.val ≠ none) :=
  ⟨st121, 70, { n := 161, t := 990000 * 2 ^ 24, per := 62500 * 2 ^ 24, freq := 50000000, wait := [70, 80] }, (st121.asAt 161).mkSample ({ n := 161, t := 990000 * 2 ^ 24, per := 62500 * 2 ^ 24, freq := 50000000, wait := [70, 80] }) 70 0 (bLATE + bSUBST) false, by decide +kernel⟩

theorem test_gooseTaken : ∃ (s : State) (f : GooseFrame) (i : Nat),
    (s.up = true) ∧ (s.netSeen f.hd) ∧ (i < 1024) ∧ (s.gsFor i f) ∧ (f.stNum < 2 ^ 32) ∧ ((s.rd PBUS_GS_STATUS.STATE i = 1 ∨ f.stNum ≠ s.rd PBUS_GS_STNUM.VALUE i)) ∧ ((s.rd PBUS_GS_STATUS.STATE i = 2 → s.rxStamp f.hd < (s.gsSub i).seenAt + (s.gsSub i).tal * 250000)) :=
  ⟨st122, gsf 2000000 8 0, 5, by unfold State.netSeen State.gsFor; decide +kernel⟩

theorem test_gooseIgnored : ∃ (s : State) (f : GooseFrame) (i : Nat),
    (s.up = true) ∧ (s.netSeen f.hd) ∧ (i < 1024) ∧ (s.gsFor i f) ∧ (s.rd PBUS_GS_STATUS.STATE i = 2) ∧ (f.stNum = s.rd PBUS_GS_STNUM.VALUE i) ∧ (f.sqNum ≤ (s.gsSub i).sq) ∧ (s.rxStamp f.hd < (s.gsSub i).seenAt + (s.gsSub i).tal * 250000) :=
  ⟨st123, gsf 2000000 8 4, 5, by unfold State.netSeen State.gsFor; decide +kernel⟩

theorem test_gooseStale : ∃ (s : State) (x : Fin 1024) (n : Nat),
    (s.up = true) ∧ (s.rd PBUS_GS_STATUS.STATE x.val = 2) ∧ (n = (s.gsSub x.val).seenAt + (s.gsSub x.val).tal * 250000) :=
  ⟨st124, 5, 1000000+1000*250000, by decide +kernel⟩

theorem test_goosePublished : ∃ (s : State) (x : Fin 128) (r : TickRec) (d : Int),
    (s.up = true) ∧ (s.rd PBUS_GP_CFG.EN x.val = 1) ∧ (s.publishes = true) ∧ (s.pwr.prot = true) ∧ (s.gpDone x.val ≠ 0) ∧ (s.gpNext x.val < s.gpDone x.val) ∧ (((s.gpSt x.val).sent = none ∨ s.gpVals x.val (s.gpNext x.val) ≠ (s.gpSt x.val).vals)) ∧ (s.tickRec? (s.gpNext x.val) = some r) ∧ (s.rd PBUS_GP_STNUM.VALUE x.val < 2 ^ 32 - 1) ∧ (d = s.taiOf (r.t / 2 ^ 24)) :=
  ⟨st125, 5, { n := 161, t := 990000 * 2 ^ 24, per := 62500 * 2 ^ 24, freq := 50000000, wait := [70, 80] }, st125.taiOf 990000, by decide +kernel⟩

theorem test_gooseRepeated : ∃ (s : State) (x : Fin 128) (t0 : Nat) (f : GpFrame),
    (s.up = true) ∧ (s.rd PBUS_GP_CFG.EN x.val = 1) ∧ (s.publishes = true) ∧ ((s.gpSt x.val).next = some t0) ∧ ((s.gpSt x.val).sent = some f) ∧ (f.sq < 2 ^ 32 - 1) :=
  ⟨st126, 5, 500, ⟨1,2,3,4,5,6,[],[]⟩, by decide +kernel⟩

theorem test_supervisionSent : ∃ (s : State),
    (s.up = true) ∧ (s.pbus.net.mode ≠ 0) :=
  ⟨st127, by decide +kernel⟩

theorem test_supervisionTaken : ∃ (s : State) (h : NetHead),
    (s.up = true) ∧ (s.pbus.net.mode ≠ 0) ∧ (s.portOn h.port.val = true) ∧ (h.bad = false) ∧ (h.red = none) ∧ ((s.pbus.net.mode = 2 → h.src ≠ s.ownMac)) :=
  ⟨st128, hd0 5000000, by decide +kernel⟩

theorem test_supervisionTaken_c1 : ∃ (s : State) (h : NetHead),
    (s.up = true) ∧ (s.pbus.net.mode ≠ 0) ∧ (s.portOn h.port.val = true) ∧ (h.bad = false) ∧ (h.red = none) ∧ ((s.pbus.net.mode = 2 → h.src ≠ s.ownMac)) ∧ (s.pbus.net.nodes.length < 512) :=
  ⟨st128, hd0 5000000, by decide +kernel⟩

theorem test_nodeForgotten : ∃ (s : State) (l : List (Nat × Nat)) (m : Nat) (t0 : Nat),
    (s.up = true) ∧ (s.pbus.net.nodes = l ++ [(m, t0)]) :=
  ⟨st129, [(77,8)], 6, 5, by decide +kernel⟩

theorem test_phyPolled : ∃ (s : State) (p : Fin 2) (up : Bool),
    (s.up = true) ∧ (s.mdioBusy = false) ∧ (s.pbus.net.ports.testBit p.val = true) ∧ ((up = true ∨ s.pbus.net.mode ≠ 1 ∨ tget 7 s.pbus.ptp.st p.val ≠ 3)) :=
  ⟨st130, 1, true, by decide +kernel⟩

theorem test_phyPolled_c1 : ∃ (s : State) (p : Fin 2) (up : Bool),
    (s.up = true) ∧ (s.mdioBusy = false) ∧ (s.pbus.net.ports.testBit p.val = true) ∧ ((up = true ∨ s.pbus.net.mode ≠ 1 ∨ tget 7 s.pbus.ptp.st p.val ≠ 3)) ∧ ((s.rd PBUS_STATUS.LINK).testBit p.val = up) :=
  ⟨st130, 1, false, by decide +kernel⟩

theorem test_phyPolled_c2 : ∃ (s : State) (p : Fin 2) (up : Bool),
    (s.up = true) ∧ (s.mdioBusy = false) ∧ (s.pbus.net.ports.testBit p.val = true) ∧ ((up = true ∨ s.pbus.net.mode ≠ 1 ∨ tget 7 s.pbus.ptp.st p.val ≠ 3)) ∧ ((s.rd PBUS_STATUS.LINK).testBit p.val ≠ up) :=
  ⟨st130, 1, true, by decide +kernel⟩

theorem test_slavePortStandsIn : ∃ (s : State) (p : Fin 2) (t0 : Nat) (a : Announce),
    (s.up = true) ∧ (s.mdioBusy = false) ∧ (s.pbus.net.ports.testBit p.val = true) ∧ ((s.atTime (tget 0 s.pbus.pollAt p.val)).ptpStandIn p.val = some (1 - p.val, t0, a)) :=
  ⟨st131, 1, ((st131.pbus.ptp.heard.head?).map (·.2.1)).getD 0, { cls := 6, utc := some 37, leap61 := true, st := 3 }, by decide +kernel⟩

theorem test_phyPollPauses : ∃ (s : State) (p : Fin 2) (up : Bool),
    (s.up = true) ∧ (s.mdioBusy = true) :=
  ⟨st132, 1, true, by decide +kernel⟩

theorem test_mdioCompletes : ∃ (s : State) (data : BitVec 16),
    (s.up = true) ∧ (s.mdioBusy = true) :=
  ⟨st133, 5, by decide +kernel⟩

theorem test_speedNegotiated : ∃ (s : State) (p : Fin 2) (fast : Bool) (v : Nat),
    (s.up = true) ∧ (v = (if fast then 1000 else 100)) :=
  ⟨st134, 1, true, 1000, by decide +kernel⟩

theorem test_speedNegotiated_c1 : ∃ (s : State) (p : Fin 2) (fast : Bool) (v : Nat),
    (s.up = true) ∧ (v = (if fast then 1000 else 100)) ∧ (s.pbus.net.mode ≠ 0 ∧ tget 0 s.pbus.net.speed (1 - p.val) ≠ 0 ∧ tget 0 s.pbus.net.speed (1 - p.val) ≠ v) :=
  ⟨st135, 1, true, 1000, by decide +kernel⟩

theorem test_speedNegotiated_c2 : ∃ (s : State) (p : Fin 2) (fast : Bool) (v : Nat),
    (s.up = true) ∧ (v = (if fast then 1000 else 100)) ∧ (s.pbus.net.mode = 0 ∨ tget 0 s.pbus.net.speed (1 - p.val) = 0 ∨ tget 0 s.pbus.net.speed (1 - p.val) = v) :=
  ⟨st134, 1, true, 1000, by decide +kernel⟩

theorem test_syncMeasures : ∃ (s : State) (p : Fin 2) (t0 : Nat) (m : SyncMsg) (theta : Int),
    (s.up = true) ∧ (s.rd PBUS_PTP_CFG.EN = 1) ∧ (s.portOn p.val = true) ∧ (m.dom.toNat = s.rd PBUS_PTP_CFG.DOMAIN) ∧ (tget 7 s.pbus.ptp.st p.val = 3) ∧ (s.rd GRID_TQ.SOURCE = 1) ∧ (s.rd GRID_TQ.HOLDOVER = 0) ∧ (theta = ((4 * t0 - s.rd PBUS_PORT_INGLAT.VALUE p.val : Nat) : Int) + s.grid.taiOfs - (m.origin + openDiv 44 m.corr 65536 + s.rd PBUS_PORT_PDELAY.VALUE p.val)) :=
  ⟨st136, 0, 5, ({ dom := BitVec.ofNat 8 (st136.rd PBUS_PTP_CFG.DOMAIN), origin := (4 * 5 + st136.grid.taiOfs + (-800)), corr := 131072 } : SyncMsg), ((4 * 5 - st136.rd PBUS_PORT_INGLAT.VALUE 0 : Nat) : Int) + st136.grid.taiOfs - ((({ dom := BitVec.ofNat 8 (st136.rd PBUS_PTP_CFG.DOMAIN), origin := (4 * 5 + st136.grid.taiOfs + (-800)), corr := 131072 } : SyncMsg) : SyncMsg).origin + openDiv 44 (({ dom := BitVec.ofNat 8 (st136.rd PBUS_PTP_CFG.DOMAIN), origin := (4 * 5 + st136.grid.taiOfs + (-800)), corr := 131072 } : SyncMsg) : SyncMsg).corr 65536 + st136.rd PBUS_PORT_PDELAY.VALUE 0), by decide +kernel⟩

theorem test_syncMeasures_c1 : ∃ (s : State) (p : Fin 2) (t0 : Nat) (m : SyncMsg) (theta : Int),
    (s.up = true) ∧ (s.rd PBUS_PTP_CFG.EN = 1) ∧ (s.portOn p.val = true) ∧ (m.dom.toNat = s.rd PBUS_PTP_CFG.DOMAIN) ∧ (tget 7 s.pbus.ptp.st p.val = 3) ∧ (s.rd GRID_TQ.SOURCE = 1) ∧ (s.rd GRID_TQ.HOLDOVER = 0) ∧ (theta = ((4 * t0 - s.rd PBUS_PORT_INGLAT.VALUE p.val : Nat) : Int) + s.grid.taiOfs - (m.origin + openDiv 44 m.corr 65536 + s.rd PBUS_PORT_PDELAY.VALUE p.val)) ∧ (theta.natAbs ≤ 1000) :=
  ⟨st136, 0, 5, ({ dom := BitVec.ofNat 8 (st136.rd PBUS_PTP_CFG.DOMAIN), origin := (4 * 5 + st136.grid.taiOfs + (-800)), corr := 131072 } : SyncMsg), ((4 * 5 - st136.rd PBUS_PORT_INGLAT.VALUE 0 : Nat) : Int) + st136.grid.taiOfs - ((({ dom := BitVec.ofNat 8 (st136.rd PBUS_PTP_CFG.DOMAIN), origin := (4 * 5 + st136.grid.taiOfs + (-800)), corr := 131072 } : SyncMsg) : SyncMsg).origin + openDiv 44 (({ dom := BitVec.ofNat 8 (st136.rd PBUS_PTP_CFG.DOMAIN), origin := (4 * 5 + st136.grid.taiOfs + (-800)), corr := 131072 } : SyncMsg) : SyncMsg).corr 65536 + st136.rd PBUS_PORT_PDELAY.VALUE 0), by decide +kernel⟩

theorem test_syncMeasures_c2 : ∃ (s : State) (p : Fin 2) (t0 : Nat) (m : SyncMsg) (theta : Int),
    (s.up = true) ∧ (s.rd PBUS_PTP_CFG.EN = 1) ∧ (s.portOn p.val = true) ∧ (m.dom.toNat = s.rd PBUS_PTP_CFG.DOMAIN) ∧ (tget 7 s.pbus.ptp.st p.val = 3) ∧ (s.rd GRID_TQ.SOURCE = 1) ∧ (s.rd GRID_TQ.HOLDOVER = 0) ∧ (theta = ((4 * t0 - s.rd PBUS_PORT_INGLAT.VALUE p.val : Nat) : Int) + s.grid.taiOfs - (m.origin + openDiv 44 m.corr 65536 + s.rd PBUS_PORT_PDELAY.VALUE p.val)) ∧ (1000 < theta.natAbs) :=
  ⟨st136, 0, 5, ({ dom := BitVec.ofNat 8 (st136.rd PBUS_PTP_CFG.DOMAIN), origin := (4 * 5 + st136.grid.taiOfs + (1200)), corr := 131072 } : SyncMsg), ((4 * 5 - st136.rd PBUS_PORT_INGLAT.VALUE 0 : Nat) : Int) + st136.grid.taiOfs - ((({ dom := BitVec.ofNat 8 (st136.rd PBUS_PTP_CFG.DOMAIN), origin := (4 * 5 + st136.grid.taiOfs + (1200)), corr := 131072 } : SyncMsg) : SyncMsg).origin + openDiv 44 (({ dom := BitVec.ofNat 8 (st136.rd PBUS_PTP_CFG.DOMAIN), origin := (4 * 5 + st136.grid.taiOfs + (1200)), corr := 131072 } : SyncMsg) : SyncMsg).corr 65536 + st136.rd PBUS_PORT_PDELAY.VALUE 0), by decide +kernel⟩

theorem test_syncOfUnused : ∃ (s : State) (p : Fin 2) (t0 : Nat) (m : SyncMsg),
    (s.up = true) ∧ (s.rd PBUS_PTP_CFG.EN = 1) ∧ (s.portOn p.val = true) ∧ (m.dom.toNat = s.rd PBUS_PTP_CFG.DOMAIN) ∧ (tget 7 s.pbus.ptp.st p.val = 3) ∧ ((s.rd GRID_TQ.SOURCE ≠ 1 ∨ s.rd GRID_TQ.HOLDOVER = 1)) :=
  ⟨st137, 0, 5, ({ dom := BitVec.ofNat 8 (st137.rd PBUS_PTP_CFG.DOMAIN), origin := (4 * 5 + st137.grid.taiOfs + (-800)), corr := 70000 } : SyncMsg), by decide +kernel⟩

theorem test_otherDomainIgnored : ∃ (s : State) (p : Fin 2) (t0 : Nat) (c : Instr) (m : SyncMsg) (x : PdelayMsg) (a : Announce),
    (s.up = true) ∧ (m.dom.toNat ≠ s.rd PBUS_PTP_CFG.DOMAIN) ∧ (x.dom.toNat ≠ s.rd PBUS_PTP_CFG.DOMAIN) ∧ (a.dom ≠ s.rd PBUS_PTP_CFG.DOMAIN) ∧ ((c = .ptpSync p t0 m ∨ c = .ptpAnnounce p t0 a ∨ c = .ptpPdelayRx p t0 x)) :=
  ⟨st138, 1, 5, .ptpSync 1 5 ({ dom := 77, origin := 5 } : SyncMsg), ({ dom := 77, origin := 5 } : SyncMsg), ({ dom := 77, ans := some { t2 := 5, t3 := 8 } } : PdelayMsg), ({ cls := 6, st := 3, dom := 9 } : Announce), by decide +kernel⟩

theorem test_announceMakesSlave : ∃ (s : State) (u : State) (p : Fin 2) (t0 : Nat) (a : Announce),
    (s.up = true) ∧ (s.rd PBUS_PTP_CFG.EN = 1) ∧ (s.portOn p.val = true) ∧ (a.dom = s.rd PBUS_PTP_CFG.DOMAIN) ∧ (a.st = 3) ∧ (u = (s.atTime t0).ptpPorts) :=
  ⟨st139, (st139.atTime 5).ptpPorts, 1, 5, { cls := 6, utc := some 38, leap61 := true, st := 3 }, by decide +kernel⟩

theorem test_announceMakesSlave_c1 : ∃ (s : State) (u : State) (p : Fin 2) (t0 : Nat) (a : Announce),
    (s.up = true) ∧ (s.rd PBUS_PTP_CFG.EN = 1) ∧ (s.portOn p.val = true) ∧ (a.dom = s.rd PBUS_PTP_CFG.DOMAIN) ∧ (a.st = 3) ∧ (u = (s.atTime t0).ptpPorts) ∧ (a.leap61 = true) :=
  ⟨st139, (st139.atTime 5).ptpPorts, 1, 5, { cls := 6, utc := some 38, leap61 := true, st := 3 }, by decide +kernel⟩

theorem test_announceMakesSlave_c2 : ∃ (s : State) (u : State) (p : Fin 2) (t0 : Nat) (a : Announce),
    (s.up = true) ∧ (s.rd PBUS_PTP_CFG.EN = 1) ∧ (s.portOn p.val = true) ∧ (a.dom = s.rd PBUS_PTP_CFG.DOMAIN) ∧ (a.st = 3) ∧ (u = (s.atTime t0).ptpPorts) ∧ (a.leap61 = false) ∧ (a.leap59 = true) :=
  ⟨st139, (st139.atTime 5).ptpPorts, 1, 5, { cls := 6, utc := none, leap59 := true, st := 3 }, by decide +kernel⟩

theorem test_announceMakesSlave_c3 : ∃ (s : State) (u : State) (p : Fin 2) (t0 : Nat) (a : Announce),
    (s.up = true) ∧ (s.rd PBUS_PTP_CFG.EN = 1) ∧ (s.portOn p.val = true) ∧ (a.dom = s.rd PBUS_PTP_CFG.DOMAIN) ∧ (a.st = 3) ∧ (u = (s.atTime t0).ptpPorts) ∧ (a.leap61 = false) ∧ (a.leap59 = false) :=
  ⟨st139, (st139.atTime 5).ptpPorts, 0, 5, { cls := 7, st := 3 }, by decide +kernel⟩

theorem test_announceElsewhere : ∃ (s : State) (u : State) (p : Fin 2) (t0 : Nat) (a : Announce),
    (s.up = true) ∧ (s.rd PBUS_PTP_CFG.EN = 1) ∧ (s.portOn p.val = true) ∧ (a.dom = s.rd PBUS_PTP_CFG.DOMAIN) ∧ (a.st ≠ 3) ∧ (u = (s.atTime t0).ptpPorts) :=
  ⟨st139, (st139.atTime 5).ptpPorts, 1, 5, { cls := 6, utc := some 38, leap61 := true, st := 4 }, by decide +kernel⟩

theorem test_peerDelayMeasured : ∃ (s : State) (p : Fin 2) (t0 : Nat) (d : Nat) (m : PdelayMsg) (a : PdelayAns),
    (s.up = true) ∧ (s.rd PBUS_PTP_CFG.EN = 1) ∧ (s.portOn p.val = true) ∧ (m.dom.toNat = s.rd PBUS_PTP_CFG.DOMAIN) ∧ (m.ans = some a) :=
  ⟨st140, 1, 5, (openDiv 45 ((((4 * 5 - st140.rd PBUS_PORT_INGLAT.VALUE 1 : Nat) : Int) - 100 - (900 - 500)) * 65536 - 77) 131072).toNat, ({ dom := BitVec.ofNat 8 (st140.rd PBUS_PTP_CFG.DOMAIN), ans := some ({ t2 := 500, t3 := 900, corr := 77 } : PdelayAns) } : PdelayMsg), ({ t2 := 500, t3 := 900, corr := 77 } : PdelayAns), by decide +kernel⟩

theorem test_peerDelayMeasured_c1 : ∃ (s : State) (p : Fin 2) (t0 : Nat) (d : Nat) (m : PdelayMsg) (a : PdelayAns),
    (s.up = true) ∧ (s.rd PBUS_PTP_CFG.EN = 1) ∧ (s.portOn p.val = true) ∧ (m.dom.toNat = s.rd PBUS_PTP_CFG.DOMAIN) ∧ (m.ans = some a) ∧ (tfind s.pbus.ptp.req p.val = none) :=
  ⟨st140, 1, 5, (openDiv 45 ((((4 * 5 - st140.rd PBUS_PORT_INGLAT.VALUE 1 : Nat) : Int) - 100 - (900 - 500)) * 65536 - 77) 131072).toNat, ({ dom := BitVec.ofNat 8 (st140.rd PBUS_PTP_CFG.DOMAIN), ans := some ({ t2 := 500, t3 := 900, corr := 77 } : PdelayAns) } : PdelayMsg), ({ t2 := 500, t3 := 900, corr := 77 } : PdelayAns), by decide +kernel⟩

theorem test_peerDelayAnswered : ∃ (s : State) (p : Fin 2) (t0 : Nat) (rx : Nat) (tx : Nat) (m : PdelayMsg),
    (s.up = true) ∧ (s.rd PBUS_PTP_CFG.EN = 1) ∧ (s.portOn p.val = true) ∧ (m.dom.toNat = s.rd PBUS_PTP_CFG.DOMAIN) ∧ (m.ans = none) ∧ (rx = (4 * t0 - s.rd PBUS_PORT_INGLAT.VALUE p.val) / 4) ∧ (tx = (4 * max s.grid.now t0 + s.rd PBUS_PORT_EGLAT.VALUE p.val) / 4) :=
  ⟨st138, 1, 5, (4 * 5 - st138.rd PBUS_PORT_INGLAT.VALUE 1) / 4, (4 * max st138.grid.now 5 + st138.rd PBUS_PORT_EGLAT.VALUE 1) / 4, ({ dom := BitVec.ofNat 8 (st138.rd PBUS_PTP_CFG.DOMAIN), ans := none } : PdelayMsg), by decide +kernel⟩

theorem test_ptpMessagesSent : ∃ (s : State) (u : State) (d : Nat),
    (s.up = true) ∧ (s.rd PBUS_PTP_CFG.EN = 1) ∧ (d = max s.grid.now s.pbus.ptp.next) ∧ (u = (s.atTime d).ptpPorts) :=
  ⟨st141, (st141.atTime (max st141.grid.now st141.pbus.ptp.next)).ptpPorts, max st141.grid.now st141.pbus.ptp.next, by decide +kernel⟩

theorem test_irigUndecoded : ∃ (s : State) (t0 : Nat) (r : IrigRaw),
    (s.up = true) ∧ (s.irigRead r = none) :=
  ⟨st142, 5, ⟨[5],true⟩, by decide +kernel⟩

theorem test_irigUndecoded_c1 : ∃ (s : State) (t0 : Nat) (r : IrigRaw),
    (s.up = true) ∧ (s.irigRead r = none) ∧ (2 ≤ s.pbus.time.irigBad) :=
  ⟨st142, 5, ⟨[5],true⟩, by decide +kernel⟩

theorem test_irigUndecoded_c2 : ∃ (s : State) (t0 : Nat) (r : IrigRaw),
    (s.up = true) ∧ (s.irigRead r = none) ∧ (s.pbus.time.irigBad < 2) :=
  ⟨st143, 5, ⟨[5],true⟩, by decide +kernel⟩

theorem test_irigUndecoded_c3 : ∃ (s : State) (t0 : Nat) (r : IrigRaw),
    (s.up = true) ∧ (s.irigRead r = none) ∧ (s.pbus.time.irigBad = 2) ∧ (s.rd GRID_TQ.SOURCE = 2) ∧ (s.rd GRID_TQ.HOLDOVER = 0) ∧ (s.rd GRID_TQ.LOCKED = 1) :=
  ⟨st144, 5, ⟨[5],true⟩, by decide +kernel⟩

theorem test_irigDecoded : ∃ (s : State) (t0 : Nat) (w : IrigRaw) (f : IrigTime),
    (s.up = true) ∧ (s.irigRead w = some f) ∧ ((s.rd PBUS_IRIG_CFG.YEAR = 1 ∨ s.pbus.time.taiSet = true)) ∧ ((s.rd GRID_TQ.SOURCE ≠ 2 ∨ s.rd GRID_TQ.HOLDOVER = 1)) :=
  ⟨st145, 5, ⟨irigEnc { sec := 5, min := 6, hour := 7, doy := 100, year := 26, lsp := true }, true⟩, { sec := 5, min := 6, hour := 7, doy := 100, year := 26, lsp := true }, by decide +kernel⟩

theorem test_irigDecoded_c1 : ∃ (s : State) (t0 : Nat) (w : IrigRaw) (f : IrigTime),
    (s.up = true) ∧ (s.irigRead w = some f) ∧ ((s.rd PBUS_IRIG_CFG.YEAR = 1 ∨ s.pbus.time.taiSet = true)) ∧ ((s.rd GRID_TQ.SOURCE ≠ 2 ∨ s.rd GRID_TQ.HOLDOVER = 1)) ∧ (s.rd PBUS_IRIG_CFG.EXT = 1) ∧ (f.lsp = true) :=
  ⟨st146, 5, ⟨irigEnc { sec := 5, min := 6, hour := 7, doy := 100, year := 26, lsp := true }, true⟩, { sec := 5, min := 6, hour := 7, doy := 100, year := 26, lsp := true }, by decide +kernel⟩

theorem test_irigMeasures : ∃ (s : State) (t0 : Nat) (w : IrigRaw) (f : IrigTime) (theta : Int),
    (s.up = true) ∧ (s.irigRead w = some f) ∧ ((s.rd PBUS_IRIG_CFG.YEAR = 1 ∨ s.pbus.time.taiSet = true)) ∧ (s.rd PBUS_IRIG_CFG.EXT = 0) ∧ (s.rd GRID_TQ.SOURCE = 2) ∧ (s.rd GRID_TQ.HOLDOVER = 0) ∧ (theta = (s.atTime t0).taiOf t0 - (s.atTime t0).irigTai f * 1000000000) :=
  ⟨st147, 5, ⟨irigEnc { sec := 5, min := 6, hour := 7, doy := 100, year := 26, lsp := true }, true⟩, { sec := 5, min := 6, hour := 7, doy := 100, year := 26, lsp := true }, (st147.atTime 5).taiOf 5 - (st147.atTime 5).irigTai { sec := 5, min := 6, hour := 7, doy := 100, year := 26, lsp := true } * 1000000000, by decide +kernel⟩

theorem test_irigMeasures_c1 : ∃ (s : State) (t0 : Nat) (w : IrigRaw) (f : IrigTime) (theta : Int),
    (s.up = true) ∧ (s.irigRead w = some f) ∧ ((s.rd PBUS_IRIG_CFG.YEAR = 1 ∨ s.pbus.time.taiSet = true)) ∧ (s.rd PBUS_IRIG_CFG.EXT = 0) ∧ (s.rd GRID_TQ.SOURCE = 2) ∧ (s.rd GRID_TQ.HOLDOVER = 0) ∧ (theta = (s.atTime t0).taiOf t0 - (s.atTime t0).irigTai f * 1000000000) ∧ (theta.natAbs ≤ 1000) :=
  ⟨st148, 5, ⟨irigEnc { sec := 5, min := 6, hour := 7, doy := 100, year := 26, lsp := true }, true⟩, { sec := 5, min := 6, hour := 7, doy := 100, year := 26, lsp := true }, (st148.atTime 5).taiOf 5 - (st148.atTime 5).irigTai { sec := 5, min := 6, hour := 7, doy := 100, year := 26, lsp := true } * 1000000000, by decide +kernel⟩

theorem test_irigMeasures_c2 : ∃ (s : State) (t0 : Nat) (w : IrigRaw) (f : IrigTime) (theta : Int),
    (s.up = true) ∧ (s.irigRead w = some f) ∧ ((s.rd PBUS_IRIG_CFG.YEAR = 1 ∨ s.pbus.time.taiSet = true)) ∧ (s.rd PBUS_IRIG_CFG.EXT = 0) ∧ (s.rd GRID_TQ.SOURCE = 2) ∧ (s.rd GRID_TQ.HOLDOVER = 0) ∧ (theta = (s.atTime t0).taiOf t0 - (s.atTime t0).irigTai f * 1000000000) ∧ (1000 < theta.natAbs) :=
  ⟨st147, 5, ⟨irigEnc { sec := 5, min := 6, hour := 7, doy := 100, year := 26, lsp := true }, true⟩, { sec := 5, min := 6, hour := 7, doy := 100, year := 26, lsp := true }, (st147.atTime 5).taiOf 5 - (st147.atTime 5).irigTai { sec := 5, min := 6, hour := 7, doy := 100, year := 26, lsp := true } * 1000000000, by decide +kernel⟩

theorem test_ppsAccepted : ∃ (s : State) (t0 : Nat) (width : Nat) (p0 : Nat) (falling : Bool),
    (s.up = true) ∧ (s.rd PBUS_PPS_CFG.POL = b2n falling) ∧ (250 ≤ width) ∧ (s.pbus.time.ppsAt = some p0) ∧ (s.pbus.time.todSet = true) ∧ (t0 = p0 + 250000000) ∧ ((s.rd GRID_TQ.SOURCE ≠ 3 ∨ s.rd GRID_TQ.HOLDOVER = 1)) :=
  ⟨st149, 300000000, 25000, 50000000, false, by decide +kernel⟩

theorem test_ppsAfterLoss : ∃ (s : State) (t0 : Nat) (width : Nat) (p0 : Nat) (falling : Bool),
    (s.up = true) ∧ (s.rd PBUS_PPS_CFG.POL = b2n falling) ∧ (250 ≤ width) ∧ (s.pbus.time.ppsAt = some p0) ∧ (p0 + 750000000 + s.rd PBUS_PPS_CFG.WIN * 250 < t0) ∧ ((s.rd GRID_TQ.SOURCE ≠ 3 ∨ s.rd GRID_TQ.HOLDOVER = 1)) :=
  ⟨st150, 5000 + 750000000 + st150.rd PBUS_PPS_CFG.WIN * 250 + 7, 300, 5000, true, by decide +kernel⟩

theorem test_ppsRejected : ∃ (s : State) (t0 : Nat) (width : Nat) (p0 : Nat) (falling : Bool),
    (s.up = true) ∧ (s.rd PBUS_PPS_CFG.POL = b2n falling) ∧ (250 ≤ width) ∧ (s.pbus.time.ppsAt = some p0) ∧ (s.pbus.time.ppsQual = true) ∧ (t0 ≤ p0 + 750000000 + s.rd PBUS_PPS_CFG.WIN * 250) ∧ ((250000000 ≤ t0 - p0 → s.rd PBUS_PPS_CFG.WIN * 250 < (t0 - p0) % 250000000)) ∧ (s.rd PBUS_PPS_CFG.WIN * 250 < 250000000 - (t0 - p0) % 250000000) :=
  ⟨st151, 330000000, 25000, 50000000, false, by decide +kernel⟩

theorem test_sourceIntoHoldover : ∃ (s : State) (t0 : Nat),
    (s.up = true) ∧ (s.sourceDue = some t0) ∧ (s.rd GRID_TQ.LOCKED = 1) ∧ ((s.atTime t0).noStandIn) :=
  ⟨st152, 50000000 + 750000000+25000, by unfold State.noStandIn; decide +kernel⟩

theorem test_sourceIntoHoldover_c1 : ∃ (s : State) (t0 : Nat),
    (s.up = true) ∧ (s.sourceDue = some t0) ∧ (s.rd GRID_TQ.LOCKED = 1) ∧ ((s.atTime t0).noStandIn) ∧ ((∀ p < 2, (s.atTime t0).ptpStandIn p = none)) :=
  ⟨st152, 50000000 + 750000000+25000, by unfold State.noStandIn; decide +kernel⟩

theorem test_slavePortFailsOver : ∃ (s : State) (t0 : Nat) (p : Nat) (t1 : Nat) (a : Announce),
    (s.up = true) ∧ (s.rd GRID_TQ.SOURCE = 1) ∧ (s.sourceDue = some t0) ∧ ((s.atTime t0).ptpStandIn (s.rd PBUS_STATUS.PTP_PORT) = some (p, t1, a)) :=
  ⟨st153, 750000000 + 5000, 0, ((st153.pbus.ptp.heard.head?).map (·.2.1)).getD 0, { cls := 6, utc := some 37, leap61 := true, st := 3 }, by decide +kernel⟩

theorem test_sourceIntoFreeRun : ∃ (s : State) (t0 : Nat),
    (s.up = true) ∧ (s.sourceDue = some t0) ∧ (s.rd GRID_TQ.LOCKED = 0) ∧ ((s.atTime t0).noStandIn) :=
  ⟨st154, 50000000 + 750000000+25000, by unfold State.noStandIn; decide +kernel⟩

theorem test_holdoverDegrades : ∃ (s : State) (t0 : Nat) (d : Nat) (a : Nat),
    (s.up = true) ∧ (s.pbus.time.hoAt = some t0) ∧ (s.pbus.time.hoStep < 3) ∧ ((d, a) = (if s.pbus.time.hoStep = 0 then (s.rd PBUS_HO_CFG.VALUE % 65536, 1) else if s.pbus.time.hoStep = 1 then (s.rd PBUS_HO_CFG.VALUE / 65536, 2) else (86400, 3))) :=
  ⟨st155, 500, st155.rd PBUS_HO_CFG.VALUE / 65536, 2, by decide +kernel⟩

theorem test_sourceChosen : ∃ (s : State) (c : Nat),
    (s.up = true) ∧ ((s.atTime (s.secondStart s.selSecond)).ptpPorts.bestSource = some c) ∧ (s.rd GRID_TQ.SOURCE ≠ c) :=
  ⟨st156, 4, by decide +kernel⟩

theorem test_sourceStays : ∃ (s : State) (u : State) (c : Nat),
    (s.up = true) ∧ (u = (s.atTime (s.secondStart s.selSecond)).ptpPorts) ∧ (u.bestSource = some c) ∧ (s.rd GRID_TQ.SOURCE = c) ∧ (s.rd GRID_TQ.HOLDOVER = 0) :=
  ⟨st157, (st157.atTime (st157.secondStart st157.selSecond)).ptpPorts, 4, by decide +kernel⟩

theorem test_leapSecondTaken : ∃ (s : State),
    (s.up = true) ∧ ((s.pbus.time.leap = 1 ∨ s.pbus.time.leap = 2)) ∧ (0 < s.rd GRID_UTC_OFS.VALUE) ∧ (s.rd GRID_UTC_OFS.VALUE < 65535) :=
  ⟨st158, by decide +kernel⟩

theorem test_noLeapSecond : ∃ (s : State),
    (s.up = true) ∧ (s.pbus.time.leap = 0) :=
  ⟨st159, by decide +kernel⟩

theorem test_bayEvaluates : ∃ (s : State) (b : Fin 64) (t0 : Nat) (us : Nat) (r : TickRec),
    (s.up = true) ∧ (s.gridCatch.bayDue b.val = some r) ∧ (s.steady b.val r) :=
  ⟨st160, 3, 5, 77, recOf st160, by rw [steady_iff st160 _ _ (by decide +kernel)]; decide +kernel⟩

theorem test_bayWaits : ∃ (s : State) (b : Fin 64) (t0 : Nat) (us : Nat),
    (s.up = true) ∧ (s.gridCatch.bayDue b.val = none) :=
  ⟨st161, 3, 5, 77, by decide +kernel⟩

theorem test_elementOperates : ∃ (s : State) (e : Fin 2048) (b : Nat) (r : TickRec),
    (s.up = true) ∧ (s.bank.fld ELM_CFG.BAY e = b) ∧ (s.brings b hOperate e r) ∧ (s.steady b r) ∧ (((s.bankAt r.n).elems b).count e.val = 1) :=
  ⟨st162, 5, 3, recOf st162, by rw [steady_iff st162 _ _ (by decide +kernel)]; unfold State.brings; decide +kernel⟩

theorem test_elementResets : ∃ (s : State) (e : Fin 2048) (b : Nat) (r : TickRec),
    (s.up = true) ∧ (s.bank.fld ELM_CFG.BAY e = b) ∧ (s.brings b hReset e r) ∧ (s.steady b r) ∧ (((s.bankAt r.n).elems b).count e.val = 1) :=
  ⟨st163, 5, 3, recOf st163, by rw [steady_iff st163 _ _ (by decide +kernel)]; unfold State.brings; decide +kernel⟩

theorem test_memoryExpires : ∃ (s : State) (e : Fin 2048) (b : Nat) (r : TickRec),
    (s.up = true) ∧ (s.bank.fld ELM_CFG.BAY e = b) ∧ (s.brings b hMemory e r) ∧ (s.steady b r) ∧ (((s.bankAt r.n).elems b).count e.val = 1) :=
  ⟨st164, 5, 3, recOf st164, by rw [steady_iff st164 _ _ (by decide +kernel)]; unfold State.brings; decide +kernel⟩

theorem test_breakerFails : ∃ (s : State) (e : Fin 2048) (b : Nat) (k : Nat) (i : Nat) (c : Instr) (r : TickRec),
    (s.up = true) ∧ (s.bank.fld ELM_CFG.BAY e = b) ∧ ((c, k, i) ∈ [(Instr.bfRetrip e, hRetrip, 4), (.bfBackup e, hBackup, 5)]) ∧ (s.brings b k e r) ∧ (s.steady b r) ∧ (((s.bankAt r.n).elems b).count e.val = 1) :=
  ⟨st165, 5, 3, hRetrip, 4, .bfRetrip 5, recOf st165, by rw [steady_iff st165 _ _ (by decide +kernel)]; unfold State.brings; decide +kernel⟩

theorem test_recloserCloses : ∃ (s : State) (e : Fin 2048) (b : Nat) (r : TickRec),
    (s.up = true) ∧ (s.bank.fld ELM_CFG.BAY e = b) ∧ (s.brings b hArClose e r) ∧ (s.steady b r) ∧ (((s.bankAt r.n).elems b).count e.val = 1) :=
  ⟨st166, 5, 3, recOf st166, by rw [steady_iff st166 _ _ (by decide +kernel)]; unfold State.brings; decide +kernel⟩

theorem test_recloserLocksOut : ∃ (s : State) (e : Fin 2048) (b : Nat) (r : TickRec),
    (s.up = true) ∧ (s.bank.fld ELM_CFG.BAY e = b) ∧ (s.brings b hArLockout e r) ∧ (s.steady b r) ∧ (((s.bankAt r.n).elems b).count e.val = 1) :=
  ⟨st167, 5, 3, recOf st167, by rw [steady_iff st167 _ _ (by decide +kernel)]; unfold State.brings; decide +kernel⟩

theorem test_recloserSucceeds : ∃ (s : State) (e : Fin 2048) (b : Nat) (r : TickRec),
    (s.up = true) ∧ (s.bank.fld ELM_CFG.BAY e = b) ∧ (s.brings b hArSuccess e r) ∧ (s.steady b r) ∧ (((s.bankAt r.n).elems b).count e.val = 1) :=
  ⟨st168, 5, 3, recOf st168, by rw [steady_iff st168 _ _ (by decide +kernel)]; unfold State.brings; decide +kernel⟩

theorem test_coldLoadMoves : ∃ (s : State) (e : Fin 2048) (b : Nat) (k : Nat) (c : Instr) (r : TickRec),
    (s.up = true) ∧ (s.bank.fld ELM_CFG.BAY e = b) ∧ ((c, k) ∈ [(Instr.clpArmed e, hClpArmed), (.clpEnd e, hClpEnd)]) ∧ (s.brings b k e r) ∧ (s.steady b r) ∧ (((s.bankAt r.n).elems b).count e.val = 1) :=
  ⟨st169, 5, 3, hClpArmed, .clpArmed 5, recOf st169, by rw [steady_iff st169 _ _ (by decide +kernel)]; unfold State.brings; decide +kernel⟩

theorem test_coldLoadMoves_c1 : ∃ (s : State) (e : Fin 2048) (b : Nat) (k : Nat) (c : Instr) (r : TickRec),
    (s.up = true) ∧ (s.bank.fld ELM_CFG.BAY e = b) ∧ ((c, k) ∈ [(Instr.clpArmed e, hClpArmed), (.clpEnd e, hClpEnd)]) ∧ (s.brings b k e r) ∧ (s.steady b r) ∧ (((s.bankAt r.n).elems b).count e.val = 1) ∧ (k = hClpArmed) :=
  ⟨st169, 5, 3, hClpArmed, .clpArmed 5, recOf st169, by rw [steady_iff st169 _ _ (by decide +kernel)]; unfold State.brings; decide +kernel⟩

theorem test_coldLoadMoves_c2 : ∃ (s : State) (e : Fin 2048) (b : Nat) (k : Nat) (c : Instr) (r : TickRec),
    (s.up = true) ∧ (s.bank.fld ELM_CFG.BAY e = b) ∧ ((c, k) ∈ [(Instr.clpArmed e, hClpArmed), (.clpEnd e, hClpEnd)]) ∧ (s.brings b k e r) ∧ (s.steady b r) ∧ (((s.bankAt r.n).elems b).count e.val = 1) ∧ (k = hClpEnd) :=
  ⟨st170, 5, 3, hClpEnd, .clpEnd 5, recOf st170, by rw [steady_iff st170 _ _ (by decide +kernel)]; unfold State.brings; decide +kernel⟩

theorem test_blockForcedOff : ∃ (s : State) (e : Fin 2048) (b : Nat) (r : TickRec),
    (s.up = true) ∧ (s.bank.fld ELM_CFG.BAY e = b) ∧ (s.brings b hTmax e r) ∧ (s.steady b r) ∧ (((s.bankAt r.n).elems b).count e.val = 1) :=
  ⟨st171, 5, 3, recOf st171, by rw [steady_iff st171 _ _ (by decide +kernel)]; unfold State.brings; decide +kernel⟩

theorem test_groupChanges : ∃ (s : State) (b : Fin 64) (r : TickRec),
    (s.up = true) ∧ (s.brings b hGroup b r) ∧ (s.steady b r) :=
  ⟨st172, 3, recOf st172, by rw [steady_iff st172 _ _ (by decide +kernel)]; unfold State.brings; decide +kernel⟩

theorem test_knotExpires : ∃ (s : State) (k : Fin 16384) (b : Nat) (r : TickRec),
    (s.up = true) ∧ (knotBay (s.bank.knot k) = b) ∧ (s.brings b hKnot k r) ∧ (s.steady b r) ∧ ((((s.bankAt r.n).knotsOf b).map (·.1)).count k.val = 1) :=
  ⟨st173, 5, 3, recOf st173, by rw [steady_iff st173 _ _ (by decide +kernel)]; unfold State.brings; decide +kernel⟩

theorem test_rowFalls : ∃ (s : State) (d : Fin 32) (b : Nat) (r : TickRec),
    (s.up = true) ∧ (s.bank.fld KNOT_TM_CFG.BAY d = b) ∧ (s.brings b hMinp d r) ∧ (s.steady b r) :=
  ⟨st174, 5, 3, recOf st174, by rw [steady_iff st174 _ _ (by decide +kernel)]; unfold State.brings; decide +kernel⟩

theorem test_detectorFires : ∃ (s : State) (u : State) (d : Fin 128) (c : Instr) (code : Nat) (r : TickRec) (rest : List TickRec) (q : Nat) (w : Nat) (m : Nat),
    (s.up = true) ∧ ((c, s.rd FLT_TD_STATUS.STATE d.val, code) ∈ [(Instr.tdPickup d, 0, 0x2010), (.tdDropout d, 1, 0x2011)]) ∧ (u = s.asAt r.n) ∧ ((∀ n, (s.tdSt d.val).restart = some n → r.n < n)) ∧ (u.rd FLT_TD_CFG.EN d.val = 1) ∧ (s.tdReady d.val = r :: rest) ∧ (u.tdMeasure d.val r ((s.tdSt d.val).since + 1) = some (q, w, m)) ∧ (u.tdHit d.val q w = true) ∧ (u.rd FLT_TD_CFG.Q d.val ≤ s.rd FLT_TD_STATUS.COUNT d.val + 1) :=
  ⟨st175, st175.asAt 198, 9, .tdPickup 9, 0x2010, ((st175.grid.hist.drop 1).head?).getD (recOf st175), [recOf st175], 5000*5000, 1, 5000, by decide +kernel⟩

theorem test_detectorFires_c1 : ∃ (s : State) (u : State) (d : Fin 128) (c : Instr) (code : Nat) (r : TickRec) (rest : List TickRec) (q : Nat) (w : Nat) (m : Nat),
    (s.up = true) ∧ ((c, s.rd FLT_TD_STATUS.STATE d.val, code) ∈ [(Instr.tdPickup d, 0, 0x2010), (.tdDropout d, 1, 0x2011)]) ∧ (u = s.asAt r.n) ∧ ((∀ n, (s.tdSt d.val).restart = some n → r.n < n)) ∧ (u.rd FLT_TD_CFG.EN d.val = 1) ∧ (s.tdReady d.val = r :: rest) ∧ (u.tdMeasure d.val r ((s.tdSt d.val).since + 1) = some (q, w, m)) ∧ (u.tdHit d.val q w = true) ∧ (u.rd FLT_TD_CFG.Q d.val ≤ s.rd FLT_TD_STATUS.COUNT d.val + 1) ∧ (code = 0x2010) :=
  ⟨st175, st175.asAt 198, 9, .tdPickup 9, 0x2010, ((st175.grid.hist.drop 1).head?).getD (recOf st175), [recOf st175], 5000*5000, 1, 5000, by decide +kernel⟩

theorem test_detectorFires_c2 : ∃ (s : State) (u : State) (d : Fin 128) (c : Instr) (code : Nat) (r : TickRec) (rest : List TickRec) (q : Nat) (w : Nat) (m : Nat),
    (s.up = true) ∧ ((c, s.rd FLT_TD_STATUS.STATE d.val, code) ∈ [(Instr.tdPickup d, 0, 0x2010), (.tdDropout d, 1, 0x2011)]) ∧ (u = s.asAt r.n) ∧ ((∀ n, (s.tdSt d.val).restart = some n → r.n < n)) ∧ (u.rd FLT_TD_CFG.EN d.val = 1) ∧ (s.tdReady d.val = r :: rest) ∧ (u.tdMeasure d.val r ((s.tdSt d.val).since + 1) = some (q, w, m)) ∧ (u.tdHit d.val q w = true) ∧ (u.rd FLT_TD_CFG.Q d.val ≤ s.rd FLT_TD_STATUS.COUNT d.val + 1) ∧ (u.rd FLT_TD_CFG.EVT d.val = 1) :=
  ⟨st176, st176.asAt 198, 9, .tdPickup 9, 0x2010, ((st176.grid.hist.drop 1).head?).getD (recOf st176), [recOf st176], 5000*5000, 1, 5000, by decide +kernel⟩

theorem test_detectorFires_c3 : ∃ (s : State) (u : State) (d : Fin 128) (c : Instr) (code : Nat) (r : TickRec) (rest : List TickRec) (q : Nat) (w : Nat) (m : Nat),
    (s.up = true) ∧ ((c, s.rd FLT_TD_STATUS.STATE d.val, code) ∈ [(Instr.tdPickup d, 0, 0x2010), (.tdDropout d, 1, 0x2011)]) ∧ (u = s.asAt r.n) ∧ ((∀ n, (s.tdSt d.val).restart = some n → r.n < n)) ∧ (u.rd FLT_TD_CFG.EN d.val = 1) ∧ (s.tdReady d.val = r :: rest) ∧ (u.tdMeasure d.val r ((s.tdSt d.val).since + 1) = some (q, w, m)) ∧ (u.tdHit d.val q w = true) ∧ (u.rd FLT_TD_CFG.Q d.val ≤ s.rd FLT_TD_STATUS.COUNT d.val + 1) ∧ (u.rd FLT_TD_CFG.EVT d.val = 0) :=
  ⟨st175, st175.asAt 198, 9, .tdPickup 9, 0x2010, ((st175.grid.hist.drop 1).head?).getD (recOf st175), [recOf st175], 5000*5000, 1, 5000, by decide +kernel⟩

theorem test_engineFails : ∃ (s : State) (k : Fin 9) (late : Bool),
    (s.up = true) ∧ (s.rd BIST_ENG_STATUS.HEALTHY k.val = 1) :=
  ⟨st177, 3, true, by decide +kernel⟩

theorem test_engineFailedAlready : ∃ (s : State) (k : Fin 9) (late : Bool),
    (s.up = true) ∧ (s.rd BIST_ENG_STATUS.HEALTHY k.val = 0) :=
  ⟨st178, 3, true, by decide +kernel⟩

theorem test_spareRotates : ∃ (s : State) (m : Nat) (k : Nat),
    (s.up = true) ∧ (s.rotDue = some m) ∧ (s.rotFrom = some k) :=
  ⟨st179, 2500000000 * 2^24, 1, by decide +kernel⟩

theorem test_rotationSkipped : ∃ (s : State) (m : Nat),
    (s.up = true) ∧ (s.rotDue = some m) ∧ (s.rotFrom = none) :=
  ⟨st180, 2500000000 * 2^24, by decide +kernel⟩

theorem test_engineTestPasses : ∃ (s : State) (k : Fin 9) (misr : BitVec 64) (x : EngTest),
    (s.up = true) ∧ (tfind s.bist.eng k.val = some x) ∧ (x.kind = 0) :=
  ⟨st181, 3, 0x123456789ABCDEF0, ⟨0,1,st181.grid.now % 2 * 5000000,false⟩, by decide +kernel⟩

theorem test_engineTestFails : ∃ (s : State) (k : Fin 9) (misr : BitVec 64) (x : EngTest),
    (s.up = true) ∧ (tfind s.bist.eng k.val = some x) ∧ (x.kind = 0) ∧ (s.rd BIST_ENG_STATUS.HEALTHY k.val = 1) :=
  ⟨st181, 3, 0x123456789ABCDEF0, ⟨0,1,st181.grid.now % 2 * 5000000,false⟩, by decide +kernel⟩

theorem test_engineTestRepeats : ∃ (s : State) (k : Fin 9) (misr : BitVec 64) (ok : Bool) (count : Nat) (x : EngTest),
    (s.up = true) ∧ (tfind s.bist.eng k.val = some x) ∧ (count ≠ patterns x.pat) ∧ (x.again = false) :=
  ⟨st182, 3, 0x123456789ABCDEF0, true, 77, ⟨2,1,st182.grid.now % 2 * 5000000,false⟩, by decide +kernel⟩

theorem test_hostTestPasses : ∃ (s : State) (k : Fin 9) (misr : BitVec 64) (x : EngTest),
    (s.up = true) ∧ (tfind s.bist.eng k.val = some x) ∧ (x.kind = 1) :=
  ⟨st183, 3, 0x123456789ABCDEF0, ⟨1,1,st183.grid.now % 2 * 5000000,false⟩, by decide +kernel⟩

theorem test_proofBegins : ∃ (s : State),
    (s.up = true) ∧ (s.role = 2) ∧ (s.bist.proof = none) :=
  ⟨st184, by decide +kernel⟩

theorem test_groupTestEnds : ∃ (s : State) (fail : Bool) (detail : BitVec 8) (h : HostTest) (g : Nat),
    (s.up = true) ∧ (s.bist.host = some h) ∧ (bistGroup h.tgt = some g) :=
  ⟨st185, true, 77, ⟨0x102, 500⟩, 2, by decide +kernel⟩

theorem test_noBlockTest : ∃ (s : State) (fail : Bool) (detail : BitVec 8),
    (s.up = true) ∧ (s.bist.host = none) :=
  ⟨st186, true, 77, by decide +kernel⟩

theorem test_correctedErrorCounts : ∃ (s : State) (m : Fin 32) (row : Nat) (t0 : Nat),
    (s.up = true) :=
  ⟨st187, 3, 7, 5, by decide +kernel⟩

theorem test_faultRestarts : ∃ (s : State) (m : Fin 32) (c : Instr) (k : Nat) (v : Nat),
    (s.up = true) ∧ ((c, k, v) ∈ [(Instr.sramUncorrectable m, 8, 0x0A40 + m.val), (.lockstepMismatch, 7, 0x0A01)]) :=
  ⟨st188, 3, .sramUncorrectable 3, 8, 0x0A43, by decide +kernel⟩

theorem test_faultRestarts_c1 : ∃ (s : State) (m : Fin 32) (c : Instr) (k : Nat) (v : Nat),
    (s.up = true) ∧ ((c, k, v) ∈ [(Instr.sramUncorrectable m, 8, 0x0A40 + m.val), (.lockstepMismatch, 7, 0x0A01)]) ∧ (s.rd EVT_STATUS.READY = 1) ∧ (s.writesHeld = false) ∧ (s.log.queue.length ≤ 20480) :=
  ⟨st188, 3, .sramUncorrectable 3, 8, 0x0A43, by decide +kernel⟩

theorem test_nandBlockReplaced : ∃ (s : State) (blk : Fin 16384),
    (s.up = true) ∧ (0 < s.nv.bist.nandSpare) ∧ (blk.val ∉ s.nv.bist.nandBad) :=
  ⟨st189, 77, by decide +kernel⟩

theorem test_nandBlockLost : ∃ (s : State) (blk : Fin 16384),
    (s.up = true) ∧ (s.nv.bist.nandSpare = 0) ∧ (blk.val ∉ s.nv.bist.nandBad) :=
  ⟨st190, 77, by decide +kernel⟩

theorem test_nandBlockLost_c1 : ∃ (s : State) (blk : Fin 16384),
    (s.up = true) ∧ (s.nv.bist.nandSpare = 0) ∧ (blk.val ∉ s.nv.bist.nandBad) ∧ (262144 ≤ s.storeFree) :=
  ⟨st190, 77, by decide +kernel⟩

theorem test_nandBlockBad : ∃ (s : State) (blk : Fin 16384),
    (s.up = true) ∧ (blk.val ∈ s.nv.bist.nandBad) :=
  ⟨st191, 77, by decide +kernel⟩

theorem test_sectorRemapped : ∃ (s : State) (x : MramFail),
    (s.up = true) ∧ (0 < s.nv.bist.mramSpare) :=
  ⟨st192, ⟨77,none,1⟩, by decide +kernel⟩

theorem test_sectorNotRemapped : ∃ (s : State) (x : MramFail),
    (s.up = true) ∧ (s.nv.bist.mramSpare = 0) :=
  ⟨st193, ⟨77,none,5⟩, by decide +kernel⟩

theorem test_sectorNotRemapped_c1 : ∃ (s : State) (x : MramFail),
    (s.up = true) ∧ (s.nv.bist.mramSpare = 0) ∧ (x.obj = none ∨ x.tries < 3) :=
  ⟨st193, ⟨77,none,5⟩, by decide +kernel⟩

theorem test_sectorNotRemapped_c2 : ∃ (s : State) (x : MramFail),
    (s.up = true) ∧ (s.nv.bist.mramSpare = 0) ∧ (3 ≤ x.tries) :=
  ⟨st193, ⟨77,none,5⟩, by decide +kernel⟩

theorem test_fusesBurned : ∃ (s : State) (m : Nat) (b : Burn),
    (s.up = true) ∧ (firstBurn s.bist.burns = some (m, b)) :=
  ⟨st194, 3, ⟨[7,8],5,5000000⟩, by decide +kernel⟩

theorem test_trigInTriggers : ∃ (s : State) (t0 : Nat) (rising : Bool),
    (s.up = true) ∧ (s.rd REC_EXT_CFG.POL = b2n (!rising)) :=
  ⟨st195, 5000000, true, by decide +kernel⟩

theorem test_trigBusTriggers : ∃ (s : State) (e : LineEdge) (t0 : Nat),
    (s.up = true) ∧ (s.rd REC_TB_CFG.IN_EN = 1) ∧ (s.rec'.busOut = none) ∧ (e.t = t0) ∧ (e.lvl = false) ∧ (250 ≤ e.held) ∧ (s.rec'.busLow + 250 ≤ t0) :=
  ⟨st196, { t := 5000000, lvl := false, held := 300 }, 5000000, by decide +kernel⟩

theorem test_ownPulseIgnored : ∃ (s : State) (x : LineEdge) (e : Nat),
    (s.up = true) ∧ (s.rec'.busOut = some e) :=
  ⟨st197, { t := 5000000, lvl := false, held := 300 }, 5, by decide +kernel⟩

theorem test_busGlitchIgnored : ∃ (s : State) (x : LineEdge),
    (s.up = true) ∧ ((x.lvl = true ∨ x.held < 250 ∨ (s.rec'.busLow ≠ 0 ∧ x.t < s.rec'.busLow + 250))) :=
  ⟨st198, { t := 5000000, lvl := true, held := 300 }, by decide +kernel⟩

theorem test_busReleased : ∃ (s : State) (e : Nat),
    (s.up = true) ∧ (s.rec'.busOut = some e) :=
  ⟨st197, 5, by decide +kernel⟩

theorem test_sampleCaptured : ∃ (s : State) (x : Fin 4) (h : RecSmp),
    (s.up = true) ∧ (2 ≤ (s.recInst x.val).st) ∧ (s.detectors.recSample x.val (s.recInst x.val).next = some h) :=
  ⟨st199, 2, (st199.detectors.recSample 2 199).getD { j := 0, t := 0, n := 0 }, by decide +kernel⟩

theorem test_sampleWaits : ∃ (s : State) (x : Fin 4),
    (s.up = true) ∧ (((s.recInst x.val).st < 2 ∨ s.detectors.recSample x.val (s.recInst x.val).next = none)) :=
  ⟨st200, 2, by decide +kernel⟩

theorem test_recordBegins : ∃ (s : State) (x : Fin 4) (h : RecSmp) (tr : RecTrig),
    (s.up = true) ∧ ((s.recInst x.val).st = 2) ∧ ((s.recInst x.val).cur = none) ∧ ((s.recInst x.val).rearm = none) ∧ ((s.recInst x.val).trig = [tr]) ∧ ((s.recInst x.val).skip = 0) ∧ (s.recIdleRole = false) ∧ (s.detectors.recSample x.val (s.recInst x.val).next = some h) ∧ ((∀ y ∈ (s.recInst x.val).hist, y.t < tr.t)) ∧ (tr.t ≤ h.t) ∧ ((∀ k < 16, s.rd REC_TRG_CTL.EN x.val k = 0)) ∧ (s.storeFull ((s.recCfg x.val).need * (s.recCfg x.val).blkBytes) = false) ∧ (2 ≤ (s.recCfg x.val).postS) :=
  ⟨st201, 2, (st201.detectors.recSample 2 199).getD { j := 0, t := 0, n := 0 }, ⟨988000*2^24,5,none⟩, by decide +kernel⟩

theorem test_rearmEnds : ∃ (s : State) (x : Fin 4) (a : Nat) (e : Nat),
    (s.up = true) ∧ ((s.recInst x.val).st = 4) ∧ ((s.recInst x.val).rearm = some (a, e)) ∧ ((s.recInst x.val).trig = []) :=
  ⟨st202, 2, 50, 5000000*2^24, by decide +kernel⟩

theorem test_blockDrains : ∃ (s : State) (x : Fin 4) (b : RecBlk),
    (s.up = true) ∧ (s.writesHeld = false) ∧ (s.rec'.draining = some x.val) ∧ (((s.recInst x.val).blk.reverse.find? fun b => b.closed && !b.drained && b.used (s.recsOf x.val)) = some b) :=
  ⟨st203, 2, { first := 100, cnt := 50, closed := true }, by decide +kernel⟩

theorem test_drainWaits : ∃ (s : State) (x : Fin 4),
    (s.up = true) ∧ (s.writesHeld = true ∨ s.rec'.draining ≠ some x.val) :=
  ⟨st204, 2, by decide +kernel⟩

theorem test_registerWritten : ∃ (s : State) (q : Bool) (a : Word) (w : Word),
    (s.up = true) ∧ (a.toNat < berthBit) ∧ (a.toNat % 4 = 0) ∧ (ownWrite a.toNat = false) ∧ (s.spMaskAt a.toNat = 0) ∧ ((sessionOnly a.toNat = true → s.foreign q = false)) :=
  ⟨st205, true, BitVec.ofNat 32 (HOST_IRQ_MASK.MASK.at' 0 0), BitVec.ofNat 32 (st205.grid.now * 2654435761), by decide +kernel⟩

theorem test_berthWindowWritten : ∃ (s : State) (q : Bool) (a : Word) (w : Word) (be : BitVec 4),
    (s.up = true) ∧ (berthBit ≤ a.toNat) :=
  ⟨st206, true, BitVec.ofNat 32 (2^31+16), BitVec.ofNat 32 (st206.grid.now * 2654435761), 5, by decide +kernel⟩

theorem test_berthWindowRead : ∃ (s : State) (q : Bool) (a : Word),
    (s.up = true) ∧ (berthBit ≤ a.toNat) :=
  ⟨st206, true, BitVec.ofNat 32 (2^31+0), by decide +kernel⟩

theorem test_partialWriteIgnored : ∃ (s : State) (q : Bool) (a : Word) (w : Word) (be : BitVec 4),
    (a.toNat < berthBit) ∧ (be ≠ 15 ∨ a.toNat % 4 ≠ 0) :=
  ⟨st1, true, BitVec.ofNat 32 (HOST_IRQ_MASK.MASK.at' 0 0), 77, 7, by decide +kernel⟩

theorem test_foreignWriteCounted : ∃ (s : State) (q : Bool) (a : Word) (w : Word),
    (s.up = true) ∧ (a.toNat % 4 = 0) ∧ (sessionOnly a.toNat = true) ∧ (s.foreign q = true) :=
  ⟨st207, true, BitVec.ofNat 32 (HOST_IRQ_MASK.MASK.at' 0 0), 77, by decide +kernel⟩

theorem test_msixWritten : ∃ (s : State) (q : Bool) (a : Word) (w : Word),
    (s.up = true) ∧ (a.toNat % 4 = 0) ∧ (0x8000 ≤ a.toNat) ∧ (a.toNat < 0x8200) :=
  ⟨st208, true, BitVec.ofNat 32 (0x8000+16*5+12), BitVec.ofNat 32 (st208.grid.now), by decide +kernel⟩

theorem test_msixWritten_c1 : ∃ (s : State) (q : Bool) (a : Word) (w : Word),
    let k := (a.toNat - 0x8000) / 4; (s.up = true) ∧ (a.toNat % 4 = 0) ∧ (0x8000 ≤ a.toNat) ∧ (a.toNat < 0x8200) ∧ (k % 4 = 3) ∧ (w.toNat % 2 = 0) ∧ (s.host.msixPba.testBit (k / 4) = true) :=
  ⟨st208, true, BitVec.ofNat 32 (0x81FC), 6, by decide +kernel⟩

theorem test_msixWritten_c2 : ∃ (s : State) (q : Bool) (a : Word) (w : Word),
    let k := (a.toNat - 0x8000) / 4; (s.up = true) ∧ (a.toNat % 4 = 0) ∧ (0x8000 ≤ a.toNat) ∧ (a.toNat < 0x8200) ∧ (k % 4 ≠ 3 ∨ w.toNat % 2 = 1 ∨ s.host.msixPba.testBit (k / 4) = false) :=
  ⟨st208, true, BitVec.ofNat 32 (0x8000+16*5+12), BitVec.ofNat 32 (st208.grid.now), by decide +kernel⟩

theorem test_settingsWriteIgnored : ∃ (s : State) (q : Bool) (a : Word) (w : Word),
    (s.up = true) ∧ (s.spMaskAt a.toNat ≠ 0) ∧ ((inElm a.toNat = true ∨ ownWrite a.toNat = false)) ∧ (sessionOnly a.toNat = false) ∧ (s.readWord a.toNat &&& s.spMaskAt a.toNat ≠ w.toNat &&& s.spMaskAt a.toNat) :=
  ⟨st205, true, BitVec.ofNat 32 (AFE_CH_CFG.MODE.at' 3 0), BitVec.ofNat 32 (st205.grid.now * 2654435761), by decide +kernel⟩

theorem test_sameSettingsWrite : ∃ (s : State) (q : Bool) (a : Word) (w : Word),
    (s.up = true) ∧ (s.spMaskAt a.toNat ≠ 0) ∧ ((inElm a.toNat = true ∨ ownWrite a.toNat = false)) ∧ (sessionOnly a.toNat = false) ∧ (s.readWord a.toNat &&& s.spMaskAt a.toNat = w.toNat &&& s.spMaskAt a.toNat) :=
  ⟨st205, true, BitVec.ofNat 32 (AFE_CH_CFG.MODE.at' 3 0), BitVec.ofNat 32 (st205.readWord (BitVec.ofNat 32 (AFE_CH_CFG.MODE.at' 3 0)).toNat), by decide +kernel⟩

theorem test_readClears : ∃ (s : State) (q : Bool) (a : Word),
    (s.up = true) ∧ (a.toNat < berthBit) ∧ (ownRead a.toNat = false) ∧ (inElm a.toNat = false) ∧ (tfind s.host.hiLatch a.toNat = none) :=
  ⟨st209, true, BitVec.ofNat 32 (HOST_RESYNC_CNT.VALUE.at' 0 0), by decide +kernel⟩

theorem test_onesClear : ∃ (s : State) (q : Bool) (a : Word) (w : Word),
    (s.up = true) ∧ ((sessionOnly a.toNat = true → s.foreign q = false)) :=
  ⟨st210, true, BitVec.ofNat 32 (HOST_IRQ_MASK.MASK.at' 0 0), BitVec.ofNat 32 (st210.grid.now * 2654435761), by decide +kernel⟩

theorem test_lowReadLatchesHigh : ∃ (s : State) (a : Word),
    (s.up = true) ∧ (a.toNat ∈ loRegs) ∧ (tfind s.host.hiLatch a.toNat = none) :=
  ⟨st211, BitVec.ofNat 32 (loRegs.getD 0 0), by decide +kernel⟩

theorem test_latchedHighRead : ∃ (s : State) (q : Bool) (a : Word) (v : Nat),
    (s.up = true) ∧ (a.toNat < berthBit) ∧ (ownRead a.toNat = false) ∧ (tfind s.host.hiLatch a.toNat = some v) :=
  ⟨st212, true, BitVec.ofNat 32 (loRegs.getD 0 0 + 4), 99, by decide +kernel⟩

theorem test_auxResultIsRead : ∃ (s : State) (m : Fin 2) (k : Fin 24),
    (s.up = true) :=
  ⟨st205, 1, 7, by decide +kernel⟩

theorem test_injectionRequested : ∃ (s : State) (m : Fin 2) (w : Word),
    (s.up = true) ∧ (w.toNat.testBit 31 = true) ∧ (w.toNat % 32 ≤ 23) :=
  ⟨st213, 1, BitVec.ofNat 32 (2^31+7), by decide +kernel⟩

theorem test_injectionRequested_c1 : ∃ (s : State) (m : Fin 2) (w : Word),
    (s.up = true) ∧ (w.toNat.testBit 31 = true) ∧ (w.toNat % 32 ≤ 23) ∧ (s.injReason m = 0) :=
  ⟨st213, 1, BitVec.ofNat 32 (2^31+7), by decide +kernel⟩

theorem test_injectionRequested_c2 : ∃ (s : State) (m : Fin 2) (w : Word),
    (s.up = true) ∧ (w.toNat.testBit 31 = true) ∧ (w.toNat % 32 ≤ 23) ∧ (s.injReason m ≠ 0) :=
  ⟨st214, 1, BitVec.ofNat 32 (2^31+7), by decide +kernel⟩

theorem test_noInjectionRequested : ∃ (s : State) (m : Fin 2) (w : Word),
    (s.up = true) ∧ (w.toNat.testBit 31 = false ∨ 23 < w.toNat % 32) :=
  ⟨st205, 1, BitVec.ofNat 32 (7), by decide +kernel⟩

theorem test_auxTriggerConfigured : ∃ (s : State) (m : Fin 2) (w : Word),
    (s.up = true) :=
  ⟨st205, 1, BitVec.ofNat 32 (st205.grid.now), by decide +kernel⟩

theorem test_testDacControlled : ∃ (s : State) (w : Word),
    (s.up = true) :=
  ⟨st215, BitVec.ofNat 32 (st215.grid.now * 2654435761), by decide +kernel⟩

theorem test_testDacControlled_c1 : ∃ (s : State) (w : Word),
    (s.up = true) ∧ (s.tdacOwned = true) :=
  ⟨st216, BitVec.ofNat 32 (st216.grid.now * 2654435761), by decide +kernel⟩

theorem test_testDacControlled_c2 : ∃ (s : State) (w : Word),
    (s.up = true) ∧ (s.tdacOwned = false) :=
  ⟨st215, BitVec.ofNat 32 (st215.grid.now * 2654435761), by decide +kernel⟩

theorem test_testMarksWritten : ∃ (s : State) (hi : Bool) (w : Word),
    (s.up = true) :=
  ⟨st217, true, 77, by decide +kernel⟩

theorem test_testMarksWritten_c1 : ∃ (s : State) (hi : Bool) (w : Word),
    (s.up = true) ∧ (s.maint = false) :=
  ⟨st217, true, 77, by decide +kernel⟩

theorem test_testMarksWritten_c2 : ∃ (s : State) (hi : Bool) (w : Word),
    (s.up = true) ∧ (s.maint = true) :=
  ⟨st218, true, 77, by decide +kernel⟩

theorem test_bayRegistersLatched : ∃ (s : State) (b : Fin 64) (r : TickRec),
    (s.up = true) ∧ (s.lastDone b = some r) :=
  ⟨st219, 3, (st219.lastDone 3).getD { n := 0, t := 0, per := 0, freq := 0 }, by decide +kernel⟩

theorem test_noTickToLatch : ∃ (s : State) (b : Fin 64),
    (s.up = true) ∧ (s.lastDone b = none) :=
  ⟨st220, 3, by decide +kernel⟩

theorem test_latchResetRequested : ∃ (s : State) (w : Word),
    (s.up = true) :=
  ⟨st205, BitVec.ofNat 32 (st205.grid.now), by decide +kernel⟩

theorem test_rowsForced : ∃ (s : State) (val : Bool) (w : Word),
    (s.up = true) :=
  ⟨st217, true, BitVec.ofNat 32 (st217.grid.now), by decide +kernel⟩

theorem test_rowsForced_c1 : ∃ (s : State) (val : Bool) (w : Word),
    (s.up = true) ∧ (s.maint = false) :=
  ⟨st217, true, BitVec.ofNat 32 (st217.grid.now), by decide +kernel⟩

theorem test_rowsForced_c2 : ∃ (s : State) (val : Bool) (w : Word),
    (s.up = true) ∧ (s.maint = true) :=
  ⟨st218, true, BitVec.ofNat 32 (st218.grid.now), by decide +kernel⟩

theorem test_leapAnnounced : ∃ (s : State) (w : Word),
    (s.up = true) :=
  ⟨st205, 0, by decide +kernel⟩

theorem test_leapAnnounced_c1 : ∃ (s : State) (w : Word),
    (s.up = true) ∧ (w.toNat % 4 = 3) :=
  ⟨st205, 3, by decide +kernel⟩

theorem test_leapAnnounced_c2 : ∃ (s : State) (w : Word),
    (s.up = true) ∧ (w.toNat % 4 ≠ 3) :=
  ⟨st205, 0, by decide +kernel⟩

theorem test_mdioStarts : ∃ (s : State) (w : Word),
    (s.up = true) :=
  ⟨st221, BitVec.ofNat 32 (2^31+7), by decide +kernel⟩

theorem test_mdioStarts_c1 : ∃ (s : State) (w : Word),
    (s.up = true) ∧ (s.mdioBusy = true ∨ w.toNat.testBit 31 = false) :=
  ⟨st221, 5, by decide +kernel⟩

theorem test_mdioStarts_c2 : ∃ (s : State) (w : Word),
    (s.up = true) ∧ (s.mdioBusy = false) ∧ (w.toNat.testBit 31 = true) :=
  ⟨st221, BitVec.ofNat 32 (2^31+7), by decide +kernel⟩

theorem test_testDacFed : ∃ (s : State) (q : Bool) (w : Word),
    (s.up = true) :=
  ⟨st215, true, 77, by decide +kernel⟩

theorem test_testDacFed_c1 : ∃ (s : State) (q : Bool) (w : Word),
    (s.up = true) ∧ (s.tdacOwned = true) :=
  ⟨st216, true, 77, by decide +kernel⟩

theorem test_testDacFed_c2 : ∃ (s : State) (q : Bool) (w : Word),
    (s.up = true) ∧ (s.tdacOwned = false) :=
  ⟨st215, true, 77, by decide +kernel⟩

theorem test_timeOfDayWritten : ∃ (s : State) (q : Bool) (hi : Bool) (w : Word),
    (s.up = true) :=
  ⟨st205, true, true, 77, by decide +kernel⟩

theorem test_phasorStreamSet : ∃ (s : State) (q : Bool) (b : Fin 64) (w : Word),
    (s.up = true) :=
  ⟨st222, true, 63, 77, by decide +kernel⟩

theorem test_phasorStreamSet_c1 : ∃ (s : State) (q : Bool) (b : Fin 64) (w : Word),
    (s.up = true) ∧ (s.measures s.bank b = true) :=
  ⟨st223, true, 63, 77, by decide +kernel⟩

theorem test_berthIrqSet : ∃ (s : State) (q : Bool) (b : Fin 256) (w : Word),
    (s.up = true) ∧ (s.foreign q = false) :=
  ⟨st224, true, 255, 0x12345678, by decide +kernel⟩

theorem test_injectedResultIsRead : ∃ (s : State) (q : Bool) (m : Fin 2),
    (s.up = true) :=
  ⟨st205, true, 1, by decide +kernel⟩

theorem test_headRejected : ∃ (s : State) (q : Bool) (l : List (Nat × Byte)) (v : Word),
    (s.up = true) ∧ (s.foreign q = false) ∧ (s.host.waiting = []) ∧ (s.host.resync = none) ∧ (s.host.partialAt = none) ∧ (s.berthSize 0 < (v.toNat + 2 ^ 32 - s.rd HOST_BERTH_TAIL.VALUE 0) % 2 ^ 32) :=
  ⟨st225, true, ((Packet.bytes 0x0102 ⟨77,2,0,0,[],5⟩).zipIdx.map fun x => (x.2 + st225.rd HOST_BERTH_TAIL.VALUE 0 % st225.berthSize 0, x.1)), BitVec.ofNat 32 (st225.rd HOST_BERTH_TAIL.VALUE 0 + 200000), by decide +kernel⟩

theorem test_foreignHeadCounted : ∃ (s : State) (q : Bool) (l : List (Nat × Byte)) (v : Word),
    (s.up = true) ∧ (s.foreign q = true) ∧ (s.host.waiting = []) ∧ (s.host.resync = none) ∧ (s.host.partialAt = none) :=
  ⟨st226, true, ((Packet.bytes 0x0102 ⟨77,2,0,0,[],5⟩).zipIdx.map fun x => (x.2 + st226.rd HOST_BERTH_TAIL.VALUE 0 % st226.berthSize 0, x.1)), BitVec.ofNat 32 (st226.rd HOST_BERTH_TAIL.VALUE 0 + 16), by decide +kernel⟩

theorem test_headMoves : ∃ (s : State) (q : Bool) (l : List (Nat × Byte)) (v : Word),
    (s.up = true) ∧ (s.foreign q = false) ∧ (s.host.waiting = []) ∧ (s.host.resync = none) ∧ (s.rd HOST_BERTH_TAIL.VALUE 0 < 2 ^ 32) ∧ (16 ≤ s.berthSize 0) ∧ ((v.toNat + 2 ^ 32 - s.rd HOST_BERTH_TAIL.VALUE 0) % 2 ^ 32 < 16) :=
  ⟨st225, true, ((Packet.bytes 0x0102 ⟨77,2,0,0,[],5⟩).zipIdx.map fun x => (x.2 + st225.rd HOST_BERTH_TAIL.VALUE 0 % st225.berthSize 0, x.1)), BitVec.ofNat 32 (st225.rd HOST_BERTH_TAIL.VALUE 0 + 8), by decide +kernel⟩

theorem test_packetWaits : ∃ (s : State) (q : Bool) (l : List (Nat × Byte)) (v : Word),
    (s.up = true) ∧ (s.foreign q = false) ∧ (s.host.waiting = []) ∧ (s.host.resync = none) ∧ (s.rd HOST_BERTH_TAIL.VALUE 0 < 2 ^ 32) ∧ (s.canReply = false) ∧ ((let s1 := s.modHost fun h => { h with mem := hostBytes h.mem l } ; let r := s1.packetAt (s.rd HOST_BERTH_TAIL.VALUE 0) ; let n := (v.toNat + 2 ^ 32 - s.rd HOST_BERTH_TAIL.VALUE 0) % 2 ^ 32 ; 16 ≤ n ∧ n ≤ s.berthSize 0 ∧ n = pad8 (16 + ofLe (s1.b0Read (s.rd HOST_BERTH_TAIL.VALUE 0 + 6) 2)) ∧ r.2.len ≤ 65532)) :=
  ⟨st227, true, ((Packet.bytes 0x0102 ⟨77,2,0,0,[],5⟩).zipIdx.map fun x => (x.2 + st227.rd HOST_BERTH_TAIL.VALUE 0 % st227.berthSize 0, x.1)), BitVec.ofNat 32 (st227.rd HOST_BERTH_TAIL.VALUE 0 + 16), by decide +kernel⟩

theorem test_headerTimed : ∃ (s : State) (q : Bool) (l : List (Nat × Byte)) (v : Word),
    (s.up = true) ∧ (s.foreign q = false) ∧ (s.host.waiting = []) ∧ (s.host.resync = none) ∧ (s.host.partialAt = none) ∧ (s.rd HOST_BERTH_TAIL.VALUE 0 < 2 ^ 32) ∧ ((let s1 := s.modHost fun h => { h with mem := hostBytes h.mem l } ; let n := (v.toNat + 2 ^ 32 - s.rd HOST_BERTH_TAIL.VALUE 0) % 2 ^ 32 ; let len := ofLe (s1.b0Read (s.rd HOST_BERTH_TAIL.VALUE 0 + 6) 2) ; 16 ≤ n ∧ n ≤ s.berthSize 0 ∧ n < pad8 (16 + len) ∧ len ≤ 65532)) :=
  ⟨st225, true, ((Packet.bytes 0x0102 ⟨77,2,0,0,[1,2,3,4],5⟩).zipIdx.map fun x => (x.2 + st225.rd HOST_BERTH_TAIL.VALUE 0 % st225.berthSize 0, x.1)), BitVec.ofNat 32 (st225.rd HOST_BERTH_TAIL.VALUE 0 + 16), by decide +kernel⟩

theorem test_resyncAnswered : ∃ (s : State) (t0 : Nat),
    (s.up = true) ∧ (s.host.partialAt = some t0) ∧ (s.host.waiting = []) ∧ (s.canReply = true) ∧ (Memory.wf s.host.mem = true) :=
  ⟨st228, 5, by decide +kernel⟩

theorem test_tailMoves : ∃ (s : State) (q : Bool) (b : Fin 256) (v : Word) (l : List Msg),
    (s.up = true) ∧ (2 ≤ b.val) ∧ (s.foreign q = false) ∧ (tailAt (s.rd HOST_BERTH_TAIL.VALUE b) v.toNat (s.msgs b) = some l) :=
  ⟨st229, true, 5, 56, [⟨56,8,6⟩,⟨64,32,7⟩], by decide +kernel⟩

theorem test_repliesConsumed : ∃ (s : State) (q : Bool) (v : Word) (l : List Msg),
    (s.up = true) ∧ (s.foreign q = false) ∧ (s.host.waiting = []) ∧ (s.host.resync = none) ∧ (s.host.partialAt = none) ∧ (tailAt (s.rd HOST_BERTH_TAIL.VALUE 1) v.toNat (s.msgs 1) = some l) :=
  ⟨st230, true, 56, [⟨56,8,6⟩,⟨64,32,7⟩], by decide +kernel⟩

theorem test_tailRejected : ∃ (s : State) (q : Bool) (b : Fin 256) (v : Word),
    (s.up = true) ∧ (b.val ≠ 0) ∧ (s.foreign q = false) ∧ (tailAt (s.rd HOST_BERTH_TAIL.VALUE b) v.toNat (s.msgs b) = none) :=
  ⟨st231, true, 5, 57, by decide +kernel⟩

theorem test_foreignBerthWrite : ∃ (s : State) (q : Bool) (b : Fin 256) (w : Word) (c : Instr),
    (s.up = true) ∧ (s.foreign q = true) ∧ ((c = .berthTailWrite q b w ∧ b.val ≠ 0 ∨ c = .hostBerthCfgWrite q b w)) :=
  ⟨st207, true, 5, 57, .berthTailWrite true 5 57, by decide +kernel⟩

theorem test_fixedBerths : ∃ (s : State) (q : Bool) (b : Fin 256) (w : Word) (c : Instr),
    (s.up = true) ∧ (s.foreign q = false) ∧ ((c = .berthTailWrite q 0 w ∨ c = .hostBerthCfgWrite q b w ∧ b.val < 2)) :=
  ⟨st224, true, 1, 57, .berthTailWrite true 0 57, by decide +kernel⟩

theorem test_berthEnabled : ∃ (s : State) (q : Bool) (b : Fin 256) (w : Word),
    (s.up = true) ∧ (2 ≤ b.val) ∧ (s.foreign q = false) ∧ (s.rd HOST_BERTH_CFG.EN b = 0) ∧ (HOST_BERTH_CFG.EN.get w.toNat = 1) ∧ (s.berthFits b (HOST_BERTH_CFG.POLICY.get w.toNat) (HOST_BERTH_CFG.SIZE.get w.toNat) (HOST_BERTH_CFG.BASE.get w.toNat) = true) :=
  ⟨st232, true, 9, BitVec.ofNat 32 (HOST_BERTH_CFG.EN.put (HOST_BERTH_CFG.POLICY.put (HOST_BERTH_CFG.SIZE.put (HOST_BERTH_CFG.BASE.put 0 256) 4) (st232.grid.now % 3)) 1), by decide +kernel⟩

theorem test_berthRefused : ∃ (s : State) (q : Bool) (b : Fin 256) (w : Word),
    (s.up = true) ∧ (2 ≤ b.val) ∧ (s.foreign q = false) ∧ (s.rd HOST_BERTH_CFG.EN b = 0) ∧ (HOST_BERTH_CFG.EN.get w.toNat = 1) ∧ (s.berthFits b (HOST_BERTH_CFG.POLICY.get w.toNat) (HOST_BERTH_CFG.SIZE.get w.toNat) (HOST_BERTH_CFG.BASE.get w.toNat) = false) :=
  ⟨st233, true, 9, BitVec.ofNat 32 (HOST_BERTH_CFG.EN.put (HOST_BERTH_CFG.POLICY.put (HOST_BERTH_CFG.SIZE.put (HOST_BERTH_CFG.BASE.put 0 255) 4) (st233.grid.now % 3)) 1), by decide +kernel⟩

theorem test_berthDisabled : ∃ (s : State) (q : Bool) (b : Fin 256) (w : Word),
    (s.up = true) ∧ (2 ≤ b.val) ∧ (s.foreign q = false) ∧ (s.rd HOST_BERTH_CFG.EN b = 1) :=
  ⟨st234, true, 9, BitVec.ofNat 32 (HOST_BERTH_CFG.EN.put (HOST_BERTH_CFG.POLICY.put (HOST_BERTH_CFG.SIZE.put (HOST_BERTH_CFG.BASE.put 0 255) 4) (st234.grid.now % 3)) 1), by decide +kernel⟩

theorem test_berthDisabled_c1 : ∃ (s : State) (q : Bool) (b : Fin 256) (w : Word),
    (s.up = true) ∧ (2 ≤ b.val) ∧ (s.foreign q = false) ∧ (s.rd HOST_BERTH_CFG.EN b = 1) ∧ (HOST_BERTH_CFG.EN.get w.toNat = 1) :=
  ⟨st234, true, 9, BitVec.ofNat 32 (HOST_BERTH_CFG.EN.put (HOST_BERTH_CFG.POLICY.put (HOST_BERTH_CFG.SIZE.put (HOST_BERTH_CFG.BASE.put 0 255) 4) (st234.grid.now % 3)) 1), by decide +kernel⟩

theorem test_berthDisabled_c2 : ∃ (s : State) (q : Bool) (b : Fin 256) (w : Word),
    (s.up = true) ∧ (2 ≤ b.val) ∧ (s.foreign q = false) ∧ (s.rd HOST_BERTH_CFG.EN b = 1) ∧ (HOST_BERTH_CFG.EN.get w.toNat = 0) :=
  ⟨st234, true, 9, BitVec.ofNat 32 (HOST_BERTH_CFG.EN.put (HOST_BERTH_CFG.POLICY.put (HOST_BERTH_CFG.SIZE.put (HOST_BERTH_CFG.BASE.put 0 256) 4) (st234.grid.now % 3)) 0), by decide +kernel⟩

theorem test_hostInterfaceResets : ∃ (s : State) (w : Word),
    (s.up = true) :=
  ⟨st205, 1, by decide +kernel⟩

theorem test_hostInterfaceResets_c1 : ∃ (s : State) (w : Word),
    (s.up = true) ∧ (w.toNat % 2 = 0) :=
  ⟨st205, 2, by decide +kernel⟩

theorem test_hostInterfaceResets_c2 : ∃ (s : State) (w : Word),
    (s.up = true) ∧ (w.toNat % 2 = 1) :=
  ⟨st205, 1, by decide +kernel⟩

theorem test_pcieResets : ∃ (s : State) (down : Bool),
    (s.up = true) :=
  ⟨st205, true, by decide +kernel⟩

theorem test_pcieResets_c1 : ∃ (s : State) (down : Bool),
    (s.up = true) ∧ (down = true) :=
  ⟨st205, true, by decide +kernel⟩

theorem test_pcieResets_c2 : ∃ (s : State) (down : Bool),
    (s.up = true) ∧ (s.rd HOST_STATUS.NEG = 1) ∧ (s.rd HOST_STATUS.IF = 1) :=
  ⟨st235, true, by decide +kernel⟩

theorem test_pcieResets_c3 : ∃ (s : State) (down : Bool),
    (s.up = true) ∧ (s.rd HOST_STATUS.NEG = 0 ∨ s.rd HOST_STATUS.IF = 0) :=
  ⟨st205, true, by decide +kernel⟩

theorem test_pcieTrains : ∃ (s : State) (gen2 : Bool),
    (s.up = true) :=
  ⟨st205, true, by decide +kernel⟩

theorem test_holdoffRaises : ∃ (s : State) (b : Fin 256) (m : Msg) (l : List Msg),
    (s.up = true) ∧ (s.msgs b = m :: l) ∧ (s.rd HOST_BERTH_IRQ.VEC b < 32) ∧ (s.rd HOST_BERTH_IRQ.HOLDOFF b ≠ 0) ∧ (tget false s.host.armed b = true) :=
  ⟨st236, 5, ⟨40,16,5⟩, [⟨56,8,6⟩], by decide +kernel⟩

theorem test_holdoffSilent : ∃ (s : State) (b : Fin 256),
    (s.up = true) ∧ ((s.msgs b = [] ∨ s.rd HOST_BERTH_IRQ.HOLDOFF b = 0 ∨ tget false s.host.armed b = false)) :=
  ⟨st237, 5, by decide +kernel⟩

theorem test_dropsLogged : ∃ (s : State),
    (s.up = true) :=
  ⟨st238, by decide +kernel⟩

theorem test_chunkExported : ∃ (s : State) (e : RecExport) (c : List Byte) (l : List (List Byte)),
    (s.up = true) ∧ (s.rec'.exporting = some e) ∧ (e.chunks = c :: l) ∧ (s.berthOk e.berth 2 8192 = true) ∧ (s.content e.berth + pad8 (8 + c.length) ≤ s.berthSize e.berth) ∧ (c.length + 16 ≤ s.berthSize e.berth) ∧ (c.length < 65536) ∧ (Memory.wf s.host.mem = true) ∧ (s.rd HOST_BERTH_SEQ.VALUE e.berth < 2 ^ 32) :=
  ⟨st239, ⟨5,9,[[1,2,3,4,5],[6,7]]⟩, [1,2,3,4,5], [[6,7]], by decide +kernel⟩

theorem test_chunkExported_c1 : ∃ (s : State) (e : RecExport) (c : List Byte) (l : List (List Byte)),
    let hd := s.rd HOST_BERTH_HEAD.VALUE e.berth; (s.up = true) ∧ (s.rec'.exporting = some e) ∧ (e.chunks = c :: l) ∧ (s.berthOk e.berth 2 8192 = true) ∧ (s.content e.berth + pad8 (8 + c.length) ≤ s.berthSize e.berth) ∧ (c.length + 16 ≤ s.berthSize e.berth) ∧ (c.length < 65536) ∧ (Memory.wf s.host.mem = true) ∧ (s.rd HOST_BERTH_SEQ.VALUE e.berth < 2 ^ 32) ∧ (l = []) :=
  ⟨st240, ⟨5,9,[[1,2,3,4,5]]⟩, [1,2,3,4,5], [], by decide +kernel⟩

theorem test_leaseExpires : ∃ (s : State),
    (s.up = true) ∧ (s.maint = true) :=
  ⟨st241, by decide +kernel⟩

theorem test_lockoutEnds : ∃ (s : State) (e : Nat),
    (s.up = true) ∧ (s.cust.lockEnd = some e) :=
  ⟨st242, 500, by decide +kernel⟩

theorem test_bankComesIntoForce : ∃ (s : State) (p : PendRec),
    (s.up = true) ∧ (s.swapNext = some p) :=
  ⟨st243, { bank := { words := [(AFE_CH_CFG.MODE.at' 2 0, 1)] }, bdig := 77, sdig := 88, at' := none, ctr := 5, accepted := 0 }, by decide +kernel⟩

theorem test_noSwapDue : ∃ (s : State),
    (s.up = true) ∧ (s.swapNext = none) :=
  ⟨st244, by decide +kernel⟩

theorem test_entryDurable : ∃ (s : State) (e : LogEntry) (t0 : Nat) (l : List (LogEntry × Nat)),
    (s.up = true) ∧ (s.writesHeld = false) ∧ (s.rd EVT_STATUS.READY = 1) ∧ (s.log.queue = (e, t0) :: l) :=
  ⟨st245, ⟨5,6,0,0x0010 + st245.grid.now % 2,3,9,1,0⟩, 500, [(⟨5,6,0,1,3,9,1,0⟩,600)], by decide +kernel⟩

theorem test_entryDurable_c1 : ∃ (s : State) (e : LogEntry) (t0 : Nat) (l : List (LogEntry × Nat)),
    (s.up = true) ∧ (s.writesHeld = false) ∧ (s.rd EVT_STATUS.READY = 1) ∧ (s.log.queue = (e, t0) :: l) ∧ (s.nv.log.nextSeq ≠ 4096) :=
  ⟨st246, ⟨5,6,0,0x0010 + st246.grid.now % 2,3,9,1,0⟩, 500, [(⟨5,6,0,1,3,9,1,0⟩,600)], by decide +kernel⟩

theorem test_entryDurable_c2 : ∃ (s : State) (e : LogEntry) (t0 : Nat) (l : List (LogEntry × Nat)),
    (s.up = true) ∧ (s.writesHeld = false) ∧ (s.rd EVT_STATUS.READY = 1) ∧ (s.log.queue = (e, t0) :: l) ∧ (s.nv.log.nextSeq = 4096) :=
  ⟨st245, ⟨5,6,0,0x0010 + st245.grid.now % 2,3,9,1,0⟩, 500, [(⟨5,6,0,1,3,9,1,0⟩,600)], by decide +kernel⟩

theorem test_entryDurable_c3 : ∃ (s : State) (e : LogEntry) (t0 : Nat) (l : List (LogEntry × Nat)),
    (s.up = true) ∧ (s.writesHeld = false) ∧ (s.rd EVT_STATUS.READY = 1) ∧ (s.log.queue = (e, t0) :: l) ∧ (e.code ≠ 0x0011) :=
  ⟨st245, ⟨5,6,0,0x0010 + st245.grid.now % 2,3,9,1,0⟩, 500, [(⟨5,6,0,1,3,9,1,0⟩,600)], by decide +kernel⟩

theorem test_entryDurable_c4 : ∃ (s : State) (e : LogEntry) (t0 : Nat) (l : List (LogEntry × Nat)),
    (s.up = true) ∧ (s.writesHeld = false) ∧ (s.rd EVT_STATUS.READY = 1) ∧ (s.log.queue = (e, t0) :: l) ∧ (e.code = 0x0011) :=
  ⟨st246, ⟨5,6,0,0x0010 + st246.grid.now % 2,3,9,1,0⟩, 500, [(⟨5,6,0,1,3,9,1,0⟩,600)], by decide +kernel⟩

theorem test_entryOffered : ∃ (s : State) (e : LogEntry) (t0 : Nat) (l : List (LogEntry × Nat)),
    (s.up = true) ∧ (s.writesHeld = false) ∧ (s.rd EVT_STATUS.READY = 1) ∧ (s.log.queue = (e, t0) :: l) ∧ (s.rd EVT_BERTH.EN = 1) ∧ (s.berthOk (s.rd EVT_BERTH.BERTH) 1 1024 = true) ∧ (s.content (s.rd EVT_BERTH.BERTH) + 40 ≤ s.berthSize (s.rd EVT_BERTH.BERTH)) ∧ (Memory.wf s.host.mem = true) :=
  ⟨st247, ⟨5,6,0,0x0010 + st247.grid.now % 2,3,9,1,0⟩, 500, [(⟨5,6,0,1,3,9,1,0⟩,600)], by decide +kernel⟩

theorem test_appendWaits : ∃ (s : State),
    (s.up = true) ∧ ((s.log.queue = [] ∨ s.writesHeld = true ∨ s.rd EVT_STATUS.READY = 0)) :=
  ⟨st248, by decide +kernel⟩

theorem test_suppressedLogged : ∃ (s : State),
    (s.up = true) ∧ (s.log.queue.length + (s.log.buckets.filter fun x => x.2.supp != 0).length ≤ 4096) :=
  ⟨st249, by decide +kernel⟩

theorem test_packetRejected : ∃ (s : State) (c : Instr) (q : Bool) (op : Nat) (p : Packet) (st : Status) (d : List Nat),
    (hostRow c = some (q, op, p)) ∧ (s.Takes q op p) ∧ (s.commonCheck op p = some (st, d)) :=
  ⟨st250, .pairYield true ({ mkP 0x0102 0 [] with crc := 5 }), true, 0x0902, { mkP 0x0102 0 [] with crc := 5 }, .badCrc, [], by unfold State.Takes State.Offers; decide +kernel⟩

theorem test_packetRejected_c1 : ∃ (s : State) (c : Instr) (q : Bool) (op : Nat) (p : Packet) (st : Status) (d : List Nat),
    let bad := st = .badLength ∨ st = .badCrc ∨ st = .ifverUnsupported; (hostRow c = some (q, op, p)) ∧ (s.Takes q op p) ∧ (s.commonCheck op p = some (st, d)) ∧ (bad) :=
  ⟨st250, .pairYield true ({ mkP 0x0102 0 [] with crc := 5 }), true, 0x0902, { mkP 0x0102 0 [] with crc := 5 }, .badCrc, [], by unfold State.Takes State.Offers; decide +kernel⟩

theorem test_commandWaitsForMram : ∃ (s : State) (c : Instr) (q : Bool) (op : Nat) (p : Packet),
    (hostRow c = some (q, op, p)) ∧ (s.Offers q p) ∧ (s.rd HOST_BERTH_HEAD.VALUE 0 = s.rd HOST_BERTH_TAIL.VALUE 0) ∧ (s.mramWait op = true) :=
  ⟨st251, .setCommit true (mkP 0x0603 0 (wds [0])), true, 0x0603, mkP 0x0603 0 (wds [0]), by unfold State.Offers; decide +kernel⟩

theorem test_badOpcodeAnswered : ∃ (s : State) (q : Bool) (op : BitVec 16) (p : Packet),
    (s.Takes q op.toNat p) ∧ (opcodes.contains op.toNat = false) ∧ (p.len % 4 = 0) ∧ (p.len ≤ (if s.rd HOST_STATUS.NEG = 1 then ifverLimit (s.rd HOST_STATUS.IFVER) else ifverLimit p.ifver.toNat)) ∧ (p.crc.toNat = p.crcOf op.toNat) ∧ ((if s.rd HOST_STATUS.NEG = 1 then p.ifver.toNat = s.rd HOST_STATUS.IFVER else p.ifver = 1 ∨ p.ifver = 2)) ∧ (p.flags = 0) ∧ (p.ifver = 1 ∨ p.ifver = 2) :=
  ⟨st252, true, 0x1234, mkP 0x1234 0 [], by unfold State.Takes State.Offers; decide +kernel⟩

theorem test_foreignPacketCounted : ∃ (s : State) (c : Instr) (q : Bool) (op : Nat) (p : Packet),
    (s.up = true) ∧ (hostRow c = some (q, op, p)) ∧ (s.foreign q = true) :=
  ⟨st206, .identify false (mkP 0x0102 0 []), false, 0x0102, mkP 0x0102 0 [], by decide +kernel⟩

theorem test_packetWithoutRoom : ∃ (s : State) (c : Instr) (q : Bool) (op : Nat) (p : Packet),
    (s.up = true) ∧ (hostRow c = some (q, op, p)) ∧ (s.foreign q = false) ∧ (s.berthSize 0 < s.content 0 + p.size) :=
  ⟨st253, .identify true (mkP 0x0102 0 []), true, 0x0102, mkP 0x0102 0 [], by decide +kernel⟩

theorem test_noPacketTaken : ∃ (s : State) (c : Instr) (q : Bool) (op : Nat) (p : Packet),
    ((s.up = false ∧ hostRow c = some (q, op, p)) ∨ (c = .setStageOpen q p ∧ (p.subop = 2 ∨ p.subop = 3)) ∨ (c = .setStageWrite q p ∧ p.subop ≠ 2) ∨ (c = .setStageSeal q p ∧ p.subop ≠ 3)) :=
  ⟨st254, .identify true (mkP 0x0102 0 []), true, 0x0102, mkP 0x0102 0 [], by decide +kernel⟩

theorem test_wrongLength : ∃ (s : State) (c : Instr) (q : Bool) (op : Nat) (n : Nat) (p : Packet),
    (hostRow c = some (q, op, p)) ∧ (s.Ready q op p) ∧ (fixedLength op = some n) ∧ (p.len ≠ n) :=
  ⟨st206, .negotiate true (mkP 0x0101 (0) (wds [0,1,2,3])), true, 0x0101, 12, mkP 0x0101 (0) (wds [0,1,2,3]), by unfold State.Ready State.Takes State.Offers; decide +kernel⟩

theorem test_wrongTarget : ∃ (s : State) (c : Instr) (q : Bool) (op : Nat) (m : Nat) (p : Packet),
    (hostRow c = some (q, op, p)) ∧ (s.Ready q op p) ∧ (fixedLength op = some p.len) ∧ (lastTarget op = some m) ∧ (m < p.target.toNat) :=
  ⟨st206, .auxInject true (mkP 0x0202 (2) (wds [0])), true, 0x0202, 1, mkP 0x0202 (2) (wds [0]), by unfold State.Ready State.Takes State.Offers; decide +kernel⟩

theorem test_unitIdentified : ∃ (s : State) (q : Bool) (p : Packet),
    (s.Ready q 0x0102 p) ∧ (p.len = 0) ∧ (p.target = 0) :=
  ⟨st206, true, mkP 0x0102 (0) (wds []), by unfold State.Ready State.Takes State.Offers; decide +kernel⟩

theorem test_restartAccepted : ∃ (s : State) (q : Bool) (p : Packet),
    (s.Ready q 0x0103 p) ∧ (p.len = 4) ∧ (p.target = 0) ∧ (p.word 0 = 0x54534552) ∧ ((s.maint = true ∨ (s.role ≠ 4 ∧ (s.role ≠ 0 ∨ s.pwr.prot = false)))) ∧ (s.rd EVT_BERTH.EN = 0) :=
  ⟨st255, true, mkP 0x0103 (0) (wds [1414743378]), by unfold State.Ready State.Takes State.Offers; decide +kernel⟩

theorem test_restartRefused : ∃ (s : State) (q : Bool) (p : Packet),
    (s.Ready q 0x0103 p) ∧ (p.len = 4) ∧ (p.target = 0) ∧ (p.word 0 = 0x54534552) ∧ (s.maint = false) ∧ (s.role = 4 ∨ (s.role = 0 ∧ s.pwr.prot = true)) :=
  ⟨st256, true, mkP 0x0103 (0) (wds [1414743378]), by unfold State.Ready State.Takes State.Offers; decide +kernel⟩

theorem test_maintenanceEntered : ∃ (s : State) (q : Bool) (p : Packet),
    (s.Ready q 0x0104 p) ∧ (p.len = 8) ∧ (p.target = 0) ∧ (s.role ≠ 3) ∧ (p.word 0 % 2 = 1) ∧ (60 ≤ p.word 1) ∧ (p.word 1 ≤ 86400) :=
  ⟨st257, true, mkP 0x0104 (0) (wds [1,3600]), by unfold State.Ready State.Takes State.Offers; decide +kernel⟩

theorem test_maintenanceRefused : ∃ (s : State) (q : Bool) (p : Packet),
    (s.Ready q 0x0104 p) ∧ (p.len = 8) ∧ (p.target = 0) :=
  ⟨st258, true, mkP 0x0104 (0) (wds [1,59]), by unfold State.Ready State.Takes State.Offers; decide +kernel⟩

theorem test_maintenanceRefused_c1 : ∃ (s : State) (q : Bool) (p : Packet),
    (s.Ready q 0x0104 p) ∧ (p.len = 8) ∧ (p.target = 0) ∧ (s.role = 3) :=
  ⟨st259, true, mkP 0x0104 (0) (wds [1,59]), by unfold State.Ready State.Takes State.Offers; decide +kernel⟩

theorem test_maintenanceRefused_c2 : ∃ (s : State) (q : Bool) (p : Packet),
    (s.Ready q 0x0104 p) ∧ (p.len = 8) ∧ (p.target = 0) ∧ (s.role ≠ 3) ∧ (p.word 0 % 2 = 1) ∧ (p.word 1 < 60 ∨ 86400 < p.word 1) :=
  ⟨st258, true, mkP 0x0104 (0) (wds [1,59]), by unfold State.Ready State.Takes State.Offers; decide +kernel⟩

theorem test_maintenanceLeft : ∃ (s : State) (q : Bool) (p : Packet),
    (s.Ready q 0x0104 p) ∧ (p.len = 8) ∧ (p.target = 0) ∧ (s.role ≠ 3) ∧ (p.word 0 % 2 = 0) ∧ (s.maint = true) :=
  ⟨st260, true, mkP 0x0104 (0) (wds [0,0]), by unfold State.Ready State.Takes State.Offers; decide +kernel⟩

theorem test_selfCalibrationBegins : ∃ (s : State) (q : Bool) (p : Packet),
    (s.Ready q 0x0201 p) ∧ (p.len = 4) ∧ (p.target = 0) ∧ (p.word 0 < 64) ∧ (p.word 0 ≠ 0) ∧ (s.inService (groupChans (p.word 0 % 16)) = false) ∧ (s.afe.cal = none) ∧ (s.afe.diag = none) ∧ (s.afe.skew = none) ∧ (s.rd AFE_STATUS.GRP_BIST &&& (p.word 0 % 16) = 0) ∧ (s.rd AUX_STATUS.BIST &&& (p.word 0 / 16 % 4) = 0) :=
  ⟨st261, true, mkP 0x0201 (0) (wds [53]), by unfold State.Ready State.Takes State.Offers; decide +kernel⟩

theorem test_selfCalibrationRefused : ∃ (s : State) (q : Bool) (p : Packet),
    (s.Ready q 0x0201 p) ∧ (p.len = 4) ∧ (p.target = 0) ∧ (p.word 0 < 64) ∧ (p.word 0 ≠ 0) :=
  ⟨st262, true, mkP 0x0201 (0) (wds [53]), by unfold State.Ready State.Takes State.Offers; decide +kernel⟩

theorem test_selfCalibrationRefused_c1 : ∃ (s : State) (q : Bool) (p : Packet),
    (s.Ready q 0x0201 p) ∧ (p.len = 4) ∧ (p.target = 0) ∧ (p.word 0 < 64) ∧ (p.word 0 ≠ 0) ∧ (s.inService (groupChans (p.word 0 % 16)) = true) :=
  ⟨st263, true, mkP 0x0201 (0) (wds [53]), by unfold State.Ready State.Takes State.Offers; decide +kernel⟩

theorem test_selfCalibrationRefused_c2 : ∃ (s : State) (q : Bool) (p : Packet),
    (s.Ready q 0x0201 p) ∧ (p.len = 4) ∧ (p.target = 0) ∧ (p.word 0 < 64) ∧ (p.word 0 ≠ 0) ∧ (s.inService (groupChans (p.word 0 % 16)) = false) ∧ (s.afe.cal.isSome = true) :=
  ⟨st264, true, mkP 0x0201 (0) (wds [53]), by unfold State.Ready State.Takes State.Offers; decide +kernel⟩

theorem test_injectionAnswered : ∃ (s : State) (q : Bool) (p : Packet) (m : Fin 2),
    (s.Ready q 0x0202 p) ∧ (p.len = 4) ∧ (p.target.toNat = m.val) ∧ (p.word 0 ≤ 23) :=
  ⟨st206, true, mkP 0x0202 (1) (wds [7]), 1, by unfold State.Ready State.Takes State.Offers; decide +kernel⟩

theorem test_injectionAnswered_c1 : ∃ (s : State) (q : Bool) (p : Packet) (m : Fin 2),
    (s.Ready q 0x0202 p) ∧ (p.len = 4) ∧ (p.target.toNat = m.val) ∧ (p.word 0 ≤ 23) ∧ (s.injReason m = 0) :=
  ⟨st206, true, mkP 0x0202 (1) (wds [7]), 1, by unfold State.Ready State.Takes State.Offers; decide +kernel⟩

theorem test_injectionAnswered_c2 : ∃ (s : State) (q : Bool) (p : Packet) (m : Fin 2),
    (s.Ready q 0x0202 p) ∧ (p.len = 4) ∧ (p.target.toNat = m.val) ∧ (p.word 0 ≤ 23) ∧ (s.injReason m ≠ 0) :=
  ⟨st265, true, mkP 0x0202 (1) (wds [7]), 1, by unfold State.Ready State.Takes State.Offers; decide +kernel⟩

theorem test_diagnosisBegins : ∃ (s : State) (q : Bool) (p : Packet),
    (s.Ready q 0x0203 p) ∧ (p.len = 0) ∧ (p.target.toNat < 64) ∧ (s.frontFree [p.target.toNat]) :=
  ⟨st261, true, mkP 0x0203 (63) (wds []), by unfold State.Ready State.frontFree State.Takes State.Offers; decide +kernel⟩

theorem test_skewCalibrationBegins : ∃ (s : State) (q : Bool) (p : Packet) (m : Nat),
    (s.Ready q 0x0204 p) ∧ (p.len = 8) ∧ (p.target = 0) ∧ (m = p.word 0 + 2 ^ 32 * p.word 1) ∧ (m ≠ 0) ∧ (s.frontFree (maskIdx 64 m)) :=
  ⟨st261, true, mkP 0x0204 (0) (wds [5,8]), 5 + 2^32*8, by unfold State.Ready State.frontFree State.Takes State.Offers; decide +kernel⟩

theorem test_bankLoaded : ∃ (s : State) (q : Bool) (p : Packet),
    (s.Ready q 0x0301 p) ∧ (p.len = (if (p.word 2).testBit 4 then 12 else if (p.word 2).testBit 0 then 568 else 440)) ∧ (p.target = 0) ∧ (maskIdx 64 p.mask64 ≠ []) ∧ ((∀ c ∈ maskIdx 64 p.mask64, (s.chan c).swap = none ∧ s.rd FLT_CH_CFG.RCODE c = (bankOf p).rcode)) ∧ (((bankOf p).rom = true ∨ (((bankOf p).minPhase = true ∨ ((bankOf p).h = (bankOf p).h.reverse ∧ (bankOf p).g = (bankOf p).g.reverse)) ∧ dcOk (bankOf p).h = true ∧ dcOk (bankOf p).g = true))) :=
  ⟨st266, true, mkP 0x0301 (0) (wds [5,8,18]), by unfold State.Ready State.Takes State.Offers; decide +kernel⟩

theorem test_bankLoaded_c1 : ∃ (s : State) (q : Bool) (p : Packet),
    (s.Ready q 0x0301 p) ∧ (p.len = (if (p.word 2).testBit 4 then 12 else if (p.word 2).testBit 0 then 568 else 440)) ∧ (p.target = 0) ∧ (maskIdx 64 p.mask64 ≠ []) ∧ ((∀ c ∈ maskIdx 64 p.mask64, (s.chan c).swap = none ∧ s.rd FLT_CH_CFG.RCODE c = (bankOf p).rcode)) ∧ (((bankOf p).rom = true ∨ (((bankOf p).minPhase = true ∨ ((bankOf p).h = (bankOf p).h.reverse ∧ (bankOf p).g = (bankOf p).g.reverse)) ∧ dcOk (bankOf p).h = true ∧ dcOk (bankOf p).g = true))) ∧ (s.writesHeld = false) :=
  ⟨st266, true, mkP 0x0301 (0) (wds [5,8,18]), by unfold State.Ready State.Takes State.Offers; decide +kernel⟩

theorem test_bankLoaded_c2 : ∃ (s : State) (q : Bool) (p : Packet),
    (s.Ready q 0x0301 p) ∧ (p.len = (if (p.word 2).testBit 4 then 12 else if (p.word 2).testBit 0 then 568 else 440)) ∧ (p.target = 0) ∧ (maskIdx 64 p.mask64 ≠ []) ∧ ((∀ c ∈ maskIdx 64 p.mask64, (s.chan c).swap = none ∧ s.rd FLT_CH_CFG.RCODE c = (bankOf p).rcode)) ∧ (((bankOf p).rom = true ∨ (((bankOf p).minPhase = true ∨ ((bankOf p).h = (bankOf p).h.reverse ∧ (bankOf p).g = (bankOf p).g.reverse)) ∧ dcOk (bankOf p).h = true ∧ dcOk (bankOf p).g = true))) ∧ (s.writesHeld = true) :=
  ⟨st267, true, mkP 0x0301 (0) (wds [5,8,18]), by unfold State.Ready State.Takes State.Offers; decide +kernel⟩

theorem test_swapQueued : ∃ (s : State) (q : Bool) (p : Packet),
    (s.Ready q 0x0302 p) ∧ (p.len = 12) ∧ (p.target = 0) ∧ (p.mask64 ≠ 0) ∧ ((p.word 2).testBit 8 = false) ∧ (p.word 2 % 16 ≤ 12) ∧ ((∀ c ∈ maskIdx 64 p.mask64, (s.chan c).swap = none ∧ (s.chan c).queued = none ∧ (s.idleBank c).isSome = true ∧ s.inService [c] = false)) :=
  ⟨st268, true, mkP 0x0302 (0) (wds [5,8,7]), by unfold State.Ready State.Takes State.Offers; decide +kernel⟩

theorem test_swapRefused : ∃ (s : State) (q : Bool) (p : Packet),
    (s.Ready q 0x0302 p) ∧ (p.len = 12) ∧ (p.target = 0) ∧ (p.mask64 ≠ 0) ∧ ((p.word 2).testBit 8 = false) ∧ (p.word 2 % 16 ≤ 12) :=
  ⟨st269, true, mkP 0x0302 (0) (wds [5,0,7]), by unfold State.Ready State.Takes State.Offers; decide +kernel⟩

theorem test_swapRefused_c1 : ∃ (s : State) (q : Bool) (p : Packet),
    (s.Ready q 0x0302 p) ∧ (p.len = 12) ∧ (p.target = 0) ∧ (p.mask64 ≠ 0) ∧ ((p.word 2).testBit 8 = false) ∧ (p.word 2 % 16 ≤ 12) ∧ ((∃ c ∈ maskIdx 64 p.mask64, (s.chan c).swap = none ∧ s.idleBank c = none)) :=
  ⟨st269, true, mkP 0x0302 (0) (wds [5,0,7]), by unfold State.Ready State.Takes State.Offers; decide +kernel⟩

theorem test_swapRefused_c2 : ∃ (s : State) (q : Bool) (p : Packet),
    (s.Ready q 0x0302 p) ∧ (p.len = 12) ∧ (p.target = 0) ∧ (p.mask64 ≠ 0) ∧ ((p.word 2).testBit 8 = false) ∧ (p.word 2 % 16 ≤ 12) ∧ ((∀ c ∈ maskIdx 64 p.mask64, (s.chan c).swap.isSome = true ∨ (s.idleBank c).isSome = true)) ∧ ((∃ c ∈ maskIdx 64 p.mask64, (s.chan c).queued.isSome = true)) :=
  ⟨st270, true, mkP 0x0302 (0) (wds [5,0,7]), by unfold State.Ready State.Takes State.Offers; decide +kernel⟩

theorem test_syncScheduled : ∃ (s : State) (q : Bool) (p : Packet),
    (s.Ready q 0x0303 p) ∧ (p.len = 8) ∧ (p.target = 0) ∧ (p.mask64 ≠ 0) ∧ (s.inService (maskIdx 64 p.mask64) = false) :=
  ⟨st271, true, mkP 0x0303 (0) (wds [5,8]), by unfold State.Ready State.Takes State.Offers; decide +kernel⟩

theorem test_timeIsSet : ∃ (s : State) (q : Bool) (p : Packet) (d : Nat) (theta : Int),
    (s.Ready q 0x0401 p) ∧ (p.len = 16) ∧ (p.target = 0) ∧ (s.rd GRID_TQ.SOURCE ≠ 1) ∧ (s.rd GRID_TQ.SOURCE ≠ 2) ∧ (s.rd GRID_TQ.SOURCE ≠ 3) ∧ (d = p.word 2 + 2 ^ 32 * p.word 3) ∧ (d ≤ s.grid.now) ∧ (s.grid.now ≤ d + 2500000000) ∧ (theta = s.taiOf d - sx 64 (p.word 0 + 2 ^ 32 * p.word 1)) :=
  ⟨st272, true, mkP 0x0401 (0) (wds [toBits 64 (st272.taiOf (st272.grid.now - 5) - 500) % 2^32,toBits 64 (st272.taiOf (st272.grid.now - 5) - 500) / 2^32,st272.grid.now - 5,0]), (st272.grid.now - 5), 500, by unfold State.Ready State.Takes State.Offers; decide +kernel⟩

theorem test_timeIsSet_c1 : ∃ (s : State) (q : Bool) (p : Packet) (d : Nat) (theta : Int),
    (s.Ready q 0x0401 p) ∧ (p.len = 16) ∧ (p.target = 0) ∧ (s.rd GRID_TQ.SOURCE ≠ 1) ∧ (s.rd GRID_TQ.SOURCE ≠ 2) ∧ (s.rd GRID_TQ.SOURCE ≠ 3) ∧ (d = p.word 2 + 2 ^ 32 * p.word 3) ∧ (d ≤ s.grid.now) ∧ (s.grid.now ≤ d + 2500000000) ∧ (theta = s.taiOf d - sx 64 (p.word 0 + 2 ^ 32 * p.word 1)) ∧ (theta.natAbs ≤ 1000) :=
  ⟨st272, true, mkP 0x0401 (0) (wds [toBits 64 (st272.taiOf (st272.grid.now - 5) - 500) % 2^32,toBits 64 (st272.taiOf (st272.grid.now - 5) - 500) / 2^32,st272.grid.now - 5,0]), (st272.grid.now - 5), 500, by unfold State.Ready State.Takes State.Offers; decide +kernel⟩

theorem test_timeIsSet_c2 : ∃ (s : State) (q : Bool) (p : Packet) (d : Nat) (theta : Int),
    (s.Ready q 0x0401 p) ∧ (p.len = 16) ∧ (p.target = 0) ∧ (s.rd GRID_TQ.SOURCE ≠ 1) ∧ (s.rd GRID_TQ.SOURCE ≠ 2) ∧ (s.rd GRID_TQ.SOURCE ≠ 3) ∧ (d = p.word 2 + 2 ^ 32 * p.word 3) ∧ (d ≤ s.grid.now) ∧ (s.grid.now ≤ d + 2500000000) ∧ (theta = s.taiOf d - sx 64 (p.word 0 + 2 ^ 32 * p.word 1)) ∧ (1000 < theta.natAbs) :=
  ⟨st272, true, mkP 0x0401 (0) (wds [toBits 64 (st272.taiOf (st272.grid.now - 5) - 1001) % 2^32,toBits 64 (st272.taiOf (st272.grid.now - 5) - 1001) / 2^32,st272.grid.now - 5,0]), (st272.grid.now - 5), 1001, by unfold State.Ready State.Takes State.Offers; decide +kernel⟩

theorem test_timeSetRefused : ∃ (s : State) (q : Bool) (p : Packet),
    (s.Ready q 0x0401 p) ∧ (p.len = 16) ∧ (p.target = 0) :=
  ⟨st273, true, mkP 0x0401 (0) (wds [0,0,st273.grid.now + 1,0]), by unfold State.Ready State.Takes State.Offers; decide +kernel⟩

theorem test_timeSetRefused_c1 : ∃ (s : State) (q : Bool) (p : Packet),
    (s.Ready q 0x0401 p) ∧ (p.len = 16) ∧ (p.target = 0) ∧ (s.rd GRID_TQ.SOURCE ∈ [1, 2, 3]) :=
  ⟨st274, true, mkP 0x0401 (0) (wds [0,0,st274.grid.now + 1,0]), by unfold State.Ready State.Takes State.Offers; decide +kernel⟩

theorem test_timeSetRefused_c2 : ∃ (s : State) (q : Bool) (p : Packet),
    (s.Ready q 0x0401 p) ∧ (p.len = 16) ∧ (p.target = 0) ∧ (s.rd GRID_TQ.SOURCE ∉ [1, 2, 3]) ∧ (s.grid.now < p.word 2 + 2 ^ 32 * p.word 3 ∨ p.word 2 + 2 ^ 32 * p.word 3 + 2500000000 < s.grid.now) :=
  ⟨st273, true, mkP 0x0401 (0) (wds [0,0,st273.grid.now + 1,0]), by unfold State.Ready State.Takes State.Offers; decide +kernel⟩

theorem test_tapManaged : ∃ (s : State) (q : Bool) (p : Packet) (x : Tap),
    (s.Ready q 0x0501 p) ∧ (p.len = 4) ∧ (x = { goose := (p.word 0).testBit 8, sub := p.target.toNat, berth := p.word 0 % 256 }) ∧ (x.sub ≤ (if x.goose then 1023 else 255)) :=
  ⟨st275, true, mkP 0x0501 (5) (wds [265]), ⟨true,5,9⟩, by unfold State.Ready State.Takes State.Offers; decide +kernel⟩

theorem test_tapManaged_c1 : ∃ (s : State) (q : Bool) (p : Packet) (x : Tap),
    (s.Ready q 0x0501 p) ∧ (p.len = 4) ∧ (x = { goose := (p.word 0).testBit 8, sub := p.target.toNat, berth := p.word 0 % 256 }) ∧ (x.sub ≤ (if x.goose then 1023 else 255)) ∧ ((p.word 0).testBit 9 = false) :=
  ⟨st275, true, mkP 0x0501 (5) (wds [265]), ⟨true,5,9⟩, by unfold State.Ready State.Takes State.Offers; decide +kernel⟩

theorem test_tapManaged_c2 : ∃ (s : State) (q : Bool) (p : Packet) (x : Tap),
    (s.Ready q 0x0501 p) ∧ (p.len = 4) ∧ (x = { goose := (p.word 0).testBit 8, sub := p.target.toNat, berth := p.word 0 % 256 }) ∧ (x.sub ≤ (if x.goose then 1023 else 255)) ∧ ((p.word 0).testBit 9 = true) ∧ (s.berthOk x.berth 0 4096 = true) ∧ (x ∉ s.host.taps) ∧ (s.host.taps.length < 4) :=
  ⟨st275, true, mkP 0x0501 (5) (wds [777]), ⟨true,5,9⟩, by unfold State.Ready State.Takes State.Offers; decide +kernel⟩

theorem test_tapManaged_c3 : ∃ (s : State) (q : Bool) (p : Packet) (x : Tap),
    (s.Ready q 0x0501 p) ∧ (p.len = 4) ∧ (x = { goose := (p.word 0).testBit 8, sub := p.target.toNat, berth := p.word 0 % 256 }) ∧ (x.sub ≤ (if x.goose then 1023 else 255)) ∧ ((p.word 0).testBit 9 = true) ∧ (s.berthOk x.berth 0 4096 = true) ∧ (x ∈ s.host.taps) :=
  ⟨st276, true, mkP 0x0501 (5) (wds [777]), ⟨true,5,9⟩, by unfold State.Ready State.Takes State.Offers; decide +kernel⟩

theorem test_tapManaged_c4 : ∃ (s : State) (q : Bool) (p : Packet) (x : Tap),
    (s.Ready q 0x0501 p) ∧ (p.len = 4) ∧ (x = { goose := (p.word 0).testBit 8, sub := p.target.toNat, berth := p.word 0 % 256 }) ∧ (x.sub ≤ (if x.goose then 1023 else 255)) ∧ ((p.word 0).testBit 9 = true) ∧ (s.berthOk x.berth 0 4096 = true) ∧ (x ∉ s.host.taps) ∧ (4 ≤ s.host.taps.length) :=
  ⟨st277, true, mkP 0x0501 (5) (wds [777]), ⟨true,5,9⟩, by unfold State.Ready State.Takes State.Offers; decide +kernel⟩

theorem test_tapManaged_c5 : ∃ (s : State) (q : Bool) (p : Packet) (x : Tap),
    (s.Ready q 0x0501 p) ∧ (p.len = 4) ∧ (x = { goose := (p.word 0).testBit 8, sub := p.target.toNat, berth := p.word 0 % 256 }) ∧ (x.sub ≤ (if x.goose then 1023 else 255)) ∧ ((p.word 0).testBit 9 = true) ∧ (s.berthOk x.berth 0 4096 = false) :=
  ⟨st278, true, mkP 0x0501 (5) (wds [777]), ⟨true,5,9⟩, by unfold State.Ready State.Takes State.Offers; decide +kernel⟩

theorem test_stagingOpened : ∃ (s : State) (q : Bool) (p : Packet),
    (s.Ready q 0x0601 p) ∧ (p.len = 4) ∧ (p.target = 0) ∧ (p.word 0 % 256 = 1) ∧ (s.chamber = 0) :=
  ⟨st279, true, mkP 0x0601 (0) (wds [1]), by unfold State.Ready State.Takes State.Offers; decide +kernel⟩

theorem test_stagingBusy : ∃ (s : State) (q : Bool) (p : Packet) (c : Instr),
    (s.Ready q 0x0601 p) ∧ (p.target = 0) ∧ ((c = .setStageOpen q p ∧ p.word 0 % 256 = 1 ∧ p.len = 4 ∧ s.chamber ≠ 0) ∨ (c = .setStageWrite q p ∧ p.word 0 % 256 = 2 ∧ 12 ≤ p.len ∧ p.len = 12 + 4 * p.word 2 ∧ s.chamber ≠ 1) ∨ (c = .setStageSeal q p ∧ p.word 0 % 256 = 3 ∧ p.len = 4 ∧ s.chamber ≠ 1)) :=
  ⟨st280, true, mkP 0x0601 (0) (wds [1]), .setStageOpen true (mkP 0x0601 (0) (wds [1])), by unfold State.Ready State.Takes State.Offers; decide +kernel⟩

theorem test_stagedWordsTaken : ∃ (s : State) (q : Bool) (p : Packet) (k : Bank) (r : Option Nat),
    (s.Ready q 0x0601 p) ∧ (12 ≤ p.len) ∧ (p.len = 12 + 4 * p.word 2) ∧ (p.target = 0) ∧ (p.word 0 % 256 = 2) ∧ (s.chamber = 1) ∧ ((s.cust.shadow.getD s.settings).stageWrite (p.word 0 / 256 % 256) (p.word 1) (p.wordsFrom 3) = (k, r)) :=
  ⟨st281, true, mkP 0x0601 (0) (wds [2+256,AFE_CH_CFG.MODE.at' 3 0,1,1]), ((st281.cust.shadow.getD st281.bank).stageWrite ((mkP 0x0601 (0) (wds [2+256,AFE_CH_CFG.MODE.at' 3 0,1,1])).word 0 / 256 % 256) ((mkP 0x0601 (0) (wds [2+256,AFE_CH_CFG.MODE.at' 3 0,1,1])).word 1) ((mkP 0x0601 (0) (wds [2+256,AFE_CH_CFG.MODE.at' 3 0,1,1])).wordsFrom 3)).1, ((st281.cust.shadow.getD st281.bank).stageWrite ((mkP 0x0601 (0) (wds [2+256,AFE_CH_CFG.MODE.at' 3 0,1,1])).word 0 / 256 % 256) ((mkP 0x0601 (0) (wds [2+256,AFE_CH_CFG.MODE.at' 3 0,1,1])).word 1) ((mkP 0x0601 (0) (wds [2+256,AFE_CH_CFG.MODE.at' 3 0,1,1])).wordsFrom 3)).2, by unfold State.Ready State.Takes State.Offers; decide +kernel⟩

theorem test_stagedWordsTaken_c1 : ∃ (s : State) (q : Bool) (p : Packet) (k : Bank) (r : Option Nat),
    (s.Ready q 0x0601 p) ∧ (12 ≤ p.len) ∧ (p.len = 12 + 4 * p.word 2) ∧ (p.target = 0) ∧ (p.word 0 % 256 = 2) ∧ (s.chamber = 1) ∧ ((s.cust.shadow.getD s.settings).stageWrite (p.word 0 / 256 % 256) (p.word 1) (p.wordsFrom 3) = (k, r)) ∧ (r = none) :=
  ⟨st281, true, mkP 0x0601 (0) (wds [2+256,AFE_CH_CFG.MODE.at' 3 0,1,1]), ((st281.cust.shadow.getD st281.bank).stageWrite ((mkP 0x0601 (0) (wds [2+256,AFE_CH_CFG.MODE.at' 3 0,1,1])).word 0 / 256 % 256) ((mkP 0x0601 (0) (wds [2+256,AFE_CH_CFG.MODE.at' 3 0,1,1])).word 1) ((mkP 0x0601 (0) (wds [2+256,AFE_CH_CFG.MODE.at' 3 0,1,1])).wordsFrom 3)).1, ((st281.cust.shadow.getD st281.bank).stageWrite ((mkP 0x0601 (0) (wds [2+256,AFE_CH_CFG.MODE.at' 3 0,1,1])).word 0 / 256 % 256) ((mkP 0x0601 (0) (wds [2+256,AFE_CH_CFG.MODE.at' 3 0,1,1])).word 1) ((mkP 0x0601 (0) (wds [2+256,AFE_CH_CFG.MODE.at' 3 0,1,1])).wordsFrom 3)).2, by unfold State.Ready State.Takes State.Offers; decide +kernel⟩

theorem test_endorsementRefused : ∃ (s : State) (q : Bool) (p : Packet) (e : Endorse) (l : List Nat),
    (s.Ready q 0x0602 p) ∧ (p.len = 84) ∧ (p.target = 0) ∧ (e = p.endorse 0) ∧ (s.chamber = 2 ∨ s.chamber = 3) ∧ (s.locked = false) ∧ (e.op = 1) ∧ (s.signed e = false) ∧ (l = (s.cust.fails.filter fun t => decide (s.grid.now ≤ t + 15000000000)) ++ [s.grid.now]) :=
  ⟨st282, true, mkP 0x0602 (0) (wds [1+256,0,0,0,0,7,7,7,7,7,7,7,7,7,7,7,7,7,7,7,7]), (mkP 0x0602 (0) (wds [1+256,0,0,0,0,7,7,7,7,7,7,7,7,7,7,7,7,7,7,7,7])).endorse 0, (st282.cust.fails.filter fun t => decide (st282.grid.now ≤ t + 15000000000)) ++ [st282.grid.now], by unfold State.Ready State.Takes State.Offers; decide +kernel⟩

theorem test_endorsementRefused_c1 : ∃ (s : State) (q : Bool) (p : Packet) (e : Endorse) (l : List Nat),
    (s.Ready q 0x0602 p) ∧ (p.len = 84) ∧ (p.target = 0) ∧ (e = p.endorse 0) ∧ (s.chamber = 2 ∨ s.chamber = 3) ∧ (s.locked = false) ∧ (e.op = 1) ∧ (s.signed e = false) ∧ (l = (s.cust.fails.filter fun t => decide (s.grid.now ≤ t + 15000000000)) ++ [s.grid.now]) ∧ (l.length < 5) :=
  ⟨st283, true, mkP 0x0602 (0) (wds [1+256,0,0,0,0,7,7,7,7,7,7,7,7,7,7,7,7,7,7,7,7]), (mkP 0x0602 (0) (wds [1+256,0,0,0,0,7,7,7,7,7,7,7,7,7,7,7,7,7,7,7,7])).endorse 0, (st283.cust.fails.filter fun t => decide (st283.grid.now ≤ t + 15000000000)) ++ [st283.grid.now], by unfold State.Ready State.Takes State.Offers; decide +kernel⟩

theorem test_endorsementRefused_c2 : ∃ (s : State) (q : Bool) (p : Packet) (e : Endorse) (l : List Nat),
    (s.Ready q 0x0602 p) ∧ (p.len = 84) ∧ (p.target = 0) ∧ (e = p.endorse 0) ∧ (s.chamber = 2 ∨ s.chamber = 3) ∧ (s.locked = false) ∧ (e.op = 1) ∧ (s.signed e = false) ∧ (l = (s.cust.fails.filter fun t => decide (s.grid.now ≤ t + 15000000000)) ++ [s.grid.now]) ∧ (5 ≤ l.length) :=
  ⟨st282, true, mkP 0x0602 (0) (wds [1+256,0,0,0,0,7,7,7,7,7,7,7,7,7,7,7,7,7,7,7,7]), (mkP 0x0602 (0) (wds [1+256,0,0,0,0,7,7,7,7,7,7,7,7,7,7,7,7,7,7,7,7])).endorse 0, (st282.cust.fails.filter fun t => decide (st282.grid.now ≤ t + 15000000000)) ++ [st282.grid.now], by unfold State.Ready State.Takes State.Offers; decide +kernel⟩

theorem test_endorsementChecks : ∃ (s : State) (q : Bool) (p : Packet) (e : Endorse),
    (s.Ready q 0x0602 p) ∧ (p.len = 84) ∧ (p.target = 0) ∧ (e = p.endorse 0) ∧ (s.chamber = 2 ∨ s.chamber = 3) :=
  ⟨st284, true, mkP 0x0602 (0) (wds [1+256,0,0,0,0,7,7,7,7,7,7,7,7,7,7,7,7,7,7,7,7]), (mkP 0x0602 (0) (wds [1+256,0,0,0,0,7,7,7,7,7,7,7,7,7,7,7,7,7,7,7,7])).endorse 0, by unfold State.Ready State.Takes State.Offers; decide +kernel⟩

theorem test_endorsementChecks_c1 : ∃ (s : State) (q : Bool) (p : Packet) (e : Endorse),
    (s.Ready q 0x0602 p) ∧ (p.len = 84) ∧ (p.target = 0) ∧ (e = p.endorse 0) ∧ (s.chamber = 2 ∨ s.chamber = 3) ∧ (s.locked = true) :=
  ⟨st285, true, mkP 0x0602 (0) (wds [1+256,0,0,0,0,7,7,7,7,7,7,7,7,7,7,7,7,7,7,7,7]), (mkP 0x0602 (0) (wds [1+256,0,0,0,0,7,7,7,7,7,7,7,7,7,7,7,7,7,7,7,7])).endorse 0, by unfold State.Ready State.Takes State.Offers; decide +kernel⟩

theorem test_endorsementChecks_c2 : ∃ (s : State) (q : Bool) (p : Packet) (e : Endorse),
    (s.Ready q 0x0602 p) ∧ (p.len = 84) ∧ (p.target = 0) ∧ (e = p.endorse 0) ∧ (s.chamber = 2 ∨ s.chamber = 3) ∧ (s.locked = false) ∧ (e.op ≠ 1) :=
  ⟨st284, true, mkP 0x0602 (0) (wds [1+512,0,0,0,0,0,0,0,0,0,0,0,0,0,0,0,0,0,0,0,0]), (mkP 0x0602 (0) (wds [1+512,0,0,0,0,0,0,0,0,0,0,0,0,0,0,0,0,0,0,0,0])).endorse 0, by unfold State.Ready State.Takes State.Offers; decide +kernel⟩

theorem test_commitAccepted : ∃ (s : State) (q : Bool) (p : Packet) (g1 : Gate) (g2 : Gate),
    (s.Ready q 0x0603 p) ∧ (p.len = 4) ∧ (p.target = 0) ∧ ((p.word 0).testBit 0 = false) ∧ (s.chamber = 4) ∧ (s.cust.g1 = some g1) ∧ (s.cust.g2 = some g2) ∧ (g1.ctr = s.nv.cust.ctr) ∧ (g2.ctr = s.nv.cust.ctr) :=
  ⟨st286, true, mkP 0x0603 (0) (wds [0]), ⟨1,1,5⟩, ⟨2,2,5⟩, by unfold State.Ready State.Takes State.Offers; decide +kernel⟩

theorem test_commitStale : ∃ (s : State) (q : Bool) (p : Packet) (g1 : Gate) (g2 : Gate),
    (s.Ready q 0x0603 p) ∧ (p.len = 4) ∧ (p.target = 0) ∧ ((p.word 0).testBit 0 = false) ∧ (s.chamber = 4) ∧ (s.cust.g1 = some g1) ∧ (s.cust.g2 = some g2) ∧ (g1.ctr ≠ s.nv.cust.ctr ∨ g2.ctr ≠ s.nv.cust.ctr) :=
  ⟨st287, true, mkP 0x0603 (0) (wds [0]), ⟨1,1,5⟩, ⟨2,2,4⟩, by unfold State.Ready State.Takes State.Offers; decide +kernel⟩

theorem test_shadowDiscarded : ∃ (s : State) (q : Bool) (p : Packet),
    (s.Ready q 0x0604 p) ∧ (p.len = 0) ∧ (p.target = 0) :=
  ⟨st288, true, mkP 0x0604 (0) (wds []), by unfold State.Ready State.Takes State.Offers; decide +kernel⟩

theorem test_shadowDiscarded_c1 : ∃ (s : State) (q : Bool) (p : Packet),
    (s.Ready q 0x0604 p) ∧ (p.len = 0) ∧ (p.target = 0) ∧ (s.chamber ≠ 0) ∧ (s.chamber ≠ 5) :=
  ⟨st288, true, mkP 0x0604 (0) (wds []), by unfold State.Ready State.Takes State.Offers; decide +kernel⟩

theorem test_shadowDiscarded_c2 : ∃ (s : State) (q : Bool) (p : Packet),
    (s.Ready q 0x0604 p) ∧ (p.len = 0) ∧ (p.target = 0) ∧ (s.chamber = 0) :=
  ⟨st289, true, mkP 0x0604 (0) (wds []), by unfold State.Ready State.Takes State.Offers; decide +kernel⟩

theorem test_shadowDiscarded_c3 : ∃ (s : State) (q : Bool) (p : Packet),
    (s.Ready q 0x0604 p) ∧ (p.len = 0) ∧ (p.target = 0) ∧ (s.chamber = 5) :=
  ⟨st290, true, mkP 0x0604 (0) (wds []), by unfold State.Ready State.Takes State.Offers; decide +kernel⟩

theorem test_keyEnrolled : ∃ (s : State) (q : Bool) (p : Packet) (k : Nat) (role : Nat) (key : List Byte),
    (s.Ready q 0x0605 p) ∧ (s.nv.cust.closed = false) ∧ (p.len = 68) ∧ (k = p.target.toNat) ∧ (k < 8) ∧ (role = p.word 0 % 4) ∧ (role ≠ 0) ∧ (key = (p.params.drop 4).take 64) ∧ (s.maint = true) ∧ (s.locked = false) ∧ (onCurve (ofBe (key.take 32)) (ofBe (key.drop 32)) = true) :=
  ⟨st291, true, mkP 0x0605 3 (leBytes 4 2 ++ be32 48439561293906451759052585252797914202762949526041747995844080717082404635286 ++ be32 36134250956749795798585127919587881956611106672985015071877198253568414405109), 3, 2, ((mkP 0x0605 3 (leBytes 4 2 ++ be32 48439561293906451759052585252797914202762949526041747995844080717082404635286 ++ be32 36134250956749795798585127919587881956611106672985015071877198253568414405109)).params.drop 4).take 64, by unfold State.Ready State.Takes State.Offers; decide +kernel⟩

theorem test_enrolmentRefused : ∃ (s : State) (q : Bool) (p : Packet),
    (s.Ready q 0x0605 p) ∧ (p.len = (if s.nv.cust.closed then 236 else 68)) ∧ (p.target.toNat < 8) ∧ (s.maint = false) :=
  ⟨st292, true, mkP 0x0605 3 (leBytes 4 2 ++ be32 48439561293906451759052585252797914202762949526041747995844080717082404635286 ++ be32 36134250956749795798585127919587881956611106672985015071877198253568414405109), by unfold State.Ready State.Takes State.Offers; decide +kernel⟩

theorem test_entriesRead : ∃ (s : State) (q : Bool) (p : Packet) (a : Nat) (last : Nat) (n : Nat) (l : List LogEntry),
    (s.Ready q 0x0801 p) ∧ (p.len = 8) ∧ (p.target = 0) ∧ (p.word 1 ≠ 0) ∧ (p.word 1 ≤ 127) ∧ (a = max (p.word 0) s.oldestSeq) ∧ (last = min (s.nv.log.nextSeq - 1) (a + p.word 1 - 1)) ∧ (n = last + 1 - a) ∧ (l = (s.nv.log.entries.filter fun e => decide (a ≤ e.seq) && decide (e.seq ≤ last)).reverse) ∧ (l.length ≤ 127) :=
  ⟨st293, true, mkP 0x0801 (0) (wds [1,3]), max 1 st293.oldestSeq, min (st293.nv.log.nextSeq - 1) (max 1 st293.oldestSeq + 3 - 1), min (st293.nv.log.nextSeq - 1) (max 1 st293.oldestSeq + 3 - 1) + 1 - max 1 st293.oldestSeq, (st293.nv.log.entries.filter fun e => decide (max 1 st293.oldestSeq ≤ e.seq) && decide (e.seq ≤ min (st293.nv.log.nextSeq - 1) (max 1 st293.oldestSeq + 3 - 1))).reverse, by unfold State.Ready State.Takes State.Offers; decide +kernel⟩

theorem test_readRefused : ∃ (s : State) (q : Bool) (p : Packet),
    (s.Ready q 0x0801 p) ∧ (p.len = 8) ∧ (p.target.toNat ≤ 1) ∧ (p.word 1 = 0 ∨ 127 < p.word 1) :=
  ⟨st206, true, mkP 0x0801 (0) (wds [5,0]), by unfold State.Ready State.Takes State.Offers; decide +kernel⟩

theorem test_recorderArmed : ∃ (s : State) (q : Bool) (p : Packet) (i : Nat),
    (s.Ready q 0x0701 p) ∧ (p.len = 0) ∧ (i = p.target.toNat) ∧ (i < 4) ∧ ((s.recInst i).st = 1) ∧ ((s.recCfg i).need ≤ s.recBlocks i) ∧ ((s.recInst i).gap = none) :=
  ⟨st294, true, mkP 0x0701 (2) (wds []), 2, by unfold State.Ready State.Takes State.Offers; decide +kernel⟩

theorem test_armingAnswered : ∃ (s : State) (q : Bool) (p : Packet) (i : Nat),
    (s.Ready q 0x0701 p) ∧ (p.len = 0) ∧ (i = p.target.toNat) ∧ (i < 4) :=
  ⟨st295, true, mkP 0x0701 (2) (wds []), 2, by unfold State.Ready State.Takes State.Offers; decide +kernel⟩

theorem test_armingAnswered_c1 : ∃ (s : State) (q : Bool) (p : Packet) (i : Nat),
    (s.Ready q 0x0701 p) ∧ (p.len = 0) ∧ (i = p.target.toNat) ∧ (i < 4) ∧ ((s.recInst i).st = 1) ∧ (s.recBlocks i < (s.recCfg i).need) :=
  ⟨st296, true, mkP 0x0701 (2) (wds []), 2, by unfold State.Ready State.Takes State.Offers; decide +kernel⟩

theorem test_armingAnswered_c2 : ∃ (s : State) (q : Bool) (p : Packet) (i : Nat),
    (s.Ready q 0x0701 p) ∧ (p.len = 0) ∧ (i = p.target.toNat) ∧ (i < 4) ∧ ((s.recInst i).st = 0) :=
  ⟨st295, true, mkP 0x0701 (2) (wds []), 2, by unfold State.Ready State.Takes State.Offers; decide +kernel⟩

theorem test_armingAnswered_c3 : ∃ (s : State) (q : Bool) (p : Packet) (i : Nat),
    (s.Ready q 0x0701 p) ∧ (p.len = 0) ∧ (i = p.target.toNat) ∧ (i < 4) ∧ (2 ≤ (s.recInst i).st) :=
  ⟨st297, true, mkP 0x0701 (2) (wds []), 2, by unfold State.Ready State.Takes State.Offers; decide +kernel⟩

theorem test_directoryRead : ∃ (s : State) (q : Bool) (p : Packet),
    (s.Ready q 0x0702 p) ∧ (p.len = 4) ∧ (p.word 0 = 0) :=
  ⟨st298, true, mkP 0x0702 (0) (wds [0]), by unfold State.Ready State.Takes State.Offers; decide +kernel⟩

theorem test_noSuchRecord : ∃ (s : State) (q : Bool) (p : Packet),
    (s.Ready q 0x0702 p) ∧ (p.len = 4) ∧ (p.word 0 = 1 ∨ p.word 0 = 2) ∧ (s.stored p.target.toNat = none) :=
  ⟨st298, true, mkP 0x0702 (0) (wds [1]), by unfold State.Ready State.Takes State.Offers; decide +kernel⟩

theorem test_measurementsRead : ∃ (s : State) (q : Bool) (p : Packet) (r : Record),
    (s.Ready q 0x0702 p) ∧ (p.len = 4) ∧ (p.word 0 = 2) ∧ (s.stored p.target.toNat = some r) ∧ ((r.meas.ch.flatMap fun x => x).length ≤ 1020) :=
  ⟨st298, true, mkP 0x0702 (7) (wds [2]), (st298.stored 7).getD { id := 0, inst := 0, cfg := {} }, by unfold State.Ready State.Takes State.Offers; decide +kernel⟩

theorem test_exportBegins : ∃ (s : State) (q : Bool) (p : Packet) (r : Record),
    (s.Ready q 0x0703 p) ∧ (p.len = 4) ∧ (s.stored p.target.toNat = some r) ∧ (s.rec'.exporting = none) ∧ (s.berthOk (p.word 0 % 256) 2 8192 = true) :=
  ⟨st299, true, mkP 0x0703 (7) (wds [9]), (st299.stored 7).getD { id := 0, inst := 0, cfg := {} }, by unfold State.Ready State.Takes State.Offers; decide +kernel⟩

theorem test_exportRefused : ∃ (s : State) (q : Bool) (p : Packet),
    (s.Ready q 0x0703 p) ∧ (p.len = 4) :=
  ⟨st300, true, mkP 0x0703 (7) (wds [9]), by unfold State.Ready State.Takes State.Offers; decide +kernel⟩

theorem test_exportRefused_c1 : ∃ (s : State) (q : Bool) (p : Packet),
    (s.Ready q 0x0703 p) ∧ (p.len = 4) ∧ (s.stored p.target.toNat = none) :=
  ⟨st300, true, mkP 0x0703 (17) (wds [9]), by unfold State.Ready State.Takes State.Offers; decide +kernel⟩

theorem test_exportRefused_c2 : ∃ (s : State) (q : Bool) (p : Packet),
    (s.Ready q 0x0703 p) ∧ (p.len = 4) ∧ ((s.stored p.target.toNat).isSome = true) ∧ (s.rec'.exporting.isSome = true) :=
  ⟨st300, true, mkP 0x0703 (7) (wds [9]), by unfold State.Ready State.Takes State.Offers; decide +kernel⟩

theorem test_exportRefused_c3 : ∃ (s : State) (q : Bool) (p : Packet),
    (s.Ready q 0x0703 p) ∧ (p.len = 4) ∧ ((s.stored p.target.toNat).isSome = true) ∧ (s.rec'.exporting = none) ∧ (s.berthOk (p.word 0 % 256) 2 8192 = false) :=
  ⟨st301, true, mkP 0x0703 (7) (wds [9]), by unfold State.Ready State.Takes State.Offers; decide +kernel⟩

theorem test_recordersTriggered : ∃ (s : State) (q : Bool) (p : Packet),
    (s.Ready q 0x0704 p) ∧ (p.len = 4) ∧ (p.target = 0) ∧ (p.word 0 < 16) :=
  ⟨st302, true, mkP 0x0704 (0) (wds [13]), by unfold State.Ready State.Takes State.Offers; decide +kernel⟩

theorem test_recorderDisarmed : ∃ (s : State) (q : Bool) (p : Packet) (i : Nat),
    (s.Ready q 0x0705 p) ∧ (p.len = 0) ∧ (i = p.target.toNat) ∧ (i < 4) ∧ ((s.recInst i).cur = none) ∧ ((s.recInst i).gap = none) :=
  ⟨st303, true, mkP 0x0705 (2) (wds []), 2, by unfold State.Ready State.Takes State.Offers; decide +kernel⟩

theorem test_recorderDisarmed_c1 : ∃ (s : State) (q : Bool) (p : Packet) (i : Nat),
    (s.Ready q 0x0705 p) ∧ (p.len = 0) ∧ (i = p.target.toNat) ∧ (i < 4) ∧ ((s.recInst i).cur = none) ∧ ((s.recInst i).gap = none) ∧ (2 ≤ (s.recInst i).st) :=
  ⟨st304, true, mkP 0x0705 (2) (wds []), 2, by unfold State.Ready State.Takes State.Offers; decide +kernel⟩

theorem test_recorderDisarmed_c2 : ∃ (s : State) (q : Bool) (p : Packet) (i : Nat),
    (s.Ready q 0x0705 p) ∧ (p.len = 0) ∧ (i = p.target.toNat) ∧ (i < 4) ∧ ((s.recInst i).cur = none) ∧ ((s.recInst i).gap = none) ∧ ((s.recInst i).st < 2) :=
  ⟨st303, true, mkP 0x0705 (2) (wds []), 2, by unfold State.Ready State.Takes State.Offers; decide +kernel⟩

theorem test_recordStopped : ∃ (s : State) (q : Bool) (p : Packet) (i : Nat) (r : Record),
    (s.Ready q 0x0705 p) ∧ (p.len = 0) ∧ (i = p.target.toNat) ∧ (i < 4) ∧ (2 ≤ (s.recInst i).st) ∧ ((s.recInst i).cur = some r) :=
  ⟨st305, true, mkP 0x0705 (2) (wds []), 2, { id := 99, inst := 2, cfg := { n := 4, na := 0 }, first := 100 }, by unfold State.Ready State.Takes State.Offers; decide +kernel⟩

theorem test_recordManaged : ∃ (s : State) (q : Bool) (p : Packet) (r : Record),
    (s.Ready q 0x0706 p) ∧ (p.len = 4) ∧ (s.stored p.target.toNat = some r) :=
  ⟨st306, true, mkP 0x0706 (7) (wds [0]), (st306.stored 7).getD { id := 0, inst := 0, cfg := {} }, by unfold State.Ready State.Takes State.Offers; decide +kernel⟩

theorem test_recordManaged_c1 : ∃ (s : State) (q : Bool) (p : Packet) (r : Record),
    (s.Ready q 0x0706 p) ∧ (p.len = 4) ∧ (s.stored p.target.toNat = some r) ∧ (p.word 0 ≤ 1) :=
  ⟨st306, true, mkP 0x0706 (7) (wds [0]), (st306.stored 7).getD { id := 0, inst := 0, cfg := {} }, by unfold State.Ready State.Takes State.Offers; decide +kernel⟩

theorem test_recordManaged_c2 : ∃ (s : State) (q : Bool) (p : Packet) (r : Record),
    (s.Ready q 0x0706 p) ∧ (p.len = 4) ∧ (s.stored p.target.toNat = some r) ∧ (p.word 0 = 2) ∧ (s.maint = true) ∧ ((∀ e, s.rec'.exporting = some e → e.id ≠ p.target.toNat)) ∧ (r.flags.testBit 12 = false) :=
  ⟨st307, true, mkP 0x0706 (7) (wds [2]), (st307.stored 7).getD { id := 0, inst := 0, cfg := {} }, by unfold State.Ready State.Takes State.Offers; decide +kernel⟩

theorem test_recordManaged_c3 : ∃ (s : State) (q : Bool) (p : Packet) (r : Record),
    (s.Ready q 0x0706 p) ∧ (p.len = 4) ∧ (s.stored p.target.toNat = some r) ∧ (p.word 0 = 2) ∧ (s.maint = false) :=
  ⟨st306, true, mkP 0x0706 (7) (wds [2]), (st306.stored 7).getD { id := 0, inst := 0, cfg := {} }, by unfold State.Ready State.Takes State.Offers; decide +kernel⟩

theorem test_recordManaged_c4 : ∃ (s : State) (q : Bool) (p : Packet) (r : Record),
    (s.Ready q 0x0706 p) ∧ (p.len = 4) ∧ (s.stored p.target.toNat = some r) ∧ (p.word 0 = 2) ∧ (s.maint = true) ∧ ((∀ e, s.rec'.exporting = some e → e.id ≠ p.target.toNat)) ∧ (r.flags.testBit 12 = true) :=
  ⟨st308, true, mkP 0x0706 (7) (wds [2]), (st308.stored 7).getD { id := 0, inst := 0, cfg := {} }, by unfold State.Ready State.Takes State.Offers; decide +kernel⟩

theorem test_joiningRestarts : ∃ (s : State) (q : Bool) (p : Packet),
    (s.Ready q 0x0901 p) ∧ (p.len = 0) ∧ (p.target = 0) ∧ (s.role = 1 ∨ s.role = 2) :=
  ⟨st309, true, mkP 0x0901 (0) (wds []), by unfold State.Ready State.Takes State.Offers; decide +kernel⟩

theorem test_joinRefused : ∃ (s : State) (q : Bool) (p : Packet),
    (s.Ready q 0x0901 p) ∧ (p.len = 0) ∧ (p.target = 0) :=
  ⟨st258, true, mkP 0x0901 (0) (wds []), by unfold State.Ready State.Takes State.Offers; decide +kernel⟩

theorem test_joinRefused_c1 : ∃ (s : State) (q : Bool) (p : Packet),
    (s.Ready q 0x0901 p) ∧ (p.len = 0) ∧ (p.target = 0) ∧ (s.role = 0) :=
  ⟨st258, true, mkP 0x0901 (0) (wds []), by unfold State.Ready State.Takes State.Offers; decide +kernel⟩

theorem test_joinRefused_c2 : ∃ (s : State) (q : Bool) (p : Packet),
    (s.Ready q 0x0901 p) ∧ (p.len = 0) ∧ (p.target = 0) ∧ (s.role = 3 ∨ s.role = 4) :=
  ⟨st259, true, mkP 0x0901 (0) (wds []), by unfold State.Ready State.Takes State.Offers; decide +kernel⟩

theorem test_handoverOffered : ∃ (s : State) (q : Bool) (p : Packet),
    (s.Ready q 0x0902 p) ∧ (p.len = 0) ∧ (p.target = 0) ∧ (s.role = 4) ∧ (s.rd PAIR_STATUS.HO = 0) ∧ (s.rd PAIR_STATUS.PREADY = 1) :=
  ⟨st310, true, mkP 0x0902 (0) (wds []), by unfold State.Ready State.Takes State.Offers; decide +kernel⟩

theorem test_handoverOffered_c1 : ∃ (s : State) (q : Bool) (p : Packet),
    (s.Ready q 0x0902 p) ∧ (p.len = 0) ∧ (p.target = 0) ∧ (s.role = 4) ∧ (s.rd PAIR_STATUS.HO = 0) ∧ (s.rd PAIR_STATUS.PREADY = 1) ∧ (s.pair.ver = 1) :=
  ⟨st311, true, mkP 0x0902 (0) (wds []), by unfold State.Ready State.Takes State.Offers; decide +kernel⟩

theorem test_handoverOffered_c2 : ∃ (s : State) (q : Bool) (p : Packet),
    (s.Ready q 0x0902 p) ∧ (p.len = 0) ∧ (p.target = 0) ∧ (s.role = 4) ∧ (s.rd PAIR_STATUS.HO = 0) ∧ (s.rd PAIR_STATUS.PREADY = 1) ∧ (s.pair.ver ≠ 1) :=
  ⟨st310, true, mkP 0x0902 (0) (wds []), by unfold State.Ready State.Takes State.Offers; decide +kernel⟩

theorem test_yieldRefused : ∃ (s : State) (q : Bool) (p : Packet),
    (s.Ready q 0x0902 p) ∧ (p.len = 0) ∧ (p.target = 0) :=
  ⟨st312, true, mkP 0x0902 (0) (wds []), by unfold State.Ready State.Takes State.Offers; decide +kernel⟩

theorem test_yieldRefused_c1 : ∃ (s : State) (q : Bool) (p : Packet),
    (s.Ready q 0x0902 p) ∧ (p.len = 0) ∧ (p.target = 0) ∧ (s.role ≠ 4) :=
  ⟨st312, true, mkP 0x0902 (0) (wds []), by unfold State.Ready State.Takes State.Offers; decide +kernel⟩

theorem test_yieldRefused_c2 : ∃ (s : State) (q : Bool) (p : Packet),
    (s.Ready q 0x0902 p) ∧ (p.len = 0) ∧ (p.target = 0) ∧ (s.role = 4) ∧ (s.rd PAIR_STATUS.HO = 1) :=
  ⟨st313, true, mkP 0x0902 (0) (wds []), by unfold State.Ready State.Takes State.Offers; decide +kernel⟩

theorem test_yieldRefused_c3 : ∃ (s : State) (q : Bool) (p : Packet),
    (s.Ready q 0x0902 p) ∧ (p.len = 0) ∧ (p.target = 0) ∧ (s.role = 4) ∧ (s.rd PAIR_STATUS.HO = 0) ∧ (s.rd PAIR_STATUS.PREADY = 0) :=
  ⟨st314, true, mkP 0x0902 (0) (wds []), by unfold State.Ready State.Takes State.Offers; decide +kernel⟩

theorem test_pairTold : ∃ (s : State) (q : Bool) (p : Packet),
    (s.Ready q 0x0903 p) ∧ (p.len = 0) ∧ (p.target.toNat ≤ 1) :=
  ⟨st315, true, mkP 0x0903 (0) (wds []), by unfold State.Ready State.Takes State.Offers; decide +kernel⟩

theorem test_pairTold_c1 : ∃ (s : State) (q : Bool) (p : Packet),
    (s.Ready q 0x0903 p) ∧ (p.len = 0) ∧ (p.target.toNat ≤ 1) ∧ (p.target.toNat = 1) :=
  ⟨st315, true, mkP 0x0903 (1) (wds []), by unfold State.Ready State.Takes State.Offers; decide +kernel⟩

theorem test_pairTold_c2 : ∃ (s : State) (q : Bool) (p : Packet),
    (s.Ready q 0x0903 p) ∧ (p.len = 0) ∧ (p.target.toNat ≤ 1) ∧ (p.target.toNat = 0) :=
  ⟨st315, true, mkP 0x0903 (0) (wds []), by unfold State.Ready State.Takes State.Offers; decide +kernel⟩

theorem test_engineTestBegins : ∃ (s : State) (q : Bool) (p : Packet) (k : Nat),
    (s.Ready q 0x0A01 p) ∧ (p.len = 4) ∧ (k = p.target.toNat) ∧ (k ≤ 8) ∧ (p.word 0 ≤ 2) ∧ (s.rd BIST_STATUS.BUSY ≠ 1) ∧ (s.carrying.contains k = false) ∧ (tfind s.bist.eng k = none) :=
  ⟨st316, true, mkP 0x0A01 (5) (wds [2]), 5, by unfold State.Ready State.Takes State.Offers; decide +kernel⟩

theorem test_groupTestBegins : ∃ (s : State) (q : Bool) (p : Packet) (g : Nat),
    (s.Ready q 0x0A01 p) ∧ (p.len = 4) ∧ (p.target.toNat = 0x100 + g) ∧ (g < 4) ∧ (p.word 0 = 0) ∧ (s.rd BIST_STATUS.BUSY ≠ 1) ∧ (s.afe.cal = none) ∧ (s.afe.diag = none) ∧ (s.afe.skew = none) ∧ (s.inService (groupChans (2 ^ g)) = false) :=
  ⟨st317, true, mkP 0x0A01 (258) (wds [0]), 2, by unfold State.Ready State.Takes State.Offers; decide +kernel⟩

theorem test_testRefused : ∃ (s : State) (q : Bool) (p : Packet) (k : Nat),
    (s.Ready q 0x0A01 p) ∧ (p.len = 4) ∧ (k = p.target.toNat) ∧ (k ≤ 8) ∧ (p.word 0 ≤ 2) :=
  ⟨st318, true, mkP 0x0A01 (3) (wds [0]), 3, by unfold State.Ready State.Takes State.Offers; decide +kernel⟩

theorem test_testRefused_c1 : ∃ (s : State) (q : Bool) (p : Packet) (k : Nat),
    (s.Ready q 0x0A01 p) ∧ (p.len = 4) ∧ (k = p.target.toNat) ∧ (k ≤ 8) ∧ (p.word 0 ≤ 2) ∧ (s.rd BIST_STATUS.BUSY = 1) :=
  ⟨st319, true, mkP 0x0A01 (3) (wds [0]), 3, by unfold State.Ready State.Takes State.Offers; decide +kernel⟩

theorem test_testRefused_c2 : ∃ (s : State) (q : Bool) (p : Packet) (k : Nat),
    (s.Ready q 0x0A01 p) ∧ (p.len = 4) ∧ (k = p.target.toNat) ∧ (k ≤ 8) ∧ (p.word 0 ≤ 2) ∧ (s.rd BIST_STATUS.BUSY ≠ 1) ∧ (s.carrying.contains k = true) :=
  ⟨st318, true, mkP 0x0A01 (3) (wds [0]), 3, by unfold State.Ready State.Takes State.Offers; decide +kernel⟩

theorem test_repairBegins : ∃ (s : State) (q : Bool) (p : Packet) (m : Nat) (l : List Nat),
    (s.Ready q 0x0A02 p) ∧ (p.len = 4) ∧ (m = p.target.toNat) ∧ (m < 32) ∧ (p.word 0 = 0x45535546) ∧ (s.maint = true) ∧ (2064384 ≤ 50 * s.rd AUX_RESULT.DATA 0 16) ∧ (50 * s.rd AUX_RESULT.DATA 0 16 ≤ 2260992) ∧ (l = tget [] s.bist.soft m) ∧ (l ≠ []) ∧ (s.bist.burns = []) :=
  ⟨st320, true, mkP 0x0A02 (3) (wds [1163089222]), 3, [5,6], by unfold State.Ready State.Takes State.Offers; decide +kernel⟩

theorem test_repairRefused : ∃ (s : State) (q : Bool) (p : Packet),
    (s.Ready q 0x0A02 p) ∧ (p.len = 4) ∧ (p.target.toNat < 32) ∧ (p.word 0 = 0x45535546) :=
  ⟨st321, true, mkP 0x0A02 (3) (wds [1163089222]), by unfold State.Ready State.Takes State.Offers; decide +kernel⟩

theorem test_repairRefused_c1 : ∃ (s : State) (q : Bool) (p : Packet),
    (s.Ready q 0x0A02 p) ∧ (p.len = 4) ∧ (p.target.toNat < 32) ∧ (p.word 0 = 0x45535546) ∧ (s.maint = false) :=
  ⟨st321, true, mkP 0x0A02 (3) (wds [1163089222]), by unfold State.Ready State.Takes State.Offers; decide +kernel⟩

theorem test_repairRefused_c2 : ∃ (s : State) (q : Bool) (p : Packet),
    (s.Ready q 0x0A02 p) ∧ (p.len = 4) ∧ (p.target.toNat < 32) ∧ (p.word 0 = 0x45535546) ∧ (s.maint = true) ∧ (50 * s.rd AUX_RESULT.DATA 0 16 < 2064384 ∨ 2260992 < 50 * s.rd AUX_RESULT.DATA 0 16) :=
  ⟨st322, true, mkP 0x0A02 (3) (wds [1163089222]), by unfold State.Ready State.Takes State.Offers; decide +kernel⟩

theorem test_repairRefused_c3 : ∃ (s : State) (q : Bool) (p : Packet),
    (s.Ready q 0x0A02 p) ∧ (p.len = 4) ∧ (p.target.toNat < 32) ∧ (p.word 0 = 0x45535546) ∧ (s.maint = true) ∧ (2064384 ≤ 50 * s.rd AUX_RESULT.DATA 0 16) ∧ (50 * s.rd AUX_RESULT.DATA 0 16 ≤ 2260992) ∧ (tget [] s.bist.soft p.target.toNat = []) :=
  ⟨st323, true, mkP 0x0A02 (3) (wds [1163089222]), by unfold State.Ready State.Takes State.Offers; decide +kernel⟩

/-- The bank with every setting at its reset value. -/
abbrev bank0 : Bank := {}
theorem bank0_fld (f : Field) (i j : Nat) : bank0.fld f i j = f.reset := rfl
theorem bank0_gfld (f : Field) (e g : Nat) : bank0.gfld f e g = f.reset := rfl
theorem flatMap_nil_of {α β : Type} (l : List α) (f : α → List β) (h : ∀ x ∈ l, f x = []) : l.flatMap f = [] := by
  rw [List.flatMap_eq_nil_iff]; exact h
theorem bank0_ranges : bank0.badRanges = [] := by
  have h : ∀ f ∈ plainSp, f.inRange f.reset = true := by decide +kernel
  refine flatMap_nil_of _ _ fun f hf => flatMap_nil_of _ _ fun x _ => ?_
  simp only [bank0_fld, h f hf, failIf]; rfl
theorem bank0_elmRanges (e : Nat) : bank0.badElmRanges e = [] := by
  have h : ∀ f ∈ elmLayout 0, f.inRange f.reset = true := by decide +kernel
  refine flatMap_nil_of (elmLayout 0) _ fun f hf => ?_
  simp only [bank0_fld, bank0_gfld, h f hf, failIf]; split <;> simp
theorem bank0_elm (c : Bool) (m : Nat → List Nat) (e : Nat) : bank0.badElm c m e = [] := by
  have h1 : (ELM_OC_CURVE.RESET.reset == 2) = false := by decide +kernel
  have h2 : ¬ 8 ≤ ELM_OC_CURVE.CURVE.reset := by decide +kernel
  have h3 : (ELM_BLK.CLPEN.reset == 1) = false := by decide +kernel
  have h4 : (ELM_CFG.EN.reset == 1) = false := by decide +kernel
  have h : ∀ g, bank0.badElmWords e g 0 = false := fun g => by
    simp [Bank.badElmWords, bank0_gfld, h1]
  have ht : bank0.etype e = 0 := rfl
  have hf : ∀ x, failIf false x = [] := fun _ => rfl
  simp only [Bank.badElm, ht, bank0_fld, bank0_gfld, h, h3, h4, hf]
  simp [hf, h2]
theorem bank0_curve (u : Nat) (h : u < 8) : bank0.badCurve u = false := by
  have hp : ∀ i, bank0.curveWord u i = 0 := fun _ => rfl
  have hr : ELM_OC_CURVE.CURVE.reset < 8 := by decide +kernel
  simp only [Bank.badCurve, hp, bank0_gfld]
  have : (ELM_OC_CURVE.CURVE.reset == 8 + u) = false := by simp; omega
  simp [this]
theorem zero_text (l : List Nat) (o n : Nat) (h : ∀ x ∈ l, x = 0) : labelText l o n = [] := by
  unfold labelText
  have hb : ∀ b ∈ labelBytes l o n, b = 0 := by
    intro b hb
    unfold labelBytes at hb
    obtain ⟨x, hx, hbx⟩ := List.mem_flatMap.mp (List.mem_of_mem_take hb)
    have hx0 := h x (List.mem_of_mem_drop (List.mem_of_mem_take hx))
    subst hx0
    have h4 : ∀ y ∈ leBytes 4 0, y = 0 := by decide +kernel
    exact h4 b hbx
  cases hl : labelBytes l o n with
  | nil => rfl
  | cons b r => 
    have := hb b (by rw [hl]; exact List.mem_cons_self)
    simp [this]
theorem bank0_labels (i : Nat) : bank0.badLabels i = false := by
  have hz : ∀ o n, labelText ((List.range 5536).map fun w => tget 0 bank0.labels (5536 * i + w)) o n = [] := fun o n =>
    zero_text _ _ _ fun x hx => by obtain ⟨w, _, rfl⟩ := List.mem_map.mp hx; rfl
  have hn : REC_CFG.NA.reset = 0 := by decide +kernel
  simp only [Bank.badLabels, hz, bank0_fld, hn]
  simp [badText]
theorem bank0_passes (c : Bool) : bank0.firstFailure c = none := by
  have h : bank0.failures c = [] := by
    unfold Bank.failures
    have h1 : ∀ m : Nat → List Nat, ((List.range 2048).flatMap fun e => bank0.badElmRanges e ++ bank0.badElm c m e) = [] := fun m =>
      flatMap_nil_of _ _ fun e _ => by rw [bank0_elmRanges, bank0_elm]; rfl
    have h2 : bank0.badPlain ++ bank0.badStreams = [] := by decide +kernel
    have h3 : ((List.range 64).flatMap fun b => bank0.badBay b) = [] := by decide +kernel
    have h4 : bank0.badKnots ++ bank0.badRows = [] := by decide +kernel
    have h5 : bank0.badRec = [] := by decide +kernel
    have h6 : bank0.badSums = [] := by decide +kernel
    have h7 : bank0.badObjects = [] := by
      unfold Bank.badObjects
      rw [flatMap_nil_of (List.range 8) _ fun u hu => by rw [bank0_curve u (List.mem_range.mp hu)]; rfl]
      rw [flatMap_nil_of (List.range 4) _ fun i _ => by rw [bank0_labels]; rfl]
      simp only [List.nil_append, List.append_nil]
      exact flatMap_nil_of _ _ fun q _ => by rfl
    simp only [List.append_eq_nil_iff] at h2 h4
    simp only [bank0_ranges, h1, h2.1, h2.2, h3, h4.1, h4.2, h5, h6, h7, List.append_nil]
  unfold Bank.firstFailure; rw [h]; rfl

/-! Statements whose hypotheses look at what one unit fixes for good (its serial number, its converters): the witness is taken whatever
that is where the hypotheses allow it; a signature is one for the serial number 0, which the theorem then assumes. -/

theorem serial0 (s : State) (h0 : Config.otp (ID_SERIAL_LO.VALUE.key 0 0) = 0) (h1 : Config.otp (ID_SERIAL_HI.VALUE.key 0 0) = 0) :
    s.rd64 ID_SERIAL_LO.VALUE ID_SERIAL_HI.VALUE = 0 := by
  have a : s.rd ID_SERIAL_LO.VALUE = Config.otp (ID_SERIAL_LO.VALUE.key 0 0) % 2 ^ 32 := rfl
  have b : s.rd ID_SERIAL_HI.VALUE = Config.otp (ID_SERIAL_HI.VALUE.key 0 0) % 2 ^ 32 := rfl
  unfold State.rd64; rw [a, b, h0, h1] <;> rfl

def sg_gateOpens : State :=
  let s := base
  (rdy s).wr SET_CHAMBER.STATE (2 + s.grid.now % 2)|>.modCustNv (fun c => { c with ctr := 5, slots := [(1,{ role := 1, key := (be32 17815864891903927977327567006130785216411689017053483788327269337238890080753 ++ be32 94106796917347186636776924478340198327096951091269058263404772564952263198389), uses := 5 })], pend := none })|>.modCust fun c => { c with lockEnd := none, sdig := 99, g1 := if s.grid.now % 2 = 0 then none else some ⟨2,2,5⟩ }
def pk_gateOpens : Packet := mkP 0x0602 0 [1,1,0,0,5,0,0,0,0,0,0,0,99,0,0,0,0,0,0,0,162,255,120,249,215,75,58,106,17,88,186,20,58,78,75,95,212,120,124,46,209,51,45,109,88,95,29,195,154,23,72,196,162,255,120,249,215,75,58,106,17,88,186,20,58,78,75,95,212,120,124,46,209,51,45,109,88,95,29,195,154,23,72,196]
theorem test_gateOpens (h0 : Config.otp (ID_SERIAL_LO.VALUE.key 0 0) = 0) (h1 : Config.otp (ID_SERIAL_HI.VALUE.key 0 0) = 0) :
    ∃ (s : State) (q : Bool) (p : Packet) (e : Endorse),
    (s.Ready q 0x0602 p) ∧ (p.len = 84) ∧ (p.target = 0) ∧ (e = p.endorse 0) ∧ (s.chamber = 2 ∨ s.chamber = 3) ∧ (s.locked = false) ∧ (s.endorseCheck e 1 s.cust.sdig = none) ∧ ((∀ g, s.cust.g1 = some g → g.role ≠ (s.slot e.slot).role)) := by
  have g0 : sg_gateOpens.signed ((pk_gateOpens).endorse 0) = true := by unfold State.signed; rw [serial0 _ h0 h1]; decide +kernel
  have e0 : sg_gateOpens.Ready true 0x0602 pk_gateOpens := by unfold State.Ready State.Takes State.Offers; decide +kernel
  have e1 : sg_gateOpens.endorseCheck ((pk_gateOpens).endorse 0) 1 sg_gateOpens.cust.sdig = none := by unfold State.endorseCheck; rw [g0]; decide +kernel
  have e2 : (∀ g, sg_gateOpens.cust.g1 = some g → g.role ≠ (sg_gateOpens.slot ((pk_gateOpens).endorse 0).slot).role) := by
      intro g h
      rw [show sg_gateOpens.cust.g1 = none from by decide +kernel] at h
      cases h
  refine ⟨sg_gateOpens, true, pk_gateOpens, (pk_gateOpens).endorse 0, ?_⟩
  repeat' with_reducible apply And.intro
  all_goals first | with_reducible assumption | with_reducible rfl | decide +kernel

def sg_gateOpens_c1 : State :=
  let s := base
  (rdy s).wr SET_CHAMBER.STATE (2 + s.grid.now % 2)|>.modCustNv (fun c => { c with ctr := 5, slots := [(1,{ role := 1, key := (be32 17815864891903927977327567006130785216411689017053483788327269337238890080753 ++ be32 94106796917347186636776924478340198327096951091269058263404772564952263198389), uses := 5 })], pend := none })|>.modCust fun c => { c with lockEnd := none, sdig := 99, g1 := if s.grid.now % 2 = 0 then none else some ⟨2,2,5⟩ }
def pk_gateOpens_c1 : Packet := mkP 0x0602 0 [1,1,0,0,5,0,0,0,0,0,0,0,99,0,0,0,0,0,0,0,162,255,120,249,215,75,58,106,17,88,186,20,58,78,75,95,212,120,124,46,209,51,45,109,88,95,29,195,154,23,72,196,162,255,120,249,215,75,58,106,17,88,186,20,58,78,75,95,212,120,124,46,209,51,45,109,88,95,29,195,154,23,72,196]
theorem test_gateOpens_c1 (h0 : Config.otp (ID_SERIAL_LO.VALUE.key 0 0) = 0) (h1 : Config.otp (ID_SERIAL_HI.VALUE.key 0 0) = 0) :
    ∃ (s : State) (q : Bool) (p : Packet) (e : Endorse),
    (s.Ready q 0x0602 p) ∧ (p.len = 84) ∧ (p.target = 0) ∧ (e = p.endorse 0) ∧ (s.chamber = 2 ∨ s.chamber = 3) ∧ (s.locked = false) ∧ (s.endorseCheck e 1 s.cust.sdig = none) ∧ ((∀ g, s.cust.g1 = some g → g.role ≠ (s.slot e.slot).role)) ∧ (s.cust.g1 = none) := by
  have g0 : sg_gateOpens_c1.signed ((pk_gateOpens_c1).endorse 0) = true := by unfold State.signed; rw [serial0 _ h0 h1]; decide +kernel
  have e0 : sg_gateOpens_c1.Ready true 0x0602 pk_gateOpens_c1 := by unfold State.Ready State.Takes State.Offers; decide +kernel
  have e1 : sg_gateOpens_c1.endorseCheck ((pk_gateOpens_c1).endorse 0) 1 sg_gateOpens_c1.cust.sdig = none := by unfold State.endorseCheck; rw [g0]; decide +kernel
  have e2 : (∀ g, sg_gateOpens_c1.cust.g1 = some g → g.role ≠ (sg_gateOpens_c1.slot ((pk_gateOpens_c1).endorse 0).slot).role) := by
      intro g h
      rw [show sg_gateOpens_c1.cust.g1 = none from by decide +kernel] at h
      cases h
  refine ⟨sg_gateOpens_c1, true, pk_gateOpens_c1, (pk_gateOpens_c1).endorse 0, ?_⟩
  repeat' with_reducible apply And.intro
  all_goals first | with_reducible assumption | with_reducible rfl | decide +kernel

def sg_gateOpens_c2 : State :=
  let s := at' 1 (base)
  (rdy s).wr SET_CHAMBER.STATE (2 + s.grid.now % 2)|>.modCustNv (fun c => { c with ctr := 5, slots := [(1,{ role := 1, key := (be32 17815864891903927977327567006130785216411689017053483788327269337238890080753 ++ be32 94106796917347186636776924478340198327096951091269058263404772564952263198389), uses := 5 })], pend := none })|>.modCust fun c => { c with lockEnd := none, sdig := 99, g1 := if s.grid.now % 2 = 0 then none else some ⟨2,2,5⟩ }
def pk_gateOpens_c2 : Packet := mkP 0x0602 0 [1,1,0,0,5,0,0,0,0,0,0,0,99,0,0,0,0,0,0,0,162,255,120,249,215,75,58,106,17,88,186,20,58,78,75,95,212,120,124,46,209,51,45,109,88,95,29,195,154,23,72,196,162,255,120,249,215,75,58,106,17,88,186,20,58,78,75,95,212,120,124,46,209,51,45,109,88,95,29,195,154,23,72,196]
theorem test_gateOpens_c2 (h0 : Config.otp (ID_SERIAL_LO.VALUE.key 0 0) = 0) (h1 : Config.otp (ID_SERIAL_HI.VALUE.key 0 0) = 0) :
    ∃ (s : State) (q : Bool) (p : Packet) (e : Endorse),
    (s.Ready q 0x0602 p) ∧ (p.len = 84) ∧ (p.target = 0) ∧ (e = p.endorse 0) ∧ (s.chamber = 2 ∨ s.chamber = 3) ∧ (s.locked = false) ∧ (s.endorseCheck e 1 s.cust.sdig = none) ∧ ((∀ g, s.cust.g1 = some g → g.role ≠ (s.slot e.slot).role)) ∧ (s.cust.g1.isSome = true) := by
  have g0 : sg_gateOpens_c2.signed ((pk_gateOpens_c2).endorse 0) = true := by unfold State.signed; rw [serial0 _ h0 h1]; decide +kernel
  have e0 : sg_gateOpens_c2.Ready true 0x0602 pk_gateOpens_c2 := by unfold State.Ready State.Takes State.Offers; decide +kernel
  have e1 : sg_gateOpens_c2.endorseCheck ((pk_gateOpens_c2).endorse 0) 1 sg_gateOpens_c2.cust.sdig = none := by unfold State.endorseCheck; rw [g0]; decide +kernel
  have e2 : (∀ g, sg_gateOpens_c2.cust.g1 = some g → g.role ≠ (sg_gateOpens_c2.slot ((pk_gateOpens_c2).endorse 0).slot).role) := by
      intro g h
      rw [show sg_gateOpens_c2.cust.g1 = some ⟨2, 2, 5⟩ from by decide +kernel] at h
      cases h; decide +kernel
  refine ⟨sg_gateOpens_c2, true, pk_gateOpens_c2, (pk_gateOpens_c2).endorse 0, ?_⟩
  repeat' with_reducible apply And.intro
  all_goals first | with_reducible assumption | with_reducible rfl | decide +kernel

def sg_endorsementChecks_c3 : State :=
  let s := base
  ((rdy s).wr SET_CHAMBER.STATE (2 + s.grid.now % 2)|>.modCustNv (fun c => { c with ctr := 5, slots := [(1,{ role := 1, key := (be32 17815864891903927977327567006130785216411689017053483788327269337238890080753 ++ be32 94106796917347186636776924478340198327096951091269058263404772564952263198389), uses := 5 })], pend := none })|>.modCust fun c => { c with lockEnd := none, sdig := 99, g1 := if s.grid.now % 2 = 0 then none else some ⟨2,2,5⟩ })|>.modCustNv fun c => { c with ctr := c.ctr + 1 }
def pk_endorsementChecks_c3 : Packet := mkP 0x0602 0 [1,1,0,0,5,0,0,0,0,0,0,0,99,0,0,0,0,0,0,0,162,255,120,249,215,75,58,106,17,88,186,20,58,78,75,95,212,120,124,46,209,51,45,109,88,95,29,195,154,23,72,196,162,255,120,249,215,75,58,106,17,88,186,20,58,78,75,95,212,120,124,46,209,51,45,109,88,95,29,195,154,23,72,196]
theorem test_endorsementChecks_c3 (h0 : Config.otp (ID_SERIAL_LO.VALUE.key 0 0) = 0) (h1 : Config.otp (ID_SERIAL_HI.VALUE.key 0 0) = 0) :
    ∃ (s : State) (q : Bool) (p : Packet) (e : Endorse),
    (s.Ready q 0x0602 p) ∧ (p.len = 84) ∧ (p.target = 0) ∧ (e = p.endorse 0) ∧ (s.chamber = 2 ∨ s.chamber = 3) ∧ (s.locked = false) ∧ (e.op = 1) ∧ (s.signed e = true) ∧ (e.ctr ≠ s.nv.cust.ctr) := by
  have g0 : sg_endorsementChecks_c3.signed ((pk_endorsementChecks_c3).endorse 0) = true := by unfold State.signed; rw [serial0 _ h0 h1]; decide +kernel
  have e0 : sg_endorsementChecks_c3.Ready true 0x0602 pk_endorsementChecks_c3 := by unfold State.Ready State.Takes State.Offers; decide +kernel
  refine ⟨sg_endorsementChecks_c3, true, pk_endorsementChecks_c3, (pk_endorsementChecks_c3).endorse 0, ?_⟩
  repeat' with_reducible apply And.intro
  all_goals first | with_reducible assumption | with_reducible rfl | decide +kernel

def sg_endorsementChecks_c4 : State :=
  let s := base
  ((rdy s).wr SET_CHAMBER.STATE (2 + s.grid.now % 2)|>.modCustNv (fun c => { c with ctr := 5, slots := [(1,{ role := 1, key := (be32 17815864891903927977327567006130785216411689017053483788327269337238890080753 ++ be32 94106796917347186636776924478340198327096951091269058263404772564952263198389), uses := 5 })], pend := none })|>.modCust fun c => { c with lockEnd := none, sdig := 99, g1 := if s.grid.now % 2 = 0 then none else some ⟨2,2,5⟩ })|>.modCust fun c => { c with sdig := 98 }
def pk_endorsementChecks_c4 : Packet := mkP 0x0602 0 [1,1,0,0,5,0,0,0,0,0,0,0,99,0,0,0,0,0,0,0,162,255,120,249,215,75,58,106,17,88,186,20,58,78,75,95,212,120,124,46,209,51,45,109,88,95,29,195,154,23,72,196,162,255,120,249,215,75,58,106,17,88,186,20,58,78,75,95,212,120,124,46,209,51,45,109,88,95,29,195,154,23,72,196]
theorem test_endorsementChecks_c4 (h0 : Config.otp (ID_SERIAL_LO.VALUE.key 0 0) = 0) (h1 : Config.otp (ID_SERIAL_HI.VALUE.key 0 0) = 0) :
    ∃ (s : State) (q : Bool) (p : Packet) (e : Endorse),
    (s.Ready q 0x0602 p) ∧ (p.len = 84) ∧ (p.target = 0) ∧ (e = p.endorse 0) ∧ (s.chamber = 2 ∨ s.chamber = 3) ∧ (s.locked = false) ∧ (e.op = 1) ∧ (s.signed e = true) ∧ (e.ctr = s.nv.cust.ctr) ∧ (e.subject ≠ s.cust.sdig) := by
  have g0 : sg_endorsementChecks_c4.signed ((pk_endorsementChecks_c4).endorse 0) = true := by unfold State.signed; rw [serial0 _ h0 h1]; decide +kernel
  have e0 : sg_endorsementChecks_c4.Ready true 0x0602 pk_endorsementChecks_c4 := by unfold State.Ready State.Takes State.Offers; decide +kernel
  refine ⟨sg_endorsementChecks_c4, true, pk_endorsementChecks_c4, (pk_endorsementChecks_c4).endorse 0, ?_⟩
  repeat' with_reducible apply And.intro
  all_goals first | with_reducible assumption | with_reducible rfl | decide +kernel

def sg_commitCancelled : State :=
  let s := base
  (rdy s).wr SET_CHAMBER.STATE (5)|>.modCustNv (fun c => { c with ctr := 5, slots := [(1,{ role := 1, key := (be32 87940135391271123975408120133559694468990686051550656489829705589797695312568 ++ be32 20630503537381486219556731867457578578025533777342034309112336501119905394933), uses := 5 })], pend := some { bank := {}, bdig := 77, sdig := 88, at' := none, ctr := 5, accepted := 3000000000 } })|>.modCust fun c => { c with lockEnd := none, sdig := 99, g1 := if s.grid.now % 2 = 0 then none else some ⟨2,2,5⟩ }
def pk_commitCancelled : Packet := mkP 0x0604 0 [1,4,0,0,5,0,0,0,0,0,0,0,77,0,0,0,0,0,0,0,71,161,51,76,152,129,169,157,67,190,65,131,234,117,168,26,31,244,145,85,133,216,28,8,141,218,140,193,19,201,198,105,71,161,51,76,152,129,169,157,67,190,65,131,234,117,168,26,31,244,145,85,133,216,28,8,141,218,140,193,19,201,198,105]
theorem test_commitCancelled (h0 : Config.otp (ID_SERIAL_LO.VALUE.key 0 0) = 0) (h1 : Config.otp (ID_SERIAL_HI.VALUE.key 0 0) = 0) :
    ∃ (s : State) (q : Bool) (p : Packet) (e : Endorse) (r : PendRec),
    (s.Ready q 0x0604 p) ∧ (p.len = 84) ∧ (p.target = 0) ∧ (e = p.endorse 0) ∧ (s.chamber = 5) ∧ (s.locked = false) ∧ (s.nv.cust.pend = some r) ∧ (s.endorseCheck e 4 r.bdig = none) ∧ (s.swapReached = false) := by
  have g0 : sg_commitCancelled.signed ((pk_commitCancelled).endorse 0) = true := by unfold State.signed; rw [serial0 _ h0 h1]; decide +kernel
  have e0 : sg_commitCancelled.Ready true 0x0604 pk_commitCancelled := by unfold State.Ready State.Takes State.Offers; decide +kernel
  have e1 : sg_commitCancelled.endorseCheck ((pk_commitCancelled).endorse 0) 4 ({ bank := {}, bdig := 77, sdig := 88, at' := none, ctr := 5, accepted := 3000000000 } : PendRec).bdig = none := by unfold State.endorseCheck; rw [g0]; decide +kernel
  refine ⟨sg_commitCancelled, true, pk_commitCancelled, (pk_commitCancelled).endorse 0, { bank := {}, bdig := 77, sdig := 88, at' := none, ctr := 5, accepted := 3000000000 }, ?_⟩
  repeat' with_reducible apply And.intro
  all_goals first | with_reducible assumption | with_reducible rfl | decide +kernel

def sg_logCleared : State :=
  let s := base
  ((rdy s).wr SET_CHAMBER.STATE (0)|>.modCustNv (fun c => { c with ctr := 7, slots := [(1,{ role := 1, key := (be32 351507148898720031814809179816028280607118878048640802183821734377314743827 ++ be32 52816752444956279772701544132076250913792342272387787778513235183032117250486), uses := 5 })], pend := none })|>.modCust fun c => { c with lockEnd := none, sdig := 99, g1 := if s.grid.now % 2 = 0 then none else some ⟨2,2,5⟩ }).modLogNv (fun l => { l with nextSeq := 20, clearMark := 5, entries := [⟨5,6,19,1,3,9,1,0⟩] })|>.modLog (fun l => { l with queue := [] })|>.wr HOST_STATUS.MAINT 1|>.wr EVT_STATUS.READY 1|>.wr PWR_STATUS.VMAIN_WARN 0
def pk_logCleared : Packet := mkP 0x0802 0 [9,0,0,0,1,2,0,0,7,0,0,0,0,0,0,0,135,227,67,25,38,70,40,125,150,172,125,105,5,198,98,252,114,104,45,180,63,18,6,247,169,236,149,135,53,240,217,18,146,86,162,232,181,150,238,47,150,172,125,105,5,198,98,252,114,104,45,180,63,18,6,247,169,236,149,135,53,240,217,18,146,86,162,232,181,150,238,47]
theorem test_logCleared (h0 : Config.otp (ID_SERIAL_LO.VALUE.key 0 0) = 0) (h1 : Config.otp (ID_SERIAL_HI.VALUE.key 0 0) = 0) :
    ∃ (s : State) (q : Bool) (p : Packet) (e : Endorse),
    (s.Ready q 0x0802 p) ∧ (p.len = 88) ∧ (p.target = 0) ∧ (e = p.endorse 4) ∧ (s.maint = true) ∧ (s.nv.log.clearMark < p.word 0) ∧ (p.word 0 < s.nv.log.nextSeq) ∧ (s.locked = false) ∧ (s.endorseCheck e 2 (digest64 (ascii "ECLR" ++ leBytes 4 (p.word 0))) = none) ∧ (s.rd EVT_STATUS.READY = 1) ∧ (s.writesHeld = false) ∧ (s.log.queue = []) ∧ (s.nv.log.nextSeq + 1 < 4096) := by
  have g0 : sg_logCleared.signed ((pk_logCleared).endorse 4) = true := by unfold State.signed; rw [serial0 _ h0 h1]; decide +kernel
  have e0 : sg_logCleared.Ready true 0x0802 pk_logCleared := by unfold State.Ready State.Takes State.Offers; decide +kernel
  have e1 : sg_logCleared.endorseCheck ((pk_logCleared).endorse 4) 2 (digest64 (ascii "ECLR" ++ leBytes 4 (pk_logCleared.word 0))) = none := by unfold State.endorseCheck; rw [g0]; decide +kernel
  refine ⟨sg_logCleared, true, pk_logCleared, (pk_logCleared).endorse 4, ?_⟩
  repeat' with_reducible apply And.intro
  all_goals first | with_reducible assumption | with_reducible rfl | decide +kernel

def sg_keyEnrolledByTwo : State :=
  let s := base
  (rdy s).wr HOST_STATUS.MAINT 1|>.modCustNv (fun c => { c with closed := true, ctr := 13, slots := [(1,{ role := 1, key := (be32 75333315039892221529859417463472812450664311013957711916434549329764400732001 ++ be32 38136416497418848005717421293161278361026245960024389459147857388480877522563), uses := 5 }),(2,{ role := 2, key := (be32 20723017528791991336122256754373184352132431412495144966196821593795749093759 ++ be32 61345205639871374434195367584921053220816760607563408864102738760595325611834), uses := 5 })] })|>.modCust fun c => { c with lockEnd := none }
def pk_keyEnrolledByTwo : Packet := mkP 0x0605 3 [3,0,0,0,107,23,209,242,225,44,66,71,248,188,230,229,99,164,64,242,119,3,125,129,45,235,51,160,244,161,57,69,216,152,194,150,79,227,66,226,254,26,127,155,142,231,235,74,124,15,158,22,43,206,51,87,107,49,94,206,203,182,64,104,55,191,81,245,1,3,0,0,13,0,0,0,0,0,0,0,94,184,233,185,205,84,239,141,178,106,242,129,12,209,87,89,238,7,81,205,101,236,26,192,76,70,54,123,61,87,173,57,186,145,3,157,47,176,166,27,178,106,242,129,12,209,87,89,238,7,81,205,101,236,26,192,76,70,54,123,61,87,173,57,186,145,3,157,47,176,166,27,2,3,0,0,13,0,0,0,0,0,0,0,94,184,233,185,205,84,239,141,101,125,112,171,133,225,59,172,178,0,179,103,48,11,246,86,97,79,108,66,140,140,83,185,101,122,152,217,221,75,128,70,101,125,112,171,133,225,59,172,178,0,179,103,48,11,246,86,97,79,108,66,140,140,83,185,101,122,152,217,221,75,128,70]
theorem test_keyEnrolledByTwo (h0 : Config.otp (ID_SERIAL_LO.VALUE.key 0 0) = 0) (h1 : Config.otp (ID_SERIAL_HI.VALUE.key 0 0) = 0) :
    ∃ (s : State) (q : Bool) (p : Packet) (k : Nat) (role : Nat) (subj : Nat) (key : List Byte),
    (s.Ready q 0x0605 p) ∧ (s.nv.cust.closed = true) ∧ (p.len = 236) ∧ (k = p.target.toNat) ∧ (k < 8) ∧ (role = p.word 0 % 4) ∧ (key = (p.params.drop 4).take 64) ∧ (s.maint = true) ∧ (s.locked = false) ∧ ((if role = 0 then key.all (· == 0) else onCurve (ofBe (key.take 32)) (ofBe (key.drop 32))) = true) ∧ (twoRoles (s.rolesWith k role) = true) ∧ (subj = digest64 (ascii "KENR" ++ leBytes 1 k ++ leBytes 1 role ++ key)) ∧ (s.endorseCheck (p.endorse 68) 3 subj (some k) = none) ∧ (s.endorseCheck (p.endorse 152) 3 subj (some k) = none) ∧ ((s.slot (p.endorse 68).slot).role ≠ (s.slot (p.endorse 152).slot).role) := by
  have g0 : sg_keyEnrolledByTwo.signed ((pk_keyEnrolledByTwo).endorse 68) = true := by unfold State.signed; rw [serial0 _ h0 h1]; decide +kernel
  have g1 : sg_keyEnrolledByTwo.signed ((pk_keyEnrolledByTwo).endorse 152) = true := by unfold State.signed; rw [serial0 _ h0 h1]; decide +kernel
  have e0 : sg_keyEnrolledByTwo.Ready true 0x0605 pk_keyEnrolledByTwo := by unfold State.Ready State.Takes State.Offers; decide +kernel
  have e1 : sg_keyEnrolledByTwo.endorseCheck (pk_keyEnrolledByTwo.endorse 68) 3 10227486521345816670 (some 3) = none := by unfold State.endorseCheck; rw [g0]; decide +kernel
  have e2 : sg_keyEnrolledByTwo.endorseCheck (pk_keyEnrolledByTwo.endorse 152) 3 10227486521345816670 (some 3) = none := by unfold State.endorseCheck; rw [g1]; decide +kernel
  refine ⟨sg_keyEnrolledByTwo, true, pk_keyEnrolledByTwo, 3, 3, 10227486521345816670, ((pk_keyEnrolledByTwo).params.drop 4).take 64, ?_⟩
  repeat' with_reducible apply And.intro
  all_goals first | with_reducible assumption | with_reducible rfl | decide +kernel

/-! ### Well-formedness: an ill-formed term for each check -/

def pk0 : Packet := mkP 0x0101 0 (wds [1, 2, 3])
theorem test_wf_packet : (Instr.negotiate true pk0).wellFormed = true := by decide +kernel
theorem test_wf_packetTooLong : ∃ l : List Byte, (Instr.negotiate true { pk0 with params := l }).wellFormed = false := by
  have h : ∀ n : Nat, ∃ l : List Byte, l.length = n := fun n => ⟨List.replicate n 0, List.length_replicate⟩
  obtain ⟨l, hl⟩ := h (2 ^ 32)
  refine ⟨l, ?_⟩
  show decide (l.length < 2 ^ 32) = false
  rw [hl]; decide +kernel
theorem test_wf_headWrite : (Instr.b0HeadWrite true [(131071, 5)] 8).wellFormed = true
    ∧ (Instr.b0HeadWrite true [(131072, 5)] 8).wellFormed = false := by decide +kernel
theorem test_wf_tickTwiceAChannel : (Instr.gridTick [(3, [])]).wellFormed = true ∧ (Instr.gridTick [(3, []), (3, [(1, 1)])]).wellFormed = false := by
  decide +kernel
theorem test_wf_addresses : (hd0 5).wf = true ∧ { hd0 5 with src := 2 ^ 48 }.wf = false ∧ { hd0 5 with dst := 2 ^ 48 }.wf = false
    ∧ { hd0 5 with vlan := some 4096 }.wf = false ∧ { hd0 5 with appid := 65536 }.wf = false
    ∧ { hd0 5 with red := some (65536, 0) }.wf = false ∧ { hd0 5 with red := some (0, 16) }.wf = false := by decide +kernel
theorem test_wf_sampledValue : (Instr.svFrame ⟨hd0 5, [sva 3]⟩).wellFormed = true ∧ (Instr.svFrame ⟨hd0 5, [sva 65536]⟩).wellFormed = false
    ∧ (Instr.svFrame ⟨hd0 5, [{ sva 3 with mem := [(2147483648, {})] }]⟩).wellFormed = false
    ∧ (Instr.svFrame ⟨hd0 5, [{ sva 3 with mem := [(-2147483649, {})] }]⟩).wellFormed = false
    ∧ (Instr.svFrame ⟨hd0 5, [{ sva 3 with mem := [(0, { validity := 4 })] }]⟩).wellFormed = false := by decide +kernel
def gf0 : GooseFrame := { hd := hd0 5, ref := [], confRev := 1, stNum := 1, sqNum := 2, tal := 1000, mem := [] }
theorem test_wf_goose : (Instr.gooseFrame gf0).wellFormed = true ∧ (Instr.gooseFrame { gf0 with confRev := 2 ^ 32 }).wellFormed = false
    ∧ (Instr.gooseFrame { gf0 with stNum := 2 ^ 32 }).wellFormed = false ∧ (Instr.gooseFrame { gf0 with sqNum := 2 ^ 32 }).wellFormed = false
    ∧ (Instr.gooseFrame { gf0 with tal := 2 ^ 32 }).wellFormed = false
    ∧ (Instr.prpSupervisionRx { hd0 5 with src := 2 ^ 48 }).wellFormed = false := by decide +kernel
theorem test_wf_irig : (Instr.irigFrame 5 ⟨[2500000], false⟩).wellFormed = true ∧ (Instr.irigFrame 5 ⟨[2500001], false⟩).wellFormed = false := by
  decide +kernel
theorem test_wf_frameErrors : (Instr.commandFrame 5 [319]).wellFormed = true ∧ (Instr.commandFrame 5 [320]).wellFormed = false
    ∧ (Instr.readbackFrame 5 ⟨0, 0, 0, 0, 0⟩ [479]).wellFormed = true ∧ (Instr.readbackFrame 5 ⟨0, 0, 0, 0, 0⟩ [480]).wellFormed = false := by
  decide +kernel
def lk0 (pay : List Byte) : LkFrame := { ver := 2, seq := 5, pay := pay }
theorem test_wf_linkFrame : (Instr.helloRx 5 (lk0 [1]) 7).wellFormed = true ∧ (Instr.helloRx 5 { lk0 [1] with ver := 256 } 7).wellFormed = false
    ∧ (Instr.heartbeatRx 5 { lk0 [1] with seq := 2 ^ 32 } 7).wellFormed = false ∧ (Instr.handoverRx 5 { lk0 [1] with ver := 256 } 7).wellFormed = false
    ∧ (Instr.snapDataRx 5 256 0 [1] 7).wellFormed = false
    ∧ (Instr.snapEndRx 5 { ver := 2, seq := 2 ^ 32 } [1] 7 { seq := 1, n := 2, d := 3, ver := 2, dig := 1 }).wellFormed = false := by decide +kernel
theorem test_wf_linkFrameTooLong : ∃ l : List Byte, (Instr.helloRx 5 (lk0 l) 7).wellFormed = false := by
  have h : ∀ n : Nat, ∃ l : List Byte, l.length = n := fun n => ⟨List.replicate n 0, List.length_replicate⟩
  obtain ⟨l, hl⟩ := h 65536
  exact ⟨l, by simp [Instr.wellFormed, LkFrame.wf, lk0, hl]⟩

/-! ### Witnesses taken by hand -/

/-- A running unit. -/
def run0 : State := up base
/-- A unit held in reset. -/
def held0 : State := { State.reset with pwr := { phase := .held } }

theorem test_stepRunsFrontCommand : ∃ (s : State) (c : Instr) (rest : List Instr), s.pending = c :: rest :=
  ⟨{ run0 with pending := [.evtAppend, .evtSuppressed] }, .evtAppend, [.evtSuppressed], rfl⟩
theorem test_idleCycle : ∃ s : State, (s.pending = []) ∧ (s.up = true) ∧ (0 ≤ (s.grid.frac : Int) + s.grid.delta + 2 ^ 32) :=
  ⟨run0, by decide +kernel⟩
theorem test_idleCycle_c1 : ∃ s : State, (s.pending = []) ∧ (s.up = true) ∧ (0 ≤ (s.grid.frac : Int) + s.grid.delta + 2 ^ 32) ∧ (s.grid.deltaEnd = none) :=
  ⟨run0.modGrid fun g => { g with frac := 2 ^ 32 - 1, delta := -(2 ^ 33 - 1) }, by decide +kernel⟩
theorem test_idleCycle_c2 : ∃ (s t : State) (e : Nat), (s.pending = []) ∧ (s.up = true) ∧ (0 ≤ (s.grid.frac : Int) + s.grid.delta + 2 ^ 32)
    ∧ (step s = .next t) ∧ (s.grid.deltaEnd = some e) ∧ (e ≤ t.grid.now) :=
  ⟨run0.modGrid fun g => { g with deltaEnd := some 1000001 }, _, 1000001, by decide +kernel, by decide +kernel, by decide +kernel, rfl,
    by decide +kernel, by decide +kernel⟩
theorem test_idleCycle_c3 : ∃ (s t : State) (e : Nat), (s.pending = []) ∧ (s.up = true) ∧ (0 ≤ (s.grid.frac : Int) + s.grid.delta + 2 ^ 32)
    ∧ (step s = .next t) ∧ (s.grid.deltaEnd = some e) ∧ (t.grid.now < e) :=
  ⟨run0.modGrid fun g => { g with deltaEnd := some 1000002 }, _, 1000002, by decide +kernel, by decide +kernel, by decide +kernel, rfl,
    by decide +kernel, by decide +kernel⟩
theorem test_idleHeld : ∃ s : State, (s.pending = []) ∧ (s.up = false) := ⟨State.reset, by decide +kernel⟩
theorem test_logicSideHeld : ∃ (s : State) (c : Instr), (s.up = false) ∧ (s.pwr.phase ≠ .bootFail) ∧ (actsWhileHeld c = false) :=
  ⟨held0, .evtAppend, by decide +kernel⟩
theorem test_dieAlone : ∃ (s : State) (c : Instr), (dieCommand c = true) ∧ (s.up = false) := ⟨held0, .linkholdExpiry, by decide +kernel⟩
theorem test_bootWindow : ∃ (s : State) (a : Word), (s.pwr.phase = .bootFail) ∧ (bootBlock a.toNat = false) :=
  ⟨{ held0 with pwr := { phase := .bootFail } }, 0x20000, by decide +kernel⟩
theorem test_bootWindow_below : ∃ (s : State) (a : Word), (s.pwr.phase = .bootFail) ∧ (bootBlock a.toNat = false) :=
  ⟨{ held0 with pwr := { phase := .bootFail } }, 0x12FFFC, by decide +kernel⟩
theorem test_queueStaysOk : ∃ s : State, s.QueueOk ∧ s.pending ≠ [] :=
  ⟨{ run0 with pending := [.negotiate true pk0] }, by unfold State.QueueOk; decide +kernel⟩
theorem test_memoryStaysCanonical : ∃ s : State, (Memory.wf s.host.mem = true) ∧ s.host.mem ≠ [] := ⟨rdy base, by decide +kernel⟩
theorem test_settingsStay : ∃ (s : State) (c : Instr) (rest : List Instr), (s.pending = c :: rest) ∧ (bringsSettings c = false) :=
  ⟨{ run0 with pending := [.spWrite true 0x50000 7] }, .spWrite true 0x50000 7, [], by decide +kernel⟩
/-- A unit whose custody holds a pending bank. -/
def pend0 : State := run0.modCustNv fun c => { c with pend := some { bank := { words := [(0x50000, 1)] }, bdig := 77, sdig := 88, at' := none, ctr := 5, accepted := 0 } }
theorem test_swapBringsPendingBank : ∃ (s : State) (c : Instr) (rest : List Instr), (s.pending = c :: rest)
    ∧ (c = .settingsSwap ∨ ∃ codes, c = .gridTick codes) :=
  ⟨{ pend0 with pending := [.settingsSwap] }, .settingsSwap, [], rfl, .inl rfl⟩
theorem test_swapBringsPendingBank_tick : ∃ (s : State) (c : Instr) (rest : List Instr), (s.pending = c :: rest)
    ∧ (c = .settingsSwap ∨ ∃ codes, c = .gridTick codes) :=
  ⟨{ pend0 with pending := [.gridTick []] }, .gridTick [], [], rfl, .inr ⟨[], rfl⟩⟩
theorem test_startUpBringsCustodyBank : ∃ (s : State) (c : Instr) (rest : List Instr), (s.pending = c :: rest) ∧ (∃ v, c = .startUp v) :=
  ⟨{ pend0 with pwr := { phase := .released }, pending := [.startUp {}] }, .startUp {}, [], rfl, {}, rfl⟩
theorem test_startUpBringsCustodyBank_settings : ∃ (s : State) (c : Instr) (rest : List Instr), (s.pending = c :: rest) ∧ c = .startUpSettings :=
  ⟨{ pend0 with pwr := { phase := .settings }, pending := [.startUpSettings] }, .startUpSettings, [], rfl, rfl⟩

theorem test_exemptEventQueued : ∃ (s : State) (code : Nat), (exempt code = true) ∧ (s.queueTakes code = true) := ⟨run0, 0x9003, by decide +kernel⟩
theorem test_bucketsStartFull : ∃ torn : Bool, torn = true := ⟨true, rfl⟩
theorem test_bucketGovernsEvent_c1 : ∃ (s : State) (dev code : Nat), (exempt code = false)
    ∧ (let b := tget {} s.log.buckets code
       let burst := s.rd EVT_RATE.BURST (code / 4096) (code % 4096) * 1000000
       let old := b.lvl.getD burst
       let lvl := if b.last < dev then min burst (old + s.rd EVT_RATE.RATE (code / 4096) (code % 4096) * ((dev - b.last) / 250)) else old
       1000000 ≤ lvl) ∧ (s.queueTakes code = true) :=
  ⟨{ run0 with log := { buckets := [(0x6001, { lvl := some 1000000, last := 1000000, supp := 3 })] } }, 1000000, 0x6001, by decide +kernel⟩
theorem test_bucketGovernsEvent_c2 : ∃ (s : State) (dev code : Nat), (exempt code = false)
    ∧ (let b := tget {} s.log.buckets code
       let burst := s.rd EVT_RATE.BURST (code / 4096) (code % 4096) * 1000000
       let old := b.lvl.getD burst
       let lvl := if b.last < dev then min burst (old + s.rd EVT_RATE.RATE (code / 4096) (code % 4096) * ((dev - b.last) / 250)) else old
       lvl < 1000000) :=
  ⟨{ run0 with log := { buckets := [(0x6001, { lvl := some 999999, last := 1000000, supp := 3 })] } }, 1000000, 0x6001, by decide +kernel⟩
theorem fullQueue (n : Nat) (h : 20480 ≤ n) :
    ({ run0 with log := { queue := List.replicate n (⟨0, 0, 0, 0x9003, 0, 0, 0, 0⟩, 0) } } : State).queueTakes 0x9003 = false := by
  have e : exempt 0x9003 = true := by decide +kernel
  unfold State.queueTakes State.queuedExempt
  rw [List.filter_replicate]
  simp only [e, if_true, List.length_replicate]
  rw [if_neg (by omega)]; exact decide_eq_false (by omega)
theorem test_fullQueueDrops : ∃ (s : State) (code : Nat), (exempt code = true) ∧ (s.queueTakes code = false) :=
  ⟨_, 0x9003, by decide +kernel, fullQueue 20480 (Nat.le_refl _)⟩
theorem test_eventChangesLogOnly : ∃ code : Nat, code ≠ 0x0006 := ⟨0x6001, by decide⟩

theorem test_badFrameDiscarded : ∃ s : State, (s.up = true) ∧ ∀ c ∈ [Instr.helloRx 5 (lk0 [1]) 77, .heartbeatRx 5 (lk0 [1]) 77, .snapDataRx 5 2 5 [1] 77,
    .snapEndRx 5 (lk0 [1]).toLkHead [1] 77 { seq := 1, n := 2, d := 3, ver := 2, dig := 1 }, .handoverRx 5 (lk0 [1]) 77],
    ∃ (k : Nat) (f : LkFrame) (crc : BitVec 32), (lumkoFrame c = some (k, f, crc)) ∧ ¬ s.Hears k f crc := by
  refine ⟨pbase, by decide +kernel, fun c hc => ?_⟩
  have h : ∀ k ∈ [1, 2, 3, 4, 5], ¬ (77 : BitVec 32).toNat = crc32c ((lk0 [1]).bytes k) := by decide +kernel
  simp only [List.mem_cons, List.not_mem_nil, or_false] at hc
  rcases hc with rfl | rfl | rfl | rfl | rfl
  · exact ⟨1, _, _, rfl, fun x => h 1 (by simp) x.2.2⟩
  · exact ⟨2, _, _, rfl, fun x => h 2 (by simp) x.2.2⟩
  · exact ⟨3, _, _, rfl, fun x => h 3 (by simp) x.2.2⟩
  · exact ⟨4, _, _, rfl, fun x => h 4 (by simp) x.2.2⟩
  · exact ⟨5, _, _, rfl, fun x => h 5 (by simp) x.2.2⟩
theorem test_badFrameDiscarded_noLock : ∃ (s : State) (c : Instr) (k : Nat) (f : LkFrame) (crc : BitVec 32), (s.up = true)
    ∧ (lumkoFrame c = some (k, f, crc)) ∧ ¬ s.Hears k f crc :=
  ⟨pbase.modPair fun p => { p with locks := 13 }, .helloRx 5 (lk0 [1]) 77, 1, lk0 [1], 77, by decide +kernel, rfl,
    fun x => absurd x.1 (by decide +kernel)⟩
theorem test_happeningWaits : ∃ (s : State) (e : Fin 2048) (x : Instr × Nat), (s.up = true) ∧ (x = (Instr.elmOperate e, hOperate))
    ∧ (∀ r, ¬ s.brings (s.bank.fld ELM_CFG.BAY e) x.2 e r) :=
  ⟨run0, 7, (.elmOperate 7, hOperate), by decide +kernel, rfl, fun r h => by
    have hd : run0.gridCatch.bayDue (run0.bank.fld ELM_CFG.BAY (7 : Fin 2048)) = none := by decide +kernel
    have h1 := h.1; rw [hd] at h1; cases h1⟩
theorem test_chunkWaits : ∃ s : State, (s.up = true) ∧ (s.rec'.exporting = none ∨ ∃ e c l, s.rec'.exporting = some e ∧ e.chunks = c :: l
    ∧ s.berthSize e.berth < s.content e.berth + pad8 (8 + c.length)) := ⟨run0, by decide +kernel, .inl rfl⟩
theorem test_chunkWaits_room : ∃ s : State, (s.up = true) ∧ (s.rec'.exporting = none ∨ ∃ e c l, s.rec'.exporting = some e ∧ e.chunks = c :: l
    ∧ s.berthSize e.berth < s.content e.berth + pad8 (8 + c.length)) :=
  ⟨((rdy base).modRec fun r => { r with exporting := some ⟨5, 1, [[1, 2, 3]]⟩ }).wr HOST_BERTH_TAIL.VALUE 0 1 |>.wr HOST_BERTH_HEAD.VALUE 131072 1,
    by decide +kernel, .inr ⟨⟨5, 1, [[1, 2, 3]]⟩, [1, 2, 3], [], rfl, rfl, by decide +kernel⟩⟩

theorem test_handoverFrameActs_c1 : ∃ (s : State) (f : LkFrame) (crc : BitVec 32), (s.up = true) ∧ (s.rd PAIR_STATUS.LINK = 1) ∧ (s.pair.ver = 2)
    ∧ (s.Hears 5 f crc) ∧ (f.pay = [1]) ∧ (s.role = 4) ∧ (s.rd PAIR_STATUS.HO = 0) :=
  ⟨prd 4 base, lk0 [1], BitVec.ofNat 32 (crc32c ((lk0 [1]).bytes 5)), by unfold State.Hears; decide +kernel⟩
theorem test_handoverFrameActs_c2 : ∃ (s : State) (f : LkFrame) (crc : BitVec 32), (s.up = true) ∧ (s.rd PAIR_STATUS.LINK = 1) ∧ (s.pair.ver = 2)
    ∧ (s.Hears 5 f crc) ∧ (f.pay = [2]) ∧ (s.role = 2) ∧ (s.rd PAIR_STATUS.HO = 0) ∧ (s.rd PAIR_STATUS.READY = 1) :=
  ⟨(prd 2 base).wr PAIR_STATUS.READY 1, lk0 [2], BitVec.ofNat 32 (crc32c ((lk0 [2]).bytes 5)), by unfold State.Hears; decide +kernel⟩
theorem test_handoverFrameActs_c3 : ∃ (s : State) (f : LkFrame) (crc : BitVec 32), (s.up = true) ∧ (s.rd PAIR_STATUS.LINK = 1) ∧ (s.pair.ver = 2)
    ∧ (s.Hears 5 f crc) ∧ (f.pay = [3]) ∧ (s.role = 4) :=
  ⟨(prd 4 base).wr PAIR_STATUS.HO 1, lk0 [3], BitVec.ofNat 32 (crc32c ((lk0 [3]).bytes 5)), by unfold State.Hears; decide +kernel⟩
theorem test_spliceSettles_c1 : ∃ (s : State) (c : Fin 64), (s.up = true) ∧ (s.rd AFE_CH_CFG.MODE c = 2) ∧ (s.plainPeriod c = true) ∧ ((s.chan c).vPh < 99)
    ∧ ((s.chan c).st = .fadeUp) ∧ (64 ≤ (s.chan c).wA) :=
  ⟨setSp AFE_CH_CFG.MODE 2 3 (chm 3 (fun k => { k with st := .fadeUp, wA := 64, vPh := 98 }) base), 3, by decide +kernel⟩
theorem test_spliceFadesUp : ∃ (s : State) (c : Fin 64) (x : Int × Int), (s.up = true) ∧ (s.rd AFE_CH_CFG.MODE c = 2) ∧ (s.plainPeriod c = true) ∧ ((s.chan c).vPh < 99) ∧ ((s.chan c).st = .fine) ∧ (s.upTrigger c x = true) :=
  ⟨setSp AFE_CH_CFG.MODE 2 3 (chm 3 (fun k => { k with st := .fine, oB := { run := 1 } }) base), 3, (2, 8), by decide +kernel, by decide +kernel, by decide +kernel,
    by decide +kernel, by decide +kernel, by
      unfold State.upTrigger; rw [Bool.or_eq_true]; exact .inr (by decide +kernel)⟩
theorem test_spliceFadesDown : ∃ (s : State) (c : Fin 64) (x : Int × Int), (s.up = true) ∧ (s.rd AFE_CH_CFG.MODE c = 2) ∧ (s.plainPeriod c = true) ∧ ((s.chan c).vPh < 99) ∧ ((s.chan c).st = .wide) ∧ (s.rd AFE_CH_STATUS.FORCED_WIDE c = 0) ∧ (s.rd AFE_SPLICE_HOLD.VALUE * 12500 ≤ (if ewReaches (s.rd AFE_SPLICE_DN.VALUE) ((s.wordA c (codeOf x.1) :: (s.chan c).hA).take 192) then 0 else (s.chan c).low + 1)) :=
  ⟨setSp AFE_SPLICE_HOLD.VALUE 0 0 (setSp AFE_CH_CFG.MODE 2 3 (chm 3 (fun k => { k with st := .wide }) base)), 3, (2, 8), by decide +kernel, by decide +kernel,
    by decide +kernel, by decide +kernel, by decide +kernel, by decide +kernel, by
      rw [show ∀ s : State, s.rd AFE_SPLICE_HOLD.VALUE = s.bank.fld AFE_SPLICE_HOLD.VALUE from fun _ => rfl]
      exact Nat.le_trans (Nat.le_of_eq (show _ = 0 by decide +kernel)) (Nat.zero_le _)⟩

theorem test_startUpReachesCalibration : ∃ (s : State) (v : StartView), (s.pwr.phase = .released ∨ s.pwr.phase = .held)
    ∧ ((v.slot (s.rd ID_FW_SLOT.RB_MIN)).isSome = true) :=
  ⟨held0, { slot0 := some (1, held0.rd ID_FW_SLOT.RB_MIN) }, by decide +kernel, by simp [StartView.slot]⟩
theorem test_tickArrives : ∃ (s u : State) (codes : List (Fin 64 × Codes)), (s.up = true) ∧ (s.rd GRID_STATUS.RUN = 1)
    ∧ (u = (if s.grid.nextN % s.np = 0 then s.trackFull else s)) ∧ (u.trackDue = none)
    ∧ ((u.beforeTick (codes.map fun x => (x.1.val, x.2)) u.grid.nextT).swapNext = none) :=
  ⟨(run0.modGrid fun g => { g with nextN := 1 }).wr GRID_STATUS.RUN 1, _, [], by decide +kernel, by decide +kernel, rfl, by decide +kernel, by decide +kernel⟩

/-- With a calibration gain of 0 a converter shows 0 whatever its factory constants are. -/
theorem auxCode_zero (s : State) (m raw : Nat) (h : s.rd AUX_CAL_GAIN.VALUE m = 0) : s.auxCode m 23 raw = 0 := by
  unfold State.auxCode; simp [h, clampI]
/-- A unit with both converters so. -/
def aux0 : State := ((run0.modAux fun a => { a with xAt := some 700, xRun := 4 }).wr AUX_XCHK_CFG.EN 1).wr AUX_CAL_GAIN.VALUE 0 0 |>.wr AUX_CAL_GAIN.VALUE 0 1
theorem test_crossCheckRuns_c1 : ∃ (s : State) (r0 r1 : BitVec 16) (t0 d0 d1 : Nat), (s.up = true) ∧ (s.rd AUX_XCHK_CFG.EN ≠ 0) ∧ (s.auxBlocked 0 = false) ∧ (s.auxBlocked 1 = false) ∧ (s.aux.xAt = some t0) ∧ (d0 = s.auxCode 0 23 r0.toNat) ∧ (d1 = s.auxCode 1 23 r1.toNat) ∧ ((s.xVerdict d0 d1).1 = true) ∧ (max 1 (s.rd AUX_XCHK_CFG.N) ≤ s.aux.xRun + 1) ∧ (s.rd AUX_STATUS.XCHK_FAIL = 0) :=
  ⟨aux0, 777, 65535, 700, 0, 0, by decide +kernel, by decide +kernel, by decide +kernel, by decide +kernel, by decide +kernel,
    (auxCode_zero _ _ _ (by decide +kernel)).symm, (auxCode_zero _ _ _ (by decide +kernel)).symm, by decide +kernel, by decide +kernel, by decide +kernel⟩
theorem test_crossCheckRuns_c3 : ∃ (s : State) (r0 r1 : BitVec 16) (t0 d0 d1 : Nat), (s.up = true) ∧ (s.rd AUX_XCHK_CFG.EN ≠ 0) ∧ (s.auxBlocked 0 = false) ∧ (s.auxBlocked 1 = false) ∧ (s.aux.xAt = some t0) ∧ (d0 = s.auxCode 0 23 r0.toNat) ∧ (d1 = s.auxCode 1 23 r1.toNat) ∧ ((s.xVerdict d0 d1).1 = false) :=
  ⟨aux0.wr AUX_XCHK_CFG.SRC 1, 777, 65535, 700, 0, 0, by decide +kernel, by decide +kernel, by decide +kernel, by decide +kernel, by decide +kernel,
    (auxCode_zero _ _ _ (by decide +kernel)).symm, (auxCode_zero _ _ _ (by decide +kernel)).symm, by decide +kernel⟩
/-- A unit in HSR mode with both ports open. -/
def hsr0 : State := run0.modNet fun n => { n with mode := 2, ports := 3, down := [], bind := none }
theorem test_ringForwards : ∃ (s : State) (p : Fin 2) (f : RingFrame), (s.up = true) ∧ (s.pbus.net.mode = 2) ∧ (s.portOn p.val = true) ∧ (s.portOn (1 - p.val) = true) ∧ (f.src.toNat ≠ s.ownMac) :=
  ⟨hsr0, 1, { src := BitVec.ofNat 48 (hsr0.ownMac + 1) }, by decide +kernel, by decide +kernel, by decide +kernel, by decide +kernel, by
    rw [BitVec.toNat_ofNat]; omega⟩
theorem test_sessionOpened : ∃ (s : State) (q : Bool) (p : Packet) (v : Nat) (w : Nat),
    (s.Ready q 0x0101 p) ∧ (p.len = 12) ∧ (p.target = 0) ∧ (p.word 2 % 4 ≠ 0) ∧ ((p.word 0 + 2 ^ 32 * p.word 1).testBit (b2n q) = true) ∧ (v = (if 2 ≤ p.word 2 % 4 then 2 else 1)) ∧ (w = ((p.word 0 + 2 ^ 32 * p.word 1) &&& s.devFeat q) ||| 2 ^ 13) :=
  ⟨rdy base, true, mkP 0x0101 0 (wds [2, 0, 2]), 2, _, by unfold State.Ready State.Takes State.Offers; decide +kernel, by decide +kernel, by decide +kernel,
    by decide +kernel, by decide +kernel, by decide +kernel, rfl⟩
theorem test_sessionOpened_c1 : ∃ (s : State) (q : Bool) (p : Packet) (v : Nat) (w : Nat),
    (s.Ready q 0x0101 p) ∧ (p.len = 12) ∧ (p.target = 0) ∧ (p.word 2 % 4 ≠ 0) ∧ ((p.word 0 + 2 ^ 32 * p.word 1).testBit (b2n q) = true) ∧ (v = (if 2 ≤ p.word 2 % 4 then 2 else 1)) ∧ (w = ((p.word 0 + 2 ^ 32 * p.word 1) &&& s.devFeat q) ||| 2 ^ 13) ∧ (w.testBit 10 = false) :=
  ⟨rdy base, true, mkP 0x0101 0 (wds [2, 0, 1]), 1,
    (((mkP 0x0101 0 (wds [2, 0, 1])).word 0 + 2 ^ 32 * (mkP 0x0101 0 (wds [2, 0, 1])).word 1) &&& (rdy base).devFeat true) ||| 2 ^ 13, by unfold State.Ready State.Takes State.Offers; decide +kernel, by decide +kernel, by decide +kernel,
    by decide +kernel, by decide +kernel, by decide +kernel, rfl, by
      have hA : ((mkP 0x0101 0 (wds [2, 0, 1])).word 0 + 2 ^ 32 * (mkP 0x0101 0 (wds [2, 0, 1])).word 1).testBit 10 = false := by decide +kernel
      rw [Nat.testBit_or, Nat.testBit_and, hA]
      decide +kernel⟩
/-- A unit whose chamber holds the bank of reset values. -/
def chm0 : State := ((rdy base).wr SET_CHAMBER.STATE 1).modCust fun c => { c with shadow := some bank0 }
theorem test_bankSealed : ∃ (s : State) (q : Bool) (p : Packet) (k : Bank),
    (s.Ready q 0x0601 p) ∧ (p.len = 4) ∧ (p.target = 0) ∧ (p.word 0 % 256 = 3) ∧ (s.chamber = 1) ∧ (k = s.cust.shadow.getD s.settings) ∧ (k.firstFailure (s.hasFeat 14) = none) :=
  ⟨chm0, true, mkP 0x0601 0 (wds [3]), bank0, by unfold State.Ready State.Takes State.Offers; decide +kernel, by decide +kernel, by decide +kernel, by decide +kernel,
    by decide +kernel, rfl, bank0_passes _⟩
/-- A bank in which only one of two ports is on in PRP mode. -/
def badBank : Bank := { words := [(PBUS_NET_CFG.MODE.addr, PBUS_NET_CFG.PORT_EN.put (PBUS_NET_CFG.MODE.put 0 1) 1)] }
theorem firstFailure_some (k : Bank) (c : Bool) (h : k.failures c ≠ []) : ∃ x, k.firstFailure c = some x := by
  unfold Bank.firstFailure
  generalize k.failures c = l at h ⊢
  cases l with
  | nil => exact absurd rfl h
  | cons a r =>
    simp only [List.foldl_cons]
    clear h
    induction r generalizing a with
    | nil => exact ⟨a, rfl⟩
    | cons b r ih => simp only [List.foldl_cons]; exact ih (min b a)
/-- A unit whose chamber holds it. -/
def chm1 : State := chm0.modCust fun c => { c with shadow := some badBank }
theorem test_sealRefused : ∃ (s : State) (q : Bool) (p : Packet) (x : Nat),
    (s.Ready q 0x0601 p) ∧ (p.len = 4) ∧ (p.target = 0) ∧ (p.word 0 % 256 = 3) ∧ (s.chamber = 1) ∧ ((s.cust.shadow.getD s.settings).firstFailure (s.hasFeat 14) = some x) := by
  have hb : badBank.badPlain ≠ [] := by decide +kernel
  have hf : badBank.failures (chm1.hasFeat 14) ≠ [] := by
    unfold Bank.failures; simp only [ne_eq, List.append_eq_nil_iff]; intro h; exact hb h.1.1.1.1.1.1.1.2
  obtain ⟨x, hx⟩ := firstFailure_some badBank _ hf
  have e : chm1.cust.shadow.getD chm1.settings = badBank := rfl
  refine ⟨chm1, true, mkP 0x0601 0 (wds [3]), x, by unfold State.Ready State.Takes State.Offers; decide +kernel,
    by decide +kernel, by decide +kernel, by decide +kernel, by decide +kernel, ?_⟩
  rw [e]; exact hx

theorem test_rowOfItsOwn : ∃ (s : State) (q : Bool) (a w : Word) (c : Instr), (s.up = true) ∧ writeRow q w a.toNat c :=
  ⟨run0, true, BitVec.ofNat 32 PBUS_MDIO.VALUE.addr, 5, .pbusMdioWrite 5, by decide +kernel, .inl (by decide +kernel)⟩
theorem test_rowOfItsOwn_converter : ∃ (s : State) (q : Bool) (a w : Word) (c : Instr), (s.up = true) ∧ writeRow q w a.toNat c :=
  ⟨run0, true, BitVec.ofNat 32 (AUX_INJ_REQ.VALUE.at' 1 0), 5, .auxInjReqWrite 1 5, by decide +kernel, .inr (.inl ⟨1, by decide +kernel⟩)⟩
theorem test_rowOfItsOwn_berth : ∃ (s : State) (q : Bool) (a w : Word) (c : Instr), (s.up = true) ∧ writeRow q w a.toNat c :=
  ⟨run0, true, BitVec.ofNat 32 (HOST_BERTH_TAIL.VALUE.at' 255 0), 5, .berthTailWrite true 255 5, by decide +kernel, .inr (.inr ⟨255, by decide +kernel⟩)⟩
theorem test_readRowOfItsOwn : ∃ (s : State) (a : Word) (c : Instr), (s.up = true) ∧
    ((∃ (m : Fin 2) (k : Fin 24), a.toNat = AUX_RESULT.DATA.at' m k ∧ c = .auxResultRead m k)
      ∨ (∃ b : Fin 64, a.toNat = BAY_TICK_LO.VALUE.at' b 0 ∧ c = .bayTickLoRead b) ∨ (a.toNat ∈ loRegs ∧ c = .loReadLatch a)) :=
  ⟨run0, BitVec.ofNat 32 (AUX_RESULT.DATA.at' 1 23), .auxResultRead 1 23, by decide +kernel, .inl ⟨1, 23, by decide +kernel⟩⟩
theorem test_readRowOfItsOwn_bay : ∃ (s : State) (a : Word) (c : Instr), (s.up = true) ∧
    ((∃ (m : Fin 2) (k : Fin 24), a.toNat = AUX_RESULT.DATA.at' m k ∧ c = .auxResultRead m k)
      ∨ (∃ b : Fin 64, a.toNat = BAY_TICK_LO.VALUE.at' b 0 ∧ c = .bayTickLoRead b) ∨ (a.toNat ∈ loRegs ∧ c = .loReadLatch a)) :=
  ⟨run0, BitVec.ofNat 32 (BAY_TICK_LO.VALUE.at' 63 0), .bayTickLoRead 63, by decide +kernel, .inr (.inl ⟨63, by decide +kernel⟩)⟩
theorem test_readRowOfItsOwn_low : ∃ (s : State) (a : Word) (c : Instr), (s.up = true) ∧
    ((∃ (m : Fin 2) (k : Fin 24), a.toNat = AUX_RESULT.DATA.at' m k ∧ c = .auxResultRead m k)
      ∨ (∃ b : Fin 64, a.toNat = BAY_TICK_LO.VALUE.at' b 0 ∧ c = .bayTickLoRead b) ∨ (a.toNat ∈ loRegs ∧ c = .loReadLatch a)) :=
  ⟨run0, BitVec.ofNat 32 GRID_TIME_LO.VALUE.addr, .loReadLatch (BitVec.ofNat 32 GRID_TIME_LO.VALUE.addr), by decide +kernel,
    .inr (.inr (by decide +kernel))⟩
theorem test_stagedRegister : ∃ a w : Nat, (a % 4 = 0) ∧ (inElm a = false) ∧ (andNot w (fieldMask (spAt a)) = 0) ∧ (fieldMask (spAt a) ≠ 0) :=
  ⟨AFE_CH_CFG.MODE.at' 63 0, AFE_CH_CFG.MODE.put 0 3, by decide +kernel⟩
theorem test_claimOrder : claimHigher 0x4A 0x4B = false ∧ claimHigher 0x4B 0x4A = true ∧ claimHigher 0x4C 0x4B = true
    ∧ claimHigher (2 * 63) 1 = true ∧ claimHigher (2 * 64) 1 = false ∧ claimHigher (2 * 64 + 1) 0 = true ∧ claimHigher (2 * 65) 0 = false := by decide +kernel
theorem test_epochOfClaim : nextEpoch 37 none = 38 ∧ nextEpoch 127 none = 0 ∧ nextEpoch 37 (some 38) = 39 ∧ nextEpoch 37 (some 101) = 102
    ∧ nextEpoch 37 (some 102) = 38 := by decide +kernel
theorem test_rowRule_c1 : ∃ (x : Row) (kn fb rk latch : Bool) (minp dt : Nat), (x.cmd = true) ∧ ((x.step kn fb rk latch minp dt).1.cmd = false) :=
  ⟨{ cmd := true, pt := 2500, counting := true }, false, false, false, false, 10, 0, by decide +kernel⟩
theorem test_rowRule_c2 : ∃ (x : Row) (kn fb rk latch : Bool) (minp dt : Nat), (x.lat = true) ∧ ((x.step kn fb rk latch minp dt).1.lat = false) :=
  ⟨{ cmd := true, lat := true, hr := true }, false, false, false, true, 10, 0, by decide +kernel⟩
theorem test_recloserRule_c2 : ∃ (st : Nat) (i : ArIn), (1 ≤ st) ∧ (st ≤ 4) ∧ (i.block = true) := ⟨4, ⟨false, true, false, true, false⟩, by decide +kernel⟩
theorem test_recloserRule_c3 : ∃ (tm e : Nat) (i : ArIn), (i.start = false) ∧ (i.block = false) ∧ (e ≤ tm) := ⟨5, 5, ⟨false, true, false, false, false⟩, by decide +kernel⟩
theorem test_fieldsLieApart : ∃ (a i j : Nat) (x y : Field × Nat × Nat), ((fieldsAt plainFields a)[i]? = some x) ∧ ((fieldsAt plainFields a)[j]? = some y) ∧ (i ≠ j) :=
  ⟨GRID_CFG.NOMF.addr, 0, 1, ((fieldsAt plainFields GRID_CFG.NOMF.addr)[0]?).getD (GRID_CFG.NOMF, 0, 0),
    ((fieldsAt plainFields GRID_CFG.NOMF.addr)[1]?).getD (GRID_CFG.NOMF, 0, 0), by decide +kernel⟩
/-- A unit whose fast detector 40 has one sample to look at. -/
def fastUp : State :=
  let s := base
  ((setSp BAY_CFG.EN 1 3 (setSp KNOT_FP_CFG.EN 1 40 (setSp KNOT_FP_CFG.BAY 3 40 (setSp KNOT_FP_CFG.CH 6 40 (setSp KNOT_FP_CFG.M 2 40 (setSp KNOT_FP_CFG.Q 2 40 (setSp KNOT_FP_CFG.KEN 0 40 (setSp KNOT_FP_CFG.DO 200 40 $ setSp KNOT_FP_TH.VALUE 900 40 (setSp KNOT_TM_CFG.EN 1 7 (setSp KNOT_TM_CFG.BAY 3 7 (setSp KNOT_TM_FAST_HI.MASK 256 7 (up s)))))))))))).modEval fun v => { v with bay := [(3, { run := true })], fp := [(40, { up := false, count := 1, c := 1/2, seen := 600 * 2^32, hot := true })] }).modPwr (fun p => { p with prot := true }) |>.wr PAIR_STATUS.ROLE (s.grid.now % 2)|>.setChan 6 { ((s.chan 6)) with base := [⟨900*2^32, 7, 0⟩, ⟨(700 + s.grid.now % 3) * 2^32, 1000, 0⟩, ⟨600*2^32, 1000, 0⟩, ⟨500*2^32, 1000, 0⟩, ⟨400*2^32, 1000, 0⟩, ⟨300*2^32, 1000, 0⟩, ⟨200*2^32, 1000, 0⟩] }
theorem test_fastPicksUp : ∃ (s : State) (f : Fin 64) (b : BaseSmp),
    (s.up = true) ∧ (s.fastCounts f.val b) ∧ ((s.fp f.val).up = false) ∧ (fmul (s.bank.fld KNOT_FP_TH.VALUE f.val : Nat) (s.bank.fld KNOT_FP_TH.VALUE f.val : Nat) ≤ s.fastE2 f.val (s.fastNext f.val)) ∧ (s.bank.fld KNOT_FP_CFG.Q f.val ≤ (s.fp f.val).count + 1) :=
  ⟨fastUp, 40, ⟨(700 + fastUp.grid.now % 3) * 2^32, 1000, 0⟩, by decide +kernel,
    ⟨by decide +kernel, by decide +kernel, fun _ _ h => (by cases h), ⟨(fastUp.fastNext 40).tail, by decide +kernel⟩, by decide +kernel, by decide +kernel, by decide +kernel, by decide +kernel, by decide +kernel⟩,
    by decide +kernel, by decide +kernel, by decide +kernel⟩
/-- A unit whose fast detector 40 has one sample to look at. -/
def fastDn : State :=
  let s := base
  ((setSp BAY_CFG.EN 1 3 (setSp KNOT_FP_CFG.EN 1 40 (setSp KNOT_FP_CFG.BAY 3 40 (setSp KNOT_FP_CFG.CH 6 40 (setSp KNOT_FP_CFG.M 2 40 (setSp KNOT_FP_CFG.Q 2 40 (setSp KNOT_FP_CFG.KEN 0 40 (setSp KNOT_FP_CFG.DO 200 40 $ setSp KNOT_FP_TH.VALUE 900 40 (setSp KNOT_TM_CFG.EN 1 7 (setSp KNOT_TM_CFG.BAY 3 7 (setSp KNOT_TM_FAST_HI.MASK 256 7 (up s)))))))))))).modEval fun v => { v with bay := [(3, { run := true })], fp := [(40, { up := true, count := 1, c := 1/2, seen := 600 * 2^32, hot := true })] }).modPwr (fun p => { p with prot := true }) |>.wr PAIR_STATUS.ROLE (s.grid.now % 2)|>.setChan 6 { ((s.chan 6)) with base := [⟨900*2^32, 7, 0⟩, ⟨(700 + s.grid.now % 3) * 2^32, 10, 0⟩, ⟨600*2^32, 10, 0⟩, ⟨500*2^32, 10, 0⟩, ⟨400*2^32, 1000, 0⟩, ⟨300*2^32, 1000, 0⟩, ⟨200*2^32, 1000, 0⟩] }
theorem test_fastDropsOut : ∃ (s : State) (f : Fin 64) (b : BaseSmp) (lo : Rat),
    (s.up = true) ∧ (s.fastCounts f.val b) ∧ ((s.fp f.val).up = true) ∧ (lo = (s.bank.fld KNOT_FP_TH.VALUE f.val : Nat) * (s.bank.fld KNOT_FP_CFG.DO f.val : Nat) / 256) ∧ (s.fastE2 f.val (s.fastNext f.val) < fmul lo lo) ∧ (s.bank.fld KNOT_FP_CFG.Q f.val ≤ (s.fp f.val).count + 1) :=
  ⟨fastDn, 40, ⟨(700 + fastDn.grid.now % 3) * 2^32, 10, 0⟩, 900 * (fastDn.bank.fld KNOT_FP_CFG.DO 40 : Nat) / 256, by decide +kernel,
    ⟨by decide +kernel, by decide +kernel, fun _ _ h => (by cases h), ⟨(fastDn.fastNext 40).tail, by decide +kernel⟩, by decide +kernel, by decide +kernel, by decide +kernel, by decide +kernel, by decide +kernel⟩,
    by decide +kernel, by decide +kernel, by decide +kernel, by decide +kernel⟩
/-- A unit in HSR mode. -/
def hsrB : State := (svb 3 base).modNet fun n => { n with mode := 2 }
theorem test_ownFrameRemoved : ∃ (s : State) (f : GooseFrame),
    (s.up = true) ∧ (s.portOn f.hd.port.val = true) ∧ (f.hd.bad = false) ∧ (s.pbus.net.mode = 2) ∧ (f.hd.src = s.ownMac) :=
  ⟨hsrB, { gsf 5 5 5 with hd := { (gsf 5 5 5).hd with src := hsrB.ownMac } }, by decide +kernel, by decide +kernel, by decide +kernel,
    by decide +kernel, rfl⟩
/-- The same, having seen a frame of another node from the other port. -/
def hsrD : State := hsrB.modNet fun n => { n with seen := [(hsrB.ownMac + 1, 3, 1, 5)] }
theorem test_duplicateDiscarded : ∃ (s : State) (f : GooseFrame) (seq : Nat) (lan : Nat) (t0 : Nat),
    (s.up = true) ∧ (s.portOn f.hd.port.val = true) ∧ (f.hd.bad = false) ∧ (s.pbus.net.mode = 2) ∧ (f.hd.src ≠ s.ownMac) ∧ (f.hd.red = some (seq, lan)) ∧ ((f.hd.src, seq, 1 - f.hd.port.val, t0) ∈ s.pbus.net.seen) ∧ (f.hd.sfd < t0 + 15000000000) :=
  ⟨hsrD, { gsf 5 5 5 with hd := { (gsf 5 5 5).hd with src := hsrB.ownMac + 1, red := some (3, 0) } }, 3, 0, 5,
    by decide +kernel, by decide +kernel, by decide +kernel, by decide +kernel, Nat.succ_ne_self hsrB.ownMac, by decide +kernel,
    List.mem_singleton.2 rfl, by decide +kernel⟩
theorem test_irigWidths : ∃ (w : Nat) (s : State) (r : IrigRaw), (irigElem w = some 0) ∧ (irigElem 1000000 = some 1) ∧ (irigElem 2250000 = some 2)
    ∧ (irigElem 750001 = none) ∧ (s.rd PBUS_IRIG_CFG.POL ≠ b2n r.low) := ⟨250000, base, ⟨[], true⟩, by decide +kernel⟩
theorem test_boundStaysAhead : ∃ s : State, (s.grid.now + 2 ^ 28 ≤ s.grid.boundV) ∧ (-(2 : Int) ^ 32 ≤ s.grid.delta) :=
  ⟨base.modGrid fun g => { g with bound := { newer := some (2 ^ 29) } }, by decide +kernel⟩
theorem test_groupsShown : ∃ (s : State) (t : State) (c : Instr), (exec c s = .next t) ∧ (t.afe.settled ≠ []) :=
  ⟨held0.modAfe fun a => { a with settled := [(0, 5)] }, _, .hbMiss false, rfl, by decide +kernel⟩
theorem test_failedCarriesNothing : ∃ (s : State) (k : Nat), (s.bist.placeDue = true) ∧ (k < 9) ∧ (s.rd BIST_ENG_STATUS.HEALTHY k = 0) :=
  ⟨(run0.wr BIST_ENG_STATUS.HEALTHY 0 3).modBist fun v => { v with placeDue := true }, 3, by decide +kernel⟩
/-- A unit with a complete block that a closed record holds. -/
def drain0 : State :=
  let r : Record := { id := 7, inst := 2, cfg := {}, first := 90, last := 195 }
  run0.modRec fun v => { v with inst := [(2, { blk := [{ first := 100, cnt := 50, closed := true }] })], closing := [r] }
theorem test_drainsRotate : ∃ (s : State) (i : Nat), (s.rec'.draining = none) ∧ (s.drainNext.rec'.draining = some i) :=
  ⟨drain0, 2, by decide +kernel⟩
theorem test_drainsRotate_none : ∃ s : State, (s.rec'.draining = none) ∧ (s.drainNext.rec'.draining = none) := ⟨run0, by decide +kernel⟩
theorem test_forceFollowsMasks : ∃ (s : State), (s.maint = true) ∧ (s.role ≠ 3) ∧ ((s.rd KNOT_TM_FORCE_EN.MASK).testBit 7 = true) :=
  ⟨(run0.wr HOST_STATUS.MAINT 1).wr KNOT_TM_FORCE_EN.MASK 128, by decide +kernel⟩
theorem test_forceFollowsMasks_none : ∃ (s : State), s.maint = false ∨ s.role = 3 := ⟨run0, by decide +kernel⟩
/-- With a gain and an offset of 0 a word of B is 0 whatever the converter's constants are. -/
theorem wordB_zero (s : State) (c : Nat) (m : Int) (h : s.rd AFE_CH_TRIM_GAIN.VALUE c = 0) (h' : s.rdI AFE_CH_TRIM_OFS.VALUE c = 0) :
    s.wordB c true m = 0 := by
  simp [State.wordB, correctWord, gEff, h, h', satI, clampI]
theorem test_spliceSettles_c2 : ∃ (s : State) (c : Fin 64) (x : Int × Int), (s.up = true) ∧ (s.rd AFE_CH_CFG.MODE c = 2) ∧ (s.plainPeriod c = true) ∧ ((s.chan c).vPh < 99)
    ∧ ((s.chan c).st = .fadeDown) ∧ ((s.chan c).wA = 0) ∧ (s.upTrigger c x = false) :=
  ⟨setSp AFE_CH_TRIM_GAIN.VALUE 0 3 (setSp AFE_SPLICE_UP.VALUE 500000 0 (setSp AFE_CH_CFG.MODE 2 3 (chm 3 (fun k => { k with st := .fadeDown, wA := 0 }) base))), 3, (2, 1),
    by decide +kernel, by decide +kernel, by decide +kernel, by decide +kernel, by decide +kernel, by decide +kernel, by
      unfold State.upTrigger; rw [wordB_zero _ _ _ (by decide +kernel) (by decide +kernel)]; decide +kernel⟩

/-! ### Pads and frames whose bytes the spec leaves open -/

/-- A low pad of channel 3, type 1, at 20 V. -/
theorem padHigh_20V : padHigh 3 0 false 20000 = true := by
  have h := Nat.mod_lt (Config.padTrim 3 0) (show 0 < 2 * 500 + 1 by decide)
  unfold padHigh padThr
  rw [if_pos rfl, if_neg (by decide)]
  exact decide_eq_true (by omega)
/-- A unit whose input 3 is low, reports its changes as `e` says, and is debounced from `deb` on. -/
def pad0 (e deb : Nat) : State :=
  (setSp DIO_CH_CFG.ITYPE 0 3 (setSp DIO_CH_CFG.EVT e 3 dbase)).wr DIO_IN_OK.MASK 8 |>.modDio fun d => { d with ival := 0, deb := [(3, deb)], ret := [] }
theorem pad0_ok (e deb : Nat) (he : e < 2) (hd : deb < 2) :
    let s := pad0 e (900000 * deb)
    (s.up = true) ∧ ((s.rd DIO_IN_OK.MASK).testBit (3 : Fin 32) = true)
      ∧ (true = padHigh (3 : Fin 32) (s.rd DIO_CH_CFG.ITYPE (3 : Fin 32)) (s.dio.ival.testBit (3 : Fin 32)) (20000 : BitVec 16).toNat)
      ∧ (s.dio.ival.testBit (3 : Fin 32) = !true) ∧ (tfind s.dio.ret (3 : Fin 32) = none) ∧ (s.rd DIO_CH_CFG.EVT (3 : Fin 32) = e) := by
  have h : ∀ e < 2, ∀ deb < 2, (pad0 e (900000 * deb)).rd DIO_CH_CFG.ITYPE (3 : Fin 32) = 0 ∧ (pad0 e (900000 * deb)).dio.ival.testBit (3 : Fin 32) = false
      ∧ (pad0 e (900000 * deb)).up = true ∧ ((pad0 e (900000 * deb)).rd DIO_IN_OK.MASK).testBit (3 : Fin 32) = true
      ∧ tfind (pad0 e (900000 * deb)).dio.ret (3 : Fin 32) = none ∧ (pad0 e (900000 * deb)).rd DIO_CH_CFG.EVT (3 : Fin 32) = e := by decide +kernel
  obtain ⟨h1, h2, h3, h4, h5, h6⟩ := h e he deb hd
  exact ⟨h3, h4, by rw [h1, h2]; exact padHigh_20V.symm, by rw [h2]; rfl, h5, h6⟩
theorem test_inputDebounces : ∃ (s : State) (d : Fin 32) (t0 : Nat) (u : Nat) (mv : BitVec 16) (lvl : Bool),
    (s.up = true) ∧ ((s.rd DIO_IN_OK.MASK).testBit d = true) ∧ (lvl = padHigh d (s.rd DIO_CH_CFG.ITYPE d) (s.dio.ival.testBit d) mv.toNat) ∧ (s.dio.ival.testBit d = !lvl) ∧ (tfind s.dio.ret d = none) ∧ (u = max t0 (tget 0 s.dio.deb d)) := by
  obtain ⟨h1, h2, h3, h4, h5, h6⟩ := pad0_ok 0 0 (by decide) (by decide)
  exact ⟨(pad0 0 (900000 * 0)), 3, 5, _, 20000, true, h1, h2, h3, h4, h5, rfl⟩
theorem test_inputDebounces_c1 : ∃ (s : State) (d : Fin 32) (t0 : Nat) (u : Nat) (mv : BitVec 16) (lvl : Bool),
    (s.up = true) ∧ ((s.rd DIO_IN_OK.MASK).testBit d = true) ∧ (lvl = padHigh d (s.rd DIO_CH_CFG.ITYPE d) (s.dio.ival.testBit d) mv.toNat) ∧ (s.dio.ival.testBit d = !lvl) ∧ (tfind s.dio.ret d = none) ∧ (u = max t0 (tget 0 s.dio.deb d)) ∧ (s.rd DIO_CH_CFG.EVT d = 1) := by
  obtain ⟨h1, h2, h3, h4, h5, h6⟩ := pad0_ok 1 0 (by decide) (by decide)
  exact ⟨(pad0 1 (900000 * 0)), 3, 5, _, 20000, true, h1, h2, h3, h4, h5, rfl, h6⟩
theorem test_inputDebounces_c2 : ∃ (s : State) (d : Fin 32) (t0 : Nat) (u : Nat) (mv : BitVec 16) (lvl : Bool),
    (s.up = true) ∧ ((s.rd DIO_IN_OK.MASK).testBit d = true) ∧ (lvl = padHigh d (s.rd DIO_CH_CFG.ITYPE d) (s.dio.ival.testBit d) mv.toNat) ∧ (s.dio.ival.testBit d = !lvl) ∧ (tfind s.dio.ret d = none) ∧ (u = max t0 (tget 0 s.dio.deb d)) ∧ (s.rd DIO_CH_CFG.EVT d ≠ 1) := by
  obtain ⟨h1, h2, h3, h4, h5, h6⟩ := pad0_ok 0 1 (by decide) (by decide)
  exact ⟨(pad0 0 (900000 * 1)), 3, 5, _, 20000, true, h1, h2, h3, h4, h5, rfl, fun h => absurd (h6.symm.trans h) (by decide)⟩
/-- A standby in which all of a snapshot's bytes have come. -/
def snap0 : Snap := { seq := 3, n := 7, d := 980000, ver := 2, dig := 0 }
def link0 : State :=
  let s := pbase
  ((fun s : State => (s.modEval fun e => { e with bay := [(2,{run := true, next := 8, meas := 8}),(5,{run := true, next := 8, meas := 8})] }).modGrid fun g => { g with nextN := 9, nextT := 900000*2^24, hist := [{n := 8, t := 990000 * 2^24, per := 62500*2^24, freq := 50000000},{n := 7, t := 980000 * 2^24, per := 62500*2^24, freq := 50000000},{n := 6, t := 970000 * 2^24, per := 62500*2^24, freq := 50000000}] }) (prd 2 s)).modPair fun p => { p with ho := none, asm := if p.hello then none else some (3,[(0,snap0.encoded)]) }
theorem assemble_one (l : List Byte) : assemble [(0, l)] = l := by simp [assemble]
theorem snapGood_whole (s : State) (x : Snap) (r : TickRec) (ha : s.pair.asm = some (x.seq, [(0, x.encoded)])) (hv : x.ver = s.pair.ver)
    (hr : s.tickAtOrBefore (s.mapBack x.d) = some r) (hd : s.digAt r.n = x.dig) : s.snapGood x x.endPay = true := by
  unfold State.snapGood
  rw [ha, hr]
  simp [assemble_one, hv, hd]
theorem snap0_good : (link0.atTime 5).snapGood snap0 snap0.endPay = true :=
  snapGood_whole _ _ { n := 7, t := 980000 * 2 ^ 24, per := 62500 * 2 ^ 24, freq := 50000000 } rfl (by decide +kernel) (by decide +kernel)
    (by decide +kernel)
theorem test_snapEnds_c1 : ∃ (s : State) (t0 : Nat) (h : LkHead) (pay : List Byte) (crc : BitVec 32) (x : Snap),
    (s.up = true) ∧ (s.role = 2) ∧ (s.rd PAIR_STATUS.LINK = 1) ∧ (s.pair.ho = none) ∧ (s.Hears 4 { toLkHead := h, pay := pay } crc) ∧ (pay.length = 12) ∧ ((s.atTime t0).snapGood x pay = true) :=
  ⟨link0, 5, { ver := 2, seq := 5 }, snap0.endPay, BitVec.ofNat 32 (crc32c (({ ver := 2, seq := 5, pay := snap0.endPay } : LkFrame).bytes 4)), snap0,
    by decide +kernel, by decide +kernel, by decide +kernel, by decide +kernel,
    ⟨by decide +kernel, by rw [Snap.endPay_length]; decide, by rw [BitVec.toNat_ofNat]; exact Nat.mod_eq_of_lt (crc32c_lt _)⟩,
    snap0.endPay_length, snap0_good⟩
theorem test_goodSnapshotIsWhole : ∃ (s : State) (x : Snap) (pay : List Byte), s.snapGood x pay = true := ⟨_, _, _, snap0_good⟩
theorem test_linkPayloads : ∃ h : Hello, (h.vers < 4) ∧ (h.rank < 256) ∧ (h.serial < 2 ^ 64) ∧ (h.fw < 2 ^ 32) ∧ (h.dig < 2 ^ 64) :=
  ⟨{ vers := 3, rank := 255, serial := 2 ^ 64 - 1, fw := 2 ^ 32 - 1, dig := 2 ^ 64 - 1 }, by decide +kernel⟩
theorem test_linkPayloads_heartbeat : ∃ h : Heartbeat, (h.role < 8) ∧ (h.rank < 2) ∧ (h.word < 256) ∧ (h.nr < 2 ^ 16) ∧ (h.s < 2 ^ 64) ∧ (h.e < 2 ^ 64)
    ∧ (h.w < 2 ^ 32) ∧ (h.tickN < 2 ^ 64) ∧ (h.tickAt < 2 ^ 64) ∧ (h.snap < 2 ^ 32) ∧ (h.dig < 2 ^ 64) ∧ (h.inDig < 2 ^ 32) ∧ (h.proof < 256)
    ∧ (h.pSeen < 256) ∧ (h.code < 256) :=
  ⟨{ role := 4, rank := 1, ready := true, assert_ := true, ho := false, word := 255, nr := 65535, s := 2 ^ 64 - 1, e := 0, w := 2 ^ 32 - 1, tickN := 3,
     tickAt := 4, snap := 1, dig := 2 ^ 64 - 1, inDig := 6, proof := 255, pSeen := 30, code := 3 }, by decide +kernel⟩
theorem test_inputThresholds : ∃ a b c d : Nat, (12500 ≤ a) ∧ (b ≤ 9500) ∧ (8500 ≤ c) ∧ (d ≤ 6000) := ⟨12500, 9500, 8500, 6000, by decide⟩
theorem test_claimLineUnused : ∃ s : State, (s.up = true) ∧ (s.rd DIO_PAIR_CFG.CLAIM_EN = 0 ∨ s.pairOn = false) :=
  ⟨setSp DIO_PAIR_CFG.CLAIM_EN 0 0 dbase, by decide +kernel⟩
theorem test_claimLineUnused_unpaired : ∃ s : State, (s.up = true) ∧ (s.rd DIO_PAIR_CFG.CLAIM_EN = 0 ∨ s.pairOn = false) :=
  ⟨setSp DIO_PAIR_CFG.CLAIM_EN 1 0 (dbase.wr PAIR_STATUS.ROLE 0), by decide +kernel⟩
/-- A unit whose PTP port 1 has the state `st`, the latest Announce having come at device time 5. -/
def ptp0 (st now : Nat) : State :=
  (ptb 3 base).modPtp (fun p => { p with st := [(1, st)], from' := [(1, 5)], heard := [] }) |>.modGrid fun g => { g with now := now }
theorem test_portFollows_c1 : ∃ (s : State) (p : Nat), (p < 2) ∧ (s.rd PBUS_PTP_CFG.EN = 0 ∨ s.portOn p = false) :=
  ⟨setSp PBUS_PTP_CFG.EN 0 0 (ptp0 4 900), 1, by decide +kernel⟩
theorem test_portFollows_c2 : ∃ (s : State) (p : Nat), (p < 2) ∧ (s.rd PBUS_PTP_CFG.EN = 1) ∧ (s.portOn p = true) ∧ (tget 7 s.pbus.ptp.st p = 7) :=
  ⟨ptp0 7 900, 1, by decide +kernel⟩
theorem test_portFollows_c3 : ∃ (s : State) (p : Nat), (p < 2) ∧ (s.rd PBUS_PTP_CFG.EN = 1) ∧ (s.portOn p = true) ∧ (tget 7 s.pbus.ptp.st p ≠ 7) ∧ (s.grid.now < tget 0 s.pbus.ptp.from' p + 750000000) :=
  ⟨ptp0 3 750000004, 1, by decide +kernel⟩
theorem test_portFollows_c4 : ∃ (s : State) (p : Nat), (p < 2) ∧ (s.rd PBUS_PTP_CFG.EN = 1) ∧ (s.portOn p = true) ∧ (tget 7 s.pbus.ptp.st p ≠ 7) ∧ (tget 0 s.pbus.ptp.from' p + 750000000 ≤ s.grid.now) ∧ (s.ptpStandIn p = none) :=
  ⟨ptp0 3 750000005, 1, by decide +kernel⟩

end Sys2Proof.Tests
end

namespace Sys2Proof.Machine
open Reg

/-! ### What every command leaves: its outputs and its frame -/

/-- Bringing GRP_PWR up to date touches no condition of the life contact (R104, R412). -/
theorem State.grpShown_aliveCause (s : State) : s.grpShown.aliveCause = s.aliveCause := by
  have h (f : Field) (hf : f.key 0 0 ≠ AFE_STATUS.GRP_PWR.key 0 0) : s.grpShown.rd f = s.rd f := s.grpShown_rd f 0 0 hf
  have hpwr : s.grpShown.pwr = s.pwr := rfl
  have hdio : s.grpShown.dio = s.dio := rfl
  have hrole : s.grpShown.role = s.role := h PAIR_STATUS.ROLE (by decide)
  have hmaint : s.grpShown.maint = s.maint := congrArg (· == 1) (h HOST_STATUS.MAINT (by decide))
  unfold State.aliveCause
  rw [h DIO_ALIVE.EN (by decide), h DIO_ALIVE.HOSTOFF (by decide), h PWR_START.STEP (by decide), h DIO_STATUS.LINK (by decide),
    h DIO_ALIVE.MAINT_OFF (by decide), hpwr, hdio, hrole, hmaint]

/-- The life contact's CAUSE names the first condition that fails (R412). -/
theorem State.alive_cause (s : State) : s.alive.rd DIO_ALIVE.CAUSE = s.aliveCause := by
  unfold State.alive
  rw [State.rd_wr_same _ _ _ _ _ (by decide) (by decide)]
  exact Nat.mod_eq_of_lt s.aliveCause_lt

/-- What a command leaves has the conditions of the life contact that its effect gave. -/
theorem State.left_aliveCause (s t : State) : (s.left t).aliveCause = t.aliveCause :=
  calc (s.left t).aliveCause = t.alive.grpShown.aliveCause := rfl
    _ = t.alive.aliveCause := t.alive.grpShown_aliveCause
    _ = t.aliveCause := t.alive_aliveCause

theorem State.left_lifeOk (s t : State) : (s.left t).LifeOk := by
  have h (f : Field) (hf : f.key 0 0 ≠ AFE_STATUS.GRP_PWR.key 0 0) : (s.left t).rd f = t.alive.rd f := t.alive.grpShown_rd f 0 0 hf
  unfold State.LifeOk
  rw [s.left_aliveCause t, h DIO_ALIVE.STATE (by decide), h DIO_ALIVE.CAUSE (by decide)]
  exact ⟨t.alive_state, t.alive_cause⟩

/-- Every command shows its outputs (R400, R412, R603). -/
theorem State.left_outputsOk (s t : State) : (s.left t).OutputsOk := ⟨s.left_lifeOk t, rfl⟩

/-- The register store beside the keys that follow every command is as the effect left it. -/
theorem State.left_regs_other (s t : State) {k : Nat} (hk : k ∉ lifeKeys) : tfind (s.left t).regs k = tfind t.regs k := by
  simp only [lifeKeys, List.mem_cons, List.not_mem_nil, or_false, not_or] at hk
  obtain ⟨hstate, hcause, hgrp⟩ := hk
  have hgrpRegs : tfind t.alive.grpRegs k = tfind t.alive.regs k := by
    unfold State.grpRegs
    split
    · rfl
    · exact tfind_tset_other _ _ _ _ hgrp
  calc tfind (s.left t).regs k = tfind t.alive.grpRegs k := rfl
    _ = tfind t.alive.regs k := hgrpRegs
    _ = tfind (t.wr DIO_ALIVE.STATE (b2n (t.aliveCause == 0))).regs k := tfind_tset_other _ _ _ _ hcause
    _ = tfind t.regs k := tfind_tset_other _ _ _ _ hstate

/-- A part that the effect `t` has as `s` had it stays over the whole command. -/
theorem Part.same_left {p : Part} {s t : State} (h : p.same s t) : p.same s (s.left t) := by
  cases p <;> exact h

/-- The frame of a command is that of its effect: the parts and the register keys that the effect leaves alone. -/
theorem State.keeps_left {s t : State} {parts : List Part} {keys : List Nat} (hparts : ∀ p, p ∉ parts → p.same s t)
    (hkeys : ∀ k, k ∉ lifeKeys → k ∉ keys → tfind t.regs k = tfind s.regs k) : s.Keeps (s.left t) parts keys :=
  ⟨fun p hp => Part.same_left (hparts p hp), fun k hl hk => (s.left_regs_other t hl).trans (hkeys k hl hk), rfl, s.left_outputsOk t⟩

theorem Part.same_refl (p : Part) (s : State) : p.same s s := by
  cases p <;> rfl

/-- A command without an effect changes nothing. -/
theorem State.keeps_left_self (s : State) : s.Keeps (s.left s) [] [] :=
  State.keeps_left (fun p _ => p.same_refl s) fun _ _ _ => rfl

/-- A command's outcome is the state that its effect leaves. -/
theorem State.goes_done {s u t : State} : Goes (s.done u) t ↔ t = s.left u :=
  ⟨fun h => (Host.Outcome.next.inj h).symm, fun h => congrArg Host.Outcome.next h.symm⟩

/-! ### Device time moves on (R8, R10, R12, R231) -/

/-- The grid part with device time at `n` and `f` units of 2^-32: an adjustment that is over has ended, the bound is ahead (R12, R231). -/
def GridSt.moved (g : GridSt) (n f : Nat) : GridSt := { g with now := n, frac := f }.deltaDue.bounded

/-- The end of a rate adjustment writes the adjustment and its end. -/
theorem GridSt.deltaDue_frame (g : GridSt) : g.deltaDue = { g with delta := g.deltaDue.delta, deltaEnd := g.deltaDue.deltaEnd } := by
  unfold GridSt.deltaDue
  split
  · split <;> rfl
  · rfl

/-- The supervisor writes the bound alone (R12). -/
theorem GridSt.bounded_frame (g : GridSt) : g.bounded = { g with bound := g.bounded.bound } := by
  unfold GridSt.bounded
  split <;> rfl

/-- Beside device time a move writes the rate adjustment and the bound. -/
theorem GridSt.moved_frame (g : GridSt) (n f : Nat) : g.moved n f =
    { g with now := n, frac := f, delta := (g.moved n f).delta, deltaEnd := (g.moved n f).deltaEnd, bound := (g.moved n f).bound } := by
  have hdue := { g with now := n, frac := f }.deltaDue_frame
  have hbound : g.moved n f = _ := { g with now := n, frac := f }.deltaDue.bounded_frame
  have hdelta := congrArg GridSt.delta hbound
  have hend := congrArg GridSt.deltaEnd hbound
  rw [hdelta, hend]
  exact hbound.trans (congrArg (fun d => { d with bound := (g.moved n f).bound }) hdue)

@[simp] theorem GridSt.moved_now (g : GridSt) (n f : Nat) : (g.moved n f).now = n := congrArg GridSt.now (g.moved_frame n f)
@[simp] theorem GridSt.moved_frac (g : GridSt) (n f : Nat) : (g.moved n f).frac = f := congrArg GridSt.frac (g.moved_frame n f)

/-- A rate adjustment without an end stays (R231). -/
theorem GridSt.moved_unadjusted {g : GridSt} (h : g.deltaEnd = none) (n f : Nat) :
    (g.moved n f).delta = g.delta ∧ (g.moved n f).deltaEnd = none := by
  rw [GridSt.moved, GridSt.bounded_frame, GridSt.deltaDue]
  simp [h]

/-- A rate adjustment ends at its end (R231). -/
theorem GridSt.moved_over {g : GridSt} {e n : Nat} (h : g.deltaEnd = some e) (hle : e ≤ n) (f : Nat) :
    (g.moved n f).delta = 0 ∧ (g.moved n f).deltaEnd = none := by
  rw [GridSt.moved, GridSt.bounded_frame, GridSt.deltaDue]
  simp [h, hle]

/-- A rate adjustment stays until its end (R231). -/
theorem GridSt.moved_within {g : GridSt} {e n : Nat} (h : g.deltaEnd = some e) (hlt : n < e) (f : Nat) :
    (g.moved n f).delta = g.delta ∧ (g.moved n f).deltaEnd = some e := by
  rw [GridSt.moved, GridSt.bounded_frame, GridSt.deltaDue]
  simp [h, Nat.not_le.mpr hlt]

/-- The bound called for at an instant lies a step or more ahead of it (R12). -/
theorem step_ahead_le_boundAfter (now : Nat) : now + 2 ^ 28 ≤ boundAfter now := by
  unfold boundAfter boundStep
  omega

/-- MRAM holds the bound called for, or a later one, once the supervisor has written (R12). -/
theorem GridSt.boundAfter_le_bounded (g : GridSt) : boundAfter g.now ≤ g.bounded.boundV := by
  unfold GridSt.bounded
  split
  · assumption
  · exact Nat.le_refl _

/-- The bound in MRAM stays a step or more ahead of device time (R12). -/
theorem GridSt.moved_bound_ahead (g : GridSt) (n f : Nat) : n + 2 ^ 28 ≤ (g.moved n f).boundV := by
  have h := GridSt.boundAfter_le_bounded { g with now := n, frac := f }.deltaDue
  rw [GridSt.deltaDue_now] at h
  exact Nat.le_trans (step_ahead_le_boundAfter n) h

/-- A cycle moves device time on by 1 + δ in units of 2^-32 (R10). -/
theorem State.clockCycle_moves (s : State) (h : 0 ≤ (s.grid.frac : Int) + s.grid.delta + 2 ^ 32) :
    ∃ n f, s.clockCycle = s.modGrid (·.moved n f) ∧ (n : Int) * 2 ^ 32 + f = (s.grid.now : Int) * 2 ^ 32 + s.grid.frac + 2 ^ 32 + s.grid.delta
      ∧ f < 2 ^ 32 ∧ s.grid.now ≤ n :=
  ⟨_, _, rfl, by omega, by omega, by omega⟩

/-! ### A step with nothing waiting (log entry 2) -/

theorem step_idle_up {s : State} (hq : s.pending = []) (hup : s.up = true) : step s = s.done s.clockCycle := by
  simp [step, hq, State.idle, hup]

theorem step_idle_held {s : State} (hq : s.pending = []) (hup : s.up = false) : step s = s.done s := by
  simp [step, hq, State.idle, hup]

/-- An effect on the grid part alone leaves every other part and all registers. -/
theorem State.keeps_left_modGrid (s : State) (f : GridSt → GridSt) : s.Keeps (s.left (s.modGrid f)) [.grid] [] := by
  refine State.keeps_left (fun p hp => ?_) fun _ _ _ => rfl
  cases p with
  | grid => exact absurd (List.mem_singleton.mpr rfl) hp
  | _ => rfl

theorem idleCycle : Claim.idleCycle := by
  intro s hq hup hrate
  obtain ⟨n, f, hcycle, htime, hfrac, hmono⟩ := s.clockCycle_moves hrate
  refine ⟨s.left (s.modGrid (·.moved n f)), hcycle ▸ step_idle_up hq hup, ?_⟩
  simp only [State.left_grid, State.modGrid_grid, GridSt.moved_now, GridSt.moved_frac]
  exact ⟨htime, hfrac, hmono, s.grid.moved_frame n f, fun _ => s.grid.moved_bound_ahead n f, fun hnone => GridSt.moved_unadjusted hnone n f,
    fun _ he hle => GridSt.moved_over he hle f, fun _ he hlt => GridSt.moved_within he hlt f, s.keeps_left_modGrid _⟩

theorem idleHeld : Claim.idleHeld := fun s hq hup => ⟨s.left s, step_idle_held hq hup, s.keeps_left_self⟩

/-- Settles O3: a cycle moves device time by 1 + δ and touches the grid part alone; a held part is left as it is. -/
theorem idleStep : Obligations.IdleStep := ⟨idleCycle, idleHeld⟩

/-! ### A write of the command berth's HEAD by the interface that has not the session (R568, R575, R584) -/

/-- REGISTER_WRITE of HEAD from the other interface is counted, and that is all (R568). -/
theorem State.registerWrite_head_foreign {s : State} {q : Bool} (hup : s.up = true) (hf : s.foreign q = true) (w : Nat) :
    s.registerWrite q HOST_BERTH_HEAD.VALUE.addr 15 w = s.bump HOST_BADPTR_CNT.VALUE := by
  have hword : ¬ (15 ≠ 15 ∨ HOST_BERTH_HEAD.VALUE.addr % 4 ≠ 0) := by decide
  have hown : sessionOnly HOST_BERTH_HEAD.VALUE.addr = true := by decide
  rw [State.registerWrite, if_neg (by decide : ¬ berthBit ≤ HOST_BERTH_HEAD.VALUE.addr), if_neg hword, State.hostWrite]
  simp [State.answers, hup, hown, hf]

/-- The row B0_HEAD_WRITE from the other interface is counted, and then the packets that can be interpreted now are. -/
theorem State.b0Head_foreign {s : State} {q : Bool} (hup : s.up = true) (hf : s.foreign q = true) (v : Nat) :
    s.b0Head q [] v = (s.bump HOST_BADPTR_CNT.VALUE).serve hostCmd := by
  have hhead : s.headWrite q v = s.bump HOST_BADPTR_CNT.VALUE := by simp [State.headWrite, hf]
  rw [← hhead, State.b0Head, hup]
  rfl

/-- Serving a berth whose header announces an impossible LENGTH is its resynchronisation (R584). -/
theorem State.serve_unframed {s : State} (hresync : s.host.resync = none) (hreply : s.canReply = true) (hun : s.unframed = true)
    (cmds : Nat → State → Bool → Packet → CmdRes) : s.serve cmds = s.resyncNow := by
  have hwait : s.host.waiting = [] := by
    simp only [State.unframed, Bool.and_eq_true, List.isEmpty_iff] at hun
    exact hun.1.1
  have hpay : s.payResync = s := by simp [State.payResync, hresync]
  rw [State.serve, hpay, State.interpretAll, hresync, hreply, hwait, hun]
  rfl

theorem State.raiseVec_partialAt (s : State) (v : Nat) : (s.raiseVec v).host.partialAt = s.host.partialAt := by
  unfold State.raiseVec
  dsimp only
  split
  · split <;> rfl
  · rfl

theorem State.berthIrq_partialAt (s : State) (b : Nat) : (s.berthIrq b).host.partialAt = s.host.partialAt := by
  unfold State.berthIrq
  dsimp only
  split
  · rfl
  · split
    · exact s.raiseVec_partialAt _
    · rfl

theorem State.append_partialAt (s : State) (b : Nat) (l : List Byte) : (s.append b l).host.partialAt = s.host.partialAt :=
  State.berthIrq_partialAt _ _

theorem State.setCredits_host (s : State) : s.setCredits.host = s.host := by
  unfold State.setCredits
  dsimp only
  split
  · rfl
  · split <;> rfl

theorem State.reply_partialAt (s : State) (op tag ifver : Nat) (st : Status) (data : List Nat) (resync : Bool) :
    (s.reply op tag ifver st data resync).host.partialAt = s.host.partialAt := by
  rw [State.reply, State.setCredits_host, State.append_partialAt]

theorem State.payResync_partialAt (s : State) : s.payResync.host.partialAt = s.host.partialAt := by
  unfold State.payResync
  split
  · split
    · exact State.reply_partialAt _ _ _ _ _ _ _
    · rfl
  · rfl

/-- A resynchronisation ends the wait for the header's packet (R584). -/
theorem State.resyncNow_partialAt (s : State) : s.resyncNow.host.partialAt = none := by
  unfold State.resyncNow
  rw [State.payResync_partialAt, State.setCredits_host]
  rfl

/-- A PCIe session has made the header of an incomplete packet visible in B0 (B0_HEAD_WRITE with HEAD at 16), and has then written the
LENGTH in it over with 0xFFFF through the berth window (REGISTER_WRITE), which serves no berth (R565, R584). -/
def overwrittenHeader : State :=
  { (State.reset.wr HOST_STATUS.NEG 1).wr HOST_BERTH_HEAD.VALUE 16 with
    pwr := { phase := .running }, host := { mem := [(6, 0xFF), (7, 0xFF)], partialAt := some 0 } }

/-- Refutes O44 in its clause `rowOfItsOwn`: a write of B0's HEAD over QSPI while PCIe has the session. REGISTER_WRITE counts it and does
nothing more; the row B0_HEAD_WRITE counts it and then serves the berth, which in `overwrittenHeader` resynchronises. -/
theorem not_registerWindow : ¬ Obligations.RegisterWindow := by
  unfold Obligations.RegisterWindow
  rintro ⟨-, -, -, -, -, -, -, hrow, -⟩
  have hup : overwrittenHeader.up = true := by decide
  have hf : overwrittenHeader.foreign true = true := by decide
  obtain ⟨t, hwrite, hhead⟩ := hrow overwrittenHeader true (BitVec.ofNat 32 HOST_BERTH_HEAD.VALUE.addr) 16 (.b0HeadWrite true [] 16) hup
    (.inl (by simp [HOST_BERTH_HEAD.VALUE, Field.mkArr]))
  have kept : t.host.partialAt = some 0 := by
    rw [State.goes_done.mp hwrite]
    exact congrArg (·.host.partialAt) (State.registerWrite_head_foreign hup hf 16)
  have gone : t.host.partialAt = none := by
    rw [State.goes_done.mp hhead, State.left_host, State.live_of_up hup, State.b0Head_foreign hup hf,
      State.serve_unframed (by decide) (by decide) (by decide)]
    exact State.resyncNow_partialAt _
  exact absurd (kept.symm.trans gone) (by decide)

end Sys2Proof.Machine

namespace Sys2Proof.Machine
open Reg

/-! ### LO registers and the words they latch (R15) -/

/-- An effect on the host interface alone leaves every other part and all registers. -/
theorem State.keeps_left_modHost (s : State) {f : HostSt → HostSt} (hmem : (f s.host).mem = s.host.mem) :
    s.Keeps (s.left (s.modHost f)) [.host] [] := by
  refine State.keeps_left (fun p hp => ?_) fun _ _ _ => rfl
  cases p with
  | host => exact absurd (List.mem_singleton.mpr rfl) hp
  | mem => exact hmem
  | _ => rfl

/-- While the logic side runs the window answers every access (R659). -/
theorem State.regWindow_of_up {s : State} (hup : s.up = true) : s.regWindow = true := by simp [State.regWindow, hup]

theorem State.answers_of_up {s : State} (hup : s.up = true) (a : Nat) : s.answers a = true := by simp [State.answers, hup]

/-- A register of the window whose read has no effect of its own kind (R137, R272). -/
def OrdinaryRead (a : Nat) : Prop :=
  a < berthBit ∧ AUX_RESULT.DATA.indexAt a = none ∧ AUX_INJ_RESULT.DATA.indexAt a = none ∧ BAY_TICK_LO.VALUE.indexAt a = none

/-- The next read of a latched HI register returns the latched word and ends the latch (R15). -/
theorem State.hostRead_latched {s : State} {a v : Nat} (hup : s.up = true) (hread : OrdinaryRead a) (hv : tfind s.host.hiLatch a = some v) :
    s.hostRead a = s.modHost fun h => { h with rdata := v, hiLatch := terase h.hiLatch a } := by
  obtain ⟨hlow, haux, hinj, hbay⟩ := hread
  simp only [State.hostRead, State.regWindow_of_up hup, State.answers_of_up hup, Nat.not_le.mpr hlow, haux, hinj, hbay, hv]
  rfl

theorem latchedHighRead : Claim.latchedHighRead := by
  intro s q a v hup hlow hown hv
  simp only [ownRead, Bool.or_eq_false_iff, Option.isSome_eq_false_iff, Option.isNone_iff_eq_none] at hown
  obtain ⟨⟨⟨⟨-, haux⟩, hinj⟩, hbay⟩, -⟩ := hown
  have hread := State.hostRead_latched hup ⟨hlow, haux, hinj, hbay⟩ hv
  exact ⟨s.left (s.hostRead a.toNat), rfl, by rw [hread]; rfl, by rw [hread]; exact s.keeps_left_modHost rfl⟩

/-- The fields that lie at the LO registers. -/
def loFields : List Field :=
  [GRID_TIME_LO.VALUE, GRID_TAI_OFS_LO.VALUE, GRID_TICK_LO.VALUE, AUX_SCAN_TS_LO.VALUE, AUX_INJ_TS_LO.VALUE, BIST_MISR_LO.VALUE,
   DIO_TOW_EDGE_LO.VALUE, PAIR_DT_OFS_LO.VALUE, SET_CTR_LO.VALUE, SET_SWAP_TICK_LO.VALUE, SET_PEND_TAI_LO.VALUE]

theorem fieldsAt_loRegs : ∀ a ∈ loRegs, ∀ x ∈ fieldsAt plainFields a, x.1 ∈ loFields := by decide +kernel

theorem ordinaryRead_loRegs : ∀ a ∈ loRegs, OrdinaryRead a := by
  unfold OrdinaryRead
  decide

/-- No LO register lies in the ELM_ block or in the MSI-X structures. -/
theorem loRegs_plain : ∀ a ∈ loRegs, inElm a = false ∧ inMsix a = false ∧ a ≠ 0x9000 := by decide

/-- What a LO register shows does not depend on the latched words. -/
theorem State.view_latch (s : State) (l : Tab Nat) {f : Field} (hf : f ∈ loFields) (i j : Nat) :
    (s.modHost fun h => { h with hiLatch := l }).view f i j = s.view f i j := by
  simp only [loFields, List.mem_cons, List.not_mem_nil, or_false] at hf
  obtain rfl | rfl | rfl | rfl | rfl | rfl | rfl | rfl | rfl | rfl | rfl := hf <;> rfl

/-- A register word depends on the values that its fields show alone. -/
theorem State.wordFrom_congr {s t : State} {l : List (Field × Nat × Nat)}
    (h : ∀ x ∈ l, s.view x.1 x.2.1 x.2.2 = t.view x.1 x.2.1 x.2.2) : s.wordFrom l = t.wordFrom l := by
  unfold State.wordFrom
  generalize 0 = w
  induction l generalizing w with
  | nil => rfl
  | cons x l ih =>
    rw [List.foldl_cons, List.foldl_cons, h x List.mem_cons_self]
    exact ih (fun y hy => h y (List.mem_cons_of_mem x hy)) _

theorem State.readWord_latch (s : State) (l : Tab Nat) {a : Nat} (ha : a ∈ loRegs) :
    (s.modHost fun h => { h with hiLatch := l }).readWord a = s.readWord a := by
  obtain ⟨helm, hmsix, hpba⟩ := loRegs_plain a ha
  simp only [State.readWord, helm, hmsix, hpba, if_false, Bool.false_eq_true]
  exact State.wordFrom_congr fun x hx => s.view_latch l (fieldsAt_loRegs a ha x hx) _ _

/-- A LO register has nothing that a read clears (R4). -/
theorem State.clearRc_loRegs (s : State) {a : Nat} (ha : a ∈ loRegs) : s.clearRc a = s := by
  have hnone : (fieldsAt plainFields a).filter (fun x => x.1.acc == .RC) = [] := by
    have hacc : ∀ f ∈ loFields, f.acc ≠ .RC := by decide
    exact List.filter_eq_nil_iff.mpr fun x hx => by simpa using hacc x.1 (fieldsAt_loRegs a ha x hx)
  have hdly : PBUS_SV_DLY_MAX.VALUE.indexAt a = none :=
    (by decide : ∀ a ∈ loRegs, PBUS_SV_DLY_MAX.VALUE.indexAt a = none) a ha
  simp only [State.clearRc, (loRegs_plain a ha).1, Bool.false_eq_true, if_false, hnone, hdly]
  rfl

/-- A read of a LO register latches the word behind it (R15). -/
theorem State.hostRead_latches {s : State} {a : Nat} (hup : s.up = true) (ha : a ∈ loRegs) (hfree : tfind s.host.hiLatch a = none) :
    s.hostRead a =
      s.modHost fun h => { h with rdata := s.readWord a, hiLatch := tset h.hiLatch (a + 4) (s.readWord (a + 4)) } := by
  obtain ⟨hlow, haux, hinj, hbay⟩ := ordinaryRead_loRegs a ha
  have hlo : loRegs.contains a = true := List.contains_iff_mem.mpr ha
  simp only [State.hostRead, State.regWindow_of_up hup, State.answers_of_up hup, Nat.not_le.mpr hlow, haux, hinj, hbay, hfree, hlo,
    State.clearRc_loRegs _ ha]
  exact congrArg (State.returns _) (s.readWord_latch _ ha)

theorem lowReadLatchesHigh : Claim.lowReadLatchesHigh := by
  intro s a hup ha hfree
  have hexec : exec (.loReadLatch a) s = s.done (s.hostRead a.toNat) := by
    have hlo : loRegs.contains a.toNat = true := List.contains_iff_mem.mpr ha
    change s.done (s.live _) = _
    rw [State.live_of_up hup, if_pos hlo]
  rw [State.hostRead_latches hup ha hfree] at hexec
  exact ⟨_, hexec, rfl, tfind_tset_same _ _ _, fun x hx => tfind_tset_other _ _ _ _ hx, rfl, s.keeps_left_modHost rfl⟩

/-- Settles O46: a LO read is a read of the window that sets the latch of the word behind it, and a read of a latched word takes it. -/
theorem latchedReads : Obligations.LatchedReads := ⟨lowReadLatchesHigh, latchedHighRead⟩

end Sys2Proof.Machine

namespace Sys2Proof.Machine
open Reg

/-! ### A window that expires while the stream's alignment is at fault (R215, R218) -/

/-- A tick of a unit locked to its time source that still awaits process-bus channel G64. -/
def awaitingTick : TickRec := { wait := [64], tq := 8 }

/-- A running unit that maps G64 to subscription 0, whose ALIGN_FAULT stands (R215) and which has brought no sample. -/
def faultyStream : State :=
  { State.reset.wr PBUS_SV_STATUS.ALIGN_FAULT 1 with
    bank := { words := [(PBUS_MAP.EN.at' 0 0, PBUS_MAP.EN.put 0 1)] }, pwr := { phase := .running }
    grid := { hist := [awaitingTick], trkDone := true } }

/-- The sample that the statement expects is LATE and SUBSTITUTED alone. -/
theorem faultyStream_expected :
    (faultyStream.asAt awaitingTick.n).mkSample awaitingTick 64 0 (bLATE + bSUBST) false = { v := 0, ssw := bLATE + bSUBST } := by decide

/-- The sample that the expiry makes is QUESTIONABLE too. -/
theorem faultyStream_expires : ((faultyStream.svExpire 64).gridCatch.measureAll).grid.hist =
    [{ awaitingTick with wait := [], smp := [(64, { v := 0, ssw := bLATE + bSUBST + bQUEST })] }] := by decide +kernel

/-- Refutes O31 in its clause `alignmentExpires`: SV_ALIGN_EXPIRY of G64 in `faultyStream`. The fault of the stream's alignment makes the
sample LATE, SUBSTITUTED and QUESTIONABLE (R215), and the clause leaves QUESTIONABLE out. -/
theorem not_sampledValues : ¬ Obligations.SampledValues := by
  unfold Obligations.SampledValues
  rintro ⟨-, -, -, -, -, hexpires⟩
  obtain ⟨t, ht, -, -, ⟨r', hr', -, hsmp⟩, -⟩ :=
    hexpires faultyStream 64 awaitingTick _ (by decide) (by decide) (by decide) (by decide) rfl
  have hleft : t = faultyStream.left ((faultyStream.svExpire 64).gridCatch.measureAll) := by
    rw [State.goes_done.mp ht, State.live_of_up (by decide)]
    rfl
  rw [hleft, State.left_grid, faultyStream_expires] at hr'
  obtain rfl := List.mem_singleton.mp hr'
  exact absurd (hsmp.trans faultyStream_expected) (by decide)

end Sys2Proof.Machine

namespace Sys2Proof.Machine
open Reg

/-! ### What an effect leaves alone -/

/-- From `s` to `t` every part but those listed, and every register field but those whose keys are listed, stays as it was. -/
def State.Frame (s t : State) (parts : List Part) (keys : List Nat) : Prop :=
  (∀ p, p ∉ parts → p.same s t) ∧ ∀ k, k ∉ keys → tfind t.regs k = tfind s.regs k

theorem State.Frame.refl (s : State) (parts : List Part) (keys : List Nat) : s.Frame s parts keys :=
  ⟨fun p _ => p.same_refl s, fun _ _ => rfl⟩

section
variable {s t : State} {parts : List Part} {keys : List Nat}

/-- The frame of an effect is that of the whole command. -/
theorem State.Frame.keeps (h : s.Frame t parts keys) : s.Keeps (s.left t) parts keys :=
  State.keeps_left h.1 fun k _ hk => h.2 k hk

theorem State.Frame.wr (h : s.Frame t parts keys) {f : Field} {v i j : Nat} (hk : f.key i j ∈ keys) : s.Frame (t.wr f v i j) parts keys := by
  refine ⟨fun p hp => ?_, fun k hn => (tfind_tset_other _ _ _ _ (ne_of_mem_of_not_mem hk hn).symm).trans (h.2 k hn)⟩
  have hsame := h.1 p hp
  cases p <;> exact hsame

theorem State.Frame.bump (h : s.Frame t parts keys) {f : Field} {i j n : Nat} (hk : f.key i j ∈ keys) : s.Frame (t.bump f i j n) parts keys :=
  h.wr hk

theorem State.Frame.modAux (h : s.Frame t parts keys) (haux : Part.aux ∈ parts) (f : AuxSt → AuxSt) : s.Frame (t.modAux f) parts keys := by
  refine ⟨fun p hp => ?_, h.2⟩
  have hsame := h.1 p hp
  cases p with
  | aux => contradiction
  | _ => exact hsame

theorem State.Frame.returns (h : s.Frame t parts keys) (hhost : Part.host ∈ parts) (w : Nat) : s.Frame (t.returns w) parts keys := by
  refine ⟨fun p hp => ?_, h.2⟩
  have hsame := h.1 p hp
  cases p with
  | host => contradiction
  | _ => exact hsame

/-- An operational field whose key a frame does not list reads as before. -/
theorem State.Frame.rd (h : s.Frame t parts keys) {f : Field} {i j : Nat} (hs : f.acc ≠ .SP) (ho : f.acc ≠ .OTP) (hk : f.key i j ∉ keys) :
    t.rd f i j = s.rd f i j := by
  cases hf : f.acc with
  | SP => exact absurd hf hs
  | OTP => exact absurd hf ho
  | _ => simp [State.rd, hf, tget, h.2 _ hk]

/-- A change of a converter touches the converters' part and that converter's status. -/
theorem State.Frame.modConv (h : s.Frame t parts keys) (haux : Part.aux ∈ parts) {m : Nat} (hk : convKeys m ⊆ keys) (f : AuxConv → AuxConv) :
    s.Frame (t.modConv m f) parts keys := by
  unfold State.modConv
  have hscan : AUX_STATUS.SCAN.key 0 0 ∈ convKeys m := by simp [convKeys]
  have hbusy : AUX_SCAN_STATUS.BUSY.key m 0 ∈ convKeys m := by simp [convKeys]
  have hpend : AUX_SCAN_STATUS.PEND.key m 0 ∈ convKeys m := by simp [convKeys]
  have hfull : AUX_SCAN_STATUS.INJ_FULL.key m 0 ∈ convKeys m := by simp [convKeys]
  exact ((((h.modAux haux _).wr (hk hscan)).wr (hk hbusy)).wr (hk hpend)).wr (hk hfull)

end

/-- A field beside those that follow every command reads after the command as the effect left it. -/
theorem State.left_rd_of_notMem (s t : State) {f : Field} {i j : Nat} (h : f.key i j ∉ lifeKeys) : (s.left t).rd f i j = t.rd f i j := by
  simp only [lifeKeys, List.mem_cons, List.not_mem_nil, or_false, not_or] at h
  obtain ⟨hstate, hcause, hgrp⟩ := h
  exact s.left_rd t f i j hstate hcause hgrp

@[simp] theorem State.wr_conv (s : State) (f : Field) (v i j n : Nat) : (s.wr f v i j).conv n = s.conv n := rfl
@[simp] theorem State.left_conv (s t : State) (n : Nat) : (s.left t).conv n = t.conv n := rfl

/-! ### A converter and its status (R125 to R134) -/

@[simp] theorem State.modConv_conv (s : State) (m : Nat) (f : AuxConv → AuxConv) : (s.modConv m f).conv m = f (s.conv m) :=
  tget_tset_same _ _ _ _

/-- A change of a converter leaves every field but that converter's status. -/
theorem State.modConv_rd_other (s : State) (m : Nat) (f : AuxConv → AuxConv) {g : Field} {i j : Nat} (hs : g.acc ≠ .SP) (ho : g.acc ≠ .OTP)
    (hk : g.key i j ∉ convKeys m) : (s.modConv m f).rd g i j = s.rd g i j :=
  ((State.Frame.refl s [.aux] (convKeys m)).modConv List.mem_cons_self (List.Subset.refl _) f).rd hs ho hk

theorem b2n_lt_two (b : Bool) : b2n b < 2 := by cases b <;> decide

/-- PEND shows whether a trigger waits out its delay (R126). -/
theorem State.modConv_pend (s : State) (m : Nat) (f : AuxConv → AuxConv) :
    (s.modConv m f).rd AUX_SCAN_STATUS.PEND m = b2n (f (s.conv m)).wait.isSome := by
  have hne : AUX_SCAN_STATUS.PEND.key m 0 ≠ AUX_SCAN_STATUS.INJ_FULL.key m 0 :=
    Field.key_ne_of_lsb _ _ _ _ _ _ (by decide) (by decide) (by decide)
  rw [State.modConv, State.rd_wr_other _ _ _ _ _ _ _ _ hne, State.rd_wr_same _ _ _ _ _ (by decide) (by decide)]
  exact Nat.mod_eq_of_lt (b2n_lt_two _)

/-- INJ_FULL shows whether the latch holds a request (R132). -/
theorem State.modConv_injFull (s : State) (m : Nat) (f : AuxConv → AuxConv) :
    (s.modConv m f).rd AUX_SCAN_STATUS.INJ_FULL m = b2n (f (s.conv m)).inj.isSome := by
  rw [State.modConv, State.rd_wr_same _ _ _ _ _ (by decide) (by decide)]
  exact Nat.mod_eq_of_lt (b2n_lt_two _)

/-- No status field of a converter follows every command. -/
theorem auxStatus_notMem_lifeKeys : ∀ m : Fin 2,
    AUX_SCAN_STATUS.PEND.key m 0 ∉ lifeKeys ∧ AUX_SCAN_STATUS.INJ_FULL.key m 0 ∉ lifeKeys := by decide

/-! ### A write of the trigger configuration (R128) -/

/-- The source and the polarity lie in the trigger's own register and not in a converter's status. -/
theorem auxTrgCfg_keys : ∀ m : Fin 2,
    AUX_TRG_CFG.SRC.key m 0 ∉ lifeKeys ∧ AUX_TRG_CFG.POL.key m 0 ∉ lifeKeys
    ∧ AUX_TRG_CFG.SRC.key m 0 ∉ convKeys m ∧ AUX_TRG_CFG.POL.key m 0 ∉ convKeys m := by decide

/-- The write sets the two fields, and then the converter drops a waiting trigger and starts its timer (R125, R128). -/
theorem State.auxTrgCfg_eq (s : State) (m w : Nat) : s.auxTrgCfg m w = ((s.wr AUX_TRG_CFG.SRC w m).wr AUX_TRG_CFG.POL (w / 4) m).modConv m
    fun k => { k with wait := none, timer := s.grid.now } := rfl

theorem State.frame_auxTrgCfg (s : State) (m w : Nat) :
    s.Frame (s.auxTrgCfg m w) [.aux] ([AUX_TRG_CFG.SRC.key m 0, AUX_TRG_CFG.POL.key m 0] ++ convKeys m) := by
  rw [State.auxTrgCfg_eq]
  exact (((State.Frame.refl s _ _).wr (by simp)).wr (by simp)).modConv List.mem_cons_self (List.subset_append_right _ _) _

theorem auxTriggerConfigured : Claim.auxTriggerConfigured := by
  intro s m w hup
  obtain ⟨hsrcLife, hpolLife, hsrcConv, hpolConv⟩ := auxTrgCfg_keys m
  have hne : AUX_TRG_CFG.SRC.key m 0 ≠ AUX_TRG_CFG.POL.key m 0 :=
    Field.key_ne_of_lsb _ _ _ _ _ _ (by decide) (by decide) (by decide)
  refine ⟨s.left (s.auxTrgCfg m w.toNat), congrArg s.done (State.live_of_up hup _), ?_⟩
  rw [State.auxTrgCfg_eq]
  refine ⟨?_, ?_, ?_, ?_, ?_⟩
  · rw [State.left_rd_of_notMem _ _ hsrcLife, State.modConv_rd_other _ _ _ (by decide) (by decide) hsrcConv,
      State.rd_wr_other _ _ _ _ _ _ _ _ hne, State.rd_wr_same _ _ _ _ _ (by decide) (by decide)]
    exact congrArg (· % 4) (Nat.div_one _).symm
  · rw [State.left_rd_of_notMem _ _ hpolLife, State.modConv_rd_other _ _ _ (by decide) (by decide) hpolConv]
    exact State.rd_wr_same _ _ _ _ _ (by decide) (by decide)
  · rw [State.left_conv, State.modConv_conv, State.wr_conv, State.wr_conv]
  · rw [State.left_rd_of_notMem _ _ (auxStatus_notMem_lifeKeys m).1, State.modConv_pend]
    rfl
  · rw [← State.auxTrgCfg_eq]
    exact (s.frame_auxTrgCfg m _).keeps

/-- Settles O48: the write sets the two fields, and then the converter drops the waiting trigger and starts its timer. -/
theorem auxTriggerWrite : Obligations.AuxTriggerWrite := auxTriggerConfigured

end Sys2Proof.Machine

namespace Sys2Proof.Machine
open Reg

/-! ### Reads of a result register (R137) -/

/-- What a read of a result register needs of the three bits that it changes: they are operational, under keys of their own. -/
structure ResultBits (valid ovr dup : Field) (m k : Nat) : Prop where
  acc : valid.acc = .RC ∧ ovr.acc = .RC ∧ dup.acc = .RO
  width : dup.width = 1
  life : valid.key m k ∉ lifeKeys ∧ ovr.key m k ∉ lifeKeys ∧ dup.key m k ∉ lifeKeys
  apart : valid.key m k ≠ ovr.key m k ∧ valid.key m k ≠ dup.key m k ∧ ovr.key m k ≠ dup.key m k

theorem auxResult_bits (m : Fin 2) (k : Fin 24) : ResultBits AUX_RESULT.VALID AUX_RESULT.OVR AUX_RESULT.DUP m k where
  acc := ⟨rfl, rfl, rfl⟩
  width := rfl
  life := by revert m k; decide
  apart := by revert m k; decide

theorem auxInjResult_bits (m : Fin 2) : ResultBits AUX_INJ_RESULT.VALID AUX_INJ_RESULT.OVR AUX_INJ_RESULT.DUP m 0 where
  acc := ⟨rfl, rfl, rfl⟩
  width := rfl
  life := by revert m; decide
  apart := by revert m; decide

section
variable {data valid ovr xq slot dup : Field} {m k : Nat}

/-- A read of a result register clears VALID and OVR, sets DUP and gives the host the word; that is all (R137). -/
theorem State.resultRead_left (s : State) (h : ResultBits valid ovr dup m k) (w : Nat) :
    let t := s.left ((s.resultRead data valid ovr xq slot dup m k).1.returns w)
    t.rd valid m k = 0 ∧ t.rd ovr m k = 0 ∧ t.rd dup m k = 1 ∧ t.host = { s.host with rdata := w }
      ∧ s.Keeps t [.host] [valid.key m k, ovr.key m k, dup.key m k] := by
  obtain ⟨⟨hva, hoa, hda⟩, hwidth, ⟨hvl, hol, hdl⟩, hvo, hvd, hod⟩ := h
  simp only [State.left_rd_of_notMem _ _ hvl, State.left_rd_of_notMem _ _ hol, State.left_rd_of_notMem _ _ hdl, State.returns,
    State.modHost_rd, State.resultRead]
  refine ⟨?_, ?_, ?_, rfl, ?_⟩
  · rw [State.rd_wr_other _ _ _ _ _ _ _ _ hvd, State.rd_wr_other _ _ _ _ _ _ _ _ hvo,
      State.rd_wr_same _ _ _ _ _ (by simp [hva]) (by simp [hva]), Nat.zero_mod]
  · rw [State.rd_wr_other _ _ _ _ _ _ _ _ hod, State.rd_wr_same _ _ _ _ _ (by simp [hoa]) (by simp [hoa]), Nat.zero_mod]
  · rw [State.rd_wr_same _ _ _ _ _ (by simp [hda]) (by simp [hda])]
    exact Nat.mod_eq_of_lt (Nat.one_lt_two_pow (by simp [hwidth]))
  · have hbits : s.Frame (((s.wr valid 0 m k).wr ovr 0 m k).wr dup 1 m k) [.host] [valid.key m k, ovr.key m k, dup.key m k] :=
      (((State.Frame.refl s _ _).wr (by simp)).wr (by simp)).wr (by simp)
    exact (hbits.returns List.mem_cons_self w).keeps

end

theorem auxResultIsRead : Claim.auxResultIsRead := by
  intro s m k hup
  obtain ⟨hvalid, hovr, hdup, hhost, hkeeps⟩ := s.resultRead_left (data := AUX_RESULT.DATA) (xq := AUX_RESULT.XQ)
    (slot := AUX_RESULT.SLOT) (auxResult_bits m k) (s.auxRead m k).2
  exact ⟨s.left (s.auxResultRead m k), congrArg s.done (State.live_of_up hup _), rfl, hvalid, hovr, hdup, hhost, hkeeps⟩

/-- The address of AUX_INJ_RESULT lies in the register window, and is that of no AUX_RESULT. -/
theorem auxInjResult_address : ∀ m : Fin 2, (BitVec.ofNat 32 (AUX_INJ_RESULT.DATA.at' m 0)).toNat < berthBit
    ∧ AUX_RESULT.DATA.indexAt (BitVec.ofNat 32 (AUX_INJ_RESULT.DATA.at' m 0)).toNat = none
    ∧ AUX_INJ_RESULT.DATA.indexAt (BitVec.ofNat 32 (AUX_INJ_RESULT.DATA.at' m 0)).toNat = some (m.val, 0) := by decide

/-- A host read of AUX_INJ_RESULT is a read of the converter's injected result (R137). -/
theorem State.hostRead_injResult {s : State} (hup : s.up = true) (m : Fin 2) :
    s.hostRead (BitVec.ofNat 32 (AUX_INJ_RESULT.DATA.at' m 0)).toNat = (s.injRead m).1.returns (s.injRead m).2 := by
  obtain ⟨hlow, haux, hinj⟩ := auxInjResult_address m
  simp only [State.hostRead, State.regWindow_of_up hup, State.answers_of_up hup, Nat.not_le.mpr hlow, haux, hinj]
  rfl

theorem injectedResultIsRead : Claim.injectedResultIsRead := by
  intro s q m hup
  obtain ⟨hvalid, hovr, hdup, -, hkeeps⟩ := s.resultRead_left (data := AUX_INJ_RESULT.DATA) (xq := AUX_INJ_RESULT.XQ)
    (slot := AUX_INJ_RESULT.SLOT) (auxInjResult_bits m) (s.injRead m).2
  exact ⟨s.left ((s.injRead m).1.returns (s.injRead m).2), congrArg s.done (State.hostRead_injResult hup m), rfl, hvalid, hovr, hdup, hkeeps⟩

/-! ### Requests of an injected conversion (R132 to R134) -/

/-- The slot of a latched request that has started frees the latch, and touches that converter alone (R134). -/
theorem State.frame_injCatch (s : State) (m : Nat) : s.Frame (s.injCatch m) [.aux] (convKeys m) := by
  have hself := State.Frame.refl s [.aux] (convKeys m)
  have hmod {t : State} (h : s.Frame t [.aux] (convKeys m)) (f : AuxConv → AuxConv) : s.Frame (t.modConv m f) [.aux] (convKeys m) :=
    h.modConv List.mem_cons_self (List.Subset.refl _) f
  unfold State.injCatch
  split
  · split
    · split
      · exact hmod hself _
      · exact hmod (hmod hself _) _
    · exact hself
  · exact hself

theorem State.injRequest_latched {s : State} {m : Nat} (h : s.injReason m = 0) (k : Nat) :
    s.injRequest m k = (s.injCatch m).modConv m fun c => { c with inj := some (k, s.grid.now) } := by
  simp only [State.injRequest, h]

theorem State.injRequest_dropped {s : State} {m : Nat} (h : s.injReason m ≠ 0) (k : Nat) :
    s.injRequest m k = s.injDrop m (s.injReason m) := by
  unfold State.injRequest
  split
  · contradiction
  · rfl

/-- The counters by reason (R133). -/
def dropReasons : List Field := [AUX_INJ_DROP_FULL.VALUE, AUX_INJ_DROP_CAL.VALUE, AUX_INJ_DROP_BIST.VALUE]

/-- A dropped request is counted, and counted by its reason (R133). -/
theorem State.injDrop_counts (s : State) (m reason : Nat) :
    ∃ f ∈ dropReasons, s.injDrop m reason = (s.bump AUX_INJ_DROP.VALUE m).bump f m := by
  unfold State.injDrop
  split
  · exact ⟨AUX_INJ_DROP_FULL.VALUE, by simp [dropReasons], rfl⟩
  · exact ⟨AUX_INJ_DROP_CAL.VALUE, by simp [dropReasons], rfl⟩
  · exact ⟨AUX_INJ_DROP_BIST.VALUE, by simp [dropReasons], rfl⟩

/-- The counter of all drops is none of the counters by reason, and does not follow every command. -/
theorem auxInjDrop_keys : ∀ m : Fin 2,
    AUX_INJ_DROP.VALUE.key m 0 ∉ lifeKeys ∧ ∀ f ∈ dropReasons, AUX_INJ_DROP.VALUE.key m 0 ≠ f.key m 0 := by decide

theorem State.injDrop_left (s : State) (m : Fin 2) (reason : Nat) :
    (s.left (s.injDrop m reason)).rd AUX_INJ_DROP.VALUE m
        = min (s.rd AUX_INJ_DROP.VALUE m + 1) (2 ^ AUX_INJ_DROP.VALUE.width - 1)
      ∧ s.Keeps (s.left (s.injDrop m reason)) [] [AUX_INJ_DROP.VALUE.key m 0, AUX_INJ_DROP_FULL.VALUE.key m 0,
          AUX_INJ_DROP_CAL.VALUE.key m 0, AUX_INJ_DROP_BIST.VALUE.key m 0] := by
  obtain ⟨hlife, hother⟩ := auxInjDrop_keys m
  obtain ⟨f, hf, heq⟩ := s.injDrop_counts m reason
  rw [heq]
  constructor
  · rw [State.left_rd_of_notMem _ _ hlife, State.rd_bump_other _ _ _ _ _ _ _ _ (hother f hf)]
    exact State.rd_bump_same _ _ _ _ _ (by decide) (by decide)
  · have hkey : f.key m 0 ∈ dropReasons.map fun g => g.key m 0 := List.mem_map_of_mem hf
    exact (((State.Frame.refl s [] _).bump List.mem_cons_self).bump (List.mem_cons_of_mem _ hkey)).keeps

theorem State.injWrite_request {s : State} {m w : Nat} (hreq : w.testBit 31 = true) (hin : w % 32 ≤ 23) :
    s.injWrite m w = s.injRequest m (w % 32) := if_pos ⟨hreq, hin⟩

theorem injectionRequested : Claim.injectionRequested := by
  intro s m w hup hreq hin
  refine ⟨s.left (s.injRequest m (w.toNat % 32)), ?_, fun hlatched => ?_, fun hdropped => ?_⟩
  · exact congrArg s.done ((State.live_of_up hup _).trans (State.injWrite_request hreq hin))
  · rw [State.injRequest_latched hlatched, State.left_conv, State.modConv_conv,
      State.left_rd_of_notMem _ _ (auxStatus_notMem_lifeKeys m).2, State.modConv_injFull]
    exact ⟨rfl, rfl, rfl, ((s.frame_injCatch m).modConv List.mem_cons_self (List.Subset.refl _) _).keeps⟩
  · rw [State.injRequest_dropped hdropped]
    exact s.injDrop_left m _

theorem noInjectionRequested : Claim.noInjectionRequested := by
  intro s m w hup hno
  have hwrite : s.injWrite m w.toNat = s := by
    refine if_neg fun ⟨hreq, hin⟩ => ?_
    obtain hclear | hbeyond := hno
    · exact absurd (hclear.symm.trans hreq) (by decide)
    · omega
  exact ⟨s.left s, congrArg s.done ((State.live_of_up hup _).trans hwrite), s.keeps_left_self⟩

/-- Settles O47: both result registers are read by the same operation, and a request is latched or dropped by its reason. -/
theorem auxRegisters : Obligations.AuxRegisters := ⟨auxResultIsRead, injectedResultIsRead, injectionRequested, noInjectionRequested⟩

end Sys2Proof.Machine

namespace Sys2Proof.Machine
open Reg

/-! ### A tick between two units of device time fires the tick trigger (R125, R126) -/

/-- A tick 2^-24 of a device-time unit after a slot boundary (R118). -/
def fractionalTick : TickRec := { n := 1, t := 250 * 2 ^ 24 + 1 }

/-- A running unit whose converter 0 is triggered by every tick without delay, and which has just seen `fractionalTick`. -/
def tickTriggered : State :=
  { State.reset.wr AUX_TRG_CFG.SRC 2 with pwr := { phase := .running }, grid := { hist := [fractionalTick] } }

/-- The trigger waits for the first whole unit after the tick, so that the scan takes the slot after it (R126). -/
theorem tickTriggered_wait : ((tickTriggered.auxTick 0).conv 0).wait = some 251 := by decide

/-- Refutes O30 in its clause `tickFires`: AUX_TICK_TRIGGER of converter 0 in `tickTriggered`. The clause rounds the instant of the tick
down to 250, a slot boundary before the tick; the model rounds it up to 251, because R126 has the scan start at or after the instant. -/
theorem not_auxConverters : ¬ Obligations.AuxConverters := by
  unfold Obligations.AuxConverters
  rintro ⟨-, hfires, -⟩
  obtain ⟨t, ht, -, ⟨-, -, hwaits, -⟩, -⟩ :=
    hfires tickTriggered 0 fractionalTick (by decide) rfl (by decide) (by decide) (by decide) (by decide)
  obtain ⟨hwait, -⟩ := hwaits (by decide) (by decide) (by decide)
  rw [State.goes_done.mp ht, State.left_conv, State.live_of_up (by decide)] at hwait
  exact absurd (tickTriggered_wait.symm.trans hwait) (by decide)

end Sys2Proof.Machine

namespace Sys2Proof.Machine
open Reg

/-! ### A detector's event of a tick before the swap is limited by the settings of that tick (R193, R475, R558) -/

/-- A tick 1/16 s after the start of device time: 1,000,000 micro-tokens at 16 tokens per second, 62,500 at 1 per second (R475). -/
def lastOldTick : TickRec := { t := 62500 * 250 * 2 ^ 24, smp := [(0, { v := 1500, ssw := bVALID })] }

/-- Detector TD0 enabled, logging, with Q = 1 and a threshold of 1000 (R190 to R193). -/
def td0Words : Tab Nat :=
  [(FLT_TD_CFG.EN.at' 0 0, FLT_TD_CFG.EVT.put (FLT_TD_CFG.EN.put (FLT_TD_CFG.Q.put 0 1) 1) 1), (FLT_TD_TH.VALUE.at' 0 0, 1000)]

/-- A running unit whose settings swap at tick 1 took the rate of TD_PICKUP from 1 token per second to its reset value, 16. TD0 has still
to see tick 0, which the bank before the swap governs, and the bucket of TD_PICKUP is empty since device time 0. -/
def rateSwapped : State :=
  { State.reset with
    bank := { words := td0Words }
    prev := some ({ words := td0Words ++ [(EVT_RATE.RATE.at' 2 0x10, EVT_RATE.BURST.put (EVT_RATE.RATE.put 0 1) 64)] }, 1)
    pwr := { phase := .running }, grid := { now := 62500 * 250, hist := [lastOldTick], nextN := 1, trkDone := true }
    log := { buckets := [(0x2010, { lvl := some 0 })] } }

/-- At the rate of the tick's settings the bucket has no token yet: TD0 picks up, and the event is suppressed (R476). -/
theorem rateSwapped_suppresses :
    (rateSwapped.tdEvent 0 1).rd FLT_TD_STATUS.STATE 0 = 1 ∧ (rateSwapped.tdEvent 0 1).log.queue = [] := by decide

/-- At the rate in force after the swap the same event has a token. -/
theorem rateSwapped_queues :
    (rateSwapped.logAt (lastOldTick.t / 2 ^ 24) 0x2010 (0 : Fin 128).val (min 1500 (2 ^ 32 - 1))).log.queue ≠ [] := by decide

/-- Refutes O40 in its clause `detectorFires`: TD_PICKUP of TD0 in `rateSwapped`. The clause has the event raised on the settings in force
now; the model evaluates the tick, its event's token bucket included, on the settings of that tick (R475, R558). -/
theorem not_knotsAndDetectors : ¬ Obligations.KnotsAndDetectors := by
  unfold Obligations.KnotsAndDetectors
  rintro ⟨-, -, -, -, -, hfires⟩
  obtain ⟨t, ht, -, -, -, -, -, -, hlogs, -⟩ :=
    hfires rateSwapped _ 0 (.tdPickup 0) 0x2010 lastOldTick [] (1500 * 1500) 1 1500 (by decide) (by decide) rfl
      (fun _ h => nomatch h) (by decide) (by decide) (by decide) (by decide) (by decide)
  have hlog : t.log = (rateSwapped.tdEvent 0 1).log := by
    rw [State.goes_done.mp ht, State.left_log, State.live_of_up (by decide)]
    rfl
  have hqueue := congrArg LogSt.queue (hlog.symm.trans (hlogs (by decide)))
  exact rateSwapped_queues (hqueue.symm.trans rateSwapped_suppresses.right)

end Sys2Proof.Machine

namespace Sys2Proof.Machine
open Reg

/-! ### A tick record that lists a channel which the part does not have (R52, R255) -/

/-- The first tick of the grid, with a sample listed for channel number 12034: the part's channels are G0 to G511. -/
def strayTick : TickRec := { smp := [(12034, {})] }

/-- A running unit whose bay 0, mapping no channel, has still to evaluate `strayTick`, the first tick of a cycle that the tracker has not
decided. The stray channel has a correction too, and the longest wait of bay 0 so far is 7. -/
def straySample : State :=
  { State.reset.wr BAY_WAIT_MAX.VALUE 7 with
    pwr := { phase := .running, prot := true }
    grid := { hist := [strayTick], nextN := 1, corr := [(12034, 0)], fixed := true }
    eval := { bay := [(0, { run := true })] } }

/-- What the tick is once the tracker has decided its cycle: with no reference in use it carries FREQ_HOLD (R31). -/
theorem straySample_due : straySample.gridCatch.bayDue 0 = some { strayTick with hold := true } := by decide +kernel

/-- The decision shows the status of the tick's samples anew (R52). GRID_CH_SSW has 512 members; its member 12034 would lie at the address
0x80020 of BAY_WAIT_MAX of bay 0, so the stray sample's status replaces the longest wait. -/
theorem straySample_wait : (straySample.gridCatch.bayEvaluation 0 0 0).pairDone.rd BAY_WAIT_MAX.VALUE 0 = 0 := by decide +kernel

/-- Refutes O37 in its clause `bayEvaluates`: BAY_EVALUATION of bay 0 in `straySample`. The clause has BAY_WAIT_MAX the largest wait so far,
7 at least; the status word shown for a channel beyond G511 has overwritten it. A run's ticks list G0 to G511 alone (`State.newTick`), but the
clause has no such premise: it speaks of every state. -/
theorem not_bayEvaluation : ¬ Obligations.BayEvaluation := by
  unfold Obligations.BayEvaluation
  rintro ⟨hevaluates, -⟩
  have hup : straySample.up = true := by decide
  have hsteady : straySample.steady (0 : Fin 64).val { strayTick with hold := true } := ⟨fun _ h => (nomatch h), .inl rfl⟩
  obtain ⟨t, ht, -, -, -, hwait, -⟩ := hevaluates straySample 0 0 0 _ hup straySample_due hsteady
  have hlost : t.rd BAY_WAIT_MAX.VALUE 0 = 0 := by
    rw [State.goes_done.mp ht, State.left_rd_of_notMem _ _ (by decide), State.live_of_up hup]
    exact straySample_wait
  have hlargest : straySample.rd BAY_WAIT_MAX.VALUE 0 ≤ t.rd BAY_WAIT_MAX.VALUE 0 := by
    have hfits : max (straySample.rd BAY_WAIT_MAX.VALUE 0) (min ((t.grid.now - strayTick.t / 2 ^ 24) / 250) (2 ^ 32 - 1)) < 2 ^ 32 :=
      Nat.max_lt.mpr ⟨by decide, Nat.lt_of_le_of_lt (Nat.min_le_right _ _) (by decide)⟩
    calc straySample.rd BAY_WAIT_MAX.VALUE 0 ≤ max (straySample.rd BAY_WAIT_MAX.VALUE 0) _ := Nat.le_max_left _ _
      _ = t.rd BAY_WAIT_MAX.VALUE 0 := ((Nat.mod_eq_of_lt hfits).symm.trans hwait.symm)
  rw [hlost] at hlargest
  exact absurd hlargest (by decide)

end Sys2Proof.Machine

namespace Sys2Proof.Machine
open Reg

/-! ### A standby's proof cycle whose last engine fails (R522, R524, R611) -/

/-- A running unit in STANDBY whose proof cycle has come to engine 8, the last one, which is healthy and under its test (R524). -/
def lastProof : State :=
  { ((State.reset.wr PAIR_STATUS.ROLE 2).wr BIST_ENG_STATUS.HEALTHY 1 8).wr BIST_ENG_STATUS.TESTING 1 8 with
    pwr := { phase := .running }
    bist := { eng := [(8, { kind := 2, pat := 2, start := 0, again := false })], proof := some (8, false, false), proofAt := some 0 } }

/-- The failure of the last engine completes the proof cycle, and the pair's part keeps that one completed (R522). -/
theorem lastProof_completes : (lastProof.engineFail 8 1).pair.proven = true := by decide

/-- Refutes O41 in its clause `engineFails`: ENGINE_FAIL of engine 8 in `lastProof`. The clause has every part but the self-test's and the
log stay as it was; the model completes the proof cycle with the other engines (R524), and the pair's part then says so. -/
theorem not_engines : ¬ Obligations.Engines := by
  unfold Obligations.Engines
  rintro ⟨hfails, -⟩
  obtain ⟨t, ht, -, -, -, -, -, -, hparts, -⟩ := hfails lastProof 8 false (by decide) (by decide)
  have hkept : t.pair = lastProof.pair := hparts .pair (by decide)
  have hpair : t.pair = (lastProof.engineFail 8 1).pair := by
    rw [State.goes_done.mp ht, State.left_pair, State.live_of_up (by decide)]
    rfl
  have hproven : lastProof.pair.proven = true := by
    rw [← hkept, hpair]
    exact lastProof_completes
  exact absurd hproven (by decide)

end Sys2Proof.Machine

namespace Sys2Proof.Machine
open Reg

/-! ### An overcurrent element with more phases than an element has (R280, R305) -/

/-- Tick `n`, 62.5 µs after the tick before it, with the valid sample 2^25 of channel G0. -/
def levelTick (n : Nat) : TickRec := { n := n, t := n * 15625 * 2 ^ 24, smp := [(0, { v := 2 ^ 25, ssw := bVALID })] }

/-- Bay 0 maps G0 as IG (R248), and element E0 is an enabled OC_SEF of bay 0 that measures the true RMS (R280, R281). -/
def sefWords : Tab Nat :=
  [(BAY_SLOT.CH.at' 0 0, BAY_SLOT.ROLE.put 0 5), (ELM_CFG.EN.at' 0 0, ELM_CFG.MEAS.put (ELM_CFG.TYPE.put (ELM_CFG.EN.put 0 1) 3) 1)]

/-- An element with 17 phases, all picked up, that polarized from its memory at the tick before: MEM is its only output. -/
def manyPhased : Elm := { st := .oc (List.replicate 17 { up := true }) none 0, out := [(0, 2 ^ 16)] }

/-- A running unit of 32 ticks to the cycle whose bay 0 has still to evaluate the last of 32 equal samples, with `manyPhased` as E0. -/
def manyPhasedBay : State :=
  { State.reset.wr GRID_STATUS.NP_IF 0 with
    bank := { words := sefWords }, pwr := { phase := .running, prot := true }
    grid := { hist := ((List.range 32).map levelTick).reverse, nextN := 32, trkDone := true }
    eval := { bay := [(0, { run := true, next := 31 })], elm := [(0, manyPhased)] } }

/-- OC_SEF takes no polarizing voltage with POL 0 (R295), so the memory is no longer in use at the tick. -/
theorem manyPhasedBay_expires : manyPhasedBay.brings 0 hMemory 0 (levelTick 31) := by
  unfold State.brings
  decide +kernel

/-- START of phase 16 stands at bit 16 of ELM_OUT, the place of MEM. -/
theorem manyPhasedBay_shows : ((manyPhasedBay.gridCatch.elmEvent 0 hMemory).pairDone.rd ELM_OUT.BITS 0).testBit 16 = true := by
  decide +kernel

/-- Refutes O38 in its clause `memoryExpires`: ELM_MEMORY_EXPIRY of E0 in `manyPhasedBay`. The clause has bit 16 of ELM_OUT fall; START of a
phase beyond the sixteenth occupies that bit. The elements of a run have one phase or three, but the clause has no such premise: it speaks
of every state. -/
theorem not_elements : ¬ Obligations.Elements := by
  unfold Obligations.Elements
  rintro ⟨-, -, hexpires, -⟩
  have hup : manyPhasedBay.up = true := by decide
  have hsteady : manyPhasedBay.steady 0 (levelTick 31) := ⟨fun _ h => (nomatch h), .inl rfl⟩
  obtain ⟨t, ht, hfalls, -⟩ := hexpires manyPhasedBay 0 0 (levelTick 31) hup (by decide) manyPhasedBay_expires hsteady (by decide)
  rw [State.goes_done.mp ht, State.left_rd_of_notMem _ _ (by decide), State.live_of_up hup] at hfalls
  exact absurd (manyPhasedBay_shows.symm.trans hfalls) (by decide)

end Sys2Proof.Machine

namespace Sys2Proof.Machine
open Reg

/-! ### The bank of reset values passes every check of SEAL (R548) -/

/-- The settings bank in which every field has its reset value. -/
def resetBank : Bank := {}

theorem resetBank_fld (f : Field) (i j : Nat) : resetBank.fld f i j = f.reset := rfl

theorem resetBank_gfld (f : Field) (e g : Nat) : resetBank.gfld f e g = f.reset := rfl

theorem resetBank_etype (e : Nat) : resetBank.etype e = 0 := rfl

@[simp] theorem failIf_false (x : Nat) : failIf false x = [] := rfl

theorem resetBank_badRanges : resetBank.badRanges = [] := by
  have hin : ∀ f ∈ plainSp, f.inRange f.reset = true := by decide +kernel
  refine List.flatMap_eq_nil_iff.mpr fun f hf => List.flatMap_eq_nil_iff.mpr fun x _ => ?_
  simp [resetBank_fld, hin f hf]

theorem resetBank_badElmRanges (e : Nat) : resetBank.badElmRanges e = [] := by
  have hin : ∀ f ∈ elmLayout 0, f.inRange f.reset = true := by decide +kernel
  refine List.flatMap_eq_nil_iff.mpr fun f hf => ?_
  simp [resetBank_fld, resetBank_gfld, hin f hf]

/-- An element of TYPE 0 that is not enabled, with the standard curves. -/
theorem resetBank_badElm (curves : Bool) (mates : Nat → List Nat) (e : Nat) : resetBank.badElm curves mates e = [] := by
  have hreset : ELM_OC_CURVE.RESET.reset = 0 := rfl
  have hcurve : ELM_OC_CURVE.CURVE.reset = 0 := rfl
  have hclp : ELM_BLK.CLPEN.reset = 0 := rfl
  have hen : ELM_CFG.EN.reset = 0 := rfl
  simp [Bank.badElm, Bank.badElmWords, resetBank_fld, resetBank_gfld, resetBank_etype, hreset, hcurve, hclp, hen]

/-- A curve without points that no element names (R292). -/
theorem resetBank_badCurve (u : Nat) : resetBank.badCurve u = false := by
  have hnone : resetBank.curveWord u 0 = 0 := rfl
  have hcurve : ELM_OC_CURVE.CURVE.reset = 0 := rfl
  have hne : (0 == 8 + u) = false := beq_false_of_ne (by omega)
  simp only [Bank.badCurve, hnone, resetBank_gfld, hcurve, hne]
  simp

/-- Label words that are all 0 hold no text (R456). -/
theorem labelText_replicate_zero (n o len : Nat) : labelText (List.replicate n 0) o len = [] := by
  have hbytes : ∀ m, (List.replicate m 0).flatMap (leBytes 4 ·) = List.replicate (4 * m) 0 := fun m => by
    induction m with
    | zero => rfl
    | succ m ih => rw [List.replicate_succ, List.flatMap_cons, ih, Nat.mul_succ, Nat.add_comm, ← List.replicate_append_replicate]; rfl
  simp only [labelText, labelBytes, List.drop_replicate, List.take_replicate, hbytes]
  cases min len (4 * min ((len + 3) / 4) (n - o / 4)) <;> simp [List.replicate_succ]

theorem resetBank_badLabels (i : Nat) : resetBank.badLabels i = false := by
  have hwords : ((List.range 5536).map fun w => tget 0 resetBank.labels (5536 * i + w)) = List.replicate 5536 0 :=
    List.map_const' .. |>.trans (by rw [List.length_range])
  have hna : REC_CFG.NA.reset = 0 := rfl
  have hempty : badText [] = false := rfl
  have hany (n : Nat) : ((List.range n).any fun _ => false) = false := by simp
  simp only [Bank.badLabels, hwords, labelText_replicate_zero, resetBank_fld, hna, hempty, hany, List.range_zero, List.any_nil, Bool.or_self]

theorem resetBank_badObjects : resetBank.badObjects = [] := by
  have hsent : ((List.range 128).flatMap fun q => failIf (decide (1500 < tget 0 resetBank.tmpl (376 * q))) (objName 5 q)) = [] := by
    decide +kernel
  simp [Bank.badObjects, resetBank_badCurve, resetBank_badLabels, hsent]

theorem resetBank_badStreams : resetBank.badPlain ++ resetBank.badStreams = [] := by decide +kernel
theorem resetBank_badBays : ((List.range 64).flatMap fun b => resetBank.badBay b) = [] := by decide +kernel
theorem resetBank_badLogic : resetBank.badKnots ++ resetBank.badRows = [] := by decide +kernel
theorem resetBank_badRecorders : resetBank.badRec ++ resetBank.badSums = [] := by decide +kernel

/-- The bank of reset values breaks no staging rule, whether or not user curves are negotiated. -/
theorem resetBank_passes (curves : Bool) : resetBank.firstFailure curves = none := by
  have hnone : resetBank.failures curves = [] := by
    obtain ⟨hplain, hstreams⟩ := List.append_eq_nil_iff.mp resetBank_badStreams
    obtain ⟨hknots, hrows⟩ := List.append_eq_nil_iff.mp resetBank_badLogic
    obtain ⟨hrec, hsums⟩ := List.append_eq_nil_iff.mp resetBank_badRecorders
    simp only [Bank.failures, resetBank_badRanges, resetBank_badElmRanges, resetBank_badElm, hplain, hstreams, resetBank_badBays, hknots,
      hrows, hrec, hsums, resetBank_badObjects]
    simp
  rw [Bank.firstFailure, hnone]
  rfl

end Sys2Proof.Machine

namespace Sys2Proof.Machine
open Reg

/-! ### A command packet that is interpreted at once (R575, R584, R585) -/

/-- The part with a packet in an empty B0: its bytes in the ring, HEAD past them. -/
def State.packetPlaced (s : State) (op : Nat) (p : Packet) : State :=
  ((s.b0Write (s.rd HOST_BERTH_HEAD.VALUE 0) (p.bytes op)).wr HOST_BERTH_HEAD.VALUE (s.rd HOST_BERTH_HEAD.VALUE 0 + p.size) 0).wr
    HOST_STATUS.PTR_ERR 0

/-- The part with that packet taken: TAIL past it too. -/
def State.packetTaken (s : State) (op : Nat) (p : Packet) : State :=
  (s.packetPlaced op p).wr HOST_BERTH_TAIL.VALUE ((s.packetPlaced op p).rd HOST_BERTH_TAIL.VALUE 0 + p.size) 0

/-- The keys that taking a packet writes. -/
def takenKeys : List Nat := [HOST_BERTH_HEAD.VALUE.key 0 0, HOST_STATUS.PTR_ERR.key 0 0, HOST_BERTH_TAIL.VALUE.key 0 0]

theorem State.frame_b0Write (s : State) (x : Nat) (l : List Byte) (keys : List Nat) : s.Frame (s.b0Write x l) [.mem] keys := by
  refine ⟨fun p hp => ?_, fun _ _ => rfl⟩
  cases p with
  | mem => exact absurd (List.mem_singleton.mpr rfl) hp
  | _ => rfl

theorem State.frame_packetTaken (s : State) (op : Nat) (p : Packet) : s.Frame (s.packetTaken op p) [.mem] takenKeys :=
  (((s.frame_b0Write _ _ _).wr (by simp [takenKeys])).wr (by simp [takenKeys])).wr (by simp [takenKeys])

/-- A field that taking a packet does not write reads as before. -/
theorem State.packetTaken_rd (s : State) (op : Nat) (p : Packet) {f : Field} {i j : Nat} (hs : f.acc ≠ .SP) (ho : f.acc ≠ .OTP)
    (hk : f.key i j ∉ takenKeys) : (s.packetTaken op p).rd f i j = s.rd f i j := (s.frame_packetTaken op p).rd hs ho hk

@[simp] theorem State.packetTaken_log (s : State) (op : Nat) (p : Packet) : (s.packetTaken op p).log = s.log := rfl
@[simp] theorem State.packetTaken_grid (s : State) (op : Nat) (p : Packet) : (s.packetTaken op p).grid = s.grid := rfl

theorem State.packetTaken_hasFeat (s : State) (op : Nat) (p : Packet) (b : Nat) : (s.packetTaken op p).hasFeat b = s.hasFeat b := by
  simp only [State.hasFeat, State.feat, State.rd64]
  rw [s.packetTaken_rd op p (f := HOST_FEAT_LO.VALUE) (by decide) (by decide) (by decide),
    s.packetTaken_rd op p (f := HOST_FEAT_HI.VALUE) (by decide) (by decide) (by decide)]

theorem State.packetTaken_chamber (s : State) (op : Nat) (p : Packet) : (s.packetTaken op p).chamber = s.chamber :=
  s.packetTaken_rd op p (by decide) (by decide) (by decide)

/-- The common checks look at the session alone (R585). -/
theorem State.packetTaken_commonCheck (s : State) (op op' : Nat) (p p' : Packet) :
    (s.packetTaken op p).commonCheck op' p' = s.commonCheck op' p' := by
  simp only [State.commonCheck, State.packetTaken_hasFeat]
  rw [s.packetTaken_rd op p (f := HOST_STATUS.NEG) (by decide) (by decide) (by decide),
    s.packetTaken_rd op p (f := HOST_STATUS.IFVER) (by decide) (by decide) (by decide)]

/-- A packet that is ready is taken, executed and answered. -/
theorem State.submit_of_ready {s : State} {q : Bool} {op : Nat} {p : Packet} (h : s.Ready q op p) (f : State → Bool → Packet → CmdRes) :
    s.submit q op p f = ((f (s.packetTaken op p) q p).st.badPacket (f (s.packetTaken op p) q p).status false).reply op p.tag.toNat
      p.ifver.toNat (f (s.packetTaken op p) q p).status (f (s.packetTaken op p) q p).data := by
  obtain ⟨⟨⟨hup, hown, hidle, hroom, hlen, -⟩, hmram⟩, hcheck⟩ := h
  have hplaced : s.submit q op p f = (s.packetPlaced op p).interpretWith f ⟨op, q, p⟩ := by
    rw [State.submit, if_neg (by simp [hup]), if_neg (by simp [hown]), if_neg (Nat.not_lt.mpr hroom),
      if_pos ⟨hidle, hlen, by simp [hmram]⟩]
    rfl
  have htaken : (s.packetTaken op p).commonCheck op p = none := (s.packetTaken_commonCheck op op p p).trans hcheck
  unfold State.packetTaken at htaken ⊢
  rw [hplaced, State.interpretWith]
  dsimp only
  rw [htaken]

/-! ### What a reply leaves of the log -/

@[simp] theorem State.berthIrq_log (s : State) (b : Nat) : (s.berthIrq b).log = s.log := by
  unfold State.berthIrq
  dsimp only
  split
  · rfl
  · split
    · exact s.raiseVec_log _
    · rfl

@[simp] theorem State.append_log (s : State) (b : Nat) (l : List Byte) : (s.append b l).log = s.log := State.berthIrq_log _ _

@[simp] theorem State.setCredits_log (s : State) : s.setCredits.log = s.log := by
  unfold State.setCredits
  dsimp only
  split
  · rfl
  · split <;> rfl

@[simp] theorem State.reply_log (s : State) (op tag ifver : Nat) (st : Status) (data : List Nat) (resync : Bool) :
    (s.reply op tag ifver st data resync).log = s.log := by
  rw [State.reply, State.setCredits_log, State.append_log]

/-- A reply of OK is no fault of the packet (R585). -/
@[simp] theorem State.badPacket_ok (s : State) (resync : Bool) : s.badPacket .ok resync = s := if_neg (by decide)

/-- A command answered OK leaves the log as its effect does. -/
theorem State.submit_log_of_ok {s : State} {q : Bool} {op : Nat} {p : Packet} (h : s.Ready q op p) {f : State → Bool → Packet → CmdRes}
    (hok : (f (s.packetTaken op p) q p).status = .ok) : (s.submit q op p f).log = (f (s.packetTaken op p) q p).st.log := by
  rw [State.submit_of_ready h, State.reply_log, hok, State.badPacket_ok]

/-! ### The stamp of an exempt event (R471, R473) -/

/-- An empty append queue takes an entry of any code (R479). -/
theorem State.queueTakes_of_empty {s : State} (h : s.log.queue = []) (code : Nat) : s.queueTakes code = true := by
  simp [State.queueTakes, State.queuedExempt, h]

/-- An exempt event raised with nothing queued is the one entry queued, and has the device time that it is raised with. -/
theorem State.logAt_stamp {s : State} {code : Nat} (hempty : s.log.queue = []) (hexempt : exempt code = true) (hcode : code ≠ 0x0006)
    (dev src val : Nat) : (s.logAt dev code src val).log.queue.map (·.1.dev) = [dev] := by
  rw [State.logAt_eq _ _ _ _ _ hcode, State.raiseEntry]
  simp [State.entryWith, hexempt, State.enqueue, State.queueTakes_of_empty hempty, hempty]

end Sys2Proof.Machine

namespace Sys2Proof.Machine
open Reg

/-! ### The event of a seal (R548) -/

/-- Custody's registers show custody's state and log nothing. -/
theorem State.custRegs_log (s : State) : s.custRegs.log = s.log := by
  unfold State.custRegs
  refine (forN_frame State.log _ (fun _ _ => ?_) 8 _).trans ?_ <;> simp only [State.wr_log, State.wr64_log]

@[simp] theorem State.setChamber_log (s : State) (st : Nat) : (s.setChamber st).log = s.log := State.custRegs_log _

theorem State.custRegs_grid (s : State) : s.custRegs.grid = s.grid := by
  unfold State.custRegs
  refine (forN_frame State.grid _ (fun _ _ => ?_) 8 _).trans ?_ <;> simp only [State.wr_grid, State.wr64_grid]

@[simp] theorem State.setChamber_grid (s : State) (st : Nat) : (s.setChamber st).grid = s.grid := State.custRegs_grid _

/-- A bank that passes every check is sealed: SET_STAGED is raised, and the reply is OK. -/
theorem State.stageSeal_of_passes {s : State} {p : Packet} {k : Bank} (hlen : p.len = 4) (hstaging : s.chamber = 1)
    (hbank : s.cust.shadow.getD s.bank = k) (hpass : k.firstFailure (s.hasFeat 14) = none) :
    (s.stageSeal p).status = .ok ∧ (s.stageSeal p).st =
      ((s.modCust fun v => { v with sdig := k.bankDigest, g1 := none, g2 := none }).setChamber 2).logEv 0x9001 0 (k.bankDigest % 2 ^ 32) := by
  rw [State.stageSeal, if_neg (by simp [hlen]), if_neg (by simp [hstaging]), hbank]
  dsimp only
  rw [hpass]
  exact ⟨rfl, rfl⟩

theorem cmdSetStage_seal {s : State} {q : Bool} {p : Packet} (hlen : p.len = 4) (htarget : p.target = 0) (hop : p.word 0 % 256 = 3) :
    cmdSetStage s q p = s.stageSeal p := by
  simp [cmdSetStage, hlen, htarget, hop]

/-- The row SET_STAGE_SEAL submits the packets whose SUBOP is SEAL (R548). -/
theorem exec_setStageSeal {s : State} {q : Bool} {p : Packet} (hop : p.subop = 3) :
    exec (.setStageSeal q p) s = s.done (s.submit q 0x0601 p cmdSetStage) := congrArg s.done (if_pos hop)

/-- With nothing queued before it, the event of a seal has the stamp of an event raised then: that of the replayed tick in hand, if there
is one, and the present device time otherwise (R471, R487). -/
theorem State.sealed_stamp {s : State} {q : Bool} {p : Packet} {k : Bank} (h : s.Ready q 0x0601 p) (hlen : p.len = 4) (htarget : p.target = 0)
    (hop : p.word 0 % 256 = 3) (hstaging : s.chamber = 1) (hbank : s.cust.shadow.getD s.bank = k)
    (hpass : k.firstFailure (s.hasFeat 14) = none) (hempty : s.log.queue = []) :
    (s.submit q 0x0601 p cmdSetStage).log.queue.map (·.1.dev) = [s.log.clock.getD s.grid.now] := by
  have hcmd : cmdSetStage (s.packetTaken 0x0601 p) q p = (s.packetTaken 0x0601 p).stageSeal p := cmdSetStage_seal hlen htarget hop
  obtain ⟨hok, hst⟩ := (s.packetTaken 0x0601 p).stageSeal_of_passes hlen ((s.packetTaken_chamber _ _).trans hstaging) hbank
    ((congrArg k.firstFailure (s.packetTaken_hasFeat 0x0601 p 14)).trans hpass)
  rw [State.submit_log_of_ok h (hcmd ▸ hok), hcmd, hst, State.logEv, State.logAt_stamp (by simpa using hempty) (by decide) (by decide)]
  simp

/-- SET_STAGE SEAL of interface version 2, as yet without its CRC. -/
def unsignedSeal : Packet := { tag := 0, ifver := 2, flags := 0, target := 0, params := leBytes 4 3, crc := 0 }

/-- SET_STAGE SEAL of interface version 2 (R548, R581). -/
def sealPacket : Packet := { unsignedSeal with crc := BitVec.ofNat 32 (unsignedSeal.crcOf 0x0601) }

/-- A running unit in a PCIe session whose chamber is STAGING with the bank of reset values. It is device time 0, and the log's clock stands
at device time 1, as it does while an event of a replayed tick is raised (R487). -/
def replayClock : State :=
  { (((State.reset.wr HOST_STATUS.NEG 1).wr HOST_STATUS.IFVER 2).wr HOST_BERTH_CFG.SIZE 3 1).wr SET_CHAMBER.STATE 1 with
    pwr := { phase := .running }, cust := { shadow := some resetBank }, log := { clock := some 1 } }

theorem replayClock_ready : replayClock.Ready false 0x0601 sealPacket := by
  unfold State.Ready State.Takes State.Offers
  decide +kernel

/-- Refutes O57 in its clause `bankSealed`: SET_STAGE SEAL in `replayClock`. The clause stamps the event of the seal with the present device
time; the model stamps every event with the log's clock where that is set. Between the commands of a run it is not set, but the clause has
no such premise: it speaks of every state. -/
theorem not_stagingCommands : ¬ Obligations.StagingCommands := by
  unfold Obligations.StagingCommands
  rintro ⟨-, -, -, -, hsealed, -⟩
  have hop : sealPacket.word 0 % 256 = 3 := by decide
  have hpass := resetBank_passes (replayClock.hasFeat 14)
  obtain ⟨t, ht, -, -, hlogs, -⟩ := hsealed replayClock false sealPacket resetBank replayClock_ready rfl rfl hop (by decide) rfl hpass
  have hlog : t.log = (replayClock.submit false 0x0601 sealPacket cmdSetStage).log := by
    rw [exec_setStageSeal hop] at ht
    rw [State.goes_done.mp ht, State.left_log]
  have hstamp : t.log.queue.map (·.1.dev) = [1] := by
    rw [hlog]
    exact State.sealed_stamp replayClock_ready rfl rfl hop (by decide) rfl hpass rfl
  have hclaimed : t.log.queue.map (·.1.dev) = [0] := by
    rw [hlogs]
    exact State.logAt_stamp rfl (by decide) (by decide) _ _ _
  exact absurd (hstamp.symm.trans hclaimed) (by decide)

end Sys2Proof.Machine

namespace Sys2Proof.Machine
open Reg

/-! ### An element that the bank before a swap lists for two bays (R337, R348, R558) -/

/-- ELM_CFG of an enabled autoreclose of bay `b`. -/
def recloserCfg (b : Nat) : Nat := ELM_CFG.BAY.put (ELM_CFG.TYPE.put (ELM_CFG.EN.put 0 1) 15) b

/-- A bank that lists ELM_CFG of E0 twice: for bay 1, which is the setting that a read of the bank gives, and for bay 0. -/
def twiceListedBank : Bank := { words := [(ELM_CFG.EN.at' 0 0, recloserCfg 1), (ELM_CFG.EN.at' 0 0, recloserCfg 0)] }

/-- An autoreclose after its first shot that has been DEAD for the reset value of its dead time, 500 ms (R337). -/
def deadRecloser : Elm := { st := .ar 2 1 (ELM_AR_DT1.VALUE.reset * 250) 0 }

/-- A running unit whose settings swap at tick 2 disables E0, `deadRecloser`. Bay 0 runs and has still to evaluate tick 0, on
`twiceListedBank`; bay 1, which does not run, awaits its turn to the new bank. -/
def twiceListedRecloser : State :=
  { State.reset with
    prev := some (twiceListedBank, 2), pwr := { phase := .running, prot := true }
    grid := { hist := [{}], nextN := 1, trkDone := true }
    eval := { bay := [(0, { run := true })], elm := [(0, deadRecloser)], chg := [1] } }

/-- With the breaker knot at 0 and the dead time over, tick 0 brings the reclose. -/
theorem twiceListedRecloser_closes : twiceListedRecloser.brings 0 hArClose 0 {} := by
  unfold State.brings
  decide +kernel

/-- Once bay 0 has evaluated, bay 1 turns to the new bank. E0 is its element too, so it stops (R307, R348), and its read-only words
show their reset values again: MANUAL. -/
theorem twiceListedRecloser_stopped :
    (twiceListedRecloser.gridCatch.elmEvent 0 hArClose).pairDone.rd ELM_AR_STATE.STATE 0 = 6 := by decide +kernel

/-- Refutes O39 in its clause `recloserCloses`: AR_CLOSE of E0 in `twiceListedRecloser`. The clause has ELM_AR_STATE show CLOSING; the swap
of the other bay that the bank lists E0 for has stopped E0 by then. A run's banks list each word once, but the clause has no such premise:
it speaks of every state. -/
theorem not_autoreclose : ¬ Obligations.Autoreclose := by
  unfold Obligations.Autoreclose
  rintro ⟨hcloses, -⟩
  have hup : twiceListedRecloser.up = true := by decide
  have hsteady : twiceListedRecloser.steady 0 {} := ⟨fun _ h => (nomatch h), .inr ⟨twiceListedBank, 2, rfl, by decide⟩⟩
  obtain ⟨t, ht, hclosing, -⟩ := hcloses twiceListedRecloser 0 0 {} hup (by decide) twiceListedRecloser_closes hsteady (by decide)
  rw [State.goes_done.mp ht, State.left_rd_of_notMem _ _ (by decide), State.live_of_up hup] at hclosing
  exact absurd (twiceListedRecloser_stopped.symm.trans hclosing) (by decide)

end Sys2Proof.Machine

namespace Sys2Proof.Machine
open Reg

/-! ### The event of a lease that expires (R471, R596) -/

/-- A token bucket that no event has used holds the whole burst at every instant (R475). -/
theorem Bucket.fill_unused (rate burst t : Nat) : (Bucket.fill {} rate burst t).1 = burst * 1000000 := by
  unfold Bucket.fill
  split
  · exact Nat.min_eq_left (Nat.le_add_right _ _)
  · rfl

/-- A rate-limited event whose bucket no event has used, raised with nothing queued, is the one entry queued, and has the device time that
it is raised with. -/
theorem State.logAt_stamp_of_unused {s : State} {code : Nat} (hempty : s.log.queue = []) (hlimited : exempt code = false)
    (hcode : code ≠ 0x0006) (hunused : tget {} s.log.buckets code = {}) (hburst : s.rd EVT_RATE.BURST (code / 4096) (code % 4096) ≠ 0)
    (dev src val : Nat) : (s.logAt dev code src val).log.queue.map (·.1.dev) = [dev] := by
  have htoken (t : Nat) : 1000000 ≤ (Bucket.fill {} (s.rd EVT_RATE.RATE (code / 4096) (code % 4096))
      (s.rd EVT_RATE.BURST (code / 4096) (code % 4096)) t).1 := by
    rw [Bucket.fill_unused]
    omega
  rw [State.logAt_eq _ _ _ _ _ hcode, State.raiseEntry]
  simp [State.entryWith, hlimited, hunused, htoken, State.enqueue, State.queueTakes_of_empty, hempty]

/-- Maintenance mode that ends by itself raises MAINT_EXIT once it is over and its condition has arisen (R596). -/
theorem State.maintExit_log {s : State} {v : Nat} (hm : s.maint = true) (hv : v ≠ 0) :
    (s.maintExit v).log =
      ((((s.wr HOST_STATUS.MAINT 0).modHost fun h => { h with maintEnd := 0 }).cause 2).logEv 0x0005 0 v).log := by
  simp [State.maintExit, hm, hv]

/-- With nothing queued and its bucket unused, the event of a lease that expires has the stamp of an event raised then: that of the
replayed tick in hand, if there is one, and the device time of the expiry otherwise (R471, R487). -/
theorem State.maintLease_stamp {s : State} (hm : s.maint = true) (hempty : s.log.queue = []) (hunused : tget {} s.log.buckets 0x0005 = {})
    (hburst : s.rd EVT_RATE.BURST 0 5 ≠ 0) :
    s.maintLease.log.queue.map (·.1.dev) = [s.log.clock.getD (max s.grid.now s.host.maintEnd)] := by
  have hmaint : (s.atTime s.host.maintEnd).maint = true := by simpa [State.maint] using hm
  have hrate : ((((s.atTime s.host.maintEnd).wr HOST_STATUS.MAINT 0).modHost fun h => { h with maintEnd := 0 }).cause 2).rd EVT_RATE.BURST 0 5
      = s.rd EVT_RATE.BURST 0 5 := State.rd_setting _ rfl (by simp) _ _
  rw [State.maintLease, if_pos hm, State.maintExit_log hmaint (by decide), State.logEv,
    State.logAt_stamp_of_unused (by simpa using hempty) (by decide) (by decide) (by simpa using hunused) (hrate ▸ hburst)]
  simp

/-- A running unit whose maintenance lease ends at device time 0, which it is. The log's clock stands at device time 1, as it does while an
event of a replayed tick is raised (R487). -/
def replayLease : State :=
  { State.reset.wr HOST_STATUS.MAINT 1 with pwr := { phase := .running }, log := { clock := some 1 } }

/-- Refutes O52 in its clause `leaseExpires`: MAINT_LEASE_EXPIRY in `replayLease`. The clause stamps MAINT_EXIT with the device time of the
expiry; the model stamps every event with the log's clock where that is set. Between the commands of a run it is not set, but the clause
has no such premise: it speaks of every state. -/
theorem not_hostInterface : ¬ Obligations.HostInterface := by
  unfold Obligations.HostInterface
  rintro ⟨-, -, -, hexpires, -⟩
  have hup : replayLease.up = true := by decide
  have hmaint : replayLease.maint = true := by decide
  have hburst : replayLease.rd EVT_RATE.BURST 0 5 ≠ 0 := by decide
  obtain ⟨t, ht, -, -, -, -, -, -, -, hnow, hlogs, -⟩ := hexpires replayLease hup hmaint
  have hlog : t.log = replayLease.maintLease.log := by
    rw [State.goes_done.mp ht, State.left_log, State.live_of_up hup]
  have hstamp : t.log.queue.map (·.1.dev) = [1] := hlog ▸ State.maintLease_stamp hmaint rfl rfl hburst
  have hclaimed : t.log.queue.map (·.1.dev) = [0] := by
    rw [hlogs, State.logAt_stamp_of_unused rfl (by decide) (by decide) rfl hburst, hnow]
    rfl
  exact absurd (hstamp.symm.trans hclaimed) (by decide)

end Sys2Proof.Machine

namespace Sys2Proof.Machine
open Reg

/-! ### Every step shows its outputs (R400, R412, R414, R443, R603) -/

/-- Every command ends in what its effect leaves: outputs shown, the queue as the command found it. -/
theorem exec_done (c : Instr) (s : State) : ∃ u, exec c s = s.done u := by
  cases c <;> exact ⟨_, rfl⟩

/-- A step leaves what the effect of the front command, or of an idle cycle, leaves, and the rest of the queue. -/
theorem step_left (s : State) : ∃ u, step s = .next (State.left { s with pending := s.pending.tail } u) := by
  cases hq : s.pending with
  | nil => exact ⟨s.live State.clockCycle, by simp [step, hq, State.idle, State.done, State.left]⟩
  | cons c rest =>
    obtain ⟨u, hu⟩ := exec_done c { s with pending := rest }
    exact ⟨u, by simpa [step, hq, State.done] using hu⟩

theorem everyStepShows : Claim.everyStepShows := fun s =>
  have ⟨u, hu⟩ := step_left s
  ⟨_, hu, State.left_outputsOk _ u, rfl⟩

theorem queueStaysOk : Claim.queueStaysOk := fun s hok =>
  have ⟨t, ht, _, hpending⟩ := everyStepShows s
  ⟨t, ht, fun c hc => hok c (List.mem_of_mem_tail (hpending ▸ hc))⟩

/-- Settles O4: every command ends in `State.left`, which shows the outputs and gives the queue back as it found it. -/
theorem everyStepShowsOutputs : Obligations.EveryStepShowsOutputs := ⟨everyStepShows, queueStaysOk⟩

end Sys2Proof.Machine

namespace Sys2Proof.Machine
open Reg

/-! ### The part while its logic side does not run (R384, R651, R652, R655) -/

/-- Whatever a command of the field die does, it does on the die, with the logic side as far as that runs. -/
theorem exec_dieCommand {c : Instr} (hdie : dieCommand c = true) (s : State) : ∃ f, exec c s = s.done (s.viaDie f) := by
  unfold dieCommand at hdie
  split at hdie
  case h_25 => contradiction
  all_goals exact ⟨_, rfl⟩

/-- With the logic side down an effect on the die leaves everything else. -/
theorem State.keeps_left_viaDie {s : State} (hdown : s.up = false) (f : State → State) : s.Keeps (s.left (s.viaDie f)) [.dio] [] := by
  have hdie : s.viaDie f = { s with dio := (f s).dio } := by simp [State.viaDie, hdown]
  rw [hdie]
  refine State.keeps_left (fun p hp => ?_) fun _ _ _ => rfl
  cases p with
  | dio => exact absurd (List.mem_singleton.mpr rfl) hp
  | _ => rfl

theorem dieAlone : Claim.dieAlone := fun s _ hdie hdown =>
  have ⟨f, hf⟩ := exec_dieCommand hdie s
  ⟨_, hf, s.keeps_left_viaDie hdown f⟩

theorem State.submit_of_down {s : State} (hdown : s.up = false) (q : Bool) (op : Nat) (p : Packet) (f : State → Bool → Packet → CmdRes) :
    s.submit q op p f = s := by
  simp [State.submit, hdown]

section
variable {s : State} {a : Nat}

/-- A write where the window does not answer does nothing (R652, R655). -/
theorem State.registerWrite_unanswered (hdown : s.up = false) (ha : s.answers a = false) (q : Bool) (be w : Nat) :
    s.registerWrite q a be w = s := by
  simp [State.registerWrite, State.hostWrite, hdown, ha]

theorem State.w1cRow_unanswered (ha : s.answers a = false) (q : Bool) (w : Nat) : s.w1cRow q a w = s := by
  simp [State.w1cRow, ha]

/-- A read where the window does not answer returns 0, if there is a window at all (R652, R655). -/
theorem State.hostRead_unanswered (hdown : s.up = false) (ha : s.answers a = false) :
    s.hostRead a = if s.regWindow then s.returns 0 else s := by
  cases hwin : s.regWindow <;> simp [State.hostRead, hwin, hdown, ha]

end

/-- Held or unpowered, the part answers nowhere. -/
theorem State.answers_of_held {s : State} (hdown : s.up = false) (hboot : s.pwr.phase ≠ .bootFail) (a : Nat) : s.answers a = false := by
  simp [State.answers, hdown, hboot]

/-- A command that acts on the running logic side alone has no effect on a held part: a packet is not taken, an access not answered,
and anything else happens only while the logic side runs. -/
theorem exec_of_held {s : State} {c : Instr} (hdown : s.up = false) (hboot : s.pwr.phase ≠ .bootFail) (hc : actsWhileHeld c = false) :
    exec c s = s.done s := by
  have hpacket := State.submit_of_down hdown
  have hlive := State.live_of_down hdown
  have hans := State.answers_of_held hdown hboot
  have hwin : s.regWindow = false := by simp [State.regWindow, hdown, hboot]
  cases c with
  | linkholdExpiry | fieldDieReset | fieldUvWarn | fieldUvInval | fieldUvDrop | fieldUvRecover | fieldUvClear | fieldUvInvalidExit | dinChange
  | wireBreak | wireOk | outOverload | outOverloadRetry | outStuckHigh | outConflict | outOpenLoad | outParImbalance | outDiagClear
  | softStartSlot | claimFrameTx | claimFrameRx | claimPartnerTimeout | claimLineFail | claimLineOk | rstNLow | vmainBrownOut | vioLow
  | regulatorOutOfRange | refclkLost | overTemperature | powerOnResetRelease | startUp | norAccess | norOpDone | fieldLinkLost =>
    exact Bool.noConfusion hc
  | negotiate | identify | restart | maintMode | selfcal | auxInject | afeDiag | afeSkewcal | fltBankLoad | fltBankSwap | fltSync | timeSet
  | pbusSubscribe | setEndorse | setCommit | setAbort | keyEnrol | recArm | recFetch | recExport | recTrigger | recDisarm | recManage | evtRead
  | evtClear | pairJoin | pairYield | pairStatus | bistRun | repairFuse =>
    exact congrArg s.done (hpacket ..)
  | setStageOpen | setStageWrite | setStageSeal => exact congrArg s.done (by rw [hpacket, ite_self])
  | badOpcode => exact congrArg s.done (by rw [State.undefinedOpcode, hpacket, ite_self])
  | registerWrite => exact congrArg s.done (State.registerWrite_unanswered hdown (hans _) ..)
  | w1cWrite => exact congrArg s.done (State.w1cRow_unanswered (hans _) ..)
  | rcRead => exact congrArg s.done (by rw [State.hostRead_unanswered hdown (hans _), hwin]; rfl)
  | _ => exact congrArg s.done (hlive _)

theorem logicSideHeld : Claim.logicSideHeld := fun s _ hdown hboot hc => ⟨s.left s, exec_of_held hdown hboot hc, s.keeps_left_self⟩

theorem bootWindow : Claim.bootWindow := by
  intro s q a w be hboot hblock
  have hdown : s.up = false := by simp [State.up, hboot]
  have ha : s.answers a.toNat = false := by simp [State.answers, hdown, hblock]
  have hwin : s.regWindow = true := by simp [State.regWindow, hboot]
  refine ⟨⟨s.left (s.returns 0), congrArg s.done ?_, rfl, State.keeps_left_modHost s rfl⟩, ⟨s.left s, congrArg s.done ?_, s.keeps_left_self⟩,
    ⟨s.left s, congrArg s.done ?_, s.keeps_left_self⟩⟩
  · rw [State.hostRead_unanswered hdown ha, hwin]
    rfl
  · exact State.registerWrite_unanswered hdown ha ..
  · exact State.w1cRow_unanswered ha ..

/-- Settles O7: a held part runs no command of the logic side, the die's commands write the die, and a failed boot answers in three blocks. -/
theorem heldPart : Obligations.HeldPart := ⟨logicSideHeld, dieAlone, bootWindow⟩

end Sys2Proof.Machine

namespace Sys2Proof.Machine
open Reg

/-! ### The events of the field die in a unit whose log's clock stands (R471, R487) -/

/-- The log is as after reset but that its clock stands at device time 1, and the settings are the reset values. -/
def State.Clocked (s : State) : Prop := s.log = { clock := some 1 } ∧ s.settings = {}

theorem State.Clocked.of_eq {s e : State} (hs : s.Clocked) (hlog : e.log = s.log) (hset : e.settings = s.settings) : e.Clocked :=
  ⟨hlog.trans hs.1, hset.trans hs.2⟩

theorem State.Clocked.atTime {s : State} (hs : s.Clocked) (t : Nat) : (s.atTime t).Clocked := hs.of_eq (by simp) (by simp)

/-- The one entry that such a unit queues for a rate-limited event has the device time that it is raised with. -/
theorem State.Clocked.logAt_stamp {s : State} (hs : s.Clocked) {code : Nat} (hlimited : exempt code = false) (hcode : code ≠ 0x0006)
    (dev src val : Nat) : (s.logAt dev code src val).log.queue.map (·.1.dev) = [dev] := by
  obtain ⟨hlog, hset⟩ := hs
  have hburst : s.rd EVT_RATE.BURST (code / 4096) (code % 4096) = EVT_RATE.BURST.reset := by
    rw [State.rd_setting (t := State.reset) EVT_RATE.BURST rfl hset]
    rfl
  exact State.logAt_stamp_of_unused (by rw [hlog]) hlimited hcode (by rw [hlog]; rfl) (hburst ▸ by decide) dev src val

/-- The event that such a unit raises is not one of another device time than 1: the model stamps every event with the log's clock where
that is set. -/
theorem State.Clocked.not_logs {s e t : State} {code src val n : Nat} (hs : s.Clocked) (he : e.Clocked)
    (hlimited : exempt code = false) (hcode : code ≠ 0x0006) (ht : t.log = (e.logEv code src val).log) (hn : n ≠ 1) :
    ¬ s.Logs t n code src val := by
  intro hlogs
  have hclock : e.log.clock.getD e.grid.now = 1 := by rw [he.1]; rfl
  have hstamp := he.logAt_stamp hlimited hcode 1 src val
  have hclaimed := hs.logAt_stamp hlimited hcode n src val
  rw [State.logEv, hclock] at ht
  rw [← ht, hlogs, hclaimed] at hstamp
  exact hn (List.singleton_inj.mp hstamp)

/-- A running unit at device time 0 with a given field die. The log's clock stands at device time 1, as it does while an event of a
replayed tick is raised (R487). -/
def clockedUnit (x : DioSt) : State :=
  { State.reset with pwr := { phase := .running }, log := { clock := some 1 }, dio := x }

theorem clockedUnit_clocked (x : DioSt) : (clockedUnit x).Clocked := ⟨rfl, rfl⟩
theorem clockedUnit_up (x : DioSt) : (clockedUnit x).up = true := rfl
theorem clockedUnit_now (x : DioSt) : (clockedUnit x).grid.now = 0 := rfl

/-! ### What those commands log -/

theorem State.inputFlags_log (s : State) : s.inputFlags.log = s.log :=
  forN_frame State.log _ (fun d s => by dsimp only; split <;> rfl) 32 s

theorem State.dioRegs_log (s : State) : s.dioRegs.log = s.log := by
  unfold State.dioRegs
  dsimp only
  rw [forN_frame State.log _ fun d u => ?_]
  · rfl
  · simp

theorem State.settle_log (s : State) : s.settle.log = s.log := by
  unfold State.settle
  rw [State.dioRegs_log]
  refine forN_frame State.log _ (fun d s => ?_) 32 s
  dsimp only
  repeat' split
  all_goals rfl

theorem State.setUv_log (s : State) (t u mv : Nat) : (s.setUv t u mv).log = s.log := by
  simp [State.setUv, State.settle_log, State.inputFlags_log]

theorem State.pairWatch_log (s : State) : s.pairWatch.log = s.log := by
  unfold State.pairWatch
  split <;> rfl

/-- While the die has no link to lose, 100 µs without a readback frame are the loss at the logic side (R388). -/
theorem State.linkLost_of_dieDown {s : State} (hdie : s.dio.link = false) (hlogic : s.rd DIO_STATUS.LINK = 1) :
    s.linkLost = (s.atTime (s.dio.readAt + 25000)).logicLost := by
  have hle : s.dio.readAt + 25000 ≤ s.dio.readAt + 25000 + 2000 := Nat.le_add_right _ _
  simp [State.linkLost, State.lossTimes, hdie, hlogic, hle]

theorem State.uvWarn_crosses {s : State} {mv : Nat} (hreset : s.dio.reset = false) (huv : s.dio.uv = 0) (hmv : mv < 16000) (t : Nat) :
    s.uvWarn t mv = (s.setUv t 1 mv).logEv 0x6020 0 mv := by
  have hno : ¬ ((s.dio.reset : Prop) ∨ s.dio.uv ≠ 0 ∨ 16000 ≤ mv) := by
    simp only [hreset, huv, Bool.false_eq_true, ne_eq, not_true_eq_false, false_or]
    omega
  rw [State.uvWarn, if_neg hno]

theorem State.wireOk_clears {s : State} {d : Nat} (hflag : s.dio.wb.testBit d = true) (t : Nat) :
    s.wireOk d t = ((((s.atTime (max t (tget 0 s.dio.deb d) + s.rd DIO_CH_CFG.WBT d * 2500000)).modDio fun x =>
      { x with wb := setBit x.wb d false }).wr DIO_CH_STATUS.WIREBRK 0 d).inputFlags).logEv 0x6003 := by
  simp [State.wireOk, hflag]

theorem State.outDiagClear_stuck {s : State} {d : Nat} (hflag : s.dio.stuck.testBit d = true) (t : Nat) :
    s.outDiagClear d 7 t = ((s.atTime t).diagSet d 7 false).logEv 0x6015 d 7 := by
  simp [State.outDiagClear, State.diagClear, DioSt.diag, hflag]

theorem State.claimLineOk_restores {s : State} (hfailed : s.rd DIO_CLAIM_STATUS.LINE_OK = 0) (hrun : 8 ≤ s.dio.claim.run) :
    s.claimLineOk = ((s.wr DIO_CLAIM_STATUS.LINE_OK 1).wr DIO_CLAIM_STATUS.TX_FAULT 0).logEv 0x6034 := by
  have hno : ¬ (s.rd DIO_CLAIM_STATUS.LINE_OK = 1 ∨ s.dio.claim.run < 8) := by omega
  rw [State.claimLineOk, if_neg hno]

/-! ### Five families, each with a clause that stamps an event with the present device time

Between the commands of a run the log's clock is not set, but the clauses have no such premise: they speak of every state. -/

/-- Refutes O16 in its clause `linkLossSeen`: FIELD_LINK_LOST at the logic side of `clockedUnit`. The clause stamps the event with the device
time of the loss; the model stamps every event with the log's clock where that is set. -/
theorem not_fieldLink : ¬ Obligations.FieldLink := by
  unfold Obligations.FieldLink
  rintro ⟨-, -, -, -, hseen⟩
  obtain ⟨s, hs⟩ : ∃ s, s = (clockedUnit {}).wr DIO_STATUS.LINK 1 := ⟨_, rfl⟩
  have hclocked : s.Clocked := (clockedUnit_clocked {}).of_eq (by simp [hs]) (by simp [hs])
  have hup : s.up = true := by rw [hs]; decide
  have hlink : s.rd DIO_STATUS.LINK = 1 := by rw [hs]; decide
  have hdie : s.dio = {} := by rw [hs]; rfl
  have hnow0 : s.grid.now = 0 := by rw [hs]; rfl
  obtain ⟨t, ht, -, -, hnow, -, -, -, -, -, hlogs, -⟩ := hseen s 25000 hup hlink (.inl (by rw [hdie])) (by simp [hdie])
  have hlog : t.log = s.linkLost.log := by
    rw [State.goes_done.mp ht, State.left_log, State.linkDown, if_pos hup, State.pairWatch_log]
  rw [State.linkLost_of_dieDown (by rw [hdie]) hlink] at hlog
  refine (hclocked.atTime _).not_logs (hclocked.of_eq ?_ ?_) (by decide) (by decide) hlog ?_ hlogs
  · simp [State.inputFlags_log]
  · simp
  · omega

/-- Refutes O17 in its clause `uvCrosses`: FIELD_UV_WARN at 15 V in `clockedUnit`, whose log's clock stamps the event where the clause has
the device time of the crossing. -/
theorem not_fieldSupply : ¬ Obligations.FieldSupply := by
  unfold Obligations.FieldSupply
  rintro ⟨-, -, hcrosses, -⟩
  have hclocked := clockedUnit_clocked { reset := false }
  have hup := clockedUnit_up { reset := false }
  obtain ⟨t, ht, -, -, -, -, hnow, -, -, hlogs, -⟩ := hcrosses _ (.fieldUvWarn 0 15000) 0 1 0x6020 0 15000 (by decide) hup rfl rfl (by decide)
  have hlog : t.log = ((clockedUnit { reset := false }).uvWarn 0 15000).log := by
    rw [State.goes_done.mp ht, State.left_log, State.viaDie_of_up hup, State.pairWatch_log]
    rfl
  rw [State.uvWarn_crosses rfl rfl (by decide)] at hlog
  refine (hclocked.atTime _).not_logs (hclocked.of_eq (State.setUv_log ..) (by simp)) (by decide) (by decide) hlog ?_ hlogs
  rw [hnow, clockedUnit_now]
  decide

/-- Refutes O18 in its clause `wireRestored`: WIRE_OK of channel 0 in `clockedUnit`, whose log's clock stamps the event where the clause has
the device time at which the flag clears. -/
theorem not_inputsAndLifeContact : ¬ Obligations.InputsAndLifeContact := by
  unfold Obligations.InputsAndLifeContact
  rintro ⟨-, -, hrestored, -⟩
  have hclocked := clockedUnit_clocked { wb := 1 }
  have hup := clockedUnit_up { wb := 1 }
  have hflag : (clockedUnit { wb := 1 }).dio.wb.testBit 0 = true := by decide
  obtain ⟨t, ht, -, -, hnow, hlogs, -⟩ := hrestored _ 0 0 0 hup hflag rfl
  have hlog : t.log = ((clockedUnit { wb := 1 }).wireOk 0 0).log := by
    rw [State.goes_done.mp ht, State.left_log, State.viaDie_of_up hup]
    rfl
  rw [State.wireOk_clears hflag] at hlog
  refine (hclocked.atTime _).not_logs (hclocked.of_eq ?_ ?_) (by decide) (by decide) hlog ?_ hlogs
  · simp [State.inputFlags_log]
  · simp
  · rw [hnow, clockedUnit_now]
    decide

/-- Refutes O19 in its clause `diagnosticClears`: OUT_DIAG_CLEAR of STUCK_HIGH of channel 0 in `clockedUnit`, whose log's clock stamps the event
where the clause has the device time at which the flag clears. -/
theorem not_outputs : ¬ Obligations.Outputs := by
  unfold Obligations.Outputs
  rintro ⟨-, -, -, -, -, -, hclears, -⟩
  have hclocked := clockedUnit_clocked { stuck := 1 }
  have hup := clockedUnit_up { stuck := 1 }
  have hflag : (clockedUnit { stuck := 1 }).dio.stuck.testBit 0 = true := by decide
  obtain ⟨t, ht, -, -, hnow, hlogs, -⟩ := hclears _ 0 7 DIO_CH_STATUS.STUCK_HIGH 0 hup rfl (by decide) hflag
  have hlog : t.log = ((clockedUnit { stuck := 1 }).outDiagClear 0 7 0).log := by
    rw [State.goes_done.mp ht, State.left_log, State.viaDie_of_up hup]
    rfl
  rw [State.outDiagClear_stuck hflag] at hlog
  refine (hclocked.atTime _).not_logs (hclocked.of_eq ?_ ?_) (by decide) (by decide) hlog ?_ hlogs
  · simp [State.diagSet, diagField]
  · simp
  · rw [hnow, clockedUnit_now]
    decide

/-- Refutes O20 in its clause `claimLineRestored`: CLAIM_LINE_OK after eight good cycles in `clockedUnit`, whose log's clock stamps the event
where the clause has the present device time. -/
theorem not_claimLine : ¬ Obligations.ClaimLine := by
  unfold Obligations.ClaimLine
  rintro ⟨-, -, -, -, -, hrestored, -⟩
  have hclocked := clockedUnit_clocked { claim := { run := 8 } }
  have hup := clockedUnit_up { claim := { run := 8 } }
  have hfailed : (clockedUnit { claim := { run := 8 } }).rd DIO_CLAIM_STATUS.LINE_OK = 0 := by decide
  have hrun : 8 ≤ (clockedUnit { claim := { run := 8 } }).dio.claim.run := Nat.le_refl 8
  obtain ⟨t, ht, -, -, hlogs, -⟩ := hrestored _ hup hfailed hrun
  have hlog : t.log = (clockedUnit { claim := { run := 8 } }).claimLineOk.log := by
    rw [State.goes_done.mp ht, State.left_log, State.viaDie_of_up hup, State.pairWatch_log]
  rw [State.claimLineOk_restores hfailed hrun] at hlog
  refine hclocked.not_logs (hclocked.of_eq (by simp) (by simp)) (by decide) (by decide) hlog ?_ hlogs
  rw [clockedUnit_now]
  decide

end Sys2Proof.Machine

namespace Sys2Proof.Machine
open Reg

/-! ### Events that a running unit whose log's clock stands raises (R471, R487)

As in the five families of the field die, a clause that stamps an event with the present device time speaks of every state, and so of
those in which an event of a replayed tick is being raised. -/

theorem State.spWrite_differs {s : State} {a old w : Nat} (h : old &&& s.spMaskAt a ≠ w &&& s.spMaskAt a) :
    s.spWrite a old w = (s.bump SET_SPW_CNT.VALUE).logEv 0x9007 0 a := if_neg h

/-- A direct write into the element blocks meets settings alone. -/
theorem State.hostWrite_elm {s : State} {a : Nat} (hup : s.up = true) (hsession : sessionOnly a = false) (hberth : 0x3000 ≤ a)
    (hmsix : inMsix a = false) (helm : inElm a = true) (q : Bool) (w : Nat) : s.hostWrite q a w = s.spWrite a (s.readWord a) w := by
  have hno : ¬ (0x1000 ≤ a ∧ a < 0x3000) := by omega
  simp [State.hostWrite, State.answers, hup, hsession, hno, hmsix, helm]

/-- Refutes O45 in its clause `settingsWriteIgnored`: SP_WRITE of another value into an element block of `clockedUnit`, whose log's clock stamps
the event where the clause has the present device time. -/
theorem not_settingsWrites : ¬ Obligations.SettingsWrites := by
  unfold Obligations.SettingsWrites
  rintro ⟨hignored, -⟩
  have hclocked := clockedUnit_clocked {}
  have hup := clockedUnit_up {}
  have hmask : (clockedUnit {}).spMaskAt 0xA0000 ≠ 0 := by decide
  have hdiffers : (clockedUnit {}).readWord 0xA0000 &&& (clockedUnit {}).spMaskAt 0xA0000 ≠ 1 &&& (clockedUnit {}).spMaskAt 0xA0000 := by decide
  obtain ⟨t, ht, -, -, hlogs, -⟩ := hignored (clockedUnit {}) false 0xA0000 1 hup hmask (.inl (by decide)) (by decide) hdiffers
  have hlog : t.log = (((clockedUnit {}).bump SET_SPW_CNT.VALUE).logEv 0x9007 0 0xA0000).log := by
    rw [← State.spWrite_differs hdiffers, ← State.hostWrite_elm hup (by decide) (by decide) (by decide) (by decide) false, State.goes_done.mp ht,
      State.left_log, State.live_of_up hup]
    exact congrArg State.log (if_neg hmask)
  exact hclocked.not_logs (hclocked.of_eq (by simp) (by simp)) (by decide) (by decide) hlog (by rw [clockedUnit_now]; decide) hlogs

/-! ### The alarm of a heartbeat path (R497) -/

/-- The fourth miss in a row on the Lumko link, with the towpath alive, is the alarm and no more. -/
theorem State.hbMiss_alarms {s : State} {t : Nat} (hpaired : s.paired = true) (hat : s.pair.lk.at' = some t) (hmiss : s.pair.lk.miss = 3)
    (hother : s.pair.tow.miss < 4) :
    s.hbMiss false = (((s.atTime (t + 130000)).setPath false { s.pair.lk with at' := some (t + 130000), miss := 4, ok := 0, alarm := true }).bump
      PAIR_HB_MISS_LK.VALUE).logEv 0x8002 := by
  have hno : ¬ 4 ≤ s.pair.tow.miss := by omega
  simp [State.hbMiss, State.path, hat, hpaired, hmiss, State.setPath, hno, b2n]

/-- An active unit at device time 0 that has missed three heartbeats in a row on the Lumko link; its log's clock stands at device time 1. -/
def missedThree : State :=
  { (clockedUnit {}).wr PAIR_STATUS.ROLE 4 with pair := { lk := { at' := some 0, miss := 3 } } }

/-- Refutes O23 in its clause `missAlarms`: HB_MISS of the Lumko link in `missedThree`, whose log's clock stamps the event where the clause has
the device time of the miss. -/
theorem not_missedHeartbeats : ¬ Obligations.MissedHeartbeats := by
  unfold Obligations.MissedHeartbeats
  rintro ⟨-, halarms, -⟩
  have hclocked : missedThree.Clocked := ⟨rfl, rfl⟩
  have hup : missedThree.up = true := rfl
  have hpaired : missedThree.paired = true := by decide
  obtain ⟨t, ht, -, -, -, -, hlogs, hkeeps⟩ := halarms missedThree false 0 hup hpaired rfl rfl (by decide)
  have hleft := State.goes_done.mp ht
  rw [State.live_of_up hup, State.hbMiss_alarms (t := 0) hpaired rfl rfl (by decide)] at hleft
  have hnow : t.grid.now = 130000 := by rw [hleft]; decide
  refine (hclocked.atTime _).not_logs (hclocked.of_eq ?_ ?_) (by decide) (by decide) ((congrArg State.log hleft).trans (State.left_log ..)) ?_ hlogs
  · simp [State.setPath]
  · simp [State.setPath]
  · omega

/-! ### The event of a packet that is no packet (R584, R585) -/

@[simp] theorem State.payResync_log (s : State) : s.payResync.log = s.log := by
  unfold State.payResync
  split
  · split <;> simp
  · rfl

theorem State.resyncDue_of_alone {s : State} {t : Nat} (hpartial : s.host.partialAt = some t) (hwaiting : s.host.waiting = []) :
    s.resyncDue = (s.atTime (t + 25000000)).resyncNow := by
  simp [State.resyncDue, hpartial, hwaiting]

/-- A resync logs HOST_BAD_PACKET and no more. -/
theorem State.resyncNow_log (s : State) :
    s.resyncNow.log = (((((s.wr HOST_BERTH_TAIL.VALUE (s.rd HOST_BERTH_HEAD.VALUE 0) 0).bump HOST_RESYNC_CNT.VALUE).bump
      HOST_BADPKT_CNT.VALUE)).logEv 0xB003 0 (0x0102 + 65536)).log := by
  rw [State.resyncNow]
  simp [State.badPacket, Status.code, b2n]

/-- Refutes O50 in its clause `resyncAnswered`: RESYNC in `clockedUnit` with a header at device time 0, whose log's clock stamps the event
where the clause has the device time of the resync. -/
theorem not_commandBerthHead : ¬ Obligations.CommandBerthHead := by
  unfold Obligations.CommandBerthHead
  rintro ⟨-, -, -, -, -, hanswered⟩
  obtain ⟨s, hs⟩ : ∃ s, s = (clockedUnit {}).modHost fun h => { h with partialAt := some 0 } := ⟨_, rfl⟩
  have hclocked : s.Clocked := (clockedUnit_clocked {}).of_eq (by simp [hs]) (by simp [hs])
  have hup : s.up = true := by rw [hs]; rfl
  have hpartial : s.host.partialAt = some 0 := by rw [hs]; rfl
  have hwaiting : s.host.waiting = [] := by rw [hs]; rfl
  have hreply : s.canReply = true := by rw [hs]; decide
  obtain ⟨t, ht, -, -, -, -, -, -, hlogs, hnow, -⟩ := hanswered s 0 hup hpartial hwaiting hreply (by rw [hs]; decide)
  have hlog : t.log = s.resyncDue.log := by
    rw [State.goes_done.mp ht, State.left_log, State.live_of_up hup]
  rw [State.resyncDue_of_alone hpartial hwaiting, State.resyncNow_log] at hlog
  exact (hclocked.atTime _).not_logs ((hclocked.atTime (0 + 25000000)).of_eq (by simp) (by simp)) (by decide) (by decide) hlog (by omega) hlogs

/-- A packet that is taken at once and that a common check turns away is answered with the check's status, and no command is executed. -/
theorem State.submit_of_rejected {s : State} {q : Bool} {op : Nat} {p : Packet} {st : Status} {d : List Nat} (h : s.Takes q op p)
    (hcheck : s.commonCheck op p = some (st, d)) (f : State → Bool → Packet → CmdRes) :
    s.submit q op p f = ((s.packetTaken op p).badPacket st false).reply op p.tag.toNat p.ifver.toNat st d := by
  obtain ⟨⟨hup, hown, hidle, hroom, hlen, -⟩, hmram⟩ := h
  have hplaced : s.submit q op p f = (s.packetPlaced op p).interpretWith f ⟨op, q, p⟩ := by
    rw [State.submit, if_neg (by simp [hup]), if_neg (by simp [hown]), if_neg (Nat.not_lt.mpr hroom),
      if_pos ⟨hidle, hlen, by simp [hmram]⟩]
    rfl
  have htaken : (s.packetTaken op p).commonCheck op p = some (st, d) := (s.packetTaken_commonCheck op op p p).trans hcheck
  unfold State.packetTaken at htaken ⊢
  rw [hplaced, State.interpretWith]
  dsimp only
  rw [htaken]

@[simp] theorem State.packetTaken_settings (s : State) (op : Nat) (p : Packet) : (s.packetTaken op p).settings = s.settings := by
  simp [State.packetTaken, State.packetPlaced, State.b0Write]

/-- A packet with one byte of parameters, which no LENGTH allows (R585). -/
def oddPacket : Packet := { tag := 0, ifver := 2, flags := 0, target := 0, params := [0], crc := 0 }

theorem clockedUnit_takes_oddPacket : (clockedUnit {}).Takes false 0x0102 oddPacket := by
  unfold State.Takes State.Offers
  decide +kernel

/-- Refutes O54 in its clause `packetRejected`: IDENTIFY with a LENGTH of 1 in `clockedUnit`, whose log's clock stamps HOST_BAD_PACKET where the
clause has the present device time. -/
theorem not_commandPackets : ¬ Obligations.CommandPackets := by
  unfold Obligations.CommandPackets
  rintro ⟨hrejected, -⟩
  have hclocked := clockedUnit_clocked {}
  have hcheck : (clockedUnit {}).commonCheck 0x0102 oddPacket = some (.badLength, []) := by decide
  obtain ⟨t, ht, -, hbad⟩ := hrejected _ (.identify false oddPacket) false 0x0102 oddPacket _ _ rfl clockedUnit_takes_oddPacket hcheck
  obtain ⟨-, hlogs⟩ := hbad (.inl rfl)
  have hlog : t.log = ((((clockedUnit {}).packetTaken 0x0102 oddPacket).bump HOST_BADPKT_CNT.VALUE).logEv 0xB003 0 Status.badLength.code).log := by
    rw [State.goes_done.mp ht, State.left_log, State.submit_of_rejected clockedUnit_takes_oddPacket hcheck, State.reply_log]
    simp [State.badPacket, b2n]
  refine hclocked.not_logs (hclocked.of_eq ?_ ?_) (by decide) (by decide) hlog ?_ hlogs
  · simp
  · simp
  · rw [clockedUnit_now]
    decide

/-! ### The event of a shadow bank that is discarded (R553) -/

/-- SET_ABORT of interface version 2 without an endorsement, as yet without its CRC. -/
def unsignedAbort : Packet := { tag := 0, ifver := 2, flags := 0, target := 0, params := [], crc := 0 }

/-- SET_ABORT of interface version 2 without an endorsement (R553, R581). -/
def abortPacket : Packet := { unsignedAbort with crc := BitVec.ofNat 32 (unsignedAbort.crcOf 0x0604) }

theorem replayClock_ready_abort : replayClock.Ready false 0x0604 abortPacket := by
  unfold State.Ready State.Takes State.Offers
  decide +kernel

/-- SET_ABORT without an endorsement discards the bank being staged, with SET_ABORTED (R553). -/
theorem cmdSetAbort_staging {s : State} {q : Bool} {p : Packet} (hlen : p.len = 0) (htarget : p.target = 0) (hstaging : s.chamber = 1) :
    cmdSetAbort s q p = (((s.modCust fun c => { c with shadow := none, g1 := none, g2 := none }).setChamber 0).logEv 0x9004 0 0).ok := by
  simp [cmdSetAbort, hlen, htarget, hstaging]

/-- Refutes O58 in its clause `shadowDiscarded`: SET_ABORT in `replayClock`, whose log's clock stamps SET_ABORTED where the clause has the present
device time. -/
theorem not_custodyCommands : ¬ Obligations.CustodyCommands := by
  unfold Obligations.CustodyCommands
  rintro ⟨-, -, -, -, -, hdiscarded, -⟩
  have hready := replayClock_ready_abort
  have hstaging : replayClock.chamber = 1 := by decide
  have hcmd := cmdSetAbort_staging (q := false) (p := abortPacket) rfl rfl ((replayClock.packetTaken_chamber 0x0604 abortPacket).trans hstaging)
  obtain ⟨t, ht, hstate, -⟩ := hdiscarded replayClock false abortPacket hready rfl rfl
  obtain ⟨-, -, hlogs, -⟩ := hstate (by decide) (by decide)
  have hlog : t.log = ((((replayClock.packetTaken 0x0604 abortPacket).modCust fun c => { c with shadow := none, g1 := none, g2 := none }).setChamber
      0).logEv 0x9004 0 0).log := by
    rw [State.goes_done.mp ht, State.left_log, State.submit_log_of_ok hready (hcmd ▸ rfl), hcmd]
    rfl
  have hstamp : t.log.queue.map (·.1.dev) = [1] := by
    rw [hlog, State.logEv, State.logAt_stamp (by simp; rfl) (by decide) (by decide)]
    simp
    rfl
  have hclaimed : t.log.queue.map (·.1.dev) = [0] := by
    rw [hlogs]
    exact State.logAt_stamp rfl (by decide) (by decide) _ _ _
  exact absurd (hstamp.symm.trans hclaimed) (by decide)

/-! ### The event of a NAND block that is replaced (R625) -/

theorem State.spareRegs_log (s : State) : s.spareRegs.log = s.log := rfl

/-- A sound block with a spare left is replaced, with NAND_BLOCK_RETIRED. -/
theorem State.nandRetired_spare {s : State} {blk : Nat} (hsound : s.nv.bist.nandBad.contains blk = false) (hspare : 0 < s.nv.bist.nandSpare) :
    s.nandRetired blk = ((((s.modBistNv fun n => { n with nandBad := blk :: n.nandBad, nandRetired := n.nandRetired + 1 }).modBistNv fun n =>
      { n with nandSpare := n.nandSpare - 1 }).spareRegs).logEv 0xA005 blk (s.nv.bist.nandSpare - 1)) := by
  rw [State.nandRetired, if_neg (by simpa using hsound)]
  dsimp only
  rw [if_pos (by exact hspare)]
  rfl

/-- Refutes O42 in its clause `nandBlockReplaced`: NAND_BLOCK_RETIRED of block 0 in `clockedUnit`, whose log's clock stamps the event where the
clause has the present device time. -/
theorem not_memoryErrors : ¬ Obligations.MemoryErrors := by
  unfold Obligations.MemoryErrors
  rintro ⟨-, -, hreplaced, -⟩
  have hclocked := clockedUnit_clocked {}
  have hup := clockedUnit_up {}
  obtain ⟨t, ht, -, -, -, hlogs, -⟩ := hreplaced (clockedUnit {}) 0 hup (by decide) (by decide)
  have hlog : t.log = ((clockedUnit {}).nandRetired (0 : Fin 16384).val).log := by
    rw [State.goes_done.mp ht, State.left_log, State.live_of_up hup]
  rw [State.nandRetired_spare (by decide) (by decide)] at hlog
  refine hclocked.not_logs (hclocked.of_eq ?_ ?_) (by decide) (by decide) hlog ?_ hlogs
  · exact State.spareRegs_log _
  · simp
  · rw [clockedUnit_now]
    decide

/-! ### An age of zero raises no vector, a threshold does (R601) -/

/-- A running unit whose berth 2 holds one message and is armed, with a threshold of one message and HOLDOFF off. -/
def countedBerth : State :=
  { (clockedUnit {}).wr HOST_BERTH_IRQ.THRESH 1 2 with host := { msgs := [(2, [{ pos := 0, len := 8, at' := 0 }])], armed := [(2, true)] } }

/-- Refutes O51 in its clause `holdoffSilent`: BERTH_IRQ_HOLDOFF of berth 2 in `countedBerth`. With HOLDOFF off the model still evaluates the
rule for a threshold that the host has lowered, and the message count that stands at the threshold disarms the berth; the clause has
nothing happen but the passing of time. -/
theorem not_berths : ¬ Obligations.Berths := by
  unfold Obligations.Berths
  rintro ⟨-, -, -, -, -, -, -, -, -, hsilent, -⟩
  have hup : countedBerth.up = true := rfl
  obtain ⟨t, ht, hparts, -⟩ := hsilent countedBerth 2 hup (.inr (.inl (by decide)))
  have hhost := congrArg HostSt.armed (hparts .host (by decide))
  have hkept : t.host.armed = countedBerth.host.armed := hhost
  have hdisarmed : tget false (countedBerth.berthHoldoff 2).host.armed 2 = false := by decide
  rw [State.goes_done.mp ht, State.left_host, State.live_of_up hup] at hkept
  exact absurd (hdisarmed.symm.trans (congrArg (tget false · 2) hkept)) (by decide)

/-! ### A reset makes the queued entries durable (R652) -/

/-- A running unit with an entry queued. -/
def queuedUnit : State := { clockedUnit {} with log := { queue := [(⟨0, 0, 0, 0, 0, 0, 0, 0⟩, 0)] } }

/-- Refutes O11 in its clause `resetHolds`: RST_N_LOW in `queuedUnit`. The clause has the log's durable part stay as it is; the model notes in
it that an entry has been queued, since the queued entries become durable. -/
theorem not_resets : ¬ Obligations.Resets := by
  unfold Obligations.Resets
  rintro ⟨-, hholds, -⟩
  obtain ⟨t, ht, -, -, -, -, -, ⟨hlog, -⟩, -⟩ := hholds queuedUnit .rstNLow 1 rfl (by decide)
  rw [State.goes_done.mp ht] at hlog
  exact absurd (congrArg LogNv.begun hlog) (by decide)

end Sys2Proof.Machine

namespace Sys2Proof.Machine
open Reg

/-! ### A NOR operation in progress outlasts the TAP (R689) -/

theorem State.norAccess_busy {s : State} {x : NorOp} (h : s.nv.nor.busy = some x) (w : Nat) : (s.norAccess w).nv.nor.busy = some x := by
  unfold State.norAccess
  dsimp only
  split
  · exact h
  · rw [if_pos (by simp [h])]
    exact h

theorem State.tapUpdate_busy {s : State} {x : NorOp} (h : s.nv.nor.busy = some x) : s.tapUpdate.nv.nor.busy = some x := by
  unfold State.tapUpdate
  dsimp only
  split
  · exact h
  · split
    · exact State.norAccess_busy h _
    · exact h

theorem State.tapFall_busy {s : State} {x : NorOp} (h : s.nv.nor.busy = some x) : s.tapFall.nv.nor.busy = some x := by
  unfold State.tapFall
  split
  · exact State.tapUpdate_busy h
  all_goals exact h

theorem State.tapCapture_nv (s : State) : s.tapCapture.nv = s.nv := by
  unfold State.tapCapture
  dsimp only
  repeat' split
  all_goals rfl

theorem State.tapRise_nv (s : State) (c : TapClk) : (s.tapRise c).nv = s.nv := by
  unfold State.tapRise
  dsimp only
  split
  · exact s.tapCapture_nv
  all_goals rfl

/-- No cycle of TCK ends or replaces an operation in progress. -/
theorem State.tapClock_busy {s : State} {x : NorOp} (h : s.nv.nor.busy = some x) (c : TapClk) : (s.tapClock c).nv.nor.busy = some x := by
  unfold State.tapClock
  split
  · exact h
  · exact State.tapFall_busy (by rw [State.tapRise_nv]; exact h)

theorem State.tapClocks_cons (s : State) (c : TapClk) (l : List TapClk) : s.tapClocks (c :: l) = (s.tapClock c).tapClocks l := rfl

theorem State.tapClocks_busy {s : State} {x : NorOp} (h : s.nv.nor.busy = some x) (l : List TapClk) :
    (s.tapClocks l).nv.nor.busy = some x := by
  induction l generalizing s with
  | nil => exact h
  | cons c l ih => exact ih (State.tapClock_busy h c)

/-- The cycles that pass a word begin with one of TMS high. -/
theorem norWord_cons (w : BitVec 64) : ∃ l, norWord w = ⟨true, true, false⟩ :: l := by
  unfold norWord tapSelect
  exact ⟨_, rfl⟩

/-- The part under RST_N low, with the TAP in Exit1-DR under NOR_ACCESS and a read of address 0 shifted in. -/
def shiftedRead : State :=
  { State.reset with pwr := { rstN := true }, tap := { state := .exit1Dr, ir := 0x40, dr := bitsLsb 64 (2 ^ 56) } }

/-- Refutes O15 in its clause `norStarts`: NOR_ACCESS of a read of address 1 in `shiftedRead`. The first of the five cycles with TMS high, by
which the board brings the TAP to a known state, is the Update-DR of the word that stands in the data register, which starts its own
operation; the clause's operation then finds the NOR busy. -/
theorem not_norPort : ¬ Obligations.NorPort := by
  unfold Obligations.NorPort
  rintro ⟨hstarts, -⟩
  obtain ⟨t, ht, hnor, -⟩ := hstarts shiftedRead (BitVec.ofNat 64 (2 ^ 56 + 2 ^ 32)) rfl rfl (by decide +kernel) (by decide +kernel)
  have hfirst : (shiftedRead.tapClock ⟨true, true, false⟩).nv.nor.busy = some ⟨1, 0, 0⟩ := by decide +kernel
  have hbusy : t.nv.nor.busy = some ⟨1, 0, 0⟩ := by
    obtain ⟨l, hl⟩ := norWord_cons (BitVec.ofNat 64 (2 ^ 56 + 2 ^ 32))
    rw [State.goes_done.mp ht, State.left_nv, hl, State.tapClocks_cons]
    exact State.tapClocks_busy hfirst _
  rw [hnor] at hbusy
  exact absurd hbusy (by decide +kernel)

end Sys2Proof.Machine

namespace Sys2Proof.Machine
open Reg

/-! ### A step and its front command -/

/-- Settles O1: that is how a step is defined. -/
theorem stepRunsFrontCommand : Obligations.StepRunsFrontCommand := fun s c rest h => by
  unfold step
  rw [h]

/-! ### Claim words (R501) -/

/-- The difference of two epochs decides, and at 0 and 64 the rank of the first. -/
theorem claimHigher_iff (x y : Nat) : claimHigher x y = true ↔
    (1 ≤ (x / 2 + 128 - y / 2 % 128) % 128 ∧ (x / 2 + 128 - y / 2 % 128) % 128 ≤ 63)
      ∨ (((x / 2 + 128 - y / 2 % 128) % 128 = 0 ∨ (x / 2 + 128 - y / 2 % 128) % 128 = 64) ∧ x % 2 = 1) := by
  simp [claimHigher]

/-- Settles O21: the order is that of the difference of the epochs, which for two words in either order lies on opposite sides of 0 and 64, or on
one of them together, where the ranks decide. -/
theorem claimOrder : Obligations.ClaimOrder := by
  refine ⟨fun eX eY rX rY hX hY hrX hrY => ?_, fun x y hx hy hrank => ?_⟩
  · have heX : (2 * eX + rX) / 2 = eX := by omega
    have heY : (2 * eY + rY) / 2 % 128 = eY := by omega
    have hr : (2 * eX + rX) % 2 = rX := by omega
    rw [claimHigher_iff, heX, heY, hr]
  · have hxy := claimHigher_iff x y
    have hyx := claimHigher_iff y x
    have hiff : claimHigher x y = true ↔ ¬ claimHigher y x = true := by
      rw [hxy, hyx]
      omega
    cases hy' : claimHigher y x <;> simp_all

/-! ### Raising an entry (R473, R475, R476, R479, R480) -/

/-- An entry that finds a place is queued, and is not counted as suppressed. -/
theorem State.enqueue_of_takes {s : State} {e : LogEntry} (h : s.queueTakes e.code = true) :
    (s.enqueue e).log = { s.log with queue := s.log.queue ++ [(e, s.grid.now)] }
      ∧ (s.enqueue e).rd EVT_SUPP_CNT.VALUE = s.rd EVT_SUPP_CNT.VALUE := by
  simp only [State.enqueue, h, if_true]
  refine ⟨rfl, (State.raiseTo_rd _ _ _ _ _ _ _ _ (by decide)).trans ?_⟩
  split
  · exact State.rd_wr_other s EVT_SUPP_CNT.VALUE EVT_STATUS.QFULL 1 0 0 0 0 (by decide)
  · rfl

theorem State.bump_supp (s : State) : (s.bump EVT_SUPP_CNT.VALUE).rd EVT_SUPP_CNT.VALUE = min (s.rd EVT_SUPP_CNT.VALUE + 1) (2 ^ 32 - 1) :=
  State.rd_bump_same s _ _ _ _ (by decide) (by decide)

/-- An entry that finds no place is counted as suppressed, under its code and in the register. -/
theorem State.enqueue_of_full {s : State} {e : LogEntry} (h : s.queueTakes e.code = false) :
    (s.enqueue e).log = { s.log with
        buckets := tset s.log.buckets e.code { tget {} s.log.buckets e.code with supp := (tget {} s.log.buckets e.code).supp + 1 } }
      ∧ (s.enqueue e).rd EVT_SUPP_CNT.VALUE = min (s.rd EVT_SUPP_CNT.VALUE + 1) (2 ^ 32 - 1) := by
  simp only [State.enqueue, h, Bool.false_eq_true, if_false]
  refine ⟨rfl, (State.bump_supp _).trans ?_⟩
  split
  · exact congrArg (fun n => min (n + 1) _) (State.rd_wr_other s EVT_SUPP_CNT.VALUE EVT_STATUS.QFULL 1 0 0 0 0 (by decide))
  · rfl

/-- A part of the queue that takes no entry is full, which QFULL shows. -/
theorem State.enqueue_qfull {s : State} {e : LogEntry} (h : s.queueTakes e.code = false) : (s.enqueue e).rd EVT_STATUS.QFULL = 1 := by
  have hpart : s.partFull e.code = true := by
    simp only [State.queueTakes, State.partFull, State.reserveFull] at h ⊢
    split at h <;> simp_all
  simp only [State.enqueue, h, hpart, Bool.false_eq_true, if_false, if_true]
  exact (State.rd_bump_other _ _ EVT_SUPP_CNT.VALUE _ _ _ _ _ (by decide)).trans (State.rd_wr_same s EVT_STATUS.QFULL 1 0 0 (by decide) (by decide))

theorem State.raiseEntry_exempt {s : State} {e : LogEntry} (h : exempt e.code = true) : s.raiseEntry e = s.enqueue e := if_pos h

/-- The bucket's level once an occurrence has added its tokens, and the later of the two stamps (R475). -/
theorem Bucket.fill_eq (b : Bucket) (rate burst t : Nat) : b.fill rate burst t =
    (if b.last < t then min (burst * 1000000) (b.lvl.getD (burst * 1000000) + rate * ((t - b.last) / 250)) else b.lvl.getD (burst * 1000000),
      max b.last t) := by
  unfold Bucket.fill
  dsimp only
  split
  · rw [Nat.max_eq_right (by omega)]
  · rw [Nat.max_eq_left (by omega)]

section
variable {s : State} {e : LogEntry} {lvl last : Nat}

/-- The state once the bucket of a code has been charged for an occurrence. -/
def State.charged (s : State) (code : Nat) (b : Bucket) : State := s.modLog fun l => { l with buckets := tset l.buckets code b }

variable (hlimited : exempt e.code = false)
  (hfill : (tget {} s.log.buckets e.code).fill (s.rd EVT_RATE.RATE (e.code / 4096) (e.code % 4096))
    (s.rd EVT_RATE.BURST (e.code / 4096) (e.code % 4096)) e.dev = (lvl, last))
include hlimited hfill

/-- With a token in its bucket an event takes it and goes to the queue. -/
theorem State.raiseEntry_of_token (h : 1000000 ≤ lvl) :
    s.raiseEntry e = (s.charged e.code { tget {} s.log.buckets e.code with lvl := some (lvl - 1000000), last := last }).enqueue e := by
  simp only [State.raiseEntry, hlimited, hfill, Bool.false_eq_true, if_false, if_pos h]
  rfl

/-- Without one it is counted as suppressed. -/
theorem State.raiseEntry_of_no_token (h : lvl < 1000000) :
    s.raiseEntry e = (s.charged e.code { lvl := some lvl, last := last, supp := (tget {} s.log.buckets e.code).supp + 1 }).bump
      EVT_SUPP_CNT.VALUE := by
  simp only [State.raiseEntry, hlimited, hfill, Bool.false_eq_true, if_false, if_neg (Nat.not_le.mpr h)]
  rfl

end

/-! ### An event and the rest of the part (R471, R480) -/

/-- A fault is a device condition too, which shows neither in the log nor in the count of suppressed occurrences. -/
theorem State.logAt_shows (s : State) (dev code src val : Nat) :
    (s.logAt dev code src val).log = (s.raiseEntry (s.entryOf dev code src val)).log
      ∧ (s.logAt dev code src val).rd EVT_SUPP_CNT.VALUE = (s.raiseEntry (s.entryOf dev code src val)).rd EVT_SUPP_CNT.VALUE := by
  unfold State.logAt
  dsimp only
  split
  · exact ⟨State.cause_log _ _, State.cause_rd _ _ _ _ _ (by decide) (by decide)⟩
  · exact ⟨rfl, rfl⟩

theorem ne_fault_of_exempt {code : Nat} (h : exempt code = true) : code ≠ 0x0006 := by
  rintro rfl
  exact absurd h (by decide)

section
variable {s t : State} {parts : List Part} {keys : List Nat}

theorem State.Frame.modLog (h : s.Frame t parts keys) (hlog : Part.log ∈ parts) (f : LogSt → LogSt) : s.Frame (t.modLog f) parts keys := by
  refine ⟨fun p hp => ?_, h.2⟩
  have hsame := h.1 p hp
  cases p with
  | log => contradiction
  | _ => exact hsame

theorem State.Frame.enqueue (h : s.Frame t parts keys) (hlog : Part.log ∈ parts) (hkeys : logKeys ⊆ keys) (e : LogEntry) :
    s.Frame (t.enqueue e) parts keys := by
  have hfull : s.Frame (if t.partFull e.code then t.wr EVT_STATUS.QFULL 1 else t) parts keys := by
    split
    · exact h.wr (hkeys (by simp [logKeys]))
    · exact h
  unfold State.enqueue
  dsimp only
  split
  · exact (hfull.modLog hlog fun _ => _).wr (hkeys (by simp [logKeys]))
  · exact (hfull.modLog hlog fun _ => _).bump (hkeys (by simp [logKeys]))

theorem State.Frame.raiseEntry (h : s.Frame t parts keys) (hlog : Part.log ∈ parts) (hkeys : logKeys ⊆ keys) (e : LogEntry) :
    s.Frame (t.raiseEntry e) parts keys := by
  simp only [State.raiseEntry]
  repeat' split
  · exact h.enqueue hlog hkeys e
  · exact (h.modLog hlog fun _ => _).enqueue hlog hkeys e
  · exact (h.modLog hlog fun _ => _).bump (hkeys (by simp [logKeys]))

/-- An event that is no fault leaves everything but the log and the registers in which the queue counts. -/
theorem State.Frame.logAt (h : s.Frame t parts keys) (hlog : Part.log ∈ parts) (hkeys : logKeys ⊆ keys) {code : Nat} (hcode : code ≠ 0x0006)
    (dev src val : Nat) : s.Frame (t.logAt dev code src val) parts keys := by
  rw [State.logAt_eq _ _ _ _ _ hcode]
  exact h.raiseEntry hlog hkeys _

end

/-! ### Buckets and queue: the obligations -/

theorem State.logRegs_log (s : State) : s.logRegs.log = s.log := rfl

/-- An exempt event raised with nothing queued leaves the buckets. -/
theorem State.logEv_buckets {s : State} {code : Nat} (hexempt : exempt code = true) (hempty : s.log.queue = []) (src val : Nat) :
    (s.logEv code src val).log.buckets = s.log.buckets := by
  rw [State.logEv, (s.logAt_shows ..).1, State.raiseEntry_exempt hexempt, (State.enqueue_of_takes (State.queueTakes_of_empty hempty _)).1]

theorem bucketsStartFull : Claim.bucketsStartFull := fun s torn => by
  unfold State.logStart
  dsimp only
  split
  · exact State.logEv_buckets (by decide) (by simp [State.logRegs_log]) 0 1
  · simp [State.logRegs_log]

theorem bucketGovernsEvent : Claim.bucketGovernsEvent := by
  intro s dev code src val hlimited b burst old lvl t
  obtain ⟨hlog, hsupp⟩ := s.logAt_shows dev code src val
  have hfill : b.fill (s.rd EVT_RATE.RATE (code / 4096) (code % 4096)) (s.rd EVT_RATE.BURST (code / 4096) (code % 4096)) dev
      = (lvl, max b.last dev) := Bucket.fill_eq ..
  refine ⟨fun htoken htakes => ?_, fun hno => ?_⟩
  · have hraise := State.raiseEntry_of_token (e := s.entryOf dev code src val) hlimited hfill htoken
    obtain ⟨hqueue, hcount⟩ := State.enqueue_of_takes (e := s.entryOf dev code src val)
      (s := s.charged code { b with lvl := some (lvl - 1000000), last := max b.last dev }) htakes
    exact ⟨hlog.trans ((congrArg State.log hraise).trans hqueue), hsupp.trans ((congrArg (State.rd · EVT_SUPP_CNT.VALUE) hraise).trans hcount)⟩
  · have hraise := State.raiseEntry_of_no_token (e := s.entryOf dev code src val) hlimited hfill hno
    exact ⟨hlog.trans (congrArg State.log hraise),
      hsupp.trans ((congrArg (State.rd · EVT_SUPP_CNT.VALUE) hraise).trans (State.bump_supp _))⟩

/-- Settles O8: an event that is not exempt goes by the level of its code's bucket once the time since its last occurrence is added. -/
theorem tokenBuckets : Obligations.TokenBuckets := ⟨bucketsStartFull, bucketGovernsEvent⟩

theorem exemptEventQueued : Claim.exemptEventQueued := by
  intro s dev code src val hexempt htakes
  obtain ⟨hlog, hsupp⟩ := s.logAt_shows dev code src val
  rw [State.raiseEntry_exempt hexempt] at hlog hsupp
  obtain ⟨hqueue, hcount⟩ := State.enqueue_of_takes (e := s.entryOf dev code src val) htakes
  exact ⟨hlog.trans hqueue, hsupp.trans hcount⟩

theorem fullQueueDrops : Claim.fullQueueDrops := by
  intro s dev code src val hexempt hfull
  have hraise : s.logAt dev code src val = s.enqueue (s.entryOf dev code src val) :=
    (State.logAt_eq _ _ _ _ _ (ne_fault_of_exempt hexempt)).trans (State.raiseEntry_exempt hexempt)
  obtain ⟨hlog, hcount⟩ := State.enqueue_of_full (e := s.entryOf dev code src val) hfull
  dsimp only
  rw [hraise, hlog]
  exact ⟨rfl, congrArg Bucket.supp (tget_tset_same ..), hcount, State.enqueue_qfull hfull⟩

theorem eventChangesLogOnly : Claim.eventChangesLogOnly := by
  intro s dev code src val hcode
  have hframe := (State.Frame.refl s [.log] logKeys).logAt (by simp) (List.Subset.refl _) hcode dev src val
  exact ⟨fun p hp => hframe.1 p (by simpa using hp), hframe.2, s.logAt_pending .., s.logAt_pads ..⟩

/-- Settles O9: an exempt code goes to the queue past the buckets, and raising an entry touches the log and the queue's registers alone. -/
theorem eventQueue : Obligations.EventQueue := ⟨exemptEventQueued, fullQueueDrops, eventChangesLogOnly⟩

end Sys2Proof.Machine

namespace Sys2Proof.Machine
open Reg

/-! ### An event and the host interface (R471, R579) -/

/-- The log does not look at the host interface. -/
theorem State.enqueue_modHost (s : State) (f : HostSt → HostSt) (e : LogEntry) : (s.modHost f).enqueue e = (s.enqueue e).modHost f := by
  have hpart : (s.modHost f).partFull e.code = s.partFull e.code := rfl
  have htakes : (s.modHost f).queueTakes e.code = s.queueTakes e.code := rfl
  unfold State.enqueue
  rw [hpart, htakes]
  cases s.partFull e.code <;> cases s.queueTakes e.code <;> rfl

theorem State.raiseEntry_modHost (s : State) (f : HostSt → HostSt) (e : LogEntry) :
    (s.modHost f).raiseEntry e = (s.raiseEntry e).modHost f := by
  cases hexempt : exempt e.code with
  | true => rw [State.raiseEntry_exempt hexempt, State.raiseEntry_exempt hexempt, State.enqueue_modHost]
  | false =>
    cases hfill : (tget {} s.log.buckets e.code).fill (s.rd EVT_RATE.RATE (e.code / 4096) (e.code % 4096))
        (s.rd EVT_RATE.BURST (e.code / 4096) (e.code % 4096)) e.dev with
    | mk lvl last =>
      rcases Nat.lt_or_ge lvl 1000000 with hno | htoken
      · rw [State.raiseEntry_of_no_token hexempt hfill hno, State.raiseEntry_of_no_token (s := s.modHost f) hexempt hfill hno]
        rfl
      · rw [State.raiseEntry_of_token hexempt hfill htoken, State.raiseEntry_of_token (s := s.modHost f) hexempt hfill htoken,
          ← State.enqueue_modHost]
        rfl

theorem State.logAt_modHost (s : State) (f : HostSt → HostSt) {code : Nat} (hcode : code ≠ 0x0006) (dev src val : Nat) :
    (s.modHost f).logAt dev code src val = (s.logAt dev code src val).modHost f := by
  rw [State.logAt_eq _ _ _ _ _ hcode, State.logAt_eq _ _ _ _ _ hcode, ← State.raiseEntry_modHost]
  rfl

/-- A second's drops of the berths, each logged with its count (R579). -/
def State.dropsToLog (s : State) (dev : Nat) (l : Tab Nat) : State := l.foldl (fun u x => u.logAt dev 0xB002 x.1 x.2) s

theorem State.dropsToLog_modHost (s : State) (f : HostSt → HostSt) (dev : Nat) (l : Tab Nat) :
    (s.modHost f).dropsToLog dev l = (s.dropsToLog dev l).modHost f := by
  induction l generalizing s with
  | nil => rfl
  | cons x l ih =>
    have hx := s.logAt_modHost f (code := 0xB002) (by decide) dev x.1 x.2
    exact (congrArg (State.dropsToLog · dev l) hx).trans (ih _)

theorem State.Frame.dropsToLog {s t : State} {parts : List Part} {keys : List Nat} (h : s.Frame t parts keys) (hlog : Part.log ∈ parts)
    (hkeys : logKeys ⊆ keys) (dev : Nat) (l : Tab Nat) : s.Frame (t.dropsToLog dev l) parts keys := by
  induction l generalizing t with
  | nil => exact h
  | cons x l ih => exact ih (h.logAt hlog hkeys (by decide) dev x.1 x.2)

/-- A berth without drops in the second is passed over. -/
theorem forL_unless_zero {σ : Type} (f : Nat × Nat → σ → σ) (l : Tab Nat) (s : σ) :
    forL l (fun x s => if x.2 = 0 then s else f x s) s = (l.filter fun x => x.2 != 0).foldl (fun u x => f x u) s := by
  induction l generalizing s with
  | nil => rfl
  | cons x l ih =>
    by_cases hx : x.2 = 0
    · rw [List.filter_cons_of_neg (by simp [hx]), ← ih]
      simp [forL, hx]
    · rw [List.filter_cons_of_pos (by simp [hx]), List.foldl_cons, ← ih]
      simp [forL, hx]

theorem State.berthOverflow_eq (s : State) : s.berthOverflow =
    ((s.atTime (s.nextSecond s.host.sec * second)).dropsToLog (s.nextSecond s.host.sec * second) (s.host.secDrops.filter fun x => x.2 != 0)).modHost
      fun h => { h with sec := s.nextSecond s.host.sec, secDrops := [] } := by
  rw [← State.dropsToLog_modHost]
  exact forL_unless_zero (fun x (u : State) => u.logAt _ 0xB002 x.1 x.2) ..

theorem State.dropsToLog_grid (s : State) (dev : Nat) (l : Tab Nat) : (s.dropsToLog dev l).grid = s.grid := by
  induction l generalizing s with
  | nil => rfl
  | cons x l ih => exact (ih _).trans (s.logAt_grid ..)

theorem State.dropsToLog_host (s : State) (dev : Nat) (l : Tab Nat) : (s.dropsToLog dev l).host = s.host := by
  induction l generalizing s with
  | nil => rfl
  | cons x l ih => exact (ih _).trans (s.logAt_host _ _ _ _ (by decide))

theorem State.Frame.modHost {s t : State} {parts : List Part} {keys : List Nat} (h : s.Frame t parts keys) (hhost : Part.host ∈ parts)
    {f : HostSt → HostSt} (hmem : (f t.host).mem = t.host.mem) : s.Frame (t.modHost f) parts keys := by
  refine ⟨fun p hp => ?_, h.2⟩
  have hsame := h.1 p hp
  cases p with
  | host => contradiction
  | mem => exact hmem.trans hsame
  | _ => exact hsame

theorem State.atTime_modGrid (s : State) (n : Nat) : s.atTime n = s.modGrid fun _ => (s.atTime n).grid := by
  unfold State.atTime
  split <;> rfl

theorem State.Frame.modGrid {s t : State} {parts : List Part} {keys : List Nat} (h : s.Frame t parts keys) (hgrid : Part.grid ∈ parts)
    (f : GridSt → GridSt) : s.Frame (t.modGrid f) parts keys := by
  refine ⟨fun p hp => ?_, h.2⟩
  have hsame := h.1 p hp
  cases p with
  | grid => contradiction
  | _ => exact hsame

theorem State.Frame.atTime {s t : State} {parts : List Part} {keys : List Nat} (h : s.Frame t parts keys) (hgrid : Part.grid ∈ parts) (n : Nat) :
    s.Frame (t.atTime n) parts keys := by
  rw [State.atTime_modGrid]
  exact h.modGrid hgrid _

theorem dropsLogged : Claim.dropsLogged := by
  intro s hup
  obtain ⟨k, hk⟩ : ∃ k, k = s.nextSecond s.host.sec := ⟨_, rfl⟩
  have heq := s.berthOverflow_eq
  rw [← hk] at heq
  have hframe := (((State.Frame.refl s [.grid, .log, .host] logKeys).atTime (by simp) (k * second)).dropsToLog (by simp)
    (List.Subset.refl _) (k * second) (s.host.secDrops.filter fun x => x.2 != 0)).modHost (by simp)
    (f := fun h => { h with sec := k, secDrops := [] }) rfl
  refine ⟨s.left s.berthOverflow, congrArg s.done (State.live_of_up hup _), ?_⟩
  rw [heq, ← hk]
  refine ⟨State.left_log _ _, ?_, ?_, hframe.keeps⟩
  · simp only [State.left_host, State.modHost, State.dropsToLog_host, State.atTime_host]
  · rw [State.left_grid, State.modHost_grid, State.dropsToLog_grid, State.atTime_now]

/-- Settles O53: the second boundary logs the berths that dropped, one after the other, and clears their counts. -/
theorem berthDropsLogged : Obligations.BerthDropsLogged := dropsLogged

end Sys2Proof.Machine

namespace Sys2Proof.Machine
open Reg

/-! ### An event berth beyond the berths there are (R485) -/

/-- A running unit whose field EVT_BERTH.BERTH holds 30,592, more than its width takes, with the entry 5,000 queued: the registers of a berth of
that number would lie where the log's own registers lie. -/
def straysBerth : State :=
  let s := (State.reset.wr EVT_STATUS.READY 1).wr EVT_BERTH.EN 1
  { s with
    regs := tset s.regs (EVT_BERTH.BERTH.key 0 0) 30592, pwr := { phase := .running }, log := { queue := [(⟨0, 0, 0, 1, 0, 0, 0, 0⟩, 0)] },
    nv := { s.nv with log := { nextSeq := 5000, clearMark := 4990 } } }

/-- Refutes O10 in its clause `entryDurable`: EVT_APPEND in `straysBerth`. The entry is offered to the berth that EVT_BERTH names, and HEAD of
that berth, moved by the 40 bytes of the message, is the register EVT_NEXT_SEQ. No run brings such a value into the field, but the clause
has no such premise: it speaks of every state. -/
theorem not_eventLog : ¬ Obligations.EventLog := by
  unfold Obligations.EventLog
  rintro ⟨hdurable, -⟩
  have hup : straysBerth.up = true := by decide
  obtain ⟨t, ht, -, hseq, -⟩ := hdurable straysBerth _ _ _ hup (by decide) (by decide) rfl
  have hmoved : straysBerth.evtAppend.rd EVT_NEXT_SEQ.VALUE = 5041 := by decide +kernel
  rw [State.goes_done.mp ht, State.left_rd_of_notMem _ _ (by decide), State.live_of_up hup] at hseq
  exact absurd (hmoved.symm.trans hseq) (by decide)

end Sys2Proof.Machine

namespace Sys2Proof.Machine
open Reg

/-! ### A recorder at a swap tick, and one whose record has drained (R438, R444, R449, R463) -/

/-- A running unit whose recorder 0 is armed and has the samples up to a swap at tick 1 still to capture: that of tick 0, which is there. -/
def swapAhead : State :=
  { State.reset with
    pwr := { phase := .running }, grid := { hist := [{}], nextN := 1, trkDone := true }, rec' := { inst := [(0, { st := 2, chg := some 1 })] } }

/-- Refutes O43 in its clause `sampleCaptured`: REC_SAMPLE_CAPTURE of recorder 0 in `swapAhead`. With the sample of tick 0 the recorder has come
to the swap tick, and takes its new settings in the same step (R438, R463): its history restarts empty, where the clause has the sample
head it. -/
theorem not_recorder : ¬ Obligations.Recorder := by
  unfold Obligations.Recorder
  rintro ⟨-, -, -, -, hcaptured, -⟩
  have hup : swapAhead.up = true := by decide
  obtain ⟨h, hh⟩ : ∃ h, swapAhead.detectors.recSample 0 (swapAhead.recInst 0).next = some h :=
    Option.isSome_iff_exists.mp (by decide +kernel)
  obtain ⟨t, ht, -, ⟨y, hy, -⟩, -⟩ := hcaptured swapAhead 0 h hup (by decide) hh
  have hempty : ((swapAhead.recCapture 0).recInst 0).hist.head?.isNone = true := by decide +kernel
  have hhist : (t.recInst 0).hist = ((swapAhead.recCapture 0).recInst 0).hist := by
    rw [State.goes_done.mp ht, State.live_of_up hup, State.recInst, State.left_rec]
    rfl
  rw [← hhist] at hempty
  exact absurd (congrArg Option.isNone hy) (by simpa using hempty)

/-- REC_DISARM of recorder 0 of interface version 2, as yet without its CRC. -/
def unsignedDisarm : Packet := { tag := 0, ifver := 2, flags := 0, target := 0, params := [], crc := 0 }

/-- REC_DISARM of recorder 0 of interface version 2 (R461, R581). -/
def disarmPacket : Packet := { unsignedDisarm with crc := BitVec.ofNat 32 (unsignedDisarm.crcOf 0x0705) }

/-- A running unit in a PCIe session whose recorder 0 records, with no block of the record left to drain. -/
def drainedRecorder : State :=
  { ((State.reset.wr HOST_STATUS.NEG 1).wr HOST_STATUS.IFVER 2).wr HOST_BERTH_CFG.SIZE 3 1 with
    pwr := { phase := .running }, rec' := { inst := [(0, { st := 3, cur := some { id := 1, inst := 0, cfg := State.reset.recCfg 0 } })] } }

theorem drainedRecorder_ready : drainedRecorder.Ready false 0x0705 disarmPacket := by
  unfold State.Ready State.Takes State.Offers
  decide +kernel

/-- Refutes O59 in its clause `recordStopped`: REC_DISARM in `drainedRecorder`. The clause has the closed record wait among those that are still
to drain; one that has nothing left to drain is committed to the store at once (R449). -/
theorem not_recorderCommands : ¬ Obligations.RecorderCommands := by
  unfold Obligations.RecorderCommands
  rintro ⟨-, -, -, -, -, -, -, -, -, hstopped, -⟩
  obtain ⟨t, ht, -, -, -, ⟨y, hy, -⟩, -⟩ := hstopped drainedRecorder false disarmPacket 0 _ drainedRecorder_ready rfl rfl (by decide) (by decide) rfl
  have hcommitted : (drainedRecorder.submit false 0x0705 disarmPacket cmdRecDisarm).rec'.closing.isEmpty = true := by decide +kernel
  have hrec : t.rec' = (drainedRecorder.submit false 0x0705 disarmPacket cmdRecDisarm).rec' := by
    rw [State.goes_done.mp ht, State.left_rec]
  rw [← hrec, List.isEmpty_iff] at hcommitted
  exact absurd (hcommitted ▸ hy) (List.not_mem_nil)

end Sys2Proof.Machine

/-! ### Canonical berth SRAM and custody over the model's operations

`State.kept` is what the two invariants speak of besides the settings. An operation that writes neither keeps it as it is; one that writes the
berth SRAM keeps it where the SRAM was canonical; one that writes custody keeps its first part. -/
namespace Sys2Proof.Machine
open Reg
/-- What O5 and O6 speak of besides the settings: whether the berth SRAM is canonical, and what custody holds. -/
def State.kept (s : State) : Bool × CustNv := (Memory.wf s.host.mem, s.nv.cust)
@[simp] theorem State.kept_mk (regs bank prev nv grid log host cust afe td aux pbus eval dio bist rec' pair pwr tap pads free pending) :
    State.kept { regs, bank, prev, nv, grid, log, host, cust, afe, td, aux, pbus, eval, dio, bist, rec', pair, pwr, tap, pads, free, pending }
      = (Memory.wf host.mem, nv.cust) := rfl
theorem kept_fst (s : State) : Memory.wf s.host.mem = s.kept.1 := rfl
theorem kept_snd (s : State) : s.nv.cust = s.kept.2 := rfl
theorem State.kept_ext {s t : State} (hm : t.kept.1 = s.kept.1) (hc : t.nv.cust = s.nv.cust) : t.kept = s.kept := Prod.ext hm hc
@[simp] theorem forL_kept {α : Type} (l : List α) (f : α → State → State) (s : State) (h : ∀ a s, (f a s).kept = s.kept) :
    (forL l f s).kept = s.kept := by
  unfold forL; induction l generalizing s with
  | nil => rfl
  | cons a r ih => simp [List.foldl_cons, ih, h]
@[simp] theorem forN_kept (n : Nat) (f : Nat → State → State) (s : State) (h : ∀ a s, (f a s).kept = s.kept) :
    (forN n f s).kept = s.kept := forL_kept _ _ _ h
theorem forL_canonical {α : Type} (l : List α) (f : α → State → State) (s : State) (hs : s.kept.1 = true)
    (h : ∀ a s, s.kept.1 = true → (f a s).kept = s.kept) : (forL l f s).kept = s.kept := by
  unfold forL; induction l generalizing s with
  | nil => rfl
  | cons a r ih => rw [List.foldl_cons, ih _ (by rw [h a s hs]; exact hs), h a s hs]
@[simp] theorem ite_kept (c : Prop) [Decidable c] (a b : State) : (if c then a else b).kept = if c then a.kept else b.kept := by
  split <;> rfl
theorem State.kept_ite {c : Prop} [Decidable c] {a b : State} {x : Bool × CustNv} (ha : a.kept = x) (hb : b.kept = x) :
    (if c then a else b).kept = x := by
  split <;> assumption
@[simp] theorem State.wr_kept (s : State) (a1) (a2) (a3) (a4) : (State.wr s a1 a2 a3 a4).kept = s.kept := by
  unfold State.wr; simp [kept_fst, kept_snd]
@[simp] theorem State.wrI_kept (s : State) (a1) (a2) (a3) (a4) : (State.wrI s a1 a2 a3 a4).kept = s.kept := by unfold State.wrI; simp
@[simp] theorem State.bump_kept (s : State) (a1) (a2) (a3) (a4) : (State.bump s a1 a2 a3 a4).kept = s.kept := by unfold State.bump; simp
@[simp] theorem State.raiseTo_kept (s : State) (a1) (a2) (a3) (a4) : (State.raiseTo s a1 a2 a3 a4).kept = s.kept := by
  unfold State.raiseTo; simp
@[simp] theorem State.wr64_kept (s : State) (a1) (a2) (a3) (a4) : (State.wr64 s a1 a2 a3 a4).kept = s.kept := by unfold State.wr64; simp
@[simp] theorem State.atTime_kept (s : State) (a1) : (State.atTime s a1).kept = s.kept := by
  unfold State.atTime; split
  · exact State.kept_mk ..
  · rfl
@[simp] theorem State.fresh_kept (s : State) (a1) : (State.fresh s a1).2.kept = s.kept := by unfold State.fresh; simp [kept_fst, kept_snd]
@[simp] theorem State.modGrid_kept (s : State) (a1) : (State.modGrid s a1).kept = s.kept := by unfold State.modGrid; simp [kept_fst, kept_snd]
@[simp] theorem State.modLog_kept (s : State) (a1) : (State.modLog s a1).kept = s.kept := by unfold State.modLog; simp [kept_fst, kept_snd]
@[simp] theorem State.modHost_kept (s : State) (a1 : HostSt → HostSt) (h : ∀ x, (a1 x).mem = x.mem) : (State.modHost s a1).kept = s.kept := by
  unfold State.modHost State.kept; simp [h]
theorem State.modHost_canonical (s : State) (f : HostSt → HostSt) (hs : s.kept.1 = true)
    (h : ∀ x, Memory.wf x.mem = true → Memory.wf (f x).mem = true) : (s.modHost f).kept = s.kept :=
  State.kept_ext ((h _ hs).trans hs.symm) rfl
@[simp] theorem State.modCust_kept (s : State) (a1) : (State.modCust s a1).kept = s.kept := by unfold State.modCust; simp [kept_fst, kept_snd]
@[simp] theorem State.modAfe_kept (s : State) (a1) : (State.modAfe s a1).kept = s.kept := by unfold State.modAfe; simp [kept_fst, kept_snd]
@[simp] theorem State.modAux_kept (s : State) (a1) : (State.modAux s a1).kept = s.kept := by unfold State.modAux; simp [kept_fst, kept_snd]
@[simp] theorem State.modPbus_kept (s : State) (a1) : (State.modPbus s a1).kept = s.kept := by unfold State.modPbus; simp [kept_fst, kept_snd]
@[simp] theorem State.modNet_kept (s : State) (a1) : (State.modNet s a1).kept = s.kept := by unfold State.modNet; simp
@[simp] theorem State.modPtp_kept (s : State) (a1) : (State.modPtp s a1).kept = s.kept := by unfold State.modPtp; simp
@[simp] theorem State.modTime_kept (s : State) (a1) : (State.modTime s a1).kept = s.kept := by unfold State.modTime; simp
@[simp] theorem State.modEval_kept (s : State) (a1) : (State.modEval s a1).kept = s.kept := by unfold State.modEval; simp [kept_fst, kept_snd]
@[simp] theorem State.modDio_kept (s : State) (a1) : (State.modDio s a1).kept = s.kept := by unfold State.modDio; simp [kept_fst, kept_snd]
@[simp] theorem State.modClaim_kept (s : State) (a1) : (State.modClaim s a1).kept = s.kept := by unfold State.modClaim; simp
@[simp] theorem State.modBist_kept (s : State) (a1) : (State.modBist s a1).kept = s.kept := by unfold State.modBist; simp [kept_fst, kept_snd]
@[simp] theorem State.modBistNv_kept (s : State) (a1) : (State.modBistNv s a1).kept = s.kept := by
  unfold State.modBistNv; simp [kept_fst, kept_snd]
@[simp] theorem State.modPair_kept (s : State) (a1) : (State.modPair s a1).kept = s.kept := by unfold State.modPair; simp [kept_fst, kept_snd]
@[simp] theorem State.modRec_kept (s : State) (a1) : (State.modRec s a1).kept = s.kept := by unfold State.modRec; simp [kept_fst, kept_snd]
@[simp] theorem State.modRecNv_kept (s : State) (a1) : (State.modRecNv s a1).kept = s.kept := by
  unfold State.modRecNv; simp [kept_fst, kept_snd]
@[simp] theorem State.modPwr_kept (s : State) (a1) : (State.modPwr s a1).kept = s.kept := by unfold State.modPwr; simp [kept_fst, kept_snd]
@[simp] theorem State.modNv_kept (s : State) (a1 : Nv → Nv) (h : ∀ x, (a1 x).cust = x.cust) : (State.modNv s a1).kept = s.kept := by
  unfold State.modNv State.kept; simp [h]
@[simp] theorem State.modCustNv_kept (s : State) (a1) : (State.modCustNv s a1).kept.1 = s.kept.1 := rfl
@[simp] theorem State.modLogNv_kept (s : State) (a1) : (State.modLogNv s a1).kept = s.kept := by
  unfold State.modLogNv; simp [kept_fst, kept_snd]
@[simp] theorem State.modAfeNv_kept (s : State) (a1) : (State.modAfeNv s a1).kept = s.kept := by
  unfold State.modAfeNv; simp [kept_fst, kept_snd]
@[simp] theorem State.raiseVec_kept (s : State) (a1) : (State.raiseVec s a1).kept = s.kept := by
  unfold State.raiseVec; simp [kept_fst, kept_snd]
@[simp] theorem State.cause_kept (s : State) (a1) : (State.cause s a1).kept = s.kept := by unfold State.cause; simp
@[simp] theorem State.wrCause_kept (s : State) (a1) (a2) (a3) : (State.wrCause s a1 a2 a3).kept = s.kept := by unfold State.wrCause; simp
@[simp] theorem State.setRole_kept (s : State) (a1) : (State.setRole s a1).kept = s.kept := by unfold State.setRole; simp
@[simp] theorem State.enqueue_kept (s : State) (a1) : (State.enqueue s a1).kept = s.kept := by unfold State.enqueue; simp [kept_fst, kept_snd]
@[simp] theorem State.raiseEntry_kept (s : State) (a1) : (State.raiseEntry s a1).kept = s.kept := by
  unfold State.raiseEntry; simp [kept_fst, kept_snd]
@[simp] theorem State.logAt_kept (s : State) (a1) (a2) (a3) (a4) : (State.logAt s a1 a2 a3 a4).kept = s.kept := by
  unfold State.logAt; simp [kept_fst, kept_snd]
@[simp] theorem State.logEv_kept (s : State) (a1) (a2) (a3) : (State.logEv s a1 a2 a3).kept = s.kept := by unfold State.logEv; simp
@[simp] theorem State.setMsgs_kept (s : State) (a1) (a2) : (State.setMsgs s a1 a2).kept = s.kept := by
  unfold State.setMsgs; simp [kept_fst, kept_snd]
@[simp] theorem State.berthIrq_kept (s : State) (a1) : (State.berthIrq s a1).kept = s.kept := by
  unfold State.berthIrq; dsimp only; (repeat' split) <;> simp [kept_fst, kept_snd]
@[simp] theorem State.append_kept (s : State) (a1) (a2) (h : s.kept.1 = true) : (State.append s a1 a2).kept = s.kept := by
  have hm : ∀ l, ({ s with host := { s.host with mem := ringWrite s.host.mem (s.berthBase a1) (s.berthSize a1) (s.rd HOST_BERTH_HEAD.VALUE a1) l } } :
      State).kept = s.kept := fun l => State.kept_ext ((ringWrite_wf _ _ _ _ l h).trans h.symm) rfl
  unfold State.append; dsimp only
  rw [State.berthIrq_kept, State.wr_kept, State.setMsgs_kept, hm]
@[simp] theorem State.dropOne_kept (s : State) (a1) : (State.dropOne s a1).kept = s.kept := by unfold State.dropOne; simp [kept_fst, kept_snd]
@[simp] theorem State.makeRoom_kept (s : State) (a1) (a2) (a3) : (State.makeRoom s a1 a2 a3).kept = s.kept := by
  induction a3 generalizing s with
  | zero => simp [State.makeRoom]
  | succ _ ih => simp only [State.makeRoom]; (repeat' split) <;> simp [ih]
@[simp] theorem State.putMsg_kept (s : State) (a1) (a2) (a3) (h : s.kept.1 = true) : (State.putMsg s a1 a2 a3).1.kept = s.kept := by
  unfold State.putMsg; dsimp only; (repeat' split) <;> simp [h]
@[simp] theorem State.ok_kept (s : State) (a1) : (State.ok s a1).st.kept = s.kept := by unfold State.ok; simp
@[simp] theorem State.accepted_kept (s : State) (a1) : (State.accepted s a1).st.kept = s.kept := by unfold State.accepted; simp
@[simp] theorem State.badTarget_kept (s : State) (a1) (a2) : (State.badTarget s a1 a2).st.kept = s.kept := by unfold State.badTarget; simp
@[simp] theorem State.busy_kept (s : State) (a1) (a2) : (State.busy s a1 a2).st.kept = s.kept := by unfold State.busy; simp
@[simp] theorem State.badLength_kept (s : State) : (State.badLength s).st.kept = s.kept := by unfold State.badLength; simp
@[simp] theorem State.answer_kept (s : State) (a1) (a2) : (State.answer s a1 a2).st.kept = s.kept := by unfold State.answer; simp
@[simp] theorem State.setCredits_kept (s : State) : (State.setCredits s).kept = s.kept := by unfold State.setCredits; simp
@[simp] theorem State.reply_kept (s : State) (a1) (a2) (a3) (a4) (a5) (a6) (h : s.kept.1 = true) : (State.reply s a1 a2 a3 a4 a5 a6).kept = s.kept := by
  unfold State.reply; simp [h]
@[simp] theorem State.onTick_kept (s : State) (n : Nat) (f : State → State) (h : ∀ s, (f s).kept = s.kept) : (s.onTick n f).kept = s.kept := h _
@[simp] theorem State.clockCycle_kept (s : State) : (State.clockCycle s).kept = s.kept := by
  unfold State.clockCycle; exact State.kept_mk ..
@[simp] theorem State.timeBound_kept (s : State) : (State.timeBound s).kept = s.kept := by unfold State.timeBound; simp
@[simp] theorem State.modTick_kept (s : State) (a1) (a2) : (State.modTick s a1 a2).kept = s.kept := by unfold State.modTick; simp
@[simp] theorem State.showSsw_kept (s : State) (a1) : (State.showSsw s a1).kept = s.kept := by
  unfold State.showSsw; split <;> simp
@[simp] theorem State.setSample_kept (s : State) (a1) (a2) (a3) : (State.setSample s a1 a2 a3).kept = s.kept := by
  unfold State.setSample; dsimp only; (repeat' split) <;> simp
@[simp] theorem State.applyTau_kept (s : State) (a1) (a2) (a3) : (State.applyTau s a1 a2 a3).kept = s.kept := by
  unfold State.applyTau; simp
@[simp] theorem State.setFreq_kept (s : State) (a1) : (State.setFreq s a1).kept = s.kept := by unfold State.setFreq; simp [kept_fst, kept_snd]
@[simp] theorem State.restamp_kept (s : State) (a1) : (State.restamp s a1).kept = s.kept := by
  unfold State.restamp; dsimp only; (repeat' split) <;> simp
@[simp] theorem State.takeFreq_kept (s : State) (a1) : (State.takeFreq s a1).kept = s.kept := by unfold State.takeFreq; simp
@[simp] theorem State.trackDecide_kept (s : State) (a1) (a2) (a3) : (State.trackDecide s a1 a2 a3).kept = s.kept := by
  unfold State.trackDecide; extract_lets slew fp st s1 s2 s3 g4 s4 g5 s5 s6 hm s7
  have h1 : s1.kept = s.kept := State.wr_kept ..
  have h3 : s3.kept = s.kept := by simp only [s3, s2, apply_ite State.kept, State.bump_kept, State.logAt_kept, h1, ite_self]
  have h7 : s7.kept = s.kept := by
    simp only [s7]; split
    · exact (State.wr_kept s6 _ _ _ _).trans h1
    · exact h1
  split
  · simp only [State.takeFreq_kept, State.wr_kept]; exact h3
  · split
    · simp only [State.takeFreq_kept]; exact h1
    · split
      · simp only [State.takeFreq_kept, State.wr_kept, State.bump_kept, State.logAt_kept]; exact h1
      · split <;> (simp only [State.takeFreq_kept]; exact h7)
@[simp] theorem State.trackSet_kept (s : State) (a1) : (State.trackSet s a1).kept = s.kept := by unfold State.trackSet; simp [kept_fst, kept_snd]
@[simp] theorem State.trackCycle_kept (s : State) : (State.trackCycle s).kept = s.kept := by
  unfold State.trackCycle; split <;> simp
@[simp] theorem State.setChan_kept (s : State) (a1) (a2) : (State.setChan s a1 a2).kept = s.kept := by
  unfold State.setChan; simp [kept_fst, kept_snd]
@[simp] theorem State.happen_kept (s : State) (a1) (a2) : (State.happen s a1 a2).kept = s.kept := by unfold State.happen; simp
@[simp] theorem State.chanLog_kept (s : State) (a1) (a2) (a3) (a4) : (State.chanLog s a1 a2 a3 a4).kept = s.kept := by
  unfold State.chanLog; simp
@[simp] theorem State.valWindowEnd_kept (s : State) (a1) (a2) : (State.valWindowEnd s a1 a2).kept = s.kept := by
  unfold State.valWindowEnd; simp
@[simp] theorem State.twinOnset_kept (s : State) (a1) : (State.twinOnset s a1).kept = s.kept := by unfold State.twinOnset; simp
@[simp] theorem State.twinWindowEnd_kept (s : State) (a1) (a2) : (State.twinWindowEnd s a1 a2).kept = s.kept := by
  unfold State.twinWindowEnd; simp
@[simp] theorem State.valSample_kept (s : State) (a1) (a2) (a3) (a4) : (State.valSample s a1 a2 a3 a4).kept = s.kept := by
  unfold State.valSample; simp
@[simp] theorem State.flagFrom_kept (s : State) (a1) (a2) (a3) (a4) : (State.flagFrom s a1 a2 a3 a4).kept = s.kept := by
  unfold State.flagFrom; simp
@[simp] theorem State.flagUntil_kept (s : State) (a1) (a2) (a3) : (State.flagUntil s a1 a2 a3).kept = s.kept := by
  unfold State.flagUntil; simp
@[simp] theorem State.modReset_kept (s : State) (a1) : (State.modReset s a1).kept = s.kept := by unfold State.modReset; simp
@[simp] theorem State.overload_kept (s : State) (a1) (a2) (a3) (a4) : (State.overload s a1 a2 a3 a4).kept = s.kept := by
  unfold State.overload; simp
@[simp] theorem State.splicePeriod_kept (s : State) (a1) (a2) (a3) : (State.splicePeriod s a1 a2 a3).1.kept = s.kept := by
  unfold State.splicePeriod; simp
@[simp] theorem State.spliceRestart_kept (s : State) (a1) : (State.spliceRestart s a1).kept = s.kept := by
  unfold State.spliceRestart; simp
@[simp] theorem State.holdRegs_kept (s : State) (a1) (a2) (a3) (a4) (a5) : (State.holdRegs s a1 a2 a3 a4 a5).kept = s.kept := by unfold State.holdRegs; simp
@[simp] theorem State.heldDone_kept (s : State) (a1) : (State.heldDone s a1).kept = s.kept := by
  unfold State.heldDone; dsimp only; split <;> simp
@[simp] theorem State.holdFrom_kept (s : State) (a1) (a2) (a3) (a4) (a5) : (State.holdFrom s a1 a2 a3 a4 a5).kept = s.kept := by unfold State.holdFrom; simp
@[simp] theorem State.spliceRestartAt_kept (s : State) (a1) (a2) (a3) : (State.spliceRestartAt s a1 a2 a3).kept = s.kept := by unfold State.spliceRestartAt; simp
@[simp] theorem State.chainReset_kept (s : State) (a1) : (State.chainReset s a1).kept = s.kept := by unfold State.chainReset; simp
@[simp] theorem State.storeBanks_kept (s : State) (a1) : (State.storeBanks s a1).kept = s.kept := by
  unfold State.storeBanks; simp
@[simp] theorem State.fltStatus_kept (s : State) (a1) : (State.fltStatus s a1).kept = s.kept := by unfold State.fltStatus; simp
@[simp] theorem State.swapFinished_kept (s : State) (a1) (a2) : (State.swapFinished s a1 a2).kept = s.kept := by
  unfold State.swapFinished; simp [kept_fst, kept_snd]
@[simp] theorem State.swapDropped_kept (s : State) (a1) (a2) : (State.swapDropped s a1 a2).kept = s.kept := by
  unfold State.swapDropped; simp
@[simp] theorem State.swapStart_kept (s : State) (a1) (a2) : (State.swapStart s a1 a2).kept = s.kept := by
  unfold State.swapStart; dsimp only; (repeat' split) <;> simp
@[simp] theorem State.swapDone_kept (s : State) (a1) (a2) : (State.swapDone s a1 a2).kept = s.kept := by
  unfold State.swapDone; dsimp only; (repeat' split) <;> simp
@[simp] theorem State.fadeStep_kept (s : State) (a1) (a2) : (State.fadeStep s a1 a2).kept = s.kept := by unfold State.fadeStep; simp
@[simp] theorem State.baseOut_kept (s : State) (a1) (a2) (a3) (a4) (a5) : (State.baseOut s a1 a2 a3 a4 a5).kept = s.kept := by
  unfold State.baseOut; simp
@[simp] theorem State.secondOut_kept (s : State) (a1) (a2) : (State.secondOut s a1 a2).kept = s.kept := by unfold State.secondOut; simp
@[simp] theorem State.basePend_kept (s : State) (a1) (a2) : (State.basePend s a1 a2).kept = s.kept := by unfold State.basePend; simp
@[simp] theorem State.strobesTo_kept (s : State) (c t n : Nat) : (s.strobesTo c t n).kept = s.kept := by
  induction n generalizing s with
  | zero => rfl
  | succ n ih => simp only [State.strobesTo]; (repeat' split) <;> simp [ih]
@[simp] theorem State.strobes_kept (s : State) (a1) (a2) : (State.strobes s a1 a2).kept = s.kept := by unfold State.strobes; simp
@[simp] theorem State.firStages_kept (s : State) (a1) (a2) : (State.firStages s a1 a2).kept = s.kept := by
  unfold State.firStages; dsimp only; (repeat' split) <;> simp
@[simp] theorem State.chainWord_kept (s : State) (a1) (a2) (a3) : (State.chainWord s a1 a2 a3).kept = s.kept := by
  unfold State.chainWord; simp
@[simp] theorem State.syncReset_kept (s : State) (a1) : (State.syncReset s a1).kept = s.kept := by
  unfold State.syncReset; dsimp only; (repeat' split) <;> simp
@[simp] theorem State.cancelSwaps_kept (s : State) (a1) : (State.cancelSwaps s a1).kept = s.kept := by unfold State.cancelSwaps; simp
@[simp] theorem State.normReg_kept (s : State) (a1) : (State.normReg s a1).kept = s.kept := by unfold State.normReg; simp
@[simp] theorem State.digRegs_kept (s : State) (a1) : (State.digRegs s a1).kept = s.kept := by unfold State.digRegs; simp
@[simp] theorem State.changeR_kept (s : State) (a1) (a2) (a3) : (State.changeR s a1 a2 a3).kept = s.kept := by unfold State.changeR; simp
@[simp] theorem State.chanShow_kept (s : State) (a1) (a2) : (State.chanShow s a1 a2).kept = s.kept := by unfold State.chanShow; simp
@[simp] theorem State.chanSwap_kept (s : State) (a1) : (State.chanSwap s a1).kept = s.kept := by
  unfold State.chanSwap; dsimp only; (repeat' split) <;> simp
@[simp] theorem State.chanDue_kept (s : State) (a1) : (State.chanDue s a1).kept = s.kept := by unfold State.chanDue; simp
@[simp] theorem State.onFront_kept (s : State) (c : Nat) (f : State → State) (h : ∀ s, (f s).kept = s.kept) : (s.onFront c f).kept = s.kept := by
  unfold State.onFront; extract_lets k held keys bank v w u
  have hv : v.kept = s.kept := h _
  have hu : u.kept = v.kept := State.setChan_kept _ _ _
  split
  · exact hv
  · exact hu.trans hv
@[simp] theorem State.period_kept (s : State) (a1) (a2) (a3) : (State.period s a1 a2 a3).kept = s.kept := by unfold State.period; simp
@[simp] theorem State.runFor_kept (s : State) (a0) (a1) (a2) (a3) (a4) : (State.runFor s a0 a1 a2 a3 a4).kept = s.kept := by
  induction a3 generalizing s a4 with
  | zero => rfl
  | succ n ih => simp only [State.runFor]; (repeat' split) <;> simp [ih]
@[simp] theorem State.syncPend_kept (s : State) : (State.syncPend s).kept = s.kept := by unfold State.syncPend; simp
@[simp] theorem State.runChan_kept (s : State) (a1) (a2) (a3) (a4) : (State.runChan s a1 a2 a3 a4).kept = s.kept := by
  unfold State.runChan; simp
@[simp] theorem State.badPacket_kept (s : State) (a1) (a2) : (State.badPacket s a1 a2).kept = s.kept := by unfold State.badPacket; simp
theorem State.interpretWith_kept (s : State) (f : State → Bool → Packet → CmdRes) (w : Waiting)
    (hf : ∀ s q p, s.kept.1 = true → (f s q p).st.kept.1 = true) (h : s.kept.1 = true) : (s.interpretWith f w).kept.1 = true := by
  unfold State.interpretWith; dsimp only; split <;> simp [h, hf]
@[simp] theorem State.b0Write_kept (s : State) (a1) (a2) (h : s.kept.1 = true) : (State.b0Write s a1 a2).kept = s.kept :=
  s.modHost_canonical _ h fun _ hx => ringWrite_wf _ _ _ _ _ hx
@[simp] theorem State.takeUp_kept (s : State) (a1) (a2) (a3) : (State.takeUp s a1 a2 a3).kept = s.kept := by
  induction a3 generalizing s a2 with
  | zero => simp [State.takeUp]
  | succ _ ih => simp only [State.takeUp]; (repeat' split) <;> simp [ih]
@[simp] theorem State.headWrite_kept (s : State) (a1) (a2) : (State.headWrite s a1 a2).kept = s.kept := by
  have hm : ∀ (u : State) (k : List Waiting), (u.modHost fun h => if k.length < h.waiting.length then { h with waiting := k, partialAt := none } else h).kept = u.kept :=
    fun u k => u.modHost_kept _ fun x => by split <;> rfl
  unfold State.headWrite; dsimp only; (repeat' split) <;> simp only [State.setCredits_kept, State.takeUp_kept, State.bump_kept, State.wr_kept, hm]
@[simp] theorem State.payResync_kept (s : State) (h : s.kept.1 = true) : (State.payResync s).kept = s.kept := by
  unfold State.payResync; split <;> simp [h]
@[simp] theorem State.resyncNow_kept (s : State) (h : s.kept.1 = true) : (State.resyncNow s).kept = s.kept := by unfold State.resyncNow; simp [h]
@[simp] theorem State.resyncDue_kept (s : State) (h : s.kept.1 = true) : (State.resyncDue s).kept = s.kept := by
  unfold State.resyncDue; split <;> simp [h]
@[simp] theorem State.latency_kept (s : State) : (State.latency s).kept = s.kept := by unfold State.latency; simp
theorem State.interpretAll_kept (s : State) (cmds : Nat → State → Bool → Packet → CmdRes) (n : Nat)
    (hf : ∀ o s q p, s.kept.1 = true → (cmds o s q p).st.kept.1 = true) (h : s.kept.1 = true) : (s.interpretAll cmds n).kept.1 = true := by
  induction n generalizing s with
  | zero => exact h
  | succ n ih =>
    simp only [State.interpretAll]; split
    · exact h
    · split
      · split
        · exact h
        · exact ih _ (State.interpretWith_kept _ _ _ (hf _) (by simp [h]))
      · split <;> simp [h]
@[simp] theorem State.startCal_kept (s : State) (a1) (a2) : (State.startCal s a1 a2).kept = s.kept := by unfold State.startCal; simp
@[simp] theorem cmdSelfcal_kept (s : State) (a1) (a2) : (cmdSelfcal s a1 a2).st.kept = s.kept := by
  unfold cmdSelfcal; dsimp only; (repeat' split) <;> simp [kept_fst, kept_snd]
@[simp] theorem State.procedure_kept (s : State) (a1) (a2) (a3) : (State.procedure s a1 a2 a3).kept = s.kept := by
  unfold State.procedure; simp
@[simp] theorem State.flagBetween_kept (s : State) (a1) (a2) (a3) (a4) : (State.flagBetween s a1 a2 a3 a4).kept = s.kept := by
  unfold State.flagBetween; simp
@[simp] theorem State.calChan_kept (s : State) (a1) (a2) : (State.calChan s a1 a2).kept = s.kept := by unfold State.calChan; simp
@[simp] theorem State.calGroupStart_kept (s : State) : (State.calGroupStart s).kept = s.kept := by
  unfold State.calGroupStart; (repeat' split) <;> simp
@[simp] theorem State.calCommit_kept (s : State) (a1) (a2) (a3) : (State.calCommit s a1 a2 a3).kept = s.kept := by
  unfold State.calCommit; simp
@[simp] theorem State.stepEnd_kept (s : State) (a1) : (State.stepEnd s a1).kept = s.kept := by unfold State.stepEnd; simp
@[simp] theorem State.calStepEnd_kept (s : State) : (State.calStepEnd s).kept = s.kept := by unfold State.calStepEnd; simp
@[simp] theorem State.calFinish_kept (s : State) : (State.calFinish s).kept = s.kept := by unfold State.calFinish; split <;> simp
@[simp] theorem State.unforce_kept (s : State) (a1) (a2) : (State.unforce s a1 a2).kept = s.kept := by unfold State.unforce; simp
@[simp] theorem State.calGroupDone_kept (s : State) (a1) : (State.calGroupDone s a1).kept = s.kept := by
  unfold State.calGroupDone; (repeat' split) <;> simp
theorem State.procBusy_kept (s : State) (l : List Nat) (f : State → CmdRes) (h : s.procBusy l = some f) : (f s).st.kept = s.kept := by
  unfold State.procBusy at h; repeat' split at h
  all_goals (cases h; try rfl)
@[simp] theorem cmdAfeDiag_kept (s : State) (a1) (a2) : (cmdAfeDiag s a1 a2).st.kept = s.kept := by
  unfold cmdAfeDiag; dsimp only; split
  · simp
  · split
    · simp
    · split
      · rename_i f hf; exact State.procBusy_kept s _ f hf
      · simp
@[simp] theorem State.diagDone_kept (s : State) (a1) : (State.diagDone s a1).kept = s.kept := by
  unfold State.diagDone; split
  · rfl
  · extract_lets s1 a b v s2 s3 s4 s5 k s6
    have h5 : s5.kept = s.kept := by simp [s5, s4, s3, s2, s1]
    have h6 : s6.kept = s.kept := by
      simp only [s6]; (repeat' split) <;> simp [h5]
    rw [State.logEv_kept, h6]
@[simp] theorem cmdAfeSkewcal_kept (s : State) (a1) (a2) : (cmdAfeSkewcal s a1 a2).st.kept = s.kept := by
  unfold cmdAfeSkewcal; dsimp only; split
  · simp
  · split
    · simp
    · split
      · rename_i f hf; exact State.procBusy_kept s _ f hf
      · simp
@[simp] theorem State.storeSkew_kept (s : State) : (State.storeSkew s).kept = s.kept := by unfold State.storeSkew; simp
@[simp] theorem State.skewDone_kept (s : State) (a1) : (State.skewDone s a1).kept = s.kept := by unfold State.skewDone; split <;> simp
@[simp] theorem State.tdacCtrl_kept (s : State) (a1) : (State.tdacCtrl s a1).kept = s.kept := by unfold State.tdacCtrl; simp
@[simp] theorem State.testmarkWrite_kept (s : State) (a1) (a2) : (State.testmarkWrite s a1 a2).kept = s.kept := by
  unfold State.testmarkWrite; simp
@[simp] theorem State.modConv_kept (s : State) (a1) (a2) : (State.modConv s a1 a2).kept = s.kept := by unfold State.modConv; simp
@[simp] theorem State.auxFire_kept (s : State) (a1) (a2) : (State.auxFire s a1 a2).kept = s.kept := by unfold State.auxFire; simp
@[simp] theorem State.auxTimer_kept (s : State) (a1) : (State.auxTimer s a1).kept = s.kept := by unfold State.auxTimer; simp
@[simp] theorem State.auxTick_kept (s : State) (a1) : (State.auxTick s a1).kept = s.kept := by
  unfold State.auxTick; split
  · exact State.kept_ite ((State.auxFire_kept ..).trans (State.modConv_kept ..)) rfl
  · rfl
@[simp] theorem State.auxPulse_kept (s : State) (a1) (a2) (a3) (a4) : (State.auxPulse s a1 a2 a3 a4).kept = s.kept := by
  unfold State.auxPulse; simp
@[simp] theorem State.auxTrgCfg_kept (s : State) (a1) (a2) : (State.auxTrgCfg s a1 a2).kept = s.kept := by unfold State.auxTrgCfg; simp
@[simp] theorem State.auxScanStart_kept (s : State) (a1) : (State.auxScanStart s a1).kept = s.kept := by
  unfold State.auxScanStart; dsimp only; (repeat' split) <;> simp
@[simp] theorem State.takeSlot_kept (s : State) (a1) (a2) : (State.takeSlot s a1 a2).kept = s.kept := by unfold State.takeSlot; simp
@[simp] theorem State.insertDue_kept (s : State) (a1) (a2) : (State.insertDue s a1 a2).kept = s.kept := by
  unfold State.insertDue; dsimp only; (repeat' split) <;> simp
@[simp] theorem State.scanSlot_kept (s : State) (a1) : (State.scanSlot s a1).1.kept = s.kept := by unfold State.scanSlot; simp
@[simp] theorem State.auxLimit_kept (s : State) (a1) (a2) (a3) : (State.auxLimit s a1 a2 a3).kept = s.kept := by
  unfold State.auxLimit; simp
@[simp] theorem State.auxConversion_kept (s : State) (a1) (a2) : (State.auxConversion s a1 a2).kept = s.kept := by
  unfold State.auxConversion; (repeat' split) <;> simp
@[simp] theorem State.injDrop_kept (s : State) (a1) (a2) : (State.injDrop s a1 a2).kept = s.kept := by
  unfold State.injDrop; split <;> simp
@[simp] theorem State.injCatch_kept (s : State) (a1) : (State.injCatch s a1).kept = s.kept := by unfold State.injCatch; split <;> simp
@[simp] theorem State.injRequest_kept (s : State) (a1) (a2) : (State.injRequest s a1 a2).kept = s.kept := by
  unfold State.injRequest; split <;> simp
@[simp] theorem cmdAuxInject_kept (s : State) (a1) (a2) : (cmdAuxInject s a1 a2).st.kept = s.kept := by
  unfold cmdAuxInject; dsimp only; (repeat' split) <;> simp
@[simp] theorem State.injWrite_kept (s : State) (a1) (a2) : (State.injWrite s a1 a2).kept = s.kept := by unfold State.injWrite; simp
@[simp] theorem State.auxInjConversion_kept (s : State) (a1) (a2) : (State.auxInjConversion s a1 a2).kept = s.kept := by
  unfold State.auxInjConversion; dsimp only; (repeat' split) <;> simp
@[simp] theorem State.xApply_kept (s : State) (a1) (a2) : (State.xApply s a1 a2).kept = s.kept := by unfold State.xApply; simp
@[simp] theorem State.xFrom_kept (s : State) : (State.xFrom s).kept = s.kept := by unfold State.xFrom; simp
@[simp] theorem State.xchkWrite_kept (s : State) (a1) : (State.xchkWrite s a1).kept = s.kept := by unfold State.xchkWrite; simp
@[simp] theorem State.auxXchk_kept (s : State) (a1) (a2) : (State.auxXchk s a1 a2).kept = s.kept := by unfold State.auxXchk; simp
@[simp] theorem State.scanCut_kept (s : State) (a1) : (State.scanCut s a1).kept = s.kept := by unfold State.scanCut; split <;> simp
@[simp] theorem State.auxBlock_kept (s : State) (a1) (a2) : (State.auxBlock s a1 a2).kept = s.kept := by unfold State.auxBlock; simp
@[simp] theorem State.auxCalStart_kept (s : State) : (State.auxCalStart s).kept = s.kept := by unfold State.auxCalStart; split <;> simp
@[simp] theorem State.auxCalDone_kept (s : State) (a1) (a2) : (State.auxCalDone s a1 a2).kept = s.kept := by
  unfold State.auxCalDone; (repeat' split) <;> simp
@[simp] theorem State.resultRead_kept (s : State) (a1) (a2) (a3) (a4) (a5) (a6) (a7) (a8) : (State.resultRead s a1 a2 a3 a4 a5 a6 a7 a8).1.kept = s.kept := by
  unfold State.resultRead; simp
@[simp] theorem State.auxRead_kept (s : State) (a1) (a2) : (State.auxRead s a1 a2).1.kept = s.kept := by unfold State.auxRead; simp
@[simp] theorem State.injRead_kept (s : State) (a1) : (State.injRead s a1).1.kept = s.kept := by unfold State.injRead; simp
@[simp] theorem State.logRegs_kept (s : State) : (State.logRegs s).kept = s.kept := by unfold State.logRegs; simp
@[simp] theorem State.offerEntry_kept (s : State) (a1) (h : s.kept.1 = true) : (State.offerEntry s a1).kept = s.kept := by
  unfold State.offerEntry; simp [h]
@[simp] theorem State.appendEntry_kept (s : State) (a1) (h : s.kept.1 = true) : (State.appendEntry s a1).kept = s.kept := by
  unfold State.appendEntry; simp [h]
@[simp] theorem State.evtAppend_kept (s : State) (h : s.kept.1 = true) : (State.evtAppend s).kept = s.kept := by
  unfold State.evtAppend; (repeat' split) <;> simp [h]
@[simp] theorem State.drainLog_kept (s : State) (a1) (h : s.kept.1 = true) : (State.drainLog s a1).kept = s.kept := by
  induction a1 generalizing s with
  | zero => rfl
  | succ _ ih => simp only [State.drainLog]; split <;> simp [ih, h]
@[simp] theorem State.drainAll_kept (s : State) (h : s.kept.1 = true) : (State.drainAll s).kept = s.kept := by unfold State.drainAll; simp [h]
@[simp] theorem State.evtSuppressed_kept (s : State) : (State.evtSuppressed s).kept = s.kept := by unfold State.evtSuppressed; simp
@[simp] theorem cmdEvtRead_kept (s : State) (a1) (a2) : (cmdEvtRead s a1 a2).st.kept = s.kept := by
  unfold cmdEvtRead; dsimp only; (repeat' split) <;> simp
@[simp] theorem State.logStart_kept (s : State) (a1) : (State.logStart s a1).kept = s.kept := by unfold State.logStart; simp
@[simp] theorem State.transmit_kept (s : State) : (State.transmit s).1.kept = s.kept := by unfold State.transmit; split <;> simp
@[simp] theorem State.netRx_kept (s : State) (a1) : (State.netRx s a1).1.kept = s.kept := by
  unfold State.netRx; dsimp only; (repeat' split) <;> simp
@[simp] theorem State.frameCopy_kept (s : State) (a1) (a2) (a3) (a4) (h : s.kept.1 = true) : (State.frameCopy s a1 a2 a3 a4).kept = s.kept := by
  unfold State.frameCopy
  refine forL_canonical _ _ _ h fun t u hu => ?_
  split <;> simp [hu]
@[simp] theorem cmdPbusSubscribe_kept (s : State) (a1) (a2) : (cmdPbusSubscribe s a1 a2).st.kept = s.kept := by
  unfold cmdPbusSubscribe; dsimp only; (repeat' split) <;> simp
@[simp] theorem State.autoneg_kept (s : State) (a1) (a2) : (State.autoneg s a1 a2).kept = s.kept := by
  unfold State.autoneg; dsimp only; (repeat' split) <;> simp
@[simp] theorem State.phyPoll_kept (s : State) (a1) (a2) : (State.phyPoll s a1 a2).kept = s.kept := by unfold State.phyPoll; simp
@[simp] theorem State.mdioWrite_kept (s : State) (a1) : (State.mdioWrite s a1).kept = s.kept := by unfold State.mdioWrite; simp
@[simp] theorem State.mdioDone_kept (s : State) (a1) : (State.mdioDone s a1).kept = s.kept := by unfold State.mdioDone; simp
@[simp] theorem State.hsrForward_kept (s : State) (a1) (a2) (a3) : (State.hsrForward s a1 a2 a3).kept = s.kept := by
  unfold State.hsrForward; simp
@[simp] theorem State.supSend_kept (s : State) : (State.supSend s).kept = s.kept := by unfold State.supSend; simp
@[simp] theorem State.supRx_kept (s : State) (a1) : (State.supRx s a1).kept = s.kept := by unfold State.supRx; simp
@[simp] theorem State.nodeForget_kept (s : State) : (State.nodeForget s).kept = s.kept := by unfold State.nodeForget; split <;> simp
@[simp] theorem State.setSv_kept (s : State) (a1) (a2) : (State.setSv s a1 a2).kept = s.kept := by unfold State.setSv; simp
@[simp] theorem State.svLate_kept (s : State) (a1) (a2) : (State.svLate s a1 a2).kept = s.kept := by unfold State.svLate; simp
@[simp] theorem State.svSample_kept (s : State) (a1) (a2) (a3) : (State.svSample s a1 a2 a3).kept = s.kept := by
  unfold State.svSample; dsimp only; (repeat' split) <;> simp
@[simp] theorem State.svDeliver_kept (s : State) (a1) (a2) : (State.svDeliver s a1 a2).kept = s.kept := by
  induction a2 generalizing s with
  | nil => simp [State.svDeliver]
  | cons _ _ ih => simp only [State.svDeliver]; (repeat' split) <;> simp [ih]
@[simp] theorem State.svExpire_kept (s : State) (a1) : (State.svExpire s a1).kept = s.kept := by unfold State.svExpire; split <;> simp
@[simp] theorem State.svExpireTo_kept (s : State) (a1) (a2) (a3) : (State.svExpireTo s a1 a2 a3).kept = s.kept := by
  induction a3 generalizing s with
  | zero => simp [State.svExpireTo]
  | succ _ ih => simp only [State.svExpireTo]; (repeat' split) <;> simp [ih]
@[simp] theorem State.svLost_kept (s : State) (a1) : (State.svLost s a1).kept = s.kept := by unfold State.svLost; split <;> simp
@[simp] theorem State.svLimits_kept (s : State) (a1) (a2) : (State.svLimits s a1 a2).kept = s.kept := by unfold State.svLimits; simp
@[simp] theorem State.svAsdu_kept (s : State) (a1) (a2) (a3) : (State.svAsdu s a1 a2 a3).kept = s.kept := by
  unfold State.svAsdu; dsimp only; (repeat' split) <;> simp
@[simp] theorem State.svAccept_kept (s : State) (a1) (a2) (h : s.kept.1 = true) : (State.svAccept s a1 a2).kept = s.kept := by
  unfold State.svAccept; dsimp only; split <;> (repeat' split) <;> simp [h]
@[simp] theorem State.svFrame_kept (s : State) (a1) (h : s.kept.1 = true) : (State.svFrame s a1).kept = s.kept := by
  unfold State.svFrame; dsimp only; split
  · simp
  · refine (forL_canonical _ _ _ (by simpa using h) fun k u hu => ?_).trans (State.netRx_kept ..)
    (repeat' split) <;> simp [hu]
@[simp] theorem State.busWait_kept (s : State) : (State.busWait s).kept = s.kept := by unfold State.busWait; simp
@[simp] theorem State.svDiscard_kept (s : State) : (State.svDiscard s).kept = s.kept := by unfold State.svDiscard; simp
@[simp] theorem State.setGs_kept (s : State) (a1) (a2) : (State.setGs s a1 a2).kept = s.kept := by unfold State.setGs; simp
@[simp] theorem State.wrBit_kept (s : State) (a1) (a2) (a3) : (State.wrBit s a1 a2 a3).kept = s.kept := by unfold State.wrBit; simp
@[simp] theorem State.ginUpdate_kept (s : State) (a1) : (State.ginUpdate s a1).kept = s.kept := by unfold State.ginUpdate; split <;> simp
@[simp] theorem State.ginsOf_kept (s : State) (a1) : (State.ginsOf s a1).kept = s.kept := by unfold State.ginsOf; simp
@[simp] theorem State.ginsAll_kept (s : State) : (State.ginsAll s).kept = s.kept := by unfold State.ginsAll; simp
@[simp] theorem State.gooseTal_kept (s : State) (a1) : (State.gooseTal s a1).kept = s.kept := by unfold State.gooseTal; simp
@[simp] theorem State.gsTake_kept (s : State) (a1) (a2) (a3) : (State.gsTake s a1 a2 a3).kept = s.kept := by unfold State.gsTake; simp
@[simp] theorem State.gooseFrame_kept (s : State) (a1) (h : s.kept.1 = true) : (State.gooseFrame s a1).kept = s.kept := by
  unfold State.gooseFrame; dsimp only; split
  · simp
  · refine (forL_canonical _ _ _ (by simpa using h) fun k u hu => ?_).trans (State.netRx_kept ..)
    (repeat' split) <;> simp [hu]
@[simp] theorem State.setGp_kept (s : State) (a1) (a2) : (State.setGp s a1 a2).kept = s.kept := by unfold State.setGp; simp
@[simp] theorem State.gpSend_kept (s : State) (a1) (a2) (a3) (a4) (a5) (a6) : (State.gpSend s a1 a2 a3 a4 a5 a6).kept = s.kept := by
  unfold State.gpSend; simp
@[simp] theorem State.gpChange_kept (s : State) (a1) (a2) (a3) : (State.gpChange s a1 a2 a3).kept = s.kept := by
  unfold State.gpChange; simp
@[simp] theorem State.gpRepeat_kept (s : State) (a1) : (State.gpRepeat s a1).kept = s.kept := by
  unfold State.gpRepeat; dsimp only; (repeat' split) <;> simp
@[simp] theorem State.setLocked_kept (s : State) (a1) : (State.setLocked s a1).kept = s.kept := by unfold State.setLocked; simp
@[simp] theorem State.accUpdate_kept (s : State) : (State.accUpdate s).kept = s.kept := by unfold State.accUpdate; simp
@[simp] theorem State.taiStep_kept (s : State) (a1) : (State.taiStep s a1).kept = s.kept := by unfold State.taiStep; simp
@[simp] theorem State.measure_kept (s : State) (a1) (a2) : (State.measure s a1 a2).kept = s.kept := by unfold State.measure; simp
@[simp] theorem State.useSource_kept (s : State) (a1) : (State.useSource s a1).kept = s.kept := by unfold State.useSource; simp
@[simp] theorem State.loseSource_kept (s : State) : (State.loseSource s).kept = s.kept := by unfold State.loseSource; simp
@[simp] theorem State.dropUtc_kept (s : State) : (State.dropUtc s).kept = s.kept := by unfold State.dropUtc; simp
@[simp] theorem State.setLeap_kept (s : State) (a1) : (State.setLeap s a1).kept = s.kept := by unfold State.setLeap; simp
@[simp] theorem State.ptpRegs_kept (s : State) : (State.ptpRegs s).kept = s.kept := by unfold State.ptpRegs; split <;> simp
@[simp] theorem State.ptpSlave_kept (s : State) (a1) (a2) (a3) (a4) : (State.ptpSlave s a1 a2 a3 a4).kept = s.kept := by
  unfold State.ptpSlave; split <;> simp
theorem State.ptpTakeOver_kept (s u : State) (p : Nat) (h : s.ptpTakeOver p = some u) : u.kept = s.kept := by
  unfold State.ptpTakeOver at h; rw [Option.map_eq_some_iff] at h; obtain ⟨x, -, rfl⟩ := h; simp
@[simp] theorem State.ptpPort_kept (s : State) (a1) : (State.ptpPort s a1).kept = s.kept := by
  unfold State.ptpPort; dsimp only; split
  · split <;> simp
  · split
    · simp
    · split
      · rfl
      · split
        · next u h => exact State.ptpTakeOver_kept s u _ h
        · split <;> simp
@[simp] theorem State.ptpPorts_kept (s : State) : (State.ptpPorts s).kept = s.kept := by unfold State.ptpPorts; simp
@[simp] theorem State.ptpLinkLost_kept (s : State) (a1) : (State.ptpLinkLost s a1).kept = s.kept := by
  unfold State.ptpLinkLost; split
  · rfl
  · cases h : s.ptpTakeOver a1 with
    | none => rfl
    | some u => exact State.ptpTakeOver_kept s u a1 h
@[simp] theorem State.sourceLost_kept (s : State) : (State.sourceLost s).kept = s.kept := by
  unfold State.sourceLost; split
  · extract_lets u nxt
    have hv : ∀ v, nxt = some v → v.kept = s.kept := by
      intro v h
      simp only [nxt] at h; split at h
      · rw [State.ptpTakeOver_kept u v _ h]; simp [u]
      · cases h
    clear_value nxt
    cases nxt with
    | some v => exact hv v rfl
    | none => simp +zetaDelta
  · rfl
@[simp] theorem State.hoDegrade_kept (s : State) : (State.hoDegrade s).kept = s.kept := by
  unfold State.hoDegrade; (repeat' split) <;> simp
@[simp] theorem State.srcSelect_kept (s : State) : (State.srcSelect s).kept = s.kept := by
  unfold State.srcSelect; dsimp only; (repeat' split) <;> simp
@[simp] theorem State.steer_kept (s : State) (a1) (a2) : (State.steer s a1 a2).kept = s.kept := by unfold State.steer; simp
@[simp] theorem State.ptpSync_kept (s : State) (a1) (a2) (a3) : (State.ptpSync s a1 a2 a3).kept = s.kept := by unfold State.ptpSync; simp
@[simp] theorem State.ptpAnnounce_kept (s : State) (a1) (a2) (a3) : (State.ptpAnnounce s a1 a2 a3).kept = s.kept := by
  unfold State.ptpAnnounce; (repeat' split) <;> simp
@[simp] theorem State.pdelayRx_kept (s : State) (a1) (a2) (a3) : (State.pdelayRx s a1 a2 a3).kept = s.kept := by
  unfold State.pdelayRx; dsimp only; (repeat' split) <;> simp
@[simp] theorem State.ptpSend_kept (s : State) : (State.ptpSend s).kept = s.kept := by unfold State.ptpSend; simp
@[simp] theorem State.irigFrame_kept (s : State) (a1) (a2) : (State.irigFrame s a1 a2).kept = s.kept := by
  unfold State.irigFrame; split <;> simp
@[simp] theorem State.todWrite_kept (s : State) (a1) (a2) : (State.todWrite s a1 a2).kept = s.kept := by unfold State.todWrite; simp
@[simp] theorem State.ppsEdge_kept (s : State) (a1) (a2) (a3) : (State.ppsEdge s a1 a2 a3).kept = s.kept := by unfold State.ppsEdge; simp
@[simp] theorem cmdTimeSet_kept (s : State) (a1) (a2) : (cmdTimeSet s a1 a2).st.kept = s.kept := by
  unfold cmdTimeSet; dsimp only; (repeat' split) <;> simp
@[simp] theorem State.leapWrite_kept (s : State) (a1) : (State.leapWrite s a1).kept = s.kept := by unfold State.leapWrite; simp
@[simp] theorem State.utcChange_kept (s : State) : (State.utcChange s).kept = s.kept := by unfold State.utcChange; simp
@[simp] theorem cmdFltSync_kept (s : State) (a1) (a2) : (cmdFltSync s a1 a2).st.kept = s.kept := by
  unfold cmdFltSync; dsimp only; (repeat' split) <;> simp
@[simp] theorem State.loadBank_kept (s : State) (a1) (a2) : (State.loadBank s a1 a2).kept = s.kept := by unfold State.loadBank; simp
@[simp] theorem cmdFltBankLoad_kept (s : State) (a1) (a2) : (cmdFltBankLoad s a1 a2).st.kept = s.kept := by
  unfold cmdFltBankLoad; dsimp only; (repeat' split) <;> simp
@[simp] theorem cmdFltBankSwap_kept (s : State) (a1) (a2) : (cmdFltBankSwap s a1 a2).st.kept = s.kept := by
  unfold cmdFltBankSwap; dsimp only; (repeat' split) <;> simp
@[simp] theorem State.cycleBank_kept (s : State) (a1) : (State.cycleBank s a1).kept = s.kept := by unfold State.cycleBank; simp
@[simp] theorem State.chainRegs_kept (s : State) (a1) : (State.chainRegs s a1).kept = s.kept := by unfold State.chainRegs; simp
@[simp] theorem State.restoreBanks_kept (s : State) (a1) : (State.restoreBanks s a1).kept = s.kept := by
  unfold State.restoreBanks; dsimp only; (repeat' split) <;> simp
@[simp] theorem State.tdTick_kept (s : State) (a1) (a2) : (State.tdTick s a1 a2).kept = s.kept := by
  unfold State.tdTick; dsimp only; (repeat' split) <;> simp [kept_fst, kept_snd]
@[simp] theorem State.tdRestart_kept (s : State) (a1) (a2) : (State.tdRestart s a1 a2).kept = s.kept := by
  unfold State.tdRestart; simp [kept_fst, kept_snd]
@[simp] theorem State.tdRestartAt_kept (s : State) (a1) (a2) : (State.tdRestartAt s a1 a2).kept = s.kept := by
  unfold State.tdRestartAt; simp [kept_fst, kept_snd]
@[simp] theorem State.tdStep_kept (s : State) (a1) (a2) : (State.tdStep s a1 a2).kept = s.kept := by
  unfold State.tdStep; refine (State.onTick_kept _ _ _ fun u => ?_).trans ?_
  · split
    · exact State.tdTick_kept ..
    · rfl
  · split
    · exact State.tdRestart_kept ..
    · rfl
@[simp] theorem State.tdRun_kept (s : State) (a1) (a2) (a3) : (State.tdRun s a1 a2 a3).kept = s.kept := by
  induction a3 generalizing s with
  | nil => simp [State.tdRun]
  | cons _ _ ih => simp only [State.tdRun]; (repeat' split) <;> simp [ih]
@[simp] theorem State.tdAll_kept (s : State) : (State.tdAll s).kept = s.kept := by unfold State.tdAll; simp
@[simp] theorem State.tdEvent_kept (s : State) (a1) (a2) : (State.tdEvent s a1 a2).kept = s.kept := by unfold State.tdEvent; simp
@[simp] theorem State.chanEvent_kept (s : State) (a1) (a2) (a3) : (State.chanEvent s a1 a2 a3).kept = s.kept := by
  unfold State.chanEvent; simp
@[simp] theorem State.chanUntil_kept (s : State) (a1) (a2) (a3) : (State.chanUntil s a1 a2 a3).kept = s.kept := by
  unfold State.chanUntil; simp
@[simp] theorem State.putElm_kept (s : State) (a1) (a2) (a3) (a4) : (State.putElm s a1 a2 a3 a4).kept = s.kept := by
  unfold State.putElm; simp
@[simp] theorem State.noteEv_kept (s : State) (a1) (a2) : (State.noteEv s a1 a2).kept = s.kept := by unfold State.noteEv; simp
@[simp] theorem State.elmEvents_kept (s : State) (a1) (a2) (a3) (a4) (a5) (a6) (a7) (a8) : (State.elmEvents s a1 a2 a3 a4 a5 a6 a7 a8).kept = s.kept := by
  unfold State.elmEvents; simp
@[simp] theorem State.evalOc_kept (s : State) (a1) (a2) : (State.evalOc s a1 a2).kept = s.kept := by unfold State.evalOc; split <;> simp
@[simp] theorem State.evalLevel_kept (s : State) (a1) (a2) : (State.evalLevel s a1 a2).kept = s.kept := by
  unfold State.evalLevel
  extract_lets type old inp sup sn qblk twin bad frozen kb held under0 qs best s2 all3
  have h2 : s2.kept = s.kept := by simp only [s2]; clear_value best; cases best <;> simp
  split
  · extract_lets conds st on tm1 run h1 expire tm2 hz op ph out us s3 s4 s5
    split
    · rw [State.putElm_kept, h2]
    · simp only [State.putElm_kept, State.wr_kept, s5, s4, s3]
      split <;> (try simp only [State.noteEv_kept]) <;> split <;> simp only [State.wr_kept, State.elmEvents_kept, h2]
  · rfl
@[simp] theorem State.evalTherm_kept (s : State) (a1) (a2) : (State.evalTherm s a1 a2).kept = s.kept := by
  unfold State.evalTherm; split <;> simp
@[simp] theorem State.evalHarm_kept (s : State) (a1) (a2) (a3) : (State.evalHarm s a1 a2 a3).kept = s.kept := by
  unfold State.evalHarm; split <;> simp
@[simp] theorem State.evalClp_kept (s : State) (a1) (a2) : (State.evalClp s a1 a2).kept = s.kept := by
  unfold State.evalClp; split <;> simp
@[simp] theorem State.evalBf_kept (s : State) (a1) (a2) : (State.evalBf s a1 a2).kept = s.kept := by unfold State.evalBf; split <;> simp
@[simp] theorem State.evalAr_kept (s : State) (a1) (a2) : (State.evalAr s a1 a2).kept = s.kept := by
  unfold State.evalAr; dsimp only; (repeat' split) <;> simp
@[simp] theorem State.evalSync_kept (s : State) (a1) (a2) : (State.evalSync s a1 a2).kept = s.kept := by
  unfold State.evalSync; split <;> simp
@[simp] theorem State.evalElm_kept (s : State) (a1) (a2) : (State.evalElm s a1 a2).kept = s.kept := by
  unfold State.evalElm; split <;> simp
@[simp] theorem State.evalElms_kept (s : State) (a1) : (State.evalElms s a1).kept = s.kept := by unfold State.evalElms; simp
@[simp] theorem State.evalKnot_kept (s : State) (a1) (a2) (a3) : (State.evalKnot s a1 a2 a3).kept = s.kept := by
  unfold State.evalKnot; simp
@[simp] theorem State.evalKnots_kept (s : State) (a1) : (State.evalKnots s a1).kept = s.kept := by unfold State.evalKnots; simp
@[simp] theorem State.knotStop_kept (s : State) (a1) (a2) (a3) : (State.knotStop s a1 a2 a3).kept = s.kept := by
  unfold State.knotStop; simp
@[simp] theorem State.putRow_kept (s : State) (a1) (a2) : (State.putRow s a1 a2).kept = s.kept := by unfold State.putRow; simp
@[simp] theorem State.storeLatches_kept (s : State) : (State.storeLatches s).kept = s.kept := by unfold State.storeLatches; simp
@[simp] theorem State.evalRow_kept (s : State) (a1) (a2) (a3) : (State.evalRow s a1 a2 a3).kept = s.kept := by unfold State.evalRow; simp
@[simp] theorem State.evalRows_kept (s : State) (a1) (a2) : (State.evalRows s a1 a2).kept = s.kept := by unfold State.evalRows; simp
@[simp] theorem State.tmReset_kept (s : State) (a1) : (State.tmReset s a1).kept = s.kept := by unfold State.tmReset; simp
@[simp] theorem State.tmForce_kept (s : State) (a1) (a2) : (State.tmForce s a1 a2).kept = s.kept := by unfold State.tmForce; simp
@[simp] theorem State.evalGroup_kept (s : State) (a1) (a2) (a3) : (State.evalGroup s a1 a2 a3).kept = s.kept := by
  unfold State.evalGroup; dsimp only; (repeat' split) <;> simp
@[simp] theorem State.evalBay_kept (s : State) (a1) (a2) (a3) : (State.evalBay s a1 a2 a3).kept = s.kept := by unfold State.evalBay; simp
@[simp] theorem State.keepSec_kept (s : State) (a1) (a2) : (State.keepSec s a1 a2).kept = s.kept := by unfold State.keepSec; simp
@[simp] theorem State.idleBay_kept (s : State) (a1) (a2) : (State.idleBay s a1 a2).kept = s.kept := by unfold State.idleBay; simp
@[simp] theorem State.idleRowsAt_kept (s : State) (a1) : (State.idleRowsAt s a1).kept = s.kept := by unfold State.idleRowsAt; simp
@[simp] theorem State.idleSince_kept (s : State) (a1) (a2) : (State.idleSince s a1 a2).kept = s.kept := by unfold State.idleSince; simp
@[simp] theorem State.setFp_kept (s : State) (a1) (a2) : (State.setFp s a1 a2).kept = s.kept := by unfold State.setFp; simp
@[simp] theorem State.fastSetC_kept (s : State) (a1) : (State.fastSetC s a1).kept = s.kept := by unfold State.fastSetC; simp
@[simp] theorem State.fastCoef_kept (s : State) : (State.fastCoef s).kept = s.kept := by unfold State.fastCoef; simp
@[simp] theorem State.fastTargets_kept (s : State) (a1) (a2) : (State.fastTargets s a1 a2).kept = s.kept := by
  unfold State.fastTargets; dsimp only; (repeat' split) <;> simp
theorem State.asAtStrobe_kept (s : State) (t : Nat) : (s.asAtStrobe t).kept = s.kept := by
  unfold State.asAtStrobe; split
  · exact State.kept_ite rfl rfl
  · rfl
@[simp] theorem State.fpShow_kept (s : State) (a1) (a2) : (State.fpShow s a1 a2).kept = s.kept := by unfold State.fpShow; simp
@[simp] theorem State.fastRows_kept (s : State) (a1) (a2) : (State.fastRows s a1 a2).kept = s.kept := by unfold State.fastRows; simp
@[simp] theorem State.fastEval_kept (s : State) (a1) (a2) (a3) : (State.fastEval s a1 a2 a3).kept = s.kept := by
  unfold State.fastEval; simp
@[simp] theorem State.fastDrop_kept (s : State) (a1) : (State.fastDrop s a1).kept = s.kept := by unfold State.fastDrop; simp
@[simp] theorem State.fastSample_kept (s : State) (a1) (a2) : (State.fastSample s a1 a2).kept = s.kept := by
  unfold State.fastSample; split
  · rfl
  · extract_lets u v w x y z
    have hu : u.kept = s.kept := (State.fastTargets_kept _ _ _).trans (s.asAtStrobe_kept _)
    have hy : y.kept = s.kept := by
      simp only [y]; split
      · exact (State.fastSetC_kept ..).trans ((State.fastDrop_kept ..).trans hu)
      · exact hu
    have hz : z.kept = s.kept := by
      simp only [z]; split
      · exact (State.fastEval_kept ..).trans hy
      · exact (State.fastDrop_kept ..).trans hy
    exact hz
@[simp] theorem State.fastRun_kept (s : State) (a1) (a2) (a3) (a4) : (State.fastRun s a1 a2 a3 a4).kept = s.kept := by
  induction a4 generalizing s with
  | zero => simp [State.fastRun]
  | succ _ ih => simp only [State.fastRun]; (repeat' split) <;> simp [ih]
@[simp] theorem State.fastTo_kept (s : State) (a1) (a2) : (State.fastTo s a1 a2).kept = s.kept := by unfold State.fastTo; simp
@[simp] theorem State.fastAll_kept (s : State) : (State.fastAll s).kept = s.kept := by unfold State.fastAll; simp
@[simp] theorem State.fastEvent_kept (s : State) (a1) (a2) : (State.fastEvent s a1 a2).kept = s.kept := by unfold State.fastEvent; simp
@[simp] theorem State.fastRestart_kept (s : State) (a1) (a2) : (State.fastRestart s a1 a2).kept = s.kept := by
  unfold State.fastRestart; simp
@[simp] theorem State.detectors_kept (s : State) : (State.detectors s).kept = s.kept := by unfold State.detectors; simp
@[simp] theorem State.gpForm_kept (s : State) (a1) (a2) : (State.gpForm s a1 a2).kept = s.kept := by
  induction a2 generalizing s with
  | zero => simp [State.gpForm]
  | succ _ ih => simp only [State.gpForm]; (repeat' split) <;> simp [ih]
@[simp] theorem State.goosePublish_kept (s : State) (a1) : (State.goosePublish s a1).kept = s.kept := by unfold State.goosePublish; simp
@[simp] theorem State.dioRegs_kept (s : State) : (State.dioRegs s).kept = s.kept := by unfold State.dioRegs; simp
@[simp] theorem State.drvOn_kept (s : State) (a1) : (State.drvOn s a1).kept = s.kept := by unfold State.drvOn; simp
@[simp] theorem State.drvOff_kept (s : State) (a1) : (State.drvOff s a1).kept = s.kept := by unfold State.drvOff; simp
@[simp] theorem State.settle_kept (s : State) : (State.settle s).kept = s.kept := by unfold State.settle; simp
@[simp] theorem State.diagSet_kept (s : State) (a1) (a2) (a3) : (State.diagSet s a1 a2 a3).kept = s.kept := by
  unfold State.diagSet; split <;> simp
@[simp] theorem State.diagClear_kept (s : State) (a1) (a2) : (State.diagClear s a1 a2).kept = s.kept := by
  unfold State.diagClear; split <;> simp
@[simp] theorem State.takeCommands_kept (s : State) (a1) (a2) : (State.takeCommands s a1 a2).kept = s.kept := by
  unfold State.takeCommands; simp
@[simp] theorem State.claimRegs_kept (s : State) : (State.claimRegs s).kept = s.kept := by unfold State.claimRegs; simp
@[simp] theorem State.gateEval_kept (s : State) : (State.gateEval s).kept = s.kept := by unfold State.gateEval; simp
@[simp] theorem State.inputFlags_kept (s : State) : (State.inputFlags s).kept = s.kept := by unfold State.inputFlags; simp
@[simp] theorem State.inputShow_kept (s : State) (a1) : (State.inputShow s a1).kept = s.kept := by unfold State.inputShow; simp
@[simp] theorem State.dinChange_kept (s : State) (a1) (a2) (a3) : (State.dinChange s a1 a2 a3).kept = s.kept := by
  unfold State.dinChange; simp
@[simp] theorem State.wireBreak_kept (s : State) (a1) (a2) : (State.wireBreak s a1 a2).kept = s.kept := by unfold State.wireBreak; simp
@[simp] theorem State.wireOk_kept (s : State) (a1) (a2) : (State.wireOk s a1 a2).kept = s.kept := by unfold State.wireOk; simp
@[simp] theorem State.alive_kept (s : State) : (State.alive s).kept = s.kept := by unfold State.alive; simp
@[simp] theorem State.dieReady_kept (s : State) : (State.dieReady s).kept = s.kept := by unfold State.dieReady; simp
@[simp] theorem State.dieConfigure_kept (s : State) : (State.dieConfigure s).kept = s.kept := by unfold State.dieConfigure; simp
@[simp] theorem State.dieSend_kept (s : State) (a1) : (State.dieSend s a1).kept = s.kept := by unfold State.dieSend; simp
@[simp] theorem State.swapInputs_kept (s : State) (a1) (a2) : (State.swapInputs s a1 a2).kept = s.kept := by unfold State.swapInputs; simp
@[simp] theorem State.takeConf_kept (s : State) (a1) (a2) (a3) : (State.takeConf s a1 a2 a3).kept = s.kept := by
  unfold State.takeConf; simp
@[simp] theorem State.commandRx_kept (s : State) (a1) (a2) : (State.commandRx s a1 a2).kept = s.kept := by unfold State.commandRx; simp
@[simp] theorem State.frameShow_kept (s : State) (a1) : (State.frameShow s a1).kept = s.kept := by unfold State.frameShow; simp
@[simp] theorem State.vfieldShow_kept (s : State) (a1) : (State.vfieldShow s a1).kept = s.kept := by unfold State.vfieldShow; simp
@[simp] theorem State.readbackRx_kept (s : State) (a1) (a2) (a3) : (State.readbackRx s a1 a2 a3).1.kept = s.kept := by
  unfold State.readbackRx; extract_lets s1 f s2 bk m lost s3 s4 s5 s6 s7 s8
  split
  · simp [s1]
  · split
    · simp [s2, s1]
    · have h6 : s6.kept = s.kept := by simp [s6, s5, s4, s3, s2, s1]
      have h7 : s7.kept = s.kept := by simp only [s7]; (repeat' split) <;> simp [h6]
      have h8 : s8.kept = s.kept := by simp only [s8]; (repeat' split) <;> simp [h7]
      simp [h8]
@[simp] theorem State.dieLost_kept (s : State) (a1) : (State.dieLost s a1).kept = s.kept := by unfold State.dieLost; simp
@[simp] theorem State.logicLost_kept (s : State) : (State.logicLost s).kept = s.kept := by unfold State.logicLost; simp
@[simp] theorem State.linkLost_kept (s : State) : (State.linkLost s).kept = s.kept := by
  unfold State.linkLost; dsimp only; (repeat' split) <;> simp
@[simp] theorem State.linkHold_kept (s : State) : (State.linkHold s).kept = s.kept := by unfold State.linkHold; split <;> simp
@[simp] theorem State.setUv_kept (s : State) (a1) (a2) (a3) : (State.setUv s a1 a2 a3).kept = s.kept := by unfold State.setUv; simp
@[simp] theorem State.dieReset_kept (s : State) (a1) (a2) : (State.dieReset s a1 a2).kept = s.kept := by unfold State.dieReset; simp
@[simp] theorem State.uvWarn_kept (s : State) (a1) (a2) : (State.uvWarn s a1 a2).kept = s.kept := by unfold State.uvWarn; simp
@[simp] theorem State.uvInval_kept (s : State) (a1) (a2) : (State.uvInval s a1 a2).kept = s.kept := by unfold State.uvInval; simp
@[simp] theorem State.uvDrop_kept (s : State) (a1) (a2) : (State.uvDrop s a1 a2).kept = s.kept := by unfold State.uvDrop; simp
@[simp] theorem State.uvRecover_kept (s : State) (a1) (a2) : (State.uvRecover s a1 a2).kept = s.kept := by unfold State.uvRecover; simp
@[simp] theorem State.uvInvalExit_kept (s : State) (a1) (a2) : (State.uvInvalExit s a1 a2).kept = s.kept := by
  unfold State.uvInvalExit; simp
@[simp] theorem State.uvClear_kept (s : State) (a1) (a2) : (State.uvClear s a1 a2).kept = s.kept := by unfold State.uvClear; simp
@[simp] theorem State.outOverload_kept (s : State) (a1) (a2) (a3) : (State.outOverload s a1 a2 a3).kept = s.kept := by
  unfold State.outOverload; simp
@[simp] theorem State.overloadRetry_kept (s : State) (a1) : (State.overloadRetry s a1).kept = s.kept := by
  unfold State.overloadRetry; split <;> simp
@[simp] theorem State.stuckHigh_kept (s : State) (a1) (a2) : (State.stuckHigh s a1 a2).kept = s.kept := by unfold State.stuckHigh; simp
@[simp] theorem State.conflict_kept (s : State) (a1) (a2) (a3) : (State.conflict s a1 a2 a3).kept = s.kept := by
  unfold State.conflict; simp
@[simp] theorem State.openLoad_kept (s : State) (a1) (a2) : (State.openLoad s a1 a2).kept = s.kept := by unfold State.openLoad; simp
@[simp] theorem State.parImbalance_kept (s : State) (a1) (a2) : (State.parImbalance s a1 a2).kept = s.kept := by
  unfold State.parImbalance; simp
@[simp] theorem State.outDiagClear_kept (s : State) (a1) (a2) (a3) : (State.outDiagClear s a1 a2 a3).kept = s.kept := by
  unfold State.outDiagClear; split <;> simp
@[simp] theorem State.slotGo_kept (s : State) (a0) (a1) (a2) : (State.slotGo s a0 a1 a2).kept = s.kept := by
  induction a1 generalizing s a2 with
  | nil => rfl
  | cons _ _ ih => simp only [State.slotGo]; (repeat' split) <;> simp [ih]
@[simp] theorem State.softSlot_kept (s : State) : (State.softSlot s).kept = s.kept := by
  unfold State.softSlot; extract_lets; split <;> simp +zetaDelta
@[simp] theorem State.aliveTimeout_kept (s : State) : (State.aliveTimeout s).kept = s.kept := by unfold State.aliveTimeout; simp
@[simp] theorem State.aliveOverload_kept (s : State) (a1) : (State.aliveOverload s a1).kept = s.kept := by
  unfold State.aliveOverload; simp
@[simp] theorem State.aliveRetry_kept (s : State) : (State.aliveRetry s).kept = s.kept := by unfold State.aliveRetry; split <;> simp
@[simp] theorem State.towEdge_kept (s : State) (a1) : (State.towEdge s a1).kept = s.kept := by unfold State.towEdge; simp
@[simp] theorem State.claimTx_kept (s : State) (a1) (a2) : (State.claimTx s a1 a2).kept = s.kept := by unfold State.claimTx; simp
@[simp] theorem State.claimRx_kept (s : State) (a1) (a2) : (State.claimRx s a1 a2).kept = s.kept := by unfold State.claimRx; simp
@[simp] theorem State.claimTimeout_kept (s : State) : (State.claimTimeout s).kept = s.kept := by unfold State.claimTimeout; split <;> simp
@[simp] theorem State.claimLineFail_kept (s : State) : (State.claimLineFail s).kept = s.kept := by
  have h : ∀ (b : Bool) (t : Nat), (if b then ((s.atTime t).wr DIO_CLAIM_STATUS.LINE_OK 0).logEv 0x6033 else s).kept = s.kept := by
    intro b t; cases b
    · rw [if_neg (by decide)]
    · rw [if_pos rfl]; exact (State.logEv_kept _ _ _ _).trans ((State.wr_kept _ _ _ _ _).trans (State.atTime_kept _ _))
  unfold State.claimLineFail
  refine apply_ite (fun x : State => x.kept) _ _ _ |>.trans (ite_eq_left_iff.mpr fun _ => ?_)
  refine apply_ite (fun x : State => x.kept) _ _ _ |>.trans ?_
  rw [State.logEv_kept, State.wr_kept, State.wr_kept]
  refine ite_eq_left_iff.mpr fun _ => ?_
  refine apply_ite (fun x : State => x.kept) _ _ _ |>.trans (ite_eq_left_iff.mpr fun _ => ?_)
  exact h _ _
@[simp] theorem State.claimLineOk_kept (s : State) : (State.claimLineOk s).kept = s.kept := by unfold State.claimLineOk; simp
@[simp] theorem State.cfgPend_kept (s : State) : (State.cfgPend s).kept = s.kept := by unfold State.cfgPend; simp
@[simp] theorem State.elmClear_kept (s : State) (a1) (a2) : (State.elmClear s a1 a2).kept = s.kept := by
  unfold State.elmClear; simp [kept_fst, kept_snd]
@[simp] theorem State.elmStop_kept (s : State) (a1) (a2) (a3) (a4) : (State.elmStop s a1 a2 a3 a4).kept = s.kept := by
  unfold State.elmStop; (repeat' split) <;> simp
@[simp] theorem State.bayStop_kept (s : State) (a1) (a2) (a3) (a4) : (State.bayStop s a1 a2 a3 a4).kept = s.kept := by
  unfold State.bayStop; simp
@[simp] theorem State.elmInit_kept (s : State) (a1) (a2) : (State.elmInit s a1 a2).kept = s.kept := by unfold State.elmInit; simp
@[simp] theorem State.bayStart_kept (s : State) (a1) (a2) : (State.bayStart s a1 a2).kept = s.kept := by unfold State.bayStart; simp
@[simp] theorem State.bayDone_kept (s : State) (a1) : (State.bayDone s a1).kept = s.kept := by
  unfold State.bayDone; dsimp only; (repeat' split) <;> simp
@[simp] theorem State.shedTo_kept (s : State) (a1) (a2) (a3) (a4) : (State.shedTo s a1 a2 a3 a4).kept = s.kept := by
  induction a4 generalizing s with
  | zero => simp [State.shedTo]
  | succ _ ih => simp only [State.shedTo]; (repeat' split) <;> simp [ih]
@[simp] theorem State.engStart_kept (s : State) (a1) (a2) (a3) (a4) : (State.engStart s a1 a2 a3 a4).kept = s.kept := by
  unfold State.engStart; simp
@[simp] theorem State.proofNext_kept (s : State) (a1) (a2) (a3) : (State.proofNext s a1 a2 a3).kept = s.kept := by
  unfold State.proofNext; simp
@[simp] theorem State.engStop_kept (s : State) (a1) : (State.engStop s a1).kept = s.kept := by unfold State.engStop; split <;> simp
@[simp] theorem State.place_kept (s : State) (a1) (a2) (a3) : (State.place s a1 a2 a3).kept = s.kept := by unfold State.place; simp
@[simp] theorem State.engineFail_kept (s : State) (a1) (a2) : (State.engineFail s a1 a2).kept = s.kept := by unfold State.engineFail; simp
@[simp] theorem State.placeNow_kept (s : State) (a1) (a2) : (State.placeNow s a1 a2).kept = s.kept := by unfold State.placeNow; simp
@[simp] theorem State.swapElm_kept (s : State) (a1) (a2) (a3) (a4) (a5) : (State.swapElm s a1 a2 a3 a4 a5).kept = s.kept := by
  unfold State.swapElm; simp
@[simp] theorem State.swapRow_kept (s : State) (a1) (a2) (a3) (a4) : (State.swapRow s a1 a2 a3 a4).kept = s.kept := by
  unfold State.swapRow; simp
@[simp] theorem State.swapGroup_kept (s : State) (a1) (a2) (a3) (a4) (a5) : (State.swapGroup s a1 a2 a3 a4 a5).kept = s.kept := by
  unfold State.swapGroup; simp
@[simp] theorem State.turnBay_kept (s : State) (a1) (a2) (a3) (a4) (a5) : (State.turnBay s a1 a2 a3 a4 a5).kept = s.kept := by
  unfold State.turnBay; simp
@[simp] theorem State.turnBays_kept (s : State) : (State.turnBays s).kept = s.kept := by unfold State.turnBays; split <;> simp
@[simp] theorem State.evalNow_kept (s : State) (a1) (a2) (a3) : (State.evalNow s a1 a2 a3).kept = s.kept := by unfold State.evalNow; simp
@[simp] theorem State.bayEvaluation_kept (s : State) (a1) (a2) (a3) : (State.bayEvaluation s a1 a2 a3).kept = s.kept := by
  unfold State.bayEvaluation; dsimp only; (repeat' split) <;> simp
@[simp] theorem State.bayCatch_kept (s : State) (a1) (a2) : (State.bayCatch s a1 a2).kept = s.kept := by
  induction a2 generalizing s with
  | zero => simp [State.bayCatch]
  | succ _ ih => simp only [State.bayCatch]; (repeat' split) <;> simp [ih]
@[simp] theorem State.evalEvent_kept (s : State) (a1) (a2) (a3) : (State.evalEvent s a1 a2 a3).kept = s.kept := by
  unfold State.evalEvent; simp
@[simp] theorem State.elmEvent_kept (s : State) (a1) (a2) : (State.elmEvent s a1 a2).kept = s.kept := by unfold State.elmEvent; simp
@[simp] theorem State.measureBay_kept (s : State) (a1) (a2) : (State.measureBay s a1 a2).kept = s.kept := by
  unfold State.measureBay; split <;> simp
@[simp] theorem State.report_kept (s : State) (a1) (a2) (h : s.kept.1 = true) : (State.report s a1 a2).kept = s.kept := by
  unfold State.report; simp [h]
@[simp] theorem State.measureTo_kept (s : State) (a1) (a2) (h : s.kept.1 = true) : (State.measureTo s a1 a2).kept = s.kept := by
  induction a2 generalizing s with
  | nil => rfl
  | cons _ _ ih => simp only [State.measureTo]; split <;> simp [ih, h]
@[simp] theorem State.measureAll_kept (s : State) (h : s.kept.1 = true) : (State.measureAll s).kept = s.kept := by
  unfold State.measureAll
  refine forL_canonical _ _ _ h fun b u hu => ?_
  dsimp only; split <;> simp [hu]
@[simp] theorem State.measFrom_kept (s : State) (a1) (a2) : (State.measFrom s a1 a2).kept = s.kept := by unfold State.measFrom; simp
@[simp] theorem State.pstreamWrite_kept (s : State) (a1) (a2) : (State.pstreamWrite s a1 a2).kept = s.kept := by
  unfold State.pstreamWrite; simp
@[simp] theorem State.bayLatch_kept (s : State) (a1) : (State.bayLatch s a1).kept = s.kept := by unfold State.bayLatch; split <;> simp
@[simp] theorem State.modInst_kept (s : State) (a1) (a2) : (State.modInst s a1 a2).kept = s.kept := by unfold State.modInst; simp
@[simp] theorem State.storeRegs_kept (s : State) : (State.storeRegs s).kept = s.kept := by unfold State.storeRegs; simp
theorem State.deleteOldest_kept (s u : State) (h : s.deleteOldest = some u) : u.kept = s.kept := by
  unfold State.deleteOldest at h; split at h
  · cases h
  · cases h; simp [kept_fst, kept_snd, State.modRecNv]
@[simp] theorem State.recRoom_kept (s : State) (a0) (a1) : (State.recRoom s a0 a1).1.kept = s.kept := by
  induction a1 generalizing s with
  | zero => rfl
  | succ k ih =>
    simp only [State.recRoom]; split
    · rfl
    · split
      · rename_i u h; rw [ih]; exact State.deleteOldest_kept s u h
      · rfl
@[simp] theorem State.drainNext_kept (s : State) : (State.drainNext s).kept = s.kept := by unfold State.drainNext; simp
@[simp] theorem State.recRegs_kept (s : State) (a1) : (State.recRegs s a1).kept = s.kept := by unfold State.recRegs; simp
@[simp] theorem State.recAhead_kept (s : State) (a0) (a1) (a2) : (State.recAhead s a0 a1 a2).kept = s.kept := by
  induction a2 generalizing s a1 with
  | zero => rfl
  | succ _ ih => simp only [State.recAhead]; split <;> simp [ih]
@[simp] theorem State.recAheadAll_kept (s : State) : (State.recAheadAll s).kept = s.kept := by
  unfold State.recAheadAll
  refine forN_kept _ _ _ fun i u => State.onTick_kept _ _ _ fun v => ?_
  split <;> simp
@[simp] theorem State.recTrim_kept (s : State) (a1) (a2) : (State.recTrim s a1 a2).kept = s.kept := by unfold State.recTrim; simp
@[simp] theorem State.gapEnd_kept (s : State) (a1) : (State.gapEnd s a1).kept = s.kept := by unfold State.gapEnd; split <;> simp
@[simp] theorem State.recAdd_kept (s : State) (a1) (a2) : (State.recAdd s a1 a2).kept = s.kept := by unfold State.recAdd; simp
@[simp] theorem State.recSkip_kept (s : State) (a1) (a2) : (State.recSkip s a1 a2).kept = s.kept := by unfold State.recSkip; simp
@[simp] theorem State.recStore_kept (s : State) (a1) (a2) : (State.recStore s a1 a2).kept = s.kept := by unfold State.recStore; simp
@[simp] theorem State.recClear_kept (s : State) (a1) : (State.recClear s a1).kept = s.kept := by unfold State.recClear; simp
@[simp] theorem State.recCommit_kept (s : State) (a1) : (State.recCommit s a1).kept = s.kept := by unfold State.recCommit; simp
@[simp] theorem State.recClose_kept (s : State) (a1) (a2) (a3) : (State.recClose s a1 a2 a3).kept = s.kept := by
  unfold State.recClose; split <;> simp
@[simp] theorem State.recStop_kept (s : State) (a1) (a2) (a3) : (State.recStop s a1 a2 a3).kept = s.kept := by unfold State.recStop; simp
@[simp] theorem State.busPulse_kept (s : State) (a1) (a2) : (State.busPulse s a1 a2).kept = s.kept := by unfold State.busPulse; simp
@[simp] theorem State.recBegin_kept (s : State) (a1) (a2) (a3) (a4) : (State.recBegin s a1 a2 a3 a4).kept = s.kept := by
  unfold State.recBegin; extract_lets c room
  have h : room.1.kept = s.kept := by
    simp only [room]; split
    · exact State.recRoom_kept s _ _
    · rfl
  clear_value room
  split
  · simp [h]
  · simp +zetaDelta [h]
@[simp] theorem State.recAgain_kept (s : State) (a1) (a2) (a3) (a4) : (State.recAgain s a1 a2 a3 a4).kept = s.kept := by
  unfold State.recAgain; dsimp only; (repeat' split) <;> simp
@[simp] theorem State.recNote_kept (s : State) (a1) (a2) : (State.recNote s a1 a2).kept = s.kept := by unfold State.recNote; simp
@[simp] theorem State.recTrigger_kept (s : State) (a1) (a2) (a3) : (State.recTrigger s a1 a2 a3).kept = s.kept := by
  unfold State.recTrigger; dsimp only; (repeat' split) <;> simp
@[simp] theorem State.recOne_kept (s : State) (a1) (a2) : (State.recOne s a1 a2).kept = s.kept := by unfold State.recOne; simp
@[simp] theorem State.recProcess_kept (s : State) (a1) : (State.recProcess s a1).kept = s.kept := by unfold State.recProcess; simp
@[simp] theorem State.recSettle_kept (s : State) (a1) (a2) : (State.recSettle s a1 a2).kept = s.kept := by
  unfold State.recSettle; dsimp only; split <;> simp
@[simp] theorem State.rearmEnd_kept (s : State) (a1) : (State.rearmEnd s a1).kept = s.kept := by
  unfold State.rearmEnd; dsimp only; (repeat' split) <;> simp
@[simp] theorem State.recPend_kept (s : State) (a1) (a2) (a3) : (State.recPend s a1 a2 a3).kept = s.kept := by unfold State.recPend; simp
@[simp] theorem State.recEdges_kept (s : State) (a1) (a2) : (State.recEdges s a1 a2).kept = s.kept := by unfold State.recEdges; simp
@[simp] theorem State.recTicks_kept (s : State) (a1) (a2) (a3) : (State.recTicks s a1 a2 a3).kept = s.kept := by
  induction a3 generalizing s with
  | zero => simp [State.recTicks]
  | succ _ ih => simp only [State.recTicks]; (repeat' split) <;> simp [ih]
@[simp] theorem State.trigIn_kept (s : State) (a1) (a2) : (State.trigIn s a1 a2).kept = s.kept := by unfold State.trigIn; simp
@[simp] theorem State.trigBus_kept (s : State) (a1) : (State.trigBus s a1).kept = s.kept := by unfold State.trigBus; simp
@[simp] theorem State.busRelease_kept (s : State) : (State.busRelease s).kept = s.kept := by unfold State.busRelease; split <;> simp
@[simp] theorem State.recTake_kept (s : State) (a1) (a2) : (State.recTake s a1 a2).kept = s.kept := by
  unfold State.recTake; dsimp only; (repeat' split) <;> simp
@[simp] theorem State.recDrain_kept (s : State) (a1) : (State.recDrain s a1).kept = s.kept := by
  unfold State.recDrain; dsimp only; (repeat' split) <;> simp
@[simp] theorem State.recArmAt_kept (s : State) (a1) (a2) (a3) : (State.recArmAt s a1 a2 a3).kept = s.kept := by unfold State.recArmAt; simp
@[simp] theorem State.recArm_kept (s : State) (a1) : (State.recArm s a1).kept = s.kept := by unfold State.recArm; simp
@[simp] theorem State.recStart_kept (s : State) (a1) : (State.recStart s a1).kept = s.kept := by unfold State.recStart; simp
@[simp] theorem State.recChanged_kept (s : State) (a1) (a2) : (State.recChanged s a1 a2).kept = s.kept := by unfold State.recChanged; simp
@[simp] theorem State.recTurn_kept (s : State) (a1) : (State.recTurn s a1).kept = s.kept := by
  unfold State.recTurn; dsimp only; split <;> simp
@[simp] theorem State.recCapture_kept (s : State) (a1) : (State.recCapture s a1).kept = s.kept := by
  unfold State.recCapture; dsimp only; (repeat' split) <;> simp
@[simp] theorem State.recSwap_kept (s : State) (a1) (a2) : (State.recSwap s a1 a2).kept = s.kept := by unfold State.recSwap; simp
@[simp] theorem State.logicReset_kept (s : State) (a1) (a2) (h : s.kept.1 = true) : (State.logicReset s a1 a2).kept = s.kept := by
  unfold State.logicReset; dsimp only
  simp only [State.wr_kept, State.kept_mk]
  exact Prod.ext h.symm rfl
@[simp] theorem State.hostBistDone_kept (s : State) (a1) (a2) (a3) : (State.hostBistDone s a1 a2 a3).kept = s.kept := by
  unfold State.hostBistDone; simp
@[simp] theorem State.bistShown_kept (s : State) (a1) (a2) (a3) (a4) : (State.bistShown s a1 a2 a3 a4).kept = s.kept := by
  unfold State.bistShown; dsimp only; (repeat' split) <;> simp
@[simp] theorem State.rotated_kept (s : State) (a1) : (State.rotated s a1).kept = s.kept := by unfold State.rotated; simp
@[simp] theorem State.bistVerdict_kept (s : State) (a1) (a2) (a3) : (State.bistVerdict s a1 a2 a3).kept = s.kept := by
  have h1 : ∀ u : State, (if a2 = 1 then u.hostBistDone a1 a3 0 else u).kept = u.kept := by intro u; split <;> simp
  have h2 : ∀ u : State, (if a3 ≠ 0 then u.engineFail a1 (a3 + 2) else if a2 = 0 then u.rotated a1 else u).kept = u.kept := by
    intro u; (repeat' split) <;> simp
  unfold State.bistVerdict; dsimp only; split
  · rw [State.proofNext_kept, h2, h1]
  · rw [h2, h1]
@[simp] theorem State.engineBistDone_kept (s : State) (a1) (a2) (a3) (a4) : (State.engineBistDone s a1 a2 a3 a4).kept = s.kept := by
  unfold State.engineBistDone; split
  · rfl
  · dsimp only; split
    · rw [State.engStart_kept, State.bistShown_kept, State.atTime_kept]
    · rw [State.bistVerdict_kept, State.bistShown_kept, State.atTime_kept]
@[simp] theorem State.rotate_kept (s : State) (a1) : (State.rotate s a1).kept = s.kept := by
  unfold State.rotate; dsimp only; rw [State.engStart_kept]; simp
@[simp] theorem State.spareRotation_kept (s : State) : (State.spareRotation s).kept = s.kept := by
  unfold State.spareRotation; split
  · rfl
  · dsimp only; split
    · rfl
    · rw [State.rotate_kept]; rfl
@[simp] theorem State.proofCycle_kept (s : State) : (State.proofCycle s).kept = s.kept := by
  unfold State.proofCycle; (repeat' split) <;> simp
@[simp] theorem State.blockFree_kept (s : State) (a1) : (State.blockFree s a1).kept = s.kept := by unfold State.blockFree; split <;> simp
@[simp] theorem State.blockEnd_kept (s : State) (a1) (a2) : (State.blockEnd s a1 a2).kept = s.kept := by
  unfold State.blockEnd; split <;> simp
@[simp] theorem State.tripTest_kept (s : State) : (State.tripTest s).kept = s.kept := by unfold State.tripTest; (repeat' split) <;> simp
@[simp] theorem State.blockStart_kept (s : State) (a1) : (State.blockStart s a1).kept = s.kept := by
  unfold State.blockStart; split <;> simp
@[simp] theorem State.blockBistDone_kept (s : State) (a1) (a2) : (State.blockBistDone s a1 a2).kept = s.kept := by
  unfold State.blockBistDone; split <;> simp
@[simp] theorem cmdBistRun_kept (s : State) (a1) (a2) : (cmdBistRun s a1 a2).st.kept = s.kept := by
  unfold cmdBistRun; dsimp only; (repeat' split) <;> simp
@[simp] theorem State.repRegs_kept (s : State) (a1) : (State.repRegs s a1).kept = s.kept := by unfold State.repRegs; simp
@[simp] theorem State.sramCorrected_kept (s : State) (a1) (a2) (a3) : (State.sramCorrected s a1 a2 a3).kept = s.kept := by
  unfold State.sramCorrected; simp
@[simp] theorem State.sramUncorrectable_kept (s : State) (a1) (h : s.kept.1 = true) : (State.sramUncorrectable s a1).kept = s.kept := by
  unfold State.sramUncorrectable; simp [h]
@[simp] theorem State.lockstep_kept (s : State) (h : s.kept.1 = true) : (State.lockstep s).kept = s.kept := by unfold State.lockstep; simp [h]
@[simp] theorem cmdRepairFuse_kept (s : State) (a1) (a2) : (cmdRepairFuse s a1 a2).st.kept = s.kept := by
  unfold cmdRepairFuse; dsimp only; (repeat' split) <;> simp
@[simp] theorem State.fuseBurnDone_kept (s : State) : (State.fuseBurnDone s).kept = s.kept := by unfold State.fuseBurnDone; split <;> simp
@[simp] theorem State.olderStands_kept (s : State) (a1) : (State.olderStands s a1).kept.1 = s.kept.1 := by
  unfold State.olderStands; split <;> simp
@[simp] theorem State.verifyFails_kept (s : State) (a1) : (State.verifyFails s a1).kept = s.kept := by unfold State.verifyFails; simp
@[simp] theorem State.sectorSpared_kept (s : State) (a1) : (State.sectorSpared s a1).kept.1 = s.kept.1 := by
  unfold State.sectorSpared; dsimp only; (repeat' split) <;> simp
@[simp] theorem State.spareRegs_kept (s : State) : (State.spareRegs s).kept = s.kept := by unfold State.spareRegs; simp
@[simp] theorem State.nandRetired_kept (s : State) (a1) : (State.nandRetired s a1).kept = s.kept := by
  have h : ∀ t : State, (t.deleteOldest.getD t).kept = t.kept := by
    intro t; cases hd : t.deleteOldest with
    | none => rfl
    | some u => simp [State.deleteOldest_kept t u hd]
  unfold State.nandRetired; dsimp only; (repeat' split) <;> simp [h]
@[simp] theorem State.erased_kept (s : State) (a1) : (State.erased s a1).kept = s.kept := by unfold State.erased; simp
@[simp] theorem State.blockDrained_kept (s : State) (a1) : (State.blockDrained s a1).kept = s.kept := by unfold State.blockDrained; simp
@[simp] theorem State.maintExit_kept (s : State) (a1) : (State.maintExit s a1).kept = s.kept := by unfold State.maintExit; simp
@[simp] theorem State.maintLease_kept (s : State) : (State.maintLease s).kept = s.kept := by unfold State.maintLease; simp
@[simp] theorem cmdMaintMode_kept (s : State) (a1) (a2) : (cmdMaintMode s a1 a2).st.kept = s.kept := by
  unfold cmdMaintMode; dsimp only; (repeat' split) <;> simp
@[simp] theorem State.sendFrame_kept (s : State) (a1) (a2) : (State.sendFrame s a1 a2).kept = s.kept := by unfold State.sendFrame; simp
@[simp] theorem State.tellHandover_kept (s : State) (a1) : (State.tellHandover s a1).kept = s.kept := by unfold State.tellHandover; simp
@[simp] theorem State.pairDone_kept (s : State) : (State.pairDone s).kept = s.kept := by unfold State.pairDone; split <;> simp
@[simp] theorem State.nrUpdate_kept (s : State) : (State.nrUpdate s).kept = s.kept := by unfold State.nrUpdate; simp
@[simp] theorem State.setEpoch_kept (s : State) (a1) : (State.setEpoch s a1).kept = s.kept := by unfold State.setEpoch; simp
@[simp] theorem State.claim_kept (s : State) : (State.claim s).kept = s.kept := by unfold State.claim; simp
@[simp] theorem State.claimGate_kept (s : State) : (State.claimGate s).kept = s.kept := by unfold State.claimGate; simp
@[simp] theorem State.stopBays_kept (s : State) : (State.stopBays s).kept = s.kept := by unfold State.stopBays; simp
@[simp] theorem State.enterStandby_kept (s : State) : (State.enterStandby s).kept = s.kept := by unfold State.enterStandby; simp
@[simp] theorem State.restoreLatches_kept (s : State) : (State.restoreLatches s).kept = s.kept := by
  refine forN_kept _ _ _ fun d s => ?_
  dsimp only; (repeat' split) <;> simp
@[simp] theorem State.startActive_kept (s : State) : (State.startActive s).kept = s.kept := by unfold State.startActive; simp
@[simp] theorem State.recsLost_kept (s : State) (a1) : (State.recsLost s a1).kept = s.kept := by
  unfold State.recsLost; apply forN_kept; intro i s; dsimp only; split <;> simp
@[simp] theorem State.claimLost_kept (s : State) : (State.claimLost s).kept = s.kept := by unfold State.claimLost; simp
@[simp] theorem State.compareInputs_kept (s : State) (a1) (a2) (a3) : (State.compareInputs s a1 a2 a3).kept = s.kept := by
  unfold State.compareInputs; dsimp only; (repeat' split) <;> simp
@[simp] theorem State.loadElm_kept (s : State) (a0) (a1) : (State.loadElm s a0 a1).1.kept = s.kept := by
  unfold State.loadElm; simp
theorem loadElms_kept {α : Type} (l : List α) (f : State → α → State × Bool) (h : ∀ s e, (f s e).1.kept = s.kept) (r : State × Bool) :
    (l.foldl (fun (r : State × Bool) e => ((f r.1 e).1, r.2 || (f r.1 e).2)) r).1.kept = r.1.kept := by
  induction l generalizing r with
  | nil => rfl
  | cons a l ih => rw [List.foldl_cons, ih]; exact h r.1 a
@[simp] theorem State.loadKnot_kept (s : State) (a1) (a2) : (State.loadKnot s a1 a2).kept = s.kept := by unfold State.loadKnot; simp
@[simp] theorem State.loadRow_kept (s : State) (a1) (a2) : (State.loadRow s a1 a2).kept = s.kept := by unfold State.loadRow; simp
@[simp] theorem State.loadBay_kept (s : State) (a1) (a2) : (State.loadBay s a1 a2).kept = s.kept := by unfold State.loadBay; simp
@[simp] theorem State.loadRec_kept (s : State) (a1) : (State.loadRec s a1).kept = s.kept := by
  unfold State.loadRec; dsimp only; (repeat' split) <;> simp
@[simp] theorem State.loadReset_kept (s : State) (a1) : (State.loadReset s a1).kept = s.kept := by unfold State.loadReset; simp
@[simp] theorem State.loadSnap_kept (s : State) (a1) (a2) : (State.loadSnap s a1 a2).1.kept = s.kept := by
  unfold State.loadSnap
  simp only [forL_kept, State.loadRow_kept, State.loadKnot_kept, State.wr_kept, State.modPbus_kept, State.loadBay_kept, implies_true,
    loadElms_kept _ _ (fun s e => State.loadElm_kept s a1 e)]
@[simp] theorem State.pairWatch_kept (s : State) : (State.pairWatch s).kept = s.kept := by unfold State.pairWatch; split <;> simp
@[simp] theorem State.startReplay_kept (s : State) (a1) (a2) : (State.startReplay s a1 a2).kept = s.kept := by
  unfold State.startReplay
  extract_lets snap deg s1 s2 s3 s4 s5
  have h3 : s3.kept = s.kept := by
    simp only [s3, s2]; split <;> simp [s1]
  have h5 : s5.kept = s.kept := by simp [s5, s4, h3]
  clear_value s5 snap
  split
  · simp [h5]
  · cases snap <;> simp [h5]
@[simp] theorem State.markReplayed_kept (s : State) (a1) (a2) : (State.markReplayed s a1 a2).kept = s.kept := by
  unfold State.markReplayed; simp
@[simp] theorem State.recReplay_kept (s : State) (a1) : (State.recReplay s a1).kept = s.kept := by
  unfold State.recReplay; extract_lets; split
  · simp +zetaDelta
  · rw [forN_kept]
    · simp +zetaDelta
    · intro i s; split
      · rfl
      · extract_lets; simp +zetaDelta
@[simp] theorem State.recResume_kept (s : State) (a1) : (State.recResume s a1).kept = s.kept := by
  unfold State.recResume; rw [forN_kept]
  · simp
  · intro i s; (repeat' split) <;> simp
@[simp] theorem State.dropReplay_kept (s : State) : (State.dropReplay s).kept = s.kept := by unfold State.dropReplay; simp
@[simp] theorem State.abortHandover_kept (s : State) : (State.abortHandover s).kept = s.kept := by unfold State.abortHandover; simp
@[simp] theorem State.replayTick_kept (s : State) : (State.replayTick s).kept = s.kept := by
  unfold State.replayTick; dsimp only; (repeat' split) <;> simp
@[simp] theorem State.keepTrips_kept (s : State) (a1) (a2) : (State.keepTrips s a1 a2).kept = s.kept := by unfold State.keepTrips; simp
@[simp] theorem State.startGoose_kept (s : State) (a1) : (State.startGoose s a1).kept = s.kept := by unfold State.startGoose; simp
@[simp] theorem State.replayCatchUp_kept (s : State) (a1) : (State.replayCatchUp s a1).kept = s.kept := by
  unfold State.replayCatchUp; split <;> simp
@[simp] theorem State.linkRegs_kept (s : State) : (State.linkRegs s).kept = s.kept := by unfold State.linkRegs; simp
@[simp] theorem State.lumkoLost_kept (s : State) (a1) : (State.lumkoLost s a1).kept = s.kept := by unfold State.lumkoLost; simp
@[simp] theorem State.lumkoGained_kept (s : State) (a1) : (State.lumkoGained s a1).kept = s.kept := by unfold State.lumkoGained; simp
@[simp] theorem State.helloSend_kept (s : State) : (State.helloSend s).kept = s.kept := by unfold State.helloSend; simp
@[simp] theorem State.rankSeen_kept (s : State) (a1) : (State.rankSeen s a1).kept = s.kept := by unfold State.rankSeen; simp
@[simp] theorem State.joinHeard_kept (s : State) : (State.joinHeard s).kept = s.kept := by unfold State.joinHeard; simp
@[simp] theorem State.helloRx_kept (s : State) (a1) (a2) (a3) : (State.helloRx s a1 a2 a3).kept = s.kept := by unfold State.helloRx; simp
@[simp] theorem State.handoverCode_kept (s : State) (a1) : (State.handoverCode s a1).kept = s.kept := by
  unfold State.handoverCode; split <;> simp
@[simp] theorem State.handoverRx_kept (s : State) (a1) (a2) (a3) : (State.handoverRx s a1 a2 a3).kept = s.kept := by
  unfold State.handoverRx; simp
@[simp] theorem State.handoverRequest_kept (s : State) : (State.handoverRequest s).kept = s.kept := by
  unfold State.handoverRequest; split
  · rfl
  · split
    · exact (State.tellHandover_kept ..).trans ((State.modPair_kept ..).trans ((State.wr_kept ..).trans (State.atTime_kept ..)))
    · rfl
@[simp] theorem State.handoverAbort_kept (s : State) : (State.handoverAbort s).kept = s.kept := by
  unfold State.handoverAbort; split <;> simp
@[simp] theorem State.enterJoining_kept (s : State) : (State.enterJoining s).kept = s.kept := by unfold State.enterJoining; simp
@[simp] theorem State.joinHeartbeat_kept (s : State) (a1) : (State.joinHeartbeat s a1).kept = s.kept := by
  unfold State.joinHeartbeat; simp
@[simp] theorem State.joiningTimeout_kept (s : State) : (State.joiningTimeout s).kept = s.kept := by unfold State.joiningTimeout; simp
@[simp] theorem State.claimHeard_kept (s : State) : (State.claimHeard s).kept = s.kept := by unfold State.claimHeard; simp
@[simp] theorem State.setPath_kept (s : State) (a1) (a2) : (State.setPath s a1 a2).kept = s.kept := by unfold State.setPath; simp
@[simp] theorem State.pathHear_kept (s : State) (a1) : (State.pathHear s a1).kept = s.kept := by unfold State.pathHear; simp
@[simp] theorem State.partnerFailed_kept (s : State) : (State.partnerFailed s).kept = s.kept := by
  unfold State.partnerFailed; simp
@[simp] theorem State.hbMiss_kept (s : State) (a1) : (State.hbMiss s a1).kept = s.kept := by
  unfold State.hbMiss; dsimp only; (repeat' split) <;> simp
@[simp] theorem State.snapSettle_kept (s : State) : (State.snapSettle s).kept = s.kept := by unfold State.snapSettle; split <;> simp
@[simp] theorem State.heartbeatSend_kept (s : State) : (State.heartbeatSend s).kept = s.kept := by unfold State.heartbeatSend; simp
@[simp] theorem State.measureTheta_kept (s : State) (a1) : (State.measureTheta s a1).kept = s.kept := by unfold State.measureTheta; simp
@[simp] theorem State.heartbeatRx_kept (s : State) (a1) (a2) (a3) : (State.heartbeatRx s a1 a2 a3).kept = s.kept := by
  unfold State.heartbeatRx; simp
@[simp] theorem State.towHeartbeat_kept (s : State) (a1) : (State.towHeartbeat s a1).kept = s.kept := by unfold State.towHeartbeat; simp
@[simp] theorem State.snapshot_kept (s : State) : (State.snapshot s).kept = s.kept := by
  unfold State.snapshot; dsimp only; (repeat' split) <;> simp
@[simp] theorem State.snapData_kept (s : State) (a1) (a2) (a3) : (State.snapData s a1 a2 a3).kept = s.kept := by
  unfold State.snapData; dsimp only; (repeat' split) <;> simp
@[simp] theorem State.snapEnd_kept (s : State) (a1) (a2) (a3) (a4) : (State.snapEnd s a1 a2 a3 a4).kept = s.kept := by
  unfold State.snapEnd; dsimp only; (repeat' split) <;> simp
@[simp] theorem cmdPairJoin_kept (s : State) (a1) (a2) : (cmdPairJoin s a1 a2).st.kept = s.kept := by
  unfold cmdPairJoin; (repeat' split) <;> simp
@[simp] theorem cmdPairYield_kept (s : State) (a1) (a2) : (cmdPairYield s a1 a2).st.kept = s.kept := by
  unfold cmdPairYield; (repeat' split) <;> simp
@[simp] theorem cmdPairStatus_kept (s : State) (a1) (a2) : (cmdPairStatus s a1 a2).st.kept = s.kept := by
  unfold cmdPairStatus; (repeat' split) <;> simp
@[simp] theorem State.exportChunk_kept (s : State) (h : s.kept.1 = true) : (State.exportChunk s).kept = s.kept := by
  unfold State.exportChunk; (repeat' split) <;> simp [h]
@[simp] theorem cmdRecArm_kept (s : State) (a1) (a2) : (cmdRecArm s a1 a2).st.kept = s.kept := by
  unfold cmdRecArm; dsimp only; (repeat' split) <;> simp
@[simp] theorem cmdRecFetch_kept (s : State) (a1) (a2) : (cmdRecFetch s a1 a2).st.kept = s.kept := by
  unfold cmdRecFetch; dsimp only; (repeat' split) <;> simp
@[simp] theorem cmdRecExport_kept (s : State) (a1) (a2) : (cmdRecExport s a1 a2).st.kept = s.kept := by
  unfold cmdRecExport; dsimp only; (repeat' split) <;> simp
@[simp] theorem cmdRecTrigger_kept (s : State) (a1) (a2) : (cmdRecTrigger s a1 a2).st.kept = s.kept := by
  unfold cmdRecTrigger; dsimp only; (repeat' split) <;> simp
@[simp] theorem cmdRecDisarm_kept (s : State) (a1) (a2) : (cmdRecDisarm s a1 a2).st.kept = s.kept := by
  unfold cmdRecDisarm; dsimp only; (repeat' split) <;> simp
@[simp] theorem State.recProtect_kept (s : State) (a1) (a2) : (State.recProtect s a1 a2).kept = s.kept := by unfold State.recProtect; simp
@[simp] theorem cmdRecManage_kept (s : State) (a1) (a2) : (cmdRecManage s a1 a2).st.kept = s.kept := by
  unfold cmdRecManage; dsimp only; (repeat' split) <;> simp
@[simp] theorem State.custRegs_kept (s : State) : (State.custRegs s).kept = s.kept := by unfold State.custRegs; simp
@[simp] theorem State.setChamber_kept (s : State) (a1) : (State.setChamber s a1).kept.1 = s.kept.1 := by unfold State.setChamber; simp
@[simp] theorem State.busyChamber_kept (s : State) : (State.busyChamber s).st.kept = s.kept := by unfold State.busyChamber; simp
@[simp] theorem State.authFail_kept (s : State) (a1) : (State.authFail s a1).kept = s.kept := by unfold State.authFail; simp
@[simp] theorem State.endorseRefused_kept (s : State) (a1) (a2) : (State.endorseRefused s a1 a2).st.kept = s.kept := by
  unfold State.endorseRefused; simp
@[simp] theorem State.authLockoutEnd_kept (s : State) : (State.authLockoutEnd s).kept = s.kept := by
  unfold State.authLockoutEnd; split <;> simp
@[simp] theorem State.useSlot_kept (s : State) (a1) : (State.useSlot s a1).kept.1 = s.kept.1 := rfl
@[simp] theorem State.custWrite_kept (s : State) (a1) : (State.custWrite s a1).kept.1 = s.kept.1 := rfl
@[simp] theorem State.stageOpen_kept (s : State) (a1) : (State.stageOpen s a1).st.kept.1 = s.kept.1 := by
  unfold State.stageOpen; (repeat' split) <;> simp
@[simp] theorem State.stageWrite_kept (s : State) (a1) : (State.stageWrite s a1).st.kept = s.kept := by
  unfold State.stageWrite; dsimp only; (repeat' split) <;> simp
@[simp] theorem State.stageSeal_kept (s : State) (a1) : (State.stageSeal s a1).st.kept.1 = s.kept.1 := by
  unfold State.stageSeal; dsimp only; (repeat' split) <;> simp
@[simp] theorem cmdSetStage_kept (s : State) (a1) (a2) : (cmdSetStage s a1 a2).st.kept.1 = s.kept.1 := by
  unfold cmdSetStage; (repeat' split) <;> simp
@[simp] theorem cmdSetEndorse_kept (s : State) (a1) (a2) : (cmdSetEndorse s a1 a2).st.kept.1 = s.kept.1 := by
  unfold cmdSetEndorse; dsimp only; (repeat' split) <;> simp
@[simp] theorem cmdSetCommit_kept (s : State) (a1) (a2) : (cmdSetCommit s a1 a2).st.kept.1 = s.kept.1 := by
  unfold cmdSetCommit; dsimp only; (repeat' split) <;> simp
@[simp] theorem cmdSetAbort_kept (s : State) (a1) (a2) : (cmdSetAbort s a1 a2).st.kept.1 = s.kept.1 := by
  unfold cmdSetAbort; dsimp only; (repeat' split) <;> simp
@[simp] theorem cmdKeyEnrol_kept (s : State) (a1) (a2) : (cmdKeyEnrol s a1 a2).st.kept.1 = s.kept.1 := by
  unfold cmdKeyEnrol; dsimp only; (repeat' split) <;> simp
@[simp] theorem cmdEvtClear_kept (s : State) (a1) (a2) (h : s.kept.1 = true) : (cmdEvtClear s a1 a2).st.kept.1 = true := by
  unfold cmdEvtClear; dsimp only; (repeat' split) <;> simp [h]
@[simp] theorem State.spWrite_kept (s : State) (a1) (a2) (a3) : (State.spWrite s a1 a2 a3).kept = s.kept := by unfold State.spWrite; simp
@[simp] theorem State.swapGrid_kept (s : State) (a1) (a2) (a3) : (State.swapGrid s a1 a2 a3).kept = s.kept := by
  unfold State.swapGrid; simp
@[simp] theorem State.swapUtc_kept (s : State) (a1) (a2) (a3) : (State.swapUtc s a1 a2 a3).kept = s.kept := by
  unfold State.swapUtc; dsimp only; (repeat' split) <;> simp
@[simp] theorem State.swapChannels_kept (s : State) (a1) (a2) (a3) (a4) : (State.swapChannels s a1 a2 a3 a4).kept = s.kept := by
  unfold State.swapChannels; simp
@[simp] theorem State.swapBays_kept (s : State) (a1) (a2) (a3) : (State.swapBays s a1 a2 a3).kept = s.kept := by
  unfold State.swapBays; simp
@[simp] theorem State.swapRows_kept (s : State) (a1) (a2) : (State.swapRows s a1 a2).kept = s.kept := by unfold State.swapRows; simp
@[simp] theorem State.swapLog_kept (s : State) (a1) (a2) : (State.swapLog s a1 a2).kept = s.kept := by unfold State.swapLog; simp
@[simp] theorem State.showBank_kept (s : State) (a1) (a2) : (State.showBank s a1 a2).kept = s.kept := by unfold State.showBank; simp
@[simp] theorem State.chanTau_kept (s : State) (a1) (a2) (a3) : (State.chanTau s a1 a2 a3).kept = s.kept := by unfold State.chanTau; simp
@[simp] theorem State.tickTaus_kept (s : State) (a1) (a2) (a3) : (State.tickTaus s a1 a2 a3).kept = s.kept := by
  unfold State.tickTaus; simp
@[simp] theorem State.retau_kept (s : State) (a1) : (State.retau s a1).kept = s.kept := by unfold State.retau; simp
@[simp] theorem State.freqFollow_kept (s : State) (a1) : (State.freqFollow s a1).kept = s.kept := by
  unfold State.freqFollow; exact (State.fastCoef_kept _).trans (forN_kept _ _ _ fun _ _ => rfl)
@[simp] theorem State.trackFull_kept (s : State) : (State.trackFull s).kept = s.kept := by unfold State.trackFull; split <;> simp
@[simp] theorem State.trackNow_kept (s : State) : (State.trackNow s).kept = s.kept := by unfold State.trackNow; split <;> simp
@[simp] theorem State.trackRamp_kept (s : State) : (State.trackRamp s).kept = s.kept := by unfold State.trackRamp; simp
@[simp] theorem State.localDeliver_kept (s : State) (a1) : (State.localDeliver s a1).kept = s.kept := by
  induction a1 generalizing s with
  | nil => simp [State.localDeliver]
  | cons _ _ ih => simp only [State.localDeliver]; (repeat' split) <;> simp [ih]
@[simp] theorem State.deliver_kept (s : State) : (State.deliver s).kept = s.kept := by unfold State.deliver; simp
@[simp] theorem State.gridCatch_kept (s : State) : (State.gridCatch s).kept = s.kept := by unfold State.gridCatch; simp
@[simp] theorem State.idleRows_kept (s : State) (a1) : (State.idleRows s a1).kept = s.kept := by
  unfold State.idleRows; (repeat' split) <;> simp
@[simp] theorem State.beforeTick_kept (s : State) (a1) (a2) : (State.beforeTick s a1 a2).kept = s.kept := by unfold State.beforeTick; simp
@[simp] theorem State.tickFreq_kept (s : State) (a1) : (State.tickFreq s a1).kept = s.kept := by
  unfold State.tickFreq; (repeat' split) <;> simp
@[simp] theorem State.noStreams_kept (s : State) : (State.noStreams s).kept = s.kept := by unfold State.noStreams; simp
@[simp] theorem cmdNegotiate_kept (s : State) (a1) (a2) : (cmdNegotiate s a1 a2).st.kept = s.kept := by
  unfold cmdNegotiate; dsimp only; (repeat' split) <;> simp
@[simp] theorem cmdIdentify_kept (s : State) (a1) (a2) : (cmdIdentify s a1 a2).st.kept = s.kept := by
  unfold cmdIdentify; (repeat' split) <;> simp
@[simp] theorem cmdRestart_kept (s : State) (a1) (a2) (h : s.kept.1 = true) : (cmdRestart s a1 a2).st.kept = s.kept := by
  unfold cmdRestart; (repeat' split) <;> simp [h]
@[simp] theorem hostCmd_kept (a0) (s : State) (a2) (a3) (h : s.kept.1 = true) : (hostCmd a0 s a2 a3).st.kept.1 = true := by
  unfold hostCmd; split <;> simp [h]
@[simp] theorem State.serve_kept (s : State) (h : s.kept.1 = true) : (s.serve hostCmd).kept.1 = true :=
  State.interpretAll_kept _ _ _ hostCmd_kept (by simp [h])
theorem State.submit_kept (s : State) (q : Bool) (o : Nat) (p : Packet) (f : State → Bool → Packet → CmdRes)
    (hf : ∀ s q p, s.kept.1 = true → (f s q p).st.kept.1 = true) (h : s.kept.1 = true) : (s.submit q o p f).kept.1 = true := by
  unfold State.submit; dsimp only; split
  · exact h
  · split
    · simp [h]
    · split
      · simp [h]
      · split
        · exact State.interpretWith_kept _ _ _ hf (by simp [h])
        · exact State.serve_kept _ (by simp [h])
@[simp] theorem State.undefinedOpcode_kept (s : State) (a1) (a2) (a3) (h : s.kept.1 = true) : (State.undefinedOpcode s a1 a2 a3).kept.1 = true := by
  unfold State.undefinedOpcode; split
  · exact h
  · exact State.submit_kept _ _ _ _ _ (hostCmd_kept _) h
@[simp] theorem State.b0Head_kept (s : State) (a1) (a2) (a3) (h : s.kept.1 = true) : (State.b0Head s a1 a2 a3).kept.1 = true := by
  unfold State.b0Head; split
  · exact h
  · refine State.serve_kept _ ?_
    rw [State.headWrite_kept, State.modHost_canonical _ _ h fun _ hx => memWrites_wf _ _ hx]; exact h
@[simp] theorem State.tailWrite_kept (s : State) (a1) (a2) (a3) (h : s.kept.1 = true) : (State.tailWrite s a1 a2 a3).kept.1 = true := by
  unfold State.tailWrite; dsimp only; (repeat' split) <;> simp [h]
@[simp] theorem State.berthCfg_kept (s : State) (a1) (a2) (a3) : (State.berthCfg s a1 a2 a3).kept = s.kept := by
  unfold State.berthCfg; simp
@[simp] theorem State.berthHoldoff_kept (s : State) (a1) : (State.berthHoldoff s a1).kept = s.kept := by
  unfold State.berthHoldoff; (repeat' split) <;> simp
@[simp] theorem State.berthOverflow_kept (s : State) : (State.berthOverflow s).kept = s.kept := by unfold State.berthOverflow; simp
@[simp] theorem State.hostReset_kept (s : State) : (State.hostReset s).kept = s.kept := by unfold State.hostReset; simp [kept_fst, kept_snd]
@[simp] theorem State.hostCtrl_kept (s : State) (a1) : (State.hostCtrl s a1).kept = s.kept := by unfold State.hostCtrl; simp
@[simp] theorem State.pcieReset_kept (s : State) (a1) : (State.pcieReset s a1).kept = s.kept := by unfold State.pcieReset; simp
@[simp] theorem State.pcieUp_kept (s : State) (a1) : (State.pcieUp s a1).kept = s.kept := by unfold State.pcieUp; simp
@[simp] theorem State.windowWrite_kept (s : State) (a1) (a2) (a3) (h : s.kept.1 = true) : (State.windowWrite s a1 a2 a3).kept = s.kept := by
  refine s.modHost_canonical _ h fun x hx => ?_
  suffices ∀ l : List Nat, ∀ m, Memory.wf m = true → Memory.wf (l.foldl (fun m i =>
      if a2.testBit i ∧ a1 + i < 131072 then memWrite m (a1 + i) (BitVec.ofNat 8 (a3 / 256 ^ i)) else m) m) = true from this _ _ hx
  intro l
  induction l with
  | nil => exact fun _ h => h
  | cons i l ih =>
    refine fun m hm => ih _ ?_
    beta_reduce; split
    · exact memWrite_wf _ _ _ hm
    · exact hm
@[simp] theorem State.returns_kept (s : State) (a1) : (State.returns s a1).kept = s.kept := by unfold State.returns; simp
@[simp] theorem State.clearRc_kept (s : State) (a1) : (State.clearRc s a1).kept = s.kept := by
  unfold State.clearRc; (repeat' split) <;> simp
@[simp] theorem State.hostRead_kept (s : State) (a1) : (State.hostRead s a1).kept = s.kept := by
  unfold State.hostRead; (repeat' split) <;> simp
@[simp] theorem State.writeRw_kept (s : State) (a1) (a2) : (State.writeRw s a1 a2).kept = s.kept := by unfold State.writeRw; simp
@[simp] theorem State.writeW1c_kept (s : State) (a1) (a2) : (State.writeW1c s a1 a2).kept = s.kept := by unfold State.writeW1c; simp
@[simp] theorem State.msixWrite_kept (s : State) (a1) (a2) : (State.msixWrite s a1 a2).kept = s.kept := by unfold State.msixWrite; simp
@[simp] theorem State.berthWrite_kept (s : State) (a1) (a2) (a3) (h : s.kept.1 = true) : (State.berthWrite s a1 a2 a3).kept.1 = true := by
  unfold State.berthWrite; dsimp only; (repeat' split) <;> simp [h]
@[simp] theorem State.hostWrite_kept (s : State) (a1) (a2) (a3) (h : s.kept.1 = true) : (State.hostWrite s a1 a2 a3).kept.1 = true := by
  have hk : ∀ u : State, u.kept = s.kept → u.kept.1 = true := fun u e => by rw [e]; exact h
  have hi : ∀ (c : Prop) [Decidable c] (a b : State), a.kept.1 = true → b.kept.1 = true → (if c then a else b).kept.1 = true := by
    intro c _ a b ha hb; split <;> assumption
  unfold State.hostWrite
  refine hi _ _ _ h ?_
  refine hi _ _ _ (hk _ (State.bump_kept ..)) ?_
  refine hi _ _ _ (State.berthWrite_kept _ _ _ _ h) ?_
  refine hi _ _ _ (hk _ (State.msixWrite_kept ..)) ?_
  refine hi _ _ _ (hk _ (State.spWrite_kept ..)) ?_
  refine hi _ _ _ (hk _ (State.hostCtrl_kept ..)) ?_
  refine hi _ _ _ (hk _ (State.tdacCtrl_kept ..)) ?_
  refine hi _ _ _ (hi _ _ _ h (hk _ (State.writeRw_kept ..))) ?_
  refine hi _ _ _ (hk _ (State.testmarkWrite_kept ..)) ?_
  refine hi _ _ _ (hk _ (State.testmarkWrite_kept ..)) ?_
  refine hi _ _ _ (hk _ (State.tmReset_kept ..)) ?_
  refine hi _ _ _ (hk _ (State.tmForce_kept ..)) ?_
  refine hi _ _ _ (hk _ (State.tmForce_kept ..)) ?_
  refine hi _ _ _ (hk _ (State.xchkWrite_kept ..)) ?_
  refine hi _ _ _ (hk _ (State.leapWrite_kept ..)) ?_
  refine hi _ _ _ (hk _ (State.mdioWrite_kept ..)) ?_
  refine hi _ _ _ (hk _ (State.todWrite_kept ..)) ?_
  refine hi _ _ _ (hk _ (State.todWrite_kept ..)) ?_
  split
  · exact hk _ (State.injWrite_kept ..)
  · exact hk _ (State.auxTrgCfg_kept ..)
  · exact hk _ (State.pstreamWrite_kept ..)
  · extract_lets s1 s2
    have h1 : s1.kept = s.kept := State.kept_ite rfl (State.spWrite_kept ..)
    have h2 : s2.kept = s.kept := by simp only [s2, State.writeW1c_kept, State.writeRw_kept, h1]
    exact hi _ _ _ (hk _ (by rw [State.alive_kept, h2])) (hk _ h2)
@[simp] theorem State.registerWrite_kept (s : State) (a1) (a2) (a3) (a4) (h : s.kept.1 = true) : (State.registerWrite s a1 a2 a3 a4).kept.1 = true := by
  unfold State.registerWrite; (repeat' split) <;> simp [h]
@[simp] theorem State.supplyReset_kept (s : State) (a1) (h : s.kept.1 = true) : (State.supplyReset s a1).kept = s.kept := by
  unfold State.supplyReset; split <;> simp [h]
@[simp] theorem State.rstLow_kept (s : State) (h : s.kept.1 = true) : (State.rstLow s).kept = s.kept := by unfold State.rstLow; simp [h]
@[simp] theorem State.uvEnter_kept (s : State) (a1) : (State.uvEnter s a1).kept = s.kept := by unfold State.uvEnter; simp
@[simp] theorem State.vafeSpoils_kept (s : State) : (State.vafeSpoils s).kept = s.kept := by unfold State.vafeSpoils; simp
@[simp] theorem State.vmainWarn_kept (s : State) : (State.vmainWarn s).kept = s.kept := by unfold State.vmainWarn; simp
@[simp] theorem State.vmainClear_kept (s : State) (h : s.kept.1 = true) : (State.vmainClear s).kept.1 = true := by
  unfold State.vmainClear; dsimp only; split
  · exact h
  · refine State.serve_kept _ ?_
    (repeat' split) <;> simp [h]
@[simp] theorem State.vafeLow_kept (s : State) : (State.vafeLow s).kept = s.kept := by unfold State.vafeLow; simp
@[simp] theorem State.vafeClear_kept (s : State) : (State.vafeClear s).kept = s.kept := by unfold State.vafeClear; simp
@[simp] theorem State.vafeLost_kept (s : State) : (State.vafeLost s).kept = s.kept := by unfold State.vafeLost; split <;> simp
@[simp] theorem State.vafeReturn_kept (s : State) (a1) : (State.vafeReturn s a1).kept = s.kept := by unfold State.vafeReturn; simp
@[simp] theorem State.startEngines_kept (s : State) (a1) : (State.startEngines s a1).kept = s.kept := by
  unfold State.startEngines; apply forN_kept; intro i s; dsimp only; split <;> simp
@[simp] theorem State.startMacro_kept (s : State) (a1) (a2) : (State.startMacro s a1 a2).kept = s.kept := by unfold State.startMacro; simp
@[simp] theorem State.findLatches_kept (s : State) (a1) : (State.findLatches s a1).kept = s.kept := by unfold State.findLatches; simp
@[simp] theorem State.startTime_kept (s : State) (a1) : (State.startTime s a1).kept = s.kept := by unfold State.startTime; simp
@[simp] theorem State.startGrid_kept (s : State) (a1) (a2) : (State.startGrid s a1 a2).kept = s.kept := by unfold State.startGrid; simp
@[simp] theorem State.autocal_kept (s : State) : (State.autocal s).kept = s.kept := by unfold State.autocal; simp
@[simp] theorem State.protect_kept (s : State) : (State.protect s).kept = s.kept := by unfold State.protect; simp
@[simp] theorem State.norApply_kept (s : State) (a1) : (State.norApply s a1).kept = s.kept := by unfold State.norApply; simp
@[simp] theorem State.norAccess_kept (s : State) (a1) : (State.norAccess s a1).kept = s.kept := by unfold State.norAccess; simp
@[simp] theorem State.norDone_kept (s : State) : (State.norDone s).kept = s.kept := by unfold State.norDone; split <;> simp
@[simp] theorem State.norCut_kept (s : State) : (State.norCut s).kept = s.kept := by unfold State.norCut; split <;> simp [kept_fst, kept_snd]
@[simp] theorem State.powerOn_kept (s : State) : (State.powerOn s).kept = s.kept := by unfold State.powerOn; simp
@[simp] theorem State.live_kept (s : State) (f : State → State) (h : ∀ s : State, (f s).kept = s.kept) : (s.live f).kept = s.kept := by
  unfold State.live; split
  · exact h s
  · rfl
@[simp] theorem State.viaDie_kept (s : State) (f : State → State) (h : ∀ s : State, (f s).kept = s.kept) :
    (s.viaDie f).kept = s.kept := by
  unfold State.viaDie; split
  · exact h s
  · rfl
@[simp] theorem State.linkDown_kept (s : State) : (State.linkDown s).kept = s.kept := by unfold State.linkDown; simp [kept_fst, kept_snd]
@[simp] theorem State.readbackSeen_kept (s : State) (a1) (a2) (a3) : (State.readbackSeen s a1 a2 a3).kept = s.kept := by
  unfold State.readbackSeen; simp
@[simp] theorem State.claimSeen_kept (s : State) (a1) (a2) : (State.claimSeen s a1 a2).kept = s.kept := by unfold State.claimSeen; simp
@[simp] theorem State.w1cRow_kept (s : State) (a1) (a2) (a3) : (State.w1cRow s a1 a2 a3).kept = s.kept := by unfold State.w1cRow; simp
@[simp] theorem State.auxResultRead_kept (s : State) (a1) (a2) : (State.auxResultRead s a1 a2).kept = s.kept := by
  unfold State.auxResultRead; simp
@[simp] theorem State.bayTickRead_kept (s : State) (a1) : (State.bayTickRead s a1).kept = s.kept := by unfold State.bayTickRead; simp
@[simp] theorem State.tapCapture_kept (s : State) : (State.tapCapture s).kept = s.kept := by unfold State.tapCapture; simp [kept_fst, kept_snd]
@[simp] theorem State.tapUpdate_kept (s : State) : (State.tapUpdate s).kept = s.kept := by unfold State.tapUpdate; simp [kept_fst, kept_snd]
@[simp] theorem State.tapRise_kept (s : State) (a1) : (State.tapRise s a1).kept = s.kept := by
  unfold State.tapRise; split <;> simp [kept_fst, kept_snd]
@[simp] theorem State.tapFall_kept (s : State) : (State.tapFall s).kept = s.kept := by
  unfold State.tapFall; split <;> simp [kept_fst, kept_snd]
@[simp] theorem State.tapClock_kept (s : State) (a1) : (State.tapClock s a1).kept = s.kept := by
  unfold State.tapClock; simp [kept_fst, kept_snd]
@[simp] theorem State.tapClocks_kept (s : State) (a1) : (State.tapClocks s a1).kept = s.kept := by unfold State.tapClocks; simp
@[simp] theorem State.grpShown_kept (s : State) : (State.grpShown s).kept = s.kept := by unfold State.grpShown; simp [kept_fst, kept_snd]
@[simp] theorem State.shown_kept (s : State) : (State.shown s).kept = s.kept := by unfold State.shown; simp [kept_fst, kept_snd]
@[simp] theorem State.left_kept (a0 s : State) : (State.left a0 s).kept = s.kept := rfl
@[simp] theorem State.withFetchWord_kept (s : State) (a1) (a2) : (State.withFetchWord s a1 a2).kept = s.kept := by
  unfold State.withFetchWord; split <;> simp [kept_fst, kept_snd]
end Sys2Proof.Machine


/-! ### Who changes the settings in force, and that the berth SRAM stays canonical (O5, O6) -/
namespace Sys2Proof.Machine
open Reg

theorem goesTo_done {s u : State} {P : State → Prop} (h : P (s.left u)) : GoesTo (s.done u) P := ⟨_, rfl, h⟩

theorem goesTo_step {s : State} {c : Instr} {rest : List Instr} (hq : s.pending = c :: rest) {P : State → Prop}
    (h : GoesTo (exec c { s with pending := rest }) P) : GoesTo (step s) P := by
  unfold step; rw [hq]; exact h

/-! #### The commands that do not bring settings -/

/-- A command that does not bring settings leaves the settings in force alone (R539, R555). -/
theorem exec_settings (c : Instr) (s : State) (hc : bringsSettings c = false) : GoesTo (exec c s) fun t => t.settings = s.settings := by
  cases c
  case gridTick | settingsSwap | startUp | startUpSettings => cases hc
  all_goals refine goesTo_done ?_; simp [State.submit_settings]

theorem State.live_canonical (s : State) (f : State → State) (h : s.kept.1 = true) (hf : ∀ s : State, s.kept.1 = true → (f s).kept.1 = true) :
    (s.live f).kept.1 = true := by
  unfold State.live; split
  · exact hf s h
  · exact h

/-- It keeps the berth SRAM canonical too. -/
theorem exec_canonical (c : Instr) (s : State) (hc : bringsSettings c = false) (h : s.kept.1 = true) :
    GoesTo (exec c s) fun t => t.kept.1 = true := by
  cases c
  case gridTick | settingsSwap | startUp | startUpSettings => cases hc
  case svFrame f =>
    exact goesTo_done (State.live_canonical _ _ h fun u hu => by rw [State.measureAll_kept] <;> simp [hu])
  all_goals refine goesTo_done ?_; simp +contextual [State.submit_kept, State.live_canonical, apply_ite Prod.fst, h]

/-! #### The swap (R557) -/

theorem State.swapNext_eq_some {s : State} {p : PendRec} (h : s.swapNext = some p) : s.nv.cust.pend = some p := by
  unfold State.swapNext at h; split at h
  · cases h
  · exact (Option.filter_eq_some_iff.mp h).1

@[simp] theorem State.recCatch_kept (s : State) (i n : Nat) : (s.recCatch i n).kept = s.kept := by
  induction n generalizing s with
  | zero => rfl
  | succ n ih => simp only [State.recCatch]; split <;> simp [ih]

theorem State.swapBank_settings (s : State) (p : PendRec) : (s.swapBank p).settings = p.bank := by
  unfold State.swapBank; dsimp only; simp

theorem State.swapBank_canonical (s : State) (p : PendRec) : (s.swapBank p).kept.1 = s.kept.1 := by
  unfold State.swapBank; dsimp only; simp [kept_fst]
  refine (congrArg Prod.fst (forN_kept _ _ _ fun i u => ?_)).trans ?_
  · split <;> simp
  · simp

theorem State.settingsSwap_settings (s : State) : s.settingsSwap.settings = s.settings ∨ ∃ p, s.nv.cust.pend = some p ∧ s.settingsSwap.settings = p.bank := by
  unfold State.settingsSwap; split
  · next p h => exact .inr ⟨p, State.swapNext_eq_some h, s.swapBank_settings p⟩
  · exact .inl rfl

@[simp] theorem State.settingsSwap_canonical (s : State) : s.settingsSwap.kept.1 = s.kept.1 := by
  unfold State.settingsSwap; split
  · exact s.swapBank_canonical _
  · rfl

/-! #### The grid's tick -/

/-- What owes before the swap at a tick: the tracker's decision of the cycle that ends, and what the tick's instant brings. -/
def State.toSwap (s : State) (codes : List (Nat × Codes)) : State :=
  let u := if s.grid.nextN % s.np == 0 then s.trackFull else s
  u.beforeTick codes u.grid.nextT

theorem State.toSwap_settings (s : State) (codes : List (Nat × Codes)) : (s.toSwap codes).settings = s.settings := by
  unfold State.toSwap; simp

theorem State.toSwap_kept (s : State) (codes : List (Nat × Codes)) : (s.toSwap codes).kept = s.kept := by
  unfold State.toSwap; simp

theorem State.toSwap_cust (s : State) (codes : List (Nat × Codes)) : (s.toSwap codes).nv.cust = s.nv.cust := by
  rw [kept_snd, State.toSwap_kept, kept_snd]

/-- The swap at a tick brings the pending bank (R557). -/
theorem State.toSwap_swap (s : State) (codes : List (Nat × Codes)) : (s.toSwap codes).settingsSwap.settings = s.settings
    ∨ ∃ p, s.nv.cust.pend = some p ∧ (s.toSwap codes).settingsSwap.settings = p.bank := by
  have h := (s.toSwap codes).settingsSwap_settings
  rwa [State.toSwap_settings, State.toSwap_cust] at h

theorem State.gridTick_settings (s : State) (codes : List (Nat × Codes)) :
    (s.gridTick codes).settings = s.settings ∨ (s.gridTick codes).settings = (s.toSwap codes).settingsSwap.settings := by
  unfold State.gridTick; dsimp only; split
  · exact .inl rfl
  · right; simp [State.toSwap]

theorem State.gridTick_canonical (s : State) (codes : List (Nat × Codes)) (h : s.kept.1 = true) : (s.gridTick codes).kept.1 = true := by
  unfold State.gridTick; dsimp only; split
  · exact h
  · simp [h]

/-! #### Start-up (R559, R560, R658, R661) -/

/-- The banks that start-up may find in custody. -/
def CustNv.Holds (c : CustNv) (k : Bank) : Prop :=
  k = c.bank ∨ k = {} ∨ (∃ p, c.pend = some p ∧ k = p.bank) ∨ ∃ o, c.old = some o ∧ (k = o.bank ∨ ∃ p, o.pend = some p ∧ k = p.bank)


theorem CustNv.found_bank_pend (c : CustNv) (bad : BitVec 2) :
    c.Holds (c.found bad).bank ∧ ∀ p, (c.found bad).pend = some p → c.Holds p.bank := by
  have hc : c.Holds c.bank ∧ ∀ p, c.pend = some p → c.Holds p.bank := ⟨.inl rfl, fun p hp => .inr (.inr (.inl ⟨p, hp, rfl⟩))⟩
  unfold CustNv.found; dsimp only; split
  · exact hc
  · split
    · exact hc
    · next o ho =>
      have ho : c.old = some o := by split at ho; cases ho; exact ho
      exact ⟨.inr (.inr (.inr ⟨o, ho, .inl rfl⟩)), fun p hp => .inr (.inr (.inr ⟨o, ho, .inr ⟨p, hp, rfl⟩⟩))⟩

theorem State.setChamber_bank (s : State) (n : Nat) : (s.setChamber n).nv.cust.bank = s.nv.cust.bank :=
  congrArg (fun x => x.2.bank) (State.custRegs_kept ((s.wr SET_CHAMBER.STATE n).modCustNv fun c => { c with work := n != 0 }))

/-- Custody's bank in force after its decision is one that it held (R559, R560). -/
theorem State.custStart_bank (s : State) (v : StartView) : s.nv.cust.Holds (s.custStart v).nv.cust.bank := by
  obtain ⟨hbank, hpend⟩ := s.nv.cust.found_bank_pend v.custBad
  unfold State.custStart; extract_lets u c u1 u2
  have hu : u.nv.cust = s.nv.cust.found v.custBad := rfl
  split
  · exact .inr (.inl (by simp [u1]))
  · split
    · split <;> simpa [u2, hu] using hbank
    · next p hp =>
      have hp : s.nv.cust.Holds p.bank := hpend p (by simpa [c, hu] using hp)
      split
      · rw [State.setChamber_bank]; simpa [u2, hu] using hbank
      · extract_lets u3
        have h3 : u3.nv.cust.bank = p.bank := rfl
        split
        · rw [h3]; exact hp
        · simpa [h3] using hp

@[simp] theorem State.custStart_settings (s : State) (v : StartView) : (s.custStart v).settings = s.settings := by
  unfold State.custStart; dsimp only; (repeat' split) <;> simp

@[simp] theorem State.custStart_canonical (s : State) (v : StartView) : (s.custStart v).kept.1 = s.kept.1 := by
  unfold State.custStart; dsimp only; (repeat' split) <;> simp

@[simp] theorem State.applyStructure_settings (s : State) : s.applyStructure.settings = s.nv.cust.bank.structure' := by
  unfold State.applyStructure; dsimp only; split <;> simp

@[simp] theorem State.applyStructure_kept (s : State) : s.applyStructure.kept = s.kept := by
  unfold State.applyStructure; dsimp only; split <;> simp [kept_fst, kept_snd]


/-- What start-up holds in custody where it applies the structure fields is what its decision left (R559, R658). -/
theorem State.restore_settings (s : State) (v : StartView) : ∃ k, s.nv.cust.Holds k ∧ (s.restore v).settings = k.structure' := by
  unfold State.restore; extract_lets u1 u2 u3 u4 u5 k u6 u7 u8 u9 u10
  have h4 : u4.nv.cust = s.nv.cust := congrArg Prod.snd (show u4.kept = s.kept by simp [u4, u3, u2, u1])
  have hk : u6.nv.cust.bank = u5.nv.cust.bank := rfl
  refine ⟨u5.nv.cust.bank, h4 ▸ u4.custStart_bank v, ?_⟩
  simp [u10, u9, u8, u7, hk]

theorem State.restore_canonical (s : State) (v : StartView) : (s.restore v).kept.1 = s.kept.1 := by
  unfold State.restore; dsimp only; simp

theorem State.logicReset_cust (s : State) (c : Nat) (b : Bool) : (s.logicReset c b).nv.cust = s.nv.cust := rfl

theorem State.startUp_settings (s : State) (v : StartView) :
    (s.startUp v).settings = s.settings ∨ ∃ k, s.nv.cust.Holds k ∧ (s.startUp v).settings = k.structure' := by
  unfold State.startUp; extract_lets go u1 u2 u3 u4
  have h1 : u1.settings = s.settings ∧ u1.nv.cust = s.nv.cust := by
    simp only [u1]; split <;> simp [State.logicReset_cust]
  have h4 : u4.settings = s.settings ∧ u4.nv.cust = s.nv.cust := by
    obtain ⟨hs, hc⟩ := h1
    simp only [u4, u3, u2]; split <;> simp [hs, hc]
  clear_value u4
  split
  · exact .inl rfl
  · split
    · exact .inl (by simp [h4])
    · next slot ver rb _ =>
      right
      extract_lets u5 u6 u7 t0 u8 u9
      have h6 : u6.nv.cust = s.nv.cust := (congrArg Prod.snd (show u6.kept = u4.kept by simp [u6, u5])).trans h4.2
      obtain ⟨k, hk, hs⟩ := u6.restore_settings v
      exact ⟨k, h6 ▸ hk, by simp [u9, u8, u7, hs]⟩

theorem State.startUp_canonical (s : State) (v : StartView) (h : s.kept.1 = true) : (s.startUp v).kept.1 = true := by
  unfold State.startUp; dsimp only; (repeat' split) <;> simp [h, State.restore_canonical]

@[simp] theorem State.applyBank_settings (s : State) : s.applyBank.settings = s.nv.cust.bank := by
  unfold State.applyBank; dsimp only; simp

@[simp] theorem State.applyBank_canonical (s : State) : s.applyBank.kept.1 = s.kept.1 := by
  unfold State.applyBank; dsimp only; simp [kept_fst]

theorem State.startSettings_settings (s : State) : s.startSettings.settings = s.settings ∨ s.startSettings.settings = s.nv.cust.bank := by
  unfold State.startSettings; (repeat' split) <;> simp

theorem State.startSettings_canonical (s : State) : s.startSettings.kept.1 = s.kept.1 := by
  unfold State.startSettings; (repeat' split) <;> simp


/-! #### The obligations -/

/-- A step's effect on settings and memory: the front command's, or an idle cycle's. -/
theorem step_canonical (s : State) (h : s.kept.1 = true) : GoesTo (step s) fun t => t.kept.1 = true := by
  cases hq : s.pending with
  | nil =>
    refine ⟨s.left (s.live State.clockCycle), by simp [step, hq, State.idle, State.done], ?_⟩
    simp [State.live_kept, h]
  | cons c rest =>
    refine goesTo_step hq ?_
    cases hc : bringsSettings c with
    | false => exact exec_canonical c _ hc h
    | true =>
      cases c
      case gridTick codes => exact goesTo_done (State.live_canonical _ _ h fun u hu => u.gridTick_canonical _ hu)
      case settingsSwap => exact goesTo_done (State.live_canonical _ _ h fun u hu => u.settingsSwap_canonical.trans hu)
      case startUp v => exact goesTo_done (State.startUp_canonical _ v h)
      case startUpSettings => exact goesTo_done (State.live_canonical _ _ h fun u hu => u.startSettings_canonical.trans hu)
      all_goals cases hc

/-- Settles O6: every operation keeps a canonical berth SRAM canonical, the grid's tick, the swap and start-up too. -/
theorem memoryStaysCanonical : Obligations.MemoryStaysCanonical := by
  intro s h
  exact step_canonical s h

/-- A part that runs takes what the effect brings; one that does not keeps its settings. -/
theorem State.live_settings_cases (s : State) (f : State → State) {P : Bank → Prop} (hs : P s.settings) (hf : P (f s).settings) :
    P (s.live f).settings := by
  unfold State.live; split
  · exact hf
  · exact hs

theorem settingsStay : Claim.settingsStay := by
  intro s c rest hq hc
  exact goesTo_step hq (exec_settings c _ hc)

theorem swapBringsPendingBank : Claim.swapBringsPendingBank := by
  intro s c rest hq hc
  refine goesTo_step hq ?_
  let u : State := { s with pending := rest }
  rcases hc with rfl | ⟨codes, rfl⟩
  · exact goesTo_done (u.live_settings_cases _ (P := fun b => b = s.settings ∨ ∃ p, s.nv.cust.pend = some p ∧ b = p.bank) (.inl rfl)
      u.settingsSwap_settings)
  · refine goesTo_done (u.live_settings_cases _ (P := fun b => b = s.settings ∨ ∃ p, s.nv.cust.pend = some p ∧ b = p.bank) (.inl rfl) ?_)
    rcases u.gridTick_settings (codes.map fun x => (x.1.val, x.2)) with h | h
    · exact .inl h
    · rw [h]; exact u.toSwap_swap _

theorem startUpBringsCustodyBank : Claim.startUpBringsCustodyBank := by
  intro s c rest hq
  let u : State := { s with pending := rest }
  constructor
  · rintro v rfl
    exact goesTo_step hq (goesTo_done (u.startUp_settings v))
  · rintro rfl
    refine goesTo_step hq (goesTo_done (u := u.live fun s => s.startSettings) ?_)
    rw [State.left_settings]
    exact u.live_settings_cases _ (P := fun b => b = s.settings ∨ b = s.nv.cust.bank) (.inl rfl) u.startSettings_settings

/-- Settles O5: no command but the four that bring settings changes them, and those bring a bank that custody holds. -/
theorem settingsInForce : Obligations.SettingsInForce := ⟨settingsStay, swapBringsPendingBank, startUpBringsCustodyBank⟩

end Sys2Proof.Machine

/-! ### Bytes of the berth SRAM after writes (R573) -/
namespace Sys2Proof.Machine
open Reg

/-- No byte is listed at or below the bound of a canonical memory. -/
theorem memRead_of_above {m : List Host.Cell} {b a : Nat} (hm : Memory.wfAbove (some b) m = true) (hab : a ≤ b) : memRead m a = memDefault := by
  cases m with
  | nil => rfl
  | cons p r =>
    obtain ⟨k, v⟩ := p
    simp only [Memory.wfAbove, Bool.and_eq_true, decide_eq_true_eq] at hm
    have hk : a < k := Nat.lt_of_le_of_lt hab hm.1.1
    simp [memRead, hk, Nat.ne_of_lt hk]

theorem memRead_memCons_same {r : List Host.Cell} {a : Nat} (v : BitVec 8) (hr : Memory.wfAbove (some a) r = true) :
    memRead (memCons a v r) a = v := by
  unfold memCons; split
  · next hv => rw [memRead_of_above hr (Nat.le_refl a), hv]
  · simp [memRead]

theorem memRead_memCons_other {r : List Host.Cell} {a b : Nat} (v : BitVec 8) (hr : Memory.wfAbove (some a) r = true) (hb : b ≠ a) :
    memRead (memCons a v r) b = memRead r b := by
  unfold memCons; split
  · rfl
  · simp only [memRead, if_neg hb]
    split
    · next hlt => rw [memRead_of_above hr (Nat.le_of_lt hlt)]
    · rfl

theorem memRead_memWrite {m : List Host.Cell} {lo : Option Nat} (hm : Memory.wfAbove lo m = true) (a b : Nat) (v : BitVec 8) :
    memRead (memWrite m a v) b = if b = a then v else memRead m b := by
  induction m generalizing lo with
  | nil =>
    split
    · next h => subst h; exact memRead_memCons_same v rfl
    · next h => exact memRead_memCons_other v rfl h
  | cons p r ih =>
    obtain ⟨k, w⟩ := p
    simp only [Memory.wfAbove, Bool.and_eq_true] at hm
    obtain ⟨⟨-, hw⟩, hr⟩ := hm
    unfold memWrite
    by_cases hak : a = k
    · subst hak
      rw [if_pos rfl]
      split
      · next h => subst h; exact memRead_memCons_same v hr
      · next h =>
        rw [memRead_memCons_other v hr h, memRead, if_neg h]
        split
        · next hlt => exact memRead_of_above hr (Nat.le_of_lt hlt)
        · rfl
    · rw [if_neg hak]
      by_cases hlt : a < k
      · rw [if_pos hlt]
        have hup : Memory.wfAbove (some a) ((k, w) :: r) = true := by simp [Memory.wfAbove, hlt, hr, of_decide_eq_true hw]
        split
        · next h => subst h; exact memRead_memCons_same v hup
        · next h => exact memRead_memCons_other v hup h
      · rw [if_neg hlt]
        simp only [memRead, ih hr]
        by_cases hb : b = a
        · subst hb
          rw [if_neg hak, if_neg hlt, if_pos rfl, if_pos rfl]
        · simp only [if_neg hb]

/-- A byte that a ring's write does not reach reads as before. -/
theorem memRead_ringWrite_other {m : List Host.Cell} (hm : Memory.wf m = true) (base size x a : Nat) (l : List Byte)
    (ha : ∀ i < l.length, a ≠ base + (x + i) % size) : memRead (ringWrite m base size x l) a = memRead m a := by
  induction l generalizing m x with
  | nil => rfl
  | cons b l ih =>
    rw [ringWrite, ih (memWrite_wf m _ b hm) (x + 1) fun i hi => by
      have := ha (i + 1) (by simpa using hi); rwa [← Nat.add_assoc, Nat.add_right_comm] at this]
    have h0 := ha 0 (by simp)
    rw [memRead_memWrite hm, if_neg (by simpa using h0)]

/-- Reading back what was written into a ring that holds it. -/
theorem ringRead_ringWrite {m : List Host.Cell} (hm : Memory.wf m = true) (base size x : Nat) (l r : List Byte) (hl : l.length + r.length ≤ size) :
    ringRead (ringWrite m base size x (l ++ r)) base size x l.length = l := by
  induction l generalizing m x with
  | nil => rfl
  | cons b l ih =>
    simp only [List.cons_append, ringWrite, List.length_cons, ringRead] at hl ⊢
    rw [ih (memWrite_wf m _ b hm) (x + 1) (by omega), memRead_ringWrite_other (memWrite_wf m _ b hm), memRead_memWrite hm, if_pos rfl]
    intro i hi heq
    have hmod : x % size = (x + 1 + i) % size := by omega
    have hlt : i + 1 < size := by simp at hi; omega
    have : (i + 1) % size = 0 := by
      have h1 : (x + (i + 1)) % size = (x + 0) % size := by rw [Nat.add_zero]; rw [show x + (i + 1) = x + 1 + i by omega]; exact hmod.symm
      have := Nat.ModEq.add_left_cancel' x h1
      simpa [Nat.ModEq] using this
    rw [Nat.mod_eq_of_lt hlt] at this
    omega

end Sys2Proof.Machine

/-! ### A reply in B1, and a packet that is answered at once (R573 to R575, R581 to R587) -/
namespace Sys2Proof.Machine
open Reg

/-! #### Frames of the berths' operations -/

section
variable {s t : State} {parts : List Part} {keys : List Nat}

/-- A change of the host interface that leaves the berth SRAM. -/
theorem State.Frame.withHost (h : s.Frame t parts keys) (hhost : Part.host ∈ parts) {x : HostSt} (hx : x.mem = t.host.mem) :
    s.Frame { t with host := x } parts keys := by
  refine ⟨fun p hp => ?_, h.2⟩
  have hsame := h.1 p hp
  cases p with
  | host => contradiction
  | mem => exact hx.trans hsame
  | _ => exact hsame

/-- A change of the host interface and of the berth SRAM. -/
theorem State.Frame.withHostMem (h : s.Frame t parts keys) (hhost : Part.host ∈ parts) (hmem : Part.mem ∈ parts) (x : HostSt) :
    s.Frame { t with host := x } parts keys := by
  refine ⟨fun p hp => ?_, h.2⟩
  have hsame := h.1 p hp
  cases p with
  | host => contradiction
  | mem => contradiction
  | _ => exact hsame

theorem State.Frame.raiseVec (h : s.Frame t parts keys) (hhost : Part.host ∈ parts) (hk : HOST_IRQ_PEND.MASK.key 0 0 ∈ keys) (v : Nat) :
    s.Frame (t.raiseVec v) parts keys := by
  unfold State.raiseVec; dsimp only; (repeat' split)
  · exact (h.wr hk).withHost hhost rfl
  · exact (h.wr hk).withHost hhost rfl
  · exact h.wr hk

theorem State.Frame.berthIrq (h : s.Frame t parts keys) (hhost : Part.host ∈ parts) (hk : HOST_IRQ_PEND.MASK.key 0 0 ∈ keys) (b : Nat) :
    s.Frame (t.berthIrq b) parts keys := by
  unfold State.berthIrq; dsimp only; (repeat' split)
  · exact h
  · exact (h.raiseVec hhost hk _).withHost hhost rfl
  · exact h

theorem State.Frame.setMsgs (h : s.Frame t parts keys) (hhost : Part.host ∈ parts) {b : Nat} (hk : HOST_BERTH_CNT.VALUE.key b 0 ∈ keys)
    (l : List Msg) : s.Frame (t.setMsgs b l) parts keys :=
  (h.withHost hhost (x := { t.host with msgs := tset t.host.msgs b l }) rfl).wr hk

/-- The keys that a message put into berth `b` writes. -/
def appendKeys (b : Nat) : List Nat := [HOST_BERTH_HEAD.VALUE.key b 0, HOST_BERTH_CNT.VALUE.key b 0, HOST_IRQ_PEND.MASK.key 0 0]

theorem State.Frame.append (h : s.Frame t parts keys) (hhost : Part.host ∈ parts) (hmem : Part.mem ∈ parts) {b : Nat} (hk : appendKeys b ⊆ keys)
    (l : List Byte) : s.Frame (t.append b l) parts keys :=
  (((h.withHostMem hhost hmem _).setMsgs hhost (hk (by simp [appendKeys])) _).wr (hk (by simp [appendKeys]))).berthIrq hhost
    (hk (by simp [appendKeys])) b

/-- The keys of the credits (R583). -/
def creditKeys : List Nat := [HOST_CMD_CREDIT.VALUE.key 0 0, HOST_BERTH_CNT.VALUE.key 0 0, HOST_STATUS.CREDIT_OVR.key 0 0]

theorem State.Frame.setCredits (h : s.Frame t parts keys) (hk : creditKeys ⊆ keys) : s.Frame t.setCredits parts keys := by
  have hcnt := (h.wr (v := 32 - t.creditsUsed) (hk (show HOST_CMD_CREDIT.VALUE.key 0 0 ∈ creditKeys by simp [creditKeys]))).wr
    (v := t.host.waiting.length) (hk (show HOST_BERTH_CNT.VALUE.key 0 0 ∈ creditKeys by simp [creditKeys]))
  have hovr : HOST_STATUS.CREDIT_OVR.key 0 0 ∈ keys := hk (by simp [creditKeys])
  unfold State.setCredits; dsimp only; (repeat' split)
  · exact hcnt.wr hovr
  · exact hcnt.wr hovr
  · exact hcnt

/-- The keys that a reply writes. -/
def replyKeys : List Nat := appendKeys 1 ++ creditKeys

theorem State.Frame.reply (h : s.Frame t parts keys) (hhost : Part.host ∈ parts) (hmem : Part.mem ∈ parts) (hk : replyKeys ⊆ keys)
    (op tag ifver : Nat) (st : Status) (data : List Nat) (resync : Bool) : s.Frame (t.reply op tag ifver st data resync) parts keys :=
  (h.append hhost hmem (fun _ hx => hk (List.mem_append_left _ hx)) _).setCredits fun _ hx => hk (List.mem_append_right _ hx)

end

/-! #### The host interface after a message and after a reply -/

/-- Raising a vector changes what has been sent alone. -/
theorem State.raiseVec_host (s : State) (v : Nat) :
    (s.raiseVec v).host = { s.host with msixPba := (s.raiseVec v).host.msixPba, sent := (s.raiseVec v).host.sent } := by
  unfold State.raiseVec; dsimp only; (repeat' split) <;> rfl

theorem State.berthIrq_host (s : State) (b : Nat) : (s.berthIrq b).host =
    { s.host with armed := (s.berthIrq b).host.armed, msixPba := (s.berthIrq b).host.msixPba, sent := (s.berthIrq b).host.sent } := by
  unfold State.berthIrq; dsimp only; (repeat' split)
  · rfl
  · dsimp only; rw [State.raiseVec_host]
  · rfl

/-- The bytes of a message with those that pad it. -/
def padded (l : List Byte) : List Byte := l ++ List.replicate (pad8 l.length - l.length) 0

theorem le_pad8 (n : Nat) : n ≤ pad8 n := by unfold pad8; omega

theorem padded_length (l : List Byte) : (padded l).length = pad8 l.length := by
  have := le_pad8 l.length
  simp [padded]; omega

/-- The message that an appended message becomes in the list of its berth. -/
def State.msgOf (s : State) (b : Nat) (l : List Byte) : Msg := { pos := s.rd HOST_BERTH_HEAD.VALUE b, len := pad8 l.length, at' := s.grid.now }

theorem State.append_host (s : State) (b : Nat) (l : List Byte) : (s.append b l).host =
    { s.host with mem := ringWrite s.host.mem (s.berthBase b) (s.berthSize b) (s.rd HOST_BERTH_HEAD.VALUE b) (padded l),
                  msgs := tset s.host.msgs b (s.msgs b ++ [s.msgOf b l]), armed := (s.append b l).host.armed,
                  msixPba := (s.append b l).host.msixPba, sent := (s.append b l).host.sent } :=
  State.berthIrq_host _ b

@[simp] theorem State.append_grid (s : State) (b : Nat) (l : List Byte) : (s.append b l).grid = s.grid :=
  ((State.Frame.refl s [.host, .mem] (appendKeys b)).append (by simp) (by simp) (List.Subset.refl _) l).1 .grid (by simp)

@[simp] theorem State.reply_grid (s : State) (op tag ifver : Nat) (st : Status) (data : List Nat) (resync : Bool) :
    (s.reply op tag ifver st data resync).grid = s.grid :=
  ((State.Frame.refl s [.host, .mem] replyKeys).reply (by simp) (by simp) (List.Subset.refl _) op tag ifver st data resync).1 .grid (by simp)

theorem State.append_head (s : State) (b : Nat) (l : List Byte) :
    (s.append b l).rd HOST_BERTH_HEAD.VALUE b = (s.rd HOST_BERTH_HEAD.VALUE b + pad8 l.length) % 2 ^ 32 := by
  have hkey : HOST_BERTH_HEAD.VALUE.key b 0 ≠ HOST_IRQ_PEND.MASK.key 0 0 := by
    simp [Field.key, Field.at', HOST_BERTH_HEAD.VALUE, HOST_IRQ_PEND.MASK, Field.mkArr, Field.mk']; omega
  unfold State.append
  exact (((State.Frame.refl _ [.host] [HOST_IRQ_PEND.MASK.key 0 0]).berthIrq (by simp) (by simp) b).rd (by decide) (by decide)
    (by simpa using hkey)).trans (State.rd_wr_same _ _ _ _ _ (by decide) (by decide))


/-! #### The reply (R581 to R583) -/

theorem leBytes_flatMap_length (data : List Nat) : (data.flatMap (leBytes 4 ·)).length = 4 * data.length := by
  induction data with
  | nil => rfl
  | cons d l ih => simp [List.flatMap_cons, ih]; omega

theorem State.replyBytes_eq {s : State} {op tag v : Nat} (st : Status) (data : List Nat) (hw : s.host.waiting = []) (hr : s.host.resync = none)
    (htag : tag < 65536) : s.replyBytes op tag v 0 st data =
      replyHead op tag v 0 (if v = 2 then 32 - ((s.msgs 1).length + 1) else 0) st.code (4 * data.length)
      ++ leBytes 4 (crc32c (replyHead op tag v 0 (if v = 2 then 32 - ((s.msgs 1).length + 1) else 0) st.code (4 * data.length)
          ++ data.flatMap (leBytes 4 ·))) ++ data.flatMap (leBytes 4 ·) := by
  have hu : s.creditsUsed = (s.msgs 1).length := by simp [State.creditsUsed, hw, hr, b2n]
  simp only [State.replyBytes, replyHead, leBytes_flatMap_length, hu, Nat.mod_eq_of_lt htag]

theorem State.replyBytes_length (s : State) (op tag v flags : Nat) (st : Status) (data : List Nat) :
    (s.replyBytes op tag v flags st data).length = 16 + 4 * data.length := by
  simp [State.replyBytes]; omega

theorem pad8_le {n m : Nat} (h : n ≤ 8 * m) : pad8 n ≤ 8 * m := by unfold pad8; omega

/-- B1 can take a reply of so many data words behind those that wait there, and no other command is under way (R583, R584). -/
def State.RoomFor (s : State) (n : Nat) : Prop :=
  Memory.wf s.host.mem = true ∧ s.host.waiting = [] ∧ s.host.resync = none ∧ (s.msgs 1).length ≤ 31 ∧ 16 + 4 * n ≤ s.berthSize 1

section
variable {s : State} {op tag ifver v : Nat} {st : Status} {data : List Nat}

theorem State.reply_host (s : State) (op tag ifver : Nat) (st : Status) (data : List Nat) (resync : Bool) :
    (s.reply op tag ifver st data resync).host =
      { s.host with mem := ringWrite s.host.mem (s.berthBase 1) (s.berthSize 1) (s.rd HOST_BERTH_HEAD.VALUE 1)
                      (padded (s.replyBytes op tag (s.replyIfver ifver) (b2n resync) st data)),
                    msgs := tset s.host.msgs 1 (s.msgs 1 ++ [s.msgOf 1 (s.replyBytes op tag (s.replyIfver ifver) (b2n resync) st data)]),
                    armed := (s.reply op tag ifver st data resync).host.armed,
                    msixPba := (s.reply op tag ifver st data resync).host.msixPba,
                    sent := (s.reply op tag ifver st data resync).host.sent } := by
  simp only [State.reply, State.setCredits_host]
  exact State.append_host _ _ _

theorem State.reply_mem (s : State) (op tag ifver : Nat) (st : Status) (data : List Nat) : (s.reply op tag ifver st data).host.mem =
    ringWrite s.host.mem (s.berthBase 1) (s.berthSize 1) (s.rd HOST_BERTH_HEAD.VALUE 1) (padded (s.replyBytes op tag (s.replyIfver ifver) 0 st data)) :=
  (congrArg HostSt.mem (s.reply_host op tag ifver st data false)).trans (by rw [show b2n false = 0 from rfl])

theorem State.reply_msgs (s : State) (op tag ifver : Nat) (st : Status) (data : List Nat) (resync : Bool) :
    (s.reply op tag ifver st data resync).msgs 1 =
      s.msgs 1 ++ [s.msgOf 1 (s.replyBytes op tag (s.replyIfver ifver) (b2n resync) st data)] := by
  unfold State.msgs; rw [State.reply_host]; exact tget_tset_same _ _ _ _

theorem State.reply_head (s : State) (op tag ifver : Nat) (st : Status) (data : List Nat) (resync : Bool) :
    (s.reply op tag ifver st data resync).rd HOST_BERTH_HEAD.VALUE 1 = (s.rd HOST_BERTH_HEAD.VALUE 1 + pad8 (16 + 4 * data.length)) % 2 ^ 32 := by
  refine (((State.Frame.refl _ [] creditKeys).setCredits (List.Subset.refl _)).rd (by decide) (by decide) (by decide)).trans ?_
  rw [State.append_head, State.replyBytes_length]

theorem State.setCredits_credit (s : State) : s.setCredits.rd HOST_CMD_CREDIT.VALUE = (32 - s.creditsUsed) % 2 ^ 6 := by
  have hcnt (u : State) : (u.wr HOST_BERTH_CNT.VALUE s.host.waiting.length 0).rd HOST_CMD_CREDIT.VALUE = u.rd HOST_CMD_CREDIT.VALUE :=
    State.rd_wr_other _ _ _ _ _ _ _ _ (by decide)
  have hovr (u : State) (n : Nat) : (u.wr HOST_STATUS.CREDIT_OVR n).rd HOST_CMD_CREDIT.VALUE = u.rd HOST_CMD_CREDIT.VALUE :=
    State.rd_wr_other _ _ _ _ _ _ _ _ (by decide)
  unfold State.setCredits; dsimp only; (repeat' split) <;> simp only [hovr, hcnt, State.rd_wr_same _ _ _ _ _ (show HOST_CMD_CREDIT.VALUE.acc ≠ .SP by decide) (by decide)] <;> rfl

theorem State.append_msgs (s : State) (b : Nat) (l : List Byte) : (s.append b l).msgs b = s.msgs b ++ [s.msgOf b l] := by
  unfold State.msgs; rw [State.append_host]; exact tget_tset_same _ _ _ _

/-- The credits after a reply, with nothing else waiting (R583). -/
theorem State.reply_credit (hroom : s.RoomFor data.length) (resync : Bool) :
    (s.reply op tag ifver st data resync).rd HOST_CMD_CREDIT.VALUE = 32 - ((s.msgs 1).length + 1) := by
  obtain ⟨-, hw, hr, hm, -⟩ := hroom
  have hu (l : List Byte) : (s.append 1 l).creditsUsed = (s.msgs 1).length + 1 := by
    rw [State.creditsUsed, State.append_msgs, State.append_host]
    simp [hw, hr, b2n]
  rw [State.reply, State.setCredits_credit, hu]
  omega

theorem State.append_count (s : State) (l : List Byte) :
    (s.append 1 l).rd HOST_BERTH_CNT.VALUE 1 = ((s.msgs 1).length + 1) % 2 ^ HOST_BERTH_CNT.VALUE.width := by
  unfold State.append
  refine (((State.Frame.refl _ [.host] [HOST_IRQ_PEND.MASK.key 0 0]).berthIrq (by simp) (by simp) 1).rd (by decide) (by decide)
    (by decide)).trans ((State.rd_wr_other _ _ _ _ _ _ _ _ (by decide)).trans ((State.rd_wr_same _ _ _ _ _ (by decide) (by decide)).trans ?_))
  rw [List.length_append]; rfl

theorem State.reply_count (s : State) (op tag ifver : Nat) (st : Status) (data : List Nat) (resync : Bool) :
    (s.reply op tag ifver st data resync).rd HOST_BERTH_CNT.VALUE 1 = ((s.msgs 1).length + 1) % 2 ^ HOST_BERTH_CNT.VALUE.width :=
  (((State.Frame.refl _ [] creditKeys).setCredits (List.Subset.refl _)).rd (by decide) (by decide) (by decide)).trans (s.append_count _)

theorem State.RoomFor.padded_fits (hroom : s.RoomFor data.length) (flags : Nat) :
    (padded (s.replyBytes op tag v flags st data)).length ≤ s.berthSize 1 := by
  obtain ⟨-, -, -, -, hfit⟩ := hroom
  rw [padded_length, State.replyBytes_length]
  have hsize : s.berthSize 1 = 8 * (128 * 2 ^ s.rd HOST_BERTH_CFG.SIZE 1) := by unfold State.berthSize; omega
  rw [hsize] at hfit ⊢
  exact pad8_le hfit

/-- A reply stands in B1 behind those that B1 held (R573, R574, R581 to R583). -/
theorem State.reply_repliesAt (s' : State) (hroom : s.RoomFor data.length) (hv : s.replyIfver ifver = v) (htag : tag < 65536) :
    s.RepliesAt (s'.left (s.reply op tag ifver st data)) op tag v 0 st.code data := by
  have hbytes := State.replyBytes_eq (op := op) (v := v) st data hroom.2.1 hroom.2.2.1 htag
  have hlen := s.replyBytes_length op tag v 0 st data
  have hfits := hroom.padded_fits (op := op) (tag := tag) (v := v) (st := st) 0
  refine ⟨?_, ?_, ?_, ?_, ?_⟩
  · rw [State.left_host, State.reply_mem, hv, ← hbytes, ← hlen]
    rw [padded, List.length_append] at hfits
    exact ringRead_ringWrite hroom.1 _ _ _ _ _ hfits
  · rw [State.left_rd_of_notMem _ _ (by decide), State.reply_head]
  · refine (s.reply_msgs op tag ifver st data false).trans ?_
    rw [State.msgOf, hv]
    simp only [b2n, hlen, State.left_grid, State.reply_grid, Bool.false_eq_true, if_false]
  · rw [State.left_rd_of_notMem _ _ (by decide), State.reply_count]
  · rw [State.left_rd_of_notMem _ _ (by decide), State.reply_credit hroom]

end

/-! #### A packet that is ready (R575, R583 to R585) -/

/-- The keys that an answer reads. -/
def answerReads : List Nat :=
  [HOST_BERTH_HEAD.VALUE.key 0 0, HOST_BERTH_TAIL.VALUE.key 0 0, HOST_STATUS.PTR_ERR.key 0 0, HOST_BERTH_HEAD.VALUE.key 1 0,
    HOST_BERTH_CFG.SIZE.key 1 0, HOST_BERTH_CFG.BASE.key 1 0, HOST_STATUS.NEG.key 0 0, HOST_STATUS.IFVER.key 0 0]

section
variable {s u : State} {q : Bool} {op : Nat} {p : Packet} {f : State → Bool → Packet → CmdRes} {st : Status} {data : List Nat}

theorem ite_some_eq_none {α : Type} {c : Prop} [Decidable c] {x : α} {y : Option α} : (if c then some x else y) = none ↔ ¬ c ∧ y = none := by
  split <;> simp [*]

/-- The IFVER of a packet that passes the checks is that of its reply (R582, R585). -/
theorem State.Ready.replyIfver (h : s.Ready q op p) : s.replyIfver p.ifver.toNat = p.ifver.toNat := by
  have hcheck := h.2
  unfold State.replyIfver
  split
  · rfl
  · next hv =>
    unfold State.commonCheck at hcheck
    dsimp only at hcheck
    obtain ⟨-, hcheck⟩ := ite_some_eq_none.mp hcheck
    obtain ⟨-, hcheck⟩ := ite_some_eq_none.mp hcheck
    obtain ⟨hbad, -⟩ := ite_some_eq_none.mp hcheck
    by_cases huse : (decide (s.rd HOST_STATUS.NEG = 1) && !(decide (op = 257) || decide (op = 258))) = true
    · rw [if_pos huse] at hbad
      have hneg : s.rd HOST_STATUS.NEG = 1 := by simp at huse; exact huse.1
      rw [if_pos hneg]
      exact (Decidable.of_not_not (of_decide_eq_false (Bool.eq_false_iff.mpr hbad))).symm
    · rw [if_neg huse] at hbad
      exact absurd (not_or.mp hv) (by simpa using hbad)

/-- What B0 and B1 hold where a packet is ready: nothing but replies, and room for the largest (R575, R584). -/
theorem State.Ready.idle (h : s.Ready q op p) : s.host.waiting = [] ∧ s.host.resync = none ∧ s.host.partialAt = none
    ∧ (s.msgs 1).length ≤ 31 ∧ 4096 ≤ s.berthSize 1 := by
  obtain ⟨⟨⟨-, -, hidle, -⟩, -⟩, -⟩ := h
  simp only [State.idleBerth, State.canReply, Bool.and_eq_true, decide_eq_true_eq, List.isEmpty_iff, Option.isNone_iff_eq_none, beq_iff_eq] at hidle
  obtain ⟨⟨⟨⟨hw, hr⟩, hp⟩, -⟩, hm, hroom⟩ := hidle
  exact ⟨hw, hr, hp, hm, Nat.le_trans (Nat.le_add_left _ _) hroom⟩

theorem State.Ready.wf (h : s.Ready q op p) : Memory.wf s.host.mem = true := h.1.1.2.2.2.2.2

theorem State.packetTaken_wf (hs : Memory.wf s.host.mem = true) : Memory.wf (s.packetTaken op p).host.mem = true :=
  (congrArg Prod.fst (show (s.packetTaken op p).kept = s.kept by
    unfold State.packetTaken State.packetPlaced
    rw [State.wr_kept, State.wr_kept, State.wr_kept, State.b0Write_kept _ _ _ hs])).trans hs

theorem State.packetTaken_head (s : State) (op : Nat) (p : Packet) :
    (s.packetTaken op p).rd HOST_BERTH_HEAD.VALUE 0 = (s.rd HOST_BERTH_HEAD.VALUE 0 + p.size) % 2 ^ 32 := by
  unfold State.packetTaken State.packetPlaced
  rw [State.rd_wr_other _ _ _ _ _ _ _ _ (by decide), State.rd_wr_other _ _ _ _ _ _ _ _ (by decide),
    State.rd_wr_same _ _ _ _ _ (by decide) (by decide)]
  rfl

theorem State.packetTaken_tail (s : State) (op : Nat) (p : Packet) :
    (s.packetTaken op p).rd HOST_BERTH_TAIL.VALUE 0 = (s.rd HOST_BERTH_TAIL.VALUE 0 + p.size) % 2 ^ 32 := by
  unfold State.packetTaken
  rw [State.rd_wr_same _ _ _ _ _ (by decide) (by decide)]
  unfold State.packetPlaced
  rw [State.rd_wr_other _ _ _ _ _ _ _ _ (by decide), State.rd_wr_other _ _ _ _ _ _ _ _ (by decide)]
  rfl

theorem State.packetTaken_ptrErr (s : State) (op : Nat) (p : Packet) : (s.packetTaken op p).rd HOST_STATUS.PTR_ERR = 0 := by
  unfold State.packetTaken State.packetPlaced
  rw [State.rd_wr_other _ _ _ _ _ _ _ _ (by decide), State.rd_wr_same _ _ _ _ _ (by decide) (by decide)]
  rfl

/-- What an effect must leave for its packet to be answered: no command under way, the replies in B1, the berths' registers. -/
structure State.Answerable (s u : State) : Prop where
  wf : Memory.wf u.host.mem = true
  waiting : u.host.waiting = s.host.waiting
  resync : u.host.resync = s.host.resync
  partialAt : u.host.partialAt = s.host.partialAt
  msgs : u.msgs 1 = s.msgs 1
  regs : ∀ k ∈ answerReads, tfind u.regs k = tfind s.regs k

theorem State.Answerable.rd (h : s.Answerable u) {g : Field} {i j : Nat} (hs : g.acc ≠ .SP) (ho : g.acc ≠ .OTP) (hk : g.key i j ∈ answerReads) :
    u.rd g i j = s.rd g i j := by
  cases hg : g.acc with
  | SP => exact absurd hg hs
  | OTP => exact absurd hg ho
  | _ => simp [State.rd, hg, tget, h.regs _ hk]

theorem Status.badPacket_of_sound (u : State) (h : st ≠ .badLength ∧ st ≠ .badCrc ∧ st ≠ .ifverUnsupported) (resync : Bool) :
    u.badPacket st resync = u := if_neg (by simp [h])

/-- A packet that is ready is answered with what its command gives (R575, R581 to R585). -/
theorem State.Ready.submit_eq (h : s.Ready q op p) (hf : f (s.packetTaken op p) q p = { st := u, status := st, data := data })
    (hst : st ≠ .badLength ∧ st ≠ .badCrc ∧ st ≠ .ifverUnsupported) :
    s.submit q op p f = u.reply op p.tag.toNat p.ifver.toNat st data := by
  rw [State.submit_of_ready h, hf]
  dsimp only
  rw [Status.badPacket_of_sound _ hst]

theorem State.Ready.replied (h : s.Ready q op p) (hf : f (s.packetTaken op p) q p = { st := u, status := st, data := data })
    (hst : st ≠ .badLength ∧ st ≠ .badCrc ∧ st ≠ .ifverUnsupported) (hu : (s.packetTaken op p).Answerable u) (hdata : data.length ≤ 1020) :
    s.Replied (s.left (s.submit q op p f)) op p p.ifver.toNat st.code data := by
  obtain ⟨hw, hr, hp, hm, hsize⟩ := h.idle
  have hT {g : Field} {i j : Nat} (hs : g.acc ≠ .SP) (ho : g.acc ≠ .OTP) (ha : g.key i j ∈ answerReads) (hk : g.key i j ∉ takenKeys) :
      u.rd g i j = s.rd g i j := (hu.rd hs ho ha).trans (s.packetTaken_rd op p hs ho hk)
  have hhead : u.rd HOST_BERTH_HEAD.VALUE 1 = s.rd HOST_BERTH_HEAD.VALUE 1 := hT (by decide) (by decide) (by decide) (by decide)
  have hbase : u.berthBase 1 = s.berthBase 1 := congrArg (1024 * ·) (hT (by decide) (by decide) (by decide) (by decide))
  have hbsize : u.berthSize 1 = s.berthSize 1 := congrArg (1024 * 2 ^ ·) (hT (by decide) (by decide) (by decide) (by decide))
  have hmsgs : u.msgs 1 = s.msgs 1 := hu.msgs
  have hv : u.replyIfver p.ifver.toNat = p.ifver.toNat := by
    have := h.replyIfver
    unfold State.replyIfver at this ⊢
    rwa [hT (by decide) (by decide) (by decide) (by decide), hT (by decide) (by decide) (by decide) (by decide)]
  have hroom : u.RoomFor data.length :=
    ⟨hu.wf, hu.waiting.trans hw, hu.resync.trans hr, by rw [hmsgs]; exact hm, by rw [hbsize]; omega⟩
  rw [h.submit_eq hf hst]
  have hleft {g : Field} {i j : Nat} (hs : g.acc ≠ .SP) (ho : g.acc ≠ .OTP) (ha : g.key i j ∈ answerReads) (hk : g.key i j ∉ replyKeys)
      (hl : g.key i j ∉ lifeKeys) :
      (s.left (u.reply op p.tag.toNat p.ifver.toNat st data)).rd g i j = (s.packetTaken op p).rd g i j := by
    rw [State.left_rd_of_notMem _ _ hl, ((State.Frame.refl u [.host, .mem] replyKeys).reply (by simp) (by simp) (List.Subset.refl _)
      op p.tag.toNat p.ifver.toNat st data false).rd hs ho hk, hu.rd hs ho ha]
  refine ⟨?_, ?_, ?_, ?_, ?_, ?_, ?_⟩
  · have hreply := State.reply_repliesAt (op := op) (st := st) s hroom hv p.tag.isLt
    unfold State.RepliesAt at hreply ⊢
    rwa [hhead, hmsgs, hbase, hbsize] at hreply
  · rw [hleft (by decide) (by decide) (by decide) (by decide) (by decide), State.packetTaken_head]
  · rw [hleft (by decide) (by decide) (by decide) (by decide) (by decide), State.packetTaken_tail]
  · rw [hleft (by decide) (by decide) (by decide) (by decide) (by decide), State.packetTaken_ptrErr]
  · rw [State.left_host, State.reply_host]; exact hroom.2.1
  · rw [State.left_host, State.reply_host]; exact hroom.2.2.1
  · rw [State.left_host, State.reply_host]; exact hu.partialAt.trans hp

/-! #### A packet whose command leaves the host interface alone -/

theorem State.Frame.answerable {t : State} {parts : List Part} {keys : List Nat} (h : s.Frame t parts keys) (hhost : Part.host ∉ parts)
    (hmem : Part.mem ∉ parts) (hkeys : ∀ k ∈ answerReads, k ∉ keys) (hwf : Memory.wf s.host.mem = true) : s.Answerable t := by
  have hm : t.host.mem = s.host.mem := h.1 .mem hmem
  have hh : { t.host with mem := [] } = { s.host with mem := [] } := h.1 .host hhost
  have hwaiting := congrArg HostSt.waiting hh
  have hresync := congrArg HostSt.resync hh
  have hpartial := congrArg HostSt.partialAt hh
  have hmsgs := congrArg (fun x : HostSt => tget [] x.msgs 1) hh
  exact ⟨hm ▸ hwf, hwaiting, hresync, hpartial, hmsgs, fun k hk => h.2 k (hkeys k hk)⟩

theorem Part.same_trans {p : Part} {r : State} (h : p.same s u) (h' : p.same u r) : p.same s r := by
  cases p <;> exact Eq.trans h' h

/-- Effects one after the other. -/
theorem State.Frame.trans {r : State} {parts parts' : List Part} {keys keys' : List Nat} (h : s.Frame u parts keys) (h' : u.Frame r parts' keys') :
    s.Frame r (parts ++ parts') (keys ++ keys') :=
  ⟨fun p hp => Part.same_trans (h.1 p fun hm => hp (List.mem_append_left _ hm)) (h'.1 p fun hm => hp (List.mem_append_right _ hm)),
    fun k hk => (h'.2 k fun hm => hk (List.mem_append_right _ hm)).trans (h.2 k fun hm => hk (List.mem_append_left _ hm))⟩

theorem State.Frame.mono {parts parts' : List Part} {keys keys' : List Nat} (h : s.Frame u parts keys) (hp : parts ⊆ parts') (hk : keys ⊆ keys') :
    s.Frame u parts' keys' :=
  ⟨fun p hn => h.1 p fun hm => hn (hp hm), fun k hn => h.2 k fun hm => hn (hk hm)⟩

/-- The frame of a packet that is taken and answered is that of its command, the host interface and the keys of packets. -/
theorem State.Frame.answered {parts : List Part} {keys : List Nat} (hu : (s.packetTaken op p).Frame u parts keys) (tag ifver : Nat) :
    s.Frame (u.reply op tag ifver st data) (parts ++ [.host, .mem]) (keys ++ packetKeys) := by
  have htaken : s.Frame (s.packetTaken op p) (parts ++ [.host, .mem]) (keys ++ packetKeys) :=
    (s.frame_packetTaken op p).mono (by simp) fun k hk => List.mem_append_right _ ((by decide : takenKeys ⊆ packetKeys) hk)
  have heffect : (s.packetTaken op p).Frame u (parts ++ [.host, .mem]) (keys ++ packetKeys) :=
    hu.mono (List.subset_append_left _ _) (List.subset_append_left _ _)
  exact ((htaken.trans heffect).mono (by simp) (by simp)).reply (by simp) (by simp)
    (fun k hk => List.mem_append_right _ ((by decide : replyKeys ⊆ packetKeys) hk)) op tag ifver st data false

theorem Packet.bytes_length (p : Packet) (op : Nat) : (p.bytes op).length = p.size := by
  have := le_pad8 (16 + p.len)
  simp [Packet.bytes, headBytes, Packet.size, Packet.len] at this ⊢
  omega

theorem State.packetTaken_host (s : State) (op : Nat) (p : Packet) : (s.packetTaken op p).host =
    { s.host with mem := ringWrite s.host.mem (s.berthBase 0) (s.berthSize 0) (s.rd HOST_BERTH_HEAD.VALUE 0) (p.bytes op) } := by
  unfold State.packetTaken State.packetPlaced
  rw [State.wr_host, State.wr_host, State.wr_host, State.b0Write, State.modHost]

/-- The host interface of a state that differs from a taken packet's in neither host interface nor berth SRAM. -/
theorem State.Frame.host_of_taken {parts : List Part} {keys : List Nat} (hu : (s.packetTaken op p).Frame u parts keys) (hhost : Part.host ∉ parts)
    (hmem : Part.mem ∉ parts) : u.host =
      { s.host with mem := ringWrite s.host.mem (s.berthBase 0) (s.berthSize 0) (s.rd HOST_BERTH_HEAD.VALUE 0) (p.bytes op) } := by
  have hm : u.host.mem = (s.packetTaken op p).host.mem := hu.1 .mem hmem
  have hh : { u.host with mem := [] } = { (s.packetTaken op p).host with mem := [] } := hu.1 .host hhost
  have hx : u.host = { (s.packetTaken op p).host with mem := u.host.mem } := congrArg (fun x : HostSt => { x with mem := u.host.mem }) hh
  rw [hx, hm, State.packetTaken_host]

/-- A packet that is ready, with a command that leaves the host interface alone, is answered: the bytes that change are its own and the
reply's, and the rest is the command's effect. -/
theorem State.Ready.answered {parts : List Part} {keys : List Nat} (h : s.Ready q op p)
    (hf : f (s.packetTaken op p) q p = { st := u, status := st, data := data }) (hst : st ≠ .badLength ∧ st ≠ .badCrc ∧ st ≠ .ifverUnsupported)
    (hu : (s.packetTaken op p).Frame u parts keys) (hhost : Part.host ∉ parts) (hmem : Part.mem ∉ parts) (hkeys : ∀ k ∈ answerReads, k ∉ keys)
    (hdata : data.length ≤ 1020) : s.Answered (s.left (s.submit q op p f)) op p st.code data parts keys := by
  have hans := hu.answerable hhost hmem hkeys (s.packetTaken_wf h.wf)
  have hreplied := h.replied hf hst hans hdata
  rw [h.submit_eq hf hst] at hreplied ⊢
  have hx := hu.host_of_taken hhost hmem
  have hT {g : Field} {i j : Nat} (hs : g.acc ≠ .SP) (ho : g.acc ≠ .OTP) (ha : g.key i j ∈ answerReads) (hk : g.key i j ∉ takenKeys) :
      u.rd g i j = s.rd g i j := (hans.rd hs ho ha).trans (s.packetTaken_rd op p hs ho hk)
  have hhead : u.rd HOST_BERTH_HEAD.VALUE 1 = s.rd HOST_BERTH_HEAD.VALUE 1 := hT (by decide) (by decide) (by decide) (by decide)
  have hbase : u.berthBase 1 = s.berthBase 1 := congrArg (1024 * ·) (hT (by decide) (by decide) (by decide) (by decide))
  have hsize : u.berthSize 1 = s.berthSize 1 := congrArg (1024 * 2 ^ ·) (hT (by decide) (by decide) (by decide) (by decide))
  have hxm : u.host.mem = ringWrite s.host.mem (s.berthBase 0) (s.berthSize 0) (s.rd HOST_BERTH_HEAD.VALUE 0) (p.bytes op) := by rw [hx]
  refine ⟨hreplied, ?_, fun b hb => ?_, fun a ha => ?_, (hu.answered _ _).keeps⟩
  · rw [State.left_host, State.reply_host, hx]
  · rw [State.left_host, State.reply_host, hx]
    exact tfind_tset_other _ _ _ _ hb
  · have hpacket := ha _ List.mem_cons_self
    have hreply := ha _ (List.mem_cons_of_mem _ List.mem_cons_self)
    rw [State.left_host, State.reply_mem, memRead_ringWrite_other hans.wf, hxm]
    · exact memRead_ringWrite_other h.wf _ _ _ _ _ fun i hi => hpacket i (by rwa [Packet.bytes_length] at hi)
    · intro i hi
      rw [padded_length, State.replyBytes_length] at hi
      rw [hbase, hsize, hhead]
      exact hreply i hi

end

end Sys2Proof.Machine

/-! ### EVT_READ, PAIR_JOIN, PAIR_YIELD, PAIR_STATUS, BIST_RUN, REPAIR_FUSE, EVT_CLEAR (O60) -/
namespace Sys2Proof.Machine
open Reg

section
variable (s : State) (op : Nat) (p : Packet)

@[simp] theorem State.packetTaken_nv : (s.packetTaken op p).nv = s.nv := rfl
@[simp] theorem State.packetTaken_pair : (s.packetTaken op p).pair = s.pair := rfl
@[simp] theorem State.packetTaken_bist : (s.packetTaken op p).bist = s.bist := rfl
@[simp] theorem State.packetTaken_afe : (s.packetTaken op p).afe = s.afe := rfl
@[simp] theorem State.packetTaken_cust : (s.packetTaken op p).cust = s.cust := rfl
@[simp] theorem State.packetTaken_pwr : (s.packetTaken op p).pwr = s.pwr := rfl
@[simp] theorem State.packetTaken_bank : (s.packetTaken op p).bank = s.bank := rfl
theorem State.packetTaken_role : (s.packetTaken op p).role = s.role := s.packetTaken_rd op p (by decide) (by decide) (by decide)
theorem State.packetTaken_maint : (s.packetTaken op p).maint = s.maint :=
  congrArg (· == 1) (s.packetTaken_rd op p (by decide) (by decide) (by decide))

end

section
variable {s : State} {q : Bool} {op : Nat} {p : Packet} {f : State → Bool → Packet → CmdRes} {st : Status} {data : List Nat}

/-- A command that only answers (R584, R585). -/
theorem State.Ready.answeredOnly (h : s.Ready q op p) (hf : f (s.packetTaken op p) q p = { st := s.packetTaken op p, status := st, data := data })
    (hst : st ≠ .badLength ∧ st ≠ .badCrc ∧ st ≠ .ifverUnsupported) (hdata : data.length ≤ 1020) :
    s.Answered (s.left (s.submit q op p f)) op p st.code data [] [] :=
  h.answered hf hst (.refl _ _ _) (by simp) (by simp) (by simp) hdata

end

/-- A word of fields that taking a packet does not write. -/
theorem State.packetTaken_wordOf (s : State) (op : Nat) (p : Packet) (l : List Field) (hl : ∀ f ∈ l, f.key 0 0 ∉ takenKeys) :
    (s.packetTaken op p).wordOf l = s.wordOf l := by
  have hrd : ∀ f ∈ l, (s.packetTaken op p).rd f = s.rd f := by
    intro f hf
    cases hacc : f.acc with
    | SP => simp only [State.rd, hacc, State.packetTaken_bank]
    | OTP => simp only [State.rd, hacc]
    | _ => exact s.packetTaken_rd op p (by simp [hacc]) (by simp [hacc]) (hl f hf)
  have hfold : ∀ a, l.foldl (fun a f => a + (s.packetTaken op p).rd f * 2 ^ f.lsb) a = l.foldl (fun a f => a + s.rd f * 2 ^ f.lsb) a := by
    clear hl
    induction l with
    | nil => exact fun _ => rfl
    | cons f l ih =>
      intro a
      rw [List.foldl_cons, List.foldl_cons, hrd f List.mem_cons_self]
      exact ih (fun g hg => hrd g (List.mem_cons_of_mem _ hg)) _
  exact hfold 0

/-! #### EVT_READ (R484) -/

theorem entriesRead : Claim.entriesRead := by
  intro s q p a last n l h hlen htgt hpos hmax ha hlast hn hl hlong
  refine goesTo_done (h.answeredOnly (st := .ok) ?_ (by decide) ?_)
  · have htgt : p.target.toNat = 0 := by simp [htgt]
    have hold : (s.packetTaken 0x0801 p).oldestSeq = s.oldestSeq := rfl
    unfold cmdEvtRead
    simp only [hlen, htgt, State.packetTaken_nv, hold]
    simp [hpos, hmax, State.ok, ← ha, ← hlast, ← hn, ← hl]
  · have hw : (l.flatMap fun e => (List.range 8).map fun i => ofLe ((e.bytes.drop (4 * i)).take 4)).length = 8 * l.length := by
      simp [List.length_flatMap]; omega
    simp only [List.length_cons, hw]; omega

theorem readRefused : Claim.readRefused := by
  intro s q p h hlen htgt hcnt
  refine goesTo_done (h.answeredOnly (st := .badTarget) ?_ (by decide) (by decide))
  unfold cmdEvtRead
  rw [if_neg (by simp [hlen]), if_neg (by omega), if_pos hcnt]
  rfl

/-! #### PAIR_YIELD and PAIR_STATUS (R532, R533) -/

theorem yieldRefused : Claim.yieldRefused := by
  intro s q p h hlen htgt
  have htgt : p.target.toNat = 0 := by simp [htgt]
  have hho : (s.packetTaken 0x0902 p).rd PAIR_STATUS.HO = s.rd PAIR_STATUS.HO := s.packetTaken_rd _ _ (by decide) (by decide) (by decide)
  have hready : (s.packetTaken 0x0902 p).rd PAIR_STATUS.PREADY = s.rd PAIR_STATUS.PREADY := s.packetTaken_rd _ _ (by decide) (by decide) (by decide)
  refine goesTo_done ⟨fun hrole => ?_, fun hrole hbusy => ?_, fun hrole hidle hnot => ?_⟩
  · refine h.answeredOnly (st := .busy) ?_ (by decide) (by decide)
    simp [cmdPairYield, hlen, htgt, State.packetTaken_role, hrole, State.busy]
  · refine h.answeredOnly (st := .busy) ?_ (by decide) (by decide)
    simp [cmdPairYield, hlen, htgt, State.packetTaken_role, hrole, hho, hbusy, State.busy]
  · refine h.answeredOnly (st := .notReady) ?_ (by decide) (by simp)
    simp [cmdPairYield, hlen, htgt, State.packetTaken_role, hrole, hho, hidle, hready, hnot, State.answer]

theorem pairTold : Claim.pairTold := by
  intro s q p h hlen htgt
  have hlo : (s.packetTaken 0x0903 p).rd PAIR_SNAP_TICK_LO.VALUE = s.rd PAIR_SNAP_TICK_LO.VALUE := s.packetTaken_rd _ _ (by decide) (by decide) (by decide)
  have hhi : (s.packetTaken 0x0903 p).rd PAIR_SNAP_TICK_HI.VALUE = s.rd PAIR_SNAP_TICK_HI.VALUE := s.packetTaken_rd _ _ (by decide) (by decide) (by decide)
  have hto : (s.packetTaken 0x0903 p).rd PAIR_TO_TIME.VALUE = s.rd PAIR_TO_TIME.VALUE := s.packetTaken_rd _ _ (by decide) (by decide) (by decide)
  have hproof : (s.packetTaken 0x0903 p).rd PAIR_STATUS.PROOF = s.rd PAIR_STATUS.PROOF := s.packetTaken_rd _ _ (by decide) (by decide) (by decide)
  have hage : (s.packetTaken 0x0903 p).snapAgeReg = s.snapAgeReg := rfl
  refine goesTo_done ⟨fun h1 => ?_, fun h0 => ?_⟩
  · refine h.answeredOnly (st := .ok) (data := s.partnerWords) ?_ (by decide) ?_
    · simp [cmdPairStatus, hlen, h1, State.ok, State.partnerWords]
    · unfold State.partnerWords; split <;> simp
  · refine h.answeredOnly (st := .ok) ?_ (by decide) (by simp)
    rw [← hlo, ← hhi, ← hto, ← hproof, ← hage, ← s.packetTaken_wordOf 0x0903 p pairStatusFields (by decide),
      ← s.packetTaken_wordOf 0x0903 p [PAIR_CLAIM.OWN, PAIR_CLAIM.PSEEN, PAIR_CLAIM.ASSERT] (by decide),
      ← s.packetTaken_wordOf 0x0903 p [PAIR_DEG_MASK.COND, PAIR_DEG_MASK.CLASS] (by decide)]
    simp [cmdPairStatus, hlen, h0, State.ok]


section
variable {s t : State} {parts : List Part} {keys : List Nat}

theorem State.Frame.modPair (h : s.Frame t parts keys) (hpair : Part.pair ∈ parts) (f : PairSt → PairSt) : s.Frame (t.modPair f) parts keys := by
  refine ⟨fun p hp => ?_, h.2⟩
  have hsame := h.1 p hp
  cases p with
  | pair => contradiction
  | _ => exact hsame

theorem State.Frame.modBist (h : s.Frame t parts keys) (hbist : Part.bist ∈ parts) (f : BistSt → BistSt) : s.Frame (t.modBist f) parts keys := by
  refine ⟨fun p hp => ?_, h.2⟩
  have hsame := h.1 p hp
  cases p with
  | bist => contradiction
  | _ => exact hsame

theorem State.Frame.setChan (h : s.Frame t parts keys) (hafe : Part.afe ∈ parts) (c : Nat) (k : ChanSt) : s.Frame (t.setChan c k) parts keys := by
  refine ⟨fun p hp => ?_, h.2⟩
  have hsame := h.1 p hp
  cases p with
  | afe => contradiction
  | _ => exact hsame

theorem State.Frame.tellHandover (h : s.Frame t parts keys) (hpair : Part.pair ∈ parts) (code : Nat) : s.Frame (t.tellHandover code) parts keys := by
  unfold State.tellHandover; split
  · exact h.modPair hpair _
  · exact (h.modPair hpair _).modPair hpair _

end

theorem joinRefused : Claim.joinRefused := by
  intro s q p h hlen htgt
  have htgt : p.target.toNat = 0 := by simp [htgt]
  refine goesTo_done ⟨fun hrole => ?_, fun hrole => ?_⟩
  · refine h.answeredOnly (st := .badTarget) ?_ (by decide) (by decide)
    simp [cmdPairJoin, hlen, htgt, State.packetTaken_role, hrole, State.badTarget]
  · refine h.answeredOnly (st := .busy) ?_ (by decide) (by decide)
    have hne : s.role ≠ 0 := by omega
    simp [cmdPairJoin, hlen, htgt, State.packetTaken_role, hrole, hne, State.busy]

/-- A field that answering a packet does not write reads after it as its command left it. -/
theorem State.left_reply_rd (s u : State) (op tag ifver : Nat) (st : Status) (data : List Nat) {f : Field} {i j : Nat} (hs : f.acc ≠ .SP)
    (ho : f.acc ≠ .OTP) (hk : f.key i j ∉ replyKeys) (hl : f.key i j ∉ lifeKeys) :
    (s.left (u.reply op tag ifver st data)).rd f i j = u.rd f i j := by
  rw [State.left_rd_of_notMem _ _ hl]
  exact ((State.Frame.refl u [.host, .mem] replyKeys).reply (by simp) (by simp) (List.Subset.refl _) op tag ifver st data false).rd hs ho hk

/-- The parts but the host interface are after an answer as its command left them. -/
theorem State.left_reply_same (s u : State) (op tag ifver : Nat) (st : Status) (data : List Nat) {x : Part} (hx : x ∉ [Part.host, Part.mem]) :
    x.same u (s.left (u.reply op tag ifver st data)) :=
  Part.same_left (((State.Frame.refl u [.host, .mem] replyKeys).reply (by simp) (by simp) (List.Subset.refl _) op tag ifver st data false).1 x hx)

/-- What a unit that sends a handover code keeps of it (R492, R518, R519). -/
theorem State.tellHandover_pair (s : State) (code : Nat) : (s.tellHandover code).pair =
    if s.pair.ver = 1 then { s.pair with code := code }
    else { s.pair with code := 0, sentHo := some code, sent := some (5, s.outFrame (leBytes 1 code)), txSeq := s.pair.txSeq + 1 } := by
  unfold State.tellHandover; split <;> rfl

theorem handoverOffered : Claim.handoverOffered := by
  intro s q p h hlen htgt hrole hho hready
  have htgt : p.target.toNat = 0 := by simp [htgt]
  let v := ((s.packetTaken 0x0902 p).wr PAIR_STATUS.HO 1).modPair fun p => { p with hoTick := some p.doneN }
  have hf : cmdPairYield (s.packetTaken 0x0902 p) q p = { st := v.tellHandover 2, status := .acceptedPending, data := [] } := by
    have hho : (s.packetTaken 0x0902 p).rd PAIR_STATUS.HO = 0 := (s.packetTaken_rd _ _ (by decide) (by decide) (by decide)).trans hho
    have hready : (s.packetTaken 0x0902 p).rd PAIR_STATUS.PREADY = 1 := (s.packetTaken_rd _ _ (by decide) (by decide) (by decide)).trans hready
    simp [cmdPairYield, hlen, htgt, State.packetTaken_role, hrole, hho, hready, State.accepted, v]
  have hframe : (s.packetTaken 0x0902 p).Frame (v.tellHandover 2) [.pair] [PAIR_STATUS.HO.key 0 0] :=
    (((State.Frame.refl _ _ _).wr (by simp)).modPair (by simp) _).tellHandover (by simp) 2
  have hans := h.answered hf (by decide) hframe (by simp) (by simp) (by decide) (by decide)
  rw [h.submit_eq hf (by decide)] at hans
  have hpair : (s.left ((v.tellHandover 2).reply 0x0902 p.tag.toNat p.ifver.toNat .acceptedPending [])).pair =
      if s.pair.ver = 1 then { s.pair with hoTick := some s.pair.doneN, code := 2 }
      else { s.pair with hoTick := some s.pair.doneN, code := 0, sentHo := some 2, sent := some (5, s.outFrame [2]), txSeq := s.pair.txSeq + 1 } :=
    (State.left_reply_same s _ _ _ _ _ _ (x := .pair) (by decide)).trans (v.tellHandover_pair 2)
  refine ⟨_, rfl, ?_⟩
  rw [h.submit_eq hf (by decide)]
  refine ⟨?_, ?_, ?_, fun hver => ?_, fun hver => ?_, hans⟩
  · rw [State.left_reply_rd _ _ _ _ _ _ _ (by decide) (by decide) (by decide) (by decide)]
    exact (((State.Frame.refl v [.pair] []).tellHandover (by simp) 2).rd (by decide) (by decide) (by simp)).trans
      (State.rd_wr_same (s.packetTaken 0x0902 p) PAIR_STATUS.HO 1 0 0 (by decide) (by decide))
  · refine (State.left_reply_rd _ _ _ _ _ _ _ (by decide) (by decide) (by decide) (by decide)).trans ?_
    exact (hframe.rd (by decide) (by decide) (by decide)).trans ((s.packetTaken_role _ _).trans hrole)
  · rw [hpair]; split <;> rfl
  · rw [hpair, if_pos hver]
  · rw [hpair, if_neg hver]

/-! #### REPAIR_FUSE (R622) -/

section
variable {s : State} {q : Bool} {p : Packet}

/-- What a REPAIR_FUSE of one SRAM looks at is as before its packet. -/
theorem State.packetTaken_vmain (s : State) (op : Nat) (p : Packet) : (s.packetTaken op p).rd AUX_RESULT.DATA 0 16 = s.rd AUX_RESULT.DATA 0 16 :=
  s.packetTaken_rd _ _ (by decide) (by decide) (by decide)

theorem repairRefused : Claim.repairRefused := by
  intro s q p h hlen htgt hword
  have hmac : ¬ (31 < p.target.toNat ∧ p.target.toNat ≠ 0xFF) := by omega
  refine goesTo_done ⟨fun hm => ?_, fun hm hv => ?_, fun hm hlo hhi hsoft => ?_⟩
  · refine h.answeredOnly (st := .busy) ?_ (by decide) (by decide)
    simp [cmdRepairFuse, hlen, hmac, hword, State.packetTaken_maint, hm, State.busy]
  · refine h.answeredOnly (st := .busy) ?_ (by decide) (by decide)
    simp [cmdRepairFuse, hlen, hmac, hword, State.packetTaken_maint, hm, State.packetTaken_vmain, hv, State.busy]
  · refine h.answeredOnly (st := .badTarget) ?_ (by decide) (by decide)
    have hv : ¬ (50 * s.rd AUX_RESULT.DATA 0 16 < 2064384 ∨ 2260992 < 50 * s.rd AUX_RESULT.DATA 0 16) := by omega
    have hone : fuseMacros p.target.toNat = [p.target.toNat] := if_neg (by omega)
    simp [cmdRepairFuse, hlen, hmac, hword, State.packetTaken_maint, hm, State.packetTaken_vmain, hv, hone, hsoft, State.badTarget]

end

/-- Soft repairs of one SRAM begin to burn, with no burn before them. -/
def State.burnsBegun (s : State) (m : Nat) (l : List Nat) : State :=
  s.modBist fun b => { b with soft := terase b.soft m, burns := [(m, { rows := l, start := s.grid.now, done := s.grid.now + l.length * 5000000 })] }

theorem repairBegins : Claim.repairBegins := by
  intro s q p m l h hlen hm hmac hword hmaint hlo hhi hl hne hburns
  subst hm hl
  have hmac' : ¬ (31 < p.target.toNat ∧ p.target.toNat ≠ 0xFF) := by omega
  have hv : ¬ (50 * s.rd AUX_RESULT.DATA 0 16 < 2064384 ∨ 2260992 < 50 * s.rd AUX_RESULT.DATA 0 16) := by omega
  have hone : fuseMacros p.target.toNat = [p.target.toNat] := if_neg (by omega)
  refine goesTo_done ⟨fun hfit => ?_, fun hfull => ?_⟩
  · have hf : cmdRepairFuse (s.packetTaken 0x0A02 p) q p =
        { st := (s.packetTaken 0x0A02 p).burnsBegun p.target.toNat (tget [] s.bist.soft p.target.toNat), status := .acceptedPending, data := [] } := by
      have hfit : ¬ (Config.fuseEntries < tget 0 s.nv.bist.used p.target.toNat + (tget [] s.bist.soft p.target.toNat).length) := by omega
      simp [cmdRepairFuse, hlen, hmac', hword, State.packetTaken_maint, hmaint, State.packetTaken_vmain, hv, hone, hne, hfit, State.accepted,
        State.burnsBegun, forL, State.modBist, hburns, tset]
    have hframe : (s.packetTaken 0x0A02 p).Frame ((s.packetTaken 0x0A02 p).burnsBegun p.target.toNat (tget [] s.bist.soft p.target.toNat))
        [.bist] [] := (State.Frame.refl _ _ _).modBist (by simp) _
    refine ⟨?_, h.answered hf (by decide) hframe (by simp) (by simp) (by decide) (by decide)⟩
    rw [h.submit_eq hf (by decide)]
    exact State.left_reply_same s _ _ _ _ _ _ (x := .bist) (by decide)
  · refine h.answeredOnly (st := .badTarget) ?_ (by decide) (by decide)
    simp [cmdRepairFuse, hlen, hmac', hword, State.packetTaken_maint, hmaint, State.packetTaken_vmain, hv, hone, hne, hfull, State.badTarget]


/-! #### BIST_RUN (R632) -/

/-- No key beyond the host interface's is one that an answer reads. -/
theorem notMem_of_answerReads {keys : List Nat} (hk : ∀ k ∈ keys, 0x4000 * 32 ≤ k) : ∀ k ∈ answerReads, k ∉ keys := by
  have hlow : ∀ k ∈ answerReads, k < 0x4000 * 32 := by decide
  exact fun k hr hm => absurd (hlow k hr) (Nat.not_lt.mpr (hk k hm))

theorem State.packetTaken_busy (s : State) (op : Nat) (p : Packet) : (s.packetTaken op p).rd BIST_STATUS.BUSY = s.rd BIST_STATUS.BUSY :=
  s.packetTaken_rd _ _ (by decide) (by decide) (by decide)

theorem testRefused : Claim.testRefused := by
  intro s q p k h hlen hk hle hword
  subst hk
  have hlisted : bistListed p.target.toNat = true := by simp [bistListed, hle]
  have hcarry : (s.packetTaken 0x0A01 p).carrying = s.carrying := rfl
  refine goesTo_done ⟨fun hbusy => ?_, fun hidle hset => ?_⟩
  · refine h.answeredOnly (st := .busy) ?_ (by decide) (by decide)
    simp [cmdBistRun, hlen, hlisted, hle, hword, State.packetTaken_busy, hbusy, State.busy]
  · refine h.answeredOnly (st := .busy) ?_ (by decide) (by decide)
    simp only [cmdBistRun, hlen, hlisted, hle, State.packetTaken_busy, hidle, hcarry, hset]
    simp [hword, State.busy]

/-- An engine is no modulator group, no converter and no field channel. -/
theorem bistGroup_engine {t : Nat} (h : t ≤ 8) : bistGroup t = none := if_neg (by omega)
theorem bistChan_engine {t : Nat} (h : t ≤ 8) : bistChan t = none := if_neg (by omega)

/-- The engine's keys are no others of BIST_RUN. -/
theorem testing_key_ne (k : Nat) : BIST_ENG_STATUS.TESTING.key k 0 ≠ BIST_STATUS.BUSY.key 0 0 ∧ BIST_ENG_STATUS.TESTING.key k 0 ≠ BIST_STATUS.TGT.key 0 0
    ∧ 0x4000 * 32 ≤ BIST_ENG_STATUS.TESTING.key k 0 ∧ BIST_ENG_STATUS.TESTING.key k 0 ∉ replyKeys ∧ BIST_ENG_STATUS.TESTING.key k 0 ∉ lifeKeys := by
  have hkey : BIST_ENG_STATUS.TESTING.key k 0 = (0x120100 + 16 * k) * 32 + 2 := by
    simp [Field.key, Field.at', BIST_ENG_STATUS.TESTING, Field.mkArr]
  have hhigh : ∀ x ∈ BIST_STATUS.BUSY.key 0 0 :: BIST_STATUS.TGT.key 0 0 :: replyKeys ++ lifeKeys, x < 0x120100 * 32 := by decide
  refine ⟨fun he => ?_, fun he => ?_, by omega, fun hm => ?_, fun hm => ?_⟩
  · have := hhigh _ (by simp : BIST_STATUS.BUSY.key 0 0 ∈ _); omega
  · have := hhigh _ (by simp : BIST_STATUS.TGT.key 0 0 ∈ _); omega
  · have := hhigh _ (by simp [hm] : BIST_ENG_STATUS.TESTING.key k 0 ∈ _); omega
  · have := hhigh _ (by simp [hm] : BIST_ENG_STATUS.TESTING.key k 0 ∈ _); omega

theorem engineTestBegins : Claim.engineTestBegins := by
  intro s q p k h hlen hk hle hword hidle hcarry hnone
  subst hk
  let v := ((s.packetTaken 0x0A01 p).wr BIST_STATUS.BUSY 1).wr BIST_STATUS.TGT p.target.toNat
  obtain ⟨hbusy, htgt, hhigh, hreply, hlife⟩ := testing_key_ne p.target.toNat
  have hf : cmdBistRun (s.packetTaken 0x0A01 p) q p = { st := v.engStart p.target.toNat 1 (p.word 0), status := .acceptedPending, data := [] } := by
    have hlisted : bistListed p.target.toNat = true := by simp [bistListed, hle]
    have hcarry' : (s.packetTaken 0x0A01 p).carrying = s.carrying := rfl
    have hservice : (s.packetTaken 0x0A01 p).bistService p.target.toNat = false := by
      simp [State.bistService, bistGroup_engine hle, bistChan_engine hle]
    simp only [cmdBistRun, hlen, hlisted, hle, State.packetTaken_busy, hidle, hcarry', hcarry, State.packetTaken_bist, hnone, hservice,
      bistGroup_engine hle]
    simp [Nat.not_lt.mpr hword, State.accepted, v]
  have hframe : (s.packetTaken 0x0A01 p).Frame (v.engStart p.target.toNat 1 (p.word 0)) [.bist]
      [BIST_STATUS.BUSY.key 0 0, BIST_STATUS.TGT.key 0 0, BIST_ENG_STATUS.TESTING.key p.target.toNat 0] :=
    ((((State.Frame.refl _ _ _).wr (by simp)).wr (by simp)).modBist (by simp) _).wr (by simp)
  have hans := h.answered hf (by decide) hframe (by simp) (by simp)
    (notMem_of_answerReads fun x hx => by
      simp only [List.mem_cons, List.not_mem_nil, or_false] at hx
      rcases hx with rfl | rfl | rfl
      · decide
      · decide
      · exact hhigh) (by decide)
  rw [h.submit_eq hf (by decide)] at hans
  have hvbusy : v.rd BIST_STATUS.BUSY = 1 :=
    (State.rd_wr_other _ _ _ _ _ _ _ _ (by decide)).trans (State.rd_wr_same _ _ _ _ _ (by decide) (by decide))
  have hvtgt : v.rd BIST_STATUS.TGT = p.target.toNat :=
    (State.rd_wr_same _ _ _ _ _ (by decide) (by decide)).trans (Nat.mod_eq_of_lt (Nat.lt_of_le_of_lt hle (by decide)))
  have hbist : (s.left ((v.engStart p.target.toNat 1 (p.word 0)).reply 0x0A01 p.tag.toNat p.ifver.toNat .acceptedPending [])).bist =
      { s.bist with eng := tset s.bist.eng p.target.toNat { kind := 1, pat := p.word 0, start := s.grid.now, again := false } } :=
    State.left_reply_same s _ _ _ _ _ _ (x := .bist) (by decide)
  refine ⟨_, rfl, ?_⟩
  rw [h.submit_eq hf (by decide)]
  refine ⟨?_, ?_, ?_, ?_, ?_, hans⟩
  · rw [hbist]; exact tfind_tset_same _ _ _
  · refine (State.left_reply_rd _ _ _ _ _ _ _ (by decide) (by decide) (by decide) (by decide)).trans ?_
    exact (State.rd_wr_other _ _ _ _ _ _ _ _ hbusy.symm).trans hvbusy
  · refine (State.left_reply_rd _ _ _ _ _ _ _ (by decide) (by decide) (by decide) (by decide)).trans ?_
    exact (State.rd_wr_other _ _ _ _ _ _ _ _ htgt.symm).trans hvtgt
  · refine (State.left_reply_rd _ _ _ _ _ _ _ (by decide) (by decide) hreply hlife).trans ?_
    exact State.rd_wr_same _ _ _ _ _ (by decide) (by decide)
  · rw [hbist]

end Sys2Proof.Machine

/-! ### BIST_RUN of a modulator group (R632, R634) -/
namespace Sys2Proof.Machine
open Reg

/-- Channel `c` joins a group's test at `t`: its words carry SELFTEST from then on, its splice starts anew. -/
def State.chanTest (s : State) (t c : Nat) : State := (s.flagFrom c bSELFTEST t none).spliceRestartAt c t

theorem State.chanTest_frame (s : State) (t c : Nat) : s.Frame (s.chanTest t c) [.afe] [AFE_CH_STATUS.TWIN_MM.key c 0] := by
  have hflag : s.Frame (s.flagFrom c bSELFTEST t none) [.afe] [AFE_CH_STATUS.TWIN_MM.key c 0] := (State.Frame.refl _ _ _).setChan (by simp) _ _
  unfold State.chanTest State.spliceRestartAt; dsimp only; split
  · exact (hflag.setChan (by simp) _ _).wr (by simp)
  · exact hflag.setChan (by simp) _ _

theorem State.setChan_chan_same (s : State) (c : Nat) (k : ChanSt) : (s.setChan c k).chan c = k := tget_tset_same _ _ _ _

theorem State.setChan_chan_other (s : State) {c d : Nat} (k : ChanSt) (h : d ≠ c) : (s.setChan c k).chan d = s.chan d := tget_tset_other _ _ _ _ _ h

/-- A group's test changes of a channel its spans, its splice and its restarts; a span that is there stays, the test's own is there. -/
theorem State.chanTest_spans (s : State) (t c : Nat) :
    ((s.chanTest t c).chan c).spans = { flag := bSELFTEST, lo := t, hi := none } :: (s.chan c).spans := by
  have hflag : ((s.flagFrom c bSELFTEST t none).chan c).spans = { flag := bSELFTEST, lo := t, hi := none } :: (s.chan c).spans :=
    congrArg ChanSt.spans (s.setChan_chan_same c _)
  unfold State.chanTest State.spliceRestartAt; dsimp only; split
  · exact (congrArg ChanSt.spans ((s.flagFrom c bSELFTEST t none).setChan_chan_same c _)).trans hflag
  · exact (congrArg ChanSt.spans ((s.flagFrom c bSELFTEST t none).setChan_chan_same c _)).trans hflag

theorem State.chanTest_other (s : State) (t : Nat) {c d : Nat} (h : d ≠ c) : (s.chanTest t c).chan d = s.chan d := by
  unfold State.chanTest State.spliceRestartAt; dsimp only; split
  · exact ((s.flagFrom c bSELFTEST t none).setChan_chan_other _ h).trans (s.setChan_chan_other _ h)
  · exact ((s.flagFrom c bSELFTEST t none).setChan_chan_other _ h).trans (s.setChan_chan_other _ h)

theorem State.chanTest_afe (s : State) (t c : Nat) (ch : Tab ChanSt) : { (s.chanTest t c).afe with ch := ch } = { s.afe with ch := ch } := by
  unfold State.chanTest State.spliceRestartAt; dsimp only; split <;> rfl

section
variable (t : Nat)

theorem forL_chanTest_frame (l : List Nat) (s : State) :
    s.Frame (forL l (fun c s => s.chanTest t c) s) [.afe] (l.map fun c => AFE_CH_STATUS.TWIN_MM.key c 0) := by
  induction l generalizing s with
  | nil => exact .refl _ _ _
  | cons c l ih => exact ((s.chanTest_frame t c).trans (ih (s.chanTest t c))).mono (by simp) (by simp)

theorem forL_chanTest_other (l : List Nat) (s : State) {d : Nat} (h : d ∉ l) : (forL l (fun c s => s.chanTest t c) s).chan d = s.chan d := by
  induction l generalizing s with
  | nil => rfl
  | cons c l ih =>
    obtain ⟨hd, hl⟩ := not_or.mp (mt List.mem_cons.mpr h)
    exact (ih (s.chanTest t c) hl).trans (s.chanTest_other t hd)

theorem forL_chanTest_keeps_span (l : List Nat) (s : State) {d : Nat} {x : FlagSpan} (h : x ∈ (s.chan d).spans) :
    x ∈ ((forL l (fun c s => s.chanTest t c) s).chan d).spans := by
  induction l generalizing s with
  | nil => exact h
  | cons c l ih =>
    refine ih (s.chanTest t c) ?_
    by_cases hd : d = c
    · subst hd; rw [State.chanTest_spans]; exact List.mem_cons_of_mem _ h
    · rwa [State.chanTest_other _ _ hd]

theorem forL_chanTest_span (l : List Nat) (s : State) {d : Nat} (h : d ∈ l) :
    ({ flag := bSELFTEST, lo := t, hi := none } : FlagSpan) ∈ ((forL l (fun c s => s.chanTest t c) s).chan d).spans := by
  induction l generalizing s with
  | nil => cases h
  | cons c l ih =>
    by_cases hd : d = c
    · subst hd
      exact forL_chanTest_keeps_span t l _ (by rw [State.chanTest_spans]; exact List.mem_cons_self)
    · exact ih (s.chanTest t c) ((List.mem_cons.mp h).resolve_left hd)

theorem forL_chanTest_afe (l : List Nat) (s : State) (ch : Tab ChanSt) :
    { (forL l (fun c s => s.chanTest t c) s).afe with ch := ch } = { s.afe with ch := ch } := by
  induction l generalizing s with
  | nil => rfl
  | cons c l ih => exact (ih (s.chanTest t c)).trans (s.chanTest_afe t c ch)

end

theorem mem_groupList {g c : Nat} : c ∈ groupList g ↔ c / 16 = g := by
  simp only [groupList, List.mem_map, List.mem_range]
  constructor
  · rintro ⟨i, hi, rfl⟩; omega
  · rintro rfl; exact ⟨c % 16, by omega, by omega⟩

/-- The state before the channels of a group join its test. -/
def State.groupTested (s : State) (g : Nat) : State :=
  let u := ((s.wr BIST_STATUS.BUSY 1).wr BIST_STATUS.TGT (0x100 + g)).modBist fun v => { v with host := some { tgt := 0x100 + g, start := s.grid.now } }
  u.wr AFE_STATUS.GRP_BIST (u.rd AFE_STATUS.GRP_BIST ||| 2 ^ g)

theorem State.groupTested_frame (s : State) (g : Nat) :
    s.Frame (s.groupTested g) [.bist] [BIST_STATUS.BUSY.key 0 0, BIST_STATUS.TGT.key 0 0, AFE_STATUS.GRP_BIST.key 0 0] :=
  ((((State.Frame.refl _ _ _).wr (by simp)).wr (by simp)).modBist (by simp) _).wr (by simp)

theorem bistGroup_group {g : Nat} (h : g < 4) : bistGroup (0x100 + g) = some g := by
  unfold bistGroup; rw [if_pos (by omega)]; simp

theorem State.blockStart_group (s : State) {g : Nat} (hg : g < 4) :
    ((s.wr BIST_STATUS.BUSY 1).wr BIST_STATUS.TGT (0x100 + g)).blockStart (0x100 + g) =
      forL (groupList g) (fun c u => u.chanTest (s.grid.now * 2 ^ 32) c) (s.groupTested g) := by
  unfold State.blockStart
  rw [bistGroup_group hg]
  rfl

/-- The keys of a group's test. -/
def groupTestKeys (g : Nat) : List Nat :=
  [BIST_STATUS.BUSY.key 0 0, BIST_STATUS.TGT.key 0 0, AFE_STATUS.GRP_BIST.key 0 0] ++ (List.range 16).map fun i => AFE_CH_STATUS.TWIN_MM.key (16 * g + i) 0

theorem twin_key (c : Nat) : AFE_CH_STATUS.TWIN_MM.key c 0 = (0x21004 + 128 * c) * 32 + 4 := by
  simp [Field.key, Field.at', AFE_CH_STATUS.TWIN_MM, Field.mkArr]

theorem high_of_mem_groupTestKeys {g x : Nat} (hx : x ∈ groupTestKeys g) : 0x4000 * 32 ≤ x := by
  simp only [groupTestKeys, List.mem_append, List.mem_cons, List.not_mem_nil, or_false, List.mem_map, List.mem_range] at hx
  rcases hx with (rfl | rfl | rfl) | ⟨i, -, rfl⟩
  · decide
  · decide
  · decide
  · rw [twin_key]; omega

/-- The group's test as BIST_RUN begins it. -/
def State.groupTesting (s : State) (g : Nat) : State := forL (groupList g) (fun c u => u.chanTest (s.grid.now * 2 ^ 32) c) (s.groupTested g)

theorem cmdBistRun_group {s : State} (q : Bool) {p : Packet} {g : Nat} (hlen : p.len = 4) (htgt : p.target.toNat = 0x100 + g) (hg : g < 4)
    (hword : p.word 0 = 0) (hidle : s.rd BIST_STATUS.BUSY ≠ 1) (hcal : s.afe.cal = none) (hdiag : s.afe.diag = none) (hskew : s.afe.skew = none)
    (hservice : s.inService (groupChans (2 ^ g)) = false) :
    cmdBistRun s q p = { st := s.groupTesting g, status := .acceptedPending, data := [] } := by
  have hlisted : bistListed (0x100 + g) = true := by simp [bistListed, bistGroup_group hg]
  have hserv : s.bistService (0x100 + g) = false := by simp only [State.bistService, bistGroup_group hg, hservice]
  have hbig : ¬ 0x100 + g ≤ 8 := by omega
  have hincal : s.groupInCal g = false := by simp [State.groupInCal, hcal]
  have hinproc : s.groupInProc g = false := by simp [State.groupInProc, hdiag, hskew]
  simp only [cmdBistRun, hlen, htgt, hword, hlisted, hbig, hidle, bistGroup_group hg, Option.any_some, hincal, hinproc, hserv]
  simp only [State.blockStart_group _ hg, State.accepted, State.groupTesting]
  simp

theorem State.packetTaken_inService (s : State) (op : Nat) (p : Packet) (l : List Nat) : (s.packetTaken op p).inService l = s.inService l := by
  simp only [State.inService, State.packetTaken_role, State.packetTaken_maint, State.packetTaken_pwr]
  rfl

theorem State.groupTesting_frame (s : State) (g : Nat) : s.Frame (s.groupTesting g) [.bist, .afe] (groupTestKeys g) :=
  ((s.groupTested_frame g).trans (forL_chanTest_frame _ _ _)).mono (by simp) (by rw [groupList, List.map_map]; exact List.Subset.refl _)

/-- A field whose register lies outside the channels' registers reads as before its channels joined. -/
theorem State.groupTesting_rd (s : State) {g : Nat} (hg : g < 4) {f : Field} (hs : f.acc ≠ .SP) (ho : f.acc ≠ .OTP)
    (hf : f.key 0 0 < 0x21000 * 32 ∨ 0x23000 * 32 ≤ f.key 0 0) : (s.groupTesting g).rd f = (s.groupTested g).rd f :=
  (forL_chanTest_frame _ _ _).rd hs ho fun hm => by
    obtain ⟨c, hc, he⟩ := List.mem_map.mp hm
    have hgroup := mem_groupList.mp hc
    rw [twin_key] at he
    omega

theorem State.groupTested_busy (s : State) (g : Nat) : (s.groupTested g).rd BIST_STATUS.BUSY = 1 :=
  (State.rd_wr_other _ _ _ _ _ _ _ _ (by decide)).trans
    ((State.rd_wr_other (s.wr BIST_STATUS.BUSY 1) _ _ (0x100 + g) _ _ _ _ (by decide)).trans (State.rd_wr_same _ _ _ _ _ (by decide) (by decide)))

theorem State.groupTesting_bist (s : State) (g : Nat) : (s.groupTesting g).bist = { s.bist with host := some { tgt := 0x100 + g, start := s.grid.now } } :=
  (forL_chanTest_frame (s.grid.now * 2 ^ 32) (groupList g) (s.groupTested g)).1 .bist (by simp)

theorem State.groupTested_tgt (s : State) (g : Nat) : (s.groupTested g).rd BIST_STATUS.TGT = (0x100 + g) % 2 ^ BIST_STATUS.TGT.width :=
  (State.rd_wr_other _ _ _ _ _ _ _ _ (by decide)).trans
    (State.rd_wr_same (s.wr BIST_STATUS.BUSY 1) BIST_STATUS.TGT (0x100 + g) 0 0 (by decide) (by decide))

theorem State.groupTested_bit (s : State) {g : Nat} (hg : g < 4) : ((s.groupTested g).rd AFE_STATUS.GRP_BIST).testBit g = true := by
  unfold State.groupTested
  rw [State.rd_wr_same _ _ _ _ _ (by decide) (by decide)]
  rw [show AFE_STATUS.GRP_BIST.width = 4 from rfl, Nat.testBit_mod_two_pow, Nat.testBit_or, Nat.testBit_two_pow_self]
  simp [hg]

theorem groupTestBegins : Claim.groupTestBegins := by
  intro s q p g h hlen htgt hg hword hidle hcal hdiag hskew hservice
  have hf : cmdBistRun (s.packetTaken 0x0A01 p) q p = { st := (s.packetTaken 0x0A01 p).groupTesting g, status := .acceptedPending, data := [] } :=
    cmdBistRun_group q hlen htgt hg hword (by rwa [State.packetTaken_busy]) hcal hdiag hskew (by rwa [State.packetTaken_inService])
  have hans := h.answered hf (by decide) ((s.packetTaken 0x0A01 p).groupTesting_frame g) (by simp) (by simp)
    (notMem_of_answerReads fun x => high_of_mem_groupTestKeys) (by decide)
  generalize hu : (s.packetTaken 0x0A01 p).groupTesting g = u at *
  have hafe : (s.left (u.reply 0x0A01 p.tag.toNat p.ifver.toNat .acceptedPending [])).afe = u.afe :=
    State.left_reply_same s _ _ _ _ _ _ (x := .afe) (by decide)
  have hchan (c : Nat) : (s.left (u.reply 0x0A01 p.tag.toNat p.ifver.toNat .acceptedPending [])).chan c = u.chan c :=
    by unfold State.chan; rw [hafe]
  refine ⟨_, rfl, ?_⟩
  rw [h.submit_eq hf (by decide)] at hans ⊢
  refine ⟨?_, ?_, ?_, ?_, fun c hc => ?_, fun c hc => ?_, ?_, hans⟩
  · exact (State.left_reply_same s _ _ _ _ _ _ (x := .bist) (by decide)).trans (hu ▸ State.groupTesting_bist _ g)
  · rw [State.left_reply_rd _ _ _ _ _ _ _ (by decide) (by decide) (by decide) (by decide), ← hu,
      State.groupTesting_rd _ hg (by decide) (by decide) (by decide)]
    exact State.groupTested_bit _ hg
  · rw [State.left_reply_rd _ _ _ _ _ _ _ (by decide) (by decide) (by decide) (by decide), ← hu,
      State.groupTesting_rd _ hg (by decide) (by decide) (by decide), State.groupTested_busy]
  · rw [State.left_reply_rd _ _ _ _ _ _ _ (by decide) (by decide) (by decide) (by decide), ← hu,
      State.groupTesting_rd _ hg (by decide) (by decide) (by decide), State.groupTested_tgt]
  · rw [hchan, ← hu]; exact forL_chanTest_span _ _ _ (mem_groupList.mpr hc)
  · rw [hchan, ← hu]; exact forL_chanTest_other _ _ _ (mt mem_groupList.mp hc)
  · rw [hafe, ← hu]; exact forL_chanTest_afe _ _ _ _

end Sys2Proof.Machine

/-! ### PAIR_JOIN (R531) -/
namespace Sys2Proof.Machine
open Reg

section
variable {s t : State} {parts : List Part} {keys : List Nat}

/-- A state in which the host interface and the berth SRAM are framed has the same host interface. -/
theorem State.Frame.host_eq (h : s.Frame t parts keys) (hhost : Part.host ∉ parts) (hmem : Part.mem ∉ parts) : t.host = s.host := by
  have hm : t.host.mem = s.host.mem := h.1 .mem hmem
  have hh : { t.host with mem := [] } = { s.host with mem := [] } := h.1 .host hhost
  have hx : t.host = { s.host with mem := t.host.mem } := congrArg (fun x : HostSt => { x with mem := t.host.mem }) hh
  rw [hx, hm]

theorem State.Frame.cause (h : s.Frame t parts keys) (hhost : Part.host ∈ parts) (hk : causeKeys ⊆ keys) (i : Nat) :
    s.Frame (t.cause i) parts keys := by
  have hbits : HOST_CAUSE.BITS.key 0 0 ∈ keys := hk (by simp [causeKeys])
  unfold State.cause; dsimp only; split
  · exact (h.wr hbits).raiseVec hhost (hk (by simp [causeKeys])) _
  · exact h.wr hbits

theorem State.Frame.wrCause (h : s.Frame t parts keys) (hhost : Part.host ∈ parts) (hk : causeKeys ⊆ keys) {f : Field} (hf : f.key 0 0 ∈ keys)
    (v i : Nat) : s.Frame (t.wrCause f v i) parts keys := by
  unfold State.wrCause; split
  · exact h
  · exact (h.wr hf).cause hhost hk i

theorem State.Frame.alive (h : s.Frame t parts keys) (hk : lifeKeys ⊆ keys) : s.Frame t.alive parts keys :=
  (h.wr (hk (by simp [lifeKeys]))).wr (hk (by simp [lifeKeys]))

/-- The mask written, and since when the unit is ready (R522). -/
def State.nrShown (s : State) : State :=
  let ready := s.role == 2 && s.nrMask == 0
  ((s.wr PAIR_STATUS.NR s.nrMask).wr PAIR_STATUS.READY (b2n ready)).modPair fun p =>
    { p with readyAt := if ready then some (p.readyAt.getD s.grid.now) else none }

theorem State.nrUpdate_eq (s : State) : s.nrUpdate =
    if s.nrMask ≠ s.rd PAIR_STATUS.NR ∧ s.nrShown.role ≠ 0 then s.nrShown.logEv 0x8006 0 s.nrMask else s.nrShown := rfl

theorem State.Frame.nrShown (h : s.Frame t parts keys) (hpair : Part.pair ∈ parts) (hk : nrKeys ⊆ keys) : s.Frame t.nrShown parts keys :=
  ((h.wr (hk (by simp [nrKeys]))).wr (hk (by simp [nrKeys]))).modPair hpair _

theorem State.Frame.nrUpdate (h : s.Frame t parts keys) (hpair : Part.pair ∈ parts) (hlog : Part.log ∈ parts) (hk : nrKeys ++ logKeys ⊆ keys) :
    s.Frame t.nrUpdate parts keys := by
  have hshown := h.nrShown hpair fun _ hx => hk (List.mem_append_left _ hx)
  rw [State.nrUpdate_eq]; split
  · exact hshown.logAt hlog (fun _ hx => hk (List.mem_append_right _ hx)) (by decide) _ _ _
  · exact hshown

end

/-- A device condition changes of the host interface what it sends alone. -/
theorem State.cause_host (s : State) (i : Nat) : (s.cause i).host =
    { s.host with msixPba := (s.cause i).host.msixPba, sent := (s.cause i).host.sent } := by
  unfold State.cause; dsimp only; split
  · exact State.raiseVec_host _ _
  · rfl

theorem State.wrCause_host (s : State) (f : Field) (v i : Nat) : (s.wrCause f v i).host =
    { s.host with msixPba := (s.wrCause f v i).host.msixPba, sent := (s.wrCause f v i).host.sent } := by
  unfold State.wrCause; split
  · rfl
  · exact State.cause_host _ _

/-- The field of a condition reads what was put into it (R490, R602). -/
theorem State.wrCause_rd (s : State) {f : Field} (hs : f.acc ≠ .SP) (ho : f.acc ≠ .OTP) {v : Nat} (hv : v < 2 ^ f.width) (hf : f.key 0 0 ∉ causeKeys) (i : Nat) :
    (s.wrCause f v i).rd f = v := by
  unfold State.wrCause; split
  · assumption
  · exact (((State.Frame.refl (s.wr f v) [.host] causeKeys).cause (by simp) (List.Subset.refl _) i).rd hs ho hf).trans
      ((State.rd_wr_same _ _ _ _ _ hs ho).trans (Nat.mod_eq_of_lt hv))

/-- An effect on the parts and keys listed, with no more of the host interface than what it sends, leaves its packet answerable. -/
theorem State.Answerable.trans {s t u : State} (h : s.Answerable t) (h' : t.Answerable u) : s.Answerable u :=
  ⟨h'.wf, h'.waiting.trans h.waiting, h'.resync.trans h.resync, h'.partialAt.trans h.partialAt, h'.msgs.trans h.msgs,
    fun k hk => (h'.regs k hk).trans (h.regs k hk)⟩

theorem State.Answerable.of_frame {s t : State} {parts : List Part} {keys : List Nat} (h : s.Frame t parts keys) {x y}
    (hhost : t.host = { s.host with msixPba := x, sent := y }) (hkeys : ∀ k ∈ answerReads, k ∉ keys) (hwf : Memory.wf s.host.mem = true) :
    s.Answerable t := by
  refine ⟨?_, ?_, ?_, ?_, ?_, fun k hk => h.2 k (hkeys k hk)⟩ <;> simp only [hhost, State.msgs, hwf]

/-! #### The unit enters JOINING (R521) -/

/-- A unit that enters JOINING, before its mask is brought up to date: the times from which it joins. -/
def State.joinStart (s : State) : State :=
  (s.setRole 1).modPair fun p => { p with joinAt := (s.setRole 1).grid.now, heardAt := (s.setRole 1).grid.now, helloAt := (s.setRole 1).grid.now }

/-- The keys of a change of role (R490, R602). -/
def roleKeys : List Nat := PAIR_STATUS.ROLE.key 0 0 :: causeKeys

theorem State.Frame.setRole {s t : State} {parts : List Part} {keys : List Nat} (h : s.Frame t parts keys) (hhost : Part.host ∈ parts)
    (hk : roleKeys ⊆ keys) (v : Nat) : s.Frame (t.setRole v) parts keys :=
  h.wrCause hhost (fun _ hx => hk (List.mem_cons_of_mem _ hx)) (hk List.mem_cons_self) v 0

theorem State.setRole_role (s : State) {v : Nat} (hv : v < 8) : (s.setRole v).role = v :=
  s.wrCause_rd (by decide) (by decide) hv (by decide) 0

theorem State.joinStart_frame (s : State) : s.Frame s.joinStart [.pair, .host] roleKeys :=
  ((State.Frame.refl _ _ _).setRole (by simp) (List.Subset.refl _) 1).modPair (by simp) _

/-- What follows the start of JOINING: the life contact and the mask. -/
theorem State.enterJoining_frame (s : State) : s.joinStart.Frame s.enterJoining [.pair, .log] (lifeKeys ++ (nrKeys ++ logKeys)) :=
  ((State.Frame.refl _ _ _).alive (by simp)).nrUpdate (by simp) (by simp) (by simp)

/-- Bringing the mask up to date changes of the pair the time since which the unit is ready alone. -/
theorem State.nrUpdate_pair (s : State) : s.nrUpdate.pair = { s.pair with readyAt := s.nrUpdate.pair.readyAt } := by
  have hlog : (s.nrShown.logEv 0x8006 0 s.nrMask).pair = s.nrShown.pair :=
    ((State.Frame.refl s.nrShown [.log] logKeys).logAt (by simp) (List.Subset.refl _) (by decide) _ _ _).1 .pair (by simp)
  rw [State.nrUpdate_eq]; split
  · rw [hlog]; rfl
  · rfl

theorem State.enterJoining_pair (s : State) : s.enterJoining.pair =
    { s.pair with joinAt := s.grid.now, heardAt := s.grid.now, helloAt := s.grid.now, readyAt := s.enterJoining.pair.readyAt } := by
  have hrole := (State.Frame.refl s [.host] roleKeys).setRole (by simp) (List.Subset.refl _) 1
  have hgrid : (s.setRole 1).grid = s.grid := hrole.1 .grid (by simp)
  have hpair : (s.setRole 1).pair = s.pair := hrole.1 .pair (by simp)
  have hstart : s.joinStart.alive.pair = { s.pair with joinAt := s.grid.now, heardAt := s.grid.now, helloAt := s.grid.now } := by
    rw [← hgrid, ← hpair]; rfl
  have hnr := State.nrUpdate_pair s.joinStart.alive
  rw [hstart] at hnr
  exact hnr

theorem State.enterJoining_host (s : State) : s.enterJoining.host =
    { s.host with msixPba := s.enterJoining.host.msixPba, sent := s.enterJoining.host.sent } := by
  rw [s.enterJoining_frame.host_eq (by simp) (by simp)]
  exact s.wrCause_host _ _ _

/-- An effect that touches neither the settings in force nor custody (R539). -/
theorem State.Frame.stays {s t : State} {parts : List Part} {keys : List Nat} (h : s.Frame t parts keys) (hbank : Part.bank ∉ parts)
    (hnv : Part.nv ∉ parts) (hcust : Part.cust ∉ parts) : s.Stays (s.left t) :=
  ⟨h.1 .bank hbank, congrArg Nv.cust (h.1 .nv hnv), h.1 .cust hcust, rfl, s.left_outputsOk t⟩

theorem joiningRestarts : Claim.joiningRestarts := by
  intro s q p h hlen htgt hrole
  have htgt : p.target.toNat = 0 := by simp [htgt]
  let v := (s.packetTaken 0x0901 p).wr PAIR_STATUS.DETECT 1
  have hf : cmdPairJoin (s.packetTaken 0x0901 p) q p = { st := v.enterJoining, status := .acceptedPending, data := [] } := by
    have h0 : s.role ≠ 0 := by omega
    have h34 : ¬ (s.role = 3 ∨ s.role = 4) := by omega
    simp [cmdPairJoin, hlen, htgt, State.packetTaken_role, h0, h34, State.accepted, v]
  have hv : (s.packetTaken 0x0901 p).Frame v [] [PAIR_STATUS.DETECT.key 0 0] := (State.Frame.refl _ _ _).wr (by simp)
  have hframe := (hv.trans v.joinStart_frame).trans v.enterJoining_frame
  have hans : (s.packetTaken 0x0901 p).Answerable v.enterJoining :=
    .of_frame hframe v.enterJoining_host (by decide) (s.packetTaken_wf h.wf)
  have hreplied := h.replied hf (by decide) hans (by decide)
  rw [h.submit_eq hf (by decide)] at hreplied
  have hpair : (s.left (v.enterJoining.reply 0x0901 p.tag.toNat p.ifver.toNat .acceptedPending [])).pair = v.enterJoining.pair :=
    State.left_reply_same s _ _ _ _ _ _ (x := .pair) (by decide)
  have hstays := (hframe.answered (st := .acceptedPending) (data := []) p.tag.toNat p.ifver.toNat).stays (by decide) (by decide) (by decide)
  have hjoined := v.enterJoining_frame
  refine ⟨_, rfl, ?_⟩
  rw [h.submit_eq hf (by decide)]
  refine ⟨?_, ?_, ?_, ?_, ?_, hreplied, ?_, hstays⟩
  · exact (State.left_reply_rd _ _ _ _ _ _ _ (by decide) (by decide) (by decide) (by decide)).trans
      ((hjoined.rd (by decide) (by decide) (by decide)).trans (v.setRole_role (by decide)))
  · exact (State.left_reply_rd _ _ _ _ _ _ _ (by decide) (by decide) (by decide) (by decide)).trans
      (((v.joinStart_frame.trans hjoined).rd (by decide) (by decide) (by decide)).trans (State.rd_wr_same _ _ _ _ _ (by decide) (by decide)))
  · rw [hpair, v.enterJoining_pair]; rfl
  · rw [hpair, v.enterJoining_pair]; rfl
  · rw [hpair, v.enterJoining_pair]; rfl
  · exact (State.left_reply_same s _ _ _ _ _ _ (x := .nv) (by decide)).trans (hframe.1 .nv (by decide))

end Sys2Proof.Machine

/-! ### EVT_CLEAR (R481, R482) -/
namespace Sys2Proof.Machine
open Reg

/-! #### A message offered to a producer's berth (R574, R576) -/

/-- The keys that a message offered to berth `b` writes. -/
def offerKeys (b : Nat) : List Nat :=
  HOST_BERTH_SEQ.VALUE.key b 0 :: HOST_BERTH_TAIL.VALUE.key b 0 :: HOST_BERTH_DROP_CNT.VALUE.key b 0 :: appendKeys b

section
variable {s t : State} {parts : List Part} {keys : List Nat}

theorem State.Frame.dropOne (h : s.Frame t parts keys) (hhost : Part.host ∈ parts) {b : Nat} (hk : HOST_BERTH_DROP_CNT.VALUE.key b 0 ∈ keys) :
    s.Frame (t.dropOne b) parts keys :=
  (h.withHost hhost (x := { t.host with secDrops := tset t.host.secDrops b (tget 0 t.host.secDrops b + 1) }) rfl).bump hk

theorem State.Frame.makeRoom (hhost : Part.host ∈ parts) {b : Nat} (hk : offerKeys b ⊆ keys) (n : Nat) (fuel : Nat) :
    ∀ {t : State}, s.Frame t parts keys → s.Frame (t.makeRoom b n fuel) parts keys := by
  induction fuel with
  | zero => exact fun h => h
  | succ fuel ih =>
    intro t h
    simp only [State.makeRoom]
    split
    · exact h
    · split
      · exact h
      · exact ih (((h.setMsgs hhost (hk (by simp [offerKeys, appendKeys])) _).wr (hk (by simp [offerKeys]))).dropOne hhost
          (hk (by simp [offerKeys])))

theorem State.Frame.putMsg (h : s.Frame t parts keys) (hhost : Part.host ∈ parts) (hmem : Part.mem ∈ parts) {b : Nat} (hk : offerKeys b ⊆ keys)
    (type : Nat) (body : List Byte) : s.Frame (t.putMsg b type body).1 parts keys := by
  have hseq (v : Nat) := h.wr (v := v) (hk (show HOST_BERTH_SEQ.VALUE.key b 0 ∈ offerKeys b by simp [offerKeys]))
  have hdrop : HOST_BERTH_DROP_CNT.VALUE.key b 0 ∈ keys := hk (by simp [offerKeys])
  have happend : appendKeys b ⊆ keys := fun _ hx => hk (by simp [offerKeys, hx])
  unfold State.putMsg; dsimp only; (repeat' split)
  · exact (hseq _).dropOne hhost hdrop
  · exact (hseq _).append hhost hmem happend _
  · exact (State.Frame.makeRoom hhost hk _ _ (hseq _)).append hhost hmem happend _
  · exact (hseq _).dropOne hhost hdrop

end

/-- What is under way of the command berths: the replies in B1 and the packets that B0 holds (R583, R584). -/
def State.underWay (s : State) : List Msg × List Waiting × Option (Nat × Nat) × Option Nat :=
  (s.msgs 1, s.host.waiting, s.host.resync, s.host.partialAt)

@[simp] theorem State.wr_underWay (s : State) (f : Field) (v i j : Nat) : (s.wr f v i j).underWay = s.underWay := rfl

theorem State.setMsgs_underWay (s : State) {b : Nat} (hb : 2 ≤ b) (l : List Msg) : (s.setMsgs b l).underWay = s.underWay := by
  have hmsgs : tget [] (tset s.host.msgs b l) 1 = tget [] s.host.msgs 1 := tget_tset_other _ _ _ _ _ (by omega)
  simp [State.underWay, State.setMsgs, State.msgs, hmsgs]

theorem State.append_underWay (s : State) {b : Nat} (hb : 2 ≤ b) (l : List Byte) : (s.append b l).underWay = s.underWay := by
  have hmsgs : tget [] (tset s.host.msgs b (s.msgs b ++ [s.msgOf b l])) 1 = tget [] s.host.msgs 1 :=
    tget_tset_other _ _ _ _ _ (by omega)
  unfold State.underWay State.msgs
  rw [State.append_host, ← hmsgs]

@[simp] theorem State.dropOne_underWay (s : State) (b : Nat) : (s.dropOne b).underWay = s.underWay := rfl

theorem State.makeRoom_underWay {b : Nat} (hb : 2 ≤ b) (n fuel : Nat) : ∀ s : State, (s.makeRoom b n fuel).underWay = s.underWay := by
  induction fuel with
  | zero => exact fun _ => rfl
  | succ fuel ih =>
    intro s
    simp only [State.makeRoom]
    split
    · rfl
    · split
      · rfl
      · rw [ih, State.dropOne_underWay, State.wr_underWay, State.setMsgs_underWay _ hb]

theorem State.putMsg_underWay (s : State) {b : Nat} (hb : 2 ≤ b) (type : Nat) (body : List Byte) : (s.putMsg b type body).1.underWay = s.underWay := by
  unfold State.putMsg; dsimp only; (repeat' split)
  · rfl
  · exact State.append_underWay _ hb _
  · exact (State.append_underWay _ hb _).trans (State.makeRoom_underWay hb _ _ _)
  · rfl

/-- A producer's berth is none of the two that commands use (R571, R578). -/
theorem State.two_le_of_berthOk {s : State} {b policy size : Nat} (h : s.berthOk b policy size = true) : 2 ≤ b := by
  simp only [State.berthOk, Bool.and_eq_true, decide_eq_true_eq] at h
  exact h.1.1.1.1

/-! #### An entry that becomes durable (R467 to R469, R485) -/

/-- The keys that an entry offered to the event berth writes. -/
def State.entryKeys (s : State) : List Nat :=
  HOST_MISROUTE_CNT.VALUE.key 0 0 :: EVT_BERTH_DROP_CNT.VALUE.key 0 0 ::
    (if 2 ≤ s.rd EVT_BERTH.BERTH then offerKeys (s.rd EVT_BERTH.BERTH) else [])

theorem State.offerEntry_frame (s : State) (e : LogEntry) : s.Frame (s.offerEntry e) [.host, .mem] s.entryKeys := by
  have hself : s.Frame s [.host, .mem] s.entryKeys := .refl _ _ _
  unfold State.offerEntry; dsimp only
  split
  · exact hself
  · split
    · exact hself.bump (by simp [State.entryKeys])
    · next hok =>
      have hput := hself.putMsg (by simp) (by simp) (b := s.rd EVT_BERTH.BERTH)
        (by simp [State.entryKeys, State.two_le_of_berthOk (by simpa using hok)]) 1 e.bytes
      split
      · exact hput
      · exact hput.bump (by simp [State.entryKeys])

theorem State.offerEntry_underWay (s : State) (e : LogEntry) : (s.offerEntry e).underWay = s.underWay := by
  unfold State.offerEntry; dsimp only
  split
  · rfl
  · split
    · rfl
    · next hok =>
      have hput := s.putMsg_underWay (State.two_le_of_berthOk (by simpa using hok)) 1 e.bytes
      split
      · exact hput
      · exact hput

/-- The keys of a producer's berth are none that an answer reads. -/
theorem State.answerReads_notMem_entryKeys (s : State) : ∀ k ∈ answerReads, k ∉ s.entryKeys := by
  have hlow : ∀ k ∈ answerReads, k ≤ HOST_BERTH_TAIL.VALUE.key 1 0 ∧ k ≠ HOST_IRQ_PEND.MASK.key 0 0 ∧ k ≠ HOST_MISROUTE_CNT.VALUE.key 0 0 := by decide
  intro k hk hmem
  obtain ⟨hle, hirq, hmis⟩ := hlow k hk
  unfold State.entryKeys at hmem
  split at hmem
  · next hb =>
    simp only [offerKeys, appendKeys, List.mem_cons, List.not_mem_nil, or_false] at hmem
    simp only [Field.key, Field.at', HOST_BERTH_SEQ.VALUE, HOST_BERTH_TAIL.VALUE, HOST_BERTH_DROP_CNT.VALUE, HOST_BERTH_HEAD.VALUE,
      HOST_BERTH_CNT.VALUE, HOST_MISROUTE_CNT.VALUE, EVT_BERTH_DROP_CNT.VALUE, HOST_IRQ_PEND.MASK, Field.mkArr, Field.mk'] at hmem hle hirq hmis
    omega
  · simp only [List.mem_cons, List.not_mem_nil, or_false] at hmem
    simp only [Field.key, Field.at', HOST_BERTH_TAIL.VALUE, HOST_MISROUTE_CNT.VALUE, EVT_BERTH_DROP_CNT.VALUE, Field.mkArr, Field.mk'] at hmem hle hmis
    omega

/-- An entry with its sequence number, as the log keeps it (R470, R472). -/
def LogEntry.numbered (e : LogEntry) (n : Nat) : LogEntry := { e with seq := n, flags := e.flags + (if n ≤ 4096 then 4 else 0) }

/-- The log with one entry more, before its permanent area is full and before the oldest entries go (R467 to R469, R482). -/
def LogNv.appended (l : LogNv) (e : LogEntry) : LogNv :=
  { l with entries := e.numbered l.nextSeq :: l.entries, nextSeq := l.nextSeq + 1,
           clearMark := if e.code = 0x0011 then e.val else l.clearMark, clears := if e.code = 0x0011 then satInc l.clears else l.clears }

theorem LogNv.appended_clearMark (l : LogNv) {e : LogEntry} (h : e.code = 0x0011) : (l.appended e).clearMark = e.val := if_pos h
theorem LogNv.appended_clears (l : LogNv) {e : LogEntry} (h : e.code = 0x0011) : (l.appended e).clears = satInc l.clears := if_pos h
theorem State.entryOf_code (s : State) (dev code src val : Nat) : (s.entryOf dev code src val).code = code := rfl
theorem State.entryOf_val (s : State) (dev code src val : Nat) : (s.entryOf dev code src val).val = val % 2 ^ 32 := rfl

theorem State.appendEntry_eq {s : State} (e : LogEntry) (hn : s.nv.log.nextSeq < 4096) :
    s.appendEntry e = ((s.modLogNv (·.appended e)).logRegs).offerEntry (e.numbered s.nv.log.nextSeq) := by
  have hold : ¬ 131072 < s.nv.log.nextSeq := by omega
  have hlast : s.nv.log.nextSeq ≠ 4096 := by omega
  unfold State.appendEntry
  simp only [hold, hlast, if_false]
  rfl

/-- With one entry queued that the log can take, draining the queue makes that entry durable (R479). -/
theorem State.drainAll_of_single {s : State} {e : LogEntry} {t : Nat} (hq : s.log.queue = [(e, t)]) (hready : s.rd EVT_STATUS.READY = 1)
    (hheld : s.writesHeld = false) (hn : s.nv.log.nextSeq < 4096) :
    s.drainAll = ((s.modLog fun l => { l with queue := [] }).raiseTo EVT_APPEND_MAX.VALUE ((s.grid.now - t) / 250)).appendEntry e := by
  have happend : s.evtAppend = ((s.modLog fun l => { l with queue := [] }).raiseTo EVT_APPEND_MAX.VALUE ((s.grid.now - t) / 250)).appendEntry e := by
    unfold State.evtAppend
    rw [if_neg (by simp [hready, hheld])]
    simp only [hq]
    rfl
  have hempty : s.evtAppend.log.queue = [] := by
    rw [happend, State.appendEntry_eq _ (by simpa using hn)]
    exact congrArg LogSt.queue ((State.offerEntry_frame _ _).1 .log (by simp))
  simp only [State.drainAll, hq, List.length_singleton, State.drainLog, hempty, List.isEmpty_cons, List.isEmpty_nil, if_true, if_false,
    Bool.false_eq_true, happend.symm]

/-- The keys of the registers that show the durable log. -/
def logRegKeys : List Nat :=
  [EVT_NEXT_SEQ.VALUE, EVT_OLDEST_SEQ.VALUE, EVT_CLEAR_MARK.VALUE, EVT_CLEAR_CNT.VALUE, EVT_STATUS.PERM_FULL].map (·.key 0 0)

theorem State.logRegs_frame (s : State) : s.Frame s.logRegs [] logRegKeys :=
  (((((State.Frame.refl _ _ _).wr (by decide)).wr (by decide)).wr (by decide)).wr (by decide)).wr (by decide)

/-! #### Custody's registers (R542, R545, R547) -/

theorem forN_invariant {σ : Type} (P : σ → Prop) (f : Nat → σ → σ) (n : Nat) (hf : ∀ i < n, ∀ s, P s → P (f i s)) {s : σ} (hs : P s) :
    P (forN n f s) := by
  have hall (l : List Nat) (hl : ∀ i ∈ l, i < n) : ∀ s, P s → P (forL l f s) := by
    induction l with
    | nil => exact fun _ h => h
    | cons i l ih => exact fun s h => ih (fun j hj => hl j (List.mem_cons_of_mem _ hj)) _ (hf i (hl i List.mem_cons_self) s h)
  exact hall _ (fun i hi => List.mem_range.mp hi) s hs

theorem State.Frame.wr64 {s t : State} {parts : List Part} {keys : List Nat} (h : s.Frame t parts keys) {lo hi : Field} {v i : Nat}
    (hlo : lo.key i 0 ∈ keys) (hhi : hi.key i 0 ∈ keys) : s.Frame (t.wr64 lo hi v i) parts keys := (h.wr hlo).wr hhi

theorem State.custRegs_frame (s : State) : s.Frame s.custRegs [] custKeys := by
  unfold State.custRegs
  refine forN_invariant (fun t => s.Frame t [] custKeys) _ 8 (fun k hk t h => ?_) ?_
  · have hmem {f : Field} (hf : f ∈ [SET_KEY_CFG.ROLE, SET_KEY_USE_CNT.VALUE, SET_KEY_FP_LO.VALUE, SET_KEY_FP_HI.VALUE]) : f.key k 0 ∈ custKeys :=
      List.mem_append_right _ (List.mem_flatMap.mpr ⟨k, List.mem_range.mpr hk, List.mem_map_of_mem hf⟩)
    exact (((h.wr (hmem (by simp))).wr (hmem (by simp))).wr (hmem (by simp))).wr (hmem (by simp))
  · dsimp only
    refine State.Frame.wr (State.Frame.wr64 (State.Frame.wr64 (State.Frame.wr64 (State.Frame.wr (State.Frame.wr (State.Frame.wr (State.Frame.wr
      (State.Frame.wr (State.Frame.wr (State.Frame.wr (State.Frame.refl _ _ _) ?_) ?_) ?_) ?_) ?_) ?_) ?_) ?_ ?_) ?_ ?_) ?_ ?_) ?_ <;> decide

/-! #### The log is cleared -/

/-- The log after an event raised with nothing queued, once the queue is drained. -/
def State.logDrained (s : State) (code src val : Nat) : State := (s.logEv code src val).drainAll

section
variable {s : State} {code : Nat}

/-- An exempt event raised with nothing queued is durable once the queue is drained: what is written (R473, R479). -/
theorem State.logDrained_eq (hexempt : exempt code = true) (hempty : s.log.queue = []) (hready : s.rd EVT_STATUS.READY = 1)
    (hheld : s.writesHeld = false) (hn : s.nv.log.nextSeq < 4096) (src val : Nat) : s.logDrained code src val =
      ((((s.logEv code src val).modLog fun l => { l with queue := [] }).raiseTo EVT_APPEND_MAX.VALUE
        (((s.logEv code src val).grid.now - s.grid.now) / 250)).appendEntry (s.entryOf (s.log.clock.getD s.grid.now) code src val)) := by
  have hlog := (exemptEventQueued s (s.log.clock.getD s.grid.now) code src val hexempt (State.queueTakes_of_empty hempty _)).1
  have hframe := (State.Frame.refl s [.log] logKeys).logAt (by simp) (List.Subset.refl _) (ne_fault_of_exempt hexempt)
    (s.log.clock.getD s.grid.now) src val
  have hnv : (s.logEv code src val).nv = s.nv := hframe.1 .nv (by simp)
  refine State.drainAll_of_single ((congrArg LogSt.queue hlog).trans ?_) ?_ ?_ (hnv ▸ hn)
  · rw [hempty]; rfl
  · exact (hframe.rd (by decide) (by decide) (by decide)).trans hready
  · rw [← hheld]
    exact congrArg (· == 1) (hframe.rd (f := PWR_STATUS.VMAIN_WARN) (by decide) (by decide) (by decide))

/-- It is the entry that the log has more, and nothing of the command berths has changed. -/
theorem State.logDrained_shows (hexempt : exempt code = true) (hempty : s.log.queue = []) (hready : s.rd EVT_STATUS.READY = 1)
    (hheld : s.writesHeld = false) (hn : s.nv.log.nextSeq < 4096) (src val : Nat) :
    (s.logDrained code src val).nv = { s.nv with log := s.nv.log.appended (s.entryOf (s.log.clock.getD s.grid.now) code src val) }
    ∧ (s.logDrained code src val).underWay = s.underWay
    ∧ ∀ k ∈ answerReads, tfind (s.logDrained code src val).regs k = tfind s.regs k := by
  have hlogged := (State.Frame.refl s [.log] (logKeys ++ [EVT_APPEND_MAX.VALUE.key 0 0])).logAt (by simp) (by simp) (ne_fault_of_exempt hexempt)
    (s.log.clock.getD s.grid.now) src val
  rw [State.logDrained_eq hexempt hempty hready hheld hn]
  generalize s.entryOf (s.log.clock.getD s.grid.now) code src val = e
  have htaken := (hlogged.modLog (by simp) fun l => { l with queue := [] }).wr (f := EVT_APPEND_MAX.VALUE)
    (v := max ((s.logEv code src val).rd EVT_APPEND_MAX.VALUE)
      (min (((s.logEv code src val).grid.now - s.grid.now) / 250) (2 ^ EVT_APPEND_MAX.VALUE.width - 1))) (i := 0) (j := 0) (by simp)
  change s.Frame (((s.logEv code src val).modLog fun l => { l with queue := [] }).raiseTo EVT_APPEND_MAX.VALUE
    (((s.logEv code src val).grid.now - s.grid.now) / 250)) _ _ at htaken
  generalize ((s.logEv code src val).modLog fun l => { l with queue := [] }).raiseTo EVT_APPEND_MAX.VALUE
    (((s.logEv code src val).grid.now - s.grid.now) / 250) = u at htaken ⊢
  have hnv : u.nv = s.nv := htaken.1 .nv (by simp)
  have hhost : u.host = s.host := htaken.host_eq (by simp) (by simp)
  rw [State.appendEntry_eq e (hnv ▸ hn)]
  have hoffer := State.offerEntry_frame (u.modLogNv (·.appended e)).logRegs (e.numbered u.nv.log.nextSeq)
  refine ⟨(hoffer.1 .nv (by simp)).trans ?_, (State.offerEntry_underWay _ _).trans ?_, fun k hk => ?_⟩
  · rw [← hnv]; rfl
  · exact congrArg (fun h : HostSt => (tget [] h.msgs 1, h.waiting, h.resync, h.partialAt)) hhost
  · calc tfind _ k = tfind (u.modLogNv (·.appended e)).logRegs.regs k := hoffer.2 k (State.answerReads_notMem_entryKeys _ k hk)
      _ = tfind u.regs k := (State.logRegs_frame (u.modLogNv (·.appended e))).2 k ((by decide : ∀ k ∈ answerReads, k ∉ logRegKeys) k hk)
      _ = tfind s.regs k := htaken.2 k ((by decide : ∀ k ∈ answerReads, k ∉ logKeys ++ [EVT_APPEND_MAX.VALUE.key 0 0]) k hk)

end

/-- What custody and the log have once an endorsed clear is accepted (R481, R545). -/
def State.clearing (s : State) (slot : Nat) : State := ((s.useSlot slot).custWrite fun c => { c with ctr := c.ctr + 1 }).custRegs

theorem State.clearing_nv (s : State) (slot : Nat) : (s.clearing slot).nv =
    ((s.useSlot slot).custWrite fun c => { c with ctr := c.ctr + 1 }).nv := (State.custRegs_frame _).1 .nv (by simp)

theorem State.clearing_rd (s : State) (slot : Nat) {f : Field} (hs : f.acc ≠ .SP) (ho : f.acc ≠ .OTP) (hk : f.key 0 0 ∉ custKeys) :
    (s.clearing slot).rd f = s.rd f :=
  (State.custRegs_frame ((s.useSlot slot).custWrite fun c => { c with ctr := c.ctr + 1 })).rd hs ho hk

theorem State.packetTaken_endorseCheck (s : State) (op : Nat) (p : Packet) (e : Endorse) (n subject : Nat) :
    (s.packetTaken op p).endorseCheck e n subject = s.endorseCheck e n subject := rfl

theorem logCleared : Claim.logCleared := by
  intro s q p e h hlen htgt he hmaint hmark hnext hlocked hcheck hready hheld hempty hroom
  subst he
  have htgt : p.target.toNat = 0 := by simp [htgt]
  let T := s.packetTaken 0x0802 p
  let slot := (p.endorse 4).slot
  let v := T.clearing slot
  let u := v.logDrained 0x0011 slot (p.word 0)
  have hf : cmdEvtClear T q p = { st := u, status := .ok, data := [] } := by
    have hrange : ¬ (T.nv.log.nextSeq ≤ p.word 0 ∨ p.word 0 ≤ T.nv.log.clearMark) := by
      simp only [T, State.packetTaken_nv]; omega
    have hm : T.maint = true := (s.packetTaken_maint _ _).trans hmaint
    have hl : T.locked = false := hlocked
    have hc := (s.packetTaken_endorseCheck 0x0802 p (p.endorse 4) 2 (digest64 (ascii "ECLR" ++ leBytes 4 (p.word 0)))).trans hcheck
    unfold cmdEvtClear
    dsimp only
    rw [if_neg (by simp [hlen]), if_neg (by simp [htgt]), hm, if_neg (by simp), if_neg hrange, hl, if_neg (by simp), hc]
    rfl
  have hvlog : v.log.queue = [] := (congrArg LogSt.queue (State.custRegs_log _)).trans hempty
  have hvready : v.rd EVT_STATUS.READY = 1 :=
    (T.clearing_rd slot (by decide) (by decide) (by decide)).trans ((s.packetTaken_rd _ _ (by decide) (by decide) (by decide)).trans hready)
  have hvheld : v.writesHeld = false := by
    rw [← hheld]
    exact congrArg (· == 1) ((T.clearing_rd slot (f := PWR_STATUS.VMAIN_WARN) (by decide) (by decide) (by decide)).trans
      (s.packetTaken_rd _ _ (by decide) (by decide) (by decide)))
  have hvnv := T.clearing_nv slot
  have hvseq : v.nv.log.nextSeq < 4096 := by
    have hseq : v.nv.log.nextSeq = s.nv.log.nextSeq := congrArg (·.log.nextSeq) hvnv
    omega
  obtain ⟨hnv, hway, hregs⟩ := State.logDrained_shows (code := 0x0011) (by decide) hvlog hvready hvheld hvseq slot (p.word 0)
  have hwf : Memory.wf u.host.mem = true := by
    have htaken : T.kept.1 = true := s.packetTaken_wf h.wf
    have hv : v.kept.1 = true := by
      have hregs : v.kept = ((T.useSlot slot).custWrite fun c => { c with ctr := c.ctr + 1 }).kept := State.custRegs_kept _
      exact (congrArg Prod.fst hregs).trans htaken
    have hlogged : (v.logEv 0x0011 slot (p.word 0)).kept.1 = true := by rw [State.logEv_kept]; exact hv
    exact (congrArg Prod.fst (State.drainAll_kept _ hlogged)).trans hlogged
  have hans : T.Answerable u := by
    have hvhost : v.host = T.host :=
      (State.custRegs_frame ((T.useSlot slot).custWrite fun c => { c with ctr := c.ctr + 1 })).host_eq (by simp) (by simp)
    have hboth : u.underWay = T.underWay :=
      hway.trans (congrArg (fun h : HostSt => (tget [] h.msgs 1, h.waiting, h.resync, h.partialAt)) hvhost)
    simp only [State.underWay, Prod.mk.injEq] at hboth
    obtain ⟨hmsgs, hwaiting, hresync, hpartial⟩ := hboth
    exact ⟨hwf, hwaiting, hresync, hpartial, hmsgs, fun k hk => (hregs k hk).trans
      ((State.custRegs_frame ((T.useSlot slot).custWrite fun c => { c with ctr := c.ctr + 1 })).2 k
        ((by decide : ∀ k ∈ answerReads, k ∉ custKeys) k hk))⟩
  have hsettings : u.settings = s.settings := by
    have hcleared : v.settings = T.settings := State.custRegs_settings _
    rw [show u.settings = v.settings from (State.drainAll_settings _).trans (State.logEv_settings _ _ _ _), hcleared]
    exact State.packetTaken_bank ..
  have hreplied := h.replied hf (by decide) hans (by decide)
  refine ⟨_, rfl, ?_⟩
  rw [h.submit_eq hf (by decide)] at hreplied ⊢
  have htnv : (s.left (u.reply 0x0802 p.tag.toNat p.ifver.toNat .ok [])).nv = u.nv := State.left_reply_same s _ _ _ _ _ _ (x := .nv) (by decide)
  have hval : p.word 0 % 2 ^ 32 = p.word 0 := Nat.mod_eq_of_lt (by omega)
  have hcust : (s.left (u.reply 0x0802 p.tag.toNat p.ifver.toNat .ok [])).nv.cust = v.nv.cust := by rw [htnv, hnv]
  have hlog : (s.left (u.reply 0x0802 p.tag.toNat p.ifver.toNat .ok [])).nv.log =
      s.nv.log.appended (v.entryOf (v.log.clock.getD v.grid.now) 0x0011 slot (p.word 0)) := by rw [htnv, hnv, hvnv]; rfl
  refine ⟨?_, ?_, ?_, ?_, ?_, ?_, hreplied, ?_, s.left_pending _, s.left_outputsOk _⟩
  · rw [hcust, hvnv]; rfl
  · unfold State.slot
    rw [hcust, hvnv]
    exact tget_tset_same _ _ _ _
  · rw [hlog, LogNv.appended_clearMark _ (State.entryOf_code ..), State.entryOf_val, hval]
  · rw [hlog, LogNv.appended_clears _ (State.entryOf_code ..)]
  · rw [hlog]; rfl
  · exact ⟨(v.entryOf (v.log.clock.getD v.grid.now) 0x0011 slot (p.word 0)).numbered s.nv.log.nextSeq, by rw [hlog]; rfl,
      rfl, rfl, v.entryOf_val (v.log.clock.getD v.grid.now) 0x0011 slot (p.word 0), rfl⟩
  · exact (State.left_reply_same s _ _ _ _ _ _ (x := .bank) (by decide)).trans hsettings

/-- Settles O60: each unit command changes what its row names and is answered, or is refused with its REASON. -/
theorem unitCommands : Obligations.UnitCommands :=
  ⟨logCleared, entriesRead, readRefused, joiningRestarts, joinRefused, handoverOffered, yieldRefused, pairTold, engineTestBegins, groupTestBegins,
    testRefused, repairBegins, repairRefused⟩

end Sys2Proof.Machine

/-! ### The Lumko link's payloads and the snapshot as bytes (R491 to R494, R505, R507) -/
namespace Sys2Proof.Machine
open Reg

/-! #### Fields of a payload -/

theorem leAt_head (n v : Nat) (l : List Byte) : leAt (leBytes n v ++ l) 0 n = v % 256 ^ n := by
  have htake : ((leBytes n v ++ l).drop 0).take n = leBytes n v := by
    rw [List.drop_zero, List.take_left' (leBytes_length n v)]
  rw [leAt, htake, ofLe_leBytes]

theorem leAt_skip {k off : Nat} (h : k ≤ off) (n v : Nat) (l : List Byte) : leAt (leBytes k v ++ l) off n = leAt l (off - k) n := by
  have hlen := leBytes_length k v
  rw [leAt, leAt, List.drop_append, List.drop_eq_nil_of_le (by omega), hlen, List.nil_append]

/-- A HELLO whose fields fit their widths is read back from its payload (R493). -/
theorem hello_roundTrip (h : Hello) (hvers : h.vers < 4) (hrank : h.rank < 256) (hserial : h.serial < 2 ^ 64) (hfw : h.fw < 2 ^ 32)
    (hdig : h.dig < 2 ^ 64) : Hello.ofBytes h.bytes = h := by
  have hbytes : h.bytes = leBytes 1 (h.vers % 4) ++ (leBytes 1 h.rank ++ (leBytes 8 h.serial ++ (leBytes 4 h.fw ++ (leBytes 8 h.dig ++ [])))) := by
    simp only [Hello.bytes, List.append_assoc, List.append_nil]
  obtain ⟨vers, rank, serial, fw, dig⟩ := h
  simp only [Hello.ofBytes, hbytes, leAt_head, leAt_skip, Nat.reduceLeDiff, Nat.reduceSub, Nat.reducePow, Hello.mk.injEq] at *
  omega

/-- The flags of a heartbeat's first byte are read back from it (R494). -/
theorem heartbeat_flags (role rank : Nat) (ready assert_ ho : Bool) (hrole : role < 8) (hrank : rank < 2) :
    let b := (role % 8 + 8 * (rank % 2) + 16 * b2n ready + 32 * b2n assert_ + 64 * b2n ho) % 256
    b % 8 = role ∧ b / 8 % 2 = rank ∧ b.testBit 4 = ready ∧ b.testBit 5 = assert_ ∧ b.testBit 6 = ho := by
  cases ready <;> cases assert_ <;> cases ho <;> interval_cases role <;> interval_cases rank <;> decide

/-- A HEARTBEAT whose fields fit their widths is read back from its payload (R494). -/
theorem heartbeat_roundTrip (h : Heartbeat) (hrole : h.role < 8) (hrank : h.rank < 2) (hword : h.word < 256) (hnr : h.nr < 2 ^ 16) (hs : h.s < 2 ^ 64)
    (he : h.e < 2 ^ 64) (hw : h.w < 2 ^ 32) (hn : h.tickN < 2 ^ 64) (hat : h.tickAt < 2 ^ 64) (hsnap : h.snap < 2 ^ 32) (hdig : h.dig < 2 ^ 64)
    (hin : h.inDig < 2 ^ 32) (hproof : h.proof < 256) (hseen : h.pSeen < 256) (hcode : h.code < 256) : Heartbeat.ofBytes h.bytes = h := by
  have hflags := heartbeat_flags h.role h.rank h.ready h.assert_ h.ho hrole hrank
  have hbytes : h.bytes = leBytes 1 (h.role % 8 + 8 * (h.rank % 2) + 16 * b2n h.ready + 32 * b2n h.assert_ + 64 * b2n h.ho)
      ++ (leBytes 1 h.word ++ (leBytes 2 h.nr ++ (leBytes 8 h.s ++ (leBytes 8 h.e ++ (leBytes 4 h.w ++ (leBytes 8 h.tickN ++ (leBytes 8 h.tickAt
      ++ (leBytes 4 h.snap ++ (leBytes 8 h.dig ++ (leBytes 4 h.inDig ++ (leBytes 1 h.proof ++ (leBytes 1 h.pSeen ++ (leBytes 1 h.code
      ++ leBytes 5 0))))))))))))) := by
    simp only [Heartbeat.bytes, List.append_assoc]
  obtain ⟨role, rank, ready, assert_, ho, word, nr, s, e, w, tickN, tickAt, snap, dig, inDig, proof, pSeen, code⟩ := h
  simp only [Heartbeat.ofBytes, hbytes, leAt_head, leAt_skip, Nat.reduceLeDiff, Nat.reduceSub, Nat.reducePow, Heartbeat.mk.injEq] at *
  obtain ⟨hb1, hb2, hb3, hb4, hb5⟩ := hflags
  refine ⟨hb1, hb2, hb3, hb4, hb5, ?_⟩
  omega

theorem linkPayloads : Claim.linkPayloads := by
  refine ⟨fun h hvers hrank hserial hfw hdig => ⟨?_, hello_roundTrip h hvers hrank hserial hfw hdig⟩,
    fun h hrole hrank hword hnr hs he hw hn hat hsnap hdig hin hproof hseen hcode =>
      ⟨?_, heartbeat_roundTrip h hrole hrank hword hnr hs he hw hn hat hsnap hdig hin hproof hseen hcode⟩⟩
  · simp [Hello.bytes]
  · simp [Heartbeat.bytes]

/-! #### The layout of a snapshot (R505) -/

theorem snapSlot_length (n sec : Nat) (l : List Nat) : (snapSlot n sec l).length = n := by simp [snapSlot]

/-- A section is as long as its slots are, whatever is listed. -/
theorem snapSection_length {α : Type} (cnt n : Nat) (l : List α) (key : α → Nat) (slot : α → List Byte) (h : ∀ x, (slot x).length = n) :
    (snapSection cnt n l key slot).length = cnt * n := by
  rw [snapSection, List.length_flatMap, List.map_congr_left (g := fun _ => n)]
  · simp
  · intro i _
    split
    · exact h _
    · exact List.length_replicate

theorem snapshotSize : Claim.snapshotSize := by
  intro x
  have hknot (y : SnapKnot) : y.slot.length = 12 := by simp [SnapKnot.slot, zeroBytes]
  have hheader : x.header.length = 256 := by simp [Snap.header, snapSlot_length]
  have hbays := snapSection_length 64 64 x.bays (·.b) SnapBay.slot fun _ => snapSlot_length _ _ _
  have helms := snapSection_length 2048 64 x.elms (·.e) SnapElm.slot fun _ => snapSlot_length _ _ _
  have hknots := snapSection_length 16384 12 x.knots (·.q) SnapKnot.slot hknot
  have hrows := snapSection_length 32 16 x.rows (·.d) SnapRow.slot fun _ => snapSlot_length _ _ _
  have hrecs := snapSection_length 4 64 x.recs (·.i) SnapRec.slot fun _ => snapSlot_length _ _ _
  have hgp := snapSection_length 128 8 x.gp (·.1) (fun y => snapSlot 8 6 [y.2.1, b2n y.2.2]) fun _ => snapSlot_length _ _ _
  simp only [Snap.image, Snap.sections, List.length_flatten, List.map_cons, List.map_nil, List.sum_cons, List.sum_nil, hheader, snapSlot_length,
    leBytes_length, hbays, helms, hknots, hrows, hrecs, hgp, Nat.reduceMul, Nat.reduceAdd]

/-! #### Zero runs (R492, R505) -/

theorem zeroRun_length_le (z : Nat) : (zeroRun z).length ≤ z := by
  unfold zeroRun
  split
  · simp [zeroBytes]
  · simp; omega

theorem zeroRuns_length_le (l : List Byte) (z : Nat) : (zeroRuns l z).length ≤ z + l.length := by
  induction l generalizing z with
  | nil => exact zeroRun_length_le z
  | cons b l ih =>
    have hrun := zeroRun_length_le z
    rw [zeroRuns]
    split
    · have := ih (z + 1); simp; omega
    · have := ih 0; simp; omega

theorem zeroRuns_replicate (n z : Nat) : zeroRuns (List.replicate n 0) z = zeroRun (z + n) := by
  induction n generalizing z with
  | zero => rfl
  | succ n ih => rw [List.replicate_succ, zeroRuns, if_pos rfl, ih, Nat.add_right_comm, Nat.add_assoc]

theorem zeroRunsShrink : Claim.zeroRunsShrink := fun l =>
  ⟨(zeroRuns_length_le l 0).trans_eq (Nat.zero_add _), fun n => (zeroRuns_replicate n 0).trans (congrArg zeroRun (Nat.zero_add n))⟩

/-! #### A good snapshot (R507) -/

/-- What SNAP_END says is read back from its payload. -/
theorem Snap.endPay_fields (x : Snap) : leAt x.endPay 0 4 = x.seq % 2 ^ 32 ∧ leAt x.endPay 4 4 = x.encoded.length % 2 ^ 32
    ∧ leAt x.endPay 8 4 = crc32c x.image % 2 ^ 32 := by
  have hbytes : x.endPay = leBytes 4 x.seq ++ (leBytes 4 x.encoded.length ++ (leBytes 4 (crc32c x.image) ++ [])) := by
    simp only [Snap.endPay, List.append_assoc, List.append_nil]
  simp only [hbytes, leAt_head, leAt_skip, Nat.reduceLeDiff, Nat.reduceSub, Nat.reducePow, and_self]

theorem goodSnapshotIsWhole : Claim.goodSnapshotIsWhole := by
  intro s x pay h
  simp only [State.snapGood, Bool.and_eq_true, beq_iff_eq] at h
  obtain ⟨⟨⟨hasm, hpay⟩, hver⟩, -⟩ := h
  obtain ⟨hseq, hlen, hcrc⟩ := x.endPay_fields
  refine ⟨?_, by rw [hpay, hseq], by rw [hpay, hlen], by rw [hpay, hcrc, Nat.mod_eq_of_lt (crc32c_lt _)], hver⟩
  split at hasm
  · next q l heq =>
    simp only [Bool.and_eq_true, beq_iff_eq] at hasm
    exact ⟨l, by rw [heq, hasm.1], hasm.2⟩
  · cases hasm

end Sys2Proof.Machine

/-! ### Snapshots and handover (R504 to R507, R518 to R520) -/
namespace Sys2Proof.Machine
open Reg

/-- A field that is neither of the settings nor of the factory. -/
def opField (f : Field) : Bool := f.acc != .SP && f.acc != .OTP

/-- A command of the logic side while it runs. -/
theorem goesTo_live {s : State} (hup : s.up = true) {f : State → State} {P : State → Prop} (h : P (s.left (f s))) : GoesTo (s.done (s.live f)) P :=
  ⟨_, congrArg s.done (State.live_of_up hup f), h⟩

/-! #### SNAPSHOT (R504, R506) -/

theorem State.pairDone_of_seen {s : State} {n : Nat} (hdone : s.doneTick = some n) (hseen : s.pair.doneN = n) : s.pairDone = s := by
  simp [State.pairDone, hdone, hseen]

/-- A snapshot begins to leave: one still being sent is aborted (R506). -/
def State.snapBegun (s : State) (x : Snap) (k : Nat) : State :=
  let s := if s.pair.sending.isSome then s.bump PAIR_SNAP_DROP_CNT.VALUE else s
  s.modPair fun p =>
    { p with snap := some x, seq := x.seq, sending := some (s.grid.now + 725000), snapAt := k, hoTick := if x.ho then none else p.hoTick,
             snapTx := p.txSeq, txSeq := p.txSeq + x.payloads.length }

/-- The snapshot of a due tick has the HANDOVER flag where a handover waits for a later tick (R504, R518). -/
def State.snapForHandover (s : State) : Bool :=
  match s.pair.hoTick with | some m => decide (m < s.pair.doneN) | none => false

theorem State.snapshot_eq {s : State} {r : TickRec} (hseen : s.pairDone = s) (htick : s.tickRec s.pair.doneN = some r) (hrole : s.role = 4)
    (hbays : s.runBays ≠ []) (hdue : s.pair.snapAt < s.pair.doneAt / 5000000) :
    s.snapshot = s.snapSettle.snapBegun (s.snapSettle.takeSnap r s.snapForHandover) (s.pair.doneAt / 5000000) := by
  unfold State.snapshot
  dsimp only
  rw [hseen]
  simp only [htick, hdue, decide_true, Bool.true_or, Bool.and_true, if_true]
  rw [if_neg (by simp [hrole, hbays])]
  rfl

/-- The registers that show the newest snapshot (R506, R507). -/
def snapKeys : List Nat := [PAIR_SNAP_TICK_LO.VALUE.key 0 0, PAIR_SNAP_TICK_HI.VALUE.key 0 0, PAIR_SNAP_CNT.VALUE.key 0 0]

theorem State.Frame.snapSettle {s t : State} {parts : List Part} {keys : List Nat} (h : s.Frame t parts keys) (hpair : Part.pair ∈ parts)
    (hk : snapKeys ⊆ keys) : s.Frame t.snapSettle parts keys := by
  unfold State.snapSettle
  (repeat' split)
  · exact h
  · exact ((h.modPair hpair _).wr64 (hk (by simp [snapKeys])) (hk (by simp [snapKeys]))).wr (hk (by simp [snapKeys]))
  · exact h

theorem State.snapSettle_pair (s : State) : s.snapSettle.pair =
    { s.pair with sending := s.snapSettle.pair.sending, sentSeq := s.snapSettle.pair.sentSeq } := by
  unfold State.snapSettle
  (repeat' split) <;> rfl

/-- A snapshot that is still leaving, or none that leaves, settles nothing. -/
theorem State.snapSettle_of_leaving {s : State} (h : ∀ e, s.pair.sending = some e → s.grid.now < e) : s.snapSettle = s := by
  unfold State.snapSettle
  split
  · next e x he _ => exact if_pos (h e he)
  · rfl

theorem State.snapBegun_pair (s : State) (x : Snap) (k : Nat) : (s.snapBegun x k).pair =
    { s.pair with snap := some x, seq := x.seq, sending := some (s.grid.now + 725000), snapAt := k, hoTick := if x.ho then none else s.pair.hoTick,
                  snapTx := s.pair.txSeq, txSeq := s.pair.txSeq + x.payloads.length } := by
  unfold State.snapBegun; split <;> rfl

theorem State.snapBegun_frame {s : State} {keys : List Nat} (hk : s.pair.sending.isSome → PAIR_SNAP_DROP_CNT.VALUE.key 0 0 ∈ keys) (x : Snap) (k : Nat) :
    s.Frame (s.snapBegun x k) [.pair] keys := by
  unfold State.snapBegun
  dsimp only
  split
  · next h => exact ((State.Frame.refl _ _ _).bump (hk h)).modPair (by simp) _
  · exact (State.Frame.refl _ _ _).modPair (by simp) _

theorem State.Frame.rd64 {s t : State} {parts : List Part} {keys : List Nat} (h : s.Frame t parts keys) {lo hi : Field} {i : Nat}
    (hlo : opField lo = true) (hhi : opField hi = true) (hnlo : lo.key i 0 ∉ keys) (hnhi : hi.key i 0 ∉ keys) : t.rd64 lo hi i = s.rd64 lo hi i := by
  simp only [opField, Bool.and_eq_true, bne_iff_ne] at hlo hhi
  rw [State.rd64, State.rd64, h.rd hlo.1 hlo.2 hnlo, h.rd hhi.1 hhi.2 hnhi]

theorem snapshotTaken : Claim.snapshotTaken := by
  intro s n r hup hrole hbays hdone hseen htick hdue
  refine goesTo_live (f := State.snapshot) hup ?_
  rw [State.snapshot_eq (State.pairDone_of_seen hdone hseen) (hseen ▸ htick) hrole hbays hdue]
  have hframe := (State.Frame.refl s [.pair] snapKeys).snapSettle (by simp) (List.Subset.refl _)
  have hpair := s.snapSettle_pair
  have hgrid : s.snapSettle.grid = s.grid := hframe.1 .grid (by simp)
  have hclaim : s.snapSettle.rd PAIR_CLAIM.OWN = s.rd PAIR_CLAIM.OWN := hframe.rd (by decide) (by decide) (by decide)
  have hbank : s.snapSettle.bank = s.bank := hframe.1 .bank (by simp)
  have hseq : s.snapSettle.pair.seq = s.pair.seq := by rw [hpair]
  have hver : s.snapSettle.pair.ver = s.pair.ver := by rw [hpair]
  have htx : s.snapSettle.pair.txSeq = s.pair.txSeq := by rw [hpair]
  simp only [State.left_pair, State.snapBegun_pair, hgrid, htx]
  refine ⟨⟨_, rfl, rfl, rfl, congrArg (· + 1) hseq, ?_, hclaim, hver, rfl⟩, congrArg (· + 1) hseq, trivial, trivial, fun hnone => ?_, fun e he hlt => ?_⟩
  · exact hframe.rd64 (by decide) (by decide) (by decide) (by decide)
  · rw [State.snapSettle_of_leaving (by simp [hnone])]
    exact (State.snapBegun_frame (fun h => absurd hnone (Option.isSome_iff_ne_none.mp h)) _ _).keeps
  · rw [State.snapSettle_of_leaving (by simp [he, hlt])]
    refine ⟨?_, (State.snapBegun_frame (fun _ => by simp) _ _).keeps⟩
    rw [State.left_rd_of_notMem _ _ (by decide), State.snapBegun, if_pos (by rw [he]; rfl)]
    exact s.rd_bump_same PAIR_SNAP_DROP_CNT.VALUE 0 0 1 (by decide) (by decide)

/-! #### SNAP_DATA and SNAP_END (R493, R506, R507) -/

/-- A frame that is heard is one that is taken (R491). -/
theorem State.Hears.takes {s : State} {type : Nat} {f : LkFrame} {crc : BitVec 32} (h : s.Hears type f crc) : s.takesFrame type f crc = true := by
  obtain ⟨hhears, hlen, hcrc⟩ := h
  simp [State.takesFrame, hhears, hlen, hcrc]

theorem snapDataJoins : Claim.snapDataJoins := by
  intro s t0 ver seq q off pay crc hup hrole hlink hhears hlen hq hoff
  refine goesTo_live (f := fun s => s.snapData t0 { ver := ver, seq := seq, pay := pay } crc) hup ?_
  subst hq hoff
  have hframe {keys : List Nat} (f : PairSt → PairSt) : s.Frame ((s.atTime t0).modPair f) [.grid, .pair] keys :=
    ((State.Frame.refl _ _ _).atTime (by simp) _).modPair (by simp) _
  have htaken : ¬ (s.role ≠ 2 ∨ s.rd PAIR_STATUS.LINK = 0 ∨ (!s.takesFrame 3 { ver := ver, seq := seq, pay := pay } crc) = true ∨ pay.length < 8) := by
    simp [hrole, hlink, hhears.takes, hlen]
  unfold State.snapData
  rw [if_neg htaken]
  cases hasm : s.pair.asm with
  | none =>
    simp only [State.atTime_pair, hasm]
    exact ⟨fun _ => rfl, by simp, by simp, State.atTime_now .., (hframe _).keeps⟩
  | some x =>
    obtain ⟨x, l⟩ := x
    simp only [State.atTime_pair, hasm]
    by_cases hx : x = leAt pay 0 4
    · subst hx
      simp only [if_true]
      refine ⟨by simp, fun l' hl => ?_, fun p l' hl hp => ?_, State.atTime_now .., (hframe _).keeps⟩
      · cases hl; rfl
      · cases hl; exact absurd rfl hp
    · simp only [if_neg hx]
      refine ⟨by simp, fun l' hl => ?_, fun p l' _ _ => ⟨rfl, ?_⟩, State.atTime_now .., ((hframe _).bump (by simp)).keeps⟩
      · cases hl; exact absurd rfl hx
      · rw [State.left_rd_of_notMem _ _ (by decide), State.rd_bump_same _ _ _ _ _ (by decide) (by decide)]
        exact congrArg (fun n => min (n + 1) (2 ^ 32 - 1)) ((hframe (keys := []) _).rd (by decide) (by decide) (by decide))

/-- A good snapshot is kept, before it is counted (R507). -/
def State.snapHeld (s : State) (x : Snap) : State :=
  ((s.modPair fun p => { p with asm := none }).modPair fun p => { p with good := some (x, s.grid.now) }).wr64
    PAIR_SNAP_TICK_LO.VALUE PAIR_SNAP_TICK_HI.VALUE x.n

/-- A snapshot that is not good is discarded and counted (R507). -/
def State.snapDiscarded (s : State) : State := (s.modPair fun p => { p with asm := none }).bump PAIR_SNAP_DROP_CNT.VALUE

/-- The standby's handling of a whole SNAP_END with no handover in progress (R507). -/
theorem State.snapEnd_eq {s : State} {f : LkFrame} {crc : BitVec 32} (t0 : Nat) (x : Snap) (hrole : s.role = 2) (hlink : s.rd PAIR_STATUS.LINK = 1)
    (htakes : s.takesFrame 4 f crc = true) (hlen : f.pay.length = 12) (hho : s.pair.ho = none) : s.snapEnd t0 f crc x =
      if (s.atTime t0).snapGood x f.pay then
        (((s.atTime t0).snapHeld x).wr PAIR_SNAP_CNT.VALUE ((s.atTime t0).rd PAIR_SNAP_CNT.VALUE + 1)).nrUpdate
      else (s.atTime t0).snapDiscarded.nrUpdate := by
  unfold State.snapEnd
  rw [if_neg (by simp [hrole, hlink, htakes, hlen])]
  have hnone : (((s.atTime t0).snapHeld x).wr PAIR_SNAP_CNT.VALUE ((s.atTime t0).rd PAIR_SNAP_CNT.VALUE + 1)).nrUpdate.pair.ho = none := by
    rw [State.nrUpdate_pair]
    exact (congrArg PairSt.ho (State.atTime_pair s t0)).trans hho
  dsimp only
  cases (s.atTime t0).snapGood x f.pay
  · rfl
  · simp only [Bool.not_true, Bool.false_eq_true, if_false, if_true]
    split
    · next h => exact absurd (h.symm.trans hnone) (by simp)
    · rfl

/-- The keys that the end of a snapshot writes. -/
def snapEndKeys : List Nat := snapKeys ++ [PAIR_SNAP_DROP_CNT.VALUE.key 0 0]

theorem snapEnds : Claim.snapEnds := by
  intro s t0 h pay crc x hup hrole hlink hho hhears hlen
  refine goesTo_live (f := fun s => s.snapEnd t0 { toLkHead := h, pay := pay } crc x) hup ?_
  have heq := State.snapEnd_eq t0 x hrole hlink hhears.takes hlen hho
  rw [heq]
  cases hgood : (s.atTime t0).snapGood x pay
  · rw [if_neg (by simp)]
    have hdrop : s.Frame (s.atTime t0).snapDiscarded [.grid, .log, .pair] (snapEndKeys ++ nrKeys ++ logKeys) :=
      (((State.Frame.refl _ _ _).atTime (by simp) _).modPair (by simp) _).bump (by decide)
    have hlast := (State.Frame.refl (s.atTime t0).snapDiscarded [.log, .pair] (nrKeys ++ logKeys)).nrUpdate (by simp) (by simp) (List.Subset.refl _)
    have hpair := State.nrUpdate_pair (s.atTime t0).snapDiscarded
    refine ⟨congrArg PairSt.asm hpair, ?_, by simp, fun _ => ⟨?_, ?_⟩, ?_⟩
    · exact (congrArg GridSt.now (hlast.1 .grid (by simp))).trans (s.atTime_now t0)
    · exact (congrArg PairSt.good hpair).trans (show (s.atTime t0).pair.good = s.pair.good by rw [State.atTime_pair])
    · rw [State.left_rd_of_notMem _ _ (by decide), hlast.rd (by decide) (by decide) (by decide)]
      exact (State.rd_bump_same _ PAIR_SNAP_DROP_CNT.VALUE 0 0 1 (by decide) (by decide)).trans
        (congrArg (fun n => min (n + 1) (2 ^ 32 - 1)) (s.atTime_rd t0 PAIR_SNAP_DROP_CNT.VALUE 0 0))
    · exact (hdrop.nrUpdate (by simp) (by simp) (by simp)).keeps
  · rw [if_pos rfl]
    have hheld : s.Frame ((s.atTime t0).snapHeld x) [.grid, .log, .pair] (snapEndKeys ++ nrKeys ++ logKeys) :=
      ((((State.Frame.refl _ _ _).atTime (by simp) _).modPair (by simp) _).modPair (by simp) _).wr64 (by decide) (by decide)
    have hcounted := hheld.wr (f := PAIR_SNAP_CNT.VALUE) (v := (s.atTime t0).rd PAIR_SNAP_CNT.VALUE + 1) (i := 0) (j := 0) (by decide)
    generalize hu : ((s.atTime t0).snapHeld x).wr PAIR_SNAP_CNT.VALUE ((s.atTime t0).rd PAIR_SNAP_CNT.VALUE + 1) = u at hcounted
    have hlast := (State.Frame.refl u [.log, .pair] (nrKeys ++ logKeys)).nrUpdate (by simp) (by simp) (List.Subset.refl _)
    have hpair := State.nrUpdate_pair u
    have hnow : u.nrUpdate.grid.now = max s.grid.now t0 := by
      rw [show u.nrUpdate.grid = u.grid from hlast.1 .grid (by simp), ← hu]
      exact s.atTime_now t0
    refine ⟨?_, hnow, fun _ => ⟨?_, ?_, ?_⟩, by simp, ?_⟩
    · exact (congrArg PairSt.asm hpair).trans (by rw [← hu]; rfl)
    · rw [State.left_grid, hnow, ← s.atTime_now t0]
      exact (congrArg PairSt.good hpair).trans (by rw [← hu]; rfl)
    · rw [State.left_rd_of_notMem _ _ (by decide), hlast.rd (by decide) (by decide) (by decide), ← hu,
        State.rd_wr_other _ _ _ _ _ _ _ _ (by decide)]
      exact (State.rd_wr_other _ _ _ _ _ _ _ _ (by decide)).trans (State.rd_wr_same _ _ _ _ _ (by decide) (by decide))
    · rw [State.left_rd_of_notMem _ _ (by decide), hlast.rd (by decide) (by decide) (by decide), ← hu,
        State.rd_wr_same _ _ _ _ _ (by decide) (by decide), State.atTime_rd]
      rfl
    · exact (hcounted.nrUpdate (by simp) (by simp) (by simp)).keeps

/-! #### HANDOVER frames and the request for failback (R518 to R520) -/

theorem State.handoverRx_eq {s : State} {f : LkFrame} {crc : BitVec 32} {n : Nat} (t0 : Nat) (hlink : s.rd PAIR_STATUS.LINK = 1) (hver : s.pair.ver = 2)
    (hhears : s.Hears 5 f crc) (hpay : f.pay = [BitVec.ofNat 8 n]) (hn : n < 256) : s.handoverRx t0 f crc = (s.atTime t0).handoverCode n := by
  have hcode : leAt f.pay 0 1 = n := by simp [hpay, leAt, ofLe, Nat.mod_eq_of_lt hn]
  unfold State.handoverRx
  rw [if_neg (by simp [hlink, hver, hhears.takes, hpay]), hcode]

theorem handoverFrameActs : Claim.handoverFrameActs := by
  intro s t0 f crc hup hlink hver hhears
  have hrole : (s.atTime t0).role = s.role := s.atTime_rd ..
  have hho : (s.atTime t0).rd PAIR_STATUS.HO = s.rd PAIR_STATUS.HO := s.atTime_rd ..
  have hready : (s.atTime t0).rd PAIR_STATUS.READY = s.rd PAIR_STATUS.READY := s.atTime_rd ..
  have hframe (v : Nat) (g : PairSt → PairSt) :
      s.Frame (((s.atTime t0).wr PAIR_STATUS.HO v).modPair g) [.grid, .pair] [PAIR_STATUS.HO.key 0 0] :=
    (((State.Frame.refl _ _ _).atTime (by simp) _).wr (by simp)).modPair (by simp) _
  have hshown {v : Nat} (hv : v < 2) (g : PairSt → PairSt) : (s.left (((s.atTime t0).wr PAIR_STATUS.HO v).modPair g)).rd PAIR_STATUS.HO = v := by
    rw [State.left_rd_of_notMem _ _ (by decide), State.modPair_rd, State.rd_wr_same _ _ _ _ _ (by decide) (by decide)]
    exact Nat.mod_eq_of_lt hv
  refine ⟨fun hpay hactive hfree => goesTo_live (f := fun s => s.handoverRx t0 f crc) hup ?_,
    fun hpay hstandby hfree hisReady => goesTo_live (f := fun s => s.handoverRx t0 f crc) hup ?_,
    fun hpay hactive => goesTo_live (f := fun s => s.handoverRx t0 f crc) hup ?_⟩
  · have heq : (s.atTime t0).handoverCode 1 = ((s.atTime t0).wr PAIR_STATUS.HO 1).modPair fun p => { p with hoTick := some p.doneN } := by
      simp [State.handoverCode, hrole, hactive, hho, hfree]
    rw [State.handoverRx_eq (n := 1) t0 hlink hver hhears hpay (by decide), heq]
    exact ⟨hshown (by decide) _, by simp [State.modPair], s.atTime_now t0, (hframe _ _).keeps⟩
  · have heq : (s.atTime t0).handoverCode 2 =
        ((s.atTime t0).wr PAIR_STATUS.HO 1).modPair fun p => { p with ho := some (1, (s.atTime t0).grid.now), code := 0 } := by
      simp [State.handoverCode, hrole, hstandby, hho, hfree, hready, hisReady]
    rw [State.handoverRx_eq (n := 2) t0 hlink hver hhears hpay (by decide), heq]
    exact ⟨hshown (by decide) _, by simp [State.modPair], s.atTime_now t0, (hframe _ _).keeps⟩
  · have heq : (s.atTime t0).handoverCode 3 = ((s.atTime t0).wr PAIR_STATUS.HO 0).modPair fun p => { p with hoTick := none, code := 0 } := by
      simp [State.handoverCode, hrole, hactive]
    rw [State.handoverRx_eq (n := 3) t0 hlink hver hhears hpay (by decide), heq]
    exact ⟨hshown (by decide) _, by simp [State.modPair], s.atTime_now t0, (hframe _ _).keeps⟩

theorem failbackRequested : Claim.failbackRequested := by
  intro s t0 t1 hup hrole hrank hfailback hho hready hpassed hver
  refine goesTo_live (f := State.handoverRequest) hup ?_
  obtain ⟨t, ht⟩ : ∃ t, t = max t0 t1 + s.rd PAIR_FB_HOLD.VALUE * 250000000 := ⟨_, rfl⟩
  let u := ((s.atTime t).wr PAIR_STATUS.HO 1).modPair fun p => { p with ho := some (2, (s.atTime t).grid.now) }
  have heq : s.handoverRequest = u.tellHandover 1 := by
    unfold State.handoverRequest
    rw [if_neg (by simp [hrole, hrank, hfailback, hho])]
    simp only [hready, hpassed, second, ← ht]
    rfl
  have hu : s.Frame u [.grid, .pair] [PAIR_STATUS.HO.key 0 0] :=
    (((State.Frame.refl _ _ _).atTime (by simp) _).wr (by simp)).modPair (by simp) _
  have htold := (State.Frame.refl u [.pair] []).tellHandover (by simp) 1
  have hpair : u.pair = { s.pair with ho := some (2, (s.atTime t).grid.now) } := by simp [u, State.modPair]
  have hnow : (u.tellHandover 1).grid.now = max s.grid.now t := (congrArg GridSt.now (htold.1 .grid (by simp))).trans (s.atTime_now t)
  rw [heq, ← ht]
  refine ⟨?_, ?_, hnow, (hu.tellHandover (by simp) 1).keeps⟩
  · rw [State.left_rd_of_notMem _ _ (by decide), htold.rd (by decide) (by decide) (by decide), State.modPair_rd,
      State.rd_wr_same _ _ _ _ _ (by decide) (by decide)]
    rfl
  · rw [State.left_pair, State.left_grid, hnow, State.tellHandover_pair, State.outFrame, hpair, s.atTime_now t]
    simp [hver, leBytes, State.outFrame]

/-! #### Placement while the unit stands by (R257, R519, R524) -/

/-- The keys that stopping the test of engine `k` writes (R608, R637). -/
def engStopKeys (k : Nat) : List Nat :=
  [BIST_ENG_STATUS.TESTING.key k 0, BIST_ENG_STATUS.LAST.key k 0, BIST_ENG_INC_CNT.VALUE.key k 0, BIST_STATUS.BUSY.key 0 0, BIST_STATUS.LAST.key 0 0,
    PAIR_STATUS.PROOF.key 0 0]

/-- The keys that a placement writes where nothing is shed. -/
def placeKeys : List Nat :=
  BIST_STATUS.ROT_SUSP.key 0 0 :: BIST_SPARE.ENG.key 0 0 :: (logKeys ++ (List.range 9).flatMap engStopKeys
    ++ (List.range 64).map (BAY_STATUS.ENG.key · 0) ++ (List.range 9).map (BIST_ENG_STATUS.CARRYING.key · 0))

section
variable {s t : State} {parts : List Part} {keys : List Nat}

/-- Engine `k` once its test has stopped, before what the test was for is told (R608, R637). -/
def State.testStopped (s : State) (k : Nat) (x : EngTest) : State :=
  (((s.modBist fun v => { v with eng := terase v.eng k, proof := if x.kind = 2 then none else v.proof }).wr BIST_ENG_STATUS.TESTING 0 k).wr
    BIST_ENG_STATUS.LAST 3 k).bump BIST_ENG_INC_CNT.VALUE k

theorem State.engStop_eq (s : State) (k : Nat) : s.engStop k =
    match tfind s.bist.eng k with
    | none => s
    | some x =>
      if x.kind = 1 then (((s.testStopped k x).wr BIST_STATUS.BUSY 0).wr BIST_STATUS.LAST 2).logEv 0xA001 k 2
      else if x.kind = 2 then (s.testStopped k x).wr PAIR_STATUS.PROOF 3 else s.testStopped k x := rfl

theorem State.Frame.engStop (h : s.Frame t parts keys) (hbist : Part.bist ∈ parts) (hlog : Part.log ∈ parts) {k : Nat}
    (hk : engStopKeys k ++ logKeys ⊆ keys) : s.Frame (t.engStop k) parts keys := by
  have hmem {x : Nat} (hx : x ∈ engStopKeys k) : x ∈ keys := hk (List.mem_append_left _ hx)
  have hstopped (x : EngTest) : s.Frame (t.testStopped k x) parts keys :=
    (((h.modBist hbist _).wr (hmem (by simp [engStopKeys]))).wr (hmem (by simp [engStopKeys]))).bump (hmem (by simp [engStopKeys]))
  rw [State.engStop_eq]
  (repeat' split)
  · exact h
  · exact (((hstopped _).wr (hmem (by simp [engStopKeys]))).wr (hmem (by simp [engStopKeys]))).logAt hlog
      (fun _ hx => hk (List.mem_append_right _ hx)) (by decide) _ _ _
  · exact (hstopped _).wr (hmem (by simp [engStopKeys]))
  · exact hstopped _

theorem State.Frame.forL {α : Type} {f : α → State → State} (l : List α) (hf : ∀ a ∈ l, ∀ t, s.Frame t parts keys → s.Frame (f a t) parts keys) :
    ∀ {t : State}, s.Frame t parts keys → s.Frame (forL l f t) parts keys := by
  induction l with
  | nil => exact fun h => h
  | cons a l ih => exact fun h => ih (fun b hb => hf b (List.mem_cons_of_mem _ hb)) (hf a List.mem_cons_self _ h)

theorem State.Frame.forN {f : Nat → State → State} (n : Nat) (hf : ∀ k < n, ∀ t, s.Frame t parts keys → s.Frame (f k t) parts keys)
    (h : s.Frame t parts keys) : s.Frame (forN n f t) parts keys :=
  State.Frame.forL _ (fun k hk => hf k (List.mem_range.mp hk)) h

theorem mem_healthy_lt {k : Nat} (h : k ∈ s.healthy) : k < 9 := List.mem_range.mp (List.mem_filter.mp h).1

/-- A unit that carries no bays sheds none when they are placed. -/
theorem State.Frame.place (h : s.Frame t parts keys) (hbist : Part.bist ∈ parts) (hlog : Part.log ∈ parts) (hk : placeKeys ⊆ keys)
    (hrole : t.role = 2) (n at' : Nat) : s.Frame (t.place n at') parts keys := by
  have heng {k : Nat} (hlt : k < 9) : engStopKeys k ++ logKeys ⊆ keys := fun x hx => hk (by
    rcases List.mem_append.mp hx with hx | hx
    · exact List.mem_cons_of_mem _ (List.mem_cons_of_mem _ (by simp only [List.mem_append, List.mem_flatMap, List.mem_range]; exact .inl (.inl (.inr ⟨k, hlt, hx⟩))))
    · exact List.mem_cons_of_mem _ (List.mem_cons_of_mem _ (by simp only [List.mem_append]; exact .inl (.inl (.inl hx)))))
  have hbay {b : Nat} (hlt : b < 64) : BAY_STATUS.ENG.key b 0 ∈ keys := hk (by
    refine List.mem_cons_of_mem _ (List.mem_cons_of_mem _ ?_)
    simp only [List.mem_append, List.mem_map, List.mem_range]
    exact .inl (.inr ⟨b, hlt, rfl⟩))
  have hcarry {k : Nat} (hlt : k < 9) : BIST_ENG_STATUS.CARRYING.key k 0 ∈ keys := hk (by
    refine List.mem_cons_of_mem _ (List.mem_cons_of_mem _ ?_)
    simp only [List.mem_append, List.mem_map, List.mem_range]
    exact .inr ⟨k, hlt, rfl⟩)
  have hnone : (t.role == 0 || t.role == 3 || t.role == 4) = false := by simp [hrole]
  unfold State.place
  simp only [hnone, Bool.false_and, Bool.false_eq_true, if_false, List.length_nil, Nat.not_lt_zero, decide_false]
  refine State.Frame.forN 9 (fun k hlt _ h => h.wr (hcarry hlt)) (State.Frame.forN 64 (fun b hlt _ h => h.wr (hbay hlt))
    (((State.Frame.forL _ (fun k hmem _ h => h.engStop hbist hlog (heng ?_)) (h.wr (hk (by simp [placeKeys])))).wr
      (hk (by simp [placeKeys]))).modBist hbist _))
  split at hmem
  · exact mem_healthy_lt (List.mem_of_mem_filter hmem)
  · exact mem_healthy_lt (List.mem_of_mem_filter (List.mem_of_mem_drop hmem))

end

/-- The keys of the end of a handover: the bays' and that of the handover itself. -/
def replayKeys : List Nat := PAIR_STATUS.HO.key 0 0 :: (List.range 64).map (BAY_STATUS.REPLAY.key · 0)

/-- No handover is in progress any more, and no bay replays (R519). -/
def State.replayOver (s : State) : State := forN 64 (fun b s => s.wr BAY_STATUS.REPLAY 0 b) (s.wr PAIR_STATUS.HO 0)

theorem State.replayOver_frame (s : State) : s.Frame s.replayOver [] replayKeys :=
  State.Frame.forN 64 (fun b hlt _ h => h.wr (List.mem_cons_of_mem _ (List.mem_map.mpr ⟨b, List.mem_range.mpr hlt, rfl⟩)))
    ((State.Frame.refl _ _ _).wr List.mem_cons_self)

theorem State.replayOver_ho (s : State) : s.replayOver.rd PAIR_STATUS.HO = 0 := by
  have hbays : (s.wr PAIR_STATUS.HO 0).Frame s.replayOver [] ((List.range 64).map (BAY_STATUS.REPLAY.key · 0)) :=
    State.Frame.forN 64 (fun b hlt _ h => h.wr (List.mem_map.mpr ⟨b, List.mem_range.mpr hlt, rfl⟩)) (State.Frame.refl _ _ _)
  exact (hbays.rd (by decide) (by decide) (by decide)).trans (State.rd_wr_same s PAIR_STATUS.HO 0 0 0 (by decide) (by decide))

/-- A standby's handover as it ends, before bays are placed again (R519). -/
def State.handoverDropped (s : State) : State :=
  (s.replayOver.modPair fun p => { p with ho := none, replay := none, readyAt := p.readyAt.map fun _ => s.replayOver.grid.now }).tellHandover 3

theorem State.abortHandover_eq {s : State} (hrole : s.role = 2) : s.abortHandover =
    (s.handoverDropped.place s.handoverDropped.grid.nextN s.handoverDropped.grid.now).nrUpdate := by
  have hsame : (s.wr PAIR_STATUS.HO 0).role = 2 := (State.rd_wr_other _ _ _ _ _ _ _ _ (by decide)).trans hrole
  have hstay : (s.wr PAIR_STATUS.HO 0).setRole s.role = s.wr PAIR_STATUS.HO 0 := by
    unfold State.setRole State.wrCause
    exact if_pos (hsame.trans hrole.symm)
  have hnot : ¬ s.role = 3 := by omega
  unfold State.abortHandover
  simp only [hnot, if_false, hstay]
  rfl

theorem State.handoverDropped_frame (s : State) : s.Frame s.handoverDropped [.pair] replayKeys :=
  ((s.replayOver_frame.mono (by simp) (List.Subset.refl _)).modPair (by simp) _).tellHandover (by simp) 3

theorem State.handoverDropped_shows (s : State) (hver : s.pair.ver = 2) : s.handoverDropped.rd PAIR_STATUS.HO = 0
    ∧ s.handoverDropped.pair.ho = none ∧ s.handoverDropped.pair.replay = none ∧ s.handoverDropped.pair.sentHo = some 3 := by
  have hpair : s.replayOver.pair = s.pair := s.replayOver_frame.1 .pair (by simp)
  generalize hv : (s.replayOver.modPair fun p => { p with ho := none, replay := none, readyAt := p.readyAt.map fun _ => s.replayOver.grid.now }) = v
  have hvpair : v.pair = { s.pair with ho := none, replay := none, readyAt := s.pair.readyAt.map fun _ => s.replayOver.grid.now } := by
    rw [← hv, ← hpair]; rfl
  have hdropped : s.handoverDropped = v.tellHandover 3 := by rw [← hv]; rfl
  have htold := State.tellHandover_pair v 3
  rw [if_neg (by rw [hvpair, hver]; decide), hvpair] at htold
  rw [hdropped]
  refine ⟨?_, congrArg PairSt.ho htold, congrArg PairSt.replay htold, congrArg PairSt.sentHo htold⟩
  refine (((State.Frame.refl v [.pair] []).tellHandover (by simp) 3).rd (by decide) (by decide) (by decide)).trans ?_
  rw [← hv, State.modPair_rd]
  exact s.replayOver_ho

/-- The end of a standby's handover: what it shows, and what it leaves (R519). -/
theorem State.abortHandover_shows {s : State} (hrole : s.role = 2) (hver : s.pair.ver = 2) :
    s.abortHandover.rd PAIR_STATUS.HO = 0 ∧ s.abortHandover.role = 2 ∧ s.abortHandover.pair.ho = none ∧ s.abortHandover.pair.replay = none
    ∧ s.abortHandover.pair.sentHo = some 3 ∧ s.abortHandover.grid = s.grid ∧ s.abortHandover.settings = s.settings := by
  obtain ⟨hho, hpho, hreplay, hsent⟩ := s.handoverDropped_shows hver
  have hdrop := s.handoverDropped_frame
  have hdropped : s.handoverDropped.role = 2 := (hdrop.rd (by decide) (by decide) (by decide)).trans hrole
  generalize hu : s.handoverDropped.place s.handoverDropped.grid.nextN s.handoverDropped.grid.now = u
  have hplace : s.handoverDropped.Frame u [.bist, .log] placeKeys :=
    hu ▸ (State.Frame.refl _ _ _).place (by simp) (by simp) (List.Subset.refl _) hdropped _ _
  have hlast := (State.Frame.refl u [.pair, .log] (nrKeys ++ logKeys)).nrUpdate (by simp) (by simp) (List.Subset.refl _)
  have hpair := State.nrUpdate_pair u
  have hupair : u.pair = s.handoverDropped.pair := hplace.1 .pair (by simp)
  rw [State.abortHandover_eq hrole, hu, hpair, hupair]
  refine ⟨?_, ?_, hpho, hreplay, hsent, ?_, ?_⟩
  · exact (hlast.rd (by decide) (by decide) (by decide)).trans ((hplace.rd (by decide) (by decide) (by decide)).trans hho)
  · exact (hlast.rd (by decide) (by decide) (by decide)).trans ((hplace.rd (by decide) (by decide) (by decide)).trans hdropped)
  · exact (hlast.1 .grid (by simp)).trans ((hplace.1 .grid (by simp)).trans (hdrop.1 .grid (by simp)))
  · exact (hlast.1 .bank (by simp)).trans ((hplace.1 .bank (by simp)).trans (hdrop.1 .bank (by simp)))

theorem handoverAborts : Claim.handoverAborts := by
  intro s k t0 hup hrole hho hver
  refine goesTo_live (f := State.handoverAbort) hup ?_
  have heq : s.handoverAbort = if s.rd PAIR_STATUS.READY = 0 then s.abortHandover else (s.atTime (t0 + 2500000)).abortHandover := by
    unfold State.handoverAbort
    simp only [hho, hrole, if_true]
  have hleft (u : State) : (s.left u).rd PAIR_STATUS.HO = u.rd PAIR_STATUS.HO ∧ (s.left u).role = u.role :=
    ⟨State.left_rd_of_notMem _ _ (by decide), State.left_rd_of_notMem _ _ (by decide)⟩
  by_cases hready : s.rd PAIR_STATUS.READY = 0
  · rw [heq, if_pos hready, if_pos hready, State.left_pair, State.left_grid]
    obtain ⟨h1, h2, h3, h4, h5, h6, h7⟩ := State.abortHandover_shows hrole hver
    exact ⟨(hleft _).1.trans h1, (hleft _).2.trans h2, h3, h4, h5, congrArg GridSt.now h6, (s.left_settings _).trans h7, s.left_pending _, s.left_outputsOk _⟩
  · rw [heq, if_neg hready, if_neg hready, State.left_pair, State.left_grid]
    obtain ⟨h1, h2, h3, h4, h5, h6, h7⟩ := State.abortHandover_shows (s := s.atTime (t0 + 2500000)) ((s.atTime_rd ..).trans hrole)
      (by rw [State.atTime_pair]; exact hver)
    exact ⟨(hleft _).1.trans h1, (hleft _).2.trans h2, h3, h4, h5, (congrArg GridSt.now h6).trans (s.atTime_now _),
      (s.left_settings _).trans (h7.trans (s.atTime_settings _)), s.left_pending _, s.left_outputsOk _⟩

/-- Settles O24: the snapshot's bytes and size, and what each frame and each step of a handover changes. -/
theorem snapshotsAndHandover : Obligations.SnapshotsAndHandover :=
  ⟨snapshotTaken, snapDataJoins, snapEnds, handoverFrameActs, failbackRequested, handoverAborts, snapshotSize, zeroRunsShrink, goodSnapshotIsWhole⟩

end Sys2Proof.Machine

namespace Sys2Proof.Machine
open Reg

/-! ### A knot beyond the knots there are (R258, R521) -/

/-- A joining unit without a healthy engine, whose one enabled bay owns a knot numbered 2,095,138, beyond the 16,384 there are: its output bit
would lie where the register of the unit's role lies. -/
def straysKnot : State :=
  let s := State.reset.wr PAIR_STATUS.ROLE 1
  { s with pwr := { phase := .running }, bank := { words := [(BAY_CFG.EN.at' 0 0, 1)], knots := [(2095138, [2 ^ 31])] } }

/-- Refutes O25 in its clause `joiningTimesOut`: JOINING_TIMEOUT in `straysKnot`. The unit becomes ACTIVE and starts its bay, the placement
sheds the bay for want of engines, and stopping its knot clears bit 2 of the register PAIR_STATUS.ROLE, which then reads 0. No run brings such
a bank into force, but the clause has no such premise: it speaks of every state. -/
theorem not_replayAndJoining : ¬ Obligations.ReplayAndJoining := by
  unfold Obligations.ReplayAndJoining
  rintro ⟨-, -, htimesOut, -⟩
  have hup : straysKnot.up = true := by decide
  obtain ⟨t, ht, hactive, -⟩ := htimesOut straysKnot hup (by decide) (by decide) (by decide)
  have hcleared : straysKnot.joiningTimeout.rd PAIR_STATUS.ROLE = 0 := by decide +kernel
  rw [State.goes_done.mp ht, State.role, State.left_rd_of_notMem _ _ (by decide), State.live_of_up hup] at hactive
  exact absurd (hcleared.symm.trans hactive) (by decide)

end Sys2Proof.Machine

/-! ### HELLOs and heartbeats (R489 to R499, R521) -/
namespace Sys2Proof.Machine
open Reg

/-! #### The mask (R489, R522) -/

theorem bitsOf_testBit (l : List (Nat × Bool)) (i : Nat) : (bitsOf l).testBit i = l.any fun x => x.2 && x.1 == i := by
  have hfrom (m : Nat) : (l.foldl (fun m x => if x.2 then m ||| 2 ^ x.1 else m) m).testBit i = (m.testBit i || l.any fun x => x.2 && x.1 == i) := by
    induction l generalizing m with
    | nil => simp
    | cons x l ih =>
      obtain ⟨k, b⟩ := x
      rw [List.foldl_cons, ih, List.any_cons]
      cases b
      · simp
      · simp [Nat.testBit_or, Nat.testBit_two_pow, Bool.or_assoc, beq_eq_decide]
  simp [bitsOf, hfrom 0]

/-- Reason 8 of the mask of a paired unit is a conflict of ranks (R489, R522). -/
theorem State.nrMask_conflict {s : State} (hrole : s.role ≠ 0) : s.nrMask.testBit 8 = s.rankConflict := by
  unfold State.nrMask
  rw [if_neg hrole, bitsOf_testBit]
  simp

/-- Reason 0 of the mask of a paired unit is a link that is down (R522). -/
theorem State.nrMask_link {s : State} (hrole : s.role ≠ 0) : s.nrMask.testBit 0 = (s.rd PAIR_STATUS.LINK == 0) := by
  unfold State.nrMask
  rw [if_neg hrole, bitsOf_testBit]
  simp

theorem State.nrUpdate_frame (s : State) : s.Frame s.nrUpdate [.log, .pair] (nrKeys ++ logKeys) :=
  (State.Frame.refl _ _ _).nrUpdate (by simp) (by simp) (List.Subset.refl _)

theorem State.nrUpdate_nr (s : State) : s.nrUpdate.rd PAIR_STATUS.NR = s.nrMask % 2 ^ 9 := by
  have hshown : s.nrShown.rd PAIR_STATUS.NR = s.nrMask % 2 ^ 9 :=
    (State.rd_wr_other _ _ _ _ _ _ _ _ (by decide)).trans (State.rd_wr_same s PAIR_STATUS.NR s.nrMask 0 0 (by decide) (by decide))
  rw [State.nrUpdate_eq]
  split
  · exact (((State.Frame.refl s.nrShown [.log] logKeys).logAt (by simp) (List.Subset.refl _) (by decide) _ _ _).rd (by decide) (by decide)
      (by decide)).trans hshown
  · exact hshown

theorem State.nrUpdate_conflict {s : State} (hrole : s.role ≠ 0) : (s.nrUpdate.rd PAIR_STATUS.NR).testBit 8 = s.rankConflict := by
  rw [State.nrUpdate_nr, Nat.testBit_mod_two_pow, State.nrMask_conflict hrole]
  simp

theorem State.nrUpdate_rankConflict (s : State) : s.nrUpdate.rankConflict = s.rankConflict := by
  have hbank : s.nrUpdate.bank = s.bank := s.nrUpdate_frame.1 .bank (by simp)
  have hrank : s.nrUpdate.rank = s.rank := congrArg (fun k : Bank => k.fld PAIR_CFG.RANK 0 0) hbank
  rw [State.rankConflict, State.rankConflict, hrank, State.nrUpdate_pair]

theorem State.nrUpdate_now (s : State) : s.nrUpdate.grid = s.grid := s.nrUpdate_frame.1 .grid (by simp)

/-- A unit of a pair has a role from 1 to 4. -/
theorem State.role_ne_zero {s : State} (h : s.paired = true) : s.role ≠ 0 := by
  simp only [State.paired, Bool.and_eq_true, decide_eq_true_eq] at h
  omega

theorem State.paired_of_role {s t : State} (h : t.role = s.role) : t.paired = s.paired := by
  unfold State.paired; rw [h]

/-! #### A frame that is not whole (R491) -/

theorem State.takesFrame_eq_false {s : State} {type : Nat} {f : LkFrame} {crc : BitVec 32} (h : ¬ s.Hears type f crc) :
    s.takesFrame type f crc = false := by
  refine Bool.eq_false_iff.mpr fun htakes => h ?_
  simp only [State.takesFrame, Bool.and_eq_true, decide_eq_true_eq, beq_iff_eq] at htakes
  exact ⟨htakes.1.1, htakes.1.2, htakes.2⟩

theorem badFrameDiscarded : Claim.badFrameDiscarded := by
  intro s c k f crc hup hframe hbad
  have hno := State.takesFrame_eq_false hbad
  have hkept {g : State → State} (h : g s = s) : GoesTo (s.done (s.live g)) fun t => s.Keeps t [] [] :=
    goesTo_live hup (by rw [h]; exact s.keeps_left_self)
  cases c with
  | helloRx t f' c' =>
    cases hframe
    exact hkept (g := fun s => s.helloRx t f crc) (if_pos (by simp [hno]))
  | heartbeatRx t f' c' =>
    cases hframe
    exact hkept (g := fun s => s.heartbeatRx t f crc) (if_pos (by simp [hno]))
  | snapDataRx t ver seq pay c' =>
    cases hframe
    exact hkept (g := fun s => s.snapData t { ver := ver, seq := seq, pay := pay } crc) (if_pos (by simp [hno]))
  | snapEndRx t h pay c' x =>
    cases hframe
    exact hkept (g := fun s => s.snapEnd t { toLkHead := h, pay := pay } crc x) (if_pos (by simp [hno]))
  | handoverRx t f' c' =>
    cases hframe
    exact hkept (g := fun s => s.handoverRx t f crc) (if_pos (by simp [hno]))
  | _ => cases hframe

/-! #### HELLO (R492, R493) -/

theorem helloStops : Claim.helloStops := by
  intro s hup hhello
  refine goesTo_live (f := State.helloSend) hup ?_
  rw [show s.helloSend = s from if_pos (.inr hhello)]
  exact s.keeps_left_self

theorem helloIsSent : Claim.helloIsSent := by
  intro s hup hpaired hhello
  refine goesTo_live (f := State.helloSend) hup ?_
  let h : Hello := { vers := (s.atTime s.pair.helloAt).rd PAIR_CFG.LKV, rank := (s.atTime s.pair.helloAt).rank,
                     serial := (s.atTime s.pair.helloAt).rd64 ID_SERIAL_LO.VALUE ID_SERIAL_HI.VALUE,
                     fw := (s.atTime s.pair.helloAt).rd ID_FW_VER.VALUE, dig := (s.atTime s.pair.helloAt).setDig }
  have heq : s.helloSend = ((s.atTime s.pair.helloAt).modPair fun p =>
      { p with helloAt := (s.atTime s.pair.helloAt).grid.now + 250000, sentHello := some h }).sendFrame 1 h.bytes := if_neg (by simp [hpaired, hhello])
  have hframe : s.Frame s.helloSend [.grid, .pair] [] := by
    rw [heq]
    exact (((State.Frame.refl _ _ _).atTime (by simp) _).modPair (by simp) _).modPair (by simp) _
  have hpair : s.helloSend.pair = { s.pair with
      helloAt := (s.atTime s.pair.helloAt).grid.now + 250000, sentHello := some h, sent := some (1, s.outFrame h.bytes), txSeq := s.pair.txSeq + 1 } := by
    rw [heq]
    simp only [State.sendFrame, State.modPair, State.atTime_pair, State.outFrame]
  have hgrid : s.helloSend.grid = (s.atTime s.pair.helloAt).grid := by rw [heq]; rfl
  rw [State.left_pair, State.left_grid, hpair, hgrid]
  have hvers : (s.atTime s.pair.helloAt).rd PAIR_CFG.LKV = s.rd PAIR_CFG.LKV := s.atTime_rd ..
  have hrank : (s.atTime s.pair.helloAt).rank = s.rank := s.atTime_rd ..
  have hdig : (s.atTime s.pair.helloAt).setDig = s.setDig := congrArg₂ (fun a b => a + 2 ^ 32 * b) (s.atTime_rd ..) (s.atTime_rd ..)
  have hfw : (s.atTime s.pair.helloAt).rd ID_FW_VER.VALUE = s.rd ID_FW_VER.VALUE := s.atTime_rd ..
  exact ⟨⟨h, rfl, hvers, hrank, hdig, hfw, rfl⟩,
    rfl, s.atTime_now _, rfl, hframe.keeps⟩

/-- What a HELLO tells, taken at device time `t`, before ranks are compared (R492, R493). -/
def State.helloKept (s : State) (t : Nat) (h : Hello) : State :=
  (((s.atTime t).modPair fun p => { p with hello := true, ver := commonVersion (s.rd PAIR_CFG.LKV) h.vers }).wr64
    PAIR_PDIG_LO.VALUE PAIR_PDIG_HI.VALUE h.dig).linkRegs

/-- The keys that a HELLO's words write. -/
def helloKeys : List Nat := [PAIR_STATUS.LKVER.key 0 0, PAIR_STATUS.LINK.key 0 0, PAIR_PDIG_LO.VALUE.key 0 0, PAIR_PDIG_HI.VALUE.key 0 0]

theorem State.helloKept_frame (s : State) (t : Nat) (h : Hello) : s.Frame (s.helloKept t h) [.grid, .pair] helloKeys :=
  (((((State.Frame.refl _ _ _).atTime (by simp) _).modPair (by simp) _).wr64 (by decide) (by decide)).wr (by decide)).wr (by decide)

theorem State.helloKept_pair (s : State) (t : Nat) (h : Hello) :
    (s.helloKept t h).pair = { s.pair with hello := true, ver := commonVersion (s.rd PAIR_CFG.LKV) h.vers } := by
  unfold State.helloKept State.linkRegs
  simp only [State.wr_pair, State.wr64_pair, State.modPair, State.atTime_pair]

theorem commonVersion_lt (a b : Nat) : commonVersion a b < 3 := by
  unfold commonVersion; (repeat' split) <;> omega

theorem State.linkRegs_shows (s : State) (hver : s.pair.ver < 4) : s.linkRegs.rd PAIR_STATUS.LKVER = s.pair.ver
    ∧ s.linkRegs.rd PAIR_STATUS.LINK = if s.pair.ver = 0 ∨ s.pair.lock = false then 0 else 1 := by
  refine ⟨(State.rd_wr_other _ _ _ _ _ _ _ _ (by decide)).trans ((State.rd_wr_same _ _ _ _ _ (by decide) (by decide)).trans
    (Nat.mod_eq_of_lt hver)), (State.rd_wr_same _ _ _ _ _ (by decide) (by decide)).trans ?_⟩
  cases s.pair.lock
  · simp [b2n]
  · by_cases h0 : s.pair.ver = 0
    · simp [h0, b2n]
    · simp [h0, b2n, bne_iff_ne, PAIR_STATUS.LINK, Field.mk']

theorem State.helloKept_shows (s : State) (t : Nat) (h : Hello) : (s.helloKept t h).rd PAIR_STATUS.LKVER = commonVersion (s.rd PAIR_CFG.LKV) h.vers
    ∧ (s.helloKept t h).rd PAIR_STATUS.LINK = (if commonVersion (s.rd PAIR_CFG.LKV) h.vers = 0 ∨ s.pair.lock = false then 0 else 1)
    ∧ (s.helloKept t h).rd PAIR_PDIG_LO.VALUE = h.dig % 2 ^ 32 ∧ (s.helloKept t h).rd PAIR_PDIG_HI.VALUE = h.dig / 2 ^ 32 % 2 ^ 32 := by
  generalize hu : ((s.atTime t).modPair fun p => { p with hello := true, ver := commonVersion (s.rd PAIR_CFG.LKV) h.vers }).wr64
    PAIR_PDIG_LO.VALUE PAIR_PDIG_HI.VALUE h.dig = u
  have hkept : s.helloKept t h = u.linkRegs := by rw [← hu]; rfl
  have hupair : u.pair = { s.pair with hello := true, ver := commonVersion (s.rd PAIR_CFG.LKV) h.vers } := by
    rw [← hu]
    simp only [State.wr64_pair, State.modPair, State.atTime_pair]
  have hlink : u.Frame u.linkRegs [] [PAIR_STATUS.LKVER.key 0 0, PAIR_STATUS.LINK.key 0 0] := ((State.Frame.refl _ _ _).wr (by decide)).wr (by decide)
  obtain ⟨hlkver, hshown⟩ := u.linkRegs_shows (by rw [hupair]; exact Nat.lt_succ_of_lt (commonVersion_lt _ _))
  rw [hupair] at hlkver hshown
  rw [hkept]
  refine ⟨hlkver, hshown, ?_, ?_⟩
  · rw [hlink.rd (by decide) (by decide) (by decide), ← hu]
    exact (State.rd_wr_other _ _ _ _ _ _ _ _ (by decide)).trans (State.rd_wr_same _ _ _ _ _ (by decide) (by decide))
  · rw [hlink.rd (by decide) (by decide) (by decide), ← hu]
    exact State.rd_wr_same _ _ _ _ _ (by decide) (by decide)

/-- A joining unit notes when it heard its partner (R521). -/
theorem State.joinHeard_pair (s : State) : s.joinHeard.pair = { s.pair with heardAt := if s.role = 1 then s.grid.now else s.pair.heardAt } := by
  unfold State.joinHeard
  split <;> rfl

theorem State.Frame.joinHeard {s t : State} {parts : List Part} {keys : List Nat} (h : s.Frame t parts keys) (hpair : Part.pair ∈ parts) :
    s.Frame t.joinHeard parts keys := by
  unfold State.joinHeard
  split
  · exact h.modPair hpair _
  · exact h

/-- The partner shows its rank: the state before the mask is brought up to date (R489). -/
def State.rankShown (s : State) (rank : Nat) : State := s.modPair fun p => { p with pRank := some (rank % 2) }

theorem State.rankSeen_eq {s : State} (h : s.paired = true) (rank : Nat) : s.rankSeen rank = (s.rankShown rank).nrUpdate := if_pos h

theorem State.rankShown_rankConflict (s : State) (rank : Nat) : (s.rankShown rank).rankConflict = decide (rank % 2 = s.rank) := by
  have hrank : (s.rankShown rank).rank = s.rank := rfl
  rw [State.rankConflict, hrank]
  by_cases h : rank % 2 = s.rank <;> simp [State.rankShown, State.modPair, h]

theorem helloIsTaken : Claim.helloIsTaken := by
  intro s t0 f crc h hup hpaired hhears hlen hh
  refine goesTo_live (f := fun s => s.helloRx t0 f crc) hup ?_
  have hrole : (s.helloKept t0 h).joinHeard.role = s.role :=
    ((s.helloKept_frame t0 h).joinHeard (by simp)).rd (by decide) (by decide) (by decide)
  generalize hv : (s.helloKept t0 h).joinHeard.rankShown h.rank = v
  have heq : s.helloRx t0 f crc = v.nrUpdate := by
    have hkept : s.helloRx t0 f crc = (s.helloKept t0 h).joinHeard.rankSeen h.rank := by
      unfold State.helloRx
      rw [if_neg (by simp [hpaired, hhears.takes, hlen]), hh]
      rfl
    rw [hkept, State.rankSeen_eq ((State.paired_of_role hrole).trans hpaired), hv]
  have hjoined := (State.Frame.refl (s.helloKept t0 h) [.pair] []).joinHeard (by simp)
  have hshown : (s.helloKept t0 h).Frame v [.pair] [] := hv ▸ hjoined.modPair (by simp) _
  have hframe : s.Frame v [.grid, .pair] helloKeys := ((s.helloKept_frame t0 h).trans hshown).mono (by decide) (by simp)
  have hlast := v.nrUpdate_frame
  have hkeptRole : (s.helloKept t0 h).role = s.role := (s.helloKept_frame t0 h).rd (by decide) (by decide) (by decide)
  have hvpair : v.pair = { s.pair with
      hello := true, ver := commonVersion (s.rd PAIR_CFG.LKV) h.vers, pRank := some (h.rank % 2),
      heardAt := if s.role = 1 then (s.helloKept t0 h).grid.now else s.pair.heardAt } := by
    rw [← hv]
    show { (s.helloKept t0 h).joinHeard.pair with pRank := some (h.rank % 2) } = _
    rw [State.joinHeard_pair, State.helloKept_pair, hkeptRole]
  have hnow : (s.helloKept t0 h).grid.now = max s.grid.now t0 := s.atTime_now t0
  have hvnow : v.grid.now = max s.grid.now t0 := (congrArg GridSt.now (hshown.1 .grid (by simp))).trans hnow
  have hvrole : v.role ≠ 0 := by
    rw [show v.role = s.role from hframe.rd (by decide) (by decide) (by decide)]
    exact State.role_ne_zero hpaired
  have hconflict : v.rankConflict = decide (h.rank % 2 = s.rank) := by
    have hrank : (s.helloKept t0 h).joinHeard.rank = s.rank :=
      congrArg (fun k : Bank => k.fld PAIR_CFG.RANK 0 0) (((s.helloKept_frame t0 h).joinHeard (by simp)).1 .bank (by simp))
    rw [← hv, State.rankShown_rankConflict, hrank]
  obtain ⟨hlkver, hlink, hlo, hhi⟩ := s.helloKept_shows t0 h
  have hrd {g : Field} (hs : g.acc ≠ .SP) (ho : g.acc ≠ .OTP) (hn : g.key 0 0 ∉ nrKeys ++ logKeys) : v.nrUpdate.rd g = (s.helloKept t0 h).rd g :=
    (hlast.rd hs ho hn).trans (hshown.rd hs ho (by simp))
  have hpair := v.nrUpdate_pair
  rw [hvpair] at hpair
  have hleft {g : Field} (hs : g.acc ≠ .SP) (ho : g.acc ≠ .OTP) (hn : g.key 0 0 ∉ nrKeys ++ logKeys) (hl : g.key 0 0 ∉ lifeKeys) :
      (s.left v.nrUpdate).rd g = (s.helloKept t0 h).rd g := (State.left_rd_of_notMem _ _ hl).trans (hrd hs ho hn)
  rw [heq, hleft (by decide) (by decide) (by decide) (by decide), hleft (by decide) (by decide) (by decide) (by decide),
    hleft (by decide) (by decide) (by decide) (by decide), hleft (by decide) (by decide) (by decide) (by decide), State.left_pair, State.left_grid,
    State.nrUpdate_now, hvnow, hpair]
  refine ⟨rfl, rfl, hlkver, hlink, hlo, hhi, ?_, ?_, fun hjoining => ?_, rfl, ?_⟩
  · exact v.nrUpdate_rankConflict.trans hconflict
  · rw [State.left_rd_of_notMem _ _ (by decide), State.nrUpdate_conflict hvrole, hconflict]
  · exact (if_pos hjoining).trans hnow
  · exact ((hframe.trans hlast).mono (by decide) (by simp [helloKeys, nrKeys])).keeps

end Sys2Proof.Machine

/-! ### The heartbeats of the unit (R494 to R496) -/
namespace Sys2Proof.Machine
open Reg

theorem State.Frame.modDio {s t : State} {parts : List Part} {keys : List Nat} (h : s.Frame t parts keys) (hdio : Part.dio ∈ parts) (f : DioSt → DioSt) :
    s.Frame (t.modDio f) parts keys := by
  refine ⟨fun p hp => ?_, h.2⟩
  have hsame := h.1 p hp
  cases p with
  | dio => contradiction
  | _ => exact hsame

/-- The unit at its next heartbeat instant: a snapshot that has left is settled, and the mask is up to date. -/
def State.beatDue (s : State) : State := (s.atTime s.nextHeartbeat).snapSettle.nrUpdate

/-- The heartbeat that the unit would send now (R494, R508). -/
def State.beat (s : State) : Heartbeat := s.heartbeat ((s.pair.ival.map s.ownDigest).getD 0)

/-- The heartbeat instant noted: its interval, and the heartbeat unless the unit keeps silent (R496, R508). -/
def State.beatNoted (s : State) : State :=
  s.modPair fun p =>
    { p with hbAt := s.grid.now, ival := some (s.intervalEnd s.pair.hbAt), gone := s.pairSubs.map fun k => (k, (s.svSub k).gone),
             sentHb := if s.silent then p.sentHb else some s.beat }

/-- The heartbeat sent on both paths (R494, R495). -/
def State.beatSent (s : State) : State := (s.beatNoted.sendFrame 2 s.beat.bytes).modDio fun x => { x with tow := !x.tow }

theorem State.beatSent_frame (s : State) : s.Frame s.beatSent [.pair, .dio] [] :=
  (((State.Frame.refl _ _ _).modPair (by simp) _).modPair (by simp) _).modDio (by simp) _

theorem State.beatSent_pair (s : State) (h : s.silent = false) : s.beatSent.pair.sentHb = some s.beat
    ∧ s.beatSent.pair.sent = some (2, s.outFrame s.beat.bytes) ∧ s.beatSent.pair.txSeq = s.pair.txSeq + 1 ∧ s.beatSent.pair.hbAt = s.grid.now :=
  ⟨if_neg (by simp [h]), rfl, rfl, rfl⟩

theorem State.beatSent_dio (s : State) : s.beatSent.dio = { s.dio with tow := !s.dio.tow } := rfl

theorem State.beat_words (s : State) : s.beat.role = s.role ∧ s.beat.rank = s.rank ∧ s.beat.word = s.rd PAIR_CLAIM.OWN
    ∧ s.beat.nr = s.rd PAIR_STATUS.NR ∧ s.beat.s = s.grid.now ∧ s.beat.assert_ = (s.rd PAIR_CLAIM.ASSERT == 1) ∧ s.beat.dig = s.setDig :=
  ⟨rfl, rfl, rfl, rfl, rfl, rfl, rfl⟩

theorem State.beatNoted_silent {s : State} (h : s.silent = true) :
    s.beatNoted.pair.sentHb = s.pair.sentHb ∧ s.Frame s.beatNoted [.pair] [] :=
  ⟨if_pos h, (State.Frame.refl _ _ _).modPair (by simp) _⟩

theorem State.heartbeatSend_eq {s : State} (h : s.paired = true) : s.heartbeatSend =
    if s.beatDue.silent then s.beatDue.beatNoted
    else s.beatDue.beatSent := if_neg (by simp [h])

/-- The next heartbeat instant is not past (R495). -/
theorem State.le_nextHeartbeat (s : State) : s.grid.now ≤ s.nextHeartbeat := by
  unfold State.nextHeartbeat
  dsimp only
  split <;> omega

theorem State.beatDue_frame (s : State) : s.Frame s.beatDue [.grid, .log, .pair] (snapKeys ++ (nrKeys ++ logKeys)) :=
  (((State.Frame.refl _ _ _).atTime (by simp) _).snapSettle (by simp) (List.subset_append_left _ _)).nrUpdate (by simp) (by simp)
    (List.subset_append_right _ _)

theorem State.beatDue_pair (s : State) : ∃ sending sentSeq readyAt, s.beatDue.pair =
    { s.pair with sending := sending, sentSeq := sentSeq, readyAt := readyAt } := by
  obtain ⟨sending, sentSeq, hsettled⟩ : ∃ sending sentSeq, (s.atTime s.nextHeartbeat).snapSettle.pair =
      { (s.atTime s.nextHeartbeat).pair with sending := sending, sentSeq := sentSeq } := ⟨_, _, State.snapSettle_pair _⟩
  obtain ⟨readyAt, hshown⟩ : ∃ readyAt, s.beatDue.pair = { (s.atTime s.nextHeartbeat).snapSettle.pair with readyAt := readyAt } :=
    ⟨_, State.nrUpdate_pair _⟩
  rw [hsettled, State.atTime_pair] at hshown
  exact ⟨sending, sentSeq, readyAt, hshown⟩

/-- What the mask and a snapshot that is settled leave of the pair (R496, R506). -/
theorem State.beatDue_keeps (s : State) : s.beatDue.pair.ver = s.pair.ver ∧ s.beatDue.pair.txSeq = s.pair.txSeq
    ∧ s.beatDue.pair.sentHb = s.pair.sentHb ∧ s.beatDue.pair.doneAt = s.pair.doneAt := by
  obtain ⟨sending, sentSeq, readyAt, hpair⟩ := s.beatDue_pair
  generalize s.beatDue.pair = p at *
  rw [hpair]
  exact ⟨rfl, rfl, rfl, rfl⟩

theorem State.beatDue_now (s : State) : s.beatDue.grid.now = s.nextHeartbeat := by
  have hsettle : (s.atTime s.nextHeartbeat).snapSettle.grid = (s.atTime s.nextHeartbeat).grid :=
    ((State.Frame.refl _ [.pair] snapKeys).snapSettle (by simp) (List.Subset.refl _)).1 .grid (by simp)
  rw [State.beatDue, State.nrUpdate_now, hsettle, State.atTime_now]
  exact max_eq_right s.le_nextHeartbeat

/-- Whether the unit keeps silent does not hang on the mask or on snapshots (R496). -/
theorem State.beatDue_silent (s : State) : s.beatDue.silent = (s.atTime s.nextHeartbeat).silent := by
  have hframe := s.beatDue_frame
  have hrole : s.beatDue.role = (s.atTime s.nextHeartbeat).role := (hframe.rd (by decide) (by decide) (by decide)).trans (s.atTime_rd ..).symm
  have hdio : s.beatDue.dio = (s.atTime s.nextHeartbeat).dio := (hframe.1 .dio (by simp)).trans (s.atTime_dio _).symm
  have hbank : s.beatDue.bank = (s.atTime s.nextHeartbeat).bank := (hframe.1 .bank (by simp)).trans (s.atTime_bank _).symm
  have hnow : s.beatDue.grid.now = (s.atTime s.nextHeartbeat).grid.now := by
    rw [State.beatDue_now, State.atTime_now, max_eq_right s.le_nextHeartbeat]
  have hdone : s.beatDue.pair.doneAt = (s.atTime s.nextHeartbeat).pair.doneAt := by
    rw [State.atTime_pair]
    exact s.beatDue_keeps.2.2.2
  unfold State.silent State.enabledBays
  rw [hrole, hdio, hbank, hnow, hdone]

theorem heartbeatWithheld : Claim.heartbeatWithheld := by
  intro s hup hpaired hsilent
  refine goesTo_live (f := State.heartbeatSend) hup ?_
  have hquiet : s.beatDue.silent = true := s.beatDue_silent.trans hsilent
  have hdio : s.beatDue.dio = s.dio := s.beatDue_frame.1 .dio (by simp)
  obtain ⟨-, -, hsent, -⟩ := s.beatDue_keeps
  have hnow := s.beatDue_now
  rw [State.heartbeatSend_eq hpaired, if_pos hquiet]
  generalize s.beatDue = u at *
  obtain ⟨hkept, hframe⟩ := u.beatNoted_silent hquiet
  generalize u.beatNoted = v at *
  rw [State.left_pair, State.left_dio, State.left_grid, hkept, hframe.1 .dio (by simp), hframe.1 .grid (by simp)]
  exact ⟨hsent, hdio, hnow⟩

theorem heartbeatIsSent : Claim.heartbeatIsSent := by
  intro s hup hpaired hsilent
  refine goesTo_live (f := State.heartbeatSend) hup ?_
  have hloud : s.beatDue.silent = false := s.beatDue_silent.trans hsilent
  have hframe := s.beatDue_frame
  obtain ⟨hver, htx, -, -⟩ := s.beatDue_keeps
  have hnow := s.beatDue_now
  have hrd {g : Field} (hs : g.acc ≠ .SP) (ho : g.acc ≠ .OTP) (hn : g.key 0 0 ∉ snapKeys ++ (nrKeys ++ logKeys)) : s.beatDue.rd g = s.rd g :=
    hframe.rd hs ho hn
  have hrole : s.beatDue.role = s.role := hrd (by decide) (by decide) (by decide)
  have hrank : s.beatDue.rank = s.rank := congrArg (fun k : Bank => k.fld PAIR_CFG.RANK 0 0) (hframe.1 .bank (by simp))
  have hdig : s.beatDue.setDig = s.setDig := hframe.rd64 (by decide) (by decide) (by decide) (by decide)
  have hown : s.beatDue.rd PAIR_CLAIM.OWN = s.rd PAIR_CLAIM.OWN := hrd (by decide) (by decide) (by decide)
  have hdio : s.beatDue.dio = s.dio := hframe.1 .dio (by simp)
  rw [State.heartbeatSend_eq hpaired, if_neg (by simp [hloud])]
  generalize s.beatDue = u at *
  obtain ⟨hsent, hout, hseq, hat⟩ := u.beatSent_pair hloud
  obtain ⟨hbrole, hbrank, hbword, hbmask, hbnow, hbassert, hbdig⟩ := u.beat_words
  have htow := u.beatSent_dio
  have hnoted := u.beatSent_frame
  have hframes : u.outFrame u.beat.bytes = s.outFrame u.beat.bytes := by simp only [State.outFrame, hver, htx]
  have hassert : u.rd PAIR_CLAIM.ASSERT = s.rd PAIR_CLAIM.ASSERT := hrd (by decide) (by decide) (by decide)
  generalize u.beatSent = v at *
  generalize u.beat = h at *
  have hgrid : v.grid = u.grid := hnoted.1 .grid (by simp)
  have hmask : (s.left v).rd PAIR_STATUS.NR = u.rd PAIR_STATUS.NR :=
    (State.left_rd_of_notMem _ _ (by decide)).trans (hnoted.rd (by decide) (by decide) (by decide))
  rw [State.left_pair, State.left_grid, State.left_dio, hgrid, hmask, htow, hdio, hseq, htx]
  exact ⟨⟨h, hsent, hbrole.trans hrole, hbrank.trans hrank, hbword.trans hown, hbmask, hbnow, hbassert.trans (by rw [hassert]), hbdig.trans hdig,
    hout.trans (by rw [hframes])⟩, rfl, rfl, hnow, hat, ((hframe.trans hnoted).mono (by decide) (by simp [snapKeys])).keeps⟩

end Sys2Proof.Machine

/-! ### The partner's heartbeats (R489, R494, R497, R499, R521) -/
namespace Sys2Proof.Machine
open Reg

/-! #### A heartbeat on the link (R497) -/

/-- The link's path once a heartbeat has arrived on it now. -/
def State.lkHeard (s : State) : PathSt :=
  { at' := some s.grid.now, hb := some s.grid.now, miss := 0, ok := s.pair.lk.ok + 1,
    alarm := s.pair.lk.alarm && !(s.pair.lk.alarm && decide (8 ≤ s.pair.lk.ok + 1)) }

/-- The link's path noted, and an alarm of it over (R497, R503). -/
def State.lkNoted (s : State) : State :=
  let v := s.modPair fun p => { p with lk := s.lkHeard }
  if s.pair.lk.alarm && decide (8 ≤ s.pair.lk.ok + 1) then v.logEv 0x8003 0 else v

theorem State.pathHear_link (s : State) : s.pathHear false = ((s.lkNoted.wr PAIR_STATUS.DETECT 1).joinHeard).nrUpdate := rfl

theorem State.lkNoted_frame (s : State) : s.Frame s.lkNoted [.log, .pair] logKeys := by
  have hnoted := (State.Frame.refl s [.log, .pair] logKeys).modPair (by simp) fun p => { p with lk := s.lkHeard }
  unfold State.lkNoted
  dsimp only
  split
  · exact hnoted.logAt (by simp) (List.Subset.refl _) (by decide) _ _ _
  · exact hnoted

theorem State.lkNoted_pair (s : State) : s.lkNoted.pair = { s.pair with lk := s.lkHeard } := by
  unfold State.lkNoted
  dsimp only
  split
  · exact ((State.Frame.refl _ [.log] logKeys).logAt (by simp) (List.Subset.refl _) (by decide) _ _ _).1 .pair (by simp)
  · rfl

/-- The keys that a heartbeat on the link writes. -/
def hearKeys : List Nat := PAIR_STATUS.DETECT.key 0 0 :: (nrKeys ++ logKeys)

theorem State.pathHear_frame (s : State) : s.Frame (s.pathHear false) [.log, .pair] hearKeys := by
  rw [State.pathHear_link]
  exact ((((s.lkNoted_frame.mono (List.Subset.refl _) (by simp [hearKeys])).wr (by simp [hearKeys])).joinHeard (by simp)).nrUpdate (by simp) (by simp)
    (by simp [hearKeys]))

theorem State.pathHear_pair (s : State) : (s.pathHear false).pair = { s.pair with
    lk := s.lkHeard, heardAt := if s.role = 1 then s.grid.now else s.pair.heardAt, readyAt := (s.pathHear false).pair.readyAt } := by
  have hrole : (s.lkNoted.wr PAIR_STATUS.DETECT 1).role = s.role :=
    (State.rd_wr_other _ _ _ _ _ _ _ _ (by decide)).trans (s.lkNoted_frame.rd (by decide) (by decide) (by decide))
  have hgrid : (s.lkNoted.wr PAIR_STATUS.DETECT 1).grid = s.grid := s.lkNoted_frame.1 .grid (by simp)
  have hpair : (s.lkNoted.wr PAIR_STATUS.DETECT 1).pair = { s.pair with lk := s.lkHeard } := s.lkNoted_pair
  have hnr := ((s.lkNoted.wr PAIR_STATUS.DETECT 1).joinHeard).nrUpdate_pair
  rw [State.joinHeard_pair, hrole, hgrid, hpair] at hnr
  rw [State.pathHear_link]
  exact hnr

theorem State.pathHear_detect (s : State) : (s.pathHear false).rd PAIR_STATUS.DETECT = 1 := by
  rw [State.pathHear_link, (State.nrUpdate_frame _).rd (by decide) (by decide) (by decide),
    ((State.Frame.refl _ [.pair] []).joinHeard (by simp)).rd (by decide) (by decide) (by decide)]
  exact State.rd_wr_same _ _ _ _ _ (by decide) (by decide)

/-! #### What a heartbeat tells (R489, R494, R499) -/

/-- The partner's words are shown and kept (R494). -/
def State.beatShown (s : State) (h : Heartbeat) : State :=
  let s := s.modPair fun p => { p with hb := some (h, s.grid.now), word := true }
  let s := (s.wr64 PAIR_PDIG_LO.VALUE PAIR_PDIG_HI.VALUE h.dig).wr PAIR_CLAIM.PSEEN h.word
  (s.wr PAIR_STATUS.PROLE h.role).wr PAIR_STATUS.PREADY (b2n h.ready)

/-- What a unit knows of its partner once a heartbeat has told it: its rank, θ and its words. -/
def State.beatKnown (s : State) (t : Nat) (h : Heartbeat) : State := ((((s.atTime t).pathHear false).rankSeen h.rank).measureTheta h).beatShown h

/-- A standby compares its inputs with those of the active unit (R509). -/
def State.beatCompared (s : State) (h : Heartbeat) : State :=
  if s.role = 2 ∧ h.role = 4 then s.compareInputs (h.s / 125000 * 125000 - 125000) h.inDig (openDiv 122 s.theta24 (2 ^ 24)) else s

theorem State.measureTheta_frame (s : State) (h : Heartbeat) : s.Frame (s.measureTheta h) [.pair] [PAIR_DT_OFS_LO.VALUE.key 0 0, PAIR_DT_OFS_HI.VALUE.key 0 0] := by
  unfold State.measureTheta
  dsimp only
  (repeat' split)
  · exact .refl _ _ _
  · exact .refl _ _ _
  · exact ((State.Frame.refl _ _ _).modPair (by simp) _).wr64 (by simp) (by simp)

/-- The latest θ, newest first, once a heartbeat has come (R499). -/
def State.thetasAfter (s : State) (h : Heartbeat) : List Int :=
  if h.e = 0 ∨ 500 < (s.grid.now : Int) - h.e - h.w then s.pair.thetas
  else (((h.s : Int) + ((s.grid.now : Int) - h.e - h.w) / 2 - s.grid.now) :: s.pair.thetas).take 16

theorem State.measureTheta_pair (s : State) (h : Heartbeat) : (s.measureTheta h).pair = { s.pair with thetas := s.thetasAfter h } := by
  unfold State.measureTheta State.thetasAfter
  by_cases he : h.e = 0
  · simp [he]
  · by_cases hlong : 500 < (s.grid.now : Int) - h.e - h.w
    · simp [he, hlong]
    · simp [he, hlong, State.modPair]

theorem State.compareInputs_frame (s : State) (e dig : Nat) (theta : Int) : s.Frame (s.compareInputs e dig theta) [.pair] [PAIR_DIV_CNT.VALUE.key 0 0] := by
  unfold State.compareInputs
  dsimp only
  (repeat' split)
  · exact (State.Frame.refl _ _ _).modPair (by simp) _
  · exact (((State.Frame.refl _ _ _).modPair (by simp) _).modPair (by simp) _).bump (by simp)
  · exact (State.Frame.refl _ _ _).modPair (by simp) _

theorem State.compareInputs_pair (s : State) (e dig : Nat) (theta : Int) : (s.compareInputs e dig theta).pair =
    { s.pair with diff := (s.compareInputs e dig theta).pair.diff, div := (s.compareInputs e dig theta).pair.div } := by
  unfold State.compareInputs
  dsimp only
  (repeat' split) <;> rfl

theorem State.beatCompared_frame (s : State) (h : Heartbeat) : s.Frame (s.beatCompared h) [.pair] [PAIR_DIV_CNT.VALUE.key 0 0] := by
  unfold State.beatCompared
  split
  · exact s.compareInputs_frame _ _ _
  · exact .refl _ _ _

theorem State.beatCompared_pair (s : State) (h : Heartbeat) :
    (s.beatCompared h).pair = { s.pair with diff := (s.beatCompared h).pair.diff, div := (s.beatCompared h).pair.div } := by
  unfold State.beatCompared
  split
  · exact s.compareInputs_pair _ _ _
  · rfl

/-- The unit has heard the heartbeat at device time `t` and knows its partner's rank: the state before the mask is brought up to date. -/
def State.beatRanked (s : State) (t : Nat) (h : Heartbeat) : State := ((s.atTime t).pathHear false).rankShown h.rank

theorem State.beatRanked_frame (s : State) (t : Nat) (h : Heartbeat) : s.Frame (s.beatRanked t h) [.grid, .log, .pair] hearKeys := by
  have htime := (State.Frame.refl s [.grid] []).atTime (by simp) t
  exact ((htime.trans (s.atTime t).pathHear_frame).modPair (by simp) _).mono (by decide) (by simp)

theorem State.beatRanked_now (s : State) (t : Nat) (h : Heartbeat) : (s.beatRanked t h).grid.now = max s.grid.now t :=
  (congrArg GridSt.now ((s.atTime t).pathHear_frame.1 .grid (by simp))).trans (s.atTime_now t)

theorem State.beatRanked_pair (s : State) (t : Nat) (h : Heartbeat) : (s.beatRanked t h).pair = { s.pair with
    lk := (s.atTime t).lkHeard, heardAt := if s.role = 1 then max s.grid.now t else s.pair.heardAt, pRank := some (h.rank % 2),
    readyAt := (s.beatRanked t h).pair.readyAt } := by
  have hheard := (s.atTime t).pathHear_pair
  have hrole : (s.atTime t).role = s.role := s.atTime_rd ..
  rw [hrole, State.atTime_now, State.atTime_pair] at hheard
  show { ((s.atTime t).pathHear false).pair with pRank := some (h.rank % 2) } = _
  rw [hheard]
  rfl

theorem State.beatRanked_rankConflict (s : State) (t : Nat) {h : Heartbeat} (hrank : h.rank < 2) :
    (s.beatRanked t h).rankConflict = decide (h.rank = s.rank) := by
  have hbank : ((s.atTime t).pathHear false).bank = s.bank := ((s.atTime t).pathHear_frame.1 .bank (by simp)).trans (s.atTime_bank t)
  have hself : ((s.atTime t).pathHear false).rank = s.rank := congrArg (fun k : Bank => k.fld PAIR_CFG.RANK 0 0) hbank
  rw [State.beatRanked, State.rankShown_rankConflict, hself, Nat.mod_eq_of_lt hrank]

/-- The unit knows its partner's words: after the heartbeat's θ is measured (R494, R499). -/
theorem State.beatKnown_eq {s : State} (hpaired : s.paired = true) (t : Nat) (h : Heartbeat) :
    s.beatKnown t h = ((s.beatRanked t h).nrUpdate.measureTheta h).beatShown h := by
  have hrole : ((s.atTime t).pathHear false).role = s.role :=
    ((s.atTime t).pathHear_frame.rd (by decide) (by decide) (by decide)).trans (s.atTime_rd ..)
  rw [State.beatKnown, State.rankSeen_eq ((State.paired_of_role hrole).trans hpaired)]
  rfl

/-- The keys of the partner's words. -/
def shownKeys : List Nat :=
  [PAIR_PDIG_LO.VALUE.key 0 0, PAIR_PDIG_HI.VALUE.key 0 0, PAIR_CLAIM.PSEEN.key 0 0, PAIR_STATUS.PROLE.key 0 0, PAIR_STATUS.PREADY.key 0 0]

theorem State.beatShown_frame (s : State) (h : Heartbeat) : s.Frame (s.beatShown h) [.pair] shownKeys :=
  (((((State.Frame.refl _ _ _).modPair (by simp) _).wr64 (by decide) (by decide)).wr (by decide)).wr (by decide)).wr (by decide)

theorem State.beatShown_words (s : State) {h : Heartbeat} (hrole : h.role < 8) (hword : h.word < 256) :
    (s.beatShown h).rd PAIR_STATUS.PROLE = h.role ∧ (s.beatShown h).rd PAIR_STATUS.PREADY = b2n h.ready ∧ (s.beatShown h).rd PAIR_CLAIM.PSEEN = h.word
    ∧ (s.beatShown h).rd PAIR_PDIG_LO.VALUE = h.dig % 2 ^ 32 ∧ (s.beatShown h).rd PAIR_PDIG_HI.VALUE = h.dig / 2 ^ 32 % 2 ^ 32 := by
  have hready : b2n h.ready < 2 := by unfold b2n; split <;> omega
  unfold State.beatShown
  refine ⟨?_, ?_, ?_, ?_, ?_⟩
  · rw [State.rd_wr_other _ _ _ _ _ _ _ _ (by decide), State.rd_wr_same _ _ _ _ _ (by decide) (by decide)]
    exact Nat.mod_eq_of_lt hrole
  · rw [State.rd_wr_same _ _ _ _ _ (by decide) (by decide)]
    exact Nat.mod_eq_of_lt hready
  · rw [State.rd_wr_other _ _ _ _ _ _ _ _ (by decide), State.rd_wr_other _ _ _ _ _ _ _ _ (by decide),
      State.rd_wr_same _ _ _ _ _ (by decide) (by decide)]
    exact Nat.mod_eq_of_lt hword
  · rw [State.rd_wr_other _ _ _ _ _ _ _ _ (by decide), State.rd_wr_other _ _ _ _ _ _ _ _ (by decide), State.rd_wr_other _ _ _ _ _ _ _ _ (by decide)]
    exact (State.rd_wr_other _ _ _ _ _ _ _ _ (by decide)).trans (State.rd_wr_same _ _ _ _ _ (by decide) (by decide))
  · rw [State.rd_wr_other _ _ _ _ _ _ _ _ (by decide), State.rd_wr_other _ _ _ _ _ _ _ _ (by decide), State.rd_wr_other _ _ _ _ _ _ _ _ (by decide)]
    exact State.rd_wr_same _ _ _ _ _ (by decide) (by decide)

/-- The keys that a heartbeat of the partner writes, before its consequences for a joining unit. -/
def beatKeys : List Nat := hearKeys ++ (PAIR_DT_OFS_LO.VALUE.key 0 0 :: PAIR_DT_OFS_HI.VALUE.key 0 0 :: shownKeys)

section
variable {s : State} (hpaired : s.paired = true) (t : Nat) (h : Heartbeat)
include hpaired

theorem State.beatKnown_frame : s.Frame (s.beatKnown t h) [.grid, .log, .pair] beatKeys := by
  rw [State.beatKnown_eq hpaired]
  exact ((((s.beatRanked_frame t h).trans (State.nrUpdate_frame _)).trans (State.measureTheta_frame _ h)).trans
    (State.beatShown_frame _ h)).mono (by decide) (by decide)

theorem State.beatKnown_now : (s.beatKnown t h).grid.now = max s.grid.now t := by
  rw [State.beatKnown_eq hpaired, show ((((s.beatRanked t h).nrUpdate.measureTheta h).beatShown h)).grid = _ from (State.beatShown_frame _ h).1 .grid (by simp),
    show ((s.beatRanked t h).nrUpdate.measureTheta h).grid = _ from (State.measureTheta_frame _ h).1 .grid (by simp), State.nrUpdate_now,
    State.beatRanked_now]

theorem State.beatKnown_pair : ∃ ready, (s.beatKnown t h).pair = { s.pair with
    lk := (s.atTime t).lkHeard, heardAt := if s.role = 1 then max s.grid.now t else s.pair.heardAt, pRank := some (h.rank % 2),
    thetas := (s.atTime t).thetasAfter h, hb := some (h, max s.grid.now t), word := true, readyAt := ready } := by
  have hnr := (s.beatRanked t h).nrUpdate_pair
  rw [State.beatRanked_pair] at hnr
  have hnow : (s.beatRanked t h).nrUpdate.grid.now = max s.grid.now t := by rw [State.nrUpdate_now, State.beatRanked_now]
  have hthetas : (s.beatRanked t h).nrUpdate.thetasAfter h = (s.atTime t).thetasAfter h := by
    unfold State.thetasAfter
    rw [hnow, State.atTime_now, hnr, State.atTime_pair]
  have htheta := (s.beatRanked t h).nrUpdate.measureTheta_pair h
  rw [hthetas, hnr] at htheta
  have hgrid : ((s.beatRanked t h).nrUpdate.measureTheta h).grid = (s.beatRanked t h).nrUpdate.grid := (State.measureTheta_frame _ h).1 .grid (by simp)
  refine ⟨(s.beatRanked t h).nrUpdate.pair.readyAt, ?_⟩
  rw [State.beatKnown_eq hpaired]
  generalize (s.beatRanked t h).nrUpdate.measureTheta h = u at *
  show { u.pair with hb := some (h, u.grid.now), word := true } = _
  rw [hgrid, hnow, htheta]

end

end Sys2Proof.Machine

/-! ### HEARTBEAT_RX (R489, R494, R497, R499, R521) -/
namespace Sys2Proof.Machine
open Reg

theorem ofLe_lt : ∀ l : List Byte, ofLe l < 256 ^ l.length
  | [] => by simp [ofLe]
  | b :: l => by
    have hb := b.isLt
    have hl := ofLe_lt l
    rw [ofLe, List.length_cons, Nat.pow_succ]
    omega

theorem leAt_lt (l : List Byte) (off n : Nat) : leAt l off n < 256 ^ n :=
  (ofLe_lt _).trans_le (Nat.pow_le_pow_right (by decide) (List.length_take_le _ _))

/-- The role, the rank and the claim word of a heartbeat as it comes fit their widths (R494). -/
theorem Heartbeat.ofBytes_fits (l : List Byte) : (Heartbeat.ofBytes l).role < 8 ∧ (Heartbeat.ofBytes l).rank < 2 ∧ (Heartbeat.ofBytes l).word < 256 :=
  ⟨Nat.mod_lt _ (by decide), Nat.mod_lt _ (by decide), leAt_lt l 1 1⟩

section
variable {s : State} {f : LkFrame} {crc : BitVec 32} {h : Heartbeat}

/-- The unit once a heartbeat has told it of its partner, its inputs compared (R494, R499, R509). -/
def State.beatTaken (s : State) (t : Nat) (h : Heartbeat) : State := (s.beatKnown t h).beatCompared h

theorem State.beatTaken_frame (hpaired : s.paired = true) (t : Nat) (h : Heartbeat) :
    s.Frame (s.beatTaken t h) [.grid, .log, .pair] (beatKeys ++ [PAIR_DIV_CNT.VALUE.key 0 0]) :=
  ((State.beatKnown_frame hpaired t h).trans (State.beatCompared_frame _ h)).mono (by decide) (List.Subset.refl _)

theorem State.beatTaken_pair (hpaired : s.paired = true) (t : Nat) (h : Heartbeat) : ∃ ready diff div, (s.beatTaken t h).pair = { s.pair with
    lk := (s.atTime t).lkHeard, heardAt := if s.role = 1 then max s.grid.now t else s.pair.heardAt, pRank := some (h.rank % 2),
    thetas := (s.atTime t).thetasAfter h, hb := some (h, max s.grid.now t), word := true, readyAt := ready, diff := diff, div := div } := by
  obtain ⟨ready, hpair⟩ := State.beatKnown_pair hpaired t h
  have hcompared := (s.beatKnown t h).beatCompared_pair h
  rw [hpair] at hcompared
  exact ⟨ready, _, _, hcompared⟩

theorem State.beatTaken_now (hpaired : s.paired = true) (t : Nat) (h : Heartbeat) : (s.beatTaken t h).grid.now = max s.grid.now t :=
  (congrArg GridSt.now ((s.beatKnown t h).beatCompared_frame h |>.1 .grid (by simp))).trans (State.beatKnown_now hpaired t h)

theorem State.beatTaken_role (hpaired : s.paired = true) (t : Nat) (h : Heartbeat) : (s.beatTaken t h).role = s.role :=
  (State.beatTaken_frame hpaired t h).rd (by decide) (by decide) (by decide)

theorem State.beatTaken_rankConflict (hpaired : s.paired = true) (t : Nat) (hrank : h.rank < 2) :
    (s.beatTaken t h).rankConflict = decide (h.rank = s.rank) := by
  have hbank : (s.beatTaken t h).rank = s.rank :=
    congrArg (fun k : Bank => k.fld PAIR_CFG.RANK 0 0) ((State.beatTaken_frame hpaired t h).1 .bank (by simp))
  obtain ⟨ready, diff, div, hpair⟩ := State.beatTaken_pair hpaired t h
  rw [State.rankConflict, hbank, hpair]
  rw [Nat.mod_eq_of_lt hrank]
  by_cases hsame : h.rank = s.rank
  · simp [hsame]
  · simp [hsame]

/-- A heartbeat frame that is whole, under version 2 (R491, R494). -/
theorem State.heartbeatRx_eq (hpaired : s.paired = true) (hlink : s.rd PAIR_STATUS.LINK = 1) (hver : s.pair.ver = 2) (hhears : s.Hears 2 f crc)
    (hlen : f.pay.length = 64) (t : Nat) : s.heartbeatRx t f crc =
      ((s.beatTaken t (Heartbeat.ofBytes f.pay)).joinHeartbeat (Heartbeat.ofBytes f.pay).role).nrUpdate := by
  have htaken : (s.beatTaken t (Heartbeat.ofBytes f.pay)).pair.ver = 2 := by
    obtain ⟨ready, diff, div, hpair⟩ := State.beatTaken_pair hpaired t (Heartbeat.ofBytes f.pay)
    rw [hpair]
    exact hver
  have hno : ¬ ((s.beatTaken t (Heartbeat.ofBytes f.pay)).pair.ver = 1
      ∧ (Heartbeat.ofBytes f.pay).code ≠ (s.beatTaken t (Heartbeat.ofBytes f.pay)).pair.seen) := by
    rw [htaken]
    exact fun hv => absurd hv.1 (by decide)
  unfold State.heartbeatRx
  rw [if_neg (by simp [hpaired, hlink, hhears.takes, hlen])]
  exact congrArg (fun u : State => (u.joinHeartbeat (Heartbeat.ofBytes f.pay).role).nrUpdate) (if_neg hno)

end

end Sys2Proof.Machine

/-! ### What a heartbeat brings about (R489, R494, R521) -/
namespace Sys2Proof.Machine
open Reg

section
variable {s : State} {h : Heartbeat}

theorem State.beatTaken_words (hpaired : s.paired = true) (t : Nat) (hrole : h.role < 8) (hword : h.word < 256) :
    (s.beatTaken t h).rd PAIR_STATUS.PROLE = h.role ∧ (s.beatTaken t h).rd PAIR_STATUS.PREADY = b2n h.ready
    ∧ (s.beatTaken t h).rd PAIR_CLAIM.PSEEN = h.word
    ∧ (s.beatTaken t h).rd PAIR_PDIG_LO.VALUE = h.dig % 2 ^ 32 ∧ (s.beatTaken t h).rd PAIR_PDIG_HI.VALUE = h.dig / 2 ^ 32 % 2 ^ 32 := by
  have hcompared := (s.beatKnown t h).beatCompared_frame h
  rw [State.beatTaken, hcompared.rd (by decide) (by decide) (by decide), hcompared.rd (by decide) (by decide) (by decide),
    hcompared.rd (by decide) (by decide) (by decide), hcompared.rd (by decide) (by decide) (by decide),
    hcompared.rd (by decide) (by decide) (by decide), State.beatKnown_eq hpaired]
  exact State.beatShown_words _ hrole hword

theorem State.beatTaken_detect (hpaired : s.paired = true) (t : Nat) (h : Heartbeat) : (s.beatTaken t h).rd PAIR_STATUS.DETECT = 1 := by
  have hafter : (s.beatRanked t h).Frame (s.beatTaken t h) [.log, .pair]
      (nrKeys ++ logKeys ++ [PAIR_DT_OFS_LO.VALUE.key 0 0, PAIR_DT_OFS_HI.VALUE.key 0 0] ++ shownKeys ++ [PAIR_DIV_CNT.VALUE.key 0 0]) := by
    rw [State.beatTaken, State.beatKnown_eq hpaired]
    exact (((((State.nrUpdate_frame _).trans (State.measureTheta_frame _ h)).trans (State.beatShown_frame _ h)).trans
      (State.beatCompared_frame _ h))).mono (by decide) (List.Subset.refl _)
  rw [hafter.rd (by decide) (by decide) (by decide), State.beatRanked, State.rankShown, State.modPair_rd]
  exact (s.atTime t).pathHear_detect

theorem State.joinHeartbeat_of_joined {s : State} (hrole : s.role ≠ 1) (role : Nat) : s.joinHeartbeat role = s := if_pos (.inl hrole)

theorem State.joinHeartbeat_of_conflict {s : State} (hconflict : s.rankConflict = true) (role : Nat) : s.joinHeartbeat role = s :=
  if_pos (.inr hconflict)

theorem State.joinHeartbeat_active {s : State} (hrole : s.role = 1) (hconflict : s.rankConflict = false) : s.joinHeartbeat 4 = s.enterStandby := by
  unfold State.joinHeartbeat
  rw [if_neg (by simp [hrole, hconflict]), if_pos rfl]

end

theorem heartbeatIsTaken : Claim.heartbeatIsTaken := by
  intro s t0 f crc h hup hrole hlink hver hhears hlen hh
  refine goesTo_live (f := fun s => s.heartbeatRx t0 f crc) hup ?_
  have hpaired : s.paired = true := by
    simp only [State.paired, Bool.and_eq_true, decide_eq_true_eq]
    omega
  have hjoined : (s.beatTaken t0 h).role ≠ 1 := by
    rw [State.beatTaken_role hpaired]
    omega
  have heq : s.heartbeatRx t0 f crc = (s.beatTaken t0 h).nrUpdate := by
    rw [State.heartbeatRx_eq hpaired hlink hver hhears hlen, ← hh, State.joinHeartbeat_of_joined hjoined]
  obtain ⟨hfitRole, hfitRank, hfitWord⟩ : h.role < 8 ∧ h.rank < 2 ∧ h.word < 256 := hh ▸ Heartbeat.ofBytes_fits f.pay
  obtain ⟨hprole, hpready, hpseen, hlo, hhi⟩ := State.beatTaken_words hpaired t0 hfitRole hfitWord
  have hdetect := State.beatTaken_detect hpaired t0 h
  have hconflict := State.beatTaken_rankConflict hpaired t0 hfitRank
  have hnow := State.beatTaken_now hpaired t0 h
  have hframe := State.beatTaken_frame hpaired t0 h
  obtain ⟨ready, diff, div, hpair⟩ := State.beatTaken_pair hpaired t0 h
  generalize s.beatTaken t0 h = v at *
  have hupdated := v.nrUpdate_pair
  rw [hpair] at hupdated
  have hleft {g : Field} (hs : g.acc ≠ .SP) (ho : g.acc ≠ .OTP) (hn : g.key 0 0 ∉ nrKeys ++ logKeys) (hl : g.key 0 0 ∉ lifeKeys) :
      (s.left v.nrUpdate).rd g = v.rd g := (State.left_rd_of_notMem _ _ hl).trans (v.nrUpdate_frame.rd hs ho hn)
  rw [heq, hleft (by decide) (by decide) (by decide) (by decide), hleft (by decide) (by decide) (by decide) (by decide),
    hleft (by decide) (by decide) (by decide) (by decide), hleft (by decide) (by decide) (by decide) (by decide),
    hleft (by decide) (by decide) (by decide) (by decide), hleft (by decide) (by decide) (by decide) (by decide),
    State.left_pair, State.left_grid, State.nrUpdate_now, hnow, hupdated]
  refine ⟨rfl, rfl, ?_, hdetect, hprole, hpready, hpseen, v.nrUpdate_rankConflict.trans hconflict, hlo, hhi, rfl, fun hecho hshort => ?_, ?_⟩
  · exact congrArg some (s.atTime_now t0)
  · show (s.atTime t0).thetasAfter h = _
    unfold State.thetasAfter
    rw [State.atTime_now, State.atTime_pair, if_neg (by omega)]
  · exact ((hframe.trans v.nrUpdate_frame).mono (by decide) (by decide)).keeps

/-! #### A joining unit behind an ACTIVE partner (R521) -/

theorem State.Frame.modPwr {s t : State} {parts : List Part} {keys : List Nat} (h : s.Frame t parts keys) (hpwr : Part.pwr ∈ parts) (f : PwrSt → PwrSt) :
    s.Frame (t.modPwr f) parts keys := by
  refine ⟨fun p hp => ?_, h.2⟩
  have hsame := h.1 p hp
  cases p with
  | pwr => contradiction
  | _ => exact hsame

/-- The unit in STANDBY, before its bays are placed (R511, R521). -/
def State.standbyStart (s : State) : State :=
  let v := (((s.modPwr fun p => { p with owedClaim := false }).setRole 2).wr PAIR_CLAIM.ASSERT 0).wr PAIR_STATUS.HO 0
  (v.modPair fun p =>
    { p with standbyAt := v.grid.now, readyAt := none, ho := none, hoTick := none, code := 0, replay := none, good := none, asm := none,
             diff := none, div := [], proven := false, passedAt := none }).modBist fun b => { b with proofAt := none }

theorem State.standbyStart_frame (s : State) : s.Frame s.standbyStart [.pwr, .host, .pair, .bist]
    (PAIR_CLAIM.ASSERT.key 0 0 :: PAIR_STATUS.HO.key 0 0 :: roleKeys) :=
  ((((((State.Frame.refl _ _ _).modPwr (by simp) _).setRole (by simp) (by simp) 2).wr (by simp)).wr (by simp)).modPair (by simp) _).modBist (by simp) _

theorem State.standbyStart_shows (s : State) : s.standbyStart.role = 2 ∧ s.standbyStart.rd PAIR_CLAIM.ASSERT = 0
    ∧ s.standbyStart.rd PAIR_STATUS.HO = 0 ∧ s.standbyStart.pair.standbyAt = s.grid.now := by
  have hgrid : ((s.modPwr fun p => { p with owedClaim := false }).setRole 2).grid = s.grid :=
    (((State.Frame.refl s [.pwr, .host] roleKeys).modPwr (by simp) _).setRole (by simp) (by simp) 2).1 .grid (by simp)
  have hrole := (s.modPwr fun p => { p with owedClaim := false }).setRole_role (v := 2) (by decide)
  unfold State.standbyStart
  generalize (s.modPwr fun p => { p with owedClaim := false }).setRole 2 = u at *
  refine ⟨?_, ?_, ?_, congrArg GridSt.now hgrid⟩
  · exact (State.rd_wr_other _ _ _ _ _ _ _ _ (by decide)).trans ((State.rd_wr_other _ _ _ _ _ _ _ _ (by decide)).trans hrole)
  · exact (State.rd_wr_other _ _ _ _ _ _ _ _ (by decide)).trans (State.rd_wr_same u PAIR_CLAIM.ASSERT 0 0 0 (by decide) (by decide))
  · exact State.rd_wr_same (u.wr PAIR_CLAIM.ASSERT 0) PAIR_STATUS.HO 0 0 0 (by decide) (by decide)

/-- What follows the start of STANDBY: the placement, the life contact and the mask. -/
def State.standbyPlaced (s : State) : State := ((s.place s.grid.nextN s.grid.now).alive).nrUpdate

theorem State.standbyPlaced_frame {s : State} (hrole : s.role = 2) :
    s.Frame s.standbyPlaced [.bist, .log, .pair] (placeKeys ++ (lifeKeys ++ (nrKeys ++ logKeys))) := by
  have hplace := (State.Frame.refl s [.bist, .log] placeKeys).place (by simp) (by simp) (List.Subset.refl _) hrole s.grid.nextN s.grid.now
  exact ((hplace.trans ((State.Frame.refl _ [] lifeKeys).alive (List.Subset.refl _))).trans (State.nrUpdate_frame _)).mono (by decide)
    (by simp only [List.append_assoc]; exact List.Subset.refl _)

theorem State.standbyPlaced_standbyAt {s : State} (hrole : s.role = 2) : s.standbyPlaced.pair.standbyAt = s.pair.standbyAt := by
  have hplace := (State.Frame.refl s [.bist, .log] placeKeys).place (by simp) (by simp) (List.Subset.refl _) hrole s.grid.nextN s.grid.now
  have halive := hplace.trans ((State.Frame.refl _ [] lifeKeys).alive (List.Subset.refl _))
  unfold State.standbyPlaced
  generalize (s.place s.grid.nextN s.grid.now).alive = u at *
  have hpair : u.pair = s.pair := halive.1 .pair (by simp)
  rw [State.nrUpdate_pair, hpair]

theorem State.enterStandby_eq (s : State) : s.enterStandby = s.standbyStart.standbyPlaced := rfl

/-- A unit that enters STANDBY: what it shows, and what it leaves (R511, R521). -/
theorem State.enterStandby_shows (s : State) : s.enterStandby.role = 2 ∧ s.enterStandby.rd PAIR_CLAIM.ASSERT = 0
    ∧ s.enterStandby.rd PAIR_STATUS.HO = 0 ∧ s.enterStandby.pair.standbyAt = s.grid.now ∧ s.enterStandby.grid.now = s.grid.now
    ∧ s.enterStandby.settings = s.settings := by
  obtain ⟨hrole, hassert, hho, hat⟩ := s.standbyStart_shows
  have hstart := s.standbyStart_frame
  rw [s.enterStandby_eq]
  generalize s.standbyStart = u at *
  have hplaced := State.standbyPlaced_frame hrole
  have hsince := State.standbyPlaced_standbyAt hrole
  generalize u.standbyPlaced = v at *
  exact ⟨(hplaced.rd (by decide) (by decide) (by decide)).trans hrole, (hplaced.rd (by decide) (by decide) (by decide)).trans hassert,
    (hplaced.rd (by decide) (by decide) (by decide)).trans hho, hsince.trans hat,
    congrArg GridSt.now ((hplaced.1 .grid (by simp)).trans (hstart.1 .grid (by simp))), (hplaced.1 .bank (by simp)).trans (hstart.1 .bank (by simp))⟩

theorem joinsBehindActive : Claim.joinsBehindActive := by
  intro s t0 f crc h hup hrole hlink hver hhears hlen hh hactive hother
  refine goesTo_live (f := fun s => s.heartbeatRx t0 f crc) hup ?_
  have hpaired : s.paired = true := by simp [State.paired, hrole]
  have hconflict : (s.beatTaken t0 h).rankConflict = false :=
    (State.beatTaken_rankConflict hpaired t0 (hh ▸ Heartbeat.ofBytes_fits f.pay).2.1).trans (decide_eq_false hother)
  have heq : s.heartbeatRx t0 f crc = (s.beatTaken t0 h).enterStandby.nrUpdate := by
    rw [State.heartbeatRx_eq hpaired hlink hver hhears hlen, ← hh, hactive,
      State.joinHeartbeat_active ((State.beatTaken_role hpaired t0 h).trans hrole) hconflict]
  have hnow := State.beatTaken_now hpaired t0 h
  have hbank := (State.beatTaken_frame hpaired t0 h).1 .bank (by simp)
  generalize s.beatTaken t0 h = v at *
  obtain ⟨hstandby, hassert, hho, hat, hsame, hsettings⟩ := v.enterStandby_shows
  generalize v.enterStandby = u at *
  have hlast := u.nrUpdate_frame
  have hleft {g : Field} (hs : g.acc ≠ .SP) (ho : g.acc ≠ .OTP) (hn : g.key 0 0 ∉ nrKeys ++ logKeys) (hl : g.key 0 0 ∉ lifeKeys) :
      (s.left u.nrUpdate).rd g = u.rd g := (State.left_rd_of_notMem _ _ hl).trans (hlast.rd hs ho hn)
  rw [heq, hleft (by decide) (by decide) (by decide) (by decide), hleft (by decide) (by decide) (by decide) (by decide),
    State.left_pair, State.left_grid, State.nrUpdate_now, hsame, hnow, State.nrUpdate_pair]
  refine ⟨(hleft (by decide) (by decide) (by decide) (by decide)).trans hstandby, hassert, hho, hat.trans hnow, rfl, ?_, s.left_pending _, s.left_outputsOk _⟩
  exact (s.left_settings _).trans ((hlast.1 .bank (by simp)).trans (hsettings.trans hbank))

theorem rankConflictHolds : Claim.rankConflictHolds := by
  intro s t0 f crc h hup hrole hlink hver hhears hlen hh hsame
  refine goesTo_live (f := fun s => s.heartbeatRx t0 f crc) hup ?_
  have hpaired : s.paired = true := by simp [State.paired, hrole]
  have hconflict : (s.beatTaken t0 h).rankConflict = true :=
    (State.beatTaken_rankConflict hpaired t0 (hh ▸ Heartbeat.ofBytes_fits f.pay).2.1).trans (decide_eq_true hsame)
  have heq : s.heartbeatRx t0 f crc = (s.beatTaken t0 h).nrUpdate := by
    rw [State.heartbeatRx_eq hpaired hlink hver hhears hlen, ← hh, State.joinHeartbeat_of_conflict hconflict]
  have hjoining : (s.beatTaken t0 h).role = 1 := (State.beatTaken_role hpaired t0 h).trans hrole
  have hnow := State.beatTaken_now hpaired t0 h
  have hframe := State.beatTaken_frame hpaired t0 h
  obtain ⟨ready, diff, div, hpair⟩ := State.beatTaken_pair hpaired t0 h
  generalize s.beatTaken t0 h = v at *
  have hlast := v.nrUpdate_frame
  have hassert : v.nrUpdate.rd PAIR_CLAIM.ASSERT = s.rd PAIR_CLAIM.ASSERT :=
    (hlast.rd (by decide) (by decide) (by decide)).trans (hframe.rd (by decide) (by decide) (by decide))
  have hheard : v.nrUpdate.pair.heardAt = max s.grid.now t0 := by
    rw [State.nrUpdate_pair, hpair]
    exact if_pos hrole
  have hshown : (v.nrUpdate.rd PAIR_STATUS.NR).testBit 8 = true :=
    (State.nrUpdate_conflict (by rw [hjoining]; decide)).trans hconflict
  rw [heq, State.left_pair, State.left_grid, State.nrUpdate_now, hnow, State.left_rd_of_notMem _ _ (f := PAIR_STATUS.NR) (by decide),
    State.left_rd_of_notMem _ _ (f := PAIR_CLAIM.ASSERT) (by decide)]
  exact ⟨(State.left_rd_of_notMem _ _ (by decide)).trans ((hlast.rd (by decide) (by decide) (by decide)).trans hjoining), hshown,
    v.nrUpdate_rankConflict.trans hconflict, hassert, hheard⟩

/-- Settles O22: what each HELLO and each heartbeat carries, and what a unit does with one. -/
theorem pairFrames : Obligations.PairFrames :=
  ⟨helloIsSent, helloIsTaken, badFrameDiscarded, heartbeatIsSent, heartbeatWithheld, heartbeatIsTaken, joinsBehindActive, linkPayloads, helloStops,
    rankConflictHolds⟩

end Sys2Proof.Machine
